-- ==== Sys2Proof/Word.lean ====
section
/-! DEFINITION. The machine word of R6 (64 bits, bit 63 the most significant) and the byte of R7. -/
namespace Sys2Proof

/-- The device's native word: 64 bits (R6). -/
abbrev Word := BitVec 64

/-- One byte of Plaza SRAM, NVM or a core memory (R7). -/
abbrev Byte := BitVec 8

end Sys2Proof
end

