-- ==== Sys2Proof/Syntax.lean ====
section
/-! DEFINITION. The commands of the HK7256: one constructor of `Instr` per row of spec/opcode_table.json, with
the operand types the rows use. -/
namespace Sys2Proof

/-- The shared status codes of Table 0.4 (R16). -/
inductive Status where
  | ok | busy | waking | stale | retry | abort | full | empty | refused | quarantine | crcError
  deriving DecidableEq, Repr

/-- Where a mode request came from (Table 2.7, REQ_SOURCE). -/
inductive ReqSource where
  | hp | mp | boulevard | rtc
  deriving DecidableEq, Repr

/-- The wake events of chapter 2 that a row names. -/
inductive WakeKind where
  /-- A hall call or car call, kept and dispatched (M6). -/
  | call
  /-- An escalator start request from a Kerb input. -/
  | escalatorStart
  /-- A DISPATCH-class request from the group's DISPATCHER. -/
  | dispatch
  /-- A request to SERVICE. -/
  | request (src : ReqSource)
  deriving DecidableEq, Repr

/-- The two recall triggers (chapter 2, Transitions). -/
inductive RecallSrc where
  | kerbSignal
  | request (src : ReqSource)
  deriving DecidableEq, Repr

/-- The SAFESTOP causes of R52. -/
inductive SafestopCause where
  | kerbFault
  | kerbProgram
  | request (src : ReqSource)
  deriving DecidableEq, Repr

/-- Who issues a queue load action: the host through Q_RELOAD, or an island through ARC_RELOAD (R147). -/
inductive LoadSrc where
  | host
  | island (i : Fin 16)
  deriving DecidableEq, Repr

/-- The two counter-rotating rings of chapter 18. -/
inductive Ring where
  | a | b
  deriving DecidableEq, Repr

/-- A marker: its payload (Table 18.4) and what its trailer carries. -/
structure Marker where
  /-- CYCLE. -/
  cycle : Nat
  /-- T_TX, ns. -/
  tTx : Nat
  /-- CORR, signed, in units of 1/16 ns. -/
  corr16 : Int
  /-- LINEAGE. -/
  lineage : Nat
  /-- MEMBER_VER. -/
  memberVer : Nat
  /-- ACK_CNT of the frame (Table 18.3). -/
  ackCnt : Nat
  /-- HOPS of the frame. -/
  hops : Nat
  deriving DecidableEq, Repr

/-- A Boulevard frame: header, payload and trailer (Tables 18.2 and 18.3). -/
structure BlvFrame where
  /-- TYPE, 4 bits. -/
  typ : Nat
  /-- FLAGS, 4 bits. -/
  flags : Nat
  /-- SRC. -/
  src : Nat
  /-- DST. -/
  dst : Nat
  /-- PORT, 6 bits. -/
  port : Nat
  /-- SEQ, 16 bits. -/
  seq : Nat
  /-- Payload of LEN bytes. -/
  payload : List Byte
  /-- ACK_CNT. -/
  ackCnt : Nat
  /-- ACK_STATUS. -/
  ackStatus : Status
  /-- NACK_NODE. -/
  nackNode : Nat
  /-- HOPS, 9 bits, saturating. -/
  hops : Nat
  deriving DecidableEq, Repr

/-- One entry of a membership record (R451), with what the elections of R452 read. -/
structure Member where
  /-- Node address. -/
  addr : Nat
  /-- DIE_ID, 64 bits. -/
  dieId : Nat
  /-- Groups whose cars the node hosts, 16 bits. -/
  groups : Nat
  /-- Role-table tag (R464), 32 bits. -/
  roleTag : Nat
  /-- The node's centre time is valid. -/
  timeValid : Bool
  /-- LINEAGE of its centre time. -/
  lineage : Nat
  /-- CENTRE_PRIO. -/
  prio : Nat
  deriving DecidableEq, Repr

/-- The ring-B message classes in priority order (Table 18.1). -/
inductive BlvClass where
  | dispatch | audioCue | meter | bulk
  deriving DecidableEq, Repr

/-- Who issues a fabric request: an island, a host window, or one of the device's own engines. -/
inductive Initiator where
  | island (i : Fin 16)
  | window
  | imageLoader
  | decimation
  | consentController
  | logWriter
  deriving DecidableEq, Repr

/-- What the ECC of a memory word shows when it is read (R485). -/
inductive EccEvent where
  | clean | correctable | uncorrectable
  deriving DecidableEq, Repr

/-- The monitored supply rails (R503, Table 20.11). -/
inductive Rail where
  | vddCore | vddSram | vddAon | vddKerb | vddSds | vddhSds | vddaPll | vddaMot
  | vioXspi | vioAon | vioMtr | vioMot | vioIo | vioAud
  deriving DecidableEq, Repr

/-- The consent channels of Table 5.2. -/
inductive Channel where
  | hp | mp | warden | fw
  deriving DecidableEq, Repr

/-- The two ports of chapter 4. -/
inductive Port where
  | hp | mp
  deriving DecidableEq, Repr


/-- The causes of a Kerb fault (R360), and its end. -/
inductive KerbCause where
  | supply | clock | ecc | gone
  deriving DecidableEq, Repr

/-- One read of a car's SSI channel (R263). -/
inductive SsiRead where
  /-- No SSI channel is used. -/
  | unused
  /-- SSI_DATA had not been high for SSI_MONO_US. -/
  | notReady
  /-- The bits clocked, as a number. -/
  | word (w : Nat)
  deriving DecidableEq, Repr

/-- A call at its source (R271). -/
inductive LiftCall where
  /-- Hall call: group, landing, up, side mask. -/
  | hall (g : Fin 16) (landing : Fin 128) (up : Bool) (side : Fin 4)
  /-- Destination call: group, origin, destination, side mask, passengers. -/
  | dest (g : Fin 16) (origin dest : Fin 128) (side : Fin 4) (pass : Fin 256)
  /-- Car call: car, landing, side mask. -/
  | car (c : Fin 8) (landing : Fin 128) (side : Fin 4)
  deriving DecidableEq, Repr

/-- A move slot of a Signal Core bundle (Table 7.4). -/
structure MoveSlot where
  /-- KIND. -/
  kind : Fin 4
  /-- REG. -/
  reg : Fin 16
  /-- PTR. -/
  ptr : Fin 8
  /-- MODE (Table 7.5). -/
  mode : Fin 8
  /-- OFS, a signed 6-bit number as its bits. -/
  ofs : Fin 64
  deriving DecidableEq, Repr

/-- The two move slots of a bundle (Table 7.3). -/
structure Moves where
  /-- FORM 1: the second slot is a store slot; FORM 0: a load slot. -/
  store : Bool
  /-- The X-slot load, or the load slot. -/
  x : MoveSlot
  /-- The Y-slot load, or the store slot. -/
  y : MoveSlot
  deriving DecidableEq, Repr

/-- What a bring-up step meets outside the device as it completes (Table 2.5). -/
structure BringIn where
  /-- The FAIL_CODE of a step that fails on what the model does not compute: clocks, tests, configuration image; none = passes. -/
  fail : Option Nat
  /-- Step 6: the islands that failed, one bit each. Step 7: the Kerb test that failed. -/
  detail : Nat
  /-- Step 4: the scrub corrected a word (STATUS_BRINGUP.NVM_CORRECTED). -/
  corrected : Bool
  /-- Step 8: the writes of the Rhoun configuration, by Plaza address. -/
  config : List (Nat × Word)
  /-- Step 8: the phrase directory as read from flash (R389). -/
  phrases : List Byte
  /-- Step 8: the model file of each Forecast slot as read from flash; none = a read error (R418). -/
  models : List (Nat × Option (List Byte))
  /-- Step 8: the Forecast streams the configuration lists: slot, stream and index (R423). -/
  streams : List (Nat × Nat × Nat)
  deriving DecidableEq, Repr

/-- The commands (spec/opcode_table.json), one constructor per row. -/
inductive Instr where
  /-- MODE_REQUEST (R35): A keyed MODE_REQ write with CANCEL = 0 requests the mode in TARGET, and the device acts on it as the transition matrix and Table 2.3 decide. -/
  | modeRequest (src : ReqSource) (key target : Nat)
  /-- MODE_REQ_CANCEL (R36): A keyed MODE_REQ write with CANCEL = 1 ends the pending deferred request with REQ_RESULT at REFUSED. -/
  | modeReqCancel (src : ReqSource) (key : Nat)
  /-- WAKE_EVENT (R34): A call, an escalator start, a DISPATCH request or a request to SERVICE in NIGHT takes M6 to SERVICE and keeps the waking call. -/
  | wakeEvent (k : WakeKind)
  /-- RECALL_TRIGGER (R37): The Kerb RECALL signal or a request to RECALL takes the device to RECALL, or takes M20 from UPDATE, and cancels later pending requests. -/
  | recallTrigger (src : RecallSrc)
  /-- SAFESTOP_CAUSE (R52): A Kerb internal fault, the Kerb program fault output or a request to SAFESTOP takes M16. -/
  | safestopCause (c : SafestopCause)
  /-- DEFERRED_REQUEST_ENTRY (R36): When the conditions of a pending deferred request hold, the device enters the target mode and REQ_RESULT reads OK. -/
  | deferredRequestEntry
  /-- DEFERRED_REQUEST_TIMEOUT (R36): The time limit of a pending deferred request runs out, and the request ends with REQ_RESULT at REFUSED. -/
  | deferredRequestTimeout
  /-- SCHEDULE_NIGHT_START (R46): The RTC reaches NIGHT_START_MIN with SCHEDULE_EN set, and the device raises a deferred NIGHT request. -/
  | scheduleNightStart
  /-- SCHEDULE_NIGHT_END (R46): The RTC reaches NIGHT_END_MIN with SCHEDULE_EN set, which is a wake event. -/
  | scheduleNightEnd
  /-- POWER_ON_RESET (R57): Power-on resets the device, and a cold bring-up follows with ENTRY_CAUSE 0x01. -/
  | powerOnReset
  /-- RESET_N (R34): RESET_N held low resets the device from any mode into a cold bring-up. -/
  | resetN
  /-- SUPPLY_LOSS (R57): On loss of supply, NVM keeps every record whose write completed, and no record is torn. -/
  | supplyLoss
  /-- BRINGUP_STEP_COMPLETE (R39): A bring-up step completes and the next step starts, or the target mode is entered by M2 or M3 after step 9. -/
  | bringupStepComplete (x : BringIn)
  /-- WAKE_AFTER_DORMANT_ENTRY (R51): A wake that fell during the DORMANT entry sequence takes M1 at once when that sequence completes. -/
  | wakeAfterDormantEntry
  /-- WAKE_N_EDGE (R41): A falling edge on WAKE_N in DORMANT starts M1. -/
  | wakeNEdge (pin : Fin 2)
  /-- RTC_TIME_WRITE (R46): A committed RTC_TIME write sets SECONDS, clears FRACTION and sets VALID. -/
  | rtcTimeWrite (w : Word)
  /-- RTC_MINUTE_SYNC (R46): At each whole minute of valid centre time, the device sets the RTC from the calendar time. -/
  | rtcMinuteSync
  /-- TARGET_MHZ_WRITE (R70): A CLK_CORE_CTL.TARGET_MHZ write is rounded and clamped, and starts a PLL_CORE relock when the value changes. -/
  | targetMhzWrite (mhz : BitVec 16)
  /-- FAMILY_WRITE (R70): A CLK_AUDIO_CTL.FAMILY write that changes the value relocks PLL_AUDIO if it runs, and otherwise applies at its next start. -/
  | familyWrite (family : Fin 2)
  /-- PLL_LOCK (R61): A PLL sets LOCKED during the relock sequence, and the staircase timing starts. -/
  | pllLock (p : Fin 5)
  /-- RELOCK_STAIR_STEP (R61): The relock staircase moves the consumer clock to the next divider, and at ÷1 clears CHANGING and sets the change-done bit. -/
  | relockStairStep (p : Fin 5)
  /-- MON_TRIP (R63): A frequency monitor finds over-frequency, moves the consumers to the bypass clock, sets MON_TRIP and relocks. -/
  | monTrip (p : Fin 5)
  /-- LOCK_LOSS (R63): LOCKED falls after it has risen, and the device bypasses the consumers, sets LOCK_LOSS and relocks. -/
  | lockLoss (p : Fin 5)
  /-- LOCK_SEARCH_TIMEOUT (R63): A relock lock search has not set LOCKED within 40 µs, which counts as a loss of lock. -/
  | lockSearchTimeout (p : Fin 5)
  /-- AON_DUTY_TICK (R507): The 10 ms AON duty tick raises channel 63 of SC_0 and, in NIGHT, starts a duty burst. -/
  | aonDutyTick
  /-- FENCE_DRAIN_TIMEOUT (R64): 1 µs into a POWER_DOWN or UPDATE fence, the gatekeeper answers still-open accepted requests with ABORT. -/
  | fenceDrainTimeout (island : Fin 16)
  /-- FENCE_RELEASE (R68): The device releases a fence in order: clock, reset, program reload, On, acceptance of requests, latched doorbells. -/
  | fenceRelease (island : Fin 16)
  /-- FABRIC_TIMEOUT (R67): A fabric initiator's timeout expires, the request completes with ABORT, and the target island is latched as faulted. -/
  | fabricTimeout (initiator target : Fin 16)
  /-- ISL_CTL_RESTART (R72): A keyed ISL_CTL RESTART fences, resets and releases the named islands. -/
  | islCtlRestart (key : BitVec 8) (islands : BitVec 16)
  /-- ISL_CTL_HOLD (R72): A keyed ISL_CTL HOLD fences and resets the named islands and leaves them Held in reset. -/
  | islCtlHold (key : BitVec 8) (islands : BitVec 16)
  /-- ISL_CTL_RELEASE (R72): A keyed ISL_CTL RELEASE brings Held islands out of reset. -/
  | islCtlRelease (key : BitVec 8) (islands : BitVec 16)
  /-- ISLAND_FAULT (R79): An island fault sets its fault bits, fences it with cause RESET and restarts it within the restart limit. -/
  | islandFault (island : Fin 16)
  /-- REFCLK_LOSS (R80): Loss of REFCLK moves every PLL consumer to AON_RC and marks the islands as faulted. -/
  | refclkLoss
  /-- REFCLK_RELOCK (R80): After REFCLK has run for 10 ms, the device relocks each PLL and clears the faults it raised. -/
  | refclkRelock
  /-- ISLAND_WATCHDOG_EXPIRY (R81): An island watchdog expires, which is an island fault. -/
  | islandWatchdogExpiry (island : Fin 16)
  /-- AON_WATCHDOG_EXPIRY (R81): The AON watchdog expires, and the device resets with ENTRY_CAUSE 0x03. -/
  | aonWatchdogExpiry
  /-- SC_WDOG_SERVICE (R81): An SC_WDOG write with KEY 0xA9 and SERVICE = 1 restarts the core's watchdog count. -/
  | scWdogService (c : Fin 8) (w : Word)
  /-- READ (R85): A READ frame snapshots one register and returns its data and status in the same frame. -/
  | read (p : Port) (addr : BitVec 16) (crc : BitVec 8) (committed copyBad : Bool)
  /-- READ_BURST (R95): A READ_BURST frame reads successive offsets, each word with its own snapshot, commit and status. -/
  | readBurst (p : Port) (addr : BitVec 16) (crc : BitVec 8) (words : Nat) (copyBad : List Nat)
  /-- READ_REPEAT (R95): A READ_REPEAT frame reads one offset repeatedly until HP_CS_N rises. -/
  | readRepeat (p : Port) (addr : BitVec 16) (crc : BitVec 8) (words : Nat) (copyBad : List Nat)
  /-- WRITE (R90): A WRITE frame commits one 64-bit value, and the device reports the outcome in the status byte. -/
  | write (p : Port) (keys : Bool) (addr : BitVec 16) (data : Word) (crc : BitVec 8)
  /-- WRITE_BURST (R95): A WRITE_BURST frame writes successive offsets, each word committed separately. -/
  | writeBurst (p : Port) (keys : Bool) (addr : BitVec 16) (words : List (Word × BitVec 8))
  /-- WRITE_REPEAT (R95): A WRITE_REPEAT frame writes one offset repeatedly until HP_CS_N rises. -/
  | writeRepeat (p : Port) (keys : Bool) (addr : BitVec 16) (words : List (Word × BitVec 8))
  /-- UNLISTED_OPCODE (R87): A frame with an unlisted opcode returns data 0 with REFUSED and increments FRAME_ERR_CNT. -/
  | unlistedOpcode (p : Port) (opcode : BitVec 8) (addr : BitVec 16) (crc : BitVec 8)
  /-- FRAME_TRUNCATED (R107): HP_CS_N rises inside a word, which drops that word and increments TRUNC_CNT. -/
  | frameTruncated (p : Port)
  /-- HP_CFG_WRITE (R94): A write of HP_CFG.CRC_EN changes the frame layout from the next frame. -/
  | hpCfgWrite (p : Port) (w : Word)
  /-- WIN_ADDR_WRITE (R96): A committed WIN_ADDR_n write abandons the prefetch in progress and issues a new prefetch. -/
  | winAddrWrite (n : Fin 4) (w : Word)
  /-- WIN_DATA_READ (R97): A WIN_DATA_n read returns the prefetch buffer with OK, STALE, RETRY or ABORT, and may advance the window. -/
  | winDataRead (n : Fin 4) (committed : Bool)
  /-- WIN_DATA_WRITE (R98): A WIN_DATA_n write is posted to the window's write buffer, or refused when the buffer is busy or the target is scoped. -/
  | winDataWrite (n : Fin 4) (w : Word)
  /-- WIN_PREFETCH_COMPLETE (R96): A window prefetch completes, and the window records PF_RESULT. -/
  | winPrefetchComplete (n : Fin 4)
  /-- WIN_POSTED_WRITE_COMPLETE (R99): A posted window write completes, the window records WR_RESULT, and a new prefetch is issued. -/
  | winPostedWriteComplete (n : Fin 4)
  /-- WIN_RETRY_REISSUE (R99): A window request answered RETRY is reissued every 1 µs. -/
  | winRetryReissue (n : Fin 4)
  /-- WIN_REQUEST_TIMEOUT (R99): A window request outstanding for 64 µs completes with RETRY and sets ATTN_CAUSE.WINDOW. -/
  | winRequestTimeout (n : Fin 4)
  /-- REGISTER_WRITE (R12): A committed write to a register with no row of its own acts field by field according to each field's access code. -/
  | registerWrite (p : Port) (off : BitVec 12) (w : Word)
  /-- CONSENT_PROPOSE (R114): A CONSENT_PROPOSE write with WITHDRAW = 0 is checked, latches the digest, locks the range and enters HASHING. -/
  | consentPropose (ch : Channel) (w : Word)
  /-- CONSENT_WITHDRAW (R120): A CONSENT_PROPOSE write with WITHDRAW = 1 from the proposer ends the scope's proposal with reason WITHDRAWN. -/
  | consentWithdraw (ch : Channel) (w : Word)
  /-- HASHING_COMPLETE (R116): The hash, and for FIRMWARE the image checks, complete, and the proposal ends or enters PENDING with its window started. -/
  | hashingComplete (scope : Fin 8)
  /-- CONSENT_CONFIRM (R117): A CONSENT_CONFIRM write that matches one PENDING tag over another channel starts COMMITTING. -/
  | consentConfirm (ch : Channel) (tag : Word)
  /-- CONSENT_WINDOW_EXPIRY (R119): A PENDING proposal's window runs out, and the proposal ends with reason EXPIRED. -/
  | consentWindowExpiry (scope : Fin 8)
  /-- COMMIT_POINT (R121): A commit completes in one NVM transaction that replaces the content and appends the commit record, or it is abandoned. -/
  | commitPoint (scope : Fin 8) (flashOk : Bool)
  /-- RESERVE (R140): A producer RESERVE reads a slot index and address and advances RESV, or returns FULL. -/
  | reserve (q : Fin 16384)
  /-- PUBLISH (R142): A producer PUBLISH N makes N reserved entries visible once the producer's earlier writes have completed. -/
  | publish (q : Fin 16384) (n : BitVec 16)
  /-- ENQUEUE (R140): An 8-byte ENQUEUE writes the entry, reserves its slot and publishes it in one operation. -/
  | enqueue (q : Fin 16384) (w : Word)
  /-- DEQUEUE (R145): A consumer DEQUEUE delivers the entry at READ with OK, ABORT or the REDELIVERED flag, or returns EMPTY. -/
  | dequeue (q : Fin 16384)
  /-- ACK (R140): A consumer ACK N advances HEAD and frees the acknowledged slots. -/
  | ack (q : Fin 16384) (n : BitVec 16)
  /-- ARM (R144): An ARM write arms the consumer or producer doorbell and evaluates its condition at once. -/
  | arm (q : Fin 16384) (cons prod : Bool)
  /-- STATUS (R140): A STATUS read returns the queue's state, last outcomes, frozen flags, AVAIL and FREE. -/
  | status (q : Fin 16384)
  /-- HOST_ENQUEUE (R149): A Q_DOORBELL ENQUEUE takes Q_ENTRY, reserves a slot and starts the host copy. -/
  | hostEnqueue
  /-- HOST_ENQUEUE_COPY_COMPLETE (R149): The host ENQUEUE copy into the slot completes, and the entry is published. -/
  | hostEnqueueCopyComplete
  /-- TAKE (R149): A Q_DOORBELL TAKE whose ARG equals PEEK_SEQ advances READ past the held entry. -/
  | take (arg : BitVec 16)
  /-- HOST_ACK (R149): A Q_DOORBELL ACK performs the consumer ACK for the host. -/
  | hostAck (n : BitVec 16)
  /-- TAKE_ACK (R149): A Q_DOORBELL TAKE_ACK performs TAKE and then ACK 1. -/
  | takeAck (arg : BitVec 16)
  /-- ARM_CONSUMER (R149): A Q_DOORBELL ARM consumer arms the selected queue's consumer doorbell. -/
  | armConsumer
  /-- ARM_PRODUCER (R149): A Q_DOORBELL ARM producer arms the selected queue's producer doorbell. -/
  | armProducer
  /-- Q_SEL_WRITE (R148): A committed Q_SEL write selects a queue for the host block and triggers a Q_PEEK fill. -/
  | qSelWrite (w : Word)
  /-- Q_PEEK_FILL (R148): The device fills Q_PEEK and the PEEK fields with the entry at READ of a host-consumed queue. -/
  | qPeekFill
  /-- LOAD (R147): A LOAD action reads a descriptor and replaces the configuration and all four counters. -/
  | load (src : LoadSrc)
  /-- CONFIG (R147): A CONFIG action reads a descriptor and replaces the configuration only. -/
  | config (src : LoadSrc)
  /-- REINIT (R147): A host REINIT replaces the configuration, zeroes the counters and clears quarantine. -/
  | reinit (src : LoadSrc)
  /-- QUEUE_DISABLE (R147): A DISABLE action writes the counters back and takes the queue out of service. -/
  | queueDisable (src : LoadSrc)
  /-- REWIND (R147): A REWIND action applies the consumer rewind of R145 to a host-consumed queue. -/
  | rewind (src : LoadSrc)
  /-- CLEAR_STATS (R147): A CLEAR_STATS action zeroes the queue's statistics. -/
  | clearStats (src : LoadSrc)
  /-- LOAD_ACTION_COMPLETE (R147): A queue load action ends, and RELOAD_RESULT shows its outcome. -/
  | loadActionComplete
  /-- QUARANTINE (R152): An uncorrectable ECC error in a queue's state or descriptor read quarantines the queue. -/
  | quarantine (q : Fin 16384)
  /-- CMAC (R165): CMAC adds the exact complex product to an accumulator. -/
  | cmac (c : Fin 8) (an : Fin 4) (da db : Fin 16) (mv : Moves)
  /-- CMSU (R173): CMSU subtracts the complex product from an accumulator. -/
  | cmsu (c : Fin 8) (an : Fin 4) (da db : Fin 16) (mv : Moves)
  /-- CMACJ (R173): CMACJ adds the product with the conjugate of Db to an accumulator. -/
  | cmacj (c : Fin 8) (an : Fin 4) (da db : Fin 16) (mv : Moves)
  /-- CMUL (R173): CMUL replaces an accumulator with the complex product. -/
  | cmul (c : Fin 8) (an : Fin 4) (da db : Fin 16) (mv : Moves)
  /-- FTAP (R171): FTAP performs CMAC and moves the X-slot load word up the delay line. -/
  | ftap (c : Fin 8) (an : Fin 4) (da db : Fin 16) (mv : Moves)
  /-- RMAC2 (R173): RMAC2 performs a dual real multiply-accumulate. -/
  | rmac2 (c : Fin 8) (an : Fin 4) (da db : Fin 16) (mv : Moves)
  /-- RMSU2 (R173): RMSU2 performs a dual real multiply-subtract. -/
  | rmsu2 (c : Fin 8) (an : Fin 4) (da db : Fin 16) (mv : Moves)
  /-- RMUL2 (R173): RMUL2 replaces an accumulator with a dual real product. -/
  | rmul2 (c : Fin 8) (an : Fin 4) (da db : Fin 16) (mv : Moves)
  /-- FTAPR (R171): FTAPR performs RMAC2 with the delay-line move. -/
  | ftapr (c : Fin 8) (an : Fin 4) (da db : Fin 16) (mv : Moves)
  /-- CLRA (R173): CLRA clears an accumulator. -/
  | clra (c : Fin 8) (an : Fin 4) (mv : Moves)
  /-- MOVA (R173): MOVA loads an accumulator from the Q1.31 parts of Da. -/
  | mova (c : Fin 8) (an : Fin 4) (da : Fin 16) (mv : Moves)
  /-- ADDA (R173): ADDA adds one accumulator to another. -/
  | adda (c : Fin 8) (an am : Fin 4) (mv : Moves)
  /-- SUBA (R173): SUBA subtracts one accumulator from another. -/
  | suba (c : Fin 8) (an am : Fin 4) (mv : Moves)
  /-- SHRA (R173): SHRA shifts both accumulator parts right arithmetically. -/
  | shra (c : Fin 8) (an : Fin 4) (sb : Fin 16) (md : BitVec 8) (mv : Moves)
  /-- SHLA (R173): SHLA shifts both accumulator parts left. -/
  | shla (c : Fin 8) (an : Fin 4) (sb : Fin 16) (md : BitVec 8) (mv : Moves)
  /-- MOVD (R166): MOVD stores the rounded and saturated pair of an accumulator into Dd. -/
  | movd (c : Fin 8) (dd : Fin 16) (an : Fin 4) (mv : Moves)
  /-- MOVDL (R166): MOVDL stores the saturated Q1.63 real part into Dd. -/
  | movdl (c : Fin 8) (dd : Fin 16) (an : Fin 4) (mv : Moves)
  /-- MOVDI (R166): MOVDI stores the saturated Q1.63 imaginary part into Dd. -/
  | movdi (c : Fin 8) (dd : Fin 16) (an : Fin 4) (mv : Moves)
  /-- ADD (R173): ADD performs a 64-bit add and sets the flags. -/
  | add (c : Fin 8) (dd da db : Fin 16) (mv : Moves)
  /-- SUB (R173): SUB performs a 64-bit subtract and sets the flags. -/
  | sub (c : Fin 8) (dd da db : Fin 16) (mv : Moves)
  /-- AND (R173): AND performs a 64-bit AND and sets the flags. -/
  | scAnd (c : Fin 8) (dd da db : Fin 16) (mv : Moves)
  /-- OR (R173): OR performs a 64-bit OR and sets the flags. -/
  | scOr (c : Fin 8) (dd da db : Fin 16) (mv : Moves)
  /-- XOR (R173): XOR performs a 64-bit XOR and sets the flags. -/
  | xor (c : Fin 8) (dd da db : Fin 16) (mv : Moves)
  /-- SHL (R173): SHL performs a 64-bit left shift and sets the flags. -/
  | shl (c : Fin 8) (dd da sb : Fin 16) (md : BitVec 8) (mv : Moves)
  /-- SHR (R173): SHR performs a 64-bit logical right shift and sets the flags. -/
  | shr (c : Fin 8) (dd da sb : Fin 16) (md : BitVec 8) (mv : Moves)
  /-- SAR (R173): SAR performs a 64-bit arithmetic right shift and sets the flags. -/
  | sar (c : Fin 8) (dd da sb : Fin 16) (md : BitVec 8) (mv : Moves)
  /-- CMP (R173): CMP sets the flags of Da − Db and writes no destination. -/
  | cmp (c : Fin 8) (da db : Fin 16) (mv : Moves)
  /-- MOV (R173): MOV copies Da to Dd and sets the flags. -/
  | mov (c : Fin 8) (dd da : Fin 16) (mv : Moves)
  /-- ADDS2 (R173): ADDS2 adds each Q1.31 part with saturation. -/
  | adds2 (c : Fin 8) (dd da db : Fin 16) (mv : Moves)
  /-- SUBS2 (R173): SUBS2 subtracts each Q1.31 part with saturation. -/
  | subs2 (c : Fin 8) (dd da db : Fin 16) (mv : Moves)
  /-- NEG2 (R173): NEG2 negates each part with saturation. -/
  | neg2 (c : Fin 8) (dd da : Fin 16) (mv : Moves)
  /-- CONJ (R173): CONJ negates the imaginary part with saturation. -/
  | conj (c : Fin 8) (dd da : Fin 16) (mv : Moves)
  /-- SWAP (R173): SWAP exchanges the two 32-bit halves of a D register. -/
  | swap (c : Fin 8) (dd da : Fin 16) (mv : Moves)
  /-- MULI (R173): MULI forms the signed 64-bit product of the low halves and sets the flags. -/
  | muli (c : Fin 8) (dd da db : Fin 16) (mv : Moves)
  /-- MAXI (R172): MAXI keeps the larger value together with its IDX and increments IDX. -/
  | maxi (c : Fin 8) (dd da : Fin 16) (abs : Bool) (mv : Moves)
  /-- MINI (R172): MINI keeps the smaller value together with its IDX and increments IDX. -/
  | mini (c : Fin 8) (dd da : Fin 16) (abs : Bool) (mv : Moves)
  /-- ABS2 (R173): ABS2 takes the saturating absolute value of each part. -/
  | abs2 (c : Fin 8) (dd da : Fin 16) (mv : Moves)
  /-- NOP (R173): A NOP in a compute slot or a control bundle does nothing. -/
  | nop (c : Fin 8) (ctl : Bool) (mv : Moves)
  /-- LD (R161): LD loads a 64-bit word into Dd, visible three bundles later. -/
  | ld (c : Fin 8) (y : Bool) (m : MoveSlot)
  /-- LDH (R161): LDH loads 32 bits into Dd[31:0] and zeroes the upper half. -/
  | ldh (c : Fin 8) (y : Bool) (m : MoveSlot)
  /-- ST (R161): ST stores a D register to memory. -/
  | st (c : Fin 8) (m : MoveSlot)
  /-- STA (R166): STA stores the rounded and saturated Q1.31 pair of an accumulator. -/
  | sta (c : Fin 8) (m : MoveSlot)
  /-- STL (R166): STL stores the saturated Q1.63 real part of an accumulator. -/
  | stl (c : Fin 8) (m : MoveSlot)
  /-- BR (R174): BR branches on a condition to PC plus an offset, after two delay slots. -/
  | br (c : Fin 8) (cond : Fin 16) (ofs : BitVec 24)
  /-- BRD (R174): BRD branches on a condition to the bundle index in Dd, after two delay slots. -/
  | brd (c : Fin 8) (cond dd : Fin 16)
  /-- CALL (R185): CALL writes LR ← PC + 3 and branches, after two delay slots. -/
  | call (c : Fin 8) (ofs : BitVec 24)
  /-- RET (R185): RET returns to LR after two delay slots. -/
  | ret (c : Fin 8)
  /-- RETI (R192): RETI checks and pops a stack frame and restores the interrupted state. -/
  | reti (c : Fin 8)
  /-- RETS (R193): RETS waits for shadow results, leaves the shadow bank and resumes at SPC. -/
  | rets (c : Fin 8)
  /-- REP (R168): REP pushes a repeat level over the following LEN bundles, COUNT times. -/
  | rep (c : Fin 8) (yld reg : Bool) (count : BitVec 24) (lenM1 : BitVec 16)
  /-- LDI (R174): LDI loads a 32-bit immediate into part of Dd. -/
  | ldi (c : Fin 8) (dd : Fin 16) (part : Fin 4) (imm : BitVec 32)
  /-- MOVAR (R177): MOVAR moves between Dd and a special register. -/
  | movar (c : Fin 8) (fromSpecial : Bool) (dd : Fin 16) (code : Fin 64)
  /-- WAIT (R197): WAIT stops issue until a channel is both pending and unmasked. -/
  | wait (c : Fin 8)
  /-- HALT (R198): HALT stops the core in state HALTED. -/
  | halt (c : Fin 8)
  /-- TRAP (R196): TRAP raises the TRAP exception at the boundary after it. -/
  | trap (c : Fin 8) (num : BitVec 8)
  /-- SYNC (R174): SYNC stalls until every posted fabric store has completed. -/
  | sync (c : Fin 8)
  /-- ICINV (R170): ICINV invalidates the loop cache. -/
  | icinv (c : Fin 8)
  /-- BUS_ABORT (R175): An ABORT reply to a posted Plaza store raises BUS_ABORT at the bundle then in issue. -/
  | busAbort (c : Fin 8)
  /-- CORE_FABRIC_RETRY (R175): The core's port reissues a request answered RETRY 1 µs later, until the initiator timeout. -/
  | coreFabricRetry (c : Fin 8)
  /-- FAST_INTERRUPT_ENTRY (R188): A takeable FAST channel enters the shadow bank in one cycle at its vector. -/
  | fastInterruptEntry (c : Fin 8)
  /-- HELD_INTERRUPT_ENTRY (R189): A takeable HELD channel checks the stack, pushes a frame, raises IPRIO and enters its vector. -/
  | heldInterruptEntry (c : Fin 8)
  /-- HOLD_OVERRUN (R195): The hold-off count reaches HOLD_LIMIT, sets OVERRUN and asserts HOLD_OVERRUN to Kerb. -/
  | holdOverrun (c : Fin 8)
  /-- WAIT_WAKE (R197): A pending unmasked channel ends a WAIT, and the device takes that channel or continues. -/
  | waitWake (c : Fin 8)
  /-- BREAKPOINT_MATCH (R201): An enabled breakpoint matches before its bundle, and the core stops in DEBUG_HALTED. -/
  | breakpointMatch (c : Fin 8)
  /-- SC_IRQ_RAISE (R186): An SC_IRQ_RAISE write sets IPEND bits. -/
  | scIrqRaise (c : Fin 8) (w : Word)
  /-- SC_CTL_HALT (R201): An SC_CTL HALT stops the core at a boundary in DEBUG_HALTED. -/
  | scCtlHalt (c : Fin 8) (key : BitVec 8)
  /-- SC_CTL_RUN (R198): An SC_CTL RUN continues a halted core. -/
  | scCtlRun (c : Fin 8) (key : BitVec 8)
  /-- SC_CTL_STEP (R201): An SC_CTL STEP issues one bundle and halts again. -/
  | scCtlStep (c : Fin 8) (key : BitVec 8)
  /-- SC_CTL_RESTART (R203): An SC_CTL RESTART resets the core with its memories kept. -/
  | scCtlRestart (c : Fin 8) (key : BitVec 8)
  /-- SC_DBG_DATA_ACCESS (R201): An SC_DBG_DATA access reaches the selected register only in DEBUG_HALTED. -/
  | scDbgDataAccess (c : Fin 8) (w : Option Word)
  /-- BLOCK_DELIVERY (R208): At the end of each 10 ms block, the NIGHT island delivers the block to its owning core. -/
  | blockDelivery (endTime : Nat) (inputBits : List (List Bool)) (ecc : Bool)
  /-- BLOCK_DELIVERY_RETRY (R208): A delivery answered RETRY is repeated every 1 ms, and a block is dropped when a fifth needs its place. -/
  | blockDeliveryRetry
  /-- INPUT_STUCK (R226): An input held at one value for 65,536 modulator clocks is stuck, and its samples are zeroed. -/
  | inputStuck (idx : Fin 160)
  /-- MQ_SEL_WRITE (R221): An MQ_SEL write copies the selected point's record into the quick view. -/
  | mqSelWrite (w : Word)
  /-- QUICK_VIEW_UPDATE (R221): After each second, unless HOLD is 1, the quick view is copied from the point record. -/
  | quickViewUpdate
  /-- HARMONICS_START (R217): An MQ_HARM write with START = 1 starts a harmonic analysis over K cycles, or is refused. -/
  | harmonicsStart (w : Word)
  /-- HARMONICS_DONE (R217): A harmonic analysis publishes its result area, sets RESULT to OK and raises HARM_DONE. -/
  | harmonicsDone
  /-- PULSE_EDGE (R233): A debounced pulse edge is counted in FWD or REV by the channel's mode. -/
  | pulseEdge (k : Fin 64) (bHigh : Bool) (t : Nat)
  /-- PULSE_FREQ_GATE (R233): A FREQ channel's gate ends, and the device reports the frequency by reciprocal counting. -/
  | pulseFreqGate (k : Fin 64)
  /-- PULSE_SECOND_CREDIT (R234): Each second, the net pulse quantity is credited to its ledger after paying off REV_DEBT. -/
  | pulseSecondCredit
  /-- LEDGER_SECOND_CREDIT (R244): Each second, the device credits each ledger's share of its points' electricity increments. -/
  | ledgerSecondCredit
  /-- HEAT_SECOND (R242): Each second, each heat calculator credits ΔQ to HEAT or COOL, or adds to LOW_DT_VOL. -/
  | heatSecond
  /-- MBUS_POLL_ROUND (R237): A poll round starts, and the master reads every assigned slave in ascending index. -/
  | mbusPollRound (m : Fin 2)
  /-- MBUS_REPLY (R236): An M-Bus reply is checked, parsed and credited as an increment, or rejected. -/
  | mbusReply (m : Fin 2) (frame : List Byte)
  /-- MBUS_REPLY_TIMEOUT (R235): No reply within the time limit leads to a retry, or to a failed poll after RETRIES. -/
  | mbusReplyTimeout (m : Fin 2)
  /-- SECONDARY_SEARCH (R239): An MBUS_CFG write with SEARCH set suspends polling and searches the segment by wildcard selection. -/
  | secondarySearch (m : Fin 2) (w : Word)
  /-- SECONDARY_SEARCH_DONE (R239): A secondary search ends, posts SEARCH_DONE and appends record 0x0316. -/
  | secondarySearchDone (m : Fin 2) (found : List Word)
  /-- SPI_SCAN (R240): Every SCAN_MS the sensor SPI channels are run and temperatures converted. -/
  | spiScan (replies : List (List Byte))
  /-- LEDGER_NVM_COMMIT (R243): Every 10 s, each ledger in use is committed to NVM. -/
  | ledgerNvmCommit
  /-- DEMAND_INTERVAL_END (R247): At a demand interval end, the demand is computed and replaces MD if higher. -/
  | demandIntervalEnd
  /-- DAILY_SNAPSHOT (R248): A DAILY snapshot, with a PERIOD snapshot on BILL_DAY, is taken at its local instant. -/
  | dailySnapshot
  /-- INTERIM_SNAPSHOT (R253): An LDG_CTL SNAP write requests an INTERIM snapshot, or ends BUSY while one is being written. -/
  | interimSnapshot (w : Word)
  /-- SNAPSHOT_WRITE_COMPLETE (R249): A snapshot's header is written valid, record 0x0310 is appended and a SNAPSHOT notice is posted. -/
  | snapshotWriteComplete
  /-- LDG_APPLY (R251): An LDG_CTL APPLY checks every ledger table, or refuses with REFUSE_AT. -/
  | ldgApply (w : Word)
  /-- LDG_APPLY_TAKE_EFFECT (R251): Checked ledger tables take effect at the next whole second, and record 0x0311 is appended. -/
  | ldgApplyTakeEffect
  /-- CAR_SERVO_INSTANT (R282): At each car servo instant, the device reads SSI, checks position sources, exchanges set-points and publishes car status. -/
  | carServoInstant (c : Fin 8) (inc : Int) (bothEdges : Bool) (ssi : SsiRead) (ageNs : Nat)
  /-- DZ_EDGE (R265): A door-zone rising edge while moving corrects the car position or raises POS_LOST. -/
  | dzEdge (c : Fin 8) (rising : Bool) (sinceServoNs : Nat)
  /-- LEARN_RUN_COMPLETE (R266): A learn run checks its captures and writes the new floor table, or fails. -/
  | learnRunComplete (c : Fin 8)
  /-- CALL_REGISTRATION (R271): A call from any source is registered, merged or dropped, and acknowledged within 10 ms. -/
  | callRegistration (source : Nat) (seq : Option Nat) (call : LiftCall)
  /-- DISPATCH_CYCLE (R273): At each 100 ms of centre time, reports are sampled and the dispatcher assigns calls and parking. -/
  | dispatchCycle (cutOff : Bool)
  /-- ASSIGNMENT_RECEIVED (R285): A car checks a received assignment against commitment and accepts or refuses it. -/
  | assignmentReceived (c : Fin 8) (id : BitVec 32) (landing : Fin 128) (park : Bool)
  /-- TRIP_ENERGY_READ (R276): 200 ms after level, the car reads the drive meter point again and updates its energy per metre. -/
  | tripEnergyRead (c : Fin 8)
  /-- TRIP_TIMEOUT (R289): A trip longer than 1.5 × TIME_TO_GO + 5 s raises TRIP_TIMEOUT. -/
  | tripTimeout (c : Fin 8)
  /-- DRIVE_STATUS_PDO (R278): A drive status PDO arrives, and the absence of one for three periods raises DRIVE_COMM. -/
  | driveStatusPdo (c : Fin 8) (pdo : Option (Bool × Option Nat))
  /-- ISLAND_DISPATCH_FALLBACK (R279): After FALLBACK_MS without a group DISPATCHER, each device dispatches its own cars. -/
  | islandDispatchFallback (g : Fin 16)
  /-- CAR_REPORT (R280): A received CAR_REPORT message gives the dispatcher the state and stop list of each car. -/
  | carReport (payload : List Byte)
  /-- DISPATCH_CALL (R280): A received CALL message registers remote hall or destination calls at the dispatcher. -/
  | dispatchCall (payload : List Byte)
  /-- ASSIGN (R280): A received ASSIGN message applies the records for the device's own cars and indicators. -/
  | assign (payload : List Byte)
  /-- CALL_CLEAR (R280): A received CALL_CLEAR message extinguishes the call's acknowledgement. -/
  | callClear (payload : List Byte)
  /-- DEMAND_COUNTS (R280): A received DEMAND_COUNTS message supplies the step's call counts for the DEMAND streams. -/
  | demandCounts (payload : List Byte)
  /-- CAR_CALL (R283): A host CAR_CALL command registers a car call. -/
  | carCall (c : Fin 8) (landing : Fin 65536) (side : Fin 256) (req : BitVec 64)
  /-- HALL_CALL (R283): A host HALL_CALL command registers a hall call. -/
  | hallCall (c : Fin 8) (landing : Fin 65536) (side dir : Fin 256) (req : BitVec 64)
  /-- OUT_OF_SERVICE (R283): An OUT_OF_SERVICE command serves the committed stop, completes a door cycle and enters OFF. -/
  | outOfService (c : Fin 8) (req : BitVec 64)
  /-- IN_SERVICE (R283): An IN_SERVICE command returns an OFF or cleared-FAULT car to service. -/
  | inService (c : Fin 8) (req : BitVec 64)
  /-- LEARN_RUN (R266): A LEARN_RUN command starts the learn run of a car. -/
  | learnRun (c : Fin 8) (req : BitVec 64)
  /-- CORRECTION_RUN (R267): A CORRECTION_RUN command re-references the car at the bottom terminal. -/
  | correctionRun (c : Fin 8) (req : BitVec 64)
  /-- TEST_RUN (R287): In INSPECTION, a TEST_RUN moves the car to a landing at INSP_SPEED. -/
  | testRun (c : Fin 8) (landing : Fin 65536) (req : BitVec 64)
  /-- INSP_MOVE (R287): In INSPECTION, an INSP_MOVE moves the car up or down, or stops it. -/
  | inspMove (c : Fin 8) (dir : Fin 256) (req : BitVec 64)
  /-- LIFT_APPLY (R281): A LIFT_CTL APPLY checks and applies the car and group tables, or refuses or defers. -/
  | liftApply (w : Word)
  /-- FLOOR_RELOAD (R268): A FLOOR_RELOAD copies the live floor table and writes back trims, or is deferred. -/
  | floorReload (w : Word)
  /-- ENERGY_RESET (R281): An ENERGY_RESET clears the named cars' E_UP, E_DN and their valid flags. -/
  | energyReset (w : Word)
  /-- LIFT_DEFERRED_ACTION (R268): A deferred FLOOR_RELOAD or APPLY takes effect when the car is next PARKED or OFF. -/
  | liftDeferredAction
  /-- PERMIT_FALL (R261): A Kerb permit falls, the Kerb state wins, and the car enters HELD or the axis stops. -/
  | permitFall (c : Fin 8) (p : Fin 4)
  /-- PERMIT_RISE (R261): A permit returns to 1, and the held car resumes to the same stop. -/
  | permitRise (c : Fin 8) (p : Fin 4)
  /-- MOVE_ABS (R298): MOVE_ABS sets the target and replans from the present state. -/
  | moveAbs (a : Fin 28) (flags : Fin 256) (vcap : BitVec 32) (target req : BitVec 64)
  /-- MOVE_REL (R298): MOVE_REL moves the target by TARGET and replans. -/
  | moveRel (a : Fin 28) (flags : Fin 256) (vcap : BitVec 32) (target req : BitVec 64)
  /-- STOP (R299): STOP decelerates the axis on its ramp to STOPPED and keeps the target. -/
  | stop (a : Fin 28) (req : BitVec 64)
  /-- RESUME (R299): RESUME replans to the kept target from rest. -/
  | resume (a : Fin 28) (req : BitVec 64)
  /-- HOME (R306): HOME runs the homing sequence against the reference input. -/
  | home (a : Fin 28) (vcap : BitVec 32) (arg req : BitVec 64)
  /-- GEAR_ON (R304): GEAR_ON anchors M0 and Y0 and engages the gear law. -/
  | gearOn (a : Fin 28) (flags : Fin 256) (arg req : BitVec 64)
  /-- GEAR_OFF (R305): GEAR_OFF leaves the gear and plans to TARGET from the present velocity. -/
  | gearOff (a : Fin 28) (flags : Fin 256) (vcap : BitVec 32) (target req : BitVec 64)
  /-- ENABLE (R296): ENABLE takes a DISABLED axis to IDLE at its present position. -/
  | enable (a : Fin 28) (req : BitVec 64)
  /-- DISABLE (R296): DISABLE stops the axis by FAULT_ACTION and then disables it. -/
  | disable (a : Fin 28) (req : BitVec 64)
  /-- FAULT_CLEAR (R312): FAULT_CLEAR returns a FAULTED axis to STOPPED once the cause has gone. -/
  | faultClear (a : Fin 28) (req : BitVec 64)
  /-- SET_POS (R296): SET_POS sets a door axis's position and POS_VALID. -/
  | setPos (a : Fin 28) (target req : BitVec 64)
  /-- ESC_CLEAR (R308): ESC_CLEAR clears the latched escalator trips whose conditions have gone. -/
  | escClear (c : Fin 4) (req : BitVec 64)
  /-- AXIS_SERVO_INSTANT (R298): At each servo instant, the axis plan or gear law gives the set-point and the status record is published. -/
  | axisServoInstant (a : Fin 24)
  /-- HOMING_TIMEOUT (R306): Homing exceeds HOME_TIMEOUT_MS or its back-off, and the axis faults with HOME_FAIL. -/
  | homingTimeout (a : Fin 24)
  /-- LIMIT_INPUT_ACTIVE (R301): A limit input becomes active while its axis moves toward it, and the axis stops by the input's action. -/
  | limitInputActive (a : Fin 24) (hi level : Bool) (sinceServoNs : Nat)
  /-- ESCALATOR_EVALUATION (R308): Every 1 ms each escalator channel is checked, and trips are latched to Kerb. -/
  | escalatorEvaluation (c : Fin 4) (counts : Int) (left right : Nat) (ms : Nat)
  /-- MOT_APPLY (R309): A MOT_CTL APPLY checks and applies the axis and escalator records, or refuses or defers. -/
  | motApply (w : Word)
  /-- MOT_APPLY_DEFERRED (R309): A deferred motion APPLY takes effect when every affected axis is DISABLED, IDLE or STOPPED. -/
  | motApplyDeferred
  /-- TABLE_INVALIDATE (R310): TABLE_INVALIDATE re-reads the named axes' cam and microstep tables at their next servo instant. -/
  | tableInvalidate (w : Word)
  /-- TABLE_ADDRESS_UPDATE (R318): Every 1 µs the door drive reads the microstep entry and forms the phase set-points. -/
  | tableAddressUpdate (a : Fin 16) (j : Fin 250)
  /-- COMPARATOR_EDGE (R319): A chopper comparator crossing turns a phase off or on and adapts the offset after each cycle. -/
  | comparatorEdge (a : Fin 16) (phaseB above : Bool) (delayNs atNs : Nat)
  /-- CHOP_DEAD_TIME_END (R317): The dead time ends, and the chopper switches the leg's other gate on. -/
  | chopDeadTimeEnd (a : Fin 16) (phaseB : Bool) (atNs : Nat)
  /-- CHOP_BLANK_END (R319): Blanking ends, and the chopper enters ON. -/
  | chopBlankEnd (a : Fin 16) (phaseB above : Bool)
  /-- CHOP_FAST_DECAY_END (R323): FAST_DECAY ends after a sign change, and the phase turns on in the new direction. -/
  | chopFastDecayEnd (a : Fin 16) (phaseB : Bool)
  /-- SENSE_OFFSET_MEASURE (R321): The device searches the DAC for each phase's sense offset with the gates off. -/
  | senseOffsetMeasure (a : Fin 16) (ofsA ofsB : Int)
  /-- OFFSET_CAL (R321): A DD_CTL OFFSET_CAL measures the sense offsets of the named DISABLED axes. -/
  | offsetCal (w : Word)
  /-- STANDSTILL_REDUCTION (R324): After HOLD_DELAY_MS without an address change, the current scale ramps down to HOLD_PCT. -/
  | standstillReduction (a : Fin 16)
  /-- BEMF_SAMPLE (R325): In a SLOW interval, the phase's BEMF is sampled and paired for the estimator. -/
  | bemfSample (a : Fin 16) (phaseB : Bool) (code : Fin 4096) (atNs : Nat)
  /-- ESTIMATE (R326): Each servo period, the estimator forms the load angle and EMF ratio and judges STALL. -/
  | estimate (a : Fin 16)
  /-- NUDGE_RESUME (R329): NUDGE_PAUSE_MS after an obstruction stop in NUDGE, the axis resumes to its kept target. -/
  | nudgeResume (a : Fin 16)
  /-- BRIDGE_FAULT (R334): A bridge fault sets every gate of the axis OFF, raises DRIVE and posts an event. -/
  | bridgeFault (a : Fin 16) (code : Fin 5) (present : Bool)
  /-- DD_APPLY (R331): A DD_CTL APPLY checks and applies the door axis records, or refuses or defers. -/
  | ddApply (w : Word)
  /-- DD_APPLY_DEFERRED (R331): A deferred door APPLY takes effect when the axis is IDLE or DISABLED. -/
  | ddApplyDeferred
  /-- TRIP_PATH_TRIP (R341): A trip path's condition becomes true, and its mask of outputs and permits drops within 40 ns. -/
  | tripPathTrip (kin : BitVec 192)
  /-- KIN_FILTER_CHANGE (R339): A sampled level held for FILTER_US changes the input's filtered value. -/
  | kinFilterChange (n : Fin 192) (v : Bool)
  /-- DISCREPANCY_LATCH (R340): A pair that disagrees for DISC_MS latches its discrepancy. -/
  | discrepancyLatch (k : Fin 96)
  /-- KERB_SCAN (R344): A 20 µs scan latches the inputs, runs the program, commits O, P and C, and does housekeeping. -/
  | kerbScan (rb : BitVec 32)
  /-- KERB_NOP (R346): The Kerb NOP does nothing. -/
  | kerbNop
  /-- KERB_LD (R346): The Kerb LD loads the operand into ACC. -/
  | kerbLd (n : Bool) (space : Fin 16) (idx : Fin 4096)
  /-- KERB_AND (R346): The Kerb AND ANDs the operand into ACC. -/
  | kerbAnd (n : Bool) (space : Fin 16) (idx : Fin 4096)
  /-- KERB_OR (R346): The Kerb OR ORs the operand into ACC. -/
  | kerbOr (n : Bool) (space : Fin 16) (idx : Fin 4096)
  /-- KERB_XOR (R346): The Kerb XOR XORs the operand into ACC. -/
  | kerbXor (n : Bool) (space : Fin 16) (idx : Fin 4096)
  /-- KERB_PUSH (R346): PUSH pushes ACC and loads the operand. -/
  | kerbPush (n : Bool) (space : Fin 16) (idx : Fin 4096)
  /-- ANDP (R346): ANDP pops and ANDs with ACC. -/
  | andp
  /-- ORP (R346): ORP pops and ORs with ACC. -/
  | orp
  /-- KERB_ST (R346): The Kerb ST stores ACC to a writable bit. -/
  | kerbSt (n : Bool) (space : Fin 16) (idx : Fin 4096)
  /-- KERB_SET (R346): SET sets the target bit if ACC is 1. -/
  | kerbSet (space : Fin 16) (idx : Fin 4096)
  /-- KERB_RST (R346): RST clears the target bit if ACC is 1. -/
  | kerbRst (space : Fin 16) (idx : Fin 4096)
  /-- TIM (R348): TIM updates a TON, TOF or TP timer and loads its done into ACC. -/
  | tim (idx : Fin 256)
  /-- EDGR (R346): EDGR gives 1 on a rising change since the detector's last execution. -/
  | edgr (idx : Fin 512)
  /-- EDGF (R346): EDGF gives 1 on a falling change since the detector's last execution. -/
  | edgf (idx : Fin 512)
  /-- CTU (R349): CTU counts up if ACC is 1 and loads done. -/
  | ctu (idx : Fin 128)
  /-- CTD (R349): CTD counts down if ACC is 1 and loads done. -/
  | ctd (idx : Fin 128)
  /-- CRES (R349): CRES resets a counter if ACC is 1. -/
  | cres (idx : Fin 128)
  /-- JMPC (R346): JMPC jumps forward if ACC is 1. -/
  | jmpc (t : Fin 4096)
  /-- JMP (R346): JMP jumps forward always. -/
  | jmp (t : Fin 4096)
  /-- CUE (R351): A Kerb CUE with ACC = 1 posts a priority-7 cue entry. -/
  | cue (car : BitVec 8) (cue : Fin 4096)
  /-- FRST (R340): FRST clears a D-space latch where its clearing condition holds. -/
  | frst (idx : Fin 4096)
  /-- END (R346): END ends the program for the scan. -/
  | kerbEnd
  /-- READBACK_FAULT (R343): A readback differing for READBACK_US latches an output fault and drives the output low. -/
  | readbackFault (n : Fin 32) (level : Bool)
  /-- OUTPUT_TEST_PULSE (R343): Every 100 ms an energised TEST output is pulsed low for 1 µs and its readback is checked. -/
  | outputTestPulse (n : Fin 32) (sawOff : Bool)
  /-- PROGRAM_EXCHANGE (R353): At the first scan boundary after a KERB_PROGRAM commit, the program is replaced and its instances matched. -/
  | programExchange
  /-- TRIP_PATHS_EXCHANGE (R354): At the first scan boundary after a TRIP_PATHS commit, the trip-path definitions are replaced. -/
  | tripPathsExchange
  /-- KERB_FAULT (R360): A Kerb supply, clock or ECC fault enters FAULT and takes M16 with ENTRY_CAUSE 0x42. -/
  | kerbFault (c : KerbCause)
  /-- COMPARE_FAILURE (R361): A lockstep difference drives every output low, sets KERB_COMPARE and enters FAULT. -/
  | compareFailure (cycle : Fin 160) (unit : Fin 4)
  /-- AUDIO_BLOCK (R369): Each 32-sample block, the device starts due voices, computes voices and mixes the zones. -/
  | audioBlock (first : Nat) (alignNs : Int) (paging : List (List Int)) (feeds : List (Nat × Option (List Byte))) (missed : List Nat)
  /-- KERB_CUE_ENTRY (R385): A Kerb cue entry is resolved at priority 7, deduplicated, and started or merged. -/
  | kerbCueEntry
  /-- LIFT_CUE (R368): A lift controller cue is resolved through the cue table and started. -/
  | liftCue
  /-- START (R386): A START command starts a patch or phrase voice. -/
  | start (kind prio : Fin 256) (id : BitVec 16) (note vel : Fin 256) (zones hold : BitVec 16) (excl : Bool) (t req : BitVec 64)
  /-- RELEASE (R386): A RELEASE command releases the voice named by its HANDLE. -/
  | release (handle : BitVec 32) (req : BitVec 64)
  /-- KILL (R386): A KILL command ramps the voice down and frees it. -/
  | kill (handle : BitVec 32) (req : BitVec 64)
  /-- BS_CUE (R386): A CUE command starts a cue from the cue table. -/
  | bsCue (prio : Fin 256) (cue : BitVec 16) (car : Fin 256) (t req : BitVec 64)
  /-- SET_P (R386): A SET_P command sets modulation sources P0 and P1 of a voice. -/
  | setP (handle : BitVec 32) (p0 p1 : BitVec 16) (req : BitVec 64)
  /-- AUDIO_CUE (R368): A received AUDIO_CUE message is resolved against the local cue table and started. -/
  | audioCue (node : Fin 256) (seq : BitVec 16) (cue : BitVec 16) (car prio : Fin 256) (t : BitVec 64)
  /-- NOTE_ON (R387): A MIDI note on starts a voice on the channel's patch. -/
  | noteOn (ch : Fin 16) (note vel : Fin 128)
  /-- NOTE_OFF (R387): A MIDI note off releases the note, or holds it under sustain. -/
  | noteOff (ch : Fin 16) (note : Fin 128)
  /-- CONTROL_CHANGE (R387): A MIDI CC sets a modulation source, sustain, all sound off or all notes off. -/
  | controlChange (ch : Fin 16) (cc v : Fin 128)
  /-- PROGRAM_CHANGE (R387): A MIDI program change sets the channel's patch. -/
  | programChange (ch : Fin 16) (program : Fin 128)
  /-- CHANNEL_PRESSURE (R387): A MIDI channel pressure message sets source 11. -/
  | channelPressure (ch : Fin 16) (v : Fin 128)
  /-- PITCH_BEND (R387): A MIDI pitch bend sets source 10. -/
  | pitchBend (ch : Fin 16) (v : Fin 16384)
  /-- ACTIVE_SENSING (R387): A MIDI active sensing byte starts the 300 ms check. -/
  | activeSensing
  /-- MIDI_SENSING_TIMEOUT (R387): 300 ms without a byte after active sensing releases every voice of the port. -/
  | midiSensingTimeout
  /-- P7_FIFO_TIMEOUT (R379): A priority-7 start that has waited 2 s in the FIFO is discarded with ABORT. -/
  | p7FifoTimeout
  /-- BS_APPLY (R388): A BS_CTL APPLY checks the Bandstand tables and applies them at the next block. -/
  | bsApply (w : Word)
  /-- WT_INVALIDATE (R390): WT_INVALIDATE re-reads a wavetable's frames at the next block. -/
  | wtInvalidate (w : Word)
  /-- STOP_ALL (R386): STOP_ALL kills every voice of priority 0–5. -/
  | stopAll (w : Word)
  /-- PHRASE_RELOAD (R389): PHRASE_RELOAD re-reads the phrase directory, or waits until no phrase voice sounds. -/
  | phraseReload (w : Word) (dir : List Byte)
  /-- PHRASE_RELOAD_DEFERRED (R389): A deferred PHRASE_RELOAD takes effect when no phrase voice sounds. -/
  | phraseReloadDeferred (dir : List Byte)
  /-- FC_INPUT_ENTRY (R404): A forecast input entry is held as a pending step or discarded as a duplicate. -/
  | fcInputEntry (slot : Fin 16)
  /-- CHUNK_DUE (R404): A slot's chunk falls due, and the device runs batches for every stream with pending steps. -/
  | chunkDue
  /-- BATCH_WRITE_BACK (R405): A batch ends, writes back each row, acknowledges inputs and publishes outputs and flags. -/
  | batchWriteBack
  /-- CREATE (R408): STREAM_CTL CREATE binds and initialises a stream. -/
  | create (stream : Fin 4096) (slot : Fin 16) (source : BitVec 16)
  /-- DELETE (R408): STREAM_CTL DELETE frees a stream. -/
  | delete (stream : Fin 4096)
  /-- STREAM_RESET (R408): STREAM_CTL RESET marks a stream for reset at its next step. -/
  | streamReset (stream : Fin 4096)
  /-- HEAD_RESET (R408): STREAM_CTL HEAD_RESET sets the stream's head to w0. -/
  | headReset (stream : Fin 4096)
  /-- FREEZE (R408): STREAM_CTL FREEZE stops adaptation of a stream. -/
  | freeze (stream : Fin 4096)
  /-- THAW (R408): STREAM_CTL THAW allows adaptation of a stream again. -/
  | thaw (stream : Fin 4096)
  /-- STREAM_CTL_DEFERRED (R408): A waiting STREAM_CTL operation is applied once no chunk including the stream runs. -/
  | streamCtlDeferred
  /-- HEAD_UPDATE (R415): A HEAD_UPDATE entry adjusts the head within the MODEL_LIMITS clamps, or is rejected. -/
  | headUpdate
  /-- FC_APPLY (R409): An FC_CTL APPLY checks and applies the slot records. -/
  | fcApply (w : Word)
  /-- MODEL_LOAD (R418): MODEL_LOAD starts reading a slot's model file from flash. -/
  | modelLoad (w : Word)
  /-- MODEL_LOAD_COMPLETE (R418): A model load passes or fails its checks, and the model takes effect or the old one stays. -/
  | modelLoadComplete (file : Option (List Byte))
  /-- CHECKPOINT (R424): An FC_CTL CHECKPOINT starts writing every stream to flash. -/
  | checkpoint (w : Word)
  /-- CHECKPOINT_INTERVAL (R424): Every INTERVAL_H hours a checkpoint is started. -/
  | checkpointInterval
  /-- CHECKPOINT_WRITE_COMPLETE (R424): A checkpoint write completes, and the new image is marked valid. -/
  | checkpointWriteComplete
  /-- LOAD_POINT (R425): At each channel load point, targets enter, the slew and dither step, and the next width is emitted. -/
  | loadPoint (n : Fin 32)
  /-- PWM_CODE_WRITE (R429): A PWM_CODE_n write gives a target or stages a code. -/
  | pwmCodeWrite (n : Fin 32) (w : Word)
  /-- TIMEBASE_TICK (R430): A timebase tick dequeues one entry for each QUEUE channel, or counts an empty tick. -/
  | timebaseTick (g : Fin 4)
  /-- PWM_LOAD_N_EDGE (R431): A falling edge on PWM_LOAD_N fires its strobe group. -/
  | pwmLoadNEdge (g : Fin 4) (lowNs : Nat)
  /-- STROBE (R431): A PWM_CTL STROBE makes the staged codes of the group's channels their targets. -/
  | strobe (groups : BitVec 4)
  /-- PWM_APPLY (R438): A PWM_CTL APPLY checks and applies the channel records and timebases. -/
  | pwmApply
  /-- PWM_FAULT_CLEAR (R437): A PWM_CTL FAULT_CLEAR restarts faulted channels whose causes have gone. -/
  | pwmFaultClear (channels : BitVec 32)
  /-- GEN_SYNC (R432): GEN_SYNC restarts the named generators at the same load point. -/
  | genSync (channels : BitVec 32)
  /-- MARKER_EMIT (R446): The centre DISPATCHER emits marker c on both rings at each 100 µs of centre time. -/
  | markerEmit
  /-- MARKER_RECEIVE (R449): A received marker steers the centre-time counter and updates TIME_VALID. -/
  | markerReceive (r : Ring) (m : Marker) (residence16 : Nat)
  /-- KERB_FRAME_INSERT (R446): Each member inserts its KERB frame on ring A once per link cycle. -/
  | kerbFrameInsert
  /-- KERB_FRAME_RECEIVE (R459): An accepted KERB frame updates the OR of the centre kerb bits. -/
  | kerbFrameReceive (f : BlvFrame) (pcrcOk : Bool)
  /-- FRAME_ACCEPT (R448): A passing message frame is accepted and stamped, queued to its port or refused, and forwarded. -/
  | frameAccept (r : Ring) (f : BlvFrame) (firstPass pcrcOk fcsOk : Bool)
  /-- HOP_DELAY_MEASURE (R449): Once a second each node measures its upstream hop delay on each ring. -/
  | hopDelayMeasure (r : Ring) (roundTripPs turnaroundPs : Nat)
  /-- CONTROL_JOIN (R451): The centre DISPATCHER admits a node's JOIN and publishes a membership record. -/
  | controlJoin (m : Member)
  /-- MEMBERSHIP_EFFECTIVE (R451): A membership record takes effect after its lap, and the elections run. -/
  | membershipEffective (members : List Member) (prios : List Nat)
  /-- GROUP_DISPATCHER_CHANGE (R452): A group DISPATCHER change takes effect at a 100 ms boundary at least 10 ms after the lap. -/
  | groupDispatcherChange
  /-- TURN (R457): In its turn, a member sends one ring-B frame of the highest-priority pending class. -/
  | turn
  /-- FRAME_RETURN (R457): A sender's frame returns, and the message ends or is resent, or is dropped after RETRY_LIMIT. -/
  | frameReturn (c : BlvClass) (ackStatus : Status) (ackCnt : BitVec 8)
  /-- BREAK_DETECT (R460): A lost ring input enters HEALING, sends BREAK and wraps the port. -/
  | breakDetect (portQ : Bool)
  /-- BREAK_RECEIVE (R460): A received BREAK puts the node into HEALING. -/
  | breakReceive (r : Ring)
  /-- UNWRAP (R461): After a lost input has carried markers for 1 s, the rings separate at a named cycle. -/
  | unwrap
  /-- BLV_APPLY (R463): A BLV_CTL APPLY checks and applies the port table and BLV_TXQ. -/
  | blvApply
  /-- BLV_LEAVE (R463): A BLV_CTL LEAVE stops joining and only forwards. -/
  | blvLeave
  /-- BLV_JOIN (R451): A BLV_CTL JOIN sends a JOIN with NODE_ADDR. -/
  | blvJoin
  /-- BLV_CONFIRM (R455): On the WARDEN, a BLV_CONFIRM write sends the tag to the target as a BULK message. -/
  | blvConfirm (target : BitVec 8)
  /-- WARDEN_CONFIRM_RECEIVE (R455): The target applies a received WARDEN tag as a CONSENT_CONFIRM over channel WARDEN and replies. -/
  | wardenConfirmReceive (src : BitVec 8) (tag : Word)
  /-- WARDEN_REPLY_RECEIVE (R455): The WARDEN shows the target's reply in BLV_CONFIRM_RES. -/
  | wardenReplyReceive (src : BitVec 8) (status : Status) (reason : BitVec 4)
  /-- METER_ROLLUP_SEND (R456): Each minute every member sends its meter roll-up to the CONCENTRATOR. -/
  | meterRollupSend
  /-- METER_ROLLUP_RECEIVE (R456): The CONCENTRATOR stores received roll-up rows under the sequence lock. -/
  | meterRollupReceive (src : BitVec 8) (payload : List Byte)
  /-- FABRIC_READ (R485): A fabric read is served, with correctable errors corrected and uncorrectable ones answered ABORT. -/
  | fabricRead (init : Initiator) (addr : BitVec 40) (ecc : EccEvent)
  /-- FABRIC_WRITE (R475): A fabric write is handled by its region's write class. -/
  | fabricWrite (init : Initiator) (addr : BitVec 40) (strobe : BitVec 8) (data : Word)
  /-- BYPASS (R497): The JTAG BYPASS instruction selects the bypass register. -/
  | bypass
  /-- IDCODE (R497): The JTAG IDCODE instruction returns the revision's IDCODE. -/
  | idcode
  /-- SAMPLE_PRELOAD (R497): The JTAG SAMPLE/PRELOAD instruction samples and preloads the boundary register. -/
  | samplePreload (balls : List Bool) (shiftIn : List Bool)
  /-- EXTEST (R497): EXTEST drives the boundary in BRINGUP or SAFESTOP with both keys asserted, and otherwise acts as BYPASS. -/
  | extest (keys : Bool)
  /-- CLAMP (R497): CLAMP holds the outputs under the same conditions as EXTEST. -/
  | clamp (keys : Bool)
  /-- HIGHZ (R497): HIGHZ floats the outputs under the same conditions as EXTEST. -/
  | highz (keys : Bool)
  /-- SUPPLY_MONITOR_ALARM (R503): A rail monitor alarm acts as an island fault, a REFCLK loss, a Kerb fault or a device reset, by rail. -/
  | supplyMonitorAlarm (r : Rail) (aonLost : Bool)
  /-- RAIL_CHECK_TIMEOUT (R504): A rail not in range 180 µs after its PWR_EN lowers all enables and holds the device in reset. -/
  | railCheckTimeout
  /-- RAIL_RETRY (R504): 100 ms after a failed rail check, the power-up sequence is repeated. -/
  | railRetry
  /-- MDIO_POLL (R496): Every 10 ms, or on a low BLV_INT_N, the device reads PHY basic status. -/
  | mdioPoll (portQ : Bool) (status : BitVec 16) (sync : Bool)
  /-- TIME_PPS (R496): TIME_PPS rises at each whole second and stays high for 10 ms. -/
  | timePps
  /-- SUPPLY_ALARM_CLEAR (R503): A rail monitor alarm clears, so KERB or the affected island's ISLAND_ACTIVE bit can clear and the VDDA_PLL relock wait can begin. -/
  | supplyAlarmClear (r : Rail)
  /-- STUCK_INPUT_END (R226): A stuck modulator input changes value again, so its fault ends, INPUT_FAULT clears and the 0x0303 end record is appended. -/
  | stuckInputEnd (idx : Fin 160)
  /-- TIME_VALID_LOSS (R450): One second passes without a marker and TIME_VALID becomes 0. -/
  | timeValidLoss
  /-- TAP_RESET (R497): A TAP reset by TRST_N low or by TMS leaves EXTEST, CLAMP or HIGHZ, which resets the device into a cold bring-up. -/
  | tapReset
  deriving DecidableEq, Repr

end Sys2Proof
end

