-- ==== Sys2Proof/Machine/Basic.lean ====
section
/-! DEFINITION. Bit fields of a 64-bit register word, saturating and modular counters, tables indexed by a
number, and byte-addressed little-endian memory held as a canonical list of cells (R6, R7). -/
namespace Sys2Proof.Machine

/-! ### Bit fields -/

/-- Bits `[hi:lo]` of a word, as a number (R6's numbering). -/
def bits (w : Word) (hi lo : Nat) : Nat := (w.toNat / 2 ^ lo) % 2 ^ (hi + 1 - lo)

/-- Bit `i` of a word. -/
def bit (w : Word) (i : Nat) : Bool := w.toNat.testBit i

/-- Bits `[hi:lo]` of a word, as a two's-complement number. -/
def sbits (w : Word) (hi lo : Nat) : Int :=
  let n := bits w hi lo
  if n < 2 ^ (hi - lo) then (n : Int) else (n : Int) - (2 ^ (hi + 1 - lo) : Nat)

/-- A register word made of fields, each given by its lowest bit and its value. -/
def packWord (fs : List (Nat × Nat)) : Word :=
  BitVec.ofNat 64 (fs.foldl (fun a p => a + p.2 * 2 ^ p.1) 0)

/-- 1 for true and 0 for false. -/
def b2n (b : Bool) : Nat := if b then 1 else 0

/-- A list of Booleans as a bit mask, the first element in bit 0. -/
def maskOf (l : List Bool) : Nat := l.foldr (fun b a => b2n b + 2 * a) 0

/-- The numbers below `n` whose bit is set in `m`. -/
def setBitsBelow (n m : Nat) : List Nat := (List.range n).filter (fun i => m.testBit i)

/-- The two's-complement value of the low `w` bits of `n`. -/
def toSigned (w n : Nat) : Int :=
  let m := n % 2 ^ w
  if 2 * m < 2 ^ w then (m : Int) else (m : Int) - (2 ^ w : Nat)

/-- The low `w` bits of an integer, as a number. -/
def ofSigned (w : Nat) (i : Int) : Nat := (i % (2 ^ w : Nat)).toNat

/-- Set or clear bit `i` of a mask held as a number. -/
def setBitN (m i : Nat) (b : Bool) : Nat :=
  if m.testBit i = b then m else if b then m + 2 ^ i else m - 2 ^ i

/-! ### Counters -/

/-- A saturating counter of `w` bits, incremented. -/
def satInc (w n : Nat) : Nat := if n + 1 < 2 ^ w then n + 1 else 2 ^ w - 1

/-- A value limited to what `w` bits hold. -/
def satTo (w n : Nat) : Nat := if n < 2 ^ w then n else 2 ^ w - 1

/-- The difference of two free-running 32-bit counters (R136). -/
def sub32 (a b : Nat) : Nat := (a % 2 ^ 32 + (2 ^ 32 - b % 2 ^ 32)) % 2 ^ 32

/-- A free-running 32-bit counter advanced by `n`. -/
def add32 (a n : Nat) : Nat := (a + n) % 2 ^ 32

/-- Ceiling division. -/
def ceilDiv (a b : Nat) : Nat := (a + b - 1) / b

/-- A value brought into an interval. -/
def clampInt (lo hi x : Int) : Int := if x < lo then lo else if hi < x then hi else x

/-- A value brought into an interval of naturals. -/
def clampNat (lo hi x : Nat) : Nat := if x < lo then lo else if hi < x then hi else x

/-! ### Tables indexed by a number -/

/-- Element `i` of a fixed table, or `d` beyond its end. -/
def vget {α : Type} {n : Nat} (v : Vector α n) (i : Nat) (d : α) : α :=
  if h : i < n then v[i] else d

/-- Change element `i` of a fixed table; beyond its end nothing changes. -/
def vmod {α : Type} {n : Nat} (v : Vector α n) (i : Nat) (f : α → α) : Vector α n :=
  if h : i < n then v.set i (f v[i]) else v

/-- Replace element `i` of a fixed table. -/
def vput {α : Type} {n : Nat} (v : Vector α n) (i : Nat) (x : α) : Vector α n :=
  vmod v i (fun _ => x)

/-- Look a key up in a sparse table. -/
def tget {α : Type} : List (Nat × α) → Nat → Option α
  | [], _ => none
  | (k, x) :: t, i => if k = i then some x else tget t i

/-- Store under a key in a sparse table kept in rising key order. -/
def tput {α : Type} (i : Nat) (x : α) : List (Nat × α) → List (Nat × α)
  | [] => [(i, x)]
  | (k, y) :: t => if i < k then (i, x) :: (k, y) :: t else if i = k then (i, x) :: t else (k, y) :: tput i x t

/-- Remove a key from a sparse table. -/
def tdel {α : Type} (i : Nat) (t : List (Nat × α)) : List (Nat × α) := t.filter (fun p => p.1 ≠ i)

/-- Look up a key with a default. -/
def tgetD {α : Type} (t : List (Nat × α)) (i : Nat) (d : α) : α := (tget t i).getD d

/-- Insert a number into a rising list without repeats. -/
def insNat (i : Nat) : List Nat → List Nat
  | [] => [i]
  | k :: t => if i < k then i :: k :: t else if i = k then k :: t else k :: insNat i t

/-! ### Memory -/

/-- Byte-addressed memory: the listed cells in strictly rising address order; an unlisted address reads as
`memFill`. -/
abbrev Memory := List Host.Cell

/-- What a byte that nothing has written reads as. DESIGN CHOICE, log entry 3. -/
def memFill : Byte := 0

/-- Whether a cell list is canonical above an address: strictly rising and no cell equal to the fill. -/
def Memory.wfFrom : Nat → Memory → Bool
  | _, [] => true
  | lo, (a, b) :: t => decide (lo ≤ a) && (b != memFill) && Memory.wfFrom (a + 1) t

/-- The canonical form of a memory. -/
def Memory.wf (m : Memory) : Bool := Memory.wfFrom 0 m

/-- One byte. -/
def Memory.read : Memory → Nat → Byte
  | [], _ => memFill
  | (k, b) :: t, a => if k = a then b else Memory.read t a

/-- Store a byte known not to be the fill. -/
def Memory.put (a : Nat) (b : Byte) : Memory → Memory
  | [] => [(a, b)]
  | (k, c) :: t => if a < k then (a, b) :: (k, c) :: t else if a = k then (a, b) :: t else (k, c) :: Memory.put a b t

/-- Forget a byte, so that it reads as the fill. -/
def Memory.erase (a : Nat) : Memory → Memory
  | [] => []
  | (k, c) :: t => if a < k then (k, c) :: t else if a = k then t else (k, c) :: Memory.erase a t

/-- Store one byte, keeping the canonical form. -/
def Memory.write (m : Memory) (a : Nat) (b : Byte) : Memory :=
  if b = memFill then m.erase a else m.put a b

/-- `n` bytes from `a`, little-endian (R7), as a number. -/
def Memory.readN (m : Memory) (a : Nat) : Nat → Nat
  | 0 => 0
  | n + 1 => (m.read a).toNat + 256 * Memory.readN m (a + 1) n

/-- Store `n` bytes from `a`, little-endian (R7). -/
def Memory.writeN (m : Memory) (a : Nat) : Nat → Nat → Memory
  | 0, _ => m
  | n + 1, v => Memory.writeN (m.write a (BitVec.ofNat 8 v)) (a + 1) n (v / 256)

/-- A 64-bit word. -/
def Memory.readW (m : Memory) (a : Nat) : Word := BitVec.ofNat 64 (m.readN a 8)

/-- Store a 64-bit word. -/
def Memory.writeW (m : Memory) (a : Nat) (w : Word) : Memory := m.writeN a 8 w.toNat

/-- `n` bytes from `a` as a list. -/
def Memory.bytes (m : Memory) (a n : Nat) : List Byte := (List.range n).map (fun i => m.read (a + i))

/-- Store a list of bytes from `a`. -/
def Memory.writeBytes (m : Memory) (a : Nat) : List Byte → Memory
  | [] => m
  | b :: t => Memory.writeBytes (m.write a b) (a + 1) t

/-- Forget every byte of `[lo, hi)`. -/
def Memory.clear (m : Memory) (lo hi : Nat) : Memory := m.filter (fun c => c.1 < lo || hi ≤ c.1)

/-- The little-endian bytes of a number. -/
def leBytes : Nat → Nat → List Byte
  | 0, _ => []
  | n + 1, v => BitVec.ofNat 8 v :: leBytes n (v / 256)

/-- The number a little-endian byte list spells. -/
def ofLeBytes : List Byte → Nat
  | [] => 0
  | b :: t => b.toNat + 256 * ofLeBytes t

/-- `n` bytes of a payload from offset `o`, as a number (bytes beyond its end read 0). -/
def le (p : List Byte) (o n : Nat) : Nat := ofLeBytes ((p.drop o).take n)

/-- Whether `n` bytes of a payload from offset `o` are all zero. -/
def zeroBytes (p : List Byte) (o n : Nat) : Bool := ((p.drop o).take n).all (· == 0)

end Sys2Proof.Machine
end

