-- ==== Sys2Proof/Machine/Sha.lean ====
section
/-! DEFINITION. SHA-256 (used by R114, R125, R127, R248), over a list of bytes. -/
namespace Sys2Proof.Machine

/-- The round constants of SHA-256. -/
def shaK : List (BitVec 32) :=
  [0x428a2f98, 0x71374491, 0xb5c0fbcf, 0xe9b5dba5, 0x3956c25b, 0x59f111f1, 0x923f82a4, 0xab1c5ed5,
   0xd807aa98, 0x12835b01, 0x243185be, 0x550c7dc3, 0x72be5d74, 0x80deb1fe, 0x9bdc06a7, 0xc19bf174] ++
  [0xe49b69c1, 0xefbe4786, 0x0fc19dc6, 0x240ca1cc, 0x2de92c6f, 0x4a7484aa, 0x5cb0a9dc, 0x76f988da,
   0x983e5152, 0xa831c66d, 0xb00327c8, 0xbf597fc7, 0xc6e00bf3, 0xd5a79147, 0x06ca6351, 0x14292967] ++
  [0x27b70a85, 0x2e1b2138, 0x4d2c6dfc, 0x53380d13, 0x650a7354, 0x766a0abb, 0x81c2c92e, 0x92722c85,
   0xa2bfe8a1, 0xa81a664b, 0xc24b8b70, 0xc76c51a3, 0xd192e819, 0xd6990624, 0xf40e3585, 0x106aa070] ++
  [0x19a4c116, 0x1e376c08, 0x2748774c, 0x34b0bcb5, 0x391c0cb3, 0x4ed8aa4a, 0x5b9cca4f, 0x682e6ff3,
   0x748f82ee, 0x78a5636f, 0x84c87814, 0x8cc70208, 0x90befffa, 0xa4506ceb, 0xbef9a3f7, 0xc67178f2]

/-- The eight working words. -/
structure ShaH where
  a : BitVec 32
  b : BitVec 32
  c : BitVec 32
  d : BitVec 32
  e : BitVec 32
  f : BitVec 32
  g : BitVec 32
  h : BitVec 32
  deriving DecidableEq, Repr

/-- The initial hash value. -/
def ShaH.init : ShaH :=
  { a := 0x6a09e667, b := 0xbb67ae85, c := 0x3c6ef372, d := 0xa54ff53a, e := 0x510e527f, f := 0x9b05688c,
    g := 0x1f83d9ab, h := 0x5be0cd19 }

/-- One compression round. -/
def shaRound (s : ShaH) (k w : BitVec 32) : ShaH :=
  let s1 := s.e.rotateRight 6 ^^^ s.e.rotateRight 11 ^^^ s.e.rotateRight 25
  let ch := (s.e &&& s.f) ^^^ (~~~s.e &&& s.g)
  let t1 := s.h + s1 + ch + k + w
  let s0 := s.a.rotateRight 2 ^^^ s.a.rotateRight 13 ^^^ s.a.rotateRight 22
  let maj := (s.a &&& s.b) ^^^ (s.a &&& s.c) ^^^ (s.b &&& s.c)
  { a := t1 + (s0 + maj), b := s.a, c := s.b, d := s.c, e := s.d + t1, f := s.e, g := s.f, h := s.g }

/-- The message schedule, newest word first, extended `n` words. -/
def shaExtend : Nat → List (BitVec 32) → List (BitVec 32)
  | 0, w => w
  | n + 1, w =>
    let w15 := w.getD 14 0
    let w2 := w.getD 1 0
    let s0 := w15.rotateRight 7 ^^^ w15.rotateRight 18 ^^^ (w15 >>> (3 : Nat))
    let s1 := w2.rotateRight 17 ^^^ w2.rotateRight 19 ^^^ (w2 >>> (10 : Nat))
    shaExtend n ((w.getD 15 0 + s0 + w.getD 6 0 + s1) :: w)

/-- The big-endian 32-bit words of a byte list, `n` of them. -/
def beWords : Nat → List Byte → List (BitVec 32)
  | 0, _ => []
  | n + 1, l =>
    BitVec.ofNat 32 ((l.getD 0 0).toNat * 16777216 + (l.getD 1 0).toNat * 65536 + (l.getD 2 0).toNat * 256
      + (l.getD 3 0).toNat) :: beWords n (l.drop 4)

/-- Compress one 64-byte block. -/
def shaBlock (s : ShaH) (blk : List Byte) : ShaH :=
  let ws := (shaExtend 48 (beWords 16 blk).reverse).reverse
  let r := (List.zip shaK ws).foldl (fun t p => shaRound t p.1 p.2) s
  { a := s.a + r.a, b := s.b + r.b, c := s.c + r.c, d := s.d + r.d, e := s.e + r.e, f := s.f + r.f,
    g := s.g + r.g, h := s.h + r.h }

/-- Compress `n` blocks. -/
def shaBlocks : Nat → ShaH → List Byte → ShaH
  | 0, s, _ => s
  | n + 1, s, l => shaBlocks n (shaBlock s (l.take 64)) (l.drop 64)

/-- The big-endian bytes of a number, `n` of them. -/
def beBytes (n v : Nat) : List Byte := (leBytes n v).reverse

/-- The padded message. -/
def shaPad (msg : List Byte) : List Byte :=
  let z := (119 - msg.length % 64) % 64
  msg ++ (0x80 : Byte) :: List.replicate z 0 ++ beBytes 8 (8 * msg.length)

/-- The digest words of a message. -/
def shaWords (msg : List Byte) : ShaH :=
  let p := shaPad msg
  shaBlocks (p.length / 64) ShaH.init p

/-- The 32 digest bytes of a message, byte 0 first. -/
def sha256 (msg : List Byte) : List Byte :=
  let h := shaWords msg
  beBytes 4 h.a.toNat ++ beBytes 4 h.b.toNat ++ beBytes 4 h.c.toNat ++ beBytes 4 h.d.toNat ++
  beBytes 4 h.e.toNat ++ beBytes 4 h.f.toNat ++ beBytes 4 h.g.toNat ++ beBytes 4 h.h.toNat

/-- A digest as one number whose little-endian bytes are the digest's bytes 0 to 31. -/
def shaN (msg : List Byte) : Nat := ofLeBytes (sha256 msg)

end Sys2Proof.Machine
end

