-- ==== Sys2Proof/Machine/Factory.lean ====
section
/-! DEFINITION. The NVM content a device leaves Zenham with (R128, R219, R419, R439, R464; areas by Table 19.5). -/
namespace Sys2Proof.Machine
open Sys2Proof

/-- The cells of a byte string from an address; bytes equal to the fill are not listed. -/
def cellsOf : Nat → List Byte → Memory
  | _, [] => []
  | a, b :: t => if b = memFill then cellsOf (a + 1) t else (a, b) :: cellsOf (a + 1) t

/-- SAFE_VALUES: every safe code 0 (R439). -/
def factorySafe : List Byte := leBytes 4 0x53564C31 ++ leBytes 2 1

/-- One MODEL_LIMITS record (R419). -/
def factoryLimit (adapt : Nat) : List Byte :=
  leBytes 2 adapt ++ leBytes 2 0x0800 ++ leBytes 2 1024 ++ leBytes 2 64 ++ leBytes 2 0x0100 ++ leBytes 6 0

/-- MODEL_LIMITS: ADAPT_EN for DEMAND and LEAK, KINDs 1 and 2 (R409, R419). -/
def factoryLimits : List Byte :=
  leBytes 4 0x4D4C4D31 ++ leBytes 2 1 ++ leBytes 10 0 ++ [0, 1, 1, 0, 0].flatMap factoryLimit

/-- BOULEVARD_ROLES: no roles, every DISP_PRIO 1 (R464). -/
def factoryRoles : List Byte := leBytes 4 0x424C5231 ++ leBytes 2 1 ++ leBytes 58 0 ++ List.replicate 256 1

/-- CONSENT_CONFIG: WINDOW_S 120, every B_MASK 7 (R128). -/
def factoryConsent : List Byte := leBytes 4 0x5A434346 ++ leBytes 2 120 ++ leBytes 2 0 ++ List.replicate 8 7

/-- METER_SEAL: GAIN 1.0 and MCLK = input / 20 in every input record, the rest 0 (R219). -/
def factorySeal : List Byte :=
  leBytes 4 0x4D534C31 ++ leBytes 2 1 ++ leBytes 58 0 ++
    (List.range 160).flatMap (fun k => leBytes 4 0x40000000 ++ leBytes 10 0 ++ [BitVec.ofNat 8 (k / 20), 0])

/-- Plaza space of a new device: its NVM payload areas. -/
def factoryMem : Memory :=
  cellsOf 0x60001000 factorySafe ++ cellsOf 0x60001100 factoryLimits ++ cellsOf 0x60001200 factoryRoles ++
    cellsOf 0x60001400 factoryConsent ++ cellsOf 0x60004000 factorySeal

end Sys2Proof.Machine
end

