-- ==== Sys2Proof/Machine/StBase.lean ====
section
/-! DEFINITION. State of the parts every chapter shares: status codes, centre time and the RTC (chapters 0 and 2),
the major mode and bring-up (chapter 2), clocks and power islands (chapter 3), and the Arcade queues (chapter 6). -/
namespace Sys2Proof.Machine

/-- The 4-bit code of a status (Table 0.4). -/
def statusCode : Status → Nat
  | .ok => 0 | .busy => 1 | .waking => 2 | .stale => 3 | .retry => 4 | .abort => 5 | .full => 6 | .empty => 7
  | .refused => 8 | .quarantine => 9 | .crcError => 10

/-- The eight major modes (Table 2.1). -/
inductive Mode where
  | dormant | bringup | night | service | inspection | recall | safestop | update
  deriving DecidableEq, Repr

/-- The mode code of Table 2.1. -/
def Mode.code : Mode → Nat
  | .dormant => 0 | .bringup => 1 | .night => 2 | .service => 3 | .inspection => 4 | .recall => 5 | .safestop => 6
  | .update => 7

/-- The mode a code names (Table 2.1). -/
def Mode.ofCode (n : Nat) : Mode :=
  match n % 8 with
  | 0 => .dormant | 1 => .bringup | 2 => .night | 3 => .service | 4 => .inspection | 5 => .recall | 6 => .safestop
  | _ => .update

/-- Centre time, the RTC and the device's own time since power-on. -/
structure TimeState where
  /-- Nanoseconds since VDD_AON was applied; the model's own clock for windows and limits. Reset 0. -/
  uptime : Nat
  /-- Centre time, 64 bits of ns (R9). Reset 0. -/
  centre : Nat
  /-- Whether centre time is valid on this node (R450). Reset false. -/
  centreValid : Bool
  /-- LINEAGE of the centre time held (Table 18.4); 0 = not valid. Reset 0. -/
  lineage : Nat
  /-- RTC_TIME.SECONDS, 32 bits (Table 2.11a). Retained; reset 0. -/
  rtcSec : Nat
  /-- RTC fraction in ns within the second; RTC_TIME.FRACTION is derived from it (Table 2.11a). Reset 0. -/
  rtcNs : Nat
  /-- RTC_TIME.VALID (Table 2.11a). Reset 0. -/
  rtcValid : Bool
  /-- RTC_LOCAL.OFFSET_MIN, signed minutes, −840..840 (Table 2.11a). NVM; reads 0 until loaded. -/
  rtcOffset : Int
  /-- NVM copy of OFFSET_MIN. DESIGN CHOICE 0. -/
  rtcOffsetNvm : Int
  /-- TIME_PPS ball level (Table 20.9). Reset low. -/
  pps : Bool
  /-- Uptime at which TIME_PPS falls again (10 ms after it rose). -/
  ppsFall : Nat
  deriving DecidableEq, Repr

/-- REQ_SOURCE code. -/
def reqSourceCode : ReqSource → Nat
  | .hp => 0 | .mp => 1 | .boulevard => 2 | .rtc => 3

/-- A deferred mode request that waits (R36). -/
structure PendingReq where
  /-- The target mode. -/
  target : Mode
  /-- Its source. -/
  source : ReqSource
  deriving DecidableEq, Repr

/-- STATUS_MODE, STATUS_BRINGUP, STATUS_FAULT, MODE_CFG and MODE_LIMITS (chapter 2). -/
structure ModeState where
  /-- STATUS_MODE.MODE (R33). Reset BRINGUP. -/
  mode : Mode
  /-- STATUS_MODE.PREV_MODE. Reset 1. -/
  prev : Mode
  /-- STATUS_MODE.ENTRY_CAUSE, 8 bits (Table 2.8). Reset 0x01. -/
  entryCause : Nat
  /-- STATUS_MODE.ENTRY_TIME, 32 bits. Reset 0. -/
  entryTime : Nat
  /-- STATUS_MODE.WARM and STATUS_BRINGUP.WARM. Reset 0. -/
  warm : Bool
  /-- STATUS_MODE.RECALL_PENDING. Reset 0. -/
  recallPending : Bool
  /-- The pending deferred request: PENDING and PENDING_TARGET (R36). Reset none. -/
  pendingReq : Option PendingReq
  /-- STATUS_MODE.REQ_SOURCE. Reset 0. -/
  reqSource : ReqSource
  /-- STATUS_MODE.REQ_RESULT. Reset OK. -/
  reqResult : Status
  /-- STATUS_BRINGUP.STEP, 4 bits. Reset 1. -/
  step : Nat
  /-- STATUS_BRINGUP.FAIL_STEP, 4 bits. Reset 0. -/
  failStep : Nat
  /-- STATUS_BRINGUP.FAIL_CODE, 8 bits. Reset 0. -/
  failCode : Nat
  /-- STATUS_BRINGUP.ISLAND_FAIL, 16 bits. Reset 0. -/
  islandFail : Nat
  /-- STATUS_BRINGUP.ELAPSED_MS once frozen; none while bring-up runs. Reset none. -/
  elapsedFrozen : Option Nat
  /-- Uptime at which the bring-up began. Reset 0. -/
  bringupStart : Nat
  /-- STATUS_BRINGUP.NVM_CORRECTED. Reset 0. -/
  nvmCorrected : Bool
  /-- STATUS_FAULT.CAUSE, 8 bits. Reset 0. -/
  faultCause : Nat
  /-- STATUS_FAULT.KERB_COMPARE. Reset 0. -/
  kerbCompare : Bool
  /-- MODE_CFG (Table 2.11), 64 bits. NVM; reads 0 until loaded. -/
  cfg : Word
  /-- NVM copy of MODE_CFG. DESIGN CHOICE 0. -/
  cfgNvm : Word
  /-- MODE_LIMITS (Table 2.11), 64 bits. Reset 0x0000_0708_0078_0258. -/
  limits : Word
  /-- A metering gap is open that the next bring-up's first record ends (R56). Reset false. -/
  gapOpen : Bool
  /-- The calls that woke the device and are kept (M6). Reset empty. -/
  wakeCalls : Nat
  /-- Recall trigger that waits for a commit in UPDATE (R50). Reset false. -/
  recallAfterCommit : Bool
  /-- Recall requested by MODE_REQ while bring-up or INSPECTION holds it (Table 2.3). Reset false. -/
  recallRequested : Bool
  /-- The device entered UPDATE from SAFESTOP, so the SAFESTOP output states remain (M18). Reset false. -/
  updateFromSafestop : Bool
  deriving DecidableEq, Repr

/-- One PLL (Tables 3.1, 3.3, 3.4). -/
structure Pll where
  /-- CLK_STATUS.RUNNING bit of the PLL. Reset false. -/
  running : Bool
  /-- CLK_STATUS.LOCKED. Reset false. -/
  locked : Bool
  /-- CLK_STATUS.BYPASS. Reset false. -/
  bypass : Bool
  /-- CLK_STATUS.HELD. Reset false. -/
  held : Bool
  /-- A relock sequence is in progress (CHANGING). Reset false. -/
  changing : Bool
  /-- Staircase position: 0 = ÷1, 1 = ÷2, 2 = ÷4, 3 = ÷8, 15 = bypass or stopped (STAIR). Reset 15. -/
  stair : Nat
  /-- Target in force, Hz. -/
  target : Nat
  /-- Bypass clock now used, Hz (0 when none). Reset 0. -/
  bypassHz : Nat
  /-- Uptime of the last monitor trip (R63). Reset none. -/
  lastTrip : Option Nat
  deriving DecidableEq, Repr

/-- The clock registers of chapter 3. -/
structure ClockState where
  /-- PLL_NIGHT, PLL_CORE, PLL_AUDIO, PLL_IO, PLL_LINK (R69's order). -/
  pll : Vector Pll 5
  /-- KERB_OSC runs (Table 3.1). Reset false. -/
  kerbOsc : Bool
  /-- REFCLK runs (Table 3.1). Reset false. -/
  refclk : Bool
  /-- REFCLK is lost: every PLL consumer runs on AON_RC (R80). Reset false. -/
  refclkLost : Bool
  /-- CLK_CORE_CTL.TARGET_MHZ, 16 bits. NVM; reads 0 until loaded. -/
  targetMhz : Nat
  /-- NVM copy of TARGET_MHZ; none = no valid stored value (R70). Reset 800. -/
  targetMhzNvm : Option Nat
  /-- CLK_AUDIO_CTL.FAMILY, 1 bit. NVM. -/
  family : Nat
  /-- NVM copy of FAMILY; none = no valid stored value (R70). Reset 0. -/
  familyNvm : Option Nat
  /-- CLK_EVENT.MON_TRIP, 5 bits. Reset 0. -/
  monTrip : Nat
  /-- CLK_EVENT.LOCK_LOSS, 5 bits. Reset 0. -/
  lockLoss : Nat
  /-- CLK_EVENT.REFCLK_LOSS. Reset 0. -/
  refclkEvent : Bool
  /-- CLK_EVENT.CORE_CHANGE_DONE. Reset 0. -/
  coreDone : Bool
  /-- CLK_EVENT.AUDIO_CHANGE_DONE. Reset 0. -/
  audioDone : Bool
  /-- ISL_RESTART.WINDOW_S, 8 bits. Reset 10. -/
  windowS : Nat
  /-- ISL_RESTART.RESTART_MAX, 4 bits. Reset 3. -/
  restartMax : Nat
  /-- FABRIC_CFG.INIT_TIMEOUT_US, 8 bits. Reset 8. -/
  initTimeout : Nat
  /-- POWER_EST.MW, 32 bits. Reset 0. -/
  powerMw : Nat
  /-- AON duty ticks so far (R507). Reset 0. -/
  dutyTicks : Nat
  deriving DecidableEq, Repr

/-- Why a gatekeeper fences its island (chapter 3, Gatekeepers and the fence). -/
inductive FenceCause where
  | reset | powerDown | update
  deriving DecidableEq, Repr

/-- ISL_STATE codes (Table 3.7). -/
inductive IslState where
  | off | gated | on | duty | fencing | fenced | held | waking
  deriving DecidableEq, Repr

/-- ISL_STATE code of Table 3.7. -/
def IslState.code : IslState → Nat
  | .off => 0 | .gated => 1 | .on => 2 | .duty => 3 | .fencing => 4 | .fenced => 5 | .held => 6 | .waking => 7

/-- One power island and its gatekeeper (chapter 3). -/
structure Island where
  /-- ISL_STATE (Table 3.7). Reset Off, AON On. -/
  st : IslState
  /-- The fence in force and its cause (R64). Reset none. -/
  fence : Option FenceCause
  /-- ISL_EPOCH, 8 bits (R64). Reset 0. -/
  epoch : Nat
  /-- ISL_RESTART_CNT, saturating at 15. Reset 0. -/
  restarts : Nat
  /-- Uptimes of the automatic restarts still inside the window (R79). Reset empty. -/
  restartTimes : List Nat
  /-- The next release runs as after a fence with cause RESET (R76, R79). Reset false. -/
  resetPending : Bool
  /-- The island returns to Held at its next power-up (R76). Reset false. -/
  heldPending : Bool
  /-- The next release of the island's queue sides applies R145 and R146 (R68, R76). Reset false. -/
  recoverPending : Bool
  /-- STATUS_FAULT.ISLAND_LATCHED bit (Table 2.10). Reset 0. -/
  latched : Bool
  /-- An island fault whose restart has not completed, or that was left Held (R79). Reset false. -/
  faulted : Bool
  /-- A supply monitor alarm on the island's rail is present (R503). Reset false. -/
  supplyAlarm : Bool
  /-- The island's clock is held on bypass (R63). Reset false. -/
  clockHeld : Bool
  /-- Marked by a loss of REFCLK (R80). Reset false. -/
  refLost : Bool
  /-- Watchdog count in µs (R81). Reset 0. -/
  wdog : Nat
  /-- Doorbells toward the island latched by the fence: queue and side (R66). Reset empty. -/
  latchedBells : List (Nat × Bool)
  deriving DecidableEq, Repr

/-- Queue configuration held in descriptor word 0 and 3 (Table 6.2). -/
structure QCfg where
  /-- CLASS: false = at-least-once, true = exactly-once. -/
  exactly : Bool
  /-- LANE, 6 bits. -/
  lane : Nat
  /-- PROD_OWNER, 5 bits. -/
  prod : Nat
  /-- CONS_OWNER, 5 bits. -/
  cons : Nat
  /-- ENTRY_W, 2 bits: 8, 16, 32 or 64 bytes. -/
  entryW : Nat
  /-- LOG2_DEPTH, 5 bits, 3–16. -/
  log2Depth : Nat
  /-- DB_CONS. -/
  dbCons : Bool
  /-- DB_PROD. -/
  dbProd : Bool
  /-- RING_BASE, 34 bits: ring Plaza address bits [39:6]. -/
  ringBase : Nat
  /-- DB_COUNT, 16 bits. -/
  dbCount : Nat
  /-- DB_CHAN, 6 bits. -/
  dbChan : Nat
  deriving DecidableEq, Repr

/-- The live state of one queue (R136, R140, R144, R145, Table 6.6 statistics). -/
structure Queue where
  /-- Configuration in force. -/
  cfg : QCfg
  /-- VALID: in service (R147). -/
  valid : Bool
  /-- RESV, 32 bits. -/
  resv : Nat
  /-- TAIL, 32 bits. -/
  tail : Nat
  /-- READ, 32 bits. -/
  read : Nat
  /-- HEAD, 32 bits. -/
  head : Nat
  /-- REDELIVER_END: a counter value or none (R145). -/
  redeliverEnd : Option Nat
  /-- Consumer doorbell armed (R144). -/
  armedC : Bool
  /-- Producer doorbell armed (R144). -/
  armedP : Bool
  /-- In quarantine (R152). -/
  quarantined : Bool
  /-- A load action runs on the queue (R147). -/
  loading : Bool
  /-- LAST_PROD (Table 6.4). -/
  lastProd : Status
  /-- LAST_CONS (Table 6.4). -/
  lastCons : Status
  /-- Q_STATS_0.ENQ_CNT, 32 bits. -/
  enqCnt : Nat
  /-- Q_STATS_0.DEQ_CNT, 32 bits. -/
  deqCnt : Nat
  /-- Q_STATS_1.REDELIVERED_CNT, 16 bits. -/
  redelivered : Nat
  /-- Q_STATS_1.ABORTED_CNT, 16 bits. -/
  aborted : Nat
  /-- Q_STATS_1.FULL_CNT, 16 bits. -/
  fullCnt : Nat
  /-- Q_STATS_1.DISCARDED_CNT, 16 bits. -/
  discarded : Nat
  /-- Q_STATS_2.HIGH_WATER, 17 bits. -/
  highWater : Nat
  deriving DecidableEq, Repr

/-- The load actions of Table 6.5. -/
inductive LoadAction where
  | load | config | reinit | disable | rewind | clearStats
  deriving DecidableEq, Repr

/-- The entry that Q_PEEK holds (R148). -/
structure Peek where
  /-- PEEK_STATUS is ABORT rather than OK. -/
  aborted : Bool
  /-- PEEK_REDELIVERED. -/
  redelivered : Bool
  /-- PEEK_SEQ, 16 bits. -/
  seq : Nat
  /-- The entry's bytes. -/
  data : List Byte
  deriving DecidableEq, Repr

/-- What an Arcade port operation answered: status and reply data (R140). -/
structure PortReply where
  status : Status
  data : Word
  deriving DecidableEq, Repr

/-- Arcade (chapter 6). -/
structure ArcadeState where
  /-- The queues a LOAD, CONFIG or REINIT has touched, by QID; every other queue is disabled (R147). Reset empty. -/
  queues : List (Nat × Queue)
  /-- Q_SEL.QID, 14 bits. Reset 0x3FFF. -/
  qSel : Nat
  /-- Q_ENTRY_0..7. Reset 0. -/
  entry : Vector Word 8
  /-- The entry held by Q_PEEK (R148). Reset none: PEEK_STATUS EMPTY. -/
  peek : Option Peek
  /-- The host ENQUEUE copy in progress: queue, slot counter and entry bytes (R149). Reset none. -/
  copy : Option (Nat × Nat × List Byte)
  /-- The load action in progress: queue, action, whether the host issued it, and its outcome once it has acted (R147).
  Reset none. -/
  action : Option (Nat × LoadAction × Bool × Option Status)
  /-- Q_STATUS.RELOAD_RESULT. Reset OK. -/
  reloadResult : Status
  /-- Q_HOSTRDY_0. Reset 0. -/
  hostRdy0 : Word
  /-- Q_HOSTRDY_1. Reset 0. -/
  hostRdy1 : Word
  /-- Q_GLOBAL.QUAR_COUNT, 16 bits. Reset 0. -/
  quarCount : Nat
  /-- Q_GLOBAL.NOTICE_LOST. Reset 0. -/
  noticeLost : Bool
  /-- ARC_SEL, one copy per initiator island (R481). Reset 0. -/
  arcSel : Vector Nat 16
  /-- The reply of the last port operation (R140). Reset OK, 0. -/
  reply : PortReply
  deriving DecidableEq, Repr

end Sys2Proof.Machine
end

