-- ==== Sys2Proof/Machine/StBlv.lean ====
section
/-! DEFINITION. State of the Boulevard link (chapter 18). -/
namespace Sys2Proof.Machine

/-- Ring states of Table 18.5. -/
inductive RingState where
  | down | joining | normal | healing | wrapped | isolated
  deriving DecidableEq, Repr

/-- BLV_STAT.RING code. -/
def RingState.code : RingState → Nat
  | .down => 0 | .joining => 1 | .normal => 2 | .healing => 3 | .wrapped => 4 | .isolated => 5

/-- A message taken from a transmit queue and not yet ended (R457). -/
structure BlvMsg where
  /-- The frame, with its SEQ. -/
  frame : BlvFrame
  /-- Transmit queue that holds its entry; none for a message of the block's own. -/
  qid : Option Nat
  /-- Turns used so far. -/
  tries : Nat
  /-- The frame is on the ring. -/
  onRing : Bool
  deriving DecidableEq, Repr

/-- An applied port table entry (chapter 18, Configuration). -/
structure BlvPort where
  qid : Nat
  inUse : Bool
  bufBase : Nat
  deriving DecidableEq, Repr

/-- The Boulevard block (chapter 18). -/
structure BlvState where
  /-- BLV_STAT.RING. Reset DOWN. -/
  ring : RingState
  /-- BLV_STAT.CENTRE, 8 bits. Reset 0. -/
  centre : Nat
  /-- BLV_STAT.MEMBER_VER, 8 bits. Reset 0. -/
  memberVer : Nat
  /-- The membership in effect, in ring order. Reset empty: NODES reads 0. -/
  members : List Member
  /-- A membership record published and not yet in effect (R451). Reset none. -/
  nextMembers : Option (List Member)
  /-- DISPATCHER of each group in effect. Reset none. -/
  dispatcher : Vector (Option Nat) 16
  /-- DISPATCHER election waiting for its 100 ms boundary (R452). Reset none. -/
  nextDispatcher : Option (Vector (Option Nat) 16)
  /-- Uptime of the lap that published the waiting election. Reset 0. -/
  lapAt : Nat
  /-- The address the node joined with; none while not a member. Reset none. -/
  self : Option Nat
  /-- NODE_ADDR in use: that of the last JOIN, 8 bits. Reset 0. -/
  addr : Nat
  /-- BLV_CTL LEAVE in force: forward only. Reset false. -/
  left : Bool
  /-- FLAGS.ROLE_MISMATCH. Reset 0. -/
  roleMismatch : Bool
  /-- FLAGS.DUP_ADDR. Reset 0. -/
  dupAddr : Bool
  /-- FLAGS.CB_VALID history: link cycles in a row that met R459. Reset 0. -/
  goodCycles : Nat
  /-- FLAGS.RESULT of the last APPLY. Reset 0 (OK). -/
  refused : Bool
  /-- BLV_RING.WRAP_PORT: ports P and Q wrapped. Reset 0. -/
  wrapP : Bool
  wrapQ : Bool
  /-- BLV_RING.LOOP_NS, 32 bits. Reset 0. -/
  loopNs : Nat
  /-- BLV_TIME.LAST_STEP_NS, signed 32 bits. Reset 0. -/
  lastStep : Int
  /-- BLV_TIME.OFFSET_PS, signed 32 bits. Reset 0. -/
  offsetPs : Int
  /-- BLV_CFG, 64 bits. Reset RETRY_LIMIT 8, other fields NVM. -/
  cfg : Word
  /-- NVM copy of BLV_CFG. DESIGN CHOICE RETRY_LIMIT 8, others 0. -/
  cfgNvm : Word
  /-- BLV_CNT.HEAL_CNT, RC, 16 bits. Reset 0. -/
  healCnt : Nat
  /-- BLV_CNT.CRC_CNT, RC, 16 bits. Reset 0. -/
  crcCnt : Nat
  /-- BLV_CNT.RETRY_CNT, RC, 16 bits. Reset 0. -/
  retryCnt : Nat
  /-- BLV_CNT.DROP_CNT, RC, 16 bits. Reset 0. -/
  dropCnt : Nat
  /-- BLV_TXQ as written. Reset 0. -/
  txqReg : Word
  /-- BLV_TXQ in force since the last APPLY. Reset 0. -/
  txq : Word
  /-- Groups whose cars this node hosts, 16 bits (from the lift tables in force). Reset 0. -/
  hosted : Nat
  /-- The port table in force. Reset all unbound. -/
  ports : Vector BlvPort 64
  deriving DecidableEq, Repr

/-- The protocol engines of the Boulevard block. -/
structure BlvLink where
  /-- BLV_CONFIRM_TAG. Reset 0. -/
  confirmTag : Word
  /-- BLV_CONFIRM_RES.STATUS. Reset OK. -/
  confirmStatus : Status
  /-- BLV_CONFIRM_RES.REASON. Reset 0. -/
  confirmReason : Nat
  /-- BLV_CONFIRM_RES.PENDING. Reset 0. -/
  confirmPending : Bool
  /-- The target whose reply is awaited. Reset 0. -/
  confirmTarget : Nat
  /-- Last frame emitted on ring A. Reset none. -/
  outA : Option BlvFrame
  /-- Last frame emitted on ring B. Reset none. -/
  outB : Option BlvFrame
  /-- Cycle number of the last marker emitted or received. Reset 0. -/
  cycle : Nat
  /-- CORR of the last marker as this node forwards it, ns (Table 18.4). Reset 0. -/
  corr : Rat
  /-- Upstream hop delay on ring A, ns (R449). Reset 0. -/
  hopA : Rat
  /-- Upstream hop delay on ring B, ns. Reset 0. -/
  hopB : Rat
  /-- Markers in a row with a phase correction below 50 ns (R450). Reset 0. -/
  goodMarkers : Nat
  /-- Uptime of the last marker received (R450, R460). Reset 0. -/
  lastMarker : Nat
  /-- SEQ of the last KERB frame inserted, 16 bits. Reset 0. -/
  kerbSeq : Nat
  /-- KERB bits last accepted per source: SEQ and 64 bits (R459). Reset empty. -/
  kerbBits : List (Nat × Nat × Word)
  /-- Sources whose KERB frame was accepted in the present link cycle. Reset empty. -/
  kerbSeen : List Nat
  /-- This node's own KERB frame returned with the full ACK_CNT in the present link cycle. Reset false. -/
  kerbBack : Bool
  /-- SEQ of the next message per class. Reset 0. -/
  txSeq : Vector Nat 4
  /-- The message of each class that has not ended (R457). Reset none. -/
  inFlight : Vector (Option BlvMsg) 4
  /-- Messages of the block's own waiting to be sent, by class, oldest first (roll-ups, WARDEN). Reset empty. -/
  own : List (BlvClass × BlvFrame)
  /-- Last SEQ accepted per source and class (R458): key source × 8 + type. Reset empty. -/
  rxSeq : List (Nat × Nat)
  /-- After an unwrap, one more than the cycles left in which KERB frames go both ways; the ring is NORMAL when it ends (R461).
  Reset 0. -/
  bothWays : Nat
  /-- Role-table tag: bytes 0–3 of the committed BOULEVARD_ROLES digest (R464). Reset 0x0087BDE5, that of the factory
  table (DEDUCED). -/
  roleTag : Nat
  /-- LINEAGE kept in AON (R469). Reset 0. -/
  lineageKept : Nat
  /-- Rounding and servo free values used so far. Reset 0, DESIGN CHOICE. -/
  freeIdx : Nat
  deriving DecidableEq, Repr

end Sys2Proof.Machine
end

