-- ==== Sys2Proof/Machine/StBs.lean ====
section
/-! DEFINITION. State of Bandstand: voices, requests, MIDI channels, zones and registers (chapter 15). -/
namespace Sys2Proof.Machine
open Sys2Proof

/-- The voice states of R366. -/
inductive VoiceSt where
  | free | pending | active | release | ramp
  deriving DecidableEq, Repr

/-- Codes of the voice states in the voice's status record. -/
def VoiceSt.code : VoiceSt → Nat | .free => 0 | .pending => 1 | .active => 2 | .release => 3 | .ramp => 4

/-- Where a start request came from (section Start requests). -/
inductive BsSrc where
  /-- A Kerb cue entry: RUN_EPOCH and SEQ. -/
  | kerb (epoch seq : Nat)
  /-- A lift controller cue and its sequence number. -/
  | lift (seq : Nat)
  /-- A command entry and its REQ_ID. -/
  | cmd (req : Nat)
  /-- A MIDI note: channel and note number. -/
  | midi (ch note : Nat)
  /-- An AUDIO_CUE message: node and sequence number. -/
  | node (n seq : Nat)
  deriving DecidableEq, Repr

/-- A start request. -/
structure StartReq where
  /-- KIND: false = patch, true = phrase. -/
  phrase : Bool
  /-- Patch or phrase. -/
  id : Nat
  note : Int
  vel : Nat
  prio : Nat
  /-- Zone mask. -/
  zones : Nat
  /-- T_start in ns; none = the next block. -/
  start : Option Nat
  /-- HOLD_MS; 0 = none. -/
  hold : Nat
  /-- EXCLUSIVE. -/
  excl : Bool
  /-- Cue number and car of a cue; 0xFFFF and 0xFF otherwise. -/
  cue : Nat
  car : Nat
  /-- Plays left after this one, and GAP in 10 ms units. -/
  repeats : Nat
  gap : Nat
  src : BsSrc
  deriving DecidableEq, Repr

/-- A phrase directory entry (R378). -/
structure PhraseEntry where
  offset : Nat
  length : Nat
  format : Nat
  rate : Nat
  gain : Int
  deriving DecidableEq, Repr

/-- The segments of an envelope (R375). -/
inductive EnvSeg where
  | delay | attack | hold | decay | sustain | release | ended
  deriving DecidableEq, Repr

/-- An envelope. -/
structure Env where
  seg : EnvSeg
  /-- Time in the segment, ms. -/
  t : Rat
  /-- Level at the segment's start, and now. -/
  l0 : Rat
  level : Rat
  deriving DecidableEq, Repr

/-- One voice. -/
structure Voice where
  /-- Reset FREE. -/
  st : VoiceSt
  /-- What it plays. Reset none. -/
  req : Option StartReq
  /-- The request that waits for this voice's steal ramp. Reset none. -/
  next : Option StartReq
  /-- Why its ramp runs: it ends STOLEN. Reset false. -/
  stolen : Bool
  /-- Sample at which a steal ramp begins, and samples of the ramp left. Reset none, 0. -/
  rampAt : Option Nat
  rampLeft : Nat
  /-- Sample number of its start. Reset 0. -/
  startN : Nat
  /-- Start count, 24 bits (HANDLE). Reset 0. -/
  count : Nat
  /-- Samples since its start. Reset 0. -/
  elapsed : Nat
  /-- Gate: 1 until released. Reset false. -/
  gate : Bool
  /-- The patch as it stood at its start; the phrase entry. Reset empty, none. -/
  patch : Memory
  entry : Option PhraseEntry
  /-- The wavetable frames as read, for A and B (R390). Reset empty. -/
  wtA : List Byte
  wtB : List Byte
  /-- Oscillator phases, 32 bits. Reset 0. -/
  phA : Nat
  phB : Nat
  /-- Noise LFSR, 32 bits, and the three pink states. Reset 0. -/
  lfsr : Nat
  p1 : Rat
  p2 : Rat
  p3 : Rat
  /-- Filter state s. Reset 0. -/
  fRe : Rat
  fIm : Rat
  /-- The four envelopes. Reset ended at level 0. -/
  env : Vector Env 4
  /-- LFO phases as fractions of a turn, and their sample-and-hold values. Reset 0. -/
  lfo1 : Rat
  lfo2 : Rat
  sh1 : Rat
  sh2 : Rat
  /-- Levels and pan at the end of the last block: A, B, noise, ENV0 × LEVEL, pan. Reset none. -/
  last : Option (Rat × Rat × Rat × Rat × Rat)
  /-- P0 and P1, Q1.15. Reset 0. -/
  p0 : Int
  p1v : Int
  /-- Phrase bytes in memory, and the play position in samples of the phrase. Reset empty, 0. -/
  bytes : List Byte
  pos : Rat
  /-- Consecutive blocks without data; the phrase has been restarted once (R394). Reset 0, false. -/
  under : Nat
  again : Bool
  /-- Held by CC64. Reset false. -/
  held : Bool
  /-- P0, P1 and `held` of the request that waits for this voice's steal ramp. Reset 0, 0, false. -/
  nextP0 : Int
  nextP1 : Int
  nextHeld : Bool
  deriving DecidableEq, Repr

/-- A MIDI channel's controllers. -/
structure MidiChan where
  cc1 : Nat
  cc11 : Nat
  cc16 : Nat
  cc17 : Nat
  cc64 : Nat
  pressure : Nat
  /-- Signed, −8,192 to 8,191. -/
  bend : Int
  program : Nat
  deriving DecidableEq, Repr

/-- A zone in the mixer. -/
structure ZoneSt where
  /-- Attenuation applied to priorities 0–5, dB. Reset 0. -/
  duck : Rat
  /-- Ducked in the last block. Reset false. -/
  ducked : Bool
  /-- SAT count. Reset 0. -/
  sat : Nat
  /-- Paging level. Reset 0. -/
  page : Rat
  /-- The last block's output samples, left and right, 24 bits signed. Reset empty. -/
  out : List (Int × Int)
  deriving DecidableEq, Repr

/-- The last started entry of a cue queue (R385), with the voice that serves it; the voice was lost in a core reset. -/
structure CueSeen where
  epoch : Nat
  seq : Nat
  voice : Nat
  count : Nat
  lost : Bool
  deriving DecidableEq, Repr

/-- Bandstand. -/
structure BsState where
  voices : Vector Voice 256
  /-- The tables in force, by block offset. Reset empty. -/
  tabs : Memory
  /-- Checked tables that take effect at the next block. Reset none. -/
  nextTabs : Option Memory
  /-- BS_STAT.RESULT and REFUSE_AT. Reset OK, 0. -/
  result : Status
  refuseAt : Nat
  /-- BS_QUEUES. Reset 0. -/
  kerbQ : Nat
  evtQ : Nat
  cmdQ : Nat
  /-- BS_COUNT and BS_COUNT2. Reset 0. -/
  stealCnt : Nat
  refuseCnt : Nat
  shedCnt : Nat
  underrunCnt : Nat
  cueDupCnt : Nat
  replayCnt : Nat
  lateCnt : Nat
  phraseErrCnt : Nat
  /-- BS_TIME.ALIGN_NS. Reset 0. -/
  alignNs : Int
  /-- BS_PHRASE: PORT and BASE, and their NVM copy. Reset 0. -/
  phraseReg : Word
  phraseNvm : Word
  /-- The phrase directory as read. Reset empty. -/
  dir : List PhraseEntry
  /-- A PHRASE_RELOAD waits. Reset false. -/
  reload : Bool
  /-- Wavetables named by WT_INVALIDATE since the last block. Reset empty. -/
  inval : List Nat
  /-- Announcements that wait for their zones, in order. Reset empty. -/
  waiting : List StartReq
  /-- The priority-7 FIFO with arrival times, ns. Reset empty. -/
  p7 : List (StartReq × Nat)
  /-- Dequeued command entry that waits for its T_START. Reset none. -/
  held : Option (List Byte)
  /-- Kept in Plaza SRAM: the last started entry of the Kerb cue queue, of the lift cues, and of each node. Reset none. -/
  seenKerb : Option CueSeen
  seenLift : Option CueSeen
  seenNode : List (Nat × CueSeen)
  /-- Kerb cue entries dequeued and not acknowledged, with whether each may be. Reset empty. -/
  ackWait : List (Nat × Nat × Bool)
  midi : Vector MidiChan 16
  /-- Active sensing has been received. Reset false. -/
  sensing : Bool
  zones : Vector ZoneSt 16
  /-- Sample number after the last block. Reset 0. -/
  nextN : Nat
  /-- AUDIO and cores 2–3 are woken in NIGHT for a priority-7 announcement (Table 2.4). Reset false. -/
  woken : Bool
  deriving DecidableEq, Repr

/-- An envelope at rest. -/
def Env.init : Env := { seg := .ended, t := 0, l0 := 0, level := 0 }

/-- A free voice. -/
def Voice.init : Voice :=
  { st := .free, req := none, next := none, stolen := false, rampAt := none, rampLeft := 0, startN := 0, count := 0, elapsed := 0,
    gate := false, patch := [], entry := none, wtA := [], wtB := [], phA := 0, phB := 0, lfsr := 0, p1 := 0, p2 := 0, p3 := 0,
    fRe := 0, fIm := 0, env := Vector.replicate 4 Env.init, lfo1 := 0, lfo2 := 0, sh1 := 0, sh2 := 0, last := none, p0 := 0,
    p1v := 0, bytes := [], pos := 0, under := 0, again := false, held := false, nextP0 := 0, nextP1 := 0, nextHeld := false }

/-- A MIDI channel at reset. -/
def MidiChan.init : MidiChan := { cc1 := 0, cc11 := 0, cc16 := 0, cc17 := 0, cc64 := 0, pressure := 0, bend := 0, program := 0 }

/-- A zone at reset. -/
def ZoneSt.init : ZoneSt := { duck := 0, ducked := false, sat := 0, page := 0, out := [] }

/-- Bandstand at reset (Table 15.6). -/
def BsState.init : BsState :=
  { voices := Vector.replicate 256 Voice.init, tabs := [], nextTabs := none, result := .ok, refuseAt := 0, kerbQ := 0, evtQ := 0,
    cmdQ := 0, stealCnt := 0, refuseCnt := 0, shedCnt := 0, underrunCnt := 0, cueDupCnt := 0, replayCnt := 0, lateCnt := 0,
    phraseErrCnt := 0, alignNs := 0, phraseReg := 0, phraseNvm := 0, dir := [], reload := false, inval := [], waiting := [], p7 := [],
    held := none, seenKerb := none, seenLift := none, seenNode := [], ackWait := [], midi := Vector.replicate 16 MidiChan.init,
    sensing := false, zones := Vector.replicate 16 ZoneSt.init, nextN := 0, woken := false }

end Sys2Proof.Machine
end

