-- ==== Sys2Proof/Machine/StConsent.lean ====
section
/-! DEFINITION. State of the consent controller, the event log and firmware trust (chapter 5). -/
namespace Sys2Proof.Machine

/-- The event log's head (R125, LOG_STATE). -/
structure LogState where
  /-- LOG_STATE.HEAD_SEQ: SEQ of the last record appended; 0 = none. NVM. DESIGN CHOICE 0. -/
  seq : Nat
  /-- SHA-256 of the last record, 256 bits: the head hash. NVM. DESIGN CHOICE 0. -/
  head : BitVec 256
  deriving DecidableEq, Repr

/-- The phase of a scope (CONSENT_STATE.PHASE). -/
inductive Phase where
  | idle | hashing | pending | committing
  deriving DecidableEq, Repr

/-- PHASE code. -/
def Phase.code : Phase → Nat
  | .idle => 0 | .hashing => 1 | .pending => 2 | .committing => 3

/-- One consent scope (R114 to R122). -/
structure ScopeState where
  /-- CONSENT_STATE PHASE. Reset IDLE. -/
  phase : Phase
  /-- CONSENT_STATE RESULT, a reason code of Table 5.6. Reset 0. -/
  result : Nat
  /-- The proposer's channel (CONSENT_INFO.PROPOSER). Reset HP. -/
  proposer : Channel
  /-- The confirmer's channel once COMMITTING. Reset none. -/
  confirmer : Option Channel
  /-- CONSENT_INFO.LENGTH, 24 bits. Reset 0. -/
  length : Nat
  /-- CONSENT_INFO.OFFSET, 17 bits. Reset 0. -/
  offset : Nat
  /-- The latched digest: the little-endian number of its 32 bytes. Reset 0. -/
  digest : Nat
  /-- The confirmer mask in force at acceptance. Reset 0. -/
  mask : Nat
  /-- WINDOW_S in force at acceptance. Reset 0. -/
  window : Nat
  /-- Uptime at which the window ends, while PENDING. Reset 0. -/
  deadline : Nat
  deriving DecidableEq, Repr

/-- A proposal NVM shows as open when AON lost its state (R132). -/
structure LostProposal where
  scope : Nat
  digest : Nat
  proposer : Channel
  confirmer : Option Channel
  deriving DecidableEq, Repr

/-- The consent controller (Table 5.9). -/
structure ConsentState where
  /-- The eight scopes of Table 5.1. -/
  scopes : Vector ScopeState 8
  /-- CONSENT_DIGEST_0..3. Reset 0. -/
  digest : Vector Word 4
  /-- The channel that wrote each CONSENT_DIGEST word since its own last CONSENT_PROPOSE write (R114). Reset none. -/
  digestBy : Vector (Option Channel) 4
  /-- CONSENT_SEL.SCOPE, 3 bits. Reset 0. -/
  sel : Nat
  /-- CONSENT_WINDOW.LOCK_HIT, RC. Reset 0. -/
  lockHit : Bool
  /-- CONSENT_WINDOW.LAST_REFUSAL, 4 bits. Reset 0. -/
  lastRefusal : Nat
  /-- CONSENT_WINDOW.MISMATCH_CNT, 4 bits. Reset 0. -/
  mismatch : Nat
  /-- CONSENT_WINDOW.WINDOW_S in force. NVM; reads 0 until step 4 loads it. -/
  windowS : Nat
  /-- Step 4 has loaded the registers that show the trust area; until then they read 0 (R15, R134). Reset false. -/
  nvmLoaded : Bool
  /-- NVM copy of WINDOW_S: 120 from the factory (R128). -/
  windowNvm : Nat
  /-- Confirmer masks of the eight scopes (R128). NVM, 0x07 from the factory. -/
  bMask : Vector Nat 8
  /-- SEAL_STATE.SEAL_COUNT, 32 bits (R124). NVM, 0 from the factory. -/
  sealCount : Nat
  /-- SEAL_STATE.CAL_TAG, 32 bits (R124). NVM; 0x50EF9B79 for the factory payload, bytes 0–3 of its SHA-256 (DEDUCED). -/
  calTag : Nat
  /-- Rollback floors per image TYPE 1–4 (R127). NVM. DESIGN CHOICE 0. -/
  floors : Vector Nat 5
  /-- Keys enrolled in slots 1–3: 64 bytes each, none = not enrolled (R127). NVM. DESIGN CHOICE none. -/
  keys : Vector (Option (List Byte)) 4
  /-- FW_STATE.SLOT: the active boot slot. NVM. DESIGN CHOICE 0. -/
  slot : Nat
  /-- FW_STATE.VERSION. NVM. DESIGN CHOICE 0. -/
  fwVersion : Nat
  /-- The two boot slots of xSPI port 0: the payload a commit wrote; none = as Zenham shipped it (R123). -/
  boot : Vector (Option (List Byte)) 2
  /-- The body of the image the bring-up configuration pointer names, once a commit has set it (R127). Reset none. -/
  configImage : Option (List Byte)
  /-- What the image store holds: TARGET, offset and length of each program image (R199, R484). Reset empty. -/
  stored : List (Nat × Nat × Nat)
  /-- Images were loaded since a step 5 last passed (R40). Reset true. -/
  unchecked : Bool
  /-- Open proposals of the last reset, for step 4's records (R132). Reset empty. -/
  lost : List LostProposal
  /-- A KERB_PROGRAM commit waits for its scan boundary (R353). -/
  kerbProgramNew : Bool
  /-- A TRIP_PATHS commit waits for its scan boundary (R354). Reset false. -/
  tripPathsNew : Bool
  deriving DecidableEq, Repr

end Sys2Proof.Machine
end

