-- ==== Sys2Proof/Machine/StCore.lean ====
section
/-! DEFINITION. State of one Signal Core (chapters 7 and 8). -/
namespace Sys2Proof.Machine
open Sys2Proof

/-- SC_STATE.STATE (Table 8.5). -/
inductive RunState where
  | reset | running | waiting | halted | debugHalted | doubleFault
  deriving DecidableEq, Repr

/-- SC_STATE.STATE's code. -/
def RunState.code : RunState → Nat
  | .reset => 0 | .running => 1 | .waiting => 2 | .halted => 3 | .debugHalted => 4 | .doubleFault => 5

/-- A bundle as its fields (Table 7.3). -/
inductive Bundle where
  /-- FORM 0 or 1: OP, DST, SA, SB, MOD and the move slots. -/
  | slots (op dst sa sb md : Nat) (mv : Moves)
  /-- FORM 2: control opcode and its 56 operand bits. -/
  | ctl (opc ops : Nat)
  /-- FORM 3, reserved. -/
  | form3
  deriving DecidableEq, Repr

/-- One accumulator: two 80-bit parts with 63 fraction bits (R157). -/
structure Acc where
  re : BitVec 80
  im : BitVec 80
  deriving DecidableEq, Repr

/-- One active repeat level (R168). -/
structure RepLevel where
  /-- Iterations left, this one included, modulo 2^24. -/
  count : Nat
  /-- First bundle of the body. -/
  start : Nat
  /-- Last bundle of the body. -/
  stop : Nat
  /-- YIELD. -/
  yield : Bool
  deriving DecidableEq, Repr

/-- A result that R161 makes visible to a later bundle. -/
inductive Result where
  | d (i : Nat) (v : Word)
  | acc (i : Nat) (v : Acc)
  /-- A special register by its MOVAR code. -/
  | sreg (code : Nat) (v : Word)
  /-- The flags V, C, N, Z in bits 3–0. -/
  | flags (v : Nat)
  /-- Setting of the sticky bits SAT (bit 4) and AOV (bit 5). -/
  | sticky (m : Nat)
  deriving DecidableEq, Repr

/-- A pending result: how many further bundles issue before it becomes visible. -/
structure Pend where
  left : Nat
  res : Result
  deriving DecidableEq, Repr

/-- What follows the delay slots of a branch. -/
inductive BranchKind where
  | jump | reti | rets
  deriving DecidableEq, Repr

/-- Branch-pending state: delay slots still to issue. -/
structure Branch where
  /-- Delay slots still to issue, 0–2. -/
  slots : Nat
  /-- The branch is taken. -/
  taken : Bool
  /-- Its target. -/
  target : Nat
  kind : BranchKind
  /-- The branch's own bundle. -/
  pc : Nat
  deriving DecidableEq, Repr

/-- One copy of the banked registers (Table 8.2). -/
structure Bank where
  /-- D12–D15. -/
  d : Vector Word 4
  /-- A3 as its other readers see it. -/
  a3 : Acc
  /-- A3 as a following accumulator writer sees it (R161). -/
  a3w : Acc
  /-- P6, P7. -/
  p : Vector (BitVec 41) 2
  /-- B6, B7. -/
  b : Vector (BitVec 41) 2
  /-- L6, L7. -/
  l : Vector (BitVec 24) 2
  /-- M6, M7. -/
  m : Vector (BitVec 24) 2
  /-- IDX. -/
  idx : BitVec 32
  /-- ST, LVL apart. -/
  st : Word
  /-- LR. -/
  lr : BitVec 14
  /-- Active repeat levels, innermost first. -/
  rep : List RepLevel
  deriving DecidableEq, Repr

/-- The loop cache (R170). -/
structure LoopCache where
  start : Nat
  len : Nat
  /-- The first iteration is still being captured. -/
  filling : Bool
  /-- Captured bundles by their index in program memory. -/
  body : List (Nat × Word)
  deriving DecidableEq, Repr

/-- A bundle stalled at the Crossroads port (R175). -/
structure Stall where
  bundle : Bundle
  /-- Replies its Plaza loads have had so far. -/
  got : List Word
  /-- The outstanding load has ended with ABORT by the initiator timeout (R67). -/
  aborted : Bool
  deriving DecidableEq, Repr

/-- One Signal Core. -/
structure CoreState where
  /-- SC_STATE.STATE, 4 bits. Reset RESET (Table 8.5). -/
  run : RunState
  /-- PC, 14 bits (Table 7.1). Reset 0 (R204). -/
  pc : Nat
  /-- D0–D11, 64 bits each (Table 7.1). Reset 0 (R181). -/
  d : Vector Word 12
  /-- A0–A2 as their other readers see them, 2 × 80 bits each (R157). Reset 0 (R181). -/
  a : Vector Acc 3
  /-- A0–A2 as a following accumulator writer sees them (R161). Reset 0. -/
  aw : Vector Acc 3
  /-- P0–P5, 41 bits each (Table 7.1). Reset 0 (R181). -/
  p : Vector (BitVec 41) 6
  /-- B0–B5, 41 bits each (Table 7.1). Reset 0 (R181). -/
  b : Vector (BitVec 41) 6
  /-- L0–L5, 24 bits each (Table 7.1). Reset 0 (R181). -/
  l : Vector (BitVec 24) 6
  /-- M0–M5, 24 bits each (Table 7.1). Reset 0 (R181). -/
  m : Vector (BitVec 24) 6
  /-- Main copy of the banked registers D12–D15, A3, P6–7, B6–7, L6–7, M6–7, IDX, ST, LR, repeat state (Table 8.2). Reset 0
  (R181, R204). -/
  main : Bank
  /-- Shadow copy of the same registers (R183). Reset 0 (R204). -/
  shadow : Bank
  /-- BANK, 1 bit (Table 8.1). Reset 0 (R204). -/
  bank : Bool
  /-- SP, 19 bits (Table 8.1). Reset 0 (R204). -/
  sp : Nat
  /-- SP_LO, 19 bits (Table 8.1). Reset 0 (R204). -/
  spLo : Nat
  /-- SP_HI, 19 bits (Table 8.1). Reset 0 (R204). -/
  spHi : Nat
  /-- VBASE, 14 bits (Table 8.1). Reset 0 (R204). -/
  vbase : Nat
  /-- IE, 2 bits (Table 8.1). Reset 0 (R204). -/
  ie : Nat
  /-- IPRIO, 3 bits (Table 8.1). Reset 0 (R204). -/
  iprio : Nat
  /-- IMASK, 64 bits (Table 8.1). Reset 0 (R204). -/
  imask : Word
  /-- IPEND, 64 bits (Table 8.1). Reset 0 (R204). -/
  ipend : Word
  /-- SPC, 14 bits (Table 8.1). Reset 0. -/
  spc : Nat
  /-- FCAUSE, 8 bits (Table 8.1). DESIGN CHOICE 0 at reset (log entry 20). -/
  fcause : Nat
  /-- Vector that entered the shadow bank, 7 bits (Table 8.5, FAULT_REC_0.SHADOW_VEC). Reset 0. -/
  shadowVec : Nat
  /-- Results R161 has not yet made visible, in issue order. Reset empty. -/
  pend : List Pend
  /-- Branch-pending state (R161). Reset none pending. -/
  br : Branch
  /-- Results of the main stream held while BANK = 1 (R184). Reset empty. -/
  heldPend : List Pend
  /-- Branch-pending state of the main stream while BANK = 1 (R183). Reset none pending. -/
  heldBr : Branch
  /-- Plaza addresses of BUS_ABORT exceptions still to be taken (R175, R196). Reset empty. -/
  aborts : List Nat
  /-- Posted store buffer, at most 4: address, bytes, data (R175). Reset empty (R181). -/
  posted : List (Nat × Nat × Word)
  /-- The bundle stalled at the Crossroads port (R175). Reset none. -/
  stall : Option Stall
  /-- The loop cache (R170). Reset invalid (R181). -/
  lc : Option LoopCache
  /-- Core cycles a takeable HELD channel has been held off (R195). Reset 0. -/
  holdCnt : Nat
  /-- This waiting episode has been reported (R195). Reset false. -/
  holdDone : Bool
  /-- The HOLD_OVERRUN line to Kerb (R195). Reset false. -/
  holdOverrun : Bool
  /-- A halt waits for the end of the stalled bundle (R201). Reset false. -/
  halting : Bool
  /-- A STEP command waits to issue its bundle (R201). Reset false. -/
  stepReq : Bool
  /-- The next bundle issues without matching a breakpoint (R201). Reset false. -/
  skipBkpt : Bool
  /-- The core was WAITING when it was halted (R201). Reset false. -/
  dbgWait : Bool
  /-- SC_CYCLES.COUNT, 64 bits (Table 7.9). Reset 0 (R181). -/
  cycles : Nat
  /-- SC_STALLS.BANK, 32 bits (Table 7.9). Reset 0 (R181). -/
  stallBank : Nat
  /-- SC_STALLS.FABRIC, 32 bits (Table 7.9). Reset 0 (R181). -/
  stallFab : Nat
  /-- SC_LCACHE.HITS, 32 bits (Table 7.9). Reset 0 (R181). -/
  hits : Nat
  /-- SC_LCACHE.CAPTURES, 32 bits (Table 7.9). Reset 0 (R181). -/
  captures : Nat
  /-- SC_DPSTAT.FAB_WAIT_MAX, 16 bits, RC (Table 7.9). Reset 0. -/
  fabWaitMax : Nat
  /-- SC_DPSTAT.ECC_CORR, 16 bits, RC (Table 7.9). Reset 0. -/
  eccCorr : Nat
  /-- SC_DPSTAT.WRITE_DROP, 16 bits, RC (Table 7.9, R160, R201). Reset 0. -/
  writeDrop : Nat
  /-- SC_STATE.CTL_RESULT (Table 8.5). Reset OK. -/
  ctlResult : Status
  /-- SC_IRQ_CLASS.FAST, 64 bits (Table 8.5). Reset 0. -/
  irqClass : Word
  /-- SC_IRQ_PRIO_0..3, 64 bits each (Table 8.5). Reset 0x1111_1111_1111_1111. -/
  irqPrio : Vector Word 4
  /-- SC_HOLD_LIMIT, 64 bits (Table 8.5). Reset 16,384. -/
  holdLimit : Word
  /-- SC_HOLD_STAT.OVERRUN_CNT, 16 bits, RC (Table 8.5). Reset 0. -/
  overrunCnt : Nat
  /-- SC_HOLD_STAT.LAST_CHAN, 8 bits (Table 8.5). Reset 0. -/
  lastChan : Nat
  /-- SC_HOLD_STAT.OVERRUN, RC (Table 8.5). Reset 0. -/
  overrun : Bool
  /-- SC_HOLD_STAT.MAX_WAIT, 24 bits, RC (Table 8.5). Reset 0. -/
  maxWait : Nat
  /-- FAULT_REC_0..3, 64 bits each (Table 8.5). Reset 0. -/
  faultRec : Vector Word 4
  /-- SC_BKPT_0..1, 64 bits each (Table 8.5). Reset 0. -/
  bkpt : Vector Word 2
  /-- SC_DBG_SEL, 64 bits (Table 8.5). Reset 0. -/
  dbgSel : Word
  /-- SC_WDOG.TIMEOUT_US, 32 bits (Table 8.5). Reset 100,000. -/
  wdogUs : Nat
  /-- Counter that the free values of the core are applied to. The model's own field. DESIGN CHOICE 0. -/
  freeIdx : Nat
  deriving DecidableEq, Repr

/-- The core is halted in DOUBLE_FAULT (R203). -/
def CoreState.dfault (k : CoreState) : Bool := k.run == .doubleFault

/-- A zero accumulator. -/
def Acc.zero : Acc := { re := 0, im := 0 }

/-- A bank of zeros. -/
def Bank.zero : Bank :=
  { d := Vector.replicate 4 0, a3 := Acc.zero, a3w := Acc.zero, p := Vector.replicate 2 0, b := Vector.replicate 2 0,
    l := Vector.replicate 2 0, m := Vector.replicate 2 0, idx := 0, st := 0, lr := 0, rep := [] }

/-- No branch pending. -/
def Branch.none : Branch := { slots := 0, taken := false, target := 0, kind := .jump, pc := 0 }

/-- A core at reset (R181, R204, Tables 7.9 and 8.5). -/
def CoreState.init : CoreState :=
  { run := .reset, pc := 0, d := Vector.replicate 12 0, a := Vector.replicate 3 Acc.zero, aw := Vector.replicate 3 Acc.zero,
    p := Vector.replicate 6 0, b := Vector.replicate 6 0, l := Vector.replicate 6 0, m := Vector.replicate 6 0,
    main := Bank.zero, shadow := Bank.zero, bank := false, sp := 0, spLo := 0, spHi := 0, vbase := 0, ie := 0, iprio := 0,
    imask := 0, ipend := 0, spc := 0, fcause := 0, shadowVec := 0, pend := [], br := Branch.none, heldPend := [],
    heldBr := Branch.none, aborts := [], posted := [], stall := none, lc := none, holdCnt := 0, holdDone := false,
    holdOverrun := false, halting := false, stepReq := false, skipBkpt := false, dbgWait := false, cycles := 0,
    stallBank := 0, stallFab := 0, hits := 0, captures := 0, fabWaitMax := 0, eccCorr := 0, writeDrop := 0, ctlResult := .ok,
    irqClass := 0, irqPrio := Vector.replicate 4 0x1111111111111111, holdLimit := 16384, overrunCnt := 0, lastChan := 0,
    overrun := false, maxWait := 0, faultRec := Vector.replicate 4 0, bkpt := Vector.replicate 2 0, dbgSel := 0,
    wdogUs := 100000, freeIdx := 0 }

end Sys2Proof.Machine
end

