-- ==== Sys2Proof/Machine/StDoor.lean ====
section
/-! DEFINITION. State of the door drive (chapter 13). -/
namespace Sys2Proof.Machine

/-- The chopper states of Table 13.2 (R319). -/
inductive Chop where
  | idle | deadOn | blank | on | deadOff | slow | fast
  deriving DecidableEq, Repr

/-- Codes of Table 13.2. -/
def Chop.code : Chop → Nat
  | .idle => 0 | .deadOn => 1 | .blank => 2 | .on => 3 | .deadOff => 4 | .slow => 5 | .fast => 6

/-- One phase of a door axis. -/
structure DPhase where
  /-- Chopper state. Reset IDLE. -/
  chop : Chop
  /-- Current set-point I_x, mA (R318). Reset 0. -/
  iset : Rat
  /-- The drive in force is DRIVE_NEG. Reset false. -/
  neg : Bool
  /-- OFS_x, mA, and σ_x, 0.1 mV (R320, R321). Reset 0. -/
  ofs : Rat
  sigma : Rat
  /-- The loop delay τ, ns. Reset 0. -/
  tau : Rat
  /-- Instant of the last turn-on of the high gate and of the last turn-off, ns. Reset 0. -/
  onAt : Nat
  offAt : Nat
  /-- A turn-on has happened since energising. Reset false. -/
  fired : Bool
  /-- Slopes of the last cycle, mA per ns. Reset 0. -/
  sr : Rat
  sf : Rat
  /-- Carried time C, ns, and consecutive carried decisions (R322). Reset 0. -/
  carry : Rat
  carried : Nat
  /-- A timed pulse of this length, ns, is due. Reset none. -/
  timed : Option Rat
  /-- The comparator shows the current above its threshold. Reset false. -/
  above : Bool
  /-- Consecutive cycles above TH_HI at the end of blanking (Table 13.8). Reset 0. -/
  overCnt : Nat
  /-- Latest BEMF sample: instant, ns, and e_x, mV (R325). Reset none. -/
  bemf : Option (Nat × Rat)
  deriving DecidableEq, Repr

/-- One door axis of the door drive. -/
structure DoorAxis where
  a : DPhase
  b : DPhase
  /-- Table address in force. Reset 0. -/
  addr : Nat
  /-- T_A and T_B of the entry in force. Reset 0. -/
  ta : Int
  tb : Int
  /-- Uptime of the last address change, ns. Reset 0. -/
  changedAt : Nat
  /-- ENERGISED. Reset 0. -/
  energised : Bool
  /-- The estimator's sum Z over the servo period, N, and whether |v| ≥ EST_V_MIN held throughout (R326). Reset 0. -/
  zRe : Rat
  zIm : Rat
  n : Nat
  vOk : Bool
  /-- A valid estimate was formed in the present period; an obstruction waits for the servo instant. Reset false. -/
  fresh : Bool
  obs : Bool
  /-- An offset measurement is due (R321). Reset false. -/
  cal : Bool
  /-- EST_VALID, δ in 0.1°, ρ in 0.1 %. Reset 0. -/
  estValid : Bool
  delta : Int
  rho : Nat
  /-- Consecutive valid estimates that met a criterion, and STALL (R327). Reset 0. -/
  meets : Nat
  stall : Bool
  /-- Servo periods moved at |v| ≥ EST_V_MIN since start, obstruction or parameter change, up to 2. Reset 0. -/
  armed : Nat
  /-- Consecutive periods without a valid estimate at |v| ≥ EST_V_MIN. Reset 0. -/
  absent : Nat
  /-- NUDGE, obstructions since the axis was last IDLE at CLOSED_POS, and the pause: an obstruction stop waits (R329). Reset 0. -/
  nudge : Bool
  obsSince : Nat
  pausing : Bool
  /-- SHORT_PULSE_CNT, OBS_CNT, BRIDGE_CNT, 32 bits. Reset 0. -/
  shortCnt : Nat
  obsCnt : Nat
  bridgeCnt : Nat
  /-- BRIDGE_FAULT (Table 13.8), 0 = none; and whether its cause is still present. Reset 0. -/
  bridge : Nat
  bridgeOn : Bool
  /-- SEQ of the status record. Reset 0. -/
  seq : Nat
  deriving DecidableEq, Repr

/-- The door drive block (Table 13.4). -/
structure DoorState where
  doors : Vector DoorAxis 16
  /-- DD_STAT.RESULT. Reset OK. -/
  result : Status
  /-- DD_STAT.REFUSE_AT, 12 bits. Reset 0. -/
  refuseAt : Nat
  /-- DD_QUEUES.EVT_QID, 14 bits. Reset 0. -/
  evtQ : Nat
  /-- The axis records in force, by offset in the block. Reset empty. -/
  tabs : Memory
  /-- Checked records of a deferred APPLY. Reset none. -/
  next : Option Memory
  deriving DecidableEq, Repr

/-- A phase at rest. -/
def DPhase.init : DPhase :=
  { chop := .idle, iset := 0, neg := false, ofs := 0, sigma := 0, tau := 0, onAt := 0, offAt := 0, fired := false, sr := 0, sf := 0,
    carry := 0, carried := 0, timed := none, above := false, overCnt := 0, bemf := none }

/-- A door axis at reset. -/
def DoorAxis.init : DoorAxis :=
  { a := DPhase.init, b := DPhase.init, addr := 0, ta := 0, tb := 0, changedAt := 0, energised := false, zRe := 0, zIm := 0, n := 0,
    vOk := true, fresh := false, obs := false, cal := false, estValid := false, delta := 0, rho := 0, meets := 0, stall := false, armed := 0, absent := 0, nudge := false,
    obsSince := 0, pausing := false, shortCnt := 0, obsCnt := 0, bridgeCnt := 0, bridge := 0, bridgeOn := false, seq := 0 }

/-- The door drive at reset. -/
def DoorState.init : DoorState :=
  { doors := Vector.replicate 16 DoorAxis.init, result := .ok, refuseAt := 0, evtQ := 0, tabs := [], next := none }

end Sys2Proof.Machine
end

