-- ==== Sys2Proof/Machine/StFc.lean ====
section
/-! DEFINITION. State of the Forecast engine (chapter 16). -/
namespace Sys2Proof.Machine
open Sys2Proof

/-- A pending step: an input entry held (R404). -/
structure FcStep where
  /-- Position of its entry in the slot's input queue, for its acknowledgement. -/
  tag : Nat
  reset : Bool
  seq : Nat
  time : Nat
  /-- FEAT_0..7. -/
  feat : List Int
  deriving DecidableEq, Repr

/-- A stream (Table 16.3); its state, ring and head lie in Plaza SRAM. -/
structure FcStream where
  /-- MODEL. -/
  slot : Nat
  /-- SOURCE. -/
  source : Nat
  /-- RESET pending, FROZEN, FLAG_ACTIVE, VALID, FAULT. Reset false. -/
  reset : Bool
  frozen : Bool
  active : Bool
  valid : Bool
  fault : Bool
  lastSeq : Nat
  steps : Nat
  /-- TIMESTAMP. -/
  time : Nat
  /-- STATE_OFS, in 64-byte units. -/
  ofs : Nat
  /-- GAPS. -/
  gaps : Nat
  /-- HOLD. -/
  hold : Nat
  /-- Pending steps, oldest first. -/
  pending : List FcStep
  /-- OUT_0..3 as published at the last step, Q16.16. -/
  out : List Int
  /-- LEAK: the window (by the day its start falls in) of the kept minimum z, and that minimum. -/
  win : Option (Nat × Rat)
  /-- STEP of each ring entry. -/
  ring : Vector (Option Nat) 4
  /-- SEQ of its output record. -/
  outSeq : Nat
  /-- Sequence number of the device's own producer for it. The model's. -/
  fed : Nat
  deriving DecidableEq, Repr

/-- A batch of a chunk: its rows with their steps and the heads they start from (R405). -/
structure FcBatch where
  slot : Nat
  /-- The curve setting once the chunk has started (R401). -/
  coarse : Option Bool
  /-- Stream, steps, head bytes. -/
  rows : List (Nat × List FcStep × List Byte)
  deriving DecidableEq, Repr

/-- A slot. -/
structure FcSlot where
  /-- The record in force, 64 bytes. Reset empty. -/
  recd : List Byte
  /-- LOADED. Reset false. -/
  loaded : Bool
  /-- Input entries dequeued and not acknowledged, by tag, with whether each may be. Reset empty. -/
  ackWait : List (Nat × Bool)
  /-- Tag of the next entry. Reset 0. -/
  nextTag : Nat
  deriving DecidableEq, Repr

/-- One stream in a checkpoint (R424). -/
structure CkptStream where
  stream : Nat
  slot : Nat
  source : Nat
  version : Nat
  entry : FcStream
  state : List Byte
  head : List Byte
  deriving DecidableEq, Repr

/-- A waiting FC_STREAM_CTL operation. -/
structure FcCtlOp where
  op : Nat
  slot : Nat
  source : Nat
  stream : Nat
  deriving DecidableEq, Repr

/-- The Forecast engine. -/
structure FcState where
  /-- FC_STAT.RESULT and REFUSE_AT. Reset OK, 0. -/
  result : Status
  refuseAt : Nat
  /-- FC_STREAM_RES: RESULT, OP, STREAM. Reset OK, 0, 0. -/
  sResult : Status
  sOp : Nat
  sStream : Nat
  /-- FC_QUEUES. Reset 0. -/
  headQ : Nat
  adaptQ : Nat
  noticeQ : Nat
  /-- FC_COUNT and FC_COUNT2. Reset 0. -/
  steps : Nat
  dupCnt : Nat
  gapCnt : Nat
  noticeLost : Bool
  clampCnt : Nat
  staleUpd : Nat
  rejectUpd : Nat
  stateEcc : Nat
  writeDrop : Nat
  /-- FC_CKPT and its NVM copy. Reset 0. -/
  ckpt : Word
  ckptNvm : Word
  slots : Vector FcSlot 16
  /-- Streams in use, by index. Reset empty. -/
  streams : List (Nat × FcStream)
  /-- Batches that run or wait to run, the running one first. Reset empty. -/
  running : List FcBatch
  /-- A waiting STREAM_CTL operation. Reset none. -/
  waiting : Option FcCtlOp
  /-- Slot whose model is being loaded. Reset none. -/
  loading : Option Nat
  /-- A checkpoint being written, and the two images in flash with their order of writing. Reset none. -/
  ckptJob : Option (List CkptStream)
  ckptA : Option (Nat × List CkptStream)
  ckptB : Option (Nat × List CkptStream)
  /-- Clamped head updates of the hour: the hour of uptime, the count, and the count of each stream. Reset 0. -/
  clampHour : Nat
  clamps : List (Nat × Nat)
  /-- Count of each water pulse channel at the last post to its LEAK stream, with its time. The model's. Reset empty. -/
  pulseAt : List (Nat × Nat × Nat)
  deriving DecidableEq, Repr

/-- An empty slot. -/
def FcSlot.init : FcSlot := { recd := [], loaded := false, ackWait := [], nextTag := 0 }

/-- A stream as CREATE makes it. -/
def FcStream.fresh (slot source ofs : Nat) : FcStream :=
  { slot := slot, source := source, reset := false, frozen := false, active := false, valid := false, fault := false, lastSeq := 0
    steps := 0, time := 0, ofs := ofs, gaps := 0, hold := 0, pending := [], out := [0, 0, 0, 0], win := none
    ring := Vector.replicate 4 none, outSeq := 0, fed := 0 }

/-- The engine at reset (Table 16.8). -/
def FcState.init : FcState :=
  { result := .ok, refuseAt := 0, sResult := .ok, sOp := 0, sStream := 0, headQ := 0, adaptQ := 0, noticeQ := 0, steps := 0, dupCnt := 0
    gapCnt := 0, noticeLost := false, clampCnt := 0, staleUpd := 0, rejectUpd := 0, stateEcc := 0, writeDrop := 0, ckpt := 0, ckptNvm := 0
    slots := Vector.replicate 16 FcSlot.init, streams := [], running := [], waiting := none, loading := none, ckptJob := none
    ckptA := none, ckptB := none, clampHour := 0, clamps := [], pulseAt := [] }

end Sys2Proof.Machine
end

