-- ==== Sys2Proof/Machine/StHost.lean ====
section
/-! DEFINITION. State of the host and maintenance ports (chapter 4). -/
namespace Sys2Proof.Machine
open Sys2Proof

/-- How a window's prefetch stands (Table 4.4). -/
inductive Prefetch where
  /-- Complete with OK. -/
  | ok
  /-- In progress. -/
  | busy
  /-- To be issued when the posted write has completed (R98, R100). -/
  | waiting
  /-- Complete with RETRY. -/
  | retry
  /-- Complete with ABORT. -/
  | abort
  deriving DecidableEq, Repr

/-- A window into Plaza space (Table 4.9, R96). -/
structure Win where
  /-- WIN_ADDR_n.ADDR as a byte address, 40 bits. Reset 0. -/
  addr : Nat
  /-- WIN_ADDR_n.AUTO_INC. Reset 0. -/
  autoInc : Bool
  /-- The prefetch buffer, 64 bits. Reset 0. -/
  buf : Word
  /-- The prefetch's state. DESIGN CHOICE complete with OK at reset (log entry 21). -/
  pf : Prefetch
  /-- WIN_ADDR_n.PF_RESULT. Reset OK. -/
  pfResult : Status
  /-- The posted-write buffer: address and data (R98). Reset empty. -/
  wr : Option (Nat × Word)
  /-- WIN_ADDR_n.WR_RESULT. Reset OK. -/
  wrResult : Status
  deriving DecidableEq, Repr

/-- What one word of a frame carried: data, status byte and device CRC (R91, R92). -/
structure FrameWord where
  data : Word
  status : Nat
  crc : Nat
  deriving DecidableEq, Repr

/-- The host port (chapter 4). -/
structure HostState where
  /-- ATTN_CAUSE, 11 bits (Table 4.7). Reset 0. -/
  attnCause : Nat
  /-- ATTN_MASK.ENABLE, 11 bits (Table 4.8). Reset 0x207. -/
  attnMask : Nat
  /-- Status of the last register word a port carried (R16). Reset OK. -/
  status : Status
  /-- The words of the last frame a port carried, as the device drove them (R85, R91, R92). Reset empty. -/
  frame : List FrameWord
  /-- ID_UNIQUE: the DIE_ID, 64 bits, fused (Table 4.5). DESIGN CHOICE 1. -/
  dieId : Nat
  /-- ID_PART.CODE is 0x49, an HK7256-I; fused (Table 4.5). DESIGN CHOICE false: an HK7256-C. -/
  codeI : Bool
  /-- ID_REV.BOOTROM, 16 bits, fused (Table 4.5). DESIGN CHOICE 0. -/
  bootRom : Nat
  /-- HP_CFG.CRC_EN, banked: HP, MP (Table 4.6). Reset 0. -/
  crcEn : Vector Bool 2
  /-- HP_ERR.TRUNC_CNT, 16 bits, RC, banked (Table 4.6). Reset 0. -/
  truncCnt : Vector Nat 2
  /-- HP_ERR.FRAME_ERR_CNT, 16 bits, RC, banked (Table 4.6). Reset 0. -/
  frameErrCnt : Vector Nat 2
  /-- HP_ERR.CRC_ERR_CNT, 16 bits, RC, banked (Table 4.6). Reset 0. -/
  crcErrCnt : Vector Nat 2
  /-- The four windows (Table 4.9). -/
  win : Vector Win 4
  deriving DecidableEq, Repr

/-- A window at reset. -/
def Win.init : Win :=
  { addr := 0, autoInc := false, buf := 0, pf := .ok, pfResult := .ok, wr := none, wrResult := .ok }

/-- The ports at reset. -/
def HostState.init : HostState :=
  { attnCause := 0, attnMask := 0x207, status := .ok, frame := [], dieId := 1, codeI := false, bootRom := 0,
    crcEn := Vector.replicate 2 false, truncCnt := Vector.replicate 2 0, frameErrCnt := Vector.replicate 2 0,
    crcErrCnt := Vector.replicate 2 0, win := Vector.replicate 4 Win.init }

end Sys2Proof.Machine
end

