-- ==== Sys2Proof/Machine/StKerb.lean ====
section
/-! DEFINITION. State of the Kerb safety island (chapter 14). -/
namespace Sys2Proof.Machine

/-- Kerb's states (Table 14.1). -/
inductive KerbRun where
  | off | test | run | fault
  deriving DecidableEq, Repr

/-- Codes of Table 14.1. -/
def KerbRun.code : KerbRun → Nat
  | .off => 0 | .test => 1 | .run => 2 | .fault => 3

/-- One timer (R348). -/
structure KTimer where
  /-- Elapsed, µs, 32 bits. -/
  elapsed : Nat
  /-- Done. -/
  done : Bool
  /-- Enable at the last execution. -/
  last : Bool
  deriving DecidableEq, Repr

/-- One edge detector (R346). -/
structure KEdge where
  /-- Last sample; none = no execution yet, so the first one makes no edge. -/
  last : Option Bool
  /-- Output as last executed. -/
  out : Bool
  deriving DecidableEq, Repr

/-- Kerb. All of it is lost at every bring-up but RUN_EPOCH (R363). -/
structure KerbState where
  /-- KM_STATE.STATE. Reset OFF. -/
  run : KerbRun
  /-- KM_STATE.INT_FAULT, TEST_FAIL, COMPARE. Reset 0. -/
  intFault : Nat
  testFail : Nat
  compare : Bool
  /-- KM_STATE.SCAN_CNT, 32 bits. Reset 0. -/
  scanCnt : Nat
  /-- The KERB_PROGRAM payload in force, by offset, and its PROG_TAG. Reset empty, 0. -/
  prog : Memory
  progTag : Nat
  /-- The TRIP_PATHS payload in force, by offset, and its TRIP_TAG. Reset empty, 0. -/
  trips : Memory
  tripTag : Nat
  /-- KIN_0..191 after the glitch filter. Reset 0: the pull-downs (R364). -/
  kin : BitVec 192
  /-- The filtered values (R339). Reset 0. -/
  filt : BitVec 192
  /-- Rising edges of filtered inputs since the last input latch, by input (R349). Reset empty. -/
  rises : List (Nat × Nat)
  /-- Latched discrepancies, by even input; pairs that must show off on both channels first (R340). Reset 0. -/
  disc : Nat
  wait : Nat
  /-- The input latch of the present scan: logical inputs, filtered inputs, status lines, discrepancies, readback. Reset 0. -/
  latLog : Nat
  latFilt : BitVec 192
  latS : Nat
  latDisc : Nat
  rb : BitVec 32
  /-- O, P and C bits as the scan works on them, and as last committed (R344). Reset 0. -/
  o : Nat
  p : Nat
  c : Nat
  oCom : Nat
  pCom : Nat
  cCom : Nat
  /-- Flags F0–F255. Reset 0. -/
  flags : Nat
  timers : Vector KTimer 256
  edges : Vector KEdge 512
  /-- Counts K0–K127, 32 bits. Reset 0. -/
  counts : Vector Nat 128
  /-- ACC, the stack (top first) and the index of the next instruction (R346). Reset 0, empty, 0. -/
  acc : Bool
  stack : List Bool
  pc : Nat
  /-- Permits of the last commit, bit 4c + p (R350). Reset 0. -/
  permits : Nat
  /-- Output faults latched, active trip paths, latched trip paths. Reset 0. -/
  outFault : Nat
  active : Nat
  latched : Nat
  /-- Trip paths whose condition is false at the present scan's latch, and those FRST named in the scan. Reset 0. -/
  tripOff : Nat
  tripFrst : Nat
  /-- Cues of the present scan, and the pending buffer of 16 (R351). Reset empty. -/
  cues : List (List Byte)
  cueBuf : List (List Byte)
  /-- SEQ of the last cue and RUN_EPOCH (AON). Reset 0. -/
  cueSeq : Nat
  runEpoch : Nat
  /-- Cues lost since the last record 0x0504 and the uptime of that record, ns. Reset 0, none. -/
  lostNow : Nat
  lostAt : Option Nat
  /-- KM_STAT counters, 16 bits saturating. Reset 0. -/
  cueLostCnt : Nat
  outFaultCnt : Nat
  discCnt : Nat
  exchCnt : Nat
  /-- KM_EVENT, 9 bits, RC. Reset 0. -/
  event : Nat
  /-- The mirror words at 0x400–0x4A0, as last updated (R357). Reset 0. -/
  mirror : Vector Word 21
  deriving DecidableEq, Repr

/-- Kerb at reset. -/
def KerbState.init : KerbState :=
  { run := .off, intFault := 0, testFail := 0, compare := false, scanCnt := 0, prog := [], progTag := 0, trips := [], tripTag := 0,
    kin := 0, filt := 0, rises := [], disc := 0, wait := 0, latLog := 0, latFilt := 0, latS := 0, latDisc := 0, rb := 0, o := 0,
    p := 0, c := 0, oCom := 0, pCom := 0, cCom := 0, flags := 0, timers := Vector.replicate 256 ⟨0, false, false⟩,
    edges := Vector.replicate 512 ⟨none, false⟩, counts := Vector.replicate 128 0, acc := false, stack := [], pc := 0, permits := 0,
    outFault := 0, active := 0, latched := 0, tripOff := 0, tripFrst := 0, cues := [], cueBuf := [], cueSeq := 0, runEpoch := 0,
    lostNow := 0, lostAt := none, cueLostCnt := 0, outFaultCnt := 0, discCnt := 0, exchCnt := 0, event := 0,
    mirror := Vector.replicate 21 0 }

end Sys2Proof.Machine
end

