-- ==== Sys2Proof/Machine/StLedger.lean ====
section
/-! DEFINITION. State of the pulse inputs, M-Bus masters, sensor port, heat calculators and tenant ledgers (chapter 10). -/
namespace Sys2Proof.Machine

/-- One pulse input (R233, R234). -/
structure PulseChan where
  /-- FWD, 32 bits. Reset 0. -/
  fwd : Nat
  /-- REV, 32 bits. Reset 0. -/
  rev : Nat
  /-- FREQ reported, mHz. Reset 0. -/
  freq : Nat
  /-- FWD and REV already credited. Reset 0. -/
  lastFwd : Nat
  lastRev : Nat
  /-- Credited quantity below one unit; below 0 it is −REV_DEBT (R234). Reset 0. -/
  acc : Rat
  /-- Volume of the last second for a heat calculator. Reset 0. -/
  vol : Rat
  /-- Edges in the present gate: number, first and last instant, ns. Reset 0. -/
  gateN : Nat
  gateFirst : Nat
  gateLast : Nat
  deriving DecidableEq, Repr

/-- One sensor SPI channel (R240, R241). -/
structure SpiChan where
  /-- Result or temperature last published: raw value or m°C. Reset 0. -/
  value : Int
  /-- Number of the scan that gave the last good value; 0 = none. Reset 0. -/
  good : Nat
  /-- The channel has a sensor fault. Reset false. -/
  fault : Bool
  deriving DecidableEq, Repr

/-- One heat calculator (R242, R255). -/
structure HeatCalc where
  /-- Heat and cooling below 1 J not yet credited. Reset 0. -/
  accHeat : Rat
  accCool : Rat
  /-- LOW_DT_VOL, in the volume's unit. Reset 0. -/
  lowDt : Rat
  /-- FAULT_VOL. Reset 0. -/
  faultVol : Rat
  /-- A source fault is on. Reset false. -/
  fault : Bool
  deriving DecidableEq, Repr

/-- What the telegrams of one poll have given so far (R238). -/
structure MbusVals where
  vol : Option Int
  energy : Option Rat
  flow : Option Rat
  ret : Option Rat
  err : Option Int
  deriving DecidableEq, Repr

/-- One M-Bus slave (R237, R239, R254). -/
structure MbusSlave where
  /-- Reading that increments count from; none before the first valid one. Reset none. -/
  base : Option Int
  /-- FCB of the next REQ_UD2. Reset 1. -/
  fcb : Bool
  /-- SND_NKE has been answered since the cold bring-up. Reset false. -/
  nke : Bool
  /-- Centre time of the last valid reading. Reset 0. -/
  time : Nat
  /-- Published volume (mL), energy (J), temperatures (0.01 °C) and error flags. Reset 0. -/
  vol : Int
  energy : Int
  flow : Int
  ret : Int
  err : Int
  /-- Consecutive failed polls, 8 bits. Reset 0. -/
  failed : Nat
  /-- STATE: 0 never read, 1 valid, 2 fault. Reset 0. -/
  st : Nat
  deriving DecidableEq, Repr

/-- What a master waits for. -/
inductive MbusStage where
  | idle
  /-- 0xE5 to the selection that precedes SND_NKE. -/
  | selNke
  /-- 0xE5 to SND_NKE. -/
  | nke
  /-- 0xE5 to the selection that precedes REQ_UD2. -/
  | sel
  /-- RSP_UD. -/
  | req
  deriving DecidableEq, Repr

/-- One M-Bus master (R235 to R239). -/
structure MbusMaster where
  /-- MBUS_CFG.POLL_S, 16 bits. Reset 900. -/
  pollS : Nat
  /-- MBUS_CFG.RETRIES, 4 bits. Reset 2. -/
  retries : Nat
  /-- MBUS_CFG.BAUD, 3 bits. Reset 3. -/
  baud : Nat
  /-- MBUS_CFG.EN. Reset 0. -/
  en : Bool
  /-- MBUS_STAT.OK_CNT, TIMEOUT_CNT, REJECT_CNT, LATE_CNT, 16 bits saturating. Reset 0. -/
  okCnt : Nat
  timeoutCnt : Nat
  rejectCnt : Nat
  lateCnt : Nat
  /-- Slaves still to read in the round. Reset empty. -/
  todo : List Nat
  /-- The slave being polled. Reset none. -/
  cur : Option Nat
  stage : MbusStage
  /-- Sends of the present request. Reset 0. -/
  tries : Nat
  /-- Telegrams received of the present slave. Reset 0. -/
  telegrams : Nat
  /-- Readings of the present poll. -/
  vals : MbusVals
  /-- A round fell due while one ran or a search did (R237). Reset false. -/
  due : Bool
  /-- A secondary search runs, or waits for the round. Reset false. -/
  searching : Bool
  searchDue : Bool
  /-- The last telegram sent on MBUS_TXD. Reset empty. -/
  tx : List (BitVec 8)
  deriving DecidableEq, Repr

/-- A snapshot being written (R248, R249). -/
structure SnapJob where
  /-- KIND: 1 DAILY, 2 PERIOD, 3 INTERIM. -/
  kind : Nat
  /-- Slot A (false) or B of its pair. -/
  slotB : Bool
  /-- T and LOCAL. -/
  t : Nat
  localSec : Nat
  /-- The ledger records at T, by offset in the slot's record area. -/
  data : Memory
  deriving DecidableEq, Repr

/-- What takes effect at a demand-interval boundary (R251). -/
structure LocalCfg where
  /-- LOCAL_OFFSET_MIN, signed. -/
  offset : Int
  /-- DAILY_MIN. -/
  daily : Nat
  /-- BILL_DAY. -/
  billDay : Nat
  /-- DEMAND_MIN; 0 = none yet in force. -/
  demand : Nat
  deriving DecidableEq, Repr

/-- The ledger block. -/
structure LedgerState where
  /-- LDG_STAT.APPLY_RESULT. Reset OK. -/
  applyResult : Status
  /-- LDG_STAT.SNAP_RESULT. Reset OK. -/
  snapResult : Status
  /-- LDG_STAT.REFUSE_AT, 8 bits. Reset 0. -/
  refuseAt : Nat
  /-- LDG_STAT.NOTICE_LOST. Reset 0. -/
  noticeLost : Bool
  /-- LDG_TIME.CAL_OFFSET_NS, signed 64 bits. NVM; reads 0 until loaded. -/
  calOffset : Int
  /-- NVM copy of CAL_OFFSET_NS. DESIGN CHOICE 0. -/
  calOffsetNvm : Int
  /-- LDG_LOCAL as written. NVM; reads 0 until loaded. -/
  localReg : Word
  /-- NVM copy of LDG_LOCAL. DESIGN CHOICE 0. -/
  localNvm : Word
  /-- SPI_CFG.SCAN_MS, 16 bits. Reset 1,000. -/
  scanMs : Nat
  /-- LDG_NOTICE: EN and QID. Reset 0. -/
  noticeEn : Bool
  noticeQ : Nat
  /-- The tables in force, by offset in the block (R251). Reset empty. -/
  tabs : Memory
  /-- Checked tables and local settings that wait for the next whole second (R251). Reset none. -/
  next : Option (Memory × LocalCfg)
  /-- Local settings in force. -/
  loc : LocalCfg
  /-- Local settings that wait for a demand-interval boundary. Reset none. -/
  locNext : Option LocalCfg
  pulses : Vector PulseChan 64
  spi : Vector SpiChan 32
  /-- Scans run. Reset 0. -/
  scanNo : Nat
  heat : Vector HeatCalc 32
  masters : Vector MbusMaster 2
  /-- The slaves that have been polled, by index. Reset empty. -/
  slaves : List (Nat × MbusSlave)
  /-- Fractions below 1 µWh per ledger source, by 4 × ledger + source (R244). Reset empty. -/
  carry : List (Nat × List Rat)
  /-- Totals of each point already credited and its EPOCH; none before the first reading (R244). Reset none. -/
  credited : Vector (Option (Nat × List Nat)) 128
  /-- ΣE_IMP of each ledger at the start of the demand interval, by ledger. Reset empty. -/
  demBase : List (Nat × Nat)
  /-- Local date of the last DAILY snapshot, in days since 2000-01-01; none = none taken. Reset none. -/
  lastDaily : Option Nat
  /-- Snapshots being written, in order. Reset empty. -/
  snaps : List SnapJob
  /-- SEQ: snapshots taken since the device left Zenham. NVM. DESIGN CHOICE 0. -/
  snapSeq : Nat
  deriving DecidableEq, Repr

/-- A pulse input at rest. -/
def PulseChan.init : PulseChan :=
  { fwd := 0, rev := 0, freq := 0, lastFwd := 0, lastRev := 0, acc := 0, vol := 0, gateN := 0, gateFirst := 0, gateLast := 0 }

/-- An M-Bus slave not yet polled. -/
def MbusSlave.init : MbusSlave :=
  { base := none, fcb := true, nke := false, time := 0, vol := 0, energy := 0, flow := 0, ret := 0, err := 0, failed := 0, st := 0 }

/-- No reading. -/
def MbusVals.init : MbusVals := { vol := none, energy := none, flow := none, ret := none, err := none }

/-- A master at reset. -/
def MbusMaster.init : MbusMaster :=
  { pollS := 900, retries := 2, baud := 3, en := false, okCnt := 0, timeoutCnt := 0, rejectCnt := 0, lateCnt := 0, todo := [],
    cur := none, stage := .idle, tries := 0, telegrams := 0, vals := MbusVals.init, due := false, searching := false,
    searchDue := false, tx := [] }

/-- The ledger block at reset (Table 10.6). -/
def LedgerState.init : LedgerState :=
  { applyResult := .ok, snapResult := .ok, refuseAt := 0, noticeLost := false, calOffset := 0, calOffsetNvm := 0, localReg := 0,
    localNvm := 0, scanMs := 1000, noticeEn := false, noticeQ := 0, tabs := [], next := none,
    loc := { offset := 0, daily := 0, billDay := 0, demand := 0 }, locNext := none, pulses := Vector.replicate 64 PulseChan.init,
    spi := Vector.replicate 32 { value := 0, good := 0, fault := false }, scanNo := 0,
    heat := Vector.replicate 32 { accHeat := 0, accCool := 0, lowDt := 0, faultVol := 0, fault := false },
    masters := Vector.replicate 2 MbusMaster.init, slaves := [], carry := [], credited := Vector.replicate 128 none, demBase := [],
    lastDaily := none, snaps := [], snapSeq := 0 }

end Sys2Proof.Machine
end

