-- ==== Sys2Proof/Machine/StMotion.lean ====
section
/-! DEFINITION. State of the motion engine (chapter 12). -/
namespace Sys2Proof.Machine

/-- The axis states of Table 12.2 (R294). -/
inductive AxSt where
  | disabled | idle | moving | stopping | stopped | homing | geared | faulted
  deriving DecidableEq, Repr

/-- Codes of Table 12.2. -/
def AxSt.code : AxSt → Nat
  | .disabled => 0 | .idle => 1 | .moving => 2 | .stopping => 3 | .stopped => 4 | .homing => 5 | .geared => 6 | .faulted => 7

/-- Where a homing sequence stands (Table 12.7). -/
inductive HomeStep where
  /-- Step 2: toward the reference. -/
  | seek
  /-- The stop that ends step 2. -/
  | seekStop
  /-- Step 3: away from the reference. -/
  | back
  /-- Step 5: on to ARG + HOME_BACKOFF. -/
  | final
  deriving DecidableEq, Repr

/-- A dequeued command entry (Table 12.3). -/
structure MotCmd where
  /-- OP. -/
  op : Nat
  /-- FLAGS. -/
  flags : Nat
  /-- V_CAP. -/
  vcap : Nat
  /-- TARGET. -/
  target : Int
  /-- REQ_ID. -/
  req : Nat
  /-- ARG, as a signed number. -/
  arg : Int
  deriving DecidableEq, Repr

/-- One profiled axis: 16 door axes, then 8 car profiles (Table 12.1). -/
structure Axis where
  /-- STATE. Reset DISABLED. -/
  st : AxSt
  /-- The plan's position y, in u. Reset 0. -/
  y : Rat
  /-- The plan's velocity v, in u/s. Reset 0. -/
  v : Rat
  /-- The target x, or the kept target. Reset 0. -/
  x : Int
  /-- The plan has needed no irrational speed since its last rest. The model's own. Reset true. -/
  exact : Bool
  /-- V_CAP of the move; 0 = V_MAX. Reset 0. -/
  vcap : Nat
  /-- CAM_OFF and RELEVEL of the move. Reset 0. -/
  camOff : Bool
  relevel : Bool
  /-- REQ_ID of the command whose motion runs. Reset 0. -/
  req : Nat
  /-- The state STOPPING ends in. Reset STOPPED. -/
  after : AxSt
  /-- OBS_DEC replaces both decelerating ramps (R328). Reset false. -/
  obsDec : Bool
  /-- Set-points of the last two servo instants. Reset 0. -/
  sp : Int
  spPrev : Int
  /-- POS_VALID. Reset 0. -/
  posValid : Bool
  /-- FAULT (Table 12.14). Reset 0. -/
  fault : Nat
  /-- Limit inputs, active = true. Reset false. -/
  limLo : Bool
  limHi : Bool
  /-- A limit input became active since the last servo instant: the low one, the high one. Reset false. -/
  edgeLo : Bool
  edgeHi : Bool
  /-- The homing sequence: its step, its ARG, the position captured, and its time so far in µs. Reset none, 0, 0, 0. -/
  home : Option HomeStep
  homeArg : Int
  homeAt : Rat
  homeUs : Nat
  /-- Gear anchors M0 and Y0, GEAR_LAG, GEAR_SWITCH posted, GEAR_B_SIDE. Reset 0. -/
  m0 : Int
  y0 : Int
  lag : Int
  switched : Bool
  bSide : Bool
  /-- Commands dequeued and not yet executed (R296). Reset empty. -/
  cmds : List MotCmd
  /-- The copies of CAM_OPEN, CAM_CLOSE and the microstep table (R310). Reset empty. -/
  camO : Memory
  camC : Memory
  mstep : Memory
  /-- A TABLE_INVALIDATE waits for the servo instant. Reset false. -/
  reread : Bool
  /-- SEQ of the status record, 32 bits. Reset 0. -/
  seq : Nat
  deriving DecidableEq, Repr

/-- One escalator channel (R308). -/
structure EscChan where
  /-- Step-chain position, counts. Reset 0. -/
  count : Int
  /-- Counts of the last 100 ms, newest first. Reset empty. -/
  hist : List Int
  /-- Counts and handrail pulses of the last HR_WIN_MS, newest first. Reset empty. -/
  win : List (Int × Nat × Nat)
  /-- RUN at the last evaluation. Reset false. -/
  run : Bool
  /-- Milliseconds since RUN rose. Reset 0. -/
  runMs : Nat
  /-- Position at which RUN rose. Reset 0. -/
  runAt : Int
  /-- How long UNDERSPEED and the two handrail conditions have held, ms. Reset 0. -/
  underMs : Nat
  devL : Nat
  devR : Nat
  /-- Milliseconds since the last ESC_MS pulse. Reset 0. -/
  msAge : Nat
  /-- Position at which RUN fell, while the stop is measured. Reset none. -/
  stopAt : Option Int
  /-- Milliseconds without a count. Reset 0. -/
  quiet : Nat
  /-- Last stop distance, mm. Reset 0. -/
  stopMm : Nat
  /-- TRIPS, latched. Reset 0. -/
  trips : Nat
  /-- SEQ of the status record. Reset 0. -/
  seq : Nat
  deriving DecidableEq, Repr

/-- The motion block (Table 12.9). -/
structure MotionState where
  axes : Vector Axis 24
  esc : Vector EscChan 4
  /-- MOT_STAT.RESULT. Reset OK. -/
  result : Status
  /-- MOT_STAT.REFUSE_AT, 12 bits. Reset 0. -/
  refuseAt : Nat
  /-- MOT_QUEUES.EVT_QID and CMD_QID, 14 bits. Reset 0. -/
  evtQ : Nat
  cmdQ : Nat
  /-- The axis and escalator records in force, by offset in the block. Reset empty. -/
  tabs : Memory
  /-- Checked records of a deferred APPLY. Reset none. -/
  next : Option Memory
  /-- Position of each car profile, saved when MOTION is fenced with cause RESET (R313). Reset none. -/
  saved : Vector (Option Int) 8
  deriving DecidableEq, Repr

/-- A profiled axis at reset. -/
def Axis.init : Axis :=
  { st := .disabled, y := 0, v := 0, x := 0, exact := true, vcap := 0, camOff := false, relevel := false, req := 0, after := .stopped,
    obsDec := false, sp := 0, spPrev := 0, posValid := false, fault := 0, limLo := false, limHi := false, edgeLo := false,
    edgeHi := false, home := none, homeArg := 0, homeAt := 0, homeUs := 0, m0 := 0, y0 := 0, lag := 0, switched := false,
    bSide := false, cmds := [], camO := [], camC := [], mstep := [], reread := false, seq := 0 }

/-- An escalator channel at reset. -/
def EscChan.init : EscChan :=
  { count := 0, hist := [], win := [], run := false, runMs := 0, runAt := 0, underMs := 0, devL := 0, devR := 0, msAge := 0,
    stopAt := none, quiet := 0, stopMm := 0, trips := 0, seq := 0 }

/-- The motion block at reset. -/
def MotionState.init : MotionState :=
  { axes := Vector.replicate 24 Axis.init, esc := Vector.replicate 4 EscChan.init, result := .ok, refuseAt := 0, evtQ := 0,
    cmdQ := 0, tabs := [], next := none, saved := Vector.replicate 8 none }

end Sys2Proof.Machine
end

