-- ==== Sys2Proof/Machine/StLift.lean ====
section
/-! DEFINITION. State of the lift controller: car controllers and group dispatchers (chapter 11). -/
namespace Sys2Proof.Machine

/-- The car states of Table 11.1 (R260). -/
inductive CarSt where
  | off | parked | doors | running | held | inspection | recall | learn | fault
  deriving DecidableEq, Repr

/-- Codes of Table 11.1. -/
def CarSt.code : CarSt → Nat
  | .off => 0 | .parked => 1 | .doors => 2 | .running => 3 | .held => 4 | .inspection => 5 | .recall => 6 | .learn => 7 | .fault => 8

/-- What a stop serves (section Stop lists). -/
inductive StopKind where
  | car | up | down
  /-- Destination pickup with its direction: true = up. -/
  | pick (up : Bool)
  | drop
  deriving DecidableEq, Repr

/-- One call in a car's stop list. -/
structure StopCall where
  kind : StopKind
  landing : Nat
  /-- [0] front, [1] rear. -/
  side : Nat
  /-- CALL_ID; 0 for a car call, a parking trip or a recall. -/
  id : Nat
  /-- Destination and passengers of a pickup; 0 otherwise. -/
  dest : Nat
  pass : Nat
  deriving DecidableEq, Repr

/-- The door cycle of a car. -/
inductive DoorCycle where
  | closed
  /-- Opening, or reopening. -/
  | opening
  /-- Open, with the dwell left in µs. -/
  | dwell (us : Nat)
  | closing
  deriving DecidableEq, Repr

/-- What a car's run is for. -/
inductive RunKind where
  /-- A stop of its list. -/
  | stop
  /-- A parking trip (R277). -/
  | park
  /-- Recall travel (R288). -/
  | recall
  /-- The recall of a car travelling away stops first without opening (R288). -/
  | recallStop
  /-- TEST_RUN or INSP_MOVE (R287). -/
  | inspect
  /-- Learn run: reference, up pass, down pass, waiting for its completion, the move to landing 0 (R266). -/
  | learnRef
  | learnUp
  | learnDown
  | learnDone
  | learnHome
  /-- Correction run (R267). -/
  | correct
  deriving DecidableEq, Repr

/-- A reading of the drive's meter point (R276). -/
structure EnergyRead where
  imp : Int
  exp : Int
  epoch : Nat
  /-- VALID = 1, no GAP and fresh. -/
  good : Bool
  /-- Car position at the reading. -/
  pos : Int
  deriving DecidableEq, Repr

/-- One car controller. -/
structure Car where
  /-- STATE. Reset OFF. -/
  st : CarSt
  /-- DIR: 0 none, 1 up, 2 down. Reset 0. -/
  dir : Nat
  /-- Next stop and whether it is committed. Reset none, false. -/
  next : Option Nat
  committed : Bool
  /-- The stop list. Reset empty. -/
  calls : List StopCall
  /-- What the present run is for; none at rest. Reset none. -/
  runFor : Option RunKind
  /-- Position p and velocity, 0.1 mm and 0.1 mm/s. Reset 0. -/
  pos : Int
  vel : Rat
  /-- ORIGIN and SSI_ORIGIN (R262). Reset 0. -/
  origin : Int
  ssiOrigin : Int
  /-- Quadrature count c and unwrapped SSI value u. Reset 0. -/
  count : Int
  u : Int
  /-- Last raw SSI value; none before the first read. Reset none. -/
  raw : Option Nat
  /-- The first read takes u (R291). -/
  posValid : Bool
  /-- A reference run has set the position; the next edge gives POS_VALID (R267). Reset false. -/
  refd : Bool
  /-- Correction to apply at the next servo instant (R265). Reset 0. -/
  corr : Int
  corrLast : Int
  corrCnt : Nat
  /-- Consecutive periods with a position mismatch (R264). Reset 0. -/
  mism : Nat
  /-- Error-free µs, error-free SSI reads, µs of status PDOs, periods without one (Table 11.11, R278). Reset 0. -/
  encOkUs : Nat
  ssiOk : Nat
  pdoUs : Nat
  pdoMiss : Nat
  pdoSeen : Bool
  /-- The drive status word shows a fault. Reset false. -/
  driveBad : Bool
  /-- LOAD, %. Reset none. -/
  load : Option Nat
  /-- FAULT (Table 11.11). Reset 0. -/
  fault : Nat
  /-- LANDING when level. Reset none. -/
  landing : Option Nat
  /-- DZ_n. Reset false. -/
  dz : Bool
  /-- E_UP and E_DN, mWh/m; none = not valid. Reset none. -/
  eUp : Option Rat
  eDn : Option Rat
  /-- TRIPS. Reset 0. -/
  trips : Nat
  /-- The reading that started the trip, and the trip's direction up. Reset none. -/
  energy : Option EnergyRead
  energyUp : Bool
  /-- µs of the present trip, and its limit. Reset 0. -/
  tripUs : Nat
  tripMax : Nat
  /-- Door cycle and the sides it opens. Reset closed. -/
  door : DoorCycle
  sides : Nat
  /-- Advance opening is engaged (R333). Reset false. -/
  adv : Bool
  advSeen : Bool
  /-- µs PARKED in SERVICE (R277). Reset 0. -/
  idleUs : Nat
  /-- OUT_OF_SERVICE waits for the door cycle. Reset false. -/
  leaving : Bool
  /-- Call ids refused since the last report (R285). Reset 0. -/
  refusedId : Nat
  /-- A report was received in the last cycle. Reset false. -/
  reported : Bool
  /-- The recall of this car is under way, and the event of R288 has been posted. Reset false. -/
  recalling : Bool
  noRecall : Bool
  /-- State to return to when a permit rises (R261). Reset OFF. -/
  heldFrom : CarSt
  /-- The floor table in force, by offset (R268). Reset empty. -/
  floor : Memory
  /-- A new table waits for PARKED; a FLOOR_RELOAD is deferred. Reset false. -/
  adopt : Bool
  reload : Bool
  /-- Edges of a learn run: up pass, rising, position (R266). Reset empty. -/
  caps : List (Bool × Bool × Int)
  /-- REQ_ID of the learn run's command. Reset 0. -/
  learnReq : Nat
  /-- The last set-point sent to a CiA 417 drive, in drive units; none = none sent. Reset none. -/
  setPoint : Option Int
  /-- SEQ of the status record. Reset 0. -/
  seq : Nat
  deriving DecidableEq, Repr

/-- One registered hall or destination call (R271). -/
structure GroupCall where
  /-- CALL_ID. -/
  id : Nat
  /-- Destination call; otherwise hall call. -/
  isDest : Bool
  /-- Origin landing. -/
  origin : Nat
  /-- Destination landing, or 1 up, 2 down. -/
  destDir : Nat
  side : Nat
  pass : Nat
  /-- Centre time of registration, ms modulo 2^32. -/
  regMs : Nat
  /-- Uptime of registration, ns (R290). -/
  regAt : Nat
  /-- Car slot assigned. -/
  slot : Option Nat
  /-- The slot it was assigned in an earlier cycle, for REASSIGNED. -/
  was : Option Nat
  deriving DecidableEq, Repr

/-- A car report (Table 11.15). -/
structure CarReport where
  slot : Nat
  st : Nat
  dir : Nat
  next : Nat
  committable : Nat
  load : Nat
  flags : Nat
  pos : Int
  vel : Int
  dStop : Nat
  ttg : Nat
  eUp : Int
  eDn : Int
  refusedId : Nat
  /-- Landing maps: car calls, up, down. -/
  carMap : Nat
  upMap : Nat
  dnMap : Nat
  deriving DecidableEq, Repr

/-- One group. -/
structure Group where
  /-- Calls registered, oldest first. Reset empty. -/
  calls : List GroupCall
  /-- Reports of the present cycle. Reset empty. -/
  reports : List CarReport
  /-- Car calls shown by the last reports of the step, by slot and map (R280). Reset empty. -/
  seen : List (Nat × Nat)
  /-- Demand counts of the step: (landing, (up, down, dest, car)). Reset empty. -/
  counts : List (Nat × Nat × Nat × Nat × Nat)
  /-- Counts last received (R280). Reset empty. -/
  heard : List (Nat × Nat × Nat × Nat × Nat)
  /-- Island dispatch runs (R279). Reset false. -/
  island : Bool
  /-- Number of the local-time step whose counts run (R280). Reset 0. -/
  step : Nat
  deriving DecidableEq, Repr

/-- The lift block (Table 11.7). -/
structure LiftState where
  cars : Vector Car 8
  groups : Vector Group 16
  /-- LIFT_STAT.RESULT. Reset OK. -/
  result : Status
  /-- LIFT_STAT.REFUSE_AT, 12 bits. Reset 0. -/
  refuseAt : Nat
  /-- LIFT_QUEUES.EVT_QID and CMD_QID, 14 bits. Reset 0. -/
  evtQ : Nat
  cmdQ : Nat
  /-- The car and group records in force, by offset in the block. Reset empty. -/
  tabs : Memory
  /-- Checked records of a deferred APPLY. Reset none. -/
  pendingTabs : Option Memory
  /-- The call sequence of CALL_ID, 24 bits. Reset 0. -/
  callSeq : Nat
  /-- Last sequence number accepted from each source (R271). Reset empty. -/
  srcSeq : List (Nat × Nat)
  /-- The internal event queue from the motion engine and the door drive: type, axis, status, code, REQ_ID. Reset empty. -/
  evts : List (Nat × Nat × Status × Nat × Nat)
  /-- Registered ids not to register again, newest first (R280). Reset empty. -/
  known : List Nat
  /-- Cues for Bandstand not yet taken: cue number, car, SEQ, time; and the last SEQ (R368, R385). Reset empty, 0. -/
  cues : List (Nat × Nat × Nat × Nat)
  cueSeq : Nat
  deriving DecidableEq, Repr

/-- A car at reset. -/
def Car.init : Car :=
  { st := .off, dir := 0, next := none, committed := false, calls := [], runFor := none, pos := 0, vel := 0, origin := 0,
    ssiOrigin := 0, count := 0, u := 0, raw := none, posValid := false, refd := false, corr := 0, corrLast := 0, corrCnt := 0,
    mism := 0, encOkUs := 0, ssiOk := 0, pdoUs := 0, pdoMiss := 0, pdoSeen := false, driveBad := false, load := none, fault := 0,
    landing := none, dz := false, eUp := none, eDn := none, trips := 0, energy := none, energyUp := false, tripUs := 0, tripMax := 0,
    door := .closed, sides := 0, adv := false, advSeen := false, idleUs := 0, leaving := false, refusedId := 0, reported := false,
    recalling := false, noRecall := false, heldFrom := .off, floor := [], adopt := false, reload := false, caps := [],
    learnReq := 0, setPoint := none, seq := 0 }

/-- A group at reset. -/
def Group.init : Group := { calls := [], reports := [], seen := [], counts := [], heard := [], island := false, step := 0 }

/-- The lift block at reset. -/
def LiftState.init : LiftState :=
  { cars := Vector.replicate 8 Car.init, groups := Vector.replicate 16 Group.init, result := .ok, refuseAt := 0, evtQ := 0,
    cmdQ := 0, tabs := [], pendingTabs := none, callSeq := 0, srcSeq := [], evts := [], known := [], cues := [], cueSeq := 0 }

end Sys2Proof.Machine
end

