-- ==== Sys2Proof/Machine/StMeter.lean ====
section
/-! DEFINITION. State of electricity metering (chapter 9): the decimation of each input, the blocks that wait for delivery,
the serving firmware's samples, cycles and seconds, and the quick view. -/
namespace Sys2Proof.Machine

/-- The third-order sinc filter of one input (R207): three accumulators and three differences, modulo 2^32. -/
structure Cic where
  /-- Accumulators. Reset 0. -/
  a1 : Nat
  a2 : Nat
  a3 : Nat
  /-- Differences. Reset 0. -/
  d1 : Nat
  d2 : Nat
  d3 : Nat
  deriving DecidableEq, Repr

/-- The decimation of one input in the NIGHT island. -/
structure InputHw where
  /-- First stage. -/
  cic : Cic
  /-- The last 510 samples at 32 kHz, newest first: the second stage's delay line. Reset empty (zeros). -/
  fir : List Int
  deriving DecidableEq, Repr

/-- One 10 ms block of 80 samples of every input, decimated (R208). -/
structure MBlock where
  /-- Represented instant of the block's end, ns. -/
  endTime : Int
  /-- Samples in Q1.31 by input. -/
  samples : List (List Int)
  deriving DecidableEq, Repr

/-- The corrections of one input (R209). -/
structure CorrState where
  /-- y of the last sample. Reset 0. -/
  y : Rat
  /-- z of the last four samples, newest first. Reset zeros. -/
  z : List Rat
  deriving DecidableEq, Repr

/-- One corrected sample of every input. -/
structure Smp where
  /-- Represented instant, ns. -/
  t : Int
  /-- Corrected values in µA (inputs 0–127) and µV (inputs 128–159). -/
  x : List Rat
  deriving DecidableEq, Repr

/-- One voltage set as a serving core follows it (R210, R211). -/
structure VSetState where
  /-- VLOSS. Reset false. -/
  vloss : Bool
  /-- FREQ_INVALID. Reset false. -/
  finv : Bool
  /-- PHASE_SEQ. Reset false. -/
  seqRev : Bool
  /-- Start of the open cycle, ns. Reset none. -/
  start : Option Rat
  /-- The last positive-going crossing, ns. Reset none. -/
  cross : Option Rat
  /-- Consecutive valid cycles seen while frequency-invalid. Reset 0. -/
  good : Nat
  /-- Position in the fixed cycle lengths of 133, 133, 134. Reset 0. -/
  fixedPos : Nat
  /-- Ending crossings of cycles, by second: first, last and number. Reset empty. -/
  ends : List (Nat × Rat × Rat × Nat)
  /-- Crossings kept for a harmonic analysis that runs. Reset empty. -/
  marks : List Rat
  deriving DecidableEq, Repr

/-- What one point gathers for one centre-time second. -/
structure SecAcc where
  /-- Energies of the second: import, export, four quadrants, apparent, in µWh, µvarh, µVAh. -/
  e : List Rat
  /-- Parts of the second its samples stand for, in ns. -/
  w : Rat
  /-- Samples. -/
  n : Nat
  /-- Sums of squares of the element voltages and currents. -/
  u2 : List Rat
  i2 : List Rat
  /-- Some cycle of the second added energy (NOLOAD is its absence). -/
  loaded : Bool
  deriving DecidableEq, Repr

/-- One meter point as its serving firmware follows it. -/
structure PointSt where
  /-- Energy below 1 µWh not yet in the record's registers, for the seven registers (R228). -/
  residue : List Rat
  /-- Seconds not yet complete, by second. -/
  secs : List (Nat × SecAcc)
  /-- Totals at the end of the last complete second. -/
  secE : List Nat
  /-- Seconds completed. -/
  count : Nat
  /-- Centre time of the end of the last complete second. -/
  secEnd : Nat
  /-- Energy of an epoch that R220 ended and that no ledger has been credited with yet (R244). -/
  owed : List Nat
  deriving DecidableEq, Repr

/-- The metering firmware of one serving core. -/
structure MeterCore where
  /-- Corrections by input. -/
  corr : List CorrState
  /-- Corrected samples from the oldest open cycle on, oldest first. -/
  hist : List Smp
  /-- The eight voltage sets. -/
  sets : Vector VSetState 8
  /-- Seconds that contain a gap. -/
  gapSecs : List Nat
  deriving DecidableEq, Repr

/-- A harmonic analysis in progress (R217). -/
structure HarmRun where
  point : Nat
  /-- Represented instant at which it was requested. -/
  since : Int
  deriving DecidableEq, Repr

/-- The quick view's copy of one point (Table 9.6). -/
structure QuickView where
  /-- MQ_STATUS.SEQ, 32 bits. -/
  seq : Nat
  /-- MQ_STATUS.FLAGS, 7 bits. -/
  flags : Nat
  /-- MQ_TIME. -/
  time : Nat
  /-- MQ_UI_0..2, MQ_PQ, MQ_SPF. -/
  ui : Vector Word 3
  pq : Word
  spf : Word
  /-- MQ_E_IMP, MQ_E_EXP, MQ_EQ_0..3, MQ_E_APP. -/
  e : Vector Nat 7
  deriving DecidableEq, Repr

/-- Electricity metering. -/
structure MeterState where
  /-- Decimation of inputs 0–159. -/
  inputs : Vector InputHw 160
  /-- MTR_IN_FAULT_0..2, one bit per input. Reset 0. -/
  stuck : Nat
  /-- MTR_IN_SAT_0..2, one bit per input. Reset 0. -/
  sat : Nat
  /-- MTR_STAT.BLOCKS, 32 bits. Reset 0. -/
  blocks : Nat
  /-- MTR_STAT.DROPPED, 16 bits saturating. Reset 0. -/
  dropped : Nat
  /-- MTR_STAT.GAPS, 16 bits saturating. Reset 0. -/
  gaps : Nat
  /-- Blocks that wait for SC_0 and for SC_1, at most 4 each (R208). Reset empty. -/
  wait : Vector (List MBlock) 2
  /-- The firmware of SC_0 and SC_1. -/
  cores : Vector MeterCore 2
  /-- The 128 points. -/
  points : Vector PointSt 128
  /-- Samples are processed: from step 8 of a bring-up on (R229). Reset false. -/
  running : Bool
  /-- Instant from which energy is added; none until the first sample is processed (R229). Reset none. -/
  energyFrom : Option Int
  /-- The metering-start gap record has been written (R229). Reset false. -/
  startLogged : Bool
  /-- End of the last gap or DORMANT record, ns (R229). Reset 0. -/
  lastGap : Int
  /-- Instant of a REFCLK loss not yet relocked (R227). Reset none. -/
  refLoss : Option Int
  /-- MQ_SEL.HOLD. Reset 0. -/
  hold : Bool
  /-- MQ_SEL.POINT, 7 bits. Reset 0. -/
  sel : Nat
  /-- MQ_STATUS to MQ_E_APP. Reset 0. -/
  quick : QuickView
  /-- MQ_HARM.RESULT. Reset OK. -/
  harmResult : Status
  /-- MQ_HARM.POINT, 7 bits. Reset 0. -/
  harmPoint : Nat
  /-- The analysis in progress. Reset none. -/
  harm : Option HarmRun
  /-- METER_EVENT.EVENT, 8 bits. Reset 0. -/
  event : Nat
  /-- METER_EVENT_EN.ENABLE, 8 bits. Reset 0x3D. -/
  eventEn : Nat
  deriving DecidableEq, Repr

/-- A sinc stage at rest. -/
def Cic.init : Cic := { a1 := 0, a2 := 0, a3 := 0, d1 := 0, d2 := 0, d3 := 0 }

/-- A set not yet followed. -/
def VSetState.init : VSetState :=
  { vloss := false, finv := false, seqRev := false, start := none, cross := none, good := 0, fixedPos := 0, ends := [], marks := [] }

/-- A point with no second complete. -/
def PointSt.init : PointSt :=
  { residue := List.replicate 7 0, secs := [], secE := List.replicate 7 0, count := 0, secEnd := 0, owed := List.replicate 7 0 }

/-- A second with nothing gathered. -/
def SecAcc.init : SecAcc :=
  { e := List.replicate 7 0, w := 0, n := 0, u2 := List.replicate 3 0, i2 := List.replicate 3 0, loaded := false }

/-- A serving core's firmware at its start. -/
def MeterCore.init : MeterCore :=
  { corr := List.replicate 160 { y := 0, z := [0, 0, 0, 0] }, hist := [], sets := Vector.replicate 8 VSetState.init, gapSecs := [] }

/-- The quick view at reset. -/
def QuickView.init : QuickView :=
  { seq := 0, flags := 0, time := 0, ui := Vector.replicate 3 0, pq := 0, spf := 0, e := Vector.replicate 7 0 }

/-- Metering at reset (Table 9.6). -/
def MeterState.init : MeterState :=
  { inputs := Vector.replicate 160 { cic := Cic.init, fir := [] }, stuck := 0, sat := 0, blocks := 0, dropped := 0, gaps := 0,
    wait := Vector.replicate 2 [], cores := Vector.replicate 2 MeterCore.init, points := Vector.replicate 128 PointSt.init,
    running := false, energyFrom := none, startLogged := false, lastGap := 0, refLoss := none, hold := false, sel := 0,
    quick := QuickView.init, harmResult := .ok, harmPoint := 0, harm := none, event := 0, eventEn := 0x3D }

end Sys2Proof.Machine
end

