-- ==== Sys2Proof/Machine/StPkg.lean ====
section
/-! DEFINITION. State of the balls, supplies and test access port of chapter 20. -/
namespace Sys2Proof.Machine

/-- The TAP instructions of R497. -/
inductive TapInstr where
  | bypass | idcode | samplePreload | extest | clamp | highz
  deriving DecidableEq, Repr

/-- Supplies, balls and TAP (chapter 20). -/
structure PkgState where
  /-- Rails whose monitor alarm is present (R503). Reset empty. -/
  alarms : List Rail
  /-- PWR_EN_0..3 (Table 20.9), 4 bits. Reset 0. -/
  pwrEn : Nat
  /-- RESET_OUT_N (Table 20.9). Reset low. -/
  resetOutN : Bool
  /-- The device holds itself in reset after a failed rail check (R504). Reset false. -/
  railHold : Bool
  /-- BLV_RST_N_P and BLV_RST_N_Q (Table 20.9). Reset low. -/
  blvRstN : Bool
  /-- PHY_REFCLK_P and _Q run (Table 20.9). Reset false. -/
  phyRefclk : Bool
  /-- Basic status last read from the PHY of port P, 16 bits (Table 20.9). Reset 0. -/
  phyP : Nat
  /-- Basic status last read from the PHY of port Q, 16 bits. Reset 0. -/
  phyQ : Nat
  /-- BLV_LED_P driven low: code-group synchronisation (Table 20.9). Reset false. -/
  ledP : Bool
  /-- BLV_LED_Q driven low. Reset false. -/
  ledQ : Bool
  /-- XSPI_0_WP_N and XSPI_1_WP_N high while their flash is programmed (Table 20.9). Reset low. -/
  wpN : Vector Bool 2
  /-- The instruction the TAP executes (R497). Reset IDCODE. -/
  tap : TapInstr
  /-- The value last captured for TDO: bypass bit, IDCODE or boundary cells. Reset 0. -/
  tdo : Nat
  /-- The boundary register's preloaded output values. Reset empty. -/
  preload : List Bool
  /-- The boundary register drives the balls (EXTEST or CLAMP in force). Reset false. -/
  scanDrives : Bool
  /-- The balls float (HIGHZ in force). Reset false. -/
  scanFloats : Bool
  /-- Silicon revision: false = A0, true = A1 (R497, ID_REV). Fused. DESIGN CHOICE A0. -/
  revA1 : Bool
  deriving DecidableEq, Repr

end Sys2Proof.Machine
end

