-- ==== Sys2Proof/Machine/StPwm.lean ====
section
/-! DEFINITION. State of the filtered PWM outputs (chapter 17). -/
namespace Sys2Proof.Machine

/-- A channel record as Table 17.2 lays it out. -/
structure PwmRec where
  /-- FLAGS[0]. -/
  inUse : Bool
  /-- FLAGS[1]. -/
  underrunSafe : Bool
  /-- SOURCE[1:0]: 0 REGISTER, 1 QUEUE, 2 STROBE, 3 GENERATOR. -/
  source : Nat
  /-- SOURCE[3:2]: timebase or group. -/
  sel : Nat
  /-- SOURCE[6:4]: generator 1–3. -/
  gen : Nat
  /-- HOLD_PERIODS. -/
  holdPeriods : Nat
  /-- UNDERRUN_LIMIT. -/
  underrunLimit : Nat
  /-- QID. -/
  qid : Nat
  /-- SLEW. -/
  slew : Nat
  /-- PHASE. -/
  phase : Nat
  /-- LO. -/
  lo : Nat
  /-- HI. -/
  hi : Nat
  /-- STEP. -/
  step : Nat
  /-- NDIV. -/
  ndiv : Nat
  /-- SEED. -/
  seed : Nat
  deriving DecidableEq, Repr

/-- A hold of R433: the pending code and how many load points remain. -/
structure PwmHold where
  code : Nat
  left : Nat
  deriving DecidableEq, Repr

/-- One PWM channel (the pipeline of chapter 17, section Model, and Table 17.1). -/
structure PwmChan where
  /-- The applied channel record. Reset not IN_USE. -/
  recd : PwmRec
  /-- A record taken by the last APPLY that enters at the next load point (R438). Reset none. -/
  newRec : Option PwmRec
  /-- PWM_CODE_n, 16 bits: register target or staged code. Reset 0. -/
  code : Nat
  /-- Targets that have reached the block and not yet entered: arrival (uptime ns) and code (R428). Reset empty. -/
  arrivals : List (Nat × Nat)
  /-- T: the latest target entered. Reset 0. -/
  target : Nat
  /-- D: the held target. Reset 0. -/
  held : Nat
  /-- A: the applied code. Reset 0. -/
  applied : Nat
  /-- The hold of R433. Reset none. -/
  hold : Option PwmHold
  /-- The next target to enter skips the hold (R437). Reset true. -/
  fresh : Bool
  /-- Σ: the 7-bit dither accumulator (R425). Reset 0. -/
  dither : Nat
  /-- C: the carry, −1..1 (R426). Reset 0. -/
  carry : Int
  /-- e: counts the ball is high in the present output period (R426, R427). Reset 0. -/
  high : Nat
  /-- G: the generator's value (R432). Reset 0. -/
  gen : Nat
  /-- The triangle rises. Reset true. -/
  rising : Bool
  /-- The noise LFSR, 32 bits. Reset 0. -/
  lfsr : Nat
  /-- Load points since the LFSR last advanced. Reset 0. -/
  ndivCnt : Nat
  /-- PWM_OUT_n.CAUSE of a faulted channel: 1–3; none = not faulted (R441). Reset none. -/
  fault : Option Nat
  /-- The safe code has entered since the channel became safe (R435). Reset false. -/
  safeIn : Bool
  /-- The channel was safe or held low at its last load point (R437). Reset true. -/
  wasSafe : Bool
  /-- Consecutive empty ticks (R429). Reset 0. -/
  emptyRun : Nat
  /-- UNDERRUN_CNT, 16 bits, RC. Reset 0. -/
  underrunCnt : Nat
  /-- STALE_CNT, 16 bits, RC. Reset 0. -/
  staleCnt : Nat
  /-- MAJOR_CNT, 16 bits, RC. Reset 0. -/
  majorCnt : Nat
  /-- CANCEL_CNT, 16 bits, RC. Reset 0. -/
  cancelCnt : Nat
  deriving DecidableEq, Repr

/-- The PWM block (Table 17.1). -/
structure PwmState where
  /-- The 32 channels. -/
  chans : Vector PwmChan 32
  /-- PWM_TB_g as written. Reset RATE_MILLIHZ 1,000. -/
  tbReg : Vector Word 4
  /-- PWM_TB_g in force since the last APPLY. -/
  tb : Vector Word 4
  /-- PWM_STAT.RESULT. Reset OK. -/
  result : Status
  /-- PWM_STAT.REFUSE_AT, 12 bits. Reset 0. -/
  refuseAt : Nat
  /-- Safe codes in force (SAFE_VALUES in NVM, loaded in bring-up step 4). Reset 0. -/
  safe : Vector Nat 32
  deriving DecidableEq, Repr

end Sys2Proof.Machine
end

