-- ==== Sys2Proof/Machine/State.lean ====
section
/-! DEFINITION. The whole state of the device as plain data, its reset value, and the ways a step can stop. -/
namespace Sys2Proof.Machine
open Sys2Proof

/-- The faults a step can end in. None: every command of the table has an effect the spec gives, so no meaning
raises one; the type keeps one named reason for a command stream no sender can produce. -/
inductive Fault where
  /-- Raised by no meaning (safe: a run that would stop here stops nowhere). -/
  | unreachable
  deriving DecidableEq, Repr

/-- The refusals a step can end in. -/
inductive Refusal where
  /-- Raised only by an arm of `exec` whose command has no meaning yet (safe: the machine stops). -/
  | notModelled (mnemonic : String)
  deriving DecidableEq, Repr

/-- The device. -/
structure State where
  /-- Commands waiting, first in, first out. The model's own field. Reset empty. -/
  pending : List Instr
  /-- Centre time, RTC, TIME_PPS. -/
  time : TimeState
  /-- Major mode and bring-up (chapter 2). -/
  mode : ModeState
  /-- Clocks (chapter 3). -/
  clock : ClockState
  /-- The 16 power islands (chapter 3), by the index of R44. -/
  isl : Vector Island 16
  /-- The host and maintenance ports (chapter 4). -/
  host : HostState
  /-- The event log's head (chapter 5). -/
  log : LogState
  /-- The consent controller and firmware trust (chapter 5). -/
  consent : ConsentState
  /-- Arcade (chapter 6). -/
  arc : ArcadeState
  /-- The eight Signal Cores (chapters 7 and 8). -/
  cores : Vector CoreState 8
  /-- Electricity metering (chapter 9). -/
  meter : MeterState
  /-- Pulse inputs, M-Bus, sensors, heat and ledgers (chapter 10). -/
  ldg : LedgerState
  /-- The lift controller (chapter 11). -/
  lift : LiftState
  /-- The motion engine (chapter 12). -/
  motion : MotionState
  /-- The door drive (chapter 13). -/
  door : DoorState
  /-- The Kerb island (chapter 14). -/
  kerb : KerbState
  /-- Bandstand (chapter 15). -/
  bs : BsState
  /-- The Forecast engine (chapter 16). -/
  fc : FcState
  /-- The PWM block (chapter 17). -/
  pwm : PwmState
  /-- The Boulevard block (chapter 18). -/
  blv : BlvState
  /-- Boulevard protocol engines (chapter 18). -/
  link : BlvLink
  /-- Balls, supplies and TAP (chapter 20). -/
  pkg : PkgState
  /-- Plaza space: SRAM, NVM, core memories and the tables of the engine blocks, by 40-bit address (Table 19.3). -/
  mem : Memory
  /-- Addresses of the 64-bit words that hold an uncorrectable ECC error (R485). Reset empty. -/
  ecc : List Nat
  /-- Status and data of the last fabric reply (R140, R475, R485). Reset OK, 0. -/
  reply : PortReply
  deriving DecidableEq, Repr

/-- Time at reset. -/
def TimeState.init : TimeState :=
  { uptime := 0, centre := 0, centreValid := false, lineage := 0, rtcSec := 0, rtcNs := 0, rtcValid := false,
    rtcOffset := 0, rtcOffsetNvm := 0, pps := false, ppsFall := 0 }

/-- Modes at reset (Tables 2.7, 2.9, 2.10, 2.11). -/
def ModeState.init : ModeState :=
  { mode := .bringup, prev := .bringup, entryCause := 0x01, entryTime := 0, warm := false, recallPending := false,
    pendingReq := none, reqSource := .hp, reqResult := .ok, step := 1, failStep := 0, failCode := 0, islandFail := 0,
    elapsedFrozen := none, bringupStart := 0, nvmCorrected := false, faultCause := 0, kerbCompare := false,
    cfg := 0, cfgNvm := 0, limits := 0x0000070800780258, gapOpen := false, wakeCalls := 0,
    recallAfterCommit := false, recallRequested := false, updateFromSafestop := false }

/-- A stopped PLL. -/
def Pll.init (hz : Nat) : Pll :=
  { running := false, locked := false, bypass := false, held := false, changing := false, stair := 15,
    target := hz, bypassHz := 0, lastTrip := none }

/-- Clocks at reset (Tables 3.4 to 3.7). -/
def ClockState.init : ClockState :=
  { pll := #v[Pll.init 24576000, Pll.init 200000000, Pll.init 24576000, Pll.init 400000000, Pll.init 125000000],
    kerbOsc := false, refclk := false, refclkLost := false, targetMhz := 0, targetMhzNvm := some 800, family := 0,
    familyNvm := some 0, monTrip := 0, lockLoss := 0, refclkEvent := false, coreDone := false, audioDone := false,
    windowS := 10, restartMax := 3, initTimeout := 8, powerMw := 0, dutyTicks := 0 }

/-- An island at reset: Off. -/
def Island.init : Island :=
  { st := .off, fence := none, epoch := 0, restarts := 0, restartTimes := [], resetPending := false,
    heldPending := false, recoverPending := false, latched := false, faulted := false, supplyAlarm := false, clockHeld := false,
    refLost := false, wdog := 0, latchedBells := [] }

/-- The consent controller at reset, with the factory content of R124 and R128. -/
def ConsentState.init : ConsentState :=
  { scopes := Vector.replicate 8 { phase := .idle, result := 0, proposer := .hp, confirmer := none, length := 0,
                                   offset := 0, digest := 0, mask := 0, window := 0, deadline := 0 },
    digest := Vector.replicate 4 0, digestBy := Vector.replicate 4 none, sel := 0, lockHit := false, lastRefusal := 0,
    mismatch := 0, windowS := 0, nvmLoaded := false, bMask := Vector.replicate 8 7, sealCount := 0, calTag := 0x50EF9B79,
    floors := Vector.replicate 5 0, keys := Vector.replicate 4 none, slot := 0, fwVersion := 0,
    boot := Vector.replicate 2 none, configImage := none, stored := [], unchecked := true, lost := [], kerbProgramNew := false, tripPathsNew := false,
    windowNvm := 120 }

/-- Arcade at reset (Table 6.6). -/
def ArcadeState.init : ArcadeState :=
  { queues := [], qSel := 0x3FFF, entry := Vector.replicate 8 0, peek := none, copy := none, action := none,
    reloadResult := .ok, hostRdy0 := 0, hostRdy1 := 0, quarCount := 0, noticeLost := false,
    arcSel := Vector.replicate 16 0, reply := ⟨.ok, 0⟩ }

/-- A channel record that is not in use. -/
def PwmRec.unused : PwmRec :=
  { inUse := false, underrunSafe := false, source := 0, sel := 0, gen := 0, holdPeriods := 0, underrunLimit := 0,
    qid := 0, slew := 0, phase := 0, lo := 0, hi := 0, step := 0, ndiv := 0, seed := 0 }

/-- A PWM channel at reset. -/
def PwmChan.init : PwmChan :=
  { recd := PwmRec.unused, newRec := none, code := 0, arrivals := [], target := 0, held := 0, applied := 0,
    hold := none, fresh := true, dither := 0, carry := 0, high := 0, gen := 0, rising := true, lfsr := 0,
    ndivCnt := 0, fault := none, safeIn := false, wasSafe := true, emptyRun := 0, underrunCnt := 0, staleCnt := 0,
    majorCnt := 0, cancelCnt := 0 }

/-- The PWM block at reset (Table 17.1). -/
def PwmState.init : PwmState :=
  { chans := Vector.replicate 32 PwmChan.init, tbReg := Vector.replicate 4 1000, tb := Vector.replicate 4 1000,
    result := .ok, refuseAt := 0, safe := Vector.replicate 32 0 }

/-- The Boulevard block at reset (Table 18.7). -/
def BlvState.init : BlvState :=
  { ring := .down, centre := 0, memberVer := 0, members := [], nextMembers := none,
    dispatcher := Vector.replicate 16 none, nextDispatcher := none, lapAt := 0, self := none, addr := 0, left := false,
    roleMismatch := false, dupAddr := false, goodCycles := 0, refused := false, wrapP := false, wrapQ := false,
    loopNs := 0, lastStep := 0, offsetPs := 0, cfg := 0x80000000, cfgNvm := 0x80000000, healCnt := 0, crcCnt := 0,
    retryCnt := 0, dropCnt := 0, txqReg := 0, txq := 0, hosted := 0,
    ports := Vector.replicate 64 { qid := 0, inUse := false, bufBase := 0 } }

/-- The Boulevard engines at reset. -/
def BlvLink.init : BlvLink :=
  { confirmTag := 0, confirmStatus := .ok, confirmReason := 0, confirmPending := false, confirmTarget := 0, outA := none, outB := none,
    cycle := 0, corr := 0, hopA := 0, hopB := 0, goodMarkers := 0, lastMarker := 0, kerbSeq := 0, kerbBits := [],
    kerbSeen := [], kerbBack := false, txSeq := Vector.replicate 4 0, inFlight := Vector.replicate 4 none, own := [],
    rxSeq := [], bothWays := 0, roleTag := 0x0087BDE5, lineageKept := 0, freeIdx := 0 }

/-- Supplies, balls and TAP at reset (Table 20.9). -/
def PkgState.init : PkgState :=
  { alarms := [], pwrEn := 0, resetOutN := false, railHold := false, blvRstN := false, phyRefclk := false, phyP := 0,
    phyQ := 0, ledP := false, ledQ := false, wpN := Vector.replicate 2 false, tap := .idcode, tdo := 0, preload := [],
    scanDrives := false, scanFloats := false, revA1 := false }

/-- The device right after reset: BRINGUP, step 1 in progress. -/
def State.reset : State :=
  { pending := [], time := TimeState.init, mode := ModeState.init, clock := ClockState.init,
    isl := (Vector.replicate 16 Island.init).set 0 { Island.init with st := .on },
    host := HostState.init, log := { seq := 0, head := 0 }, consent := ConsentState.init, arc := ArcadeState.init,
    cores := Vector.replicate 8 CoreState.init, meter := MeterState.init, ldg := LedgerState.init, lift := LiftState.init, motion := MotionState.init,
    door := DoorState.init, kerb := KerbState.init, bs := BsState.init, fc := FcState.init, pwm := PwmState.init, blv := BlvState.init, link := BlvLink.init,
    pkg := PkgState.init, mem := factoryMem, ecc := [], reply := ⟨.ok, 0⟩ }

end Sys2Proof.Machine
end

