-- ==== Sys2Proof/Machine/Ops.lean ====
section
/-! DEFINITION. Operations every family shares: Plaza addresses, attention causes, island queries, the event log and
the recorded replies. -/
namespace Sys2Proof.Machine
open Sys2Proof

/-! ### Plaza space (Table 19.3) -/

/-- Base of Plaza SRAM. -/
def sramBase : Nat := 0x40000000
/-- Bytes of Plaza SRAM, 24 MiB. -/
def sramSize : Nat := 0x1800000
/-- Base of NVM. -/
def nvmBase : Nat := 0x60000000
/-- Bytes of NVM, 4 MiB. -/
def nvmSize : Nat := 0x400000
/-- Base of engine block `b` of Table 19.6. -/
def blockBase (b : Nat) : Nat := 0x80000000 + 0x100000 * b
/-- Base of the core block of SC_n. -/
def coreBase (n : Nat) : Nat := 0x81000000 + 0x100000 * n
/-- Bytes of the General region of Plaza SRAM (Table 19.4). -/
def generalSize : Nat := 0x300000
/-- Descriptor table entry of a queue (R139). -/
def descAddr (q : Nat) : Nat := sramBase + 0x300000 + 32 * q
/-- Ring of the notice queue (R153). -/
def noticeRing : Nat := sramBase + 0x380000

/-- Whether `[a, a+n)` lies wholly in Plaza SRAM's General region (R476). -/
def inGeneral (a n : Nat) : Bool := decide (sramBase ≤ a) && decide (a + n ≤ sramBase + generalSize)

/-- Whether `[a, a+n)` lies wholly in Plaza SRAM. -/
def inSram (a n : Nat) : Bool := decide (sramBase ≤ a) && decide (a + n ≤ sramBase + sramSize)

/-! ### Islands (R44) -/

def islAON : Nat := 0
def islKERB : Nat := 1
def islNIGHT : Nat := 2
def islSC (n : Nat) : Nat := 3 + n
def islFORECAST : Nat := 11
def islMOTION : Nat := 12
def islAUDIO : Nat := 13
def islLINK : Nat := 14
def islIO : Nat := 15

/-- The island with an index. -/
def isl (s : State) (i : Nat) : Island := vget s.isl i Island.init

/-- Change one island. -/
def modIsl (s : State) (i : Nat) (f : Island → Island) : State := { s with isl := vmod s.isl i f }

/-- The island's Arcade sides are frozen: it is fenced, or Off (R66, R82). -/
def islFrozen (s : State) (i : Nat) : Bool :=
  (isl s i).fence.isSome || (isl s i).st == .off

/-- The island executes: On, or in a Duty burst. -/
def islRuns (s : State) (i : Nat) : Bool := (isl s i).fence.isNone && ((isl s i).st == .on || (isl s i).st == .duty)

/-- STATUS_FAULT.ISLAND_ACTIVE bit: a fault condition is present (R79, R80, R503, R63). -/
def islActive (x : Island) : Bool := x.faulted || x.supplyAlarm || x.clockHeld || x.refLost

/-! ### Attention causes (Table 4.7) -/

/-- Set a bit of ATTN_CAUSE. -/
def setAttn (b : Nat) (s : State) : State :=
  { s with host := { s.host with attnCause := setBitN s.host.attnCause b true } }

def attnMode : Nat := 0
def attnClock : Nat := 1
def attnFault : Nat := 2
def attnConsent : Nat := 3
def attnQueue : Nat := 4
def attnKerb : Nat := 5
def attnMeter : Nat := 6
def attnWindow : Nat := 7
def attnHpErr : Nat := 8
def attnCore : Nat := 9
def attnBoulevard : Nat := 10

/-- Latch an island's fault bit; a rise from 0 sets ATTN_CAUSE.FAULT (Table 4.7). -/
def latchIsl (i : Nat) (s : State) : State :=
  if (isl s i).latched then s else setAttn attnFault (modIsl s i (fun x => { x with latched := true }))

/-! ### Signal Core interrupt channels -/

/-- Set bits of a core's IPEND (R186). -/
def raiseIrq (c ch : Nat) (s : State) : State :=
  { s with cores := vmod s.cores c (fun k => { k with ipend := k.ipend ||| BitVec.ofNat 64 (2 ^ (ch % 64)) }) }

/-! ### Time -/

/-- The time stamp of an event-log record: centre time, or RTC seconds with FLAGS bit 0 (Table 5.4). -/
def logStamp (s : State) : Nat × Bool :=
  if s.time.centreValid then (s.time.centre, false) else (s.time.rtcSec, true)

/-! ### The event log (R125, R477) -/

/-- What a record carries besides SEQ, TIME, PREV_HASH (Table 5.4). -/
structure LogRec where
  /-- TYPE. -/
  typ : Nat
  /-- SCOPE; 0xFF = none. -/
  scope : Nat
  /-- FLAGS without bit 0. -/
  flags : Nat
  /-- DETAIL32. -/
  detail32 : Nat
  /-- TAG. -/
  tag : Nat
  /-- DIGEST, little-endian number of its 32 bytes. -/
  digest : Nat
  /-- DETAIL, little-endian number of its 32 bytes. -/
  detail : Nat
  deriving DecidableEq, Repr

/-- A record of a type that has no scope, tag or digest. -/
def LogRec.plain (typ detail32 detail : Nat) : LogRec :=
  { typ := typ, scope := 0xFF, flags := 0, detail32 := detail32, tag := 0, digest := 0, detail := detail }

/-- The 128 bytes of a record (Table 5.4). -/
def logBytes (r : LogRec) (seq time : Nat) (rtc : Bool) (prev : BitVec 256) : List Byte :=
  leBytes 8 seq ++ leBytes 8 time ++ leBytes 2 r.typ ++ leBytes 1 r.scope ++ leBytes 1 (r.flags + b2n rtc) ++
  leBytes 4 r.detail32 ++ leBytes 8 r.tag ++ leBytes 32 r.digest ++ leBytes 32 r.detail ++ leBytes 32 prev.toNat

/-- NVM address of record SEQ (R477). -/
def logAddr (seq : Nat) : Nat := nvmBase + 0x300000 + 128 * ((seq - 1) % 8192)

/-- Append a record to the event log (R125). -/
def appendLog (r : LogRec) (s : State) : State :=
  let seq := s.log.seq + 1
  let t := logStamp s
  let bytes := logBytes r seq t.1 t.2 s.log.head
  { s with
    mem := s.mem.writeBytes (logAddr seq) bytes
    log := { s.log with seq := seq, head := BitVec.ofNat 256 (shaN bytes) } }

/-! ### Replies -/

/-- Record the reply of a fabric request or port operation. -/
def replyWith (st : Status) (d : Word) (s : State) : State := { s with reply := ⟨st, d⟩ }

end Sys2Proof.Machine
end

