-- ==== Sys2Proof/Machine/ArcOps.lean ====
section
/-! DEFINITION. The Arcade queue engine's operations (chapter 6): counters, rings, doorbells, notices, load actions and
the recovery of a queue's sides. -/
namespace Sys2Proof.Machine
open Sys2Proof

/-- The host's owner code (R138). -/
def ownHost : Nat := 0x1F

/-- The notice queue (R153). -/
def noticeQid : Nat := 0x3FFF

/-! ### Counters and rings (R136) -/

def Queue.depth (q : Queue) : Nat := 2 ^ q.cfg.log2Depth
def Queue.entryBytes (q : Queue) : Nat := 8 * 2 ^ q.cfg.entryW
/-- AVAIL = TAIL − READ. -/
def Queue.avail (q : Queue) : Nat := sub32 q.tail q.read
/-- Occupancy = RESV − HEAD. -/
def Queue.occupancy (q : Queue) : Nat := sub32 q.resv q.head
/-- FREE = HEAD + DEPTH − RESV. -/
def Queue.free (q : Queue) : Nat := q.depth - q.occupancy
/-- The slot of a counter value. -/
def Queue.slot (q : Queue) (c : Nat) : Nat := c % q.depth
/-- The Plaza address of the entry a counter value counts. -/
def Queue.slotAddr (q : Queue) (c : Nat) : Nat := q.cfg.ringBase * 64 + q.slot c * q.entryBytes

/-- The counter order of R136. -/
def Queue.ordered (q : Queue) : Bool :=
  let r := sub32 q.read q.head
  let t := sub32 q.tail q.head
  let v := sub32 q.resv q.head
  decide (r ≤ t) && decide (t ≤ v) && decide (v ≤ q.depth)

/-- Counter `a` is later than counter `b` (R145). -/
def later32 (a b : Nat) : Bool := let d := sub32 a b; decide (1 ≤ d) && decide (d < 2 ^ 31)

/-- Counter `c` lies below REDELIVER_END (R145). -/
def Queue.below (q : Queue) (c : Nat) : Bool :=
  match q.redeliverEnd with
  | none => false
  | some e => later32 e c

/-- The queue a QID names, as it stands. -/
def qGet (s : State) (q : Nat) : Option Queue := tget s.arc.queues q

/-- Store a queue. -/
def qPut (q : Nat) (x : Queue) (s : State) : State :=
  { s with arc := { s.arc with queues := tput q x s.arc.queues } }

/-- Note a new occupancy in HIGH_WATER (Table 6.6). -/
def Queue.mark (q : Queue) : Queue := { q with highWater := max q.highWater q.occupancy }

/-- A queue's fields before any action has touched it. -/
def Queue.blank : Queue :=
  { cfg := { exactly := false, lane := 0, prod := 0, cons := 0, entryW := 0, log2Depth := 3, dbCons := false,
             dbProd := false, ringBase := 0, dbCount := 0, dbChan := 0 },
    valid := false, resv := 0, tail := 0, read := 0, head := 0, redeliverEnd := none, armedC := false, armedP := false,
    quarantined := false, loading := false, lastProd := .ok, lastCons := .ok, enqCnt := 0, deqCnt := 0,
    redelivered := 0, aborted := 0, fullCnt := 0, discarded := 0, highWater := 0 }

/-- The producer side is frozen (R66). -/
def prodFrozen (s : State) (q : Queue) : Bool := q.cfg.prod < 16 && islFrozen s q.cfg.prod
/-- The consumer side is frozen (R66). -/
def consFrozen (s : State) (q : Queue) : Bool := q.cfg.cons < 16 && islFrozen s q.cfg.cons
/-- The lane logic that serves the queue is fenced: lanes 0–7 lie in NIGHT (chapter 6, Model). -/
def laneDown (s : State) (q : Queue) : Bool := q.cfg.lane < 8 && islFrozen s islNIGHT

/-! ### Doorbells (R144) -/

/-- A doorbell of queue `q` fires toward an owner (the table of R144); toward a fenced island it is latched (R66). -/
def ringBell (qid owner chan : Nat) (consumer : Bool) (s : State) : State :=
  if owner = ownHost then
    let n := qid - 0x3F80
    let s1 := if n < 64
      then { s with arc := { s.arc with hostRdy0 := s.arc.hostRdy0 ||| BitVec.ofNat 64 (2 ^ n) } }
      else { s with arc := { s.arc with hostRdy1 := s.arc.hostRdy1 ||| BitVec.ofNat 64 (2 ^ (n - 64)) } }
    setAttn attnQueue s1
  else if islFrozen s owner then modIsl s owner (fun x => { x with latchedBells := x.latchedBells ++ [(qid, consumer)] })
  else if 3 ≤ owner && owner ≤ 10 then raiseIrq (owner - 3) chan s
  else s

/-- Evaluate the consumer doorbell's condition (R144). -/
def bellC (qid : Nat) (s : State) : State :=
  match qGet s qid with
  | none => s
  | some q =>
    if q.armedC && q.cfg.dbCons && !q.quarantined && decide (max 1 q.cfg.dbCount ≤ q.avail)
    then ringBell qid q.cfg.cons q.cfg.dbChan true (qPut qid { q with armedC := false } s)
    else s

/-- Fire the producer doorbell if it is armed: an ACK has raised FREE from 0 (R144). -/
def bellP (qid : Nat) (s : State) : State :=
  match qGet s qid with
  | none => s
  | some q =>
    if q.armedP && q.cfg.dbProd && !q.quarantined
    then ringBell qid q.cfg.prod q.cfg.dbChan false (qPut qid { q with armedP := false } s)
    else s

/-! ### Enqueue (R140, R142) -/

/-- Write an entry at slot RESV, reserve it and publish it: FULL when no slot is free. -/
def pushEntry (qid : Nat) (q : Queue) (bytes : List Byte) (s : State) : State :=
  let q1 := { q with resv := add32 q.resv 1, tail := add32 q.tail 1, enqCnt := add32 q.enqCnt 1, lastProd := .ok }
  bellC qid (qPut qid q1.mark { s with mem := s.mem.writeBytes (q.slotAddr q.resv) bytes })

/-- A notice for the host (R153): dropped, with NOTICE_LOST, when the notice queue cannot take it. -/
def postNotice (typ count qid : Nat) (s : State) : State :=
  let lost : State := { s with arc := { s.arc with noticeLost := true } }
  match qGet s noticeQid with
  | none => lost
  | some q =>
    if q.valid && !q.quarantined && !q.loading && decide (0 < q.free)
    then pushEntry noticeQid q (leBytes 8 (typ * 2 ^ 60 + satTo 16 count * 2 ^ 32 + qid)) s
    else lost

/-- What bars a producer operation: the first applicable status of R17. -/
def prodBar (s : State) (q : Option Queue) : Option Status :=
  match q with
  | none => some .refused
  | some q =>
    if laneDown s q then some .retry
    else if q.loading || prodFrozen s q then some .busy
    else if q.quarantined then some .full
    else if !q.valid then some .refused
    else none

/-- What bars a consumer operation: the first applicable status of R17. -/
def consBar (s : State) (q : Option Queue) : Option Status :=
  match q with
  | none => some .refused
  | some q =>
    if laneDown s q then some .retry
    else if q.loading || consFrozen s q then some .busy
    else if q.quarantined then some .quarantine
    else if !q.valid then some .refused
    else none

/-- Count a FULL outcome and arm the producer doorbell (R144, Table 6.6). -/
def noteFull (qid : Nat) (s : State) : State :=
  match qGet s qid with
  | none => s
  | some q => qPut qid { q with fullCnt := if q.valid then satInc 16 q.fullCnt else q.fullCnt,
                                armedP := if q.quarantined then q.armedP else true } s

/-- RESERVE (Table 6.3). -/
def qReserve (qid : Nat) (s : State) : PortReply × State :=
  match qGet s qid, prodBar s (qGet s qid) with
  | none, _ => (⟨.refused, 0⟩, s)
  | some _, some .full => (⟨.full, 0⟩, noteFull qid s)
  | some _, some b => (⟨b, 0⟩, s)
  | some q, none =>
    if q.free = 0 then (⟨.full, 0⟩, noteFull qid s)
    else (⟨.ok, packWord [(40, q.slot q.resv), (0, q.slotAddr q.resv)]⟩,
          qPut qid { q with resv := add32 q.resv 1 }.mark s)

/-- Record the outcome of a PUBLISH or ENQUEUE in LAST_PROD (Table 6.4). -/
def noteProd (qid : Nat) (st : Status) (s : State) : State :=
  match qGet s qid with
  | none => s
  | some q => qPut qid { q with lastProd := st } s

/-- Record the outcome of an ACK in LAST_CONS (Table 6.4). -/
def noteCons (qid : Nat) (st : Status) (s : State) : State :=
  match qGet s qid with
  | none => s
  | some q => qPut qid { q with lastCons := st } s

/-- PUBLISH N (Table 6.3). -/
def qPublish (qid n : Nat) (s : State) : Status × State :=
  match qGet s qid, prodBar s (qGet s qid) with
  | none, _ => (.refused, s)
  | some _, some .retry => (.retry, s)
  | some _, some .busy => (.busy, s)
  | some _, some b => (b, noteProd qid b s)
  | some q, none =>
    if n = 0 || decide (sub32 q.resv q.tail < n) then (.refused, noteProd qid .refused s)
    else (.ok, bellC qid (qPut qid { q with tail := add32 q.tail n, enqCnt := add32 q.enqCnt n, lastProd := .ok } s))

/-- A full queue as LAST_PROD sees it: the outcome of an 8-byte ENQUEUE, and nothing for a wider entry, whose RESERVE answered
FULL and which was never published (Tables 6.3 and 6.4). -/
def noteProdFull (qid : Nat) (bytes : List Byte) (s : State) : State :=
  let s1 := noteFull qid s
  if bytes.length = 8 then noteProd qid .full s1 else s1

/-- ENQUEUE of an entry of any width: the 8-byte port operation, and an engine's reserve, write and publish. -/
def qEnqueue (qid : Nat) (bytes : List Byte) (s : State) : Status × State :=
  match qGet s qid, prodBar s (qGet s qid) with
  | none, _ => (.refused, s)
  | some _, some .retry => (.retry, s)
  | some _, some .busy => (.busy, s)
  | some _, some .full => (.full, noteProdFull qid bytes s)
  | some _, some b => (b, noteProd qid b s)
  | some q, none =>
    if q.entryBytes ≠ bytes.length then (.refused, noteProd qid .refused s)
    else if q.free = 0 then (.full, noteProdFull qid bytes s)
    else (.ok, pushEntry qid q bytes s)

/-! ### Dequeue and acknowledge (R140, R145) -/

/-- What one delivery gives: status, REDELIVERED, the counter delivered. -/
structure Delivery where
  status : Status
  redelivered : Bool
  counter : Nat
  deriving DecidableEq, Repr

/-- Deliver the entry at READ (R145); READ reaching REDELIVER_END sets it to none. -/
def deliver (q : Queue) : Delivery × Queue :=
  let b := q.below q.read
  let rd := add32 q.read 1
  let q1 := { q with
    read := rd
    deqCnt := add32 q.deqCnt 1
    redelivered := if b && !q.cfg.exactly then satInc 16 q.redelivered else q.redelivered
    aborted := if b && q.cfg.exactly then satInc 16 q.aborted else q.aborted
    redeliverEnd := if q.redeliverEnd = some rd then none else q.redeliverEnd }
  (⟨if b && q.cfg.exactly then .abort else .ok, b && !q.cfg.exactly, q.read⟩, q1)

/-- DEQUEUE (Table 6.3), with the entry's address and bytes for an engine that is the consumer. -/
def qDequeue (qid : Nat) (s : State) : PortReply × List Byte × State :=
  match qGet s qid, consBar s (qGet s qid) with
  | none, _ => (⟨.refused, 0⟩, [], s)
  | some _, some b => (⟨b, 0⟩, [], s)
  | some q, none =>
    if q.avail = 0 then (⟨.empty, 0⟩, [], bellC qid (qPut qid { q with armedC := true } s))
    else
      let d := deliver q
      (⟨d.1.status, packWord [(59, b2n d.1.redelivered), (40, q.slot d.1.counter), (0, q.slotAddr d.1.counter)]⟩,
       s.mem.bytes (q.slotAddr d.1.counter) q.entryBytes, qPut qid d.2 s)

/-- ACK N (Table 6.3); it fires the producer doorbell when FREE rises from 0 (R144). -/
def qAck (qid n : Nat) (s : State) : Status × State :=
  match qGet s qid, consBar s (qGet s qid) with
  | none, _ => (.refused, s)
  | some _, some .retry => (.retry, s)
  | some _, some .busy => (.busy, s)
  | some _, some b => (b, noteCons qid b s)
  | some q, none =>
    if n = 0 || decide (sub32 q.read q.head < n) then (.refused, noteCons qid .refused s)
    else
      let s1 := qPut qid { q with head := add32 q.head n, lastCons := .ok } s
      (.ok, if q.free = 0 then bellP qid s1 else s1)

/-- ARM (Table 6.3, R141, R144). -/
def qArm (qid : Nat) (cons prod : Bool) (s : State) : Status × State :=
  match qGet s qid with
  | none => (.refused, s)
  | some q =>
    if laneDown s q then (.retry, s)
    else if q.loading || (cons && consFrozen s q) || (prod && prodFrozen s q) then (.busy, s)
    else if q.quarantined then (.ok, s)
    else if !q.valid then (.refused, s)
    else (.ok, bellC qid (qPut qid { q with armedC := q.armedC || cons, armedP := q.armedP || prod } s))

/-- The STATUS reply word (Table 6.4). -/
def qStatusWord (s : State) (q : Queue) : Word :=
  packWord [(56, statusCode q.lastProd), (52, statusCode q.lastCons), (51, b2n (prodFrozen s q)),
    (50, b2n (consFrozen s q)), (49, b2n q.armedC), (48, b2n q.armedP), (24, q.avail), (0, q.free)]

/-- STATUS (Tables 6.3 and 6.4). -/
def qStatus (qid : Nat) (s : State) : PortReply :=
  match qGet s qid with
  | none => ⟨.refused, 0⟩
  | some q =>
    if laneDown s q then ⟨.retry, 0⟩
    else
      ⟨if q.loading then .busy else if q.quarantined then .quarantine else if q.valid then .ok else .refused,
       qStatusWord s q⟩

/-! ### The host's peek (R148) -/

/-- Fill Q_PEEK with the entry at READ of the selected queue, or mark it EMPTY. -/
def peekFill (s : State) : State :=
  match qGet s s.arc.qSel with
  | none => { s with arc := { s.arc with peek := none } }
  | some q =>
    if q.valid && !q.quarantined && q.cfg.cons == ownHost && decide (0 < q.avail) then
      let b := q.below q.read
      let p : Peek :=
        { aborted := b && q.cfg.exactly, redelivered := b && !q.cfg.exactly, seq := q.read % 65536,
          data := s.mem.bytes (q.slotAddr q.read) q.entryBytes }
      { s with arc := { s.arc with peek := some p } }
    else { s with arc := { s.arc with peek := none } }

/-- Drop the held entry when `q` is the selected queue. -/
def peekDrop (q : Nat) (s : State) : State :=
  if s.arc.qSel = q then { s with arc := { s.arc with peek := none } } else s

/-! ### Quarantine (R152) -/

/-- Write the live counters and QUAR back to the descriptor table entry (R139). -/
def descWriteBack (qid : Nat) (q : Queue) (quar : Bool) (s : State) : State :=
  let a := descAddr qid
  let m1 := s.mem.writeN (a + 8) 8 (q.resv * 2 ^ 32 + q.tail)
  let m2 := m1.writeN (a + 16) 8 (q.read * 2 ^ 32 + q.head)
  let b0 := (m2.read (a + 24)).toNat
  { s with mem := m2.write (a + 24) (BitVec.ofNat 8 (b0 - b0 % 2 + b2n quar)) }

/-- Quarantine a queue (R152). -/
def quarantineQ (qid : Nat) (s : State) : State :=
  let q := (qGet s qid).getD Queue.blank
  if q.quarantined then s
  else
    let n := q.occupancy
    let q1 := { q with quarantined := true, discarded := satTo 16 (q.discarded + n) }
    let s1 := peekDrop qid (descWriteBack qid q true (qPut qid q1 s))
    postNotice 1 n qid { s1 with arc := { s1.arc with quarCount := satInc 16 s1.arc.quarCount } }

/-! ### Descriptors and load actions (R137, R138, R147) -/

/-- A descriptor as read from the table (Table 6.2). -/
structure Desc where
  valid : Bool
  cfg : QCfg
  resv : Nat
  tail : Nat
  read : Nat
  head : Nat
  reservedZero : Bool
  deriving DecidableEq, Repr

/-- Parse the four words of a descriptor. -/
def parseDesc (w0 w1 w2 w3 : Word) : Desc :=
  { valid := bit w0 63
    cfg := { exactly := bit w0 62, lane := bits w0 61 56, prod := bits w0 55 51, cons := bits w0 50 46,
             entryW := bits w0 45 44, log2Depth := bits w0 43 39, dbCons := bit w0 38, dbProd := bit w0 37,
             ringBase := bits w0 33 0, dbCount := bits w3 63 48, dbChan := bits w3 37 32 }
    resv := bits w1 63 32, tail := bits w1 31 0, read := bits w2 63 32, head := bits w2 31 0
    reservedZero := bits w0 36 34 == 0 && bits w3 47 38 == 0 && bits w3 31 1 == 0 }

/-- Read a queue's table entry. -/
def readDesc (s : State) (qid : Nat) : Desc :=
  let a := descAddr qid
  parseDesc (s.mem.readW a) (s.mem.readW (a + 8)) (s.mem.readW (a + 16)) (s.mem.readW (a + 24))

/-- The owners and lanes a QID range admits (Table 6.1). -/
def partitionOk (qid prod cons lane : Nat) : Bool :=
  let has (l : List Nat) : Bool := l.contains prod || l.contains cons
  let hi := decide (8 ≤ lane)
  if qid < 0x0800 then has [2, 3, 4] && decide (lane < 8)
  else if qid < 0x1000 then has [12, 15] && hi
  else if qid < 0x1800 then has [13, 5, 6, 7, 8] && hi
  else if qid < 0x2000 then has [11, 5, 6, 7, 8] && hi
  else if qid < 0x2400 then has [1, 0] && hi
  else if qid < 0x2C00 then has [14] && hi
  else if qid < 0x3400 then has [15] && hi
  else if qid < 0x3C00 then has [9, 10] && hi
  else if qid < 0x3F80 then (decide (prod < 16) || decide (cons < 16)) && hi
  else has [ownHost] && hi

/-- An owner code of R138 is valid: an island or the host. -/
def ownerOk (o : Nat) : Bool := decide (o < 16) || o == ownHost

/-- The descriptor keeps R137 and R138, its reserved fields are 0, and its ring lies in Plaza SRAM where R476 admits it. -/
def descOk (qid : Nat) (d : Desc) : Bool :=
  let c := d.cfg
  let hostOwned := c.prod == ownHost || c.cons == ownHost
  d.reservedZero && ownerOk c.prod && ownerOk c.cons && partitionOk qid c.prod c.cons c.lane &&
  (!hostOwned || decide (0x3F80 ≤ qid)) && decide (3 ≤ c.log2Depth) && decide (c.log2Depth ≤ 16) &&
  inGeneral (c.ringBase * 64) (2 ^ c.log2Depth * (8 * 2 ^ c.entryW))

/-- The notice queue's fixed configuration (R153). -/
def noticeCfg : QCfg :=
  { exactly := false, lane := 8, prod := 0, cons := ownHost, entryW := 0, log2Depth := 8, dbCons := true,
    dbProd := false, ringBase := noticeRing / 64, dbCount := 1, dbChan := 0 }

/-- Zero a queue's statistics (CLEAR_STATS). -/
def Queue.clearStats (q : Queue) : Queue :=
  { q with enqCnt := 0, deqCnt := 0, redelivered := 0, aborted := 0, fullCnt := 0, discarded := 0, highWater := 0 }

/-- Step 1 of R145: extend REDELIVER_END to READ and set READ to HEAD. -/
def Queue.rewind (q : Queue) : Queue :=
  let e := match q.redeliverEnd with
    | none => q.read
    | some e => if later32 q.read e then q.read else e
  { q with redeliverEnd := if e = q.head then none else some e, read := q.head }

/-- The table read of an action meets an uncorrectable ECC error (R152). -/
def descBad (s : State) (qid : Nat) : Bool :=
  let a := descAddr qid
  [a, a + 8, a + 16, a + 24].any (fun w => s.ecc.contains w)

/-- Perform a load action on a queue: its outcome and its effect (Table 6.5, R147, R152). -/
def runAction (qid : Nat) (act : LoadAction) (byHost : Bool) (s : State) : Status × State :=
  let q := (qGet s qid).getD Queue.blank
  let d := readDesc s qid
  match act with
  | .load =>
    if q.quarantined || qid = noticeQid then (.refused, s)
    else if descBad s qid then (.quarantine, quarantineQ qid s)
    else
      let q1 := { q.clearStats with cfg := d.cfg, valid := d.valid, resv := d.resv, tail := d.tail, read := d.read,
                                    head := d.head, redeliverEnd := none, armedC := true, armedP := false }
      if descOk qid d && q1.ordered then (.ok, qPut qid q1.mark s) else (.refused, s)
  | .config =>
    if q.quarantined then (.refused, s)
    else if descBad s qid then (.quarantine, quarantineQ qid s)
    else
      let moved := q.cfg.log2Depth ≠ d.cfg.log2Depth || q.cfg.entryW ≠ d.cfg.entryW || q.cfg.ringBase ≠ d.cfg.ringBase
      if descOk qid d && !(moved && q.occupancy ≠ 0) then (.ok, qPut qid { q with cfg := d.cfg, valid := d.valid } s)
      else (.refused, s)
  | .reinit =>
    let fresh (c : QCfg) (v : Bool) : Queue :=
      { q.clearStats with cfg := c, valid := v, resv := 0, tail := 0, read := 0, head := 0, redeliverEnd := none,
                          quarantined := false, armedC := true, armedP := false }
    let done (c : QCfg) (v : Bool) : State :=
      let s1 := qPut qid (fresh c v) s
      if q.quarantined then { s1 with arc := { s1.arc with quarCount := s1.arc.quarCount - 1 } } else s1
    if !byHost then (.refused, s)
    else if qid = noticeQid then (.ok, done noticeCfg true)
    else if descBad s qid then (.quarantine, quarantineQ qid s)
    else if descOk qid d then (.ok, done d.cfg d.valid)
    else (.refused, s)
  | .disable =>
    if q.quarantined || qid = noticeQid then (.refused, s)
    else (.ok, descWriteBack qid q false (qPut qid { q with valid := false } s))
  | .rewind =>
    if q.cfg.cons = ownHost then (.ok, qPut qid q.rewind s) else (.refused, s)
  | .clearStats => (.ok, qPut qid q.clearStats s)

/-- A host ENQUEUE copy on the queue is in progress. -/
def copyOn (s : State) (qid : Nat) : Bool :=
  match s.arc.copy with
  | some (q, _, _) => q == qid
  | none => false

/-- Perform a started action on its queue, which answers BUSY until the action ends. -/
def actNow (qid : Nat) (act : LoadAction) (byHost : Bool) (s : State) : State :=
  let r := runAction qid act byHost s
  let s1 := match qGet r.2 qid with
    | none => r.2
    | some q => qPut qid { q with loading := true } r.2
  { s1 with arc := { s1.arc with action := some (qid, act, byHost, some r.1), reloadResult := .busy } }

/-- Begin a load action: RELOAD_RESULT reads BUSY and the queue answers BUSY until it ends; an action on the queue of a
host ENQUEUE copy waits for that copy (R147). -/
def startAction (qid : Nat) (act : LoadAction) (byHost : Bool) (s : State) : State :=
  if copyOn s qid then { s with arc := { s.arc with action := some (qid, act, byHost, none), reloadResult := .busy } }
  else actNow qid act byHost s

/-- A load action ends: its outcome shows, the peek is refilled and a refused firmware action is reported (R147, R148,
R153). -/
def finishAction (qid : Nat) (byHost : Bool) (o : Status) (s : State) : State :=
  let s1 := match qGet s qid with
    | none => s
    | some q => qPut qid { q with loading := false } s
  let s2 := { s1 with arc := { s1.arc with action := none, reloadResult := o } }
  let s3 := bellC qid (if s2.arc.qSel = qid then peekFill s2 else s2)
  if !byHost && o == .refused then postNotice 4 0 qid s3 else s3

/-- End the load action in progress; one that waited for a copy acts first (R147). -/
def endAction (s : State) : State :=
  match s.arc.action with
  | none => s
  | some (qid, _, byHost, some o) => finishAction qid byHost o s
  | some (qid, act, byHost, none) =>
    if copyOn s qid then s
    else
      let s1 := actNow qid act byHost s
      match s1.arc.action with
      | some (_, _, _, some o) => finishAction qid byHost o s1
      | _ => s1

/-- Issue a load action: BUSY while another runs (R147). -/
def issueAction (qid : Nat) (act : LoadAction) (byHost : Bool) (s : State) : Status × State :=
  match s.arc.action with
  | some _ => (.busy, s)
  | none => (.ok, startAction qid act byHost s)

/-! ### The host's doorbell operations (R149) -/

/-- ENQUEUE of Q_ENTRY into the selected queue: a slot is reserved and the copy starts. -/
def hostEnqueue (s : State) : Status × State :=
  let qid := s.arc.qSel
  if s.arc.copy.isSome then (.busy, s)
  else match qGet s qid, prodBar s (qGet s qid) with
    | none, _ => (.refused, s)
    | some _, some .full => (.full, noteFull qid s)
    | some _, some b => (b, s)
    | some q, none =>
      if q.cfg.prod ≠ ownHost then (.refused, s)
      else if q.free = 0 then (.full, noteFull qid s)
      else
        let bytes := (s.arc.entry.toList.flatMap (fun w => leBytes 8 w.toNat)).take q.entryBytes
        let s1 := qPut qid { q with resv := add32 q.resv 1 }.mark s
        (.ok, { s1 with arc := { s1.arc with copy := some (qid, q.resv, bytes) } })

/-- The copy completes and the entry is published. -/
def hostCopyDone (s : State) : State :=
  match s.arc.copy with
  | none => s
  | some (qid, c, bytes) =>
    let s1 := { s with arc := { s.arc with copy := none } }
    match qGet s1 qid with
    | none => s1
    | some q =>
      if q.quarantined || !q.valid then s1
      else
        let s2 := { s1 with mem := s1.mem.writeBytes (q.slotAddr c) bytes }
        bellC qid (qPut qid { q with tail := add32 q.tail 1, enqCnt := add32 q.enqCnt 1, lastProd := .ok } s2)

/-- What bars a consumer operation of the host on the selected queue. -/
def hostConsBar (s : State) : Option Status :=
  match qGet s s.arc.qSel with
  | none => some .refused
  | some q =>
    match consBar s (some q) with
    | some b => some b
    | none => if q.cfg.cons = ownHost then none else some .refused

/-- TAKE: READ advances past the held entry; an aborted entry is reported as ABORT. -/
def hostTake (arg : Nat) (s : State) : Status × State :=
  match hostConsBar s, qGet s s.arc.qSel, s.arc.peek with
  | some b, _, _ => (b, s)
  | none, some q, some p =>
    if arg ≠ p.seq then (.refused, s)
    else
      let d := deliver q
      let s1 := qPut s.arc.qSel d.2 s
      (d.1.status, { s1 with arc := { s1.arc with peek := none } })
  | none, _, _ => (.empty, s)

/-- ACK on the selected queue. -/
def hostAck (n : Nat) (s : State) : Status × State :=
  match hostConsBar s with
  | some b => (b, s)
  | none => qAck s.arc.qSel n s

/-- TAKE followed by ACK 1. -/
def hostTakeAck (arg : Nat) (s : State) : Status × State :=
  let r := hostTake arg s
  match r.1 with
  | .ok | .abort => (r.1, (hostAck 1 r.2).2)
  | _ => r

/-- ARM of one side the host owns. -/
def hostArm (consumer : Bool) (s : State) : Status × State :=
  match qGet s s.arc.qSel with
  | none => (.refused, s)
  | some q =>
    if (if consumer then q.cfg.cons else q.cfg.prod) = ownHost || q.loading then qArm s.arc.qSel consumer (!consumer) s
    else (.refused, s)

/-- A committed Q_SEL write. -/
def qSelWrite (w : Word) (s : State) : State :=
  { s with arc := { s.arc with qSel := bits w 13 0, peek := none } }

/-! ### Recovery of a queue's sides (R145, R146) -/

/-- Release of the consumer side after RESET, UPDATE or Off (R145). -/
def rewindConsumer (qid : Nat) (s : State) : State :=
  match qGet s qid with
  | none => s
  | some q =>
    if !q.valid || q.quarantined then s
    else
      let q1 := q.rewind
      let n := match q1.redeliverEnd with
        | none => 0
        | some e => sub32 e q1.head
      let s1 := qPut qid q1 s
      if n = 0 then s1 else postNotice 3 n qid s1

/-- Release of the producer side after RESET, UPDATE or Off (R146). -/
def discardProducer (qid : Nat) (s : State) : State :=
  match qGet s qid with
  | none => s
  | some q =>
    if !q.valid || q.quarantined then s
    else
      let n := sub32 q.resv q.tail
      if n = 0 then s
      else postNotice 2 n qid (qPut qid { q with resv := q.tail, discarded := satTo 16 (q.discarded + n) } s)

/-- Arm the consumer doorbell at the release of a consumer-side freeze (R144). -/
def armOnRelease (qid : Nat) (s : State) : State :=
  match qGet s qid with
  | none => s
  | some q => bellC qid (qPut qid { q with armedC := true } s)

/-- Present the doorbells latched toward an island (R66, R68). -/
def presentBells (i : Nat) (s : State) : State :=
  let l := (isl s i).latchedBells
  let s0 := modIsl s i (fun x => { x with latchedBells := [] })
  l.foldl (fun s p =>
    match qGet s p.1 with
    | none => s
    | some q => ringBell p.1 i q.cfg.dbChan p.2 s) s0

/-- Release every queue side an island owns: with recovery after RESET, UPDATE or Off, and then the doorbells. -/
def releaseSides (i : Nat) (recover : Bool) (s : State) : State :=
  let qs := s.arc.queues.map (·.1)
  let s1 := qs.foldl (fun s qid =>
    match qGet s qid with
    | none => s
    | some q =>
      let s1 := if q.cfg.cons = i then
          let s1 := if recover then rewindConsumer qid s else s
          armOnRelease qid s1
        else s
      if q.cfg.prod = i && recover then discardProducer qid s1 else s1) s
  presentBells i s1

end Sys2Proof.Machine
end

