-- ==== Sys2Proof/Machine/ClockOps.lean ====
section
/-! DEFINITION. PLLs and the relock sequence (chapter 3, R59 to R63, R70, R75, R78, R80). -/
namespace Sys2Proof.Machine
open Sys2Proof

/-- PLL indices in R69's order. -/
def pllNIGHT : Nat := 0
def pllCORE : Nat := 1
def pllAUDIO : Nat := 2
def pllIO : Nat := 3
def pllLINK : Nat := 4

/-- A PLL. -/
def pll (s : State) (p : Nat) : Pll := vget s.clock.pll p (Pll.init 0)

/-- Change a PLL. -/
def modPll (p : Nat) (f : Pll → Pll) (s : State) : State :=
  { s with clock := { s.clock with pll := vmod s.clock.pll p f } }

/-- The target frequency the device sets for a PLL now, Hz (Table 3.1, R70). -/
def pllTarget (s : State) (p : Nat) : Nat :=
  if p = pllCORE then
    (if s.mode.mode == .night || s.mode.mode == .bringup || s.clock.targetMhz = 0 then 200000000 else s.clock.targetMhz * 1000000)
  else if p = pllAUDIO then (if s.mode.mode == .bringup || s.clock.family = 0 then 24576000 else 22579200)
  else if p = pllNIGHT then 24576000
  else if p = pllIO then 400000000
  else 125000000

/-- A source divided by the smallest 2^k, k in 0–3, that brings it to at most `limit` (the bypass clock). -/
def dividedClock (src limit : Nat) : Nat :=
  if src ≤ limit then src else if src / 2 ≤ limit then src / 2 else if src / 4 ≤ limit then src / 4 else src / 8

/-- The clock bypassed consumers take: REFCLK, or AON_RC while REFCLK is lost (R61, R80), Hz. -/
def bypassSource (s : State) : Nat := if s.clock.refclkLost then 16000000 else 25000000

/-- Start or restart the relock sequence of a PLL toward a target (Table 3.3, R75); a held PLL only stores it (R63). -/
def startRelock (p target : Nat) (s : State) : State :=
  let x := pll s p
  if x.held then modPll p (fun x => { x with target := target }) s
  else
    let low := if x.running then min x.target target else target
    let b := dividedClock (bypassSource s) low
    let b1 := if x.changing && x.bypassHz ≠ 0 then min x.bypassHz b else b
    modPll p (fun x => { x with running := true, locked := false, bypass := true, changing := true, stair := 15,
                                target := target, bypassHz := b1 }) s

/-- Start a PLL if it is stopped (R60); a held PLL stays on the bypass clock (R63). -/
def startPll (p : Nat) (s : State) : State :=
  let x := pll s p
  if x.running then s
  else if x.held then modPll p (fun x => { x with running := true, bypass := true }) s
  else startRelock p (pllTarget s p) s

/-- Stop a PLL; a relock in progress is abandoned without its change-done bit (R60, R78). -/
def stopPll (p : Nat) (s : State) : State :=
  modPll p (fun x => { x with running := false, locked := false, changing := false, bypass := x.held, stair := 15,
                              bypassHz := 0 }) s

/-- Bring a PLL up and locked at once, as the end of bring-up step 3 has it. -/
def lockPll (p : Nat) (s : State) : State :=
  modPll p (fun x => { x with running := true, locked := true, changing := false, bypass := false, stair := 0,
                              target := pllTarget s p, bypassHz := 0 }) s

/-- LOCKED rises in the relock sequence (Table 3.3). -/
def pllLock (p : Nat) (s : State) : State :=
  modPll p (fun x => if x.changing then { x with locked := true } else x) s

/-- The staircase moves one divider on; at ÷1 CHANGING clears and the change-done bit is set (Table 3.3). -/
def stairStep (p : Nat) (s : State) : State :=
  let x := pll s p
  if !(x.changing && x.locked) then s
  else if x.stair = 15 then modPll p (fun x => { x with stair := 3, bypass := false, bypassHz := 0 }) s
  else if 1 < x.stair then modPll p (fun x => { x with stair := x.stair - 1 }) s
  else
    let s1 := modPll p (fun x => { x with stair := 0, changing := false }) s
    { s1 with clock := { s1.clock with coreDone := s1.clock.coreDone || p == pllCORE,
                                       audioDone := s1.clock.audioDone || p == pllAUDIO } }

/-- A write of TARGET_MHZ: rounded down to a multiple of 25 and clamped; a changed target relocks outside NIGHT and
BRINGUP (R70). -/
def targetWrite (mhz : Nat) (s : State) : State :=
  let t := clampNat 200 1200 (mhz / 25 * 25)
  let s1 := { s with clock := { s.clock with targetMhz := t, targetMhzNvm := some t } }
  if t = s.clock.targetMhz || s.mode.mode == .night || s.mode.mode == .bringup || !(pll s pllCORE).running then s1
  else startRelock pllCORE (t * 1000000) s1

/-- A write of FAMILY (R70). -/
def familyWrite (f : Nat) (s : State) : State :=
  let s1 := { s with clock := { s.clock with family := f % 2, familyNvm := some (f % 2) } }
  if f % 2 = s.clock.family || !(pll s pllAUDIO).running then s1
  else startRelock pllAUDIO (pllTarget s1 pllAUDIO) s1

/-- R71: a CLK_EVENT bit other than the change-done bits is 1. -/
def clkEventActive (s : State) : Bool :=
  s.clock.monTrip ≠ 0 || s.clock.lockLoss ≠ 0 || s.clock.refclkEvent

/-- The islands clocked from a PLL (Table 3.1). -/
def pllIslands (p : Nat) : List Nat :=
  if p = pllNIGHT then [2]
  else if p = pllCORE then [3, 4, 5, 6, 7, 8, 9, 10, 11]
  else if p = pllAUDIO then [13]
  else if p = pllIO then [12, 15]
  else [14]

/-- The consumer clock of a PLL delivered now, Hz. -/
def pllNow (s : State) (p : Nat) : Nat :=
  let x := pll s p
  if !x.running then 0
  else if x.bypass || x.stair = 15 then (if x.bypassHz = 0 then dividedClock (bypassSource s) x.target else x.bypassHz)
  else x.target / 2 ^ x.stair

/-- CLK_STATUS.RUNNING, one bit per Table 3.1 index. -/
def clkRunning (s : State) : Nat :=
  3 + 4 * b2n s.clock.kerbOsc + 8 * b2n s.clock.refclk + 16 * maskOf (s.clock.pll.toList.map (·.running))

/-- CLK_STATUS (Table 3.4). -/
def clkStatus (s : State) : Word :=
  let l := s.clock.pll.toList
  let c := pll s pllCORE
  packWord [(48, pllNow s pllCORE / 1000000), (40, if c.running && !c.bypass then c.stair else 15),
    (32, maskOf (l.map (·.held))), (24, maskOf (l.map (·.bypass))), (16, maskOf (l.map (·.locked))), (0, clkRunning s)]

/-- CLK_EVENT (Table 3.6). -/
def clkEvent (s : State) : Word :=
  packWord [(25, b2n s.clock.audioDone), (24, b2n s.clock.coreDone), (16, b2n s.clock.refclkEvent), (8, s.clock.lockLoss),
    (0, s.clock.monTrip)]

end Sys2Proof.Machine
end

