-- ==== Sys2Proof/Config.lean ====
section
/-! DEFINITION. The values the spec leaves open: constants with no body, applied to the operands they depend on or to
a counter of State. No proof can see what one is. -/
namespace Sys2Proof.Config

/-- LINEAGE of a centre time started anew (R453 gives no number), by a counter of State. -/
opaque newLineage : Nat → Nat
/-- Nearest whole nanosecond of a fractional centre time: the spec states no rounding (R449). -/
opaque roundNs : Rat → Int
/-- CORR of a forwarded marker, where the hop delay is no whole number of 1/16 ns: the spec states no rounding (R449). -/
opaque roundCorr : Rat → Int
/-- Payload of the message that follows a snapshot, by KIND, T and DIGEST: R456 names its fields, not its layout. -/
opaque snapPayload : Nat → Nat → Nat → List (BitVec 8)
/-- OFFSET_PS of a fractional phase correction: the spec states no rounding (Table 18.7). -/
opaque roundPs : Rat → Int
/-- ENTRY_CAUSE of the reset that leaving EXTEST, CLAMP or HIGHZ causes: Table 2.8 lists none (R497). -/
opaque tapResetCause : BitVec 8
/-- The slot-0 public key in boot ROM, 64 bytes: the spec does not give its value (R127). -/
opaque slot0Key : List (BitVec 8)
/-- Whether a quotient that lies halfway between two integers rounds up where the spec says only "to nearest" (R207). -/
opaque tieUp : Int → Nat → Bool
/-- The value used for an irrational square root: the spec states no precision (R212, R242). -/
opaque realSqrt : Rat → Rat
/-- The cosine of a turn that is no multiple of a quarter: the spec states no precision (R212). -/
opaque cosTurn : Rat → Rat
/-- The sine of a turn that is no multiple of a quarter: the spec states no precision (R212). -/
opaque sinTurn : Rat → Rat
/-- A measured quantity that is no whole number of its register's unit: the spec states no rounding (R212, Table 9.3). -/
opaque roundMeter : Rat → Int
/-- Phase of a harmonic in 0.001°, from the phasor and the fundamental of signal 0 (R483): the spec states no rounding. -/
opaque phaseMdeg : Rat → Rat → Rat → Rat → Nat → Int
/-- The decimation filter's ROM coefficients c[k]: the spec gives their response, not their values (R207). -/
opaque decimCoef : Nat → BitVec 32
/-- Whether a temperature that lies between two whole m°C is published as the upper one: R241 gives ±1 m°C, by R0 and R. -/
opaque rtdUp : Nat → Rat → Bool
/-- Density of water at a temperature in m°C, kg/m³: the spec names IAPWS-IF97 and a bound, not values (R242). -/
opaque rho : Int → Rat
/-- Specific enthalpy of water at a temperature in m°C, J/kg (R242). -/
opaque enthalpy : Int → Rat
/-- An M-Bus reading that is no whole number of J or 0.01 °C: the spec states no rounding (R239). -/
opaque roundMbus : Rat → Int
/-- The value of an M-Bus BCD field that holds a digit above 9 (R238 states none). -/
opaque badBcd : Nat → Int


/-- Where a set-point lies within ±1 u of the law when the plan needs an irrational speed (R298). -/
opaque planErr : Rat → Int
/-- TIME_TO_GO of a move under a cam, ms: the spec gives no closed form (R298, R303). -/
opaque camTime : Rat → Rat → Rat → Nat
/-- The argument of a complex number in 0.1°, where it is no multiple of 45°: the spec states no precision (R326). -/
opaque argTenth : Rat → Rat → Int
/-- The EMF ratio in 0.1 %, where it is no whole number: the spec states no rounding (R326, Table 13.6). -/
opaque roundRho : Rat → Int
/-- A learned level, where the mean of four edges is no whole unit: the spec states no rounding (R266). -/
opaque roundLevel : Rat → Int
/-- Whether a predicted time that is no whole ms counts as the next ms: the spec states no rounding (R275). -/
opaque msUp : Rat → Bool
/-- E_UP or E_DN in Q16.16 mWh/m, where it is no whole number: the spec states no rounding (R276). -/
opaque roundEnergy : Rat → Int
/-- RATED_SPEED, ACCEL, START_MS, DWELL_MS, LOAD_BYPASS and CAPACITY of a car on another device, by group, slot and field: the
spec gives the dispatcher no path for them (R275). -/
opaque remoteCar : Nat → Nat → Nat → Nat
/-- Bytes 2–7 and byte 0 of a lift event, by car and cause: the spec states only bytes 1 and 8–15 (R283). -/
opaque liftEventRest : Nat → Nat → BitVec 56

/-- 2^x for an x that is no integer: the spec states no precision (R370, R373, R377, R378). -/
opaque pow2 : Rat → Rat
/-- 10^(x ÷ 20) for an x other than 0: the spec states no precision (R375, R383). -/
opaque dbGain : Rat → Rat
/-- exp(−π x): the spec states no precision (R373). -/
opaque expPi : Rat → Rat
/-- A zone's output sample before saturation: R383 states no rounding, and R373 no precision within its ±0.01 dB. -/
opaque roundAudio : Rat → Int
/-- The seed of a voice's noise LFSR, from the voice index and the start sample count: R372 states no function. -/
opaque noiseSeed : Nat → Nat → BitVec 32
/-- A random source of Table 15.3 or a sample-and-hold value (R376), −1 to 1, by voice, sample number and kind. -/
opaque random : Nat → Nat → Nat → Rat
/-- The phrase a patch with PHRASE = 1 plays: Table 15.7 names no field for it. -/
opaque patchPhrase : Nat → Nat
/-- Whether a write of a wavetable's frames reaches a voice between the points of R390, by sample number and address. -/
opaque frameSeen : Nat → Nat → Bool
/-- The paging level after a block, from the level before and the block's peak: R384 gives the times, not the law. -/
opaque pageLevel : Rat → Int → Rat
/-- Payload of an AUDIO_CUE message: R368 names its fields, not its layout. -/
opaque cuePayload : Nat → Nat → Nat → Nat → List (BitVec 8)
/-- TYPE of the event that answers RELEASE, KILL and SET_P: R386 names none for them. -/
opaque cmdAnswer : Nat → BitVec 8
/-- A voice's 32-byte status record but for what R366 says of it, by voice and state code: the spec gives no layout. -/
opaque voiceRecord : Nat → Nat → BitVec 256

/-- The error of a curve's value against R399 or R400, used within ±1 LSB (Table 16.10). -/
opaque curveErr : Bool → List (BitVec 8) → Int → Int
/-- The error of a chunked recurrence's output, used within ±1 (R402). -/
opaque lrecErr : Nat → Nat → Nat → Int → Int
/-- The error of a chunked recurrence's stored state, used within ±256 (R402). -/
opaque lrecStateErr : Nat → Nat → Int → Int
/-- A forecast output or feature that is no whole number of its unit: the spec states no rounding (Table 16.5). -/
opaque roundFc : Rat → Int

/-- Whether a load slot whose KIND is the reserved 3 raises ILLEGAL, or makes no access: Table 7.4 does not say. -/
opaque moveKind3Illegal : Bool
/-- Flags C and V (bits 1 and 0) after MOV and MULI, by OP and operands: R173 states them for other ops only. -/
opaque moveFlags : Nat → BitVec 64 → BitVec 64 → BitVec 2
/-- Whether a saturation of NEG2, CONJ or ABS2 sets SAT, by OP: R173 says so of ADDS2 and SUBS2 only. -/
opaque negSetsSat : Nat → Bool
/-- Cycles a core waits for a Plaza load or a full store buffer, by the core's own counter: the spec bounds them. -/
opaque fabricCycles : Nat → Nat
/-- FAB_CLK cycles from request to grant at a core's Crossroads port, by the core's own counter. -/
opaque fabricGrant : Nat → Nat
/-- BTARGET of a frame pushed in a delay slot of RETI or RETS: Table 8.3 defines it for branches. -/
opaque returnTarget : Nat → BitVec 14

end Sys2Proof.Config
end

