-- ==== Sys2Proof/Machine/Round.lean ====
section
/-! DEFINITION. Rounding and real-valued functions: exact where the exact value exists, a free value of Config where the
spec states no rounding or precision. -/
namespace Sys2Proof.Machine
open Sys2Proof

/-- `n / d` rounded to the nearest integer; a tie as Config says. -/
def nearestDiv (n : Int) (d : Nat) : Int :=
  let q := n / (d : Int)
  let r := (n % (d : Int)).toNat
  if 2 * r < d then q else if d < 2 * r then q + 1 else if Config.tieUp n d then q + 1 else q

/-- An integer kept exactly, and any other value as a free rounding gives it. -/
def wholeOr (f : Rat → Int) (r : Rat) : Int := if r.den = 1 then r.num else f r

/-- The integer square root, found bit by bit from bit `b - 1` down. -/
def isqrtBits (n : Nat) : Nat → Nat → Nat
  | 0, r => r
  | b + 1, r => isqrtBits n b (if (r + 2 ^ b) * (r + 2 ^ b) ≤ n then r + 2 ^ b else r)

/-- The floor of a square root. -/
def isqrt (n : Nat) : Nat := isqrtBits n (n.log2 / 2 + 1) 0

/-- The square root of a rational: exact where it is rational. -/
def sqrtR (r : Rat) : Rat :=
  let a := isqrt r.num.toNat
  let b := isqrt r.den
  if r.num.toNat = a * a ∧ r.den = b * b then mkRat a b else Config.realSqrt r

/-- The fractional part of a number of turns. -/
def turnFrac (x : Rat) : Rat := x - x.floor

/-- The cosine of a number of turns. -/
def cosT (x : Rat) : Rat :=
  let f := turnFrac x
  if f = 0 then 1 else if f = 1 / 4 ∨ f = 3 / 4 then 0 else if f = 1 / 2 then -1 else Config.cosTurn f

/-- The sine of a number of turns. -/
def sinT (x : Rat) : Rat :=
  let f := turnFrac x
  if f = 0 ∨ f = 1 / 2 then 0 else if f = 1 / 4 then 1 else if f = 3 / 4 then -1 else Config.sinTurn f

/-- The saturated value of a signed word of `w` bits. -/
def satSigned (w : Nat) (x : Int) : Int := clampInt (-(2 ^ (w - 1) : Nat)) ((2 ^ (w - 1) : Nat) - 1) x

/-- The sum of a list of rationals. -/
def sumR (l : List Rat) : Rat := l.foldl (· + ·) 0

end Sys2Proof.Machine
end

