-- ==== Sys2Proof/Machine/BsDsp.lean ====
section
/-! DEFINITION. The voice signal path of Bandstand: oscillators, noise, the complex-pole filter, envelopes, LFOs, the modulation
matrix and phrase decoding (chapter 15). -/
namespace Sys2Proof.Machine
open Sys2Proof

/-- 2^x, exact for whole x. -/
def exp2 (x : Rat) : Rat := if x.den = 1 then (if 0 ≤ x.num then ((2 ^ x.num.toNat : Nat) : Rat) else mkRat 1 (2 ^ x.num.natAbs)) else Config.pow2 x
/-- A gain in dB. -/
def dbG (x : Rat) : Rat := if x = 0 then 1 else Config.dbGain x
/-- Clamp. -/
def clampR (lo hi x : Rat) : Rat := if x < lo then lo else if hi < x then hi else x
/-- A signed 16-bit field as Q1.15. -/
def q15 (n : Nat) : Rat := mkRat (toSigned 16 n) 32768

/-! ### Oscillators (R370) -/

/-- Sample `i` of frame `f` of the frames as read. -/
def frameAt (rd : Nat → Int) (f i : Nat) : Int := rd (2048 * f + i % 2048)

/-- An oscillator's sample at phase `ph` and wave position `w`, −1 to 1. -/
def oscSample (rd : Nat → Int) (frames : Nat) (w : Rat) (ph : Nat) : Rat :=
  let q := clampR 0 1 w * ((frames - 1 : Nat) : Rat)
  let i := ph / 2 ^ 21
  let t := mkRat (ph / 32 % 65536) 65536
  let lin (f : Nat) : Rat := let a := (frameAt rd f i : Rat); a + ((frameAt rd f (i + 1) : Rat) - a) * t
  let lo := lin q.floor.toNat
  (lo + (lin q.ceil.toNat - lo) * (q - q.floor)) / 32768

/-- Phase increment of a frequency; the rounding is to nearest. -/
def phaseInc (f : Rat) (fs : Nat) : Int := (f * 4294967296 / (fs : Rat) + mkRat 1 2).floor

/-- f of R370. -/
def noteHz (note cents : Rat) : Rat := 440 * exp2 ((note - 69) / 12 + cents / 1200)

/-! ### Noise (R372) -/

/-- One step of the Galois LFSR. -/
def noiseStep (x : Nat) : Nat := if x % 2 = 1 then (x / 2) ^^^ 0x80200003 else x / 2

/-! ### The filter (R373, Table 15.2) -/

/-- Block coefficients: the pole and the output weights. -/
structure Filter where
  mode : Nat
  pRe : Rat
  pIm : Rat
  u : Rat
  kx : Rat
  kr : Rat
  ki : Rat
  mix : Rat

/-- Coefficients for a cutoff in cents above 10 Hz, a Q and a sample rate. -/
def filterOf (mode : Nat) (cutoff q mix : Rat) (fs : Nat) : Filter :=
  let fc := clampR 20 (mkRat (45 * fs) 100) (10 * exp2 (cutoff / 1200))
  let qq := clampR (mkRat 1 2) 40 q
  let x := fc / (fs : Rat)
  let r := Config.expPi (x / qq)
  let c := cosT x
  let σ := sinT x
  let u := 1 - r
  let b : Rat × Rat × Rat := match mode with
    | 1 => let g := (1 - 2 * r * c + r * r) / 4; (g, 2 * g, g)
    | 2 => let g := (1 - r * r) / 2; (g, 0, -g)
    | 3 => let g := (1 + 2 * r * c + r * r) / 4; (g, -2 * g, g)
    | _ => let g := (1 - 2 * r * c + r * r) / (2 - 2 * c); (g, -2 * c * g, g)
  let kx := b.2.2 / (r * r)
  let kr := (b.1 - kx) / u
  { mode := mode, pRe := r * c, pIm := r * σ, u := u, kx := kx, kr := kr, ki := (b.2.1 + 2 * r * c * kx + r * c * u * kr) / (u * r * σ), mix := mix }

/-- One sample: the new state and the mixed output. -/
def filterStep (f : Filter) (re im x : Rat) : (Rat × Rat) × Rat :=
  if f.mode = 0 then ((re, im), x)
  else
    let re' := f.pRe * re - f.pIm * im + f.u * x
    let im' := f.pRe * im + f.pIm * re
    let y := f.kx * x + f.kr * re' + f.ki * im'
    ((re', im'), f.mix * y + (1 - f.mix) * x)

/-! ### Envelopes (R375) -/

/-- Times in ms and the sustain level. -/
structure EnvPar where
  delay : Rat
  attack : Rat
  hold : Rat
  decay : Rat
  sustain : Rat
  release : Rat

/-- Enter a segment from a level. -/
def envEnter (seg : EnvSeg) (l : Rat) : Env := { seg := seg, t := 0, l0 := l, level := l }

/-- `dt` ms pass for an envelope, at a block boundary. -/
def envPass (p : EnvPar) (dt : Rat) (e : Env) : Env :=
  let t := e.t + dt
  match e.seg with
  | .delay => if p.delay ≤ t then envEnter .attack e.level else { e with t := t }
  | .attack => if p.attack ≤ t then envEnter .hold 1 else { e with t := t, level := e.l0 + (1 - e.l0) * t / p.attack }
  | .hold => if p.hold ≤ t then envEnter .decay 1 else { e with t := t }
  | .decay =>
    if e.level ≤ p.sustain then envEnter .sustain e.level
    else if p.decay = 0 then envEnter .sustain p.sustain
    else
      let l := e.l0 * dbG (-96 * t / p.decay)
      if l ≤ p.sustain then envEnter .sustain p.sustain else { e with t := t, level := l }
  | .sustain => { e with t := t }
  | .release =>
    if p.release = 0 then envEnter .ended 0
    else
      let l := e.l0 * dbG (-96 * t / p.release)
      if l < mkRat 1 65536 then envEnter .ended 0 else { e with t := t, level := l }
  | .ended => e

/-- A release enters RELEASE at once. -/
def envRelease (e : Env) : Env := if e.seg == .ended || e.seg == .release then e else envEnter .release e.level

/-! ### LFOs (R376) -/

/-- An LFO's value from its shape, its phase and its sample-and-hold value. -/
def lfoValue (shape : Nat) (ph sh : Rat) : Rat :=
  match shape with
  | 0 => sinT ph
  | 1 => if ph < mkRat 1 4 then 4 * ph else if ph < mkRat 3 4 then 2 - 4 * ph else 4 * ph - 4
  | 2 => 2 * ph - 1
  | 3 => if ph < mkRat 1 2 then 1 else -1
  | _ => sh

/-! ### Phrases (R378) -/

/-- The standard IMA step table. -/
def imaSteps : List Nat :=
  [7, 8, 9, 10, 11, 12, 13, 14, 16, 17, 19, 21, 23, 25, 28, 31, 34, 37, 41, 45, 50, 55, 60, 66, 73, 80, 88, 97, 107, 118] ++
  [130, 143, 157, 173, 190, 209, 230, 253, 279, 307, 337, 371, 408, 449, 494, 544, 598, 658, 724, 796, 876, 963, 1060, 1166] ++
  [1282, 1411, 1552, 1707, 1878, 2066, 2272, 2499, 2749, 3024, 3327, 3660, 4026, 4428, 4871, 5358, 5894, 6484, 7132, 7845] ++
  [8630, 9493, 10442, 11487, 12635, 13899, 15289, 16818, 18500, 20350, 22385, 24623, 27086, 29794, 32767]

/-- The standard IMA index table. -/
def imaIndex (code : Nat) : Int := match code % 8 with | 4 => 2 | 5 => 4 | 6 => 6 | 7 => 8 | _ => -1

/-- One code: the predictor and the step index after it. -/
def imaStep (p : Int × Nat) (code : Nat) : Int × Nat :=
  let st := imaSteps.getD p.2 7
  let d := st / 8 + (if code.testBit 2 then st else 0) + (if code.testBit 1 then st / 2 else 0) + (if code.testBit 0 then st / 4 else 0)
  (clampInt (-32768) 32767 (if code.testBit 3 then p.1 - d else p.1 + d), (clampInt 0 88 ((p.2 : Int) + imaIndex code)).toNat)

/-- The samples of one block. -/
def imaBlock (b : List Byte) : List Int :=
  let p0 : Int × Nat := (toSigned 16 (le b 0 2), min 88 (le b 2 1))
  let codes := (b.drop 4).flatMap (fun x => [x.toNat % 16, x.toNat / 16])
  (codes.foldl (fun (r : List Int × (Int × Nat)) c => let n := imaStep r.2 c; (n.1 :: r.1, n)) ([p0.1], p0)).1.reverse

/-- The samples of the bytes received. -/
def phraseSamples (e : PhraseEntry) (b : List Byte) : List Int :=
  if e.format = 1 then (List.range (b.length / 2)).map (fun i => toSigned 16 (le b (2 * i) 2))
  else (List.range (ceilDiv b.length 512)).flatMap (fun k => let c := (b.drop (512 * k)).take 512; if c.length < 4 then [] else imaBlock c)

/-- Samples of the whole phrase. -/
def phraseLength (e : PhraseEntry) : Nat :=
  if e.format = 1 then e.length / 2
  else 1017 * (e.length / 512) + (let r := e.length % 512; if r < 4 then 0 else 2 * (r - 4) + 1)

/-- 4-tap Lagrange interpolation at position `x`, over samples ⌊x⌋ − 1 to ⌊x⌋ + 2. -/
def lagrange4 (at_ : Int → Int) (x : Rat) : Rat :=
  let i := x.floor
  let f := x - i
  let y (k : Int) : Rat := (at_ (i + k) : Rat)
  y (-1) * (-(f * (f - 1) * (f - 2)) / 6) + y 0 * ((f + 1) * (f - 1) * (f - 2) / 2) + y 1 * (-((f + 1) * f * (f - 2)) / 2) +
    y 2 * ((f + 1) * f * (f - 1) / 6)

/-! ### The modulation matrix (R377, Tables 15.3 and 15.4) -/

/-- One route: source, destination, amount. -/
abbrev Route := Nat × Nat × Rat

/-- The routes of a patch. -/
def routesOf (p : Memory) : List Route := (List.range 16).map (fun i => (p.readN (84 + 4 * i) 1, p.readN (85 + 4 * i) 1, q15 (p.readN (86 + 4 * i) 2)))

/-- The normalised sum of a destination: source × (amount + route modulation). -/
def modSum (src : Nat → Rat) (routes : List Route) (d : Nat) : Rat :=
  let one (k : Rat) (r : Route) : Rat := if r.1 = 0 || r.2.1 = 0 then 0 else src r.1 * (r.2.2 + k)
  let routeMod (i : Nat) : Rat :=
    if 4 ≤ i then 0 else clampR (-1) 1 (sumR ((routes.filter (fun r => r.2.1 == 24 + i)).map (one 0)))
  sumR (((routes.zipIdx).filter (fun r => r.1.2.1 == d)).map (fun r => one (routeMod r.2) r.1))

end Sys2Proof.Machine
end

