-- ==== Sys2Proof/Machine/BlvOps.lean ====
section
/-! DEFINITION. The Boulevard link (chapter 18): roles, markers and centre time, membership and elections, messages,
KERB frames, heal, and the block's registers. -/
namespace Sys2Proof.Machine
open Sys2Proof

/-- Base of the Boulevard block (Table 19.6). -/
def blvBase : Nat := blockBase 13

/-- LINK forwards and takes frames. -/
def linkUp (s : State) : Bool := islRuns s islLINK

/-- Set ATTN_CAUSE.BOULEVARD. -/
def attnBlv (s : State) : State := setAttn attnBoulevard s

/-! ### Roles (R454, R464) -/

/-- The BOULEVARD_ROLES payload in force. -/
def rolesAddr : Nat := nvmBase + 0x1200

/-- A BOULEVARD_ROLES payload has been committed; otherwise the factory table holds (R464). -/
def rolesSet (s : State) : Bool := s.mem.readN rolesAddr 4 == 0x424C5231

/-- DISP_PRIO of an address in this node's table; the factory table sets every one to 1 (R464). -/
def dispPrio (s : State) (a : Nat) : Nat := if rolesSet s then s.mem.readN (rolesAddr + 64 + a) 1 else 1

/-- A role of this node's committed table: address and DIE_ID while present (R464). -/
def roleOf (s : State) (concentrator : Bool) : Option (Nat × Nat) :=
  let o := if concentrator then 2 else 0
  if rolesSet s && s.mem.readN (rolesAddr + 9 + o) 1 == 1 then
    some (s.mem.readN (rolesAddr + 8 + o) 1, s.mem.readN (rolesAddr + 16 + 4 * o) 8)
  else none

/-- A node holds a role as this node sees it (R454): named with its DIE_ID, present, and with this node's role tag. -/
def holdsRole (s : State) (concentrator : Bool) (addr : Nat) : Bool :=
  match roleOf s concentrator with
  | none => false
  | some (a, d) => a == addr && !s.blv.roleMismatch &&
      s.blv.members.any (fun m => m.addr == a && m.dieId == d && m.roleTag == s.link.roleTag)

/-- This node is WARDEN or CONCENTRATOR. -/
def selfRole (s : State) (concentrator : Bool) : Bool :=
  match s.blv.self with
  | none => false
  | some a => holdsRole s concentrator a && !s.blv.roleMismatch

/-! ### Membership (R451, R452) -/

/-- NODES. -/
def nodes (s : State) : Nat := s.blv.members.length

/-- This node is the centre DISPATCHER. -/
def isCentre (s : State) : Bool := s.blv.self == some s.blv.centre && decide (0 < nodes s)

/-- The better of two members for centre DISPATCHER by the keys of R452. -/
def betterCentre (a b : Member) : Member :=
  if a.timeValid ≠ b.timeValid then (if a.timeValid then a else b)
  else if a.prio ≠ b.prio then (if b.prio < a.prio then a else b)
  else if a.addr ≤ b.addr then a else b

/-- The centre DISPATCHER elected among members. -/
def electCentre : List Member → Option Member
  | [] => none
  | m :: t => some (t.foldl betterCentre m)

/-- The DISPATCHER of group `g`: highest DISP_PRIO above 0 among the hosts of a car of `g`, lowest address on a tie
(R452). -/
def electDispatcher (ms : List Member) (prio : Nat → Nat) (g : Nat) : Option Nat :=
  let cs := ms.filter (fun m => m.groups.testBit g && decide (0 < prio m.addr))
  (cs.foldl (fun (b : Option Member) m =>
    match b with
    | none => some m
    | some x => if prio x.addr < prio m.addr || (prio x.addr = prio m.addr && m.addr < x.addr) then some m else some x)
    none).map (·.addr)

/-- This node's own entry for a membership record. -/
def selfMember (s : State) : Member :=
  { addr := s.blv.addr, dieId := s.host.dieId, groups := s.blv.hosted, roleTag := s.link.roleTag,
    timeValid := s.time.centreValid, lineage := s.time.lineage, prio := bits s.blv.cfg 15 8 }

/-- A CONTROL frame of this node: TYPE 7 to everyone. -/
def controlFrame (s : State) (payload : List Byte) : BlvFrame :=
  { typ := 7, flags := 1, src := s.blv.addr, dst := 0, port := 0, seq := 0, payload := payload, ackCnt := 0,
    ackStatus := .ok, nackNode := 0, hops := 0 }

/-- Emit a frame on a ring. -/
def emitFrame (r : Ring) (f : BlvFrame) (s : State) : State :=
  match r with
  | .a => { s with link := { s.link with outA := some f } }
  | .b => { s with link := { s.link with outB := some f } }

/-- The bytes of a membership record: address, DIE_ID, groups and tag of each member (R451). -/
def membersBytes (ms : List Member) : List Byte :=
  ms.flatMap (fun m => leBytes 1 m.addr ++ leBytes 8 m.dieId ++ leBytes 2 m.groups ++ leBytes 4 m.roleTag)

/-- The centre DISPATCHER publishes a membership record (R451). -/
def publishMembers (ms : List Member) (s : State) : State :=
  let s1 := { s with blv := { s.blv with nextMembers := some ms, memberVer := (s.blv.memberVer + 1) % 256 } }
  emitFrame .b (controlFrame s (membersBytes ms)) s1

/-- A CONTROL JOIN reaches the centre DISPATCHER: it admits a node whose address no member holds (R451). -/
def controlJoin (m : Member) (s : State) : State :=
  if linkUp s && isCentre s && !(s.blv.members.any (fun x => x.addr == m.addr)) then
    publishMembers (s.blv.members ++ [m]) s
  else s

/-- Start centre time anew at 0 with a new LINEAGE (R453). -/
def startCentreTime (s : State) : State :=
  let l := Config.newLineage s.link.freeIdx % (2 ^ 24 - 1) + 1
  { s with time := { s.time with centre := 0, centreValid := true, lineage := l }
           link := { s.link with freeIdx := s.link.freeIdx + 1, lineageKept := l } }

/-- A message whose frame a break has lost is no longer on the ring: it is resent in its class's next turn (R466). -/
def BlvMsg.lost (m : BlvMsg) : BlvMsg := { m with onRing := false }

/-- Take a membership record into effect on this node: who is in, the centre DISPATCHER, the role check, the KERB bits that
drop out, and the frames that a break has lost (R451 to R454, R459, R460, R466). -/
def takeMembers (ms : List Member) (s : State) : State :=
  let me := s.blv.addr
  let held := ms.find? (fun m => m.addr == me)
  let inRing := match held with
    | some m => m.dieId == s.host.dieId && !s.blv.left
    | none => false
  let dup := match held with
    | some m => m.dieId != s.host.dieId
    | none => false
  let c := electCentre ms
  let mism := inRing && (match c with
    | some m => m.roleTag != s.link.roleTag
    | none => false)
  let ring := if !inRing then .joining
    else if ms.length ≤ 1 then .isolated
    else if s.blv.ring == .healing || s.blv.ring == .wrapped then .wrapped else .normal
  let healed := s.blv.ring == .healing && ring == .wrapped
  let ver := if s.blv.nextMembers.isSome then s.blv.memberVer else (s.blv.memberVer + 1) % 256
  attnBlv { s with
    blv := { s.blv with
      members := ms, nextMembers := none, self := if inRing then some me else none, dupAddr := dup
      centre := (c.map (·.addr)).getD 0, roleMismatch := mism, ring := ring, memberVer := ver
      healCnt := if healed then satInc 16 s.blv.healCnt else s.blv.healCnt }
    link := { s.link with
      kerbBits := s.link.kerbBits.filter (fun k => ms.any (fun m => m.addr == k.1))
      inFlight := if healed then s.link.inFlight.map (fun x => x.map BlvMsg.lost) else s.link.inFlight } }

/-- A membership record takes effect after its lap, and the elections run (R451 to R453). -/
def membershipEffective (ms : List Member) (prios : List Nat) (s : State) : State :=
  let s1 := takeMembers ms s
  let prio (a : Nat) : Nat := if isCentre s1 then dispPrio s a else prios.getD a (dispPrio s a)
  let d : Vector (Option Nat) 16 := Vector.ofFn (fun (g : Fin 16) => electDispatcher ms prio g.val)
  let s2 := { s1 with blv := { s1.blv with nextDispatcher := some d, lapAt := s.time.uptime } }
  if isCentre s2 && !(ms.any (·.timeValid)) then startCentreTime s2 else s2

/-- A group DISPATCHER change takes effect, no earlier than 10 ms after the lap (R452). -/
def groupDispatcherChange (s : State) : State :=
  match s.blv.nextDispatcher with
  | none => s
  | some d =>
    if s.blv.lapAt + 10000000 ≤ s.time.uptime then
      { s with blv := { s.blv with dispatcher := d, nextDispatcher := none } }
    else s

/-! ### Markers and centre time (R446, R449, R450) -/

/-- The marker payload of Table 18.4. -/
def markerBytes (m : Marker) : List Byte :=
  leBytes 8 m.cycle ++ leBytes 8 m.tTx ++ leBytes 4 (ofSigned 32 m.corr16) ++ leBytes 3 m.lineage ++ leBytes 1 m.memberVer

/-- A marker frame. -/
def markerFrame (src : Nat) (m : Marker) : BlvFrame :=
  { typ := 0, flags := 1, src := src, dst := 0, port := 0, seq := m.cycle % 65536, payload := markerBytes m, ackCnt := m.ackCnt,
    ackStatus := .ok, nackNode := 0, hops := m.hops }

/-- A frame has passed more nodes than any frame of the ring can: it is stripped (R448). -/
def orphan (s : State) (hops : Nat) : Bool := decide (0 < nodes s) && decide (2 * (nodes s - 1) < hops)

/-- The centre DISPATCHER emits marker c on both rings (R446). -/
def markerEmit (s : State) : State :=
  if linkUp s && isCentre s then
    let c := s.time.centre / 100000
    let m : Marker := { cycle := c, tTx := c * 100000, corr16 := 0,
                        lineage := if s.time.centreValid then s.time.lineage else 0, memberVer := s.blv.memberVer, ackCnt := 0, hops := 0 }
    let f := markerFrame s.blv.centre m
    let s1 := emitFrame .b f (emitFrame .a f s)
    { s1 with link := { s1.link with cycle := c, corr := 0, lastMarker := s.time.uptime } }
  else s

/-- The upstream hop delay of a ring, ns. -/
def hopOf (s : State) (r : Ring) : Rat :=
  match r with
  | .a => s.link.hopA
  | .b => s.link.hopB

/-- The centre time a marker gives at its arrival (R449). -/
def markerTime (s : State) (r : Ring) (m : Marker) : Rat := (m.tTx : Rat) + (m.corr16 : Rat) / 16 + hopOf s r

/-- A marker of ring A steers the counter: a change of LINEAGE steps it (R449, R450, R453). -/
def markerSteer (m : Marker) (s : State) : State :=
  let t := markerTime s .a m
  let now := (wholeOr Config.roundNs t).toNat % 2 ^ 64
  let diff := t - (s.time.centre : Rat)
  if m.lineage = 0 then s
  else if m.lineage ≠ s.time.lineage then
    attnBlv { s with
      time := { s.time with centre := now, centreValid := false, lineage := m.lineage }
      blv := { s.blv with lastStep := wholeOr Config.roundNs diff }
      link := { s.link with goodMarkers := 0, lineageKept := m.lineage } }
  else
    let good := if -50 < diff && diff < 50 then min 100 (s.link.goodMarkers + 1) else 0
    { s with
      time := { s.time with centre := now, centreValid := s.time.centreValid || good == 100 }
      blv := { s.blv with offsetPs := wholeOr Config.roundPs (diff * 1000) }
      link := { s.link with goodMarkers := good } }

/-- The marker as this node forwards it: residence and hop delay added to CORR, acknowledged by a member, HOPS + 1
(R448, R449). -/
def markerOn (s : State) (r : Ring) (m : Marker) (residence16 : Nat) : Marker :=
  { m with corr16 := wholeOr Config.roundCorr ((m.corr16 : Rat) + (residence16 : Rat) + 16 * hopOf s r)
           ackCnt := if s.blv.self.isSome then (m.ackCnt + 1) % 256 else m.ackCnt
           hops := min 511 (m.hops + 1) }

/-- A received marker: the centre DISPATCHER strips its own; any other node takes the cycle, is steered by it on ring A, and
forwards it (R448, R449). -/
def markerReceive (r : Ring) (m : Marker) (residence16 : Nat) (s : State) : State :=
  if !linkUp s then s
  else if isCentre s then { s with link := { s.link with lastMarker := s.time.uptime } }
  else
    let s1 := { s with link := { s.link with lastMarker := s.time.uptime, cycle := m.cycle,
                                             corr := (m.corr16 : Rat) / 16 + (residence16 : Rat) / 16 + hopOf s r } }
    let s2 := if orphan s m.hops then s1 else emitFrame r (markerFrame s.blv.centre (markerOn s r m residence16)) s1
    match r with
    | .a => markerSteer m s2
    | .b => s2

/-- A second without a marker ends TIME_VALID on a node that is not the source (R450). -/
def timeValidLoss (s : State) : State :=
  if isCentre s then s
  else { s with time := { s.time with centreValid := false }, link := { s.link with goodMarkers := 0 } }

/-- The upstream hop delay: half the round trip less the turnaround, plus LINK_ASYM of the ring's input port (R449). -/
def hopMeasure (r : Ring) (roundTripPs turnaroundPs : Nat) (s : State) : State :=
  let half : Rat := ((roundTripPs : Rat) - (turnaroundPs : Rat)) / 2000
  match r with
  | .a => { s with link := { s.link with hopA := half + (sbits s.blv.cfg 63 48 : Rat) / 100 } }
  | .b => { s with link := { s.link with hopB := half + (sbits s.blv.cfg 47 32 : Rat) / 100 } }

/-! ### KERB frames (R446, R459, R460, R461) -/

/-- C64–C127 as committed, one bit each. -/
def ownKerbBits (s : State) : Word := BitVec.ofNat 64 (s.kerb.cCom / 2 ^ 64)

/-- The OR of the centre kerb bits: S64–S127 (R352, R459). -/
def centreKerb (s : State) : Word := s.link.kerbBits.foldl (fun a k => a ||| k.2.2) (ownKerbBits s)

/-- Nodes whose KERB frames a link cycle must show. -/
def expectedNodes (s : State) : Nat := let e := bits s.blv.cfg 24 16; if e = 0 then nodes s else e

/-- CB_VALID (R459). -/
def cbValid (s : State) : Bool := decide (3 ≤ s.blv.goodCycles)

/-- Close the link cycle that an insertion ends (R459). -/
def closeCycle (s : State) : State :=
  let good := s.link.kerbBack && decide (expectedNodes s ≤ s.link.kerbSeen.length + 1)
  { s with blv := { s.blv with goodCycles := if good then min 3 (s.blv.goodCycles + 1) else 0 }
           link := { s.link with kerbSeen := [], kerbBack := decide (nodes s ≤ 1) } }

/-- A KERB frame of this node. -/
def kerbFrame (s : State) (bCopy : Bool) : BlvFrame :=
  { typ := 1, flags := 1 + 8 * b2n bCopy, src := (s.blv.self).getD 0, dst := 0, port := 0, seq := s.link.kerbSeq,
    payload := leBytes 8 (ownKerbBits s).toNat, ackCnt := 0, ackStatus := .ok, nackNode := 0, hops := 0 }

/-- The ring states in which a member sends KERB frames: in WRAPPED in even cycles only, but in each of the cycles that end at
the unwrap. -/
def kerbSends (s : State) : Bool :=
  linkUp s && s.blv.self.isSome &&
  (s.blv.ring == .normal || s.blv.ring == .healing || s.blv.ring == .isolated ||
    (s.blv.ring == .wrapped && (s.link.cycle % 2 == 0 || decide (0 < s.link.bothWays))))

/-- The cycle that follows those of an unwrap: the ring is NORMAL (R461). -/
def unwrapEnd (s : State) : State :=
  if s.link.bothWays = 1 && s.blv.ring == .wrapped then { s with blv := { s.blv with ring := .normal } } else s

/-- A member inserts its KERB frame: on ring A, and on both rings while HEALING and for 3 cycles after an unwrap
(R446, R460, R461). -/
def kerbInsert (s : State) : State :=
  if !kerbSends s then s
  else
    let s1 := unwrapEnd (closeCycle s)
    let s2 := { s1 with link := { s1.link with kerbSeq := (s1.link.kerbSeq + 1) % 65536, bothWays := s1.link.bothWays - 1 } }
    let s3 := emitFrame .a (kerbFrame s2 false) s2
    if s.blv.ring == .healing || decide (1 < s.link.bothWays) then emitFrame .b (kerbFrame s2 true) s3 else s3

/-- A KERB frame goes on along its ring, HOPS + 1, or is stripped (R448). -/
def kerbForward (f : BlvFrame) (s : State) : State :=
  if orphan s f.hops then s else emitFrame (if f.flags.testBit 3 then .b else .a) { f with hops := min 511 (f.hops + 1) } s

/-- A KERB frame arrives: the node's own frame returning, or another member's bits, once per SEQ; a member stamps it at its
first pass, and every node but its sender forwards it (R448, R459, R460). -/
def kerbReceive (f : BlvFrame) (pcrcOk : Bool) (s : State) : State :=
  if !linkUp s then s
  else if !pcrcOk then kerbForward f { s with blv := { s.blv with crcCnt := satInc 16 s.blv.crcCnt } }
  else if s.blv.self = some f.src then
    { s with link := { s.link with kerbBack := s.link.kerbBack || (f.seq == s.link.kerbSeq && f.ackCnt + 1 == nodes s) } }
  else
    let seen := (tget s.link.kerbBits f.src).map (·.1) == some f.seq
    let w : Word := BitVec.ofNat 64 (le f.payload 0 8)
    let f1 := if s.blv.self.isNone || (s.blv.ring == .wrapped && seen) then f else { f with ackCnt := (f.ackCnt + 1) % 256 }
    kerbForward f1 (if s.blv.members.any (fun m => m.addr == f.src) then
      { s with link := { s.link with
          kerbBits := if seen then s.link.kerbBits else tput f.src (f.seq, w) s.link.kerbBits
          kerbSeen := insNat f.src s.link.kerbSeen } }
    else s)

/-! ### Messages (R448, R457, R458) -/

/-- Turn period R (R457). -/
def turnPeriod (s : State) : Nat :=
  ceilDiv (nodes s * 1064) (if s.blv.ring == .wrapped then 6000 else 11000)

/-- This node's rank in ring order. -/
def ringRank (s : State) : Nat := (s.blv.members.findIdx? (fun m => some m.addr == s.blv.self)).getD 0

/-- Index of a class. -/
def classIdx : BlvClass → Nat
  | .dispatch => 0 | .audioCue => 1 | .meter => 2 | .bulk => 3

/-- TYPE of a class (Table 18.2). -/
def classType (c : BlvClass) : Nat := 3 + classIdx c

/-- The classes of ring B in priority order. -/
def blvClasses : List BlvClass := [.dispatch, .audioCue, .meter, .bulk]

/-- The transmit queue of a class. -/
def txQid (s : State) (c : BlvClass) : Nat :=
  match c with
  | .bulk => bits s.blv.txq 63 48
  | .meter => bits s.blv.txq 47 32
  | .audioCue => bits s.blv.txq 31 16
  | .dispatch => bits s.blv.txq 15 0

/-- The message of a class not yet ended. -/
def inFlight (s : State) (c : BlvClass) : Option BlvMsg := vget s.link.inFlight (classIdx c) none

/-- Set the message of a class. -/
def setInFlight (c : BlvClass) (m : Option BlvMsg) (s : State) : State :=
  { s with link := { s.link with inFlight := vput s.link.inFlight (classIdx c) m } }

/-- A frame of this node for a class, with the class's next SEQ. -/
def newFrame (s : State) (c : BlvClass) (flags dst port : Nat) (payload : List Byte) : BlvFrame :=
  { typ := classType c, flags := flags, src := (s.blv.self).getD 0, dst := dst, port := port,
    seq := vget s.link.txSeq (classIdx c) 0, payload := payload, ackCnt := 0, ackStatus := .ok, nackNode := 0, hops := 0 }

/-- Take a class's SEQ. -/
def takeSeq (c : BlvClass) (s : State) : State :=
  { s with link := { s.link with txSeq := vmod s.link.txSeq (classIdx c) (fun q => (q + 1) % 65536) } }

/-- Take the next message of a class: one of the block's own, else an entry of its transmit queue; an entry delivered with
ABORT is acknowledged and not sent (R457). -/
def nextMessage (c : BlvClass) (s : State) : State :=
  match inFlight s c with
  | some _ => s
  | none =>
    match s.link.own.find? (fun p => p.1 == c) with
    | some p =>
      let f := { p.2 with seq := vget s.link.txSeq (classIdx c) 0 }
      setInFlight c (some ⟨f, none, 0, false⟩)
        (takeSeq c { s with link := { s.link with own := s.link.own.erase p } })
    | none =>
      let q := txQid s c
      let r := qDequeue q s
      match r.1.status with
      | .ok =>
        let e := r.2.1
        let f := newFrame s c (le e 2 1 % 4) (le e 0 1) (le e 1 1 % 64) (s.mem.bytes (le e 8 8) (le e 4 2))
        setInFlight c (some ⟨f, some q, 0, false⟩) (takeSeq c r.2.2)
      | .abort => (qAck q 1 r.2.2).2
      | _ => r.2.2

/-- The turn is this node's in the present cycle (R457). -/
def myTurn (s : State) : Bool :=
  linkUp s && s.blv.self.isSome && (s.blv.ring == .normal || s.blv.ring == .wrapped) &&
  decide (0 < nodes s) && s.link.cycle % turnPeriod s == ringRank s % turnPeriod s

/-- Send a class's message in this turn: RETRY marks a resend (R457). -/
def sendClass (c : BlvClass) (m : BlvMsg) (s : State) : State :=
  let f := if m.tries = 0 then m.frame else { m.frame with flags := (m.frame.flags % 4) + 4 }
  emitFrame .b f (setInFlight c (some { m with tries := m.tries + 1, onRing := true }) s)

/-- The first of the classes given that has a message pending sends it (R457). -/
def turnOver : List BlvClass → State → State
  | [], s => s
  | c :: t, s =>
    let s1 := nextMessage c s
    match inFlight s1 c with
    | some m => if m.onRing then turnOver t s1 else sendClass c m s1
    | none => turnOver t s1

/-- One turn: one ring-B frame of the highest-priority class that has one pending; nothing while HEALING (R457, R460). -/
def blvTurn (s : State) : State := if myTurn s then turnOver blvClasses s else s

/-- The ACK_CNT a message needs (R457). -/
def expectedAcks (s : State) (f : BlvFrame) : Nat :=
  if f.flags.testBit 0 then nodes s - 1
  else if f.flags.testBit 1 then
    (s.blv.members.filter (fun m => m.groups.testBit f.dst && some m.addr != s.blv.self)).length
  else 1

/-- End a class's message: its transmit entry is acknowledged (R457). -/
def endMessage (c : BlvClass) (m : BlvMsg) (s : State) : State :=
  let s1 := setInFlight c none s
  match m.qid with
  | some q => (qAck q 1 s1).2
  | none => s1

/-- A sender's frame returns: the message ends, is resent in the class's next turn, or is dropped after RETRY_LIMIT turns
(R457). -/
def frameReturn (c : BlvClass) (st : Status) (cnt : Nat) (s : State) : State :=
  match inFlight s c with
  | none => s
  | some m =>
    if !m.onRing then s
    else if st == .ok && cnt == expectedAcks s m.frame then endMessage c m s
    else if bits s.blv.cfg 31 28 ≤ m.tries then
      let s1 := endMessage c m s
      { s1 with blv := { s1.blv with dropCnt := satInc 16 s1.blv.dropCnt } }
    else
      let s1 := setInFlight c (some { m with onRing := false }) s
      { s1 with blv := { s1.blv with retryCnt := satInc 16 s1.blv.retryCnt } }

/-- The frame is addressed to this node (R448). -/
def addressed (s : State) (f : BlvFrame) : Bool :=
  f.typ ≤ 1 || f.flags.testBit 0 || (!f.flags.testBit 1 && s.blv.self == some f.dst) ||
  (f.flags.testBit 1 && s.blv.hosted.testBit f.dst)

/-- SEQ is above the last one accepted from this source and class, in the half range (R458). -/
def seqNew (s : State) (f : BlvFrame) : Bool :=
  match tget s.link.rxSeq (f.src * 8 + f.typ) with
  | none => true
  | some l => let d := (f.seq + 65536 - l) % 65536; decide (1 ≤ d) && decide (d < 32768)

/-- Worst of two stamped statuses: OK, then FULL, then REFUSED (Table 18.3). -/
def stampRank : Status → Nat
  | .ok => 0 | .full => 1 | _ => 2

/-- Stamp a frame: acceptance counts, a worse status replaces, the first bad status names its node (R448). -/
def stamp (s : State) (st : Status) (f : BlvFrame) : BlvFrame :=
  if st == .ok then { f with ackCnt := (f.ackCnt + 1) % 256 }
  else
    { f with nackNode := if f.ackStatus == .ok then (s.blv.self).getD 0 else f.nackNode
             ackStatus := if stampRank f.ackStatus < stampRank st then st else f.ackStatus }

/-- Write an accepted payload to the port's buffer and publish its 32-byte entry; the status to stamp (R448, R458). -/
def acceptToPort (f : BlvFrame) (s : State) : Status × State :=
  let p := vget s.blv.ports (f.port % 64) { qid := 0, inUse := false, bufBase := 0 }
  if !p.inUse then (.refused, s)
  else
    match qGet s p.qid with
    | none => (.refused, s)
    | some q =>
      let buf := p.bufBase + 1024 * q.slot q.resv
      let e := leBytes 1 f.src ++ leBytes 1 f.typ ++ leBytes 1 f.flags ++ leBytes 1 f.port ++ leBytes 2 f.seq ++
        leBytes 2 f.payload.length ++ leBytes 8 s.time.centre ++ leBytes 8 buf ++ leBytes 8 0
      let r := qEnqueue p.qid e s
      match r.1 with
      | .ok => (.ok, { r.2 with mem := r.2.mem.writeBytes buf f.payload })
      | _ => (.full, r.2)

/-- Deliver an addressed message: duplicates are stamped and discarded, ports 0 and 4 are internal (R448, R458). -/
def deliverFrame (f : BlvFrame) (s : State) : Status × State :=
  if f.typ < 3 || f.typ = 7 || f.port = 0 || f.port = 4 then (.ok, s)
  else if !seqNew s f then (.ok, s)
  else
    let r := acceptToPort f s
    if r.1 == .ok then (.ok, { r.2 with link := { r.2.link with rxSeq := tput (f.src * 8 + f.typ) f.seq r.2.link.rxSeq } })
    else r

/-- A passing frame: checked, stamped, delivered, and forwarded with HOPS + 1 or stripped (R448). -/
def frameAccept (r : Ring) (f : BlvFrame) (firstPass pcrcOk fcsOk : Bool) (s : State) : State :=
  if !linkUp s then s
  else
    let bad := b2n (!pcrcOk) + b2n (!fcsOk)
    let s0 := { s with blv := { s.blv with crcCnt := satTo 16 (s.blv.crcCnt + bad) } }
    let mine := s.blv.self == some f.src
    let d := if pcrcOk && firstPass && !mine && s.blv.self.isSome && addressed s f
      then (let x := deliverFrame f s0; (stamp s x.1 f, x.2)) else (f, s0)
    if mine || orphan s f.hops then d.2 else emitFrame r { d.1 with hops := min 511 (d.1.hops + 1) } d.2

/-! ### Heal (R460 to R462) -/

/-- This node has no input left (R450, R462): a member becomes a ring of one, and with it its own centre DISPATCHER. -/
def isolate (s : State) : State :=
  if s.blv.self.isSome then membershipEffective [selfMember s] [] s
  else attnBlv { s with blv := { s.blv with ring := .isolated, members := [], centre := s.blv.addr } }

/-- A lost ring input: HEALING, BREAK on the other ring, the port wrapped; with both inputs lost, ISOLATED (R460, R462). -/
def breakDetect (portQ : Bool) (s : State) : State :=
  if !linkUp s then s
  else
    let s1 := { s with blv := { s.blv with ring := .healing, wrapP := s.blv.wrapP || !portQ, wrapQ := s.blv.wrapQ || portQ }
                       link := { s.link with bothWays := 0 } }
    if s1.blv.wrapP && s1.blv.wrapQ then isolate s1
    else emitFrame (if portQ then .a else .b) (controlFrame s []) s1

/-- A received BREAK (R460). -/
def breakReceive (s : State) : State :=
  if linkUp s then { s with blv := { s.blv with ring := .healing }, link := { s.link with bothWays := 0 } } else s

/-- Both wrapping nodes separate the rings at the unwrap cycle; KERB frames go both ways for 3 cycles, and the ring is NORMAL
from the next (R461). -/
def unwrap (s : State) : State :=
  if linkUp s && (s.blv.ring == .wrapped || s.blv.ring == .isolated) then
    let member := s.blv.self.isSome && decide (1 < nodes s)
    attnBlv { s with blv := { s.blv with wrapP := false, wrapQ := false, ring := if member then .wrapped else .joining }
                     link := { s.link with bothWays := if member then 4 else 0 } }
  else s

/-! ### Commands of BLV_CTL (R451, R463) -/

/-- The bytes of port entry `p`. -/
def portBytes (s : State) (p : Nat) : List Byte := s.mem.bytes (blvBase + 0x100 + 16 * p) 16

/-- Port entry `p` keeps R463. -/
def portOk (s : State) (p : Nat) : Bool :=
  let b := portBytes s p
  let used := le b 2 1
  zeroBytes b 3 5 && decide (used ≤ 1) &&
  (used == 0 || (p != 0 && p != 4 &&
    match qGet s (le b 0 2) with
    | none => false
    | some q => q.cfg.prod == islLINK && q.cfg.entryW == 2 && inGeneral (le b 8 8) (q.depth * 1024)))

/-- A transmit queue of BLV_TXQ has LINK as its consumer owner; 0 names none. -/
def txOk (s : State) (q : Nat) : Bool :=
  q == 0 || (match qGet s q with
    | none => false
    | some x => x.cfg.cons == islLINK && x.cfg.entryW == 2)

/-- APPLY of the port table and BLV_TXQ (R463). -/
def blvApply (s : State) : State :=
  let w := s.blv.txqReg
  let ok := (List.range 64).all (portOk s) &&
    [bits w 63 48, bits w 47 32, bits w 31 16, bits w 15 0].all (txOk s)
  if ok then
    let ps : Vector BlvPort 64 := Vector.ofFn (fun (p : Fin 64) =>
      let b := portBytes s p.val
      { qid := le b 0 2, inUse := le b 2 1 == 1, bufBase := le b 8 8 })
    { s with blv := { s.blv with ports := ps, txq := w, refused := false } }
  else { s with blv := { s.blv with refused := true } }

/-- LEAVE: stop joining, forward only. -/
def blvLeave (s : State) : State :=
  attnBlv { s with blv := { s.blv with left := true, self := none, ring := if s.blv.ring == .down then .down else .joining } }

/-- JOIN: NODE_ADDR is applied, and a JOIN with it is sent in the spare time of ring A (R451). -/
def blvJoin (s : State) : State :=
  if !linkUp s then s
  else
    let s1 := { s with blv := { s.blv with left := false, dupAddr := false, addr := bits s.blv.cfg 7 0
                                           ring := if s.blv.self.isSome then s.blv.ring else .joining } }
    emitFrame .a (controlFrame s1 (membersBytes [selfMember s1])) s1

/-- BLV_CONFIRM on the WARDEN: the tag goes as a BULK message to port 4 of the target (R455). -/
def blvConfirm (target : Nat) (s : State) : State :=
  if selfRole s false then
    let f := newFrame s .bulk 0 target 4 (leBytes 8 s.link.confirmTag.toNat)
    { s with link := { s.link with own := s.link.own ++ [(.bulk, f)], confirmPending := true, confirmTarget := target } }
  else s

/-- The target's reply reaches the WARDEN (R455). -/
def wardenReply (st : Status) (reason : Nat) (s : State) : State :=
  { s with link := { s.link with confirmStatus := st, confirmReason := reason, confirmPending := false } }

/-! ### Roll-up (R456) -/

/-- Point record of meter point `p` (Table 19.4). -/
def pointAddr (p : Nat) : Nat := sramBase + 0x390000 + 128 * p

/-- Row of the roll-up table (R456, Table 19.4). -/
def rollupAddr (node p : Nat) : Nat := sramBase + 0x420000 + (node * 128 + p) * 32

/-- The 24 bytes of one point in a roll-up message. -/
def rollupPoint (s : State) (p : Nat) : List Byte :=
  let a := pointAddr p
  s.mem.bytes (a + 16) 8 ++ s.mem.bytes (a + 24) 8 ++ s.mem.bytes (a + 92) 4 ++ s.mem.bytes (a + 12) 4

/-- A roll-up message for `count` points from `first`. -/
def rollupPayload (s : State) (time first count : Nat) : List Byte :=
  leBytes 8 time ++ leBytes 1 first ++ leBytes 1 count ++ leBytes 6 0 ++
  (List.range count).flatMap (fun i => rollupPoint s (first + i))

/-- Store one row under the sequence lock: the row's EPOCH with FLAGS word ends it (R456). -/
def storeRow (node p time : Nat) (pt : List Byte) (s : State) : State :=
  let a := rollupAddr node p
  { s with mem := (s.mem.writeN a 8 time).writeBytes (a + 8) (pt.take 24) }

/-- The CONCENTRATOR stores the rows of a message (R456). -/
def rollupStore (node : Nat) (m : List Byte) (s : State) : State :=
  let time := le m 0 8
  let first := le m 8 1
  (List.range (le m 9 1)).foldl (fun s i =>
    if first + i < 128 then storeRow node (first + i) time (m.drop (16 + 24 * i)) s else s) s

/-- Every minute each member sends its roll-up in messages of up to 40 points; the CONCENTRATOR stores its own (R456). -/
def rollupSend (s : State) : State :=
  match s.blv.self, roleOf s true with
  | some me, some (c, _) =>
    let t := s.time.centre / 60000000000 * 60000000000
    let msgs := [(0, 40), (40, 40), (80, 40), (120, 8)].map (fun p => rollupPayload s t p.1 p.2)
    if !holdsRole s true c then s
    else if c = me then msgs.foldl (fun s m => rollupStore me m s) s
    else
      let fs := msgs.map (fun m => (BlvClass.meter, newFrame s .meter 0 c 3 m))
      { s with link := { s.link with own := s.link.own ++ fs } }
  | _, _ => s

/-- At each snapshot, every member sends the CONCENTRATOR its KIND, T and DIGEST (R456). -/
def snapReport (kind t digest : Nat) (s : State) : State :=
  match s.blv.self, roleOf s true with
  | some me, some (c, _) =>
    if holdsRole s true c && c != me then
      { s with link := { s.link with own := s.link.own ++ [(.meter, newFrame s .meter 0 c 3 (Config.snapPayload kind t digest))] } }
    else s
  | _, _ => s

/-! ### Registers (Table 18.7) -/

/-- BLV_STAT. -/
def blvStat (s : State) : Word :=
  let b := s.blv
  let disp := maskOf ((List.range 16).map (fun g => b.self.isSome && vget b.dispatcher g none == b.self))
  packWord [(56, b.centre), (48, b.memberVer), (32, nodes s), (16, disp), (8, b2n s.time.centreValid),
    (9, b2n (isCentre s)), (10, b2n (selfRole s false)), (11, b2n (selfRole s true)), (12, b2n b.roleMismatch),
    (13, b2n b.dupAddr), (14, b2n (cbValid s)), (15, b2n b.refused), (0, b.ring.code)]

/-- Read a register of the Boulevard block; `none` where the offset is a table or nothing. -/
def blvRead (o : Nat) (s : State) : Option Word :=
  let b := s.blv
  if o = 0x000 || o = 0x038 then some 0
  else if o = 0x008 then some (blvStat s)
  else if o = 0x010 then
    some (packWord [(48, turnPeriod s), (32, b2n b.wrapP), (33, b2n b.wrapQ), (0, b.loopNs)])
  else if o = 0x018 then some (packWord [(32, ofSigned 32 b.lastStep), (0, ofSigned 32 b.offsetPs)])
  else if o = 0x020 then some b.cfg
  else if o = 0x028 then some (packWord [(48, b.healCnt), (32, b.crcCnt), (16, b.retryCnt), (0, b.dropCnt)])
  else if o = 0x030 then some b.txqReg
  else if o = 0x040 then some s.link.confirmTag
  else if o = 0x048 then
    some (packWord [(60, statusCode s.link.confirmStatus), (56, s.link.confirmReason), (0, b2n s.link.confirmPending)])
  else none

/-- The side effect of a read: BLV_CNT clears (RC). -/
def blvReadEffect (o : Nat) (s : State) : State :=
  if o = 0x028 then { s with blv := { s.blv with healCnt := 0, crcCnt := 0, retryCnt := 0, dropCnt := 0 } } else s

/-- A write of BLV_CTL (KEY 0x56). -/
def blvCtl (w : Word) (s : State) : State :=
  if bits w 63 56 ≠ 0x56 then s
  else match bits w 1 0 with
    | 1 => blvApply s
    | 2 => blvLeave s
    | 3 => blvJoin s
    | _ => s

/-- BLV_CFG keeps only its fields; RETRY_LIMIT lies in 1–15. -/
def blvCfgWord (w : Word) : Word :=
  packWord [(48, bits w 63 48), (32, bits w 47 32), (28, max 1 (bits w 31 28)), (16, bits w 24 16), (8, bits w 15 8),
    (0, bits w 7 0)]

/-- Write a register of the Boulevard block. -/
def blvWrite (o : Nat) (w : Word) (s : State) : State :=
  if o = 0x000 then blvCtl w s
  else if o = 0x020 then { s with blv := { s.blv with cfg := blvCfgWord w, cfgNvm := blvCfgWord w } }
  else if o = 0x030 then { s with blv := { s.blv with txqReg := w } }
  else if o = 0x038 then (if bits w 63 56 = 0x57 then blvConfirm (bits w 7 0) s else s)
  else if o = 0x040 then { s with link := { s.link with confirmTag := w } }
  else s

/-- A BOULEVARD_ROLES payload keeps R464. -/
def rolesOk (p : List Byte) : Bool :=
  p.length == 320 && le p 0 4 == 0x424C5231 && le p 4 2 == 1 && zeroBytes p 6 2 && decide (le p 9 1 ≤ 1) &&
  decide (le p 11 1 ≤ 1) && zeroBytes p 12 4 && zeroBytes p 32 32 &&
  (le p 9 1 == 0 || le p 16 8 != 0) && (le p 11 1 == 0 || le p 24 8 != 0)

/-- A fence of LINK with cause RESET removes the node; unacknowledged messages keep their SEQ (R468). -/
def blvReset (s : State) : State :=
  let seqs := blvClasses.foldl (fun (v : Vector Nat 4) c => match inFlight s c with
    | some m => vput v (classIdx c) m.frame.seq
    | none => v) s.link.txSeq
  { s with blv := { BlvState.init with cfg := s.blv.cfg, cfgNvm := s.blv.cfgNvm, hosted := s.blv.hosted }
           link := { BlvLink.init with txSeq := seqs, roleTag := s.link.roleTag, lineageKept := s.link.lineageKept,
                                       freeIdx := s.link.freeIdx, lastMarker := s.link.lastMarker } }

end Sys2Proof.Machine
end

