-- ==== Sys2Proof/Machine/MotAcc.lean ====
section
/-! DEFINITION. Access to the records of the lift, motion and door blocks, and to their axes and cars (Tables 11.8, 12.10,
12.11, 13.5). -/
namespace Sys2Proof.Machine
open Sys2Proof

/-- Base of the lift block. -/
def liftBase : Nat := blockBase 7
/-- Base of the motion block. -/
def motBase : Nat := blockBase 8
/-- Base of the door drive block. -/
def ddBase : Nat := blockBase 9

/-- The tables as written in a block, between two offsets, by offset. -/
def blockTables (base lo hi : Nat) (s : State) : Memory :=
  (s.mem.filter (fun c => base + lo ≤ c.1 && c.1 < base + hi)).map (fun c => (c.1 - base, c.2))

/-- Change the motion block. -/
def modMot (f : MotionState → MotionState) (s : State) : State := { s with motion := f s.motion }
/-- A profiled axis. -/
def axis (s : State) (a : Nat) : Axis := vget s.motion.axes a Axis.init
/-- Change a profiled axis. -/
def modAxis (a : Nat) (f : Axis → Axis) (s : State) : State := modMot (fun m => { m with axes := vmod m.axes a f }) s
/-- A field of an axis record in force. -/
def axN (s : State) (a o n : Nat) : Nat := s.motion.tabs.readN (0x1000 + 128 * a + o) n
/-- A signed field of an axis record in force. -/
def axI (s : State) (a o n : Nat) : Int := toSigned (8 * n) (axN s a o n)
/-- IN_USE of an axis record. -/
def axUsed (s : State) (a : Nat) : Bool := a < 24 && (axN s a 0 1).testBit 0
/-- PERMIT_CAR. -/
def axCar (s : State) (a : Nat) : Nat := axN s a 1 1
/-- An escalator channel. -/
def esc (s : State) (c : Nat) : EscChan := vget s.motion.esc c EscChan.init
/-- A field of an escalator record in force. -/
def escN (s : State) (c o n : Nat) : Nat := s.motion.tabs.readN (0xC000 + 64 * c + o) n
/-- IN_USE of an escalator record. -/
def escUsed (s : State) (c : Nat) : Bool := (escN s c 0 1).testBit 0

/-- Change the lift block. -/
def modLift (f : LiftState → LiftState) (s : State) : State := { s with lift := f s.lift }
/-- A car controller. -/
def car (s : State) (c : Nat) : Car := vget s.lift.cars c Car.init
/-- Change a car controller. -/
def modCar (c : Nat) (f : Car → Car) (s : State) : State := modLift (fun l => { l with cars := vmod l.cars c f }) s
/-- A field of a car record in force. -/
def carN (s : State) (c o n : Nat) : Nat := s.lift.tabs.readN (0x1000 + 128 * c + o) n
/-- A signed field of a car record in force. -/
def carI (s : State) (c o n : Nat) : Int := toSigned (8 * n) (carN s c o n)
/-- IN_USE of a car record. -/
def carUsed (s : State) (c : Nat) : Bool := (carN s c 2 1).testBit 0
/-- The cars in use. -/
def carsUsed (s : State) : List Nat := (List.range 8).filter (carUsed s)
/-- The door axes of a car: front and rear, by side bit. -/
def carDoors (s : State) (c : Nat) : List (Nat × Nat) :=
  [(0, carN s c 82 1), (1, carN s c 83 1)].filter (fun d => d.2 < 16)
/-- An axis that a car record in use names (R295's owner). -/
def liftOwned (s : State) (a : Nat) : Bool :=
  (carsUsed s).any (fun c => a == 16 + c || (carDoors s c).any (fun d => d.2 == a))

/-- Change the door drive block. -/
def modDd (f : DoorState → DoorState) (s : State) : State := { s with door := f s.door }
/-- A door axis of the door drive. -/
def door (s : State) (a : Nat) : DoorAxis := vget s.door.doors a DoorAxis.init
/-- Change a door axis of the door drive. -/
def modDoor (a : Nat) (f : DoorAxis → DoorAxis) (s : State) : State := modDd (fun d => { d with doors := vmod d.doors a f }) s
/-- A field of a door axis record in force. -/
def ddN (s : State) (a o n : Nat) : Nat := s.door.tabs.readN (0x1000 + 64 * a + o) n
/-- A signed field of a door axis record in force. -/
def ddI (s : State) (a o n : Nat) : Int := toSigned (8 * n) (ddN s a o n)
/-- IN_USE of a door axis record. -/
def ddUsed (s : State) (a : Nat) : Bool := a < 16 && (ddN s a 0 1).testBit 0

/-- OPEN_NEG: the door opens toward negative y. -/
def openNeg (s : State) (a : Nat) : Bool := (axN s a 0 1).testBit 2
/-- A velocity or distance of axis `a` is in its opening direction. -/
def isOpening (s : State) (a : Nat) (v : Rat) : Bool := if openNeg s a then decide (v < 0) else decide (0 < v)
/-- A velocity or distance of axis `a` is in its closing direction. -/
def isClosing (s : State) (a : Nat) (v : Rat) : Bool := if openNeg s a then decide (0 < v) else decide (v < 0)

/-- The source island of a signal is neither fenced nor off nor in reset. -/
def present (s : State) (i : Nat) : Bool := (isl s i).fence.isNone && (isl s i).st != .off && (isl s i).st != .held

end Sys2Proof.Machine
end

