-- ==== Sys2Proof/Machine/KerbOps.lean ====
section
/-! DEFINITION. Kerb: inputs, trip paths, outputs, the scan, the program's instructions, permits, cues, exchanges and the
mirror (chapter 14). -/
namespace Sys2Proof.Machine
open Sys2Proof

/-- Change Kerb. -/
def modKerb (f : KerbState → KerbState) (s : State) : State := { s with kerb := f s.kerb }

/-! ### Payloads in force (Tables 14.9 to 14.11) -/

/-- A field of the program payload. -/
def kp (m : Memory) (o n : Nat) : Nat := m.readN o n
/-- N_DECL. -/
def kDecls (m : Memory) : Nat := kp m 6 2
/-- N_INSTR. -/
def kInstrs (m : Memory) : Nat := kp m 8 2
/-- A field of declaration `i`. -/
def declN (m : Memory) (i o n : Nat) : Nat := kp m (1088 + 24 * i + o) n
/-- Instruction word `i`. -/
def kWord (m : Memory) (i : Nat) : Nat := kp m (1088 + 24 * kDecls m + 4 * i) 4
/-- The declaration of an instance: one of the types, with the index. -/
def kDecl (m : Memory) (types : List Nat) (idx : Nat) : Option Nat :=
  (List.range (kDecls m)).find? (fun i => types.contains (declN m i 12 1) && declN m i 14 2 == idx)
/-- PAIR of an even input. -/
def pairOf (m : Memory) (n : Nat) : Nat := kp m (64 + 4 * n + 1) 1
/-- A field of trip path `k`. -/
def tripN (m : Memory) (k o n : Nat) : Nat := m.readN (16 + 32 * k + o) n
/-- An NVM area as a payload, by offset. -/
def nvmArea (s : State) (o n : Nat) : Memory :=
  (s.mem.filter (fun c => nvmBase + o ≤ c.1 && c.1 < nvmBase + o + n)).map (fun c => (c.1 - (nvmBase + o), c.2))
/-- The tag of a payload: bytes 0–3 of its SHA-256, byte 0 highest; 0 for none. -/
def payloadTag (m : Memory) (n : Nat) : Nat :=
  if m.isEmpty then 0 else ofLeBytes ((leBytes 32 (shaN (m.bytes 0 n))).take 4).reverse
/-- Bytes of the program payload. -/
def progLen (m : Memory) : Nat := 1088 + 24 * kDecls m + 4 * kInstrs m

/-! ### KERB_RUN, permits and outputs (R338, R342, R350) -/

/-- KERB_RUN. -/
def kerbRun (s : State) : Bool :=
  s.kerb.run == .run &&
  (s.mode.mode == .night || s.mode.mode == .service || s.mode.mode == .inspection || s.mode.mode == .recall || s.mode.mode == .update)

/-- The MASK of every active trip path. -/
def tripMask (k : KerbState) : Nat :=
  (setBitsBelow 64 k.active).foldl (fun a i => a ||| tripN k.trips i 24 8) 0

/-- The permits driven now: those of the last commit, less what TB and KERB_RUN hold at 0. -/
def permitBits (s : State) : Nat :=
  if kerbRun s then (setBitsBelow 32 s.kerb.permits).foldl (fun a b => if (tripMask s.kerb).testBit (32 + b) then a else a + 2 ^ b) 0
  else 0

/-- Permit `p` of car `c`: 0 MOVE, 1 DOOR, 2 ADV_OPEN, 3 LEVEL; every permit reads 0 while Kerb's is absent (Table 1.3). -/
def permit (s : State) (c p : Nat) : Bool := c < 8 && (permitBits s).testBit (4 * c + p)

/-- The outputs energised. -/
def kerbOutputs (s : State) : Nat :=
  if kerbRun s then
    (setBitsBelow 32 s.kerb.oCom).foldl (fun a n =>
      if (tripMask s.kerb).testBit n || s.kerb.outFault.testBit n then a else a + 2 ^ n) 0
  else 0

/-- A control signal at its consumers outside the mode logic (R345). -/
def kerbCtl (s : State) (i : Nat) : Bool := kerbRun s && s.kerb.cCom.testBit i

/-! ### The mirror (R357) -/

/-- Set bits of KM_EVENT. -/
def kEvent (b : Nat) (s : State) : State := modKerb (fun k => { k with event := setBitN k.event b true }) s

/-- Channel `n` of a filtered input. -/
def filtBit (k : KerbState) (n : Nat) : Bool := k.filt.getLsbD n

/-- Both channels of pair `n` (even) show on. -/
def pairOn (m : Memory) (f : Nat → Bool) (n : Nat) : Bool := f n && (if pairOf m n = 2 then !f (n + 1) else f (n + 1))
/-- Both channels of pair `n` show off. -/
def pairOff (m : Memory) (f : Nat → Bool) (n : Nat) : Bool := !f n && (if pairOf m n = 2 then f (n + 1) else !f (n + 1))

/-- Logical input `n` (R340). -/
def logicalIn (k : KerbState) (n : Nat) : Bool :=
  let e := n - n % 2
  if pairOf k.prog e = 0 then filtBit k n
  else n % 2 == 0 && pairOn k.prog (filtBit k) n && !k.disc.testBit n && !k.wait.testBit n

/-- The mirror word at 0x400 + 8i. -/
def mirrorWord (s : State) (i : Nat) : Word :=
  let k := s.kerb
  let part (x : Nat) (j : Nat) : Word := BitVec.ofNat 64 (x / 2 ^ (64 * j))
  let ctl (lo n : Nat) : Nat := maskOf ((List.range n).map (fun j => kerbCtl s (lo + j)))
  match i with
  | 0 => packWord [(32, k.scanCnt), (20, k.testFail), (15, b2n k.compare), (14, b2n (k.cCom.testBit 2)), (13, b2n (k.cCom.testBit 1)),
      (12, b2n (k.cCom.testBit 0)), (4, k.intFault), (0, k.run.code)]
  | 1 => packWord [(32, k.pCom), (0, permitBits s)]
  | 2 => packWord [(28, ctl 8 4), (24, ctl 4 4), (16, ctl 32 8), (8, ctl 24 8), (0, ctl 16 8)]
  | 3 => BitVec.ofNat 64 k.active
  | 4 => BitVec.ofNat 64 k.latched
  | 5 => packWord [(32, k.rb.toNat), (0, kerbOutputs s)]
  | 6 => packWord [(32, k.outFault), (0, k.oCom)]
  | 7 => part k.filt.toNat 0
  | 8 => part k.filt.toNat 1
  | 9 => part k.filt.toNat 2
  | 10 => part (maskOf ((List.range 192).map (logicalIn k))) 0
  | 11 => part (maskOf ((List.range 192).map (logicalIn k))) 1
  | 12 => part (maskOf ((List.range 192).map (logicalIn k))) 2
  | 13 => part k.disc 0
  | 14 => part k.disc 1
  | 15 => part k.disc 2
  | 16 => part k.cCom 1
  | 17 => centreKerb s
  | 18 => packWord [(32, k.progTag), (0, k.tripTag)]
  | 19 => BitVec.ofNat 64 k.event
  | _ => packWord [(48, k.cueLostCnt), (32, k.outFaultCnt), (16, k.discCnt), (0, k.exchCnt)]

/-- Set ATTN_CAUSE.KERB when KM_PERMIT[31:0] or KM_TRIP changes, with KM_EVENT's bits. -/
def mirrorAttn (old : Vector Word 21) (s : State) : State :=
  let w (v : Vector Word 21) (i : Nat) : Nat := (vget v i 0).toNat
  let pc := w old 1 % 2 ^ 32 ≠ w s.kerb.mirror 1 % 2 ^ 32
  let tc := w old 3 ≠ w s.kerb.mirror 3
  let oc := w old 5 % 2 ^ 32 ≠ w s.kerb.mirror 5 % 2 ^ 32
  let s1 := if pc then kEvent 0 s else s
  let s2 := if tc then kEvent 1 s1 else s1
  let s3 := if oc then kEvent 2 s2 else s2
  if pc || tc then setAttn attnKerb s3 else s3

/-- Update the whole mirror. -/
def kerbMirror (s : State) : State :=
  mirrorAttn s.kerb.mirror (modKerb (fun k => { k with mirror := Vector.ofFn (fun (i : Fin 21) => mirrorWord s i.val) }) s)

/-- Update KM_TRIP alone. -/
def mirrorTrip (s : State) : State :=
  mirrorAttn s.kerb.mirror (modKerb (fun k => { k with mirror := vput k.mirror 3 (BitVec.ofNat 64 k.active) }) s)

/-- Read a mirror word at a host offset; KM_EVENT reads as it stands. -/
def kerbRead (o : Nat) (s : State) : Word :=
  if o = 0x498 then BitVec.ofNat 64 s.kerb.event else if o % 8 = 0 then vget s.kerb.mirror ((o - 0x400) / 8) 0 else 0

/-- A read of KM_EVENT clears it. -/
def kerbReadEffect (o : Nat) (s : State) : State := if o = 0x498 then modKerb (fun k => { k with event := 0 }) s else s

/-! ### Trip paths (R341) -/

/-- One term: a ball, or an ESC_TRIP line. -/
def termVal (s : State) (t : Nat) : Bool :=
  let src := t % 512
  let v := if src < 192 then s.kerb.kin.getLsbD src else decide (0 < (esc s (src - 0x100)).trips)
  if t.testBit 15 then !v else v

/-- The condition of a path under a set of definitions. -/
def tripCond (m : Memory) (s : State) (k : Nat) : Bool :=
  let f := tripN m k 16 1
  let terms := ((List.range 8).map (fun i => tripN m k (2 * i) 2)).filter (fun t => t % 512 ≠ 0x1FF)
  f.testBit 0 && (if f.testBit 1 then terms.all (termVal s) else terms.any (termVal s))

/-- Make a path active. -/
def tripOne (k : Nat) (s : State) : State :=
  let f := tripN s.kerb.trips k 16 1
  let s1 := modKerb (fun x => { x with active := setBitN x.active k true, latched := if f.testBit 2 then setBitN x.latched k true else x.latched }) s
  if f.testBit 3 && !s.kerb.active.testBit k then
    appendLog (LogRec.plain 0x0507 k (if s.time.centreValid then s.time.centre % 2 ^ 64 else 0)) s1
  else s1

/-- Every path whose condition is true trips, while Kerb is in RUN. -/
def tripEval (s : State) : State :=
  if s.kerb.run ≠ .run then s
  else mirrorTrip ((List.range 64).foldl (fun s k => if tripCond s.kerb.trips s k then tripOne k s else s) s)

/-- The balls take new levels. -/
def tripPathTrip (kin : BitVec 192) (s : State) : State := tripEval (modKerb (fun k => { k with kin := kin }) s)

/-! ### Inputs (R339, R340, R349) -/

/-- An input's filtered value changes. -/
def kinFilter (n : Nat) (v : Bool) (s : State) : State :=
  let put (x : BitVec 192) : BitVec 192 := BitVec.ofNat 192 (setBitN x.toNat n v)
  if s.kerb.run == .off then modKerb (fun k => { k with kin := put k.kin }) s
  else
    tripEval (modKerb (fun k => { k with
      kin := put k.kin, filt := put k.filt
      wait := if pairOff k.prog (fun i => (put k.filt).getLsbD i) (n - n % 2) then setBitN k.wait (n - n % 2) false else k.wait
      rises := if v && !filtBit k n then tput n (tgetD k.rises n 0 + 1) k.rises else k.rises }) s)

/-- A pair has disagreed for DISC_MS. -/
def discLatch (n : Nat) (s : State) : State :=
  let k := s.kerb
  if k.run == .run && decide (1 ≤ pairOf k.prog n) && !pairOn k.prog (filtBit k) n && !pairOff k.prog (filtBit k) n && !k.disc.testBit n then
    appendLog (LogRec.plain 0x0502 (n + 256) 0) (kEvent 4 (modKerb (fun k => { k with
      disc := setBitN k.disc n true, discCnt := satInc 16 k.discCnt }) s))
  else s

/-! ### Readback (R343) -/

/-- Latch an output fault. -/
def outFaultLatch (n : Nat) (s : State) : State :=
  if s.kerb.outFault.testBit n then s
  else appendLog (LogRec.plain 0x0503 (n + 256) 0) (kEvent 3 (modKerb (fun k => { k with
    outFault := setBitN k.outFault n true, outFaultCnt := satInc 16 k.outFaultCnt }) s))

/-- The level of a readback input that shows the off state. -/
def rbOff (k : KerbState) (n : Nat) (level : Bool) : Bool := level == (kp k.prog (832 + 4 * n) 1).testBit 2

/-- A readback level has differed from the commanded state for READBACK_US; compared while the output, in use, is energised. -/
def readbackFault (n : Nat) (level : Bool) (s : State) : State :=
  let s1 := modKerb (fun k => { k with rb := BitVec.ofNat 32 (setBitN k.rb.toNat n level) }) s
  if (kerbOutputs s).testBit n && (kp s.kerb.prog (832 + 4 * n) 1).testBit 0 && rbOff s.kerb n level then outFaultLatch n s1 else s1

/-- The test pulse of an energised output with TEST = 1. -/
def outputTest (n : Nat) (sawOff : Bool) (s : State) : State :=
  if (kerbOutputs s).testBit n && (kp s.kerb.prog (832 + 4 * n) 1).testBit 1 && !sawOff then outFaultLatch n s else s

/-! ### Operands (Table 14.6) -/

/-- The value of an operand as it stands at the instruction. -/
def operand (k : KerbState) (space i : Nat) : Bool :=
  match space with
  | 0 => k.latLog.testBit i
  | 1 => k.latFilt.getLsbD i
  | 2 => k.latS.testBit i
  | 3 => k.flags.testBit i
  | 4 => (vget k.timers i ⟨0, false, false⟩).done
  | 5 => (vget k.edges i ⟨none, false⟩).out
  | 6 => match kDecl k.prog [6] i with
    | some d => decide (declN k.prog d 16 4 ≤ vget k.counts i 0)
    | none => false
  | 7 => k.o.testBit i
  | 8 => k.p.testBit i
  | 9 => k.c.testBit i
  | 10 => if i < 192 then k.latDisc.testBit i else if 256 ≤ i && i < 288 then k.outFault.testBit (i - 256)
      else 320 ≤ i && i < 384 && k.active.testBit (i - 320)
  | _ => i == 1

/-- A control signal the program may write (Table 14.4). -/
def ctlWritable (i : Nat) : Bool := i < 3 || (4 ≤ i && i < 12) || (16 ≤ i && i < 40) || (64 ≤ i && i < 128)

/-- Store a bit to a writable space. -/
def storeBit (space i : Nat) (v : Bool) (k : KerbState) : KerbState :=
  match space with
  | 3 => if i < 256 then { k with flags := setBitN k.flags i v } else k
  | 7 => if i < 32 then { k with o := setBitN k.o i v } else k
  | 8 => if i < 32 then { k with p := setBitN k.p i v } else k
  | 9 => if ctlWritable i then { k with c := setBitN k.c i v } else k
  | _ => k

/-! ### Instructions (Table 14.7) -/

/-- Go on with the next instruction. -/
def KerbState.nextI (k : KerbState) : KerbState := { k with pc := k.pc + 1 }

/-- LD, AND, OR, XOR: combine the operand, inverted by N, into ACC. -/
def kLogic (f : Bool → Bool → Bool) (n : Bool) (space i : Nat) (k : KerbState) : KerbState :=
  { k.nextI with acc := f k.acc (operand k space i != n) }

/-- PUSH. -/
def kPush (n : Bool) (space i : Nat) (k : KerbState) : KerbState :=
  { k.nextI with stack := (k.acc :: k.stack).take 8, acc := operand k space i != n }

/-- ANDP and ORP. -/
def kPop (f : Bool → Bool → Bool) (k : KerbState) : KerbState :=
  { k.nextI with acc := f (k.stack.headD false) k.acc, stack := k.stack.tail }

/-- ST. -/
def kSt (n : Bool) (space i : Nat) (k : KerbState) : KerbState := (storeBit space i (k.acc != n) k).nextI

/-- SET and RST. -/
def kSet (v : Bool) (space i : Nat) (k : KerbState) : KerbState := if k.acc then (storeBit space i v k).nextI else k.nextI

/-- One update of a timer by its type (R348). -/
def timStep (typ preset : Nat) (en : Bool) (t : KTimer) : KTimer :=
  let up := satTo 32 (t.elapsed + 20)
  match typ with
  | 2 =>
    if en then
      let e := if t.last then up else 0
      { elapsed := e, done := decide (preset ≤ e), last := en }
    else { elapsed := 0, done := false, last := en }
  | 3 =>
    if en then { elapsed := 0, done := true, last := en }
    else { elapsed := up, done := t.done && !decide (preset ≤ up), last := en }
  | _ =>
    if t.done then { elapsed := up, done := !decide (preset ≤ up), last := en }
    else if en && !t.last then { elapsed := 0, done := true, last := en }
    else { t with last := en }

/-- TIM. -/
def kTim (i : Nat) (k : KerbState) : KerbState :=
  match kDecl k.prog [2, 3, 4] i with
  | none => k.nextI
  | some d =>
    let t := timStep (declN k.prog d 12 1) (declN k.prog d 16 4) k.acc (vget k.timers i ⟨0, false, false⟩)
    { k.nextI with timers := vput k.timers i t, acc := t.done }

/-- EDGR and EDGF: a change since the last execution. -/
def kEdge (rising : Bool) (i : Nat) (k : KerbState) : KerbState :=
  let e := vget k.edges i ⟨none, false⟩
  let out := match e.last with
    | none => false
    | some l => if rising then !l && k.acc else l && !k.acc
  { k.nextI with edges := vput k.edges i ⟨some k.acc, out⟩, acc := out }

/-- CTU, CTD and CRES: change the count if ACC, then ACC is done. -/
def kCount (f : Nat → Nat) (i : Nat) (k : KerbState) : KerbState :=
  let n := if k.acc then f (vget k.counts i 0) else vget k.counts i 0
  let k1 := { k.nextI with counts := vput k.counts i n }
  { k1 with acc := operand k1 6 i }

/-- JMPC and JMP. -/
def kJump (cond : Bool) (t : Nat) (k : KerbState) : KerbState := if !cond || k.acc then { k with pc := t } else k.nextI

/-- END: no instruction follows in this scan. -/
def kEnd (k : KerbState) : KerbState := { k with pc := 4096 }

/-- CUE (R351): the entry, with the scan's commit time. -/
def kCue (carNo cue : Nat) (s : State) : State :=
  let k := s.kerb
  if !k.acc then modKerb (·.nextI) s
  else
    let seq := add32 k.cueSeq 1
    let e := leBytes 2 cue ++ leBytes 1 7 ++ leBytes 1 carNo ++ leBytes 4 seq ++
      leBytes 8 (if s.time.centreValid then s.time.centre else 0) ++ leBytes 4 k.progTag ++ leBytes 4 k.runEpoch ++ leBytes 8 0
    modKerb (fun k => { k.nextI with cueSeq := seq, cues := k.cues ++ [e] }) s

/-- FRST: clear a D-space latch where its clearing condition holds (R340, R341, R343). -/
def kFrst (i : Nat) (s : State) : State :=
  let k := s.kerb
  let s1 := modKerb (·.nextI) s
  if !k.acc then s1
  else if i < 192 then
    if i % 2 == 0 && k.disc.testBit i && pairOff k.prog (fun n => k.latFilt.getLsbD n) i then
      appendLog (LogRec.plain 0x0502 i 0) (modKerb (fun k => { k with
        disc := setBitN k.disc i false, wait := setBitN k.wait i (!pairOff k.prog (filtBit k) i) }) s1)
    else s1
  else if 256 ≤ i && i < 288 then
    if k.outFault.testBit (i - 256) && rbOff k (i - 256) (k.rb.getLsbD (i - 256)) then
      appendLog (LogRec.plain 0x0503 (i - 256) 0) (modKerb (fun k => { k with outFault := setBitN k.outFault (i - 256) false }) s1)
    else s1
  else if 320 ≤ i && i < 384 && k.tripOff.testBit (i - 320) then modKerb (fun k => { k with tripFrst := setBitN k.tripFrst (i - 320) true }) s1
  else s1

/-- Execute one instruction word. -/
def kInstr (w : Nat) (s : State) : State :=
  let n := w.testBit 25
  let sp := w / 2 ^ 21 % 16
  let i := w % 4096
  match w / 2 ^ 26 with
  | 0x01 => modKerb (kLogic (fun _ v => v) n sp i) s
  | 0x02 => modKerb (kLogic and n sp i) s
  | 0x03 => modKerb (kLogic or n sp i) s
  | 0x04 => modKerb (kLogic xor n sp i) s
  | 0x05 => modKerb (kPush n sp i) s
  | 0x06 => modKerb (kPop and) s
  | 0x07 => modKerb (kPop or) s
  | 0x08 => modKerb (kSt n sp i) s
  | 0x09 => modKerb (kSet true sp i) s
  | 0x0A => modKerb (kSet false sp i) s
  | 0x10 => modKerb (kTim i) s
  | 0x11 => modKerb (kEdge true i) s
  | 0x12 => modKerb (kEdge false i) s
  | 0x13 => modKerb (kCount (satInc 32) i) s
  | 0x14 => modKerb (kCount (· - 1) i) s
  | 0x15 => modKerb (kCount (fun _ => 0) i) s
  | 0x18 => modKerb (kJump true i) s
  | 0x19 => modKerb (kJump false i) s
  | 0x1A => kCue (w / 2 ^ 13 % 256) i s
  | 0x1B => kFrst i s
  | 0x3F => modKerb kEnd s
  | _ => modKerb (·.nextI) s

/-- Execute instructions from the present one to the END; every jump goes forward, so the fuel is the program's length. -/
def kRunProg : Nat → State → State
  | 0, s => s
  | f + 1, s => if s.kerb.pc < kInstrs s.kerb.prog then kRunProg f (kInstr (kWord s.kerb.prog s.kerb.pc) s) else s

/-- Execute one instruction while Kerb is in RUN; a command row names the instruction. -/
def kerbExec (f : State → State) (s : State) : State := if s.kerb.run == .run then f s else s

/-! ### The scan (R344, Table 14.2) -/

/-- The status lines S0–S127 (Table 14.3). -/
def statusLines (s : State) : Nat :=
  let bitIf (i : Nat) (b : Bool) : Nat := if b then 2 ^ i else 0
  let mot := present s islMOTION
  let sum (n : Nat) (f : Nat → Nat) : Nat := ((List.range n).map f).sum
  s.mode.mode.code + bitIf 3 (present s islLINK && cbValid s) +
  sum 4 (fun n => bitIf (4 + n) (decide (0 < (esc s n).trips))) +
  sum 8 (fun n => bitIf (8 + n) (present s (islSC n) && (vget s.cores n CoreState.init).holdOverrun)) +
  sum 8 (fun n => bitIf (16 + n) (vget s.cores n CoreState.init).dfault) +
  2 ^ 24 * maskOf (s.isl.toList.map islActive) +
  sum 8 (fun c => bitIf (40 + c) (mot && carUsed s c && (carDoors s c).any (fun d => isClosing s d.2 (axis s d.2).v))) +
  sum 8 (fun c => bitIf (48 + c) (mot && (car s c).landing.isSome)) +
  2 ^ 64 * (centreKerb s).toNat

/-- Cycle 0: the input latch. -/
def scanLatch (rb : BitVec 32) (s : State) : State :=
  modKerb (fun k =>
    let k1 := { k with
      rb := rb
      wait := (setBitsBelow 192 k.wait).foldl (fun w n => if pairOff k.prog (filtBit k) n then setBitN w n false else w) k.wait }
    { k1 with
      latLog := maskOf ((List.range 192).map (logicalIn k1)), latFilt := k1.filt, latS := statusLines s, latDisc := k1.disc
      tripOff := maskOf ((List.range 64).map (fun i => !tripCond k.trips s i)), tripFrst := 0
      counts := (List.range (kDecls k.prog)).foldl (fun c d =>
        if declN k.prog d 12 1 = 6 && declN k.prog d 20 2 < 192 then
          vmod c (declN k.prog d 14 2) (fun n => satTo 32 (n + tgetD k.rises (declN k.prog d 20 2) 0)) else c) k.counts
      rises := [], acc := false, stack := [], pc := 0, cues := [] }) s

/-- H(role) of a car's role (R350): a logical input at the latch, or a flag at the commit. -/
def roleVal (k : KerbState) (src : Nat) : Bool :=
  if src < 0xC0 then k.latLog.testBit src else if 0x100 ≤ src && src < 0x200 then k.flags.testBit (src - 0x100) else false

/-- The hardware condition of permit `p` of car `c` (Table 14.8). -/
def permitCond (k : KerbState) (c p : Nat) : Bool :=
  let r (i : Nat) : Bool := roleVal k (kp k.prog (960 + 16 * c + 2 * i) 2)
  let f := kp k.prog (960 + 16 * c + 12) 1
  f.testBit 0 &&
  (match p with
   | 0 => r 0 && (r 1 || (r 3 && r 4))
   | 1 => r 2 && r 5
   | 2 => f.testBit 1 && r 0 && r 3 && r 4
   | _ => r 0 && r 3 && r 4)

/-- Cycle 132: the commit, and the trip releases that take effect with it. -/
def scanCommit (s : State) : State :=
  modKerb (fun k =>
    let rel (i : Nat) : Bool := k.tripOff.testBit i &&
      (if (tripN k.trips i 16 1).testBit 2 then k.tripFrst.testBit i else true)
    let drop (m : Nat) : Nat := (setBitsBelow 64 m).foldl (fun a i => if rel i then a else a + 2 ^ i) 0
    let k1 := { k with oCom := k.o, pCom := k.p, cCom := k.c, active := drop k.active, latched := drop k.latched }
    { k1 with permits := maskOf ((List.range 32).map (fun b => k1.pCom.testBit b && permitCond k1 (b / 4) (b % 4))) }) s

/-- Append record 0x0504 for lost cues, at most once per second. -/
def cuesLost (n : Nat) (s : State) : State :=
  if n = 0 then s
  else
    let s1 := kEvent 6 (modKerb (fun k => { k with lostNow := k.lostNow + n, cueLostCnt := satTo 16 (k.cueLostCnt + n) }) s)
    let due := match s.kerb.lostAt with | none => true | some t => decide (t + 1000000000 ≤ s.time.uptime)
    if due then appendLog (LogRec.plain 0x0504 s1.kerb.lostNow 0)
      (modKerb (fun k => { k with lostNow := 0, lostAt := some s.time.uptime }) s1)
    else s1

/-- Publish cues in order until the queue does not take one, at most 16 (R351). -/
def publishCues : Nat → List (List Byte) → State → List (List Byte) × State
  | 0, l, s => (l, s)
  | _ + 1, [], s => ([], s)
  | f + 1, e :: t, s =>
    let r := qEnqueue (kp s.kerb.prog 10 2) e s
    if r.1 == .ok then publishCues f t r.2 else (e :: t, r.2)

/-- Housekeeping: cues and mirror. -/
def scanHouse (s : State) : State :=
  let r := publishCues 16 (s.kerb.cueBuf ++ s.kerb.cues) s
  let s1 := cuesLost (r.1.length - 16) (modKerb (fun k => { k with cueBuf := r.1.take 16, cues := [], scanCnt := add32 k.scanCnt 1 }) r.2)
  kerbMirror s1

/-! ### Exchanges (R353, R354) -/

/-- Whether two declarations match: NAME and TYPE. -/
def declMatch (old new : Memory) (i j : Nat) : Bool :=
  declN old i 12 1 == declN new j 12 1 && declN old i 0 12 == declN new j 0 12

/-- The old declaration that matches new declaration `j`. -/
def matchOf (old new : Memory) (j : Nat) : Option Nat := (List.range (kDecls old)).find? (fun i => declMatch old new i j)

/-- Instances of the new program: matched ones keep their state, the others start idle. -/
def carryOver (new : Memory) (k : KerbState) : KerbState :=
  let z := { k with prog := new, flags := 0, timers := Vector.replicate 256 ⟨0, false, false⟩,
                    edges := Vector.replicate 512 ⟨none, false⟩, counts := Vector.replicate 128 0 }
  (List.range (kDecls new)).foldl (fun z j =>
    match matchOf k.prog new j with
    | none => z
    | some i =>
      let a := declN k.prog i 14 2
      let b := declN new j 14 2
      match declN new j 12 1 with
      | 1 => { z with flags := setBitN z.flags b (k.flags.testBit a) }
      | 5 => { z with edges := vput z.edges b (vget k.edges a ⟨none, false⟩) }
      | 6 => { z with counts := vput z.counts b (vget k.counts a 0) }
      | _ => { z with timers := vput z.timers b (vget k.timers a ⟨0, false, false⟩) }) z

/-- DETAIL of record 0x0505: the old tag and the six counts. -/
def exchDetail (old new : Memory) (oldTag : Nat) : Nat :=
  let matched (ts : List Nat) : Nat :=
    ((List.range (kDecls new)).filter (fun j => ts.contains (declN new j 12 1) && (matchOf old new j).isSome)).length
  let m := (List.range (kDecls new)).filter (fun j => (matchOf old new j).isSome)
  let gone := (List.range (kDecls old)).filter (fun i => !(List.range (kDecls new)).any (fun j => declMatch old new i j))
  oldTag + 2 ^ 32 * (matched [2, 3, 4] + 2 ^ 16 * (matched [5] + 2 ^ 16 * (matched [6] + 2 ^ 16 * (matched [1] +
    2 ^ 16 * ((kDecls new - m.length) + 2 ^ 16 * gone.length)))))

/-- The trip-path exchange: each path trips if its old or its new definition trips, and nothing is released by it. -/
def tripExchange (s : State) : State :=
  if !s.consent.tripPathsNew || s.kerb.run ≠ .run then s
  else
    let new := nvmArea s 0x2000 0x1000
    let tag := payloadTag new 2064
    let s1 := tripEval s
    let s2 := tripEval (modKerb (fun k => { k with trips := new, tripTag := tag, exchCnt := satInc 16 k.exchCnt }) s1)
    appendLog (LogRec.plain 0x0506 tag s.kerb.tripTag) (kEvent 7 { s2 with consent := { s2.consent with tripPathsNew := false } })

/-- The program exchange. -/
def progExchange (s : State) : State :=
  if !s.consent.kerbProgramNew || s.kerb.run ≠ .run then s
  else
    let new := nvmArea s 0x10000 0x10000
    let tag := payloadTag new (progLen new)
    let s1 := modKerb (fun k => { carryOver new k with progTag := tag, exchCnt := satInc 16 k.exchCnt }) s
    appendLog (LogRec.plain 0x0505 tag (exchDetail s.kerb.prog new s.kerb.progTag))
      (kEvent 7 { s1 with consent := { s1.consent with kerbProgramNew := false } })

/-- One scan: exchanges at its boundary, latch, program, commit and housekeeping. -/
def kerbScan (rb : BitVec 32) (s : State) : State :=
  if s.kerb.run ≠ .run then s
  else
    let s1 := tripEval (progExchange (tripExchange s))
    let s2 := scanCommit (kRunProg 4097 (scanLatch rb s1))
    let s3 := if s.kerb.cCom.testBit 0 ≠ s2.kerb.cCom.testBit 0 then kEvent 8 s2 else s2
    scanHouse s3

/-! ### Start, fault and stop (R360 to R363) -/

/-- A change of Kerb's state, with its record. -/
def kerbState (r : KerbRun) (intFault : Nat) (s : State) : State :=
  if s.kerb.run == r then s
  else
    let s1 := kEvent 5 (modKerb (fun k => { k with run := r, intFault := intFault }) s)
    kerbMirror (appendLog (LogRec.plain 0x0501 (r.code + 16 * intFault) 0) s1)

/-- Kerb enters RUN at the end of step 7: both payloads loaded, every instance idle. -/
def kerbStart (s : State) : State :=
  let prog := nvmArea s 0x10000 0x10000
  let trips := nvmArea s 0x2000 0x1000
  let s1 := { s with
    kerb := { KerbState.init with
      run := s.kerb.run, prog := prog, progTag := payloadTag prog (progLen prog), trips := trips, tripTag := payloadTag trips 2064
      kin := s.kerb.kin, filt := s.kerb.kin, rb := s.kerb.rb, runEpoch := add32 s.kerb.runEpoch 1, event := s.kerb.event
      compare := s.kerb.compare, cueLostCnt := s.kerb.cueLostCnt, outFaultCnt := s.kerb.outFaultCnt, discCnt := s.kerb.discCnt
      exchCnt := s.kerb.exchCnt, mirror := s.kerb.mirror }
    consent := { s.consent with kerbProgramNew := false, tripPathsNew := false } }
  tripEval (kerbState .run 0 s1)

/-- Kerb is in TEST from its power-up to the end of step 7. -/
def kerbTest (s : State) : State := kerbState .test 0 (modKerb (fun k => { k with testFail := 0 }) s)

/-- A self-test fails (R362): FAULT with INT_FAULT 5, self-test (KM_STATE; DEDUCED). -/
def kerbTestFail (n : Nat) (s : State) : State :=
  kerbState .fault 5 (appendLog (LogRec.plain 0x0509 n 0) (modKerb (fun k => { k with testFail := n % 16 }) s))

/-- The state of FAULT, before M16 is taken (R360); no scan follows, so the program's bits stay as they are, the centre kerb bits
among them (R345). -/
def kerbFault (intFault : Nat) (s : State) : State :=
  if s.kerb.run == .off || s.kerb.run == .fault then s
  else
    let s1 := latchIsl islKERB (modIsl s islKERB (fun x => { x with faulted := true }))
    kerbState .fault intFault (modKerb (fun k => { k with permits := 0 }) s1)

/-- The condition of a Kerb fault has gone (R360). -/
def kerbFaultGone (s : State) : State := modIsl s islKERB (fun x => { x with faulted := false })

/-- Kerb is powered down (R363), a change of its state with its record (0x0501); RUN_EPOCH stays in AON. -/
def kerbOff (s0 : State) : State :=
  let s := kerbState .off 0 s0
  { s with kerb := { KerbState.init with kin := s.kerb.kin, rb := s.kerb.rb, runEpoch := s.kerb.runEpoch, event := s.kerb.event, compare := s.kerb.compare } }

/-! ### Payload checks (R347, R355, R356) -/

/-- The OPs of Table 14.7. -/
def kOps : List Nat := [0, 1, 2, 3, 4, 5, 6, 7, 8, 9, 0xA, 0x10, 0x11, 0x12, 0x13, 0x14, 0x15, 0x18, 0x19, 0x1A, 0x1B, 0x3F]

/-- An index lies within a readable space. -/
def kReadable (space i : Nat) : Bool :=
  match space with
  | 0 | 1 => i < 192
  | 2 | 6 => i < 128
  | 3 | 4 => i < 256
  | 5 => i < 512
  | 7 | 8 => i < 32
  | 9 => ctlWritable i
  | 10 => i < 192 || (256 ≤ i && i < 288) || (320 ≤ i && i < 384)
  | 11 => i < 2
  | _ => false

/-- An index names a writable bit. -/
def kWritable (space i : Nat) : Bool :=
  match space with
  | 3 => i < 256
  | 7 | 8 => i < 32
  | 9 => ctlWritable i
  | _ => false

/-- Whether the instance an operand names is declared. -/
def kDeclared (m : Memory) (space i : Nat) : Bool :=
  match space with
  | 3 => (kDecl m [1] i).isSome
  | 4 => (kDecl m [2, 3, 4] i).isSome
  | 5 => (kDecl m [5] i).isSome
  | 6 => (kDecl m [6] i).isSome
  | _ => true

/-- One instruction by itself (R347). -/
def kInstrOk (m : Memory) (endAt i : Nat) : Bool :=
  let w := kWord m i
  let op := w / 2 ^ 26
  let n := w.testBit 25
  let sp := w / 2 ^ 21 % 16
  let arg := w / 2 ^ 13 % 256
  let x := w % 4096
  kOps.contains op && !w.testBit 12 &&
  (if op = 0x1A then arg < 8 || arg == 0xFF else arg == 0) &&
  (if 1 ≤ op && op ≤ 5 then kReadable sp x && kDeclared m sp x
   else if op = 8 then kWritable sp x && kDeclared m sp x
   else !n && (if op = 9 || op = 0xA then kWritable sp x && kDeclared m sp x else sp == 0)) &&
  (match op with
   | 0x10 => kDeclared m 4 x
   | 0x11 | 0x12 => kDeclared m 5 x
   | 0x13 | 0x14 | 0x15 => kDeclared m 6 x
   | 0x18 | 0x19 => i < x && x ≤ endAt
   | 0x1B => kReadable 10 x
   | _ => true)

/-- The change of stack depth of an instruction. -/
def kDepth (op d : Nat) : Option Nat :=
  if op = 5 then (if d < 8 then some (d + 1) else none)
  else if op = 6 || op = 7 then (if 0 < d then some (d - 1) else none)
  else if op = 0x18 || op = 0x19 then (if d = 0 then some 0 else none)
  else some d

/-- The depth stays within the stack along the program, 0 at each jump and at each jump target; since every jump starts and
lands at depth 0, one pass in index order covers every path. -/
def kStackOk (m : Memory) (endAt : Nat) : Bool :=
  let targets := (List.range endAt).filterMap (fun i =>
    let w := kWord m i
    if w / 2 ^ 26 = 0x18 || w / 2 ^ 26 = 0x19 then some (w % 4096) else none)
  ((List.range (endAt + 1)).foldl (fun (p : Option (Nat × Bool)) i =>
    match p with
    | none => none
    | some (d, dead) =>
      let op := kWord m i / 2 ^ 26
      let d1 := if dead then 0 else d
      if targets.contains i && d1 ≠ 0 then none
      else match kDepth op d1 with
        | none => none
        | some e => some (e, op == 0x19)) (some (0, false))).isSome

/-- Payload bytes as a memory. -/
def asMemory (p : List Byte) : Memory := Memory.writeBytes [] 0 p

/-- The NAME of Table 14.10: ASCII bytes, then zero bytes to the end, at least one of them not zero. -/
def declNameOk (m : Memory) (i : Nat) : Bool :=
  let b := (List.range 12).map (fun k => declN m i k 1)
  b.headD 0 ≠ 0 && b.all (· < 0x80) && (b.dropWhile (· ≠ 0)).all (· == 0)

/-- The space an instance of a declared type lives in (Table 14.10); the three timer types share one. -/
def declSpace (t : Nat) : Nat := if t = 3 || t = 4 then 2 else t

/-- A declaration keeps Table 14.10, repeats no NAME of its type (R355), and declares an instance that no earlier declaration
has declared (DEDUCED: an instance has one type and one preset). -/
def declOk (m : Memory) (i : Nat) : Bool :=
  let t := declN m i 12 1
  let x := declN m i 14 2
  let pre := declN m i 16 4
  let src := declN m i 20 2
  declNameOk m i && declN m i 13 1 == 0 && declN m i 22 2 == 0 &&
  (match t with
   | 1 => x < 256 && pre == 0 && src == 0xFFFF
   | 2 | 3 | 4 => x < 256 && 1 ≤ pre && src == 0xFFFF
   | 5 => x < 512 && pre == 0 && src == 0xFFFF
   | 6 => x < 128 && (src < 192 || src == 0xFFFF)
   | _ => false) &&
  !(List.range i).any (fun j => (declN m j 0 12 == declN m i 0 12 && declN m j 12 1 == t) ||
    (declN m j 14 2 == x && declSpace (declN m j 12 1) == declSpace t))

/-- A car's role source is one that Table 14.9 lists; for a car in use it also keeps R355, and a flag it names is declared
(R347). -/
def roleOk (m : Memory) (used needed : Bool) (src : Nat) : Bool :=
  (src == 0xFFFF && !(used && needed)) ||
  (0x100 ≤ src && src < 0x200 && (!used || kDeclared m 3 (src - 0x100))) ||
  (src < 0xC0 && (!used || src % 2 == 0 || pairOf m (src - 1) == 0))

/-- A KERB_PROGRAM payload is valid (R347, R355). -/
def kerbProgramOk (p : List Byte) : Bool :=
  let m := asMemory p
  let endAt := (List.range (kInstrs m)).find? (fun i => kWord m i / 2 ^ 26 == 0x3F)
  kp m 0 4 == 0x4B504731 && kp m 4 2 == 1 && kDecls m ≤ 1152 && 1 ≤ kInstrs m && kInstrs m ≤ 4096 &&
  p.length == progLen m && 0x2000 ≤ kp m 10 2 && kp m 10 2 ≤ 0x23FF && zeroBytes p 16 48 &&
  (List.range 192).all (fun n =>
    let pr := kp m (65 + 4 * n) 1
    let ms := kp m (66 + 4 * n) 2
    if n % 2 = 1 then pr == 0 && ms == 0 else pr ≤ 2 && (if pr = 0 then ms == 0 else 1 ≤ ms && ms ≤ 1000)) &&
  (List.range 32).all (fun n => kp m (832 + 4 * n) 1 < 8 &&
    (!(kp m (832 + 4 * n) 1).testBit 0 || 1 ≤ kp m (833 + 4 * n) 1) && kp m (834 + 4 * n) 2 == 0) &&
  (List.range 8).all (fun c =>
    let b := 960 + 16 * c
    let used := (kp m (b + 12) 1).testBit 0
    kp m (b + 12) 1 < 4 && zeroBytes p (b + 13) 3 &&
    (List.range 6).all (fun r => roleOk m used (r < 3) (kp m (b + 2 * r) 2))) &&
  (List.range (kDecls m)).all (declOk m) &&
  (match endAt with
   | none => false
   | some e => (List.range (kInstrs m)).all (kInstrOk m e) && kStackOk m e)

/-- A TRIP_PATHS payload is valid (R356). -/
def tripPathsOk (p : List Byte) : Bool :=
  let m := asMemory p
  p.length == 2064 && m.readN 0 4 == 0x4B545031 && m.readN 4 2 == 1 && zeroBytes p 6 10 &&
  (List.range 64).all (fun k =>
    let terms := (List.range 8).map (fun i => tripN m k (2 * i) 2)
    terms.all (fun t => (t / 2 ^ 9 % 64 == 0) && (t % 512 < 192 || (0x100 ≤ t % 512 && t % 512 ≤ 0x103) || t % 512 == 0x1FF)) &&
    tripN m k 16 1 < 16 && zeroBytes p (16 + 32 * k + 17) 7 &&
    (!(tripN m k 16 1).testBit 0 || terms.any (fun t => t % 512 ≠ 0x1FF)))

end Sys2Proof.Machine
end

