-- ==== Sys2Proof/Machine/Profile.lean ====
section
/-! DEFINITION. The profile law of R297, in exact arithmetic: the motion of a plan over an interval of time, in pieces of
constant acceleration. -/
namespace Sys2Proof.Machine

/-- The nearest integer to a rational. -/
def roundR (r : Rat) : Int := nearestDiv r.num r.den

/-- A square root: exact where it is rational, otherwise within 2^-32 below. -/
def sqrtA (r : Rat) : Rat :=
  if r ≤ 0 then 0 else mkRat (isqrt (r.num.toNat * r.den * 2 ^ 64)) (r.den * 2 ^ 32)

/-- The numbers of the law for one axis at one instant. -/
structure Law where
  vStart : Rat
  vStop : Rat
  vBrk : Rat
  accLo : Rat
  accHi : Rat
  decHi : Rat
  decLo : Rat
  /-- The cap c. -/
  cap : Rat
  deriving DecidableEq, Repr

/-- A plan in motion. -/
structure Plan where
  y : Rat
  v : Rat
  /-- No irrational speed has been needed. -/
  exact : Bool
  deriving DecidableEq, Repr

/-- The stop distance s_stop(w). -/
def Law.stopDist (l : Law) (w : Rat) : Rat :=
  if w ≤ l.vStop then 0
  else if w ≤ l.vBrk then (w * w - l.vStop * l.vStop) / (2 * l.decLo)
  else (w * w - l.vBrk * l.vBrk) / (2 * l.decHi) + (l.vBrk * l.vBrk - l.vStop * l.vStop) / (2 * l.decLo)

/-- The decelerating ramp at a speed. -/
def Law.dec (l : Law) (w : Rat) : Rat := if l.vBrk < w then l.decHi else l.decLo
/-- The accelerating ramp at a speed. -/
def Law.acc (l : Law) (w : Rat) : Rat := if w < l.vBrk then l.accLo else l.accHi

/-- One piece of motion in the direction `sg` at speed `w`, changing speed at rate `a` (signed) toward `w'` for at most `dt`:
the new position and speed along `sg`, and the time left; `true` when `w'` is reached. -/
def piece (y sg w a w' dt : Rat) : Rat × Rat × Rat × Bool :=
  let t := if a = 0 then dt else (w' - w) / a
  if t ≤ dt then (y + sg * (w + w') * t / 2, w', dt - t, true)
  else (y + sg * (w * dt + a * dt * dt / 2), w + a * dt, 0, false)

/-- The speed at which a plan accelerating from `u` with `ar` to go must brake, squared (the second row group of R297). -/
def Law.brakeSq (l : Law) (u ar : Rat) : Rat :=
  let a := l.acc u
  if u < l.vStop then 2 * a * ar + u * u
  else
    let hi := !decide (u < l.vBrk)
    let d := if hi then l.decHi else l.decLo
    let uL := if hi then l.vBrk else l.vStop
    let s0 := if hi then (l.vBrk * l.vBrk - l.vStop * l.vStop) / (2 * l.decLo) else 0
    (ar + u * u / (2 * a) - s0 + uL * uL / (2 * d)) / (1 / (2 * a) + 1 / (2 * d))

/-- The next boundary of the law above speed `u`, up to the cap. -/
def Law.above (l : Law) (u : Rat) : Rat :=
  let b := if u < l.vStop then l.vStop else if u < l.vBrk then l.vBrk else l.cap
  if l.cap < b then l.cap else b

/-- A plan over a time `dt`: the law's rows in their order (Table 12.5). The result is the plan, the time left, and whether it
has come to rest at the target. -/
def planRun (l : Law) (x : Rat) : Nat → Rat → Plan → Plan × Rat × Bool
  | 0, dt, p => (p, dt, false)
  | f + 1, dt, p =>
    let r := x - p.y
    let sg : Rat := if r < 0 then -1 else 1
    let ar := sg * r
    if r = 0 ∧ -l.vStop ≤ p.v ∧ p.v ≤ l.vStop then ({ y := x, v := 0, exact := true }, dt, true)
    else if dt ≤ 0 then (p, dt, false)
    else
      let u := if p.v = 0 then l.vStart else sg * p.v
      if u < 0 then
        let w := -u
        if w ≤ l.vStop then planRun l x f dt { p with v := sg * l.vStart }
        else
          let q := piece p.y (-sg) w (-(l.dec w)) (if l.vBrk < w then l.vBrk else l.vStop) dt
          planRun l x f q.2.2.1 { p with y := q.1, v := -sg * q.2.1 }
      else if ar ≤ l.stopDist u then
        let q := piece p.y sg u (-(l.dec u)) (if l.vBrk < u then l.vBrk else l.vStop) dt
        planRun l x f q.2.2.1 { p with y := q.1, v := sg * q.2.1 }
      else if u < l.cap then
        let ub := l.above u
        let w2 := l.brakeSq u ar
        if ub * ub ≤ w2 then
          let q := piece p.y sg u (l.acc u) ub dt
          planRun l x f q.2.2.1 { p with y := q.1, v := sg * q.2.1 }
        else
          let a := sqrtA w2
          let w := if a < u then u else a
          let q := piece p.y sg u (l.acc u) w dt
          let p1 := { p with exact := p.exact && w * w == w2 }
          if q.2.2.2 then planRun l x f q.2.2.1 { p1 with y := x - sg * l.stopDist w, v := sg * w }
          else planRun l x f 0 { p1 with y := q.1, v := sg * q.2.1 }
      else if l.cap < u then
        let lo := if l.vBrk < u ∧ l.cap < l.vBrk then l.vBrk else if l.vStop < u ∧ l.cap < l.vStop then l.vStop else l.cap
        let d := l.dec u
        let reach := (u * u - lo * lo) / (2 * d)
        if ar ≤ reach ∧ u ≤ l.vStop then
          let w := sqrtA (u * u - 2 * d * ar)
          let q := piece p.y sg u (-d) w dt
          if q.2.2.2 then ({ y := x, v := 0, exact := true }, q.2.2.1, true)
          else planRun l x f 0 { p with y := q.1, v := sg * q.2.1 }
        else
          let q := piece p.y sg u (-d) lo dt
          planRun l x f q.2.2.1 { p with y := q.1, v := sg * q.2.1 }
      else if u = 0 then (p, 0, false)
      else
        let t := (ar - l.stopDist u) / u
        if t ≤ dt then planRun l x f (dt - t) { p with y := p.y + sg * u * t, v := sg * u }
        else planRun l x f 0 { p with y := p.y + sg * u * dt, v := sg * u }

/-- A stop on the decelerating ramp, without regard to the target (R299): the plan, and whether it is at rest. -/
def stopRun (l : Law) : Nat → Rat → Plan → Plan × Bool
  | 0, _, p => (p, false)
  | f + 1, dt, p =>
    let sg : Rat := if p.v < 0 then -1 else 1
    let w := sg * p.v
    if w ≤ l.vStop then ({ p with v := 0 }, true)
    else if dt ≤ 0 then (p, false)
    else
      let q := piece p.y sg w (-(l.dec w)) (if l.vBrk < w then l.vBrk else l.vStop) dt
      stopRun l f q.2.2.1 { p with y := q.1, v := sg * q.2.1 }

end Sys2Proof.Machine
end

