-- ==== Sys2Proof/Machine/MotionOps.lean ====
section
/-! DEFINITION. The motion engine: commands, permits, limits, gears, homing, escalators, and the block's tables (chapter 12). -/
namespace Sys2Proof.Machine
open Sys2Proof

/-! ### Events (R296) -/

def evDONE : Nat := 1
def evACCEPTED : Nat := 2
def evSTOPPED : Nat := 3
def evFAULT : Nat := 4
def evLIMIT : Nat := 5
def evHOME : Nat := 6
def evGEAR : Nat := 7
def evESC : Nat := 8

/-- Post an event: to the lift controller for its own axes, otherwise on a queue, where an entry that is not taken is lost. -/
def axisEvent (q a typ : Nat) (st : Status) (code low req : Nat) (s : State) : State :=
  if liftOwned s a then modLift (fun l => { l with evts := l.evts ++ [(typ, a, st, code, req)] }) s
  else
    (qEnqueue q (leBytes 1 typ ++ leBytes 1 a ++ leBytes 1 (statusCode st) ++ leBytes 1 code ++ leBytes 4 low ++ leBytes 8 req) s).2

/-- A motion event. -/
def motEvent (a typ : Nat) (st : Status) (code req : Nat) (s : State) : State := axisEvent s.motion.evtQ a typ st code 0 req s

/-! ### Directions, limits and permits (R295, R301) -/

/-- A velocity or distance is toward the low limit: the closing end of a door, the bottom of a car. -/
def towardLo (s : State) (a : Nat) (v : Rat) : Bool := if a < 16 then isClosing s a v else decide (v < 0)
/-- A velocity or distance is toward the high limit. -/
def towardHi (s : State) (a : Nat) (v : Rat) : Bool := if a < 16 then isOpening s a v else decide (0 < v)
/-- A motion leads toward an active limit input. -/
def towardActive (s : State) (a : Nat) (v : Rat) : Bool :=
  (towardLo s a v && (axis s a).limLo) || (towardHi s a v && (axis s a).limHi)

/-- The gear's master kind and index. -/
def gearKind (s : State) (a : Nat) : Nat := axN s a 39 1 / 64
def gearIdx (s : State) (a : Nat) : Nat := axN s a 39 1 % 32

/-- The permit that gates motion of an axis in the direction of `v`: none for a closing door (R295). -/
def gate (s : State) (a : Nat) (v : Rat) : Option (Nat × Nat) :=
  let ax := axis s a
  if a < 16 then
    if isOpening s a v then some (axCar s a, if ax.st == .geared && gearKind s a == 1 then 2 else 1) else none
  else some (axCar s a, if ax.relevel then 3 else 0)

/-- The gating permit of a motion is 1. -/
def gateOpen (s : State) (a : Nat) (v : Rat) : Bool :=
  match gate s a v with | none => true | some g => permit s g.1 g.2

/-- The modes in which Table 2.4 shows the axis's output active. -/
def axisMode (s : State) : Bool := s.mode.mode == .service || s.mode.mode == .inspection || s.mode.mode == .recall

/-! ### The law of an axis (R297, R303) -/

/-- The cam table in use for motion in the direction of `d`, by the axis's own copy. -/
def camOf (s : State) (a : Nat) (d : Rat) : Option Memory :=
  let ax := axis s a
  if ax.camOff || 16 ≤ a then none
  else if isOpening s a d then (if axN s a 2 1 < 8 then some ax.camO else none)
  else if axN s a 3 1 < 8 then some ax.camC else none

/-- The cam speed at position `y`. -/
def camSpeed (s : State) (a : Nat) (cam : Memory) (y : Rat) : Rat :=
  let q0 := (y - axI s a 40 8) * 1023 / (axN s a 48 4 : Nat)
  let q : Rat := if q0 < 0 then 0 else if 1023 < q0 then 1023 else q0
  let i := q.floor.toNat
  let lo : Rat := (cam.readN (4 * i) 4 : Nat)
  let hi : Rat := (cam.readN (4 * (min 1023 (i + 1))) 4 : Nat)
  lo + (hi - lo) * (q - (i : Nat))

/-- The cap c at a position, for motion toward `x`. -/
def capAt (s : State) (a : Nat) (y x : Rat) : Rat :=
  let ax := axis s a
  let vmax : Rat := (axN s a 16 4 : Nat)
  let v1 : Rat := if 0 < ax.vcap ∧ (ax.vcap : Rat) < vmax then (ax.vcap : Nat) else vmax
  match camOf s a (x - y) with
  | none => v1
  | some m => let c := camSpeed s a m y; if c < v1 then c else v1

/-- The law at a position; OBS_DEC replaces both decelerating ramps while it governs (R328). -/
def lawAt (s : State) (a : Nat) (y x : Rat) : Law :=
  let f (o : Nat) : Rat := (axN s a o 4 : Nat)
  let od : Rat := (ddN s a 32 4 : Nat)
  let obs := (axis s a).obsDec
  { vStart := f 4, vStop := f 8, vBrk := f 12, accLo := f 20, accHi := f 24, decHi := if obs then od else f 28
    decLo := if obs then od else f 32, cap := capAt s a y x }

/-- The servo period in µs. -/
def servoUs (s : State) (a : Nat) : Nat := if a < 16 then 250 else 250 * max 1 (carN s (a - 16) 63 1)

/-- The set-point of a plan: its position to the nearest u, within the ±1 u of R298 where it is not exact. -/
def setPointOf (ax : Axis) : Int :=
  if ax.exact then roundR ax.y else roundR ax.y + clampInt (-1) 1 (Config.planErr ax.y)

/-! ### Table copies (R310) -/

/-- A table in a block. -/
def tableCopy (s : State) (base n : Nat) : Memory :=
  (s.mem.filter (fun c => base ≤ c.1 && c.1 < base + n)).map (fun c => (c.1 - base, c.2))

/-- An uncorrectable error lies in a table. -/
def tableEcc (s : State) (base n : Nat) : Bool := s.ecc.any (fun w => base ≤ w && w < base + n)

/-- The tables of a door axis: CAM_OPEN, CAM_CLOSE and the microstep table, with base and size. -/
def doorTables (s : State) (a : Nat) : List (Nat × Nat) :=
  let cam (o : Nat) : List (Nat × Nat) := if axN s a o 1 < 8 then [(motBase + 0x4000 + 0x1000 * axN s a o 1, 4096)] else []
  cam 2 ++ cam 3 ++ [(ddBase + 0x2000 + 0x4000 * (ddN s a 1 1 % 4), 16384)]

/-- Read the tables of a door axis. -/
def readTables (a : Nat) (s : State) : State :=
  if 16 ≤ a then s
  else
    let cam (o : Nat) : Memory := if axN s a o 1 < 8 then tableCopy s (motBase + 0x4000 + 0x1000 * axN s a o 1) 4096 else []
    modAxis a (fun x => { x with
      camO := cam 2, camC := cam 3, mstep := tableCopy s (ddBase + 0x2000 + 0x4000 * (ddN s a 1 1 % 4)) 16384, reread := false }) s

/-! ### Stops and faults (R299, R300, R312) -/

/-- Bring an axis to rest on its ramp, to enter `after`. -/
def rampStop (a : Nat) (after : AxSt) (s : State) : State :=
  let ax := axis s a
  if ax.v = 0 then modAxis a (fun x => { x with st := after, obsDec := false }) s
  else modAxis a (fun x => { x with st := .stopping, after := after }) s

/-- Stop at once. -/
def hardStop (a : Nat) (after : AxSt) (s : State) : State :=
  modAxis a (fun x => { x with st := after, v := 0, obsDec := false }) s

/-- FAULT_ACTION. -/
def faultStop (a : Nat) (after : AxSt) (s : State) : State :=
  if (axN s a 0 1).testBit 1 then hardStop a after s else rampStop a after s

/-- Post STOPPED when the axis is at rest in STOPPED. -/
def noteStopped (a : Nat) (s : State) : State :=
  if (axis s a).st == .stopped then motEvent a evSTOPPED .ok 0 (axis s a).req s else s

/-- An axis fault (R312). -/
def axisFault (a code : Nat) (s : State) : State :=
  let ax := axis s a
  if ax.st == .disabled || ax.st == .faulted then s
  else
    let s1 := modAxis a (fun x => { x with fault := code, home := none, posValid := x.posValid && !(decide (a < 16) && (code == 5 || code == 6)) }) s
    motEvent a evFAULT .ok code ax.req (if code = 6 then hardStop a .faulted s1 else faultStop a .faulted s1)

/-- Read the tables, with TABLE_ECC where one holds an uncorrectable error. -/
def readTablesChecked (a : Nat) (s : State) : State :=
  if 16 ≤ a then s
  else if (doorTables s a).any (fun t => tableEcc s t.1 t.2) then axisFault a 5 (modAxis a (fun x => { x with reread := false }) s)
  else readTables a s

/-! ### Gears (R304, R305) -/

/-- The master position of a geared axis, where its source is valid. -/
def masterPos (s : State) (a : Nat) : Option Int :=
  let i := gearIdx s a
  match gearKind s a with
  | 1 => if carUsed s i && (car s i).posValid then some (car s i).pos else none
  | 2 => if axUsed s i && (axis s i).st != .disabled then some (axis s i).sp else none
  | 3 => if escUsed s i then some (roundR (mkRat ((esc s i).count * (escN s i 4 4 : Nat)) 65536)) else none
  | _ => none

/-- The gear law f(m), before rounding. -/
def gearLaw (s : State) (a : Nat) (m : Int) : Rat :=
  let ax := axis s a
  let ra := mkRat (axI s a 76 4) 65536
  let rb := mkRat (axI s a 80 4) 65536
  let w := axI s a 68 8
  if m = w ∨ decide (m < w) = decide (ax.m0 < w) then (ax.y0 : Rat) + ra * ((m - ax.m0 : Int) : Rat)
  else (ax.y0 : Rat) + ra * ((w - ax.m0 : Int) : Rat) + rb * ((m - w : Int) : Rat)

/-- One servo instant of a geared axis. -/
def gearStep (a : Nat) (s : State) : State :=
  match masterPos s a with
  | none => axisFault a 2 s
  | some m =>
    let ax := axis s a
    let f := roundR (gearLaw s a m)
    let lim : Rat := (axN s a 16 4 : Nat) * mkRat (servoUs s a) 1000000
    let y : Rat := if ax.y + lim < f then ax.y + lim else if (f : Rat) < ax.y - lim then ax.y - lim else f
    let far := decide (m ≠ axI s a 68 8) && decide (m < axI s a 68 8) ≠ decide (ax.m0 < axI s a 68 8)
    let sp := roundR y
    let s1 := modAxis a (fun x => { x with
      y := y, exact := true, v := (sp - x.sp : Int) * (1000000 / (servoUs s a : Rat)), lag := f - sp, bSide := far, switched := x.switched || far }) s
    let s2 := if far && !ax.switched then motEvent a evGEAR .ok 0 ax.req s1 else s1
    if 0 < axN s a 84 4 ∧ axN s a 84 4 < (f - sp).natAbs then axisFault a 1 s2 else s2

/-! ### Commands (Table 12.4) -/

/-- The answer to a command that is executed, or refused. -/
def answer (a : Nat) (ok : Bool) (req : Nat) (s : State) : State :=
  motEvent a evACCEPTED (if ok then .ok else .refused) 0 req s

/-- A target lies outside the soft limits in use (R302). -/
def softBad (s : State) (a : Nat) (x : Int) : Bool :=
  let lo := axI s a 88 8
  let hi := axI s a 96 8
  decide (lo < hi) && (decide (x < lo) || decide (hi < x))

/-- Start moving to a target from the present plan state. -/
def startMove (a : Nat) (x : Int) (s : State) : State :=
  let s1 := if (axis s a).st == .idle then readTablesChecked a s else s
  if (axis s1 a).st == .faulted then s1 else modAxis a (fun ax => { ax with st := .moving, x := x, obsDec := false }) s1

/-- MOVE_ABS and MOVE_REL. -/
def cmdMove (a : Nat) (rel : Bool) (c : MotCmd) (s : State) : State :=
  let ax := axis s a
  let x := if rel then ax.x + c.target else c.target
  let bad := ax.st == .disabled || ax.st == .homing || ax.st == .faulted || ax.st == .geared || (decide (a < 16) && !ax.posValid) ||
    softBad s a x || towardActive s a ((x : Rat) - ax.y) || ((ax.st == .idle || ax.st == .moving) && !axisMode s)
  if bad then answer a false c.req s
  else
    let s1 := modAxis a (fun ax => { ax with vcap := c.vcap, camOff := c.flags.testBit 1, relevel := c.flags.testBit 0, req := c.req }) s
    let s2 := if ax.st == .stopping || ax.st == .stopped then modAxis a (fun ax => { ax with x := x }) s1 else startMove a x s1
    answer a true c.req s2

/-- STOP. -/
def cmdStop (a : Nat) (c : MotCmd) (s : State) : State :=
  let ax := axis s a
  if ax.st == .disabled || ax.st == .faulted || ax.st == .geared || (ax.st == .stopping && ax.after == .faulted) then answer a false c.req s
  else if ax.st == .stopping || ax.st == .stopped then answer a true c.req s
  else noteStopped a (answer a true c.req (rampStop a .stopped (modAxis a (fun x => { x with home := none, req := c.req }) s)))

/-- RESUME: from rest to the kept target. -/
def cmdResume (a : Nat) (c : MotCmd) (s : State) : State :=
  let ax := axis s a
  let d : Rat := (ax.x : Rat) - ax.y
  if ax.st != .stopped || !gateOpen s a d || towardActive s a d || !axisMode s then answer a false c.req s
  else answer a true c.req (modAxis a (fun x => { x with st := .moving, obsDec := false, req := c.req }) s)

/-- HOME: the first step of Table 12.7. -/
def cmdHome (a : Nat) (stallRef : Bool) (c : MotCmd) (s : State) : State :=
  let ax := axis s a
  let cause := ax.fault == 4 && ax.limLo && ax.limHi
  let free := ax.st == .idle || ax.st == .stopped || (ax.st == .faulted && !cause)
  if !free || !axisMode s then answer a false c.req s
  else
    let active := if stallRef then false else ax.limLo
    answer a true c.req (modAxis a (fun x => { x with
      st := .homing, fault := 0, home := some (if active then .back else .seek), homeArg := c.arg, homeAt := x.y, homeUs := 0, req := c.req
      vcap := c.vcap, camOff := true, relevel := false, obsDec := false }) s)

/-- GEAR_ON. -/
def cmdGearOn (a : Nat) (c : MotCmd) (s : State) : State :=
  let ax := axis s a
  match masterPos s a with
  | none => answer a false c.req s
  | some m =>
    if ax.st == .homing || ax.st == .faulted || ax.st == .disabled || !axisMode s || m = axI s a 68 8 then answer a false c.req s
    else
      let s1 := if ax.st == .idle then readTablesChecked a s else s
      answer a true c.req (modAxis a (fun x => { x with
        st := .geared, m0 := m, y0 := x.sp, y := x.sp, exact := true, lag := 0, switched := false, bSide := false, req := c.req }) s1)

/-- GEAR_OFF: the slave's present velocity and a plan to TARGET. -/
def gearLeave (a : Nat) (x : Int) (s : State) : State :=
  modAxis a (fun ax => { ax with
    st := .moving, y := ax.sp, exact := true, v := ((ax.sp - ax.spPrev : Int) : Rat) * 1000000 / (servoUs s a : Rat), x := x }) s

/-- GEAR_OFF. -/
def cmdGearOff (a : Nat) (c : MotCmd) (s : State) : State :=
  if (axis s a).st != .geared then answer a false c.req s
  else answer a true c.req (gearLeave a c.target (modAxis a (fun x => { x with vcap := c.vcap, camOff := c.flags.testBit 1, req := c.req }) s))

/-- ENABLE: a car profile takes its y from the car position (R314); a door axis's bridge fault
whose cause has gone ends, OFFSET by the measurement that follows (R321, R334). -/
def cmdEnable (a : Nat) (c : MotCmd) (s : State) : State :=
  if (axis s a).st != .disabled || !axUsed s a then answer a false c.req s
  else
    let y : Rat := if a < 16 then (axis s a).y else ((car s (a - 16)).pos : Rat)
    let s1 := readTables a (modAxis a (fun x => { x with
      st := if axisMode s then .idle else .stopped, y := y, v := 0, x := roundR y, sp := roundR y, spPrev := roundR y, exact := true,
      fault := 0, obsDec := false }) s)
    motEvent a evDONE .ok 0 c.req (if a < 16 && (!(door s a).bridgeOn || (door s a).bridge == 3) then modDoor a (fun d => { d with bridge := 0 }) s1 else s1)

/-- DISABLE. -/
def cmdDisable (a : Nat) (c : MotCmd) (s : State) : State :=
  answer a true c.req (faultStop a .disabled (modAxis a (fun x => { x with home := none, req := c.req }) s))

/-- The cause of an axis fault is still present. -/
def faultPresent (s : State) (a : Nat) : Bool :=
  let ax := axis s a
  match ax.fault with
  | 2 => (masterPos s a).isNone
  | 4 => ax.limLo && ax.limHi
  | 5 => (doorTables s a).any (fun t => tableEcc s t.1 t.2)
  | 6 => (door s a).bridgeOn
  | _ => false

/-- FAULT_CLEAR. -/
def cmdFaultClear (a : Nat) (c : MotCmd) (s : State) : State :=
  let ax := axis s a
  if ax.st == .faulted && faultPresent s a then answer a false c.req s
  else if ax.st == .faulted then motEvent a evDONE .ok 0 c.req (modAxis a (fun x => { x with st := .stopped, fault := 0 }) s)
  else motEvent a evDONE .ok 0 c.req s

/-- SET_POS. -/
def cmdSetPos (a : Nat) (c : MotCmd) (s : State) : State :=
  let ax := axis s a
  if 16 ≤ a || !(ax.st == .idle || ax.st == .disabled) then answer a false c.req s
  else motEvent a evDONE .ok 0 c.req (modAxis a (fun x => { x with
    y := (c.target : Rat), x := c.target, sp := c.target, spPrev := c.target, exact := true, posValid := true }) s)

/-! ### Escalators (R308) -/

/-- Change an escalator channel. -/
def modEsc (c : Nat) (f : EscChan → EscChan) (s : State) : State := modMot (fun m => { m with esc := vmod m.esc c f }) s

/-- RUN and DIR as Kerb gives them. -/
def escRun (s : State) (c : Nat) : Bool := kerbCtl s (4 + c)
def escDir (s : State) (c : Nat) : Bool := kerbCtl s (8 + c)

/-- Travel in 0.1 mm of a number of counts. -/
def escTravel (s : State) (c : Nat) (n : Int) : Rat := mkRat (n * (escN s c 4 4 : Nat)) 65536

/-- The speed v_s, in 0.1 mm/s: travel over the last 100 ms. -/
def escSpeed (s : State) (c : Nat) : Rat :=
  let d := escTravel s c ((esc s c).hist.foldl (· + ·) 0)
  (if d < 0 then -d else d) * 10

/-- The handrail deviation of one side exceeds HR_DEV_PCT over the window. -/
def handrailBad (s : State) (c : Nat) (pulses : Nat) (counts : Int) : Bool :=
  let e : Rat := mkRat ((counts.natAbs : Int) * (escN s c 8 4 : Nat)) 65536
  let d : Rat := if e < pulses then (pulses : Rat) - e else e - (pulses : Rat)
  decide (e ≠ 0) && decide (d * 100 > e * (escN s c 14 1 : Nat))

/-- The trip conditions met now (Table 12.8), bits 0–5. -/
def escConditions (s : State) (c : Nat) : Nat :=
  let x := esc s c
  let vs := escSpeed s c
  let vn : Rat := (10 * escN s c 2 2 : Nat)
  let fl := escN s c 0 1
  let grace := x.run && decide (escN s c 20 2 < x.runMs)
  let travel := escTravel s c (x.count - x.runAt)
  let against : Rat := if escDir s c then -travel else travel
  b2n (decide (vs * 100 > vn * (escN s c 12 1 : Nat))) + 2 * b2n (grace && decide (escN s c 16 2 ≤ x.underMs)) +
  4 * b2n (x.run && decide (((10 * escN s c 22 2 : Nat) : Rat) ≤ against)) +
  8 * b2n (grace && fl.testBit 2 && decide (1000 * escN s c 18 2 ≤ x.devL)) +
  16 * b2n (grace && fl.testBit 3 && decide (1000 * escN s c 18 2 ≤ x.devR)) +
  32 * b2n (fl.testBit 4 && decide (vn ≤ 2 * vs) && decide (0 < vs) &&
    decide (mkRat (escN s c 15 1 * escN s c 24 4 : Nat) 10 * 1000 / vs ≤ (x.msAge : Rat)))

/-- Latch trips: deliver the ESC_TRIP line to Kerb and post ESC_TRIP. -/
def escLatch (c bits : Nat) (s : State) : State :=
  (List.range 7).foldl (fun s b =>
    if bits.testBit b && !(esc s c).trips.testBit b then
      tripEval (motEvent (24 + c) evESC .ok b 0 (modEsc c (fun x => { x with trips := setBitN x.trips b true }) s))
    else s) s

/-- Publish an escalator channel's status record. -/
def escPublish (c : Nat) (s : State) : State :=
  let x := esc s c
  let b := motBase + 0x2000 + 64 * (24 + c)
  let bytes := leBytes 8 s.time.centre ++ leBytes 4 (add32 x.seq 2) ++ leBytes 1 (1 + b2n x.run) ++ leBytes 1 0 ++ leBytes 1 0 ++
    leBytes 1 x.trips ++ leBytes 8 (ofSigned 64 (roundR (escTravel s c x.count))) ++ leBytes 16 0 ++
    leBytes 4 (roundR (escSpeed s c)).toNat ++ leBytes 12 0 ++ leBytes 4 x.stopMm ++ leBytes 4 0
  let s1 := modEsc c (fun x => { x with seq := add32 x.seq 2 }) s
  { s1 with mem := s1.mem.writeBytes b bytes }

/-- The modes in which escalator supervision is active (Table 2.4). -/
def escMode (s : State) : Bool :=
  match s.mode.mode with
  | .service | .inspection | .recall | .update | .safestop => true
  | _ => false

/-- One millisecond of a channel: counts, handrail pulses of each side, and missing-step pulses. -/
def escStep (c : Nat) (counts : Int) (l r ms : Nat) (s : State) : State :=
  if !escUsed s c || !escMode s || !islRuns s islMOTION then s
  else
    let n := if (escN s c 0 1).testBit 1 then -counts else counts
    let run := escRun s c
    let win := max 1 (escN s c 32 2)
    let s1 := modEsc c (fun x =>
      let w := ((n, l, r) :: x.win).take win
      { x with
        count := x.count + n, hist := (n :: x.hist).take 100, win := w, run := run
        runMs := if run then (if x.run then x.runMs + 1 else 0) else 0
        runAt := if run && !x.run then x.count else x.runAt
        msAge := if 0 < ms then 0 else x.msAge + 1
        quiet := if n = 0 then x.quiet + 1 else 0
        stopAt := if x.run && !run then some x.count else if run then none else x.stopAt }) s
    let x := esc s1 c
    let sumC := x.win.foldl (fun a w => a + w.1) 0
    let sumL := (x.win.map (fun w => w.2.1)).sum
    let sumR' := (x.win.map (fun w => w.2.2)).sum
    let grace := x.run && decide (escN s c 20 2 < x.runMs)
    let slow := grace && decide (escSpeed s1 c * 100 < (10 * escN s c 2 2 * escN s c 13 1 : Nat))
    let s2 := modEsc c (fun x => { x with
      underMs := if slow then x.underMs + 1 else 0
      devL := if grace && handrailBad s1 c sumL sumC then x.devL + 1 else 0
      devR := if grace && handrailBad s1 c sumR' sumC then x.devR + 1 else 0 }) s1
    let s3 := escLatch c (escConditions s2 c) s2
    let s4 := match (esc s3 c).stopAt with
      | none => s3
      | some p =>
        if (esc s3 c).quiet < 100 then s3
        else
          let d := escTravel s3 c ((esc s3 c).count - p)
          let mm : Rat := (if d < 0 then -d else d) / 10
          let bad := decide (((escN s c 30 2 : Nat) : Rat) < mm) || (escN s c 28 2 ≠ 0 && decide (mm < (escN s c 28 2 : Nat)))
          escLatch c (if bad then 64 else 0) (modEsc c (fun x => { x with stopAt := none, stopMm := (roundR mm).toNat }) s3)
    escPublish c s4

/-- ESC_CLEAR: refused while a latched trip's condition is still present. -/
def escClear (c req : Nat) (s : State) : State :=
  if (escConditions s c &&& (esc s c).trips) ≠ 0 then answer (24 + c) false req s
  else motEvent (24 + c) evDONE .ok 0 req (modEsc c (fun x => { x with trips := 0 }) s)

/-! ### Dispatch of a command to its meaning -/

/-- Execute one command of an axis; a move to a door whose reference is its stall flag says so. -/
def motExec (a : Nat) (c : MotCmd) (s : State) : State :=
  match c.op with
  | 1 => cmdMove a false c s
  | 2 => cmdMove a true c s
  | 3 => cmdStop a c s
  | 4 => cmdResume a c s
  | 5 => cmdHome a (decide (a < 16) && (axN s a 38 1).testBit 0) c s
  | 6 => cmdGearOn a c s
  | 7 => cmdGearOff a c s
  | 8 => cmdEnable a c s
  | 9 => cmdDisable a c s
  | 10 => cmdFaultClear a c s
  | 11 => cmdSetPos a c s
  | _ => answer a false c.req s

/-- A command row: executed at the axis's servo instant; a profiled axis must be in use, an escalator takes ESC_CLEAR alone. -/
def motRow (a : Nat) (c : MotCmd) (s : State) : State :=
  if !islRuns s islMOTION then s
  else if 24 ≤ a then answer a false c.req s
  else motExec a c s

/-- Parse a command entry (Table 12.3). -/
def parseMotCmd (p : List Byte) : Nat × MotCmd :=
  (le p 1 1, { op := le p 0 1, flags := le p 2 1, vcap := le p 4 4, target := toSigned 64 (le p 8 8), req := le p 16 8,
               arg := toSigned 64 (le p 24 8) })

/-- Take the entries of CMD_QID: commands wait for their axis's servo instant; ABORT entries are answered and not executed;
axes of the lift controller take none (R295, R296). -/
def motPump : Nat → State → State
  | 0, s => s
  | f + 1, s =>
    if s.motion.cmdQ = 0 then s
    else
      let r := qDequeue s.motion.cmdQ s
      let e := parseMotCmd r.2.1
      if r.1.status == .ok then
        let s1 := (qAck s.motion.cmdQ 1 r.2.2).2
        let s2 := if 28 ≤ e.1 || liftOwned s e.1 then answer e.1 false e.2.req s1
          else if 24 ≤ e.1 then (if e.2.op = 12 then escClear (e.1 - 24) e.2.req s1 else answer e.1 false e.2.req s1)
          else modAxis e.1 (fun x => { x with cmds := x.cmds ++ [e.2] }) s1
        motPump f s2
      else if r.1.status == .abort then
        motPump f (motEvent e.1 evACCEPTED .abort 0 e.2.req (qAck s.motion.cmdQ 1 r.2.2).2)
      else r.2.2

/-! ### Frame shifts (R307) -/

/-- The car position frame moves by `e`. -/
def frameShift (a : Nat) (e : Int) (s : State) : State :=
  modAxis a (fun x => { x with y := x.y + e, x := x.x + e, sp := x.sp + e, spPrev := x.spPrev + e }) s

/-! ### One servo period of a plan -/

/-- Advance a MOVING plan by a number of µs: in one piece without a cam, by 1 µs updates with one. -/
def advanceUs (a : Nat) : Nat → State → State × Bool
  | 0, s => (s, false)
  | n + 1, s =>
    let ax := axis s a
    let r := planRun (lawAt s a ax.y ax.x) ax.x 60 (mkRat 1 1000000) ⟨ax.y, ax.v, ax.exact⟩
    let s1 := modAxis a (fun x => { x with y := r.1.y, v := r.1.v, exact := r.1.exact }) s
    if r.2.2 then (s1, true) else advanceUs a n s1

/-- Advance a MOVING plan by `us` µs toward its target; true on arrival. -/
def advance (a us : Nat) (s : State) : State × Bool :=
  let ax := axis s a
  if (camOf s a ((ax.x : Rat) - ax.y)).isSome then advanceUs a us s
  else
    let r := planRun (lawAt s a ax.y ax.x) ax.x 60 (mkRat us 1000000) ⟨ax.y, ax.v, ax.exact⟩
    (modAxis a (fun x => { x with y := r.1.y, v := r.1.v, exact := r.1.exact }) s, r.2.2)

/-- OBS_DEC governs until |v| reaches V_STOP: then the usual ramps apply (R328). -/
def advanceObs (a us : Nat) (s : State) : State × Bool :=
  let ax := axis s a
  let l := lawAt s a ax.y ax.x
  let d := if ax.v < 0 then -1 else (1 : Rat)
  let w := d * ax.v
  if !ax.obsDec then advance a us s
  else if w ≤ l.vStop then advance a us (modAxis a (fun x => { x with obsDec := false }) s)
  else
    let t := (w - l.vStop) / l.decHi
    if mkRat us 1000000 ≤ t then
      let q := piece ax.y d w (-l.decHi) l.vStop (mkRat us 1000000)
      (modAxis a (fun x => { x with y := q.1, v := d * q.2.1 }) s, false)
    else
      let q := piece ax.y d w (-l.decHi) l.vStop t
      let s1 := modAxis a (fun x => { x with y := q.1, v := d * l.vStop, obsDec := false }) s
      let r := planRun (lawAt s1 a q.1 ax.x) ax.x 60 (mkRat us 1000000 - t) ⟨q.1, d * l.vStop, ax.exact⟩
      (modAxis a (fun x => { x with y := r.1.y, v := r.1.v, exact := r.1.exact }) s1, r.2.2)

/-- Advance a STOPPING plan; at rest it enters the state it stops for, with its event. -/
def advanceStop (a us : Nat) (s : State) : State :=
  let ax := axis s a
  let r := stopRun (lawAt s a ax.y ax.x) 20 (mkRat us 1000000) ⟨ax.y, ax.v, ax.exact⟩
  let s1 := modAxis a (fun x => { x with y := r.1.y, v := r.1.v }) s
  if r.2 then noteStopped a (modAxis a (fun x => { x with st := x.after, obsDec := false }) s1) else s1

/-- The axis reaches its target: IDLE, DONE, and its tables are read again (R310). -/
def arrive (a : Nat) (s : State) : State :=
  readTablesChecked a (motEvent a evDONE .ok 0 (axis s a).req (modAxis a (fun x => { x with st := .idle, obsDec := false }) s))

/-! ### Homing (R306, Table 12.7) -/

/-- A target far beyond the range of travel, toward or away from the reference. -/
def farTarget (s : State) (a : Nat) (away : Bool) : Int :=
  let pos := if a < 16 && openNeg s a then !away else away
  if pos then 2 ^ 62 else -(2 ^ 62)

/-- The reference of the axis: the low limit, or the stall flag. -/
def homeRef (s : State) (a : Nat) : Bool :=
  if decide (a < 16) && (axN s a 38 1).testBit 0 then (door s a).stall else (axis s a).limLo

/-- The reference has released at captured position `cap`: positions are reassigned and step 5 begins. -/
def homeRelease (a : Nat) (cap : Rat) (s : State) : State :=
  let ax := axis s a
  let e := ax.homeArg - roundR cap
  let off : Int := (axN s a 60 4 : Nat)
  let dir : Int := if 0 < farTarget s a true then 1 else -1
  let s1 := frameShift a e s
  let s2 := if a < 16 then s1
    else modCar (a - 16) (fun c => { c with
      origin := if carN s (a - 16) 3 1 % 4 = 2 then c.origin else c.origin + e
      ssiOrigin := if carN s (a - 16) 3 1 % 4 = 2 then c.ssiOrigin + e else c.ssiOrigin, pos := c.pos + e, refd := true }) s1
  modAxis a (fun x => { x with home := some .final, x := ax.homeArg + dir * off, posValid := x.posValid || decide (a < 16), vcap := axN s a 56 4 }) s2

/-- HOME_FAIL. -/
def homeFail (a : Nat) (s : State) : State := if (axis s a).st == .homing then axisFault a 3 s else s

/-- Advance a homing sequence by one servo period. -/
def homeStep (a us : Nat) (s0 : State) : State :=
  let s := modAxis a (fun x => { x with homeUs := x.homeUs + us }) s0
  let ax := axis s a
  if 1000 * axN s a 64 4 < ax.homeUs then homeFail a s
  else
    match ax.home with
    | none => s
    | some .seek =>
      let cap := if a < 16 then axN s a 52 4 else ax.vcap
      let s1 := modAxis a (fun x => { x with x := farTarget s a false, vcap := cap }) s
      if homeRef s a then modAxis a (fun x => { x with home := some .seekStop }) s1 else (advance a us s1).1
    | some .seekStop =>
      let r := stopRun (lawAt s a ax.y ax.x) 20 (mkRat us 1000000) ⟨ax.y, ax.v, ax.exact⟩
      modAxis a (fun x => { x with y := r.1.y, v := r.1.v, home := if r.2 then some .back else x.home, homeAt := r.1.y }) s
    | some .back =>
      let s1 := modAxis a (fun x => { x with x := farTarget s a true, vcap := axN s a 56 4 }) s
      let s2 := (advance a us s1).1
      let d := (axis s2 a).y - ax.homeAt
      if ((axN s a 60 4 + 1000 : Nat) : Rat) < (if d < 0 then -d else d) then homeFail a s2
      else if decide (a < 16) && (axN s a 38 1).testBit 0 && !(door s a).stall then homeRelease a (axis s2 a).y s2
      else s2
    | some .final =>
      let r := advance a us s
      if r.2 then readTablesChecked a (motEvent a evHOME .ok 0 ax.req (modAxis a (fun x => { x with st := .idle, home := none }) r.1)) else r.1

/-! ### Limit inputs (R301) -/

/-- A limit input's ball changes level, `t` ns after the last servo instant. -/
def limitInput (a : Nat) (hi level : Bool) (t : Nat) (s : State) : State :=
  let act := axN s a (if hi then 37 else 36) 1
  let on := if act.testBit 7 then !level else level
  let ax := axis s a
  let s1 := modAxis a (fun x => if hi then { x with limHi := on } else { x with limLo := on }) s
  let rose := on && !(if hi then ax.limHi else ax.limLo)
  let fell := !on && (if hi then ax.limHi else ax.limLo)
  let toward := if hi then towardHi s a ax.v else towardLo s a ax.v
  if ax.st == .homing && !hi && !((axN s a 38 1).testBit 0 && decide (a < 16)) then
    if fell && ax.home == some .back then homeRelease a (ax.y + ax.v * mkRat t 1000000000) s1 else s1
  else if rose && toward && (ax.st == .moving || ax.st == .geared || ax.st == .homing || ax.st == .stopping) then
    if act % 4 = 2 && a < 16 then
      let y := ax.y + ax.v * mkRat t 1000000000
      noteStopped a (motEvent a evLIMIT .ok 0 ax.req (hardStop a .stopped (modAxis a (fun x => { x with y := y, home := none }) s1)))
    else modAxis a (fun x => if hi then { x with edgeHi := true } else { x with edgeLo := true }) s1
  else s1

/-- The actions of limit edges at a servo instant. -/
def limitActions (a : Nat) (s : State) : State :=
  let ax := axis s a
  let s0 := modAxis a (fun x => { x with edgeLo := false, edgeHi := false }) s
  if ax.limLo && ax.limHi && ax.st != .disabled && ax.st != .faulted then axisFault a 4 s0
  else if !(ax.edgeLo || ax.edgeHi) then s0
  else
    let act := axN s a (if ax.edgeHi then 37 else 36) 1 % 4
    if act = 0 then s0
    else
      let s1 := motEvent a evLIMIT .ok 0 ax.req (modAxis a (fun x => { x with home := none }) s0)
      noteStopped a (if act = 2 then hardStop a .stopped s1 else rampStop a .stopped s1)

/-! ### Permits (R295, R30) -/

/-- A permit that gates the present motion is 0: the axis stops by FAULT_ACTION and keeps its target. -/
def permitActions (a : Nat) (s : State) : State :=
  let ax := axis s a
  let dir : Rat := if ax.v = 0 then (ax.x : Rat) - ax.y else ax.v
  if ax.st == .moving || ax.st == .geared || (ax.st == .homing && ax.v ≠ 0) then
    if gateOpen s a dir then s else noteStopped a (faultStop a .stopped (modAxis a (fun x => { x with home := none }) s))
  else if ax.st == .stopping && ax.v ≠ 0 && !gateOpen s a ax.v && (axN s a 0 1).testBit 1 then
    noteStopped a (hardStop a ax.after s)
  else s

/-! ### Publication (Table 12.12) -/

/-- TIME_TO_GO of a plan in ms, rounded up. -/
def timeToGo (s : State) (a : Nat) : Nat :=
  let ax := axis s a
  if ax.st != .moving then 0
  else if (camOf s a ((ax.x : Rat) - ax.y)).isSome then satTo 32 (Config.camTime ax.y ax.v ax.x)
  else
    let big : Rat := 10 ^ 12
    let r := planRun (lawAt s a ax.y ax.x) ax.x 60 big ⟨ax.y, ax.v, ax.exact⟩
    if r.2.2 then satTo 32 ((big - r.2.1) * 1000).ceil.toNat else 2 ^ 32 - 1

/-- D_STOP. -/
def dStopOf (s : State) (a : Nat) : Nat :=
  let ax := axis s a
  let d := (lawAt s a ax.y ax.x).stopDist (if ax.v < 0 then -ax.v else ax.v)
  satTo 32 (roundR d).toNat

/-- Publish a profiled axis's status record. -/
def axisPublish (a : Nat) (s : State) : State :=
  let ax := axis s a
  let dir : Rat := if ax.v = 0 then (ax.x : Rat) - ax.y else ax.v
  let fl := b2n (ax.posValid || decide (16 ≤ a)) + 2 * b2n (ax.st == .geared && ax.bSide) + 4 * b2n ax.limLo + 8 * b2n ax.limHi +
    16 * b2n (gateOpen s a dir) + 32 * b2n (ax.st == .moving && (camOf s a dir).isSome) + 64 * b2n (ax.st == .geared && ax.lag ≠ 0)
  let bytes := leBytes 8 s.time.centre ++ leBytes 4 (add32 ax.seq 2) ++ leBytes 1 ax.st.code ++ leBytes 1 fl ++ leBytes 1 ax.fault ++
    leBytes 1 0 ++ leBytes 8 (ofSigned 64 ax.sp) ++ leBytes 8 (ofSigned 64 ax.x) ++ leBytes 8 (ofSigned 64 (ax.x - ax.sp)) ++
    leBytes 4 (ofSigned 32 (roundR ax.v)) ++ leBytes 4 (dStopOf s a) ++ leBytes 4 (timeToGo s a) ++
    leBytes 4 (if ax.st == .geared then ofSigned 32 ax.lag else 0) ++ leBytes 8 0
  let s1 := modAxis a (fun x => { x with seq := add32 x.seq 2 }) s
  { s1 with mem := s1.mem.writeBytes (motBase + 0x2000 + 64 * a) bytes }

/-! ### APPLY (R309) -/

/-- Fields of an axis record as written, by offset in the block. -/
def axRecBad (m : Memory) (a : Nat) : Option Nat :=
  let b := 0x1000 + 128 * a
  let n (o k : Nat) : Nat := m.readN (b + o) k
  let bad (o : Nat) (c : Bool) : Option Nat := if c then some ((b + o) / 16) else none
  let v (i : Nat) : Nat := n (4 + 4 * i) 4
  let g := n 39 1
  if !(n 0 1).testBit 0 then none
  else
    (bad 0 (8 ≤ n 0 1 || 8 ≤ n 1 1)).orElse fun _ =>
    (bad 2 (!(n 2 1 < 8 || n 2 1 == 0xFF) || !(n 3 1 < 8 || n 3 1 == 0xFF) || (16 ≤ a && (n 2 1 ≠ 0xFF || n 3 1 ≠ 0xFF)))).orElse fun _ =>
    (bad 4 (v 1 < v 0 || v 2 < v 1 || v 3 < v 2 || v 3 == 0)).orElse fun _ =>
    (bad 20 ((List.range 4).any (fun i => v (4 + i) == 0))).orElse fun _ =>
    (bad 36 (!(n 36 1 % 128 < 3) || !(n 37 1 % 128 < 3) || 2 ≤ n 38 1 || (16 ≤ a && n 38 1 ≠ 0))).orElse fun _ =>
    (bad 39 (g.testBit 5 || (g / 64 == 1 && 8 ≤ g % 32) || (g / 64 == 2 && 24 ≤ g % 32) || (g / 64 == 3 && 4 ≤ g % 32))).orElse fun _ =>
    (bad 48 (n 48 4 == 0)).orElse fun _ =>
    (bad 52 (v 3 < n 52 4 || v 3 < n 56 4)).orElse fun _ =>
    (bad 64 (n 64 4 < 100 || 600000 < n 64 4)).orElse fun _ =>
    (bad 104 (n 104 24 ≠ 0))

/-- A kind-2 gear chain from `a` comes back to itself. -/
def gearLoop (m : Memory) (a : Nat) : Bool :=
  let src (x : Nat) : Option Nat :=
    let g := m.readN (0x1000 + 128 * x + 39) 1
    if (m.readN (0x1000 + 128 * x) 1).testBit 0 && g / 64 = 2 then some (g % 32) else none
  let walk := (List.range 24).foldl (fun (p : Option Nat × Bool) _ =>
    match p.1 with
    | none => p
    | some x => (src x, p.2 || x == a)) (src a, false)
  walk.2

/-- Fields of an escalator record as written. -/
def escRecBad (m : Memory) (c : Nat) : Option Nat :=
  let b := 0xC000 + 64 * c
  let n (o k : Nat) : Nat := m.readN (b + o) k
  let bad (o : Nat) (x : Bool) : Option Nat := if x then some ((b + o) / 16) else none
  let out (x lo hi : Nat) : Bool := x < lo || hi < x
  if !(n 0 1).testBit 0 then none
  else
    (bad 0 (32 ≤ n 0 1 || n 1 1 ≠ 0 || out (n 2 2) 100 1000)).orElse fun _ =>
    (bad 12 (out (n 12 1) 101 150 || out (n 13 1) 50 99 || out (n 14 1) 5 50 || out (n 15 1) 11 30)).orElse fun _ =>
    (bad 16 (out (n 16 2) 100 60000 || out (n 18 2) 1 60 || 60000 < n 20 2 || out (n 22 2) 10 1000)).orElse fun _ =>
    (bad 32 (out (n 32 2) 100 10000)).orElse fun _ => (bad 34 (n 34 30 ≠ 0))

/-- The first failing field of the records as written, ÷ 16. -/
def motBad (m : Memory) : Option Nat :=
  ((List.range 24).findSome? (axRecBad m)).orElse fun _ =>
  (((List.range 24).find? (fun a => (m.readN (0x1000 + 128 * a) 1).testBit 0 && gearLoop m a)).map (fun a => (0x1000 + 128 * a + 39) / 16)).orElse
    fun _ => (List.range 4).findSome? (escRecBad m)

/-- The records as written: axes and escalators. -/
def motRecords (s : State) : Memory :=
  blockTables motBase 0x1000 0x1C00 s ++ blockTables motBase 0xC000 0xC100 s

/-- An axis whose record changes is in none of the states DISABLED, IDLE, STOPPED. -/
def motApplyWaits (s : State) (m : Memory) : Bool :=
  (List.range 24).any (fun a =>
    m.bytes (0x1000 + 128 * a) 128 != s.motion.tabs.bytes (0x1000 + 128 * a) 128 &&
    !((axis s a).st == .disabled || (axis s a).st == .idle || (axis s a).st == .stopped))

/-- The checked records take effect. -/
def motTake (m : Memory) (s : State) : State := modMot (fun x => { x with tabs := m, next := none, result := .ok, refuseAt := 0 }) s

/-- APPLY. -/
def motApply (s : State) : State :=
  let m := motRecords s
  match motBad m with
  | some r => modMot (fun x => { x with result := .refused, refuseAt := r % 4096 }) s
  | none => if motApplyWaits s m then modMot (fun x => { x with next := some m, result := .busy }) s else motTake m s

/-- A deferred APPLY takes effect. -/
def motDeferred (s : State) : State :=
  match s.motion.next with
  | some m => if motApplyWaits s m then s else motTake m s
  | none => s

/-- TABLE_INVALIDATE: the named axes read their tables at their next servo instant. -/
def tableInvalidate (axes : Nat) (s : State) : State :=
  (setBitsBelow 16 axes).foldl (fun s a => modAxis a (fun x => { x with reread := true }) s) s

/-! ### Registers (Table 12.9) -/

/-- Read the motion block's registers. -/
def motRead (o : Nat) (s : State) : Option Word :=
  if o = 8 then
    some (packWord [(60, statusCode s.motion.result), (48, s.motion.refuseAt),
      (0, maskOf (s.motion.axes.toList.map (fun x => x.st != .disabled)))])
  else if o = 16 then some (packWord [(16, s.motion.evtQ), (0, s.motion.cmdQ)])
  else if o = 0 then some 0 else none

/-- MOT_CTL. -/
def motCtl (w : Word) (s : State) : State :=
  if bits w 63 56 ≠ 0x4D then s
  else match bits w 1 0 with
    | 1 => motApply s
    | 2 => tableInvalidate (bits w 35 8) s
    | _ => s

/-- Write the motion block's registers. -/
def motWrite (o : Nat) (w : Word) (s : State) : State :=
  if o = 0 then motCtl w s
  else if o = 16 then modMot (fun m => { m with evtQ := bits w 29 16, cmdQ := bits w 13 0 }) s
  else s

/-! ### Modes, fences and start (R313, R314) -/

/-- Entry to a mode without the outputs: every axis stops by FAULT_ACTION and is held STOPPED. -/
def motionHold (s : State) : State :=
  (List.range 24).foldl (fun s a =>
    let ax := axis s a
    if ax.st == .disabled || ax.st == .faulted || ax.st == .stopped then s
    else noteStopped a (faultStop a .stopped (modAxis a (fun x => { x with home := none }) s))) s

/-- A fence of MOTION with cause RESET saves each car profile's position. -/
def motionFenced (s : State) : State :=
  modMot (fun m => { m with saved := Vector.ofFn (fun (i : Fin 8) => if (axis s (16 + i.val)).st == .disabled then none else some (axis s (16 + i.val)).sp) }) s

/-- At release every axis restarts DISABLED; escalator trips and limit levels stay. -/
def motionReset (s : State) : State :=
  modMot (fun m => { m with
    axes := m.axes.map (fun x => { Axis.init with limLo := x.limLo, limHi := x.limHi, seq := x.seq })
    esc := m.esc.map (fun x => { EscChan.init with count := x.count, trips := x.trips, stopMm := x.stopMm, seq := x.seq })
    result := .ok, refuseAt := 0, evtQ := 0, cmdQ := 0, next := none }) s

/-- Bring-up step 8. -/
def motionStep8 (s : State) : State :=
  let s1 := motApply (motionReset s)
  modMot (fun m => { m with esc := m.esc.map (fun x => { x with trips := 0 }) }) s1

end Sys2Proof.Machine
end

