-- ==== Sys2Proof/Machine/DoorOps.lean ====
section
/-! DEFINITION. The door drive: set-points, choppers, offsets, short pulses, back-EMF, obstructions and nudging, and one servo
instant of an axis (chapters 12 and 13). -/
namespace Sys2Proof.Machine
open Sys2Proof

/-! ### Phases -/

/-- Phase A or B of a door axis. -/
def phase (s : State) (a : Nat) (b : Bool) : DPhase := if b then (door s a).b else (door s a).a
/-- Change a phase. -/
def modPhase (a : Nat) (b : Bool) (f : DPhase → DPhase) (s : State) : State :=
  modDoor a (fun d => if b then { d with b := f d.b } else { d with a := f d.a }) s

/-- The modes in which door bridges are driven (Table 2.4). -/
def bridgeMode (s : State) : Bool := axisMode s

/-- The absolute value of a rational. -/
def absR (r : Rat) : Rat := if r < 0 then -r else r
/-- The sign of a rational. -/
def sgnR (r : Rat) : Rat := if r < 0 then -1 else if r = 0 then 0 else 1

/-! ### Set-points and standstill (R318, R324) -/

/-- The standstill scale k. -/
def holdScale (s : State) (a : Nat) : Rat :=
  let d : Int := (s.time.uptime : Int) - (door s a).changedAt - 1000000 * (ddN s a 8 2 : Nat)
  let pct := mkRat (ddN s a 6 1) 100
  if d ≤ 0 then 1 else if 100000000 ≤ d then pct else 1 - (1 - pct) * mkRat d 100000000

/-- I_x of a table value. -/
def currentOf (s : State) (a : Nat) (t : Int) : Rat := mkRat ((ddN s a 4 2 : Nat) * t) 32768 * holdScale s a

/-- A phase takes a new set-point; a change of sign ends any pulse and discards the carried time (R323). -/
def setCurrent (i : Rat) (p : DPhase) : DPhase :=
  let flip := decide (p.iset * i < 0) || (decide (p.iset = 0) && decide (i ≠ 0) && p.neg != decide (i < 0))
  if flip then
    { p with iset := i, carry := 0, carried := 0, timed := none
             chop := match p.chop with | .blank | .on | .slow => .deadOff | c => c }
  else { p with iset := i }

/-- Form both set-points from the entry in force. -/
def formCurrents (a : Nat) (s : State) : State :=
  let d := door s a
  modPhase a true (setCurrent (currentOf s a d.tb)) (modPhase a false (setCurrent (currentOf s a d.ta)) s)

/-- The set-point that the present plan gives one servo period later. -/
def nextSetPoint (s : State) (a : Nat) : Int :=
  let ax := axis s a
  match ax.st with
  | .moving => setPointOf (axis (advanceObs a 250 s).1 a)
  | .homing => setPointOf (axis (homeStep a 250 s) a)
  | .stopping => setPointOf (axis (advanceStop a 250 s) a)
  | .geared => ax.sp + (ax.sp - ax.spPrev)
  | _ => ax.sp

/-- The table address `j` µs after a servo instant: linear between set-points. -/
def tableAddr (s : State) (a j : Nat) : Int :=
  let ax := axis s a
  roundR ((ax.sp : Rat) + mkRat ((nextSetPoint s a - ax.sp) * j) 250)

/-- A table address update (R318). -/
def addressUpdate (a j : Nat) (s : State) : State :=
  if !ddUsed s a || !islRuns s islMOTION then s
  else
    let adr := (tableAddr s a j % 4096).toNat
    let e := (axis s a).mstep.readN (4 * adr) 4
    let s1 := modDoor a (fun d => { d with
      addr := adr, ta := toSigned 16 (e % 65536), tb := toSigned 16 (e / 65536)
      changedAt := if adr = d.addr then d.changedAt else s.time.uptime }) s
    formCurrents a s1

/-! ### Thresholds (R320) -/

/-- One DAC step in mA. -/
def dacStep (s : State) (a : Nat) : Rat := mkRat 1200 1024 * 1000 / (ddN s a 10 2 : Nat)

/-- The hysteresis band H. -/
def hystBand (s : State) (a : Nat) (p : DPhase) : Rat :=
  let h := absR p.iset * mkRat (ddN s a 7 1) 100
  if h < 2 * dacStep s a then 2 * dacStep s a else h

/-- TH_HI − TH_LO, with both clamped to 0 and above. -/
def bandWidth (s : State) (a : Nat) (p : DPhase) : Rat :=
  let hi := absR p.iset + hystBand s a p / 2 - p.ofs
  let lo := absR p.iset - hystBand s a p / 2 - p.ofs
  (if hi < 0 then 0 else hi) - (if lo < 0 then 0 else lo)

/-- σ_x in mA. -/
def sigmaMa (s : State) (a : Nat) (p : DPhase) : Rat := p.sigma / 10 * 1000 / (ddN s a 10 2 : Nat)

/-- The adaptation after a chop cycle, `tau` the loop delay. -/
def adaptOfs (s : State) (a : Nat) (tau tOn tOff : Rat) (p : DPhase) : DPhase :=
  if tOn ≤ 0 ∨ tOff ≤ 0 then { p with tau := tau }
  else
    let q := 1 - tau * (1 / tOn + 1 / tOff)
    if q ≤ 0 then { p with tau := tau }
    else
      let dI := hystBand s a p / q
      let sr := dI / tOn
      let sf := dI / tOff
      let target := (sr - sf) * tau / 2 - sigmaMa s a p
      { p with tau := tau, sr := sr, sf := sf, ofs := p.ofs + (target - p.ofs) / 16 }

/-! ### The chopper (R319, R322, R323) -/

/-- The shortest pulse t_min, ns. -/
def tMin (s : State) (a : Nat) : Rat := mkRat (125 * ddN s a 2 2) 10 + 400

/-- The commanded on-time t_c, ns; none before a first cycle has given a slope. -/
def tCmd (s : State) (a : Nat) (p : DPhase) : Option Rat := if p.sr ≤ 0 then none else some (bandWidth s a p / p.sr)

/-- A turn-on decision: a pulse, or a carried or dropped one (R322). -/
def turnOn (a : Nat) (b : Bool) (s : State) : State :=
  let p := phase s a b
  let drop := (ddN s a 0 1).testBit 1
  let go (timed : Option Rat) : State :=
    modPhase a b (fun p => { p with chop := .deadOn, timed := timed, carry := 0, carried := 0 }) s
  match tCmd s a p with
  | none => go none
  | some tc =>
    let sum := tc + p.carry
    if tMin s a ≤ sum then go (if p.carry = 0 then none else some sum)
    else if drop then modDoor a (fun d => { d with shortCnt := add32 d.shortCnt 1 }) s
    else if 16 ≤ p.carried then modDoor a (fun d => { d with shortCnt := add32 d.shortCnt 1 }) (go (some (tMin s a)))
    else modPhase a b (fun p => { p with carry := sum, carried := p.carried + 1 }) s

/-- The comparator shows the current above or below its threshold at an instant; `delay` is the time from its edge to the edge on
the BEMF input, ns. -/
def comparator (a : Nat) (b above : Bool) (delay t : Nat) (s : State) : State :=
  let s1 := modPhase a b (fun p => { p with above := above }) s
  let p := phase s1 a b
  if !(door s a).energised then s1
  else match p.chop with
    | .on =>
      let len : Rat := ((t - p.onAt : Nat) : Rat)
      let off := match p.timed with | some d => decide (d ≤ len) | none => above && decide (400 ≤ len)
      if off then modPhase a b (fun p => { p with chop := .deadOff, offAt := t, timed := none, tau := delay + 6 }) s1 else s1
    | .slow =>
      if !above && decide (1000000 ≤ (t - p.onAt) * ddN s a 12 1) then
        let s2 := if p.fired then
            modPhase a b (fun p => adaptOfs s a p.tau ((p.offAt - p.onAt : Nat) : Rat) ((t - p.offAt : Nat) : Rat) p) s1
          else s1
        turnOn a b s2
      else s1
    | _ => s1

/-- Dead time ends (R317). -/
def deadEnd (a : Nat) (b : Bool) (t : Nat) (s : State) : State :=
  modPhase a b (fun p => match p.chop with
    | .deadOn => { p with chop := .blank, onAt := t, neg := decide (p.iset < 0), fired := true }
    | .deadOff => { p with chop := if p.neg != decide (p.iset < 0) && decide (p.iset ≠ 0) then .fast else .slow }
    | _ => p) s

/-- FAST_DECAY ends: the phase turns on in the new direction. -/
def fastEnd (a : Nat) (b : Bool) (s : State) : State :=
  if (phase s a b).chop == .fast then modPhase a b (fun p => if p.chop == .fast then { p with chop := .slow } else p) s |> turnOn a b else s

/-! ### Energising and bridge faults (R321, R334, R335) -/

/-- Every gate of an axis goes OFF. -/
def gatesOff (a : Nat) (s : State) : State :=
  modDoor a (fun d => { d with
    energised := false
    a := { d.a with chop := .idle, timed := none, carry := 0, carried := 0, fired := false, overCnt := 0 }
    b := { d.b with chop := .idle, timed := none, carry := 0, carried := 0, fired := false, overCnt := 0 } }) s

/-- A bridge fault. -/
def bridgeFault (a code : Nat) (s : State) : State :=
  let s1 := gatesOff a s
  let s2 := modDoor a (fun d => { d with bridge := code, bridgeOn := true, bridgeCnt := add32 d.bridgeCnt 1 }) s1
  axisEvent s.door.evtQ a 0x43 .ok code (ofSigned 32 (axis s a).sp) (axis s a).req (axisFault a 6 s2)

/-- The cause of a bridge fault has gone. -/
def bridgeGone (a : Nat) (s : State) : State := modDoor a (fun d => { d with bridgeOn := false }) s

/-- Blanking ends; 16 consecutive cycles above TH_HI there are OVERCURRENT. -/
def blankEnd (a : Nat) (b above : Bool) (s : State) : State :=
  if (phase s a b).chop != .blank then s
  else
    let s1 := modPhase a b (fun p => { p with chop := .on, above := above, overCnt := if above then p.overCnt + 1 else 0 }) s
    if 16 ≤ (phase s1 a b).overCnt then bridgeFault a 1 s1 else s1

/-- A sense-offset measurement ends: both phases' offsets in 0.1 mV. With the gates OFF; it energises an axis that has been
enabled. -/
def offsetMeasured (a : Nat) (oa ob : Int) (s : State) : State :=
  let d := door s a
  if d.energised || !ddUsed s a || !islRuns s islMOTION then s
  else
    let s1 := modDoor a (fun d => { d with cal := false, a := { d.a with sigma := oa }, b := { d.b with sigma := ob } }) s
    if 500 < oa.natAbs || 500 < ob.natAbs then bridgeFault a 3 s1
    else
      let s2 := modDoor a (fun d => { d with bridgeOn := d.bridgeOn && d.bridge != 3 }) s1
      let st := (axis s a).st
      if st != .disabled && st != .faulted && d.bridge = 0 && bridgeMode s then
        modDoor a (fun d => { d with energised := true, a := { d.a with chop := .deadOn }, b := { d.b with chop := .deadOn } }) s2
      else s2

/-- OFFSET_CAL: the named axes, all DISABLED. -/
def offsetCal (m : Nat) (s : State) : State :=
  let l := setBitsBelow 16 m
  if l.all (fun a => (axis s a).st == .disabled) then
    modDd (fun x => { x with result := .ok }) (l.foldl (fun s a => modDoor a (fun d => { d with cal := true }) s) s)
  else modDd (fun x => { x with result := .refused }) s

/-! ### Back-EMF and the estimate (R325, R326) -/

/-- One converter sample of a phase in SLOW, and its pair. -/
def bemfSample (a : Nat) (b : Bool) (code t : Nat) (s : State) : State :=
  let p := phase s a b
  if p.chop != .slow || !(door s a).energised then s
  else
    let v := (mkRat (code * 1200) 4096 - 600) * mkRat (ddN s a 22 2) 1000
    let e := v - mkRat (ddN s a 16 2) 1000 * p.iset + (1000 * ddN s a 18 2 : Nat) * p.sf * sgnR p.iset
    let s1 := modPhase a b (fun p => { p with bemf := some (t, e) }) s
    let d := door s1 a
    match d.a.bemf, d.b.bemf with
    | some x, some y =>
      if 20000 < t - (if b then x.1 else y.1) then s1
      else
        let sg := sgnR (axis s a).v
        let n := sqrtR ((d.ta * d.ta + d.tb * d.tb : Int) : Rat)
        if n = 0 then s1
        else modDoor a (fun d => { d with
          zRe := d.zRe + sg * (y.2 * d.ta - x.2 * d.tb) / n, zIm := d.zIm - sg * (x.2 * d.ta + y.2 * d.tb) / n, n := d.n + 1 }) s1
    | _, _ => s1

/-- The argument of a complex number in 0.1°. -/
def argDeg (re im : Rat) : Int :=
  if im = 0 then (if re < 0 then 1800 else 0)
  else if re = 0 then (if im < 0 then -900 else 900)
  else if re = im then (if re < 0 then -1350 else 450)
  else if re = -im then (if re < 0 then 1350 else -450)
  else clampInt (-1800) 1800 (Config.argTenth re im)

/-- The conditions under which STALL is flagged as an obstruction (R327). -/
def obsAllowed (s : State) (a : Nat) : Bool :=
  let ax := axis s a
  (ax.st == .moving || ax.st == .geared) && (ddN s a 0 1).testBit 2 && !towardActive s a ax.v && decide (2 ≤ (door s a).armed)

/-- The estimate of a servo period. -/
def estimate (a : Nat) (s : State) : State :=
  let d := door s a
  let v := (axis s a).v
  let clear (d : DoorAxis) : DoorAxis := { d with zRe := 0, zIm := 0, n := 0 }
  let vMin : Rat := (ddN s a 28 4 : Nat)
  if !(decide (4 ≤ d.n) && d.vOk && decide (vMin ≤ absR v)) then modDoor a (fun d => { clear d with estValid := false }) s
  else
    let delta := roundR (-(sgnR v)) * argDeg d.zRe d.zIm
    let den := mkRat (ddN s a 20 2) 4096 * absR v * d.n
    let rho := sqrtR (d.zRe * d.zRe + d.zIm * d.zIm) / den * 100
    let meets := decide (((ddN s a 24 2 : Nat) : Int) < delta) || decide (rho < (ddN s a 26 1 : Nat))
    let cnt := if meets then min 2 (d.meets + 1) else 0
    let stall := if meets then d.stall || cnt == 2 else false
    let s1 := modDoor a (fun d => { clear d with
      estValid := true, fresh := true, delta := delta, rho := satTo 16 (wholeOr Config.roundRho (rho * 10)).toNat, meets := cnt, stall := stall }) s
    if stall && cnt == 2 && obsAllowed s a then modDoor a (fun d => { d with obs := true, armed := 0 }) s1 else s1

/-! ### Obstructions (R327, R328, R330) -/

/-- Post a door event of R330. -/
def doorEvent (a typ action req : Nat) (s : State) : State :=
  axisEvent s.door.evtQ a typ .ok action (ofSigned 32 (axis s a).sp) req s

/-- Reverse to a target on OBS_DEC. -/
def obsReverse (a : Nat) (x : Int) (s : State) : State :=
  modAxis a (fun ax => { ax with st := .moving, x := x, obsDec := true, req := 0 }) s

/-- Stop on OBS_DEC with a kept target. -/
def obsStop (a : Nat) (x : Int) (s : State) : State :=
  modAxis a (fun ax => { ax with st := .stopping, after := .stopped, x := x, obsDec := true, req := 0 }) s

/-- The reaction of Table 13.3. -/
def obstruction (a : Nat) (s0 : State) : State :=
  let req := (axis s0 a).req
  let s := modDoor a (fun d => { d with obs := false, obsCnt := add32 d.obsCnt 1, obsSince := d.obsSince + 1 }) s0
  let ax := axis s a
  let openPos := ddI s a 48 8
  let closedPos := ddI s a 56 8
  if ax.st == .geared then
    doorEvent a 0x41 2 req (obsReverse a closedPos (gearLeave a closedPos (modAxis a (fun x => { x with vcap := 0 }) s)))
  else if ax.st != .moving then doorEvent a 0x41 3 req s
  else if isClosing s a ax.v then
    if (door s a).nudge then doorEvent a 0x41 4 req (modDoor a (fun d => { d with pausing := true }) (obsStop a ax.x s))
    else if permit s (axCar s a) 1 then doorEvent a 0x41 1 req (obsReverse a openPos s)
    else doorEvent a 0x41 3 req (obsStop a openPos s)
  else if (ddN s a 0 1).testBit 3 then doorEvent a 0x41 2 req (obsReverse a closedPos s)
  else doorEvent a 0x41 3 req (obsStop a ax.x s)

/-- NUDGE_PAUSE_MS after an obstruction stop in NUDGE the axis resumes (R329). -/
def nudgeResume (a : Nat) (s : State) : State :=
  if (door s a).pausing && (axis s a).st == .stopped then
    cmdResume a { op := 4, flags := 0, vcap := 0, target := 0, req := 0, arg := 0 } (modDoor a (fun d => { d with pausing := false }) s)
  else s

/-- The axis is IDLE at CLOSED_POS. -/
def idleClosed (s : State) (a : Nat) : Bool := (axis s a).st == .idle && (axis s a).sp == ddI s a 56 8

/-- NUDGE at a servo instant (R329). -/
def nudgeStep (a : Nat) (s : State) : State :=
  let vMin : Rat := (ddN s a 28 4 : Nat)
  let fast := decide (vMin ≤ absR (axis s a).v) && (axis s a).v ≠ 0
  let s1 := modDoor a (fun d => { d with
    obsSince := if idleClosed s a then 0 else d.obsSince
    absent := if d.fresh then 0 else if fast then min 2 (d.absent + 1) else 0
    armed := if fast then min 2 (d.armed + 1) else 0, vOk := fast, fresh := false }) s
  let d := door s1 a
  let lost := decide (2 ≤ d.absent)
  let case := (car s (axCar s a)).st == .recall || (ddN s a 27 1 ≠ 0 && decide (ddN s a 27 1 ≤ d.obsSince)) || lost
  let s2 := if case then
      let s3 := modDoor a (fun d => { d with nudge := true }) s1
      if lost && !d.nudge then doorEvent a 0x42 0 (axis s a).req s3 else s3
    else if idleClosed s1 a then modDoor a (fun d => { d with nudge := false }) s1 else s1
  let ax := axis s2 a
  if (door s2 a).nudge && ax.st == .moving && isClosing s2 a ((ax.x : Rat) - ax.y) then
    modAxis a (fun x => { x with vcap := ddN s a 40 4 }) s2
  else s2

/-! ### Publication (Table 13.6) -/

/-- Publish a door axis's status record. -/
def doorPublish (a : Nat) (s : State) : State :=
  let d := door s a
  let i16 (r : Rat) : Nat := ofSigned 16 (satSigned 16 (roundR r))
  let u8 (r : Rat) : Nat := satTo 8 (roundR r).toNat
  let bytes := leBytes 8 s.time.centre ++ leBytes 4 (add32 d.seq 2) ++
    leBytes 1 (b2n d.stall + 2 * b2n d.nudge + 4 * b2n d.estValid + 8 * b2n (decide (holdScale s a < 1)) + 16 * b2n d.energised) ++
    leBytes 1 (d.a.chop.code + 16 * d.b.chop.code) ++ leBytes 2 (ofSigned 16 d.delta) ++ leBytes 2 d.rho ++
    leBytes 2 (i16 d.a.ofs) ++ leBytes 2 (i16 d.b.ofs) ++ leBytes 1 (u8 d.a.tau) ++ leBytes 1 (u8 d.b.tau) ++
    leBytes 2 (i16 d.a.sigma) ++ leBytes 2 (i16 d.b.sigma) ++ leBytes 4 d.shortCnt ++ leBytes 4 d.obsCnt ++ leBytes 4 d.bridgeCnt ++
    leBytes 1 d.bridge ++ leBytes 23 0
  let s1 := modDoor a (fun d => { d with seq := add32 d.seq 2 }) s
  { s1 with mem := s1.mem.writeBytes (ddBase + 0x1400 + 64 * a) bytes }

/-! ### One servo instant of a profiled axis (R296, R298, chapter 12 Coincidences) -/

/-- Advance the plan of an axis by its servo period. -/
def servoAdvance (a : Nat) (s : State) : State :=
  let us := servoUs s a
  match (axis s a).st with
  | .moving => let r := advanceObs a us s; if r.2 then arrive a r.1 else r.1
  | .stopping => advanceStop a us s
  | .homing => homeStep a us s
  | .geared => gearStep a s
  | _ => s

/-- Execute the commands that wait, in order. -/
def servoCommands (a : Nat) (s : State) : State :=
  ((axis s a).cmds).foldl (fun s c => motExec a c s) (modAxis a (fun x => { x with cmds := [] }) s)

/-- The set-point of this instant. -/
def servoPoint (a : Nat) (s : State) : State :=
  modAxis a (fun x => { x with spPrev := x.sp, sp := if x.st == .geared then roundR x.y else setPointOf x }) s

/-- The whole servo instant: the plan's state, limits, the permit, an obstruction, commands, the permit again, and the records. -/
def axisServo (a : Nat) (s : State) : State :=
  if !axUsed s a || !islRuns s islMOTION then s
  else
    let s1 := servoPoint a (servoAdvance a (if (axis s a).reread then readTablesChecked a s else s))
    let s2 := permitActions a (limitActions a s1)
    let s3 := if a < 16 && ddUsed s a then
        nudgeStep a (if (door s2 a).obs then obstruction a s2 else s2)
      else s2
    let s4 := permitActions a (servoCommands a (motPump 64 s3))
    let s5 := if a < 16 && (door s4 a).energised && ((axis s4 a).st == .disabled || (!bridgeMode s4 && (axis s4 a).st != .stopping)) then gatesOff a s4 else s4
    let s6 := axisPublish a s5
    if a < 16 then doorPublish a s6 else s6

/-! ### APPLY (R331) -/

/-- Fields of a door axis record as written. -/
def ddRecBad (mot m : Memory) (a : Nat) : Option Nat :=
  let b := 0x1000 + 64 * a
  let n (o k : Nat) : Nat := m.readN (b + o) k
  let bad (o : Nat) (c : Bool) : Option Nat := if c then some ((b + o) / 16) else none
  let out (x lo hi : Nat) : Bool := x < lo || hi < x
  if !(n 0 1).testBit 0 then none
  else
    (bad 0 (16 ≤ n 0 1 || 4 ≤ n 1 1 || out (n 2 2) 4 256 || out (n 4 2) 100 10000 || 100 < n 6 1 || out (n 7 1) 5 50 || 10000 < n 8 2 ||
      out (n 10 2) 10 10000 || out (n 12 1) 10 100 || out (n 13 1) 8 80 || out (n 14 2) 8 4000)).orElse fun _ =>
    (bad 16 (n 20 2 == 0 || out (n 22 2) 1000 100000 || out (n 24 2) 300 900 || out (n 26 1) 5 90 || 15 < n 27 1 || n 28 4 == 0)).orElse
      fun _ =>
    (bad 32 (n 32 4 < mot.readN (0x1000 + 128 * a + 28) 4 || out (n 36 2) 100 10000 || n 38 2 ≠ 0 || n 40 4 == 0 || n 44 4 ≠ 0)).orElse fun _ =>
    (bad 0 (!(mot.readN (0x1000 + 128 * a) 1).testBit 0))

/-- The records as written. -/
def ddRecords (s : State) : Memory := blockTables ddBase 0x1000 0x1400 s

/-- A changed record belongs to an axis that is energised and not IDLE. -/
def ddApplyWaits (s : State) (m : Memory) : Bool :=
  (List.range 16).any (fun a =>
    m.bytes (0x1000 + 64 * a) 64 != s.door.tabs.bytes (0x1000 + 64 * a) 64 && (door s a).energised &&
    !((axis s a).st == .idle || (axis s a).st == .disabled))

/-- The checked records take effect; a change of R, L or KE restarts the guard of R327. -/
def ddTake (m : Memory) (s : State) : State :=
  let old := s.door.tabs
  let s1 := modDd (fun x => { x with tabs := m, next := none, result := .ok, refuseAt := 0 }) s
  (List.range 16).foldl (fun s a =>
    if m.bytes (0x1000 + 64 * a + 16) 6 == old.bytes (0x1000 + 64 * a + 16) 6 then s else modDoor a (fun d => { d with armed := 0 }) s) s1

/-- DD APPLY. -/
def ddApply (s : State) : State :=
  let m := ddRecords s
  match (List.range 16).findSome? (ddRecBad s.motion.tabs m) with
  | some r => modDd (fun x => { x with result := .refused, refuseAt := r % 4096 }) s
  | none => if ddApplyWaits s m then modDd (fun x => { x with next := some m, result := .busy }) s else ddTake m s

/-- A deferred door APPLY takes effect. -/
def ddDeferred (s : State) : State :=
  match s.door.next with
  | some m => if ddApplyWaits s m then s else ddTake m s
  | none => s

/-! ### Registers (Table 13.4) -/

/-- Read the door drive block's registers. -/
def ddRead (o : Nat) (s : State) : Option Word :=
  if o = 8 then
    some (packWord [(60, statusCode s.door.result), (48, s.door.refuseAt), (0, maskOf (s.door.doors.toList.map (·.energised)))])
  else if o = 16 then some (BitVec.ofNat 64 s.door.evtQ)
  else if o = 0 then some 0 else none

/-- DD_CTL. -/
def ddCtl (w : Word) (s : State) : State :=
  if bits w 63 56 ≠ 0x44 then s
  else match bits w 1 0 with
    | 1 => ddApply s
    | 2 => offsetCal (bits w 23 8) s
    | _ => s

/-- Write the door drive block's registers. -/
def ddWrite (o : Nat) (w : Word) (s : State) : State :=
  if o = 0 then ddCtl w s
  else if o = 16 then modDd (fun d => { d with evtQ := bits w 13 0 }) s
  else s

/-! ### Modes and start (R313, R335) -/

/-- The gates of every axis that does not ramp down go OFF; the others follow at rest (R53). -/
def allGatesOff (s : State) : State := (List.range 16).foldl (fun s a => if (axis s a).st == .stopping then s else gatesOff a s) s

/-- The door drive after a reset of MOTION: records and sense offsets stay in force. -/
def doorReset (s : State) : State :=
  modDd (fun x => { DoorState.init with
    tabs := x.tabs
    doors := x.doors.map (fun d => { DoorAxis.init with shortCnt := d.shortCnt, obsCnt := d.obsCnt, bridgeCnt := d.bridgeCnt, seq := d.seq }) }) s

/-- Bring-up step 8. -/
def doorStep8 (s : State) : State := ddApply (doorReset s)

end Sys2Proof.Machine
end

