-- ==== Sys2Proof/Machine/MeterOps.lean ====
section
/-! DEFINITION. Electricity metering: decimation, corrections, cycles, energy, records, harmonics and the quick view
(chapter 9). -/
namespace Sys2Proof.Machine
open Sys2Proof

/-! ### The sealed payload in force (Tables 9.4 and 9.5) -/

/-- NVM area of the METER_SEAL payload. -/
def sealBase : Nat := nvmBase + 0x4000
/-- A field of the sealed payload. -/
def sealN (m : Memory) (o n : Nat) : Nat := m.readN (sealBase + o) n
/-- Decimation factor R of the first stage (R207). -/
def cicR (m : Memory) : Nat := if sealN m 6 1 = 0 then 384 else 192
/-- GAIN of an input. -/
def inGain (m : Memory) (k : Nat) : Rat := mkRat (sealN m (64 + 16 * k) 4) (2 ^ 30)
/-- OFFSET of an input. -/
def inOffset (m : Memory) (k : Nat) : Rat := mkRat (toSigned 32 (sealN m (68 + 16 * k) 4)) (2 ^ 31)
/-- FS of an input. -/
def inFs (m : Memory) (k : Nat) : Nat := sealN m (72 + 16 * k) 4
/-- TAU of an input. -/
def inTau (m : Memory) (k : Nat) : Int := toSigned 16 (sealN m (76 + 16 * k) 2)
/-- MODE of a voltage set: 0 unused, 1 STAR, 2 DELTA. -/
def setMode (m : Memory) (v : Nat) : Nat := sealN m (2624 + 16 * v) 1
/-- NOMINAL of a set. -/
def setNominal (m : Memory) (v : Nat) : Nat := sealN m (2625 + 16 * v) 1
/-- VLOSS of a set, in µV. -/
def setVloss (m : Memory) (v : Nat) : Nat := sealN m (2626 + 16 * v) 2 * 100000

/-- One point record of the sealed payload. -/
structure PtCfg where
  typ : Nat
  vset : Nat
  vsel : Nat
  core : Nat
  iIn : List Nat
  rev : Bool
  noload : Nat
  deriving DecidableEq, Repr

/-- The sealed record of a point. -/
def ptCfg (m : Memory) (p : Nat) : PtCfg :=
  let o := 2752 + 32 * p
  { typ := sealN m o 1, vset := sealN m (o + 1) 1, vsel := sealN m (o + 2) 1, core := sealN m (o + 3) 1
    iIn := [sealN m (o + 4) 1, sealN m (o + 5) 1, sealN m (o + 6) 1], rev := (sealN m (o + 7) 1).testBit 0
    noload := sealN m (o + 8) 2 }

/-- The point is in use (R219). -/
def PtCfg.used (c : PtCfg) : Bool := decide (1 ≤ c.typ) && decide (c.typ ≤ 3)

/-- A voltage an element may use: VkN, U12, U23, U31 by VSEL's codes, and U32 as code 6. -/
def lineV (star : Bool) (b : Nat) (x : Nat → Rat) (code : Nat) : Rat :=
  let v (k : Nat) := x (b + k)
  if star then
    match code with
    | 0 => v 0 | 1 => v 1 | 2 => v 2 | 3 => v 0 - v 1 | 4 => v 1 - v 2 | 5 => v 2 - v 0 | _ => v 2 - v 1
  else
    match code with
    | 3 => v 0 | 4 => - v 1 | 5 => v 1 - v 0 | 6 => v 1 | _ => 0

/-- The voltage inputs such a voltage is measured or derived from. -/
def lineInputs (star : Bool) (b code : Nat) : List Nat :=
  if star then
    match code with
    | 0 => [b] | 1 => [b + 1] | 2 => [b + 2] | 3 => [b, b + 1] | 4 => [b + 1, b + 2] | 5 => [b + 2, b] | _ => [b + 2, b + 1]
  else
    match code with
    | 3 => [b] | 4 => [b + 1] | 5 => [b, b + 1] | 6 => [b + 1] | _ => []

/-- The voltage codes of a point's elements (Table 9.1). -/
def PtCfg.volts (c : PtCfg) : List Nat :=
  match c.typ with
  | 1 => [c.vsel] | 2 => [0, 1, 2] | 3 => [3, 6, 5] | _ => []

/-- The current inputs a point's TYPE uses. -/
def PtCfg.currents (c : PtCfg) : List Nat :=
  match c.typ with
  | 1 => c.iIn.take 1 | 2 => c.iIn | 3 => c.iIn.take 2 | _ => []

/-- First voltage input of the point's set. -/
def PtCfg.base (c : PtCfg) : Nat := 128 + 4 * c.vset

/-- The inputs a point uses (R219). -/
def PtCfg.inputs (m : Memory) (c : PtCfg) : List Nat :=
  c.currents ++ c.volts.flatMap (lineInputs (setMode m c.vset == 1) c.base) ++ [c.base]

/-- Elements that count for power and energy (R205). -/
def PtCfg.energyElems (c : PtCfg) : Nat := match c.typ with | 1 => 1 | 3 => 2 | _ => 3

/-- Element voltages and currents of a sample (Table 9.1, R212). -/
def PtCfg.elems (m : Memory) (c : PtCfg) (x : Nat → Rat) : List (Rat × Rat) :=
  let star := setMode m c.vset == 1
  let sg (r : Rat) : Rat := if c.rev then -r else r
  let i (k : Nat) : Rat := sg (x (c.iIn.getD k 0))
  let us := c.volts.map (lineV star c.base x)
  let is := match c.typ with | 1 => [i 0] | 2 => [i 0, i 1, i 2] | 3 => [i 0, i 1, -(i 0 + i 1)] | _ => []
  us.zip is

/-- S_FS of a point, in µV·µA (R213). -/
def PtCfg.sfs (m : Memory) (c : PtCfg) : Rat :=
  let star := setMode m c.vset == 1
  let fv (code : Nat) : Nat := ((lineInputs star c.base code).map (inFs m)).sum
  mkRat (((c.volts.zip c.currents).take c.energyElems).map (fun p => fv p.1 * inFs m p.2)).sum 2

/-! ### Events and records -/

/-- Set a METER_EVENT bit; an enabled rise sets ATTN_CAUSE.METER (R222). -/
def meterEvent (b : Nat) (s : State) : State :=
  if s.meter.event.testBit b then s
  else
    let s1 := { s with meter := { s.meter with event := s.meter.event + 2 ^ b } }
    if s.meter.eventEn.testBit b then setAttn attnMeter s1 else s1

/-- Change the serving firmware of a core. -/
def modMCore (c : Nat) (f : MeterCore → MeterCore) (s : State) : State :=
  { s with meter := { s.meter with cores := vmod s.meter.cores c f } }

/-- The serving firmware of a core. -/
def mcore (s : State) (c : Nat) : MeterCore := vget s.meter.cores c MeterCore.init

/-- A voltage set as a core follows it. -/
def vset (s : State) (c v : Nat) : VSetState := vget (mcore s c).sets v VSetState.init

/-- Change a set. -/
def modVset (c v : Nat) (f : VSetState → VSetState) (s : State) : State :=
  modMCore c (fun k => { k with sets := vmod k.sets v f }) s

/-- A point's state. -/
def pointSt (s : State) (p : Nat) : PointSt := vget s.meter.points p PointSt.init

/-- Change a point's state. -/
def modPoint (p : Nat) (f : PointSt → PointSt) (s : State) : State :=
  { s with meter := { s.meter with points := vmod s.meter.points p f } }

/-- SC_0 serves every point (R218). -/
def allOnZero (s : State) : Bool := s.mode.mode == .night || s.mode.mode == .update

/-- The points a core serves, by their CORE (R218). -/
def serves (s : State) (c core : Nat) : Bool := if allOnZero s then c == 0 else c == core

/-- The points in use. -/
def pointsUsed (m : Memory) : List Nat := (List.range 128).filter (fun p => (ptCfg m p).used)

/-- Bitmap of points. -/
def pointMap (l : List Nat) : Nat := (l.map (fun p => 2 ^ p)).sum

/-- The sealed record's address of a published point (Table 9.3). -/
def ptAddr (p : Nat) : Nat := sramBase + 0x390000 + 128 * p

/-- A field of a published point. -/
def ptN (s : State) (p o n : Nat) : Nat := s.mem.readN (ptAddr p + o) n

/-- Write a field of a published point. -/
def ptPut (p o n v : Nat) (s : State) : State := { s with mem := s.mem.writeN (ptAddr p + o) n v }

/-- One gap record (R227, Table 9.7a). -/
def gapRec (cause : Nat) (start stop : Int) (pts : List Nat) (s : State) : State :=
  let s1 := appendLog (LogRec.plain 0x0301 ((stop - start) / 1000000).toNat
    (ofSigned 64 start + 2 ^ 64 * cause + 2 ^ 128 * pointMap pts)) s
  meterEvent 4 { s1 with meter := { s1.meter with gaps := satInc 16 s1.meter.gaps, lastGap := stop } }

/-! ### Decimation (R207) -/

/-- One modulator bit through the accumulators. -/
def Cic.bit (c : Cic) (b : Bool) : Cic :=
  let a1 := (c.a1 + if b then 1 else 2 ^ 32 - 1) % 2 ^ 32
  let a2 := (c.a2 + a1) % 2 ^ 32
  { c with a1 := a1, a2 := a2, a3 := (c.a3 + a2) % 2 ^ 32 }

/-- The decimated sum and the differences after it. -/
def Cic.out (c : Cic) : Int × Cic :=
  let y1 := sub32 c.a3 c.d1
  let y2 := sub32 y1 c.d2
  (toSigned 32 (sub32 y2 c.d3), { c with d1 := c.a3, d2 := y1, d3 := y2 })

/-- A sinc sum in Q1.31. -/
def cicSample (r : Nat) (sum : Int) : Int := satSigned 32 (nearestDiv (sum * 2 ^ 31) (r * r * r))

/-- The second stage's output from its last 511 inputs, newest first. -/
def firOut (h : List Int) : Int :=
  let c (j : Nat) : Int := toSigned 32 (Config.decimCoef (min j (510 - j))).toNat
  let acc := toSigned 64 (ofSigned 64 (((List.range 511).zip h).foldl (fun a p => a + c p.1 * p.2) 0))
  satSigned 32 (nearestDiv acc (2 ^ 31))

/-- One 32 kHz sample: `r` bits through the first stage; the Boolean tells |S| ≥ 0.98 R³ (R226). -/
def sinc32 (r : Nat) (c : Cic) (bits : List Bool) : Int × Bool × Cic :=
  let o := Cic.out (bits.foldl Cic.bit c)
  (cicSample r o.1, decide (98 * (r * r * r) ≤ 100 * o.1.natAbs), o.2)

/-- `n` output samples of one input from its modulator bits; missing bits are 0. -/
def decimateN (r : Nat) : Nat → InputHw → List Bool → List Int × Bool × InputHw
  | 0, h, _ => ([], false, h)
  | n + 1, h, bits =>
    let four := (List.range 4).foldl (fun (p : List Int × Bool × Cic × List Bool) _ =>
      let chunk := p.2.2.2.take r ++ List.replicate (r - (p.2.2.2.take r).length) false
      let o := sinc32 r p.2.2.1 chunk
      (o.1 :: p.1, p.2.1 || o.2.1, o.2.2, p.2.2.2.drop r)) (h.fir, false, h.cic, bits)
    let fir := four.1.take 511
    let rest := decimateN r n { cic := four.2.2.1, fir := four.1.take 510 } four.2.2.2
    (firOut fir :: rest.1, four.2.1 || rest.2.1, rest.2.2)

/-- Decimate a block of every input; a stuck input gives zeros (R226). -/
def decimate (s : State) (endTime : Int) (bits : List (List Bool)) : MBlock × State :=
  let r := cicR s.mem
  let outs := (List.range 160).map (fun k => decimateN r 80 (vget s.meter.inputs k { cic := Cic.init, fir := [] }) (bits.getD k []))
  let b : MBlock := { endTime := endTime
                      samples := (outs.zip (List.range 160)).map (fun p =>
                        if s.meter.stuck.testBit p.2 then List.replicate 80 0 else p.1.1) }
  let sat := maskOf (outs.map (fun o => o.2.1))
  let s1 := { s with meter := { s.meter with
    inputs := Vector.ofFn (fun (k : Fin 160) => (outs.getD k.val ([], false, ⟨Cic.init, []⟩)).2.2)
    sat := sat, blocks := add32 s.meter.blocks 1 } }
  (b, if sat = 0 then s1 else meterEvent 3 s1)

/-! ### Corrections (R209) -/

/-- 4-tap Lagrange interpolation of z delayed by 2 + TAU ÷ 65,536 samples, on z[n−1] to z[n−4]. -/
def lagrange (tau : Int) (z : List Rat) : Rat :=
  let d : Rat := 2 + mkRat tau 65536
  let h (k : Nat) : Rat := ((List.range 4).filter (· ≠ k)).foldl (fun a j => a * ((d - (j + 1 : Nat)) / (((k : Int) - (j : Int) : Int) : Rat))) 1
  sumR ((List.range 4).map (fun k => h k * z.getD k 0))

/-- One corrected sample of an input. -/
def correct (m : Memory) (k : Nat) (c : CorrState) (raw : Int) : Rat × CorrState :=
  let y : Rat := (inFs m k : Rat) * inGain m k * (mkRat raw (2 ^ 31) - inOffset m k)
  let z : Rat := y - c.y + (1 - mkRat 1 (2 ^ 14)) * c.z.getD 0 0
  (lagrange (inTau m k) c.z, { y := y, z := (z :: c.z).take 4 })

/-! ### Cycles -/

/-- Sum of x·e^(−j2πm ÷ N′) over samples numbered from 0. -/
def binSum (xs : List Rat) (n' : Rat) : Rat × Rat :=
  ((List.range xs.length).zip xs).foldl (fun a p =>
    let th := (p.1 : Rat) / n'
    (a.1 + p.2 * cosT th, a.2 - p.2 * sinT th)) (0, 0)

/-- Im(U · conj(I)) of two rms phasors formed over `n` samples (Table 9.2). -/
def imUI (u i : Rat × Rat) (n : Nat) : Rat := 2 * (u.2 * i.1 - u.1 * i.2) / ((n : Rat) * (n : Rat))

/-- The samples of a cycle. -/
def cycleSmps (s : State) (c : Nat) (t0 t1 : Rat) : List Smp := (mcore s c).hist.filter (fun x => t0 ≤ (x.t : Rat) && (x.t : Rat) < t1)

/-- Rms of a list of samples. -/
def rmsOf (xs : List Rat) : Rat := if xs.isEmpty then 0 else sqrtR (sumR (xs.map (fun x => x * x)) / xs.length)

/-- The second an instant falls in. -/
def secOf (t : Int) : Nat := (t / 1000000000).toNat

/-- The parts of a sample's interval by second: its own 125 µs about its instant, split at a whole second (R214). -/
def smpParts (t : Int) : List (Nat × Rat) :=
  let a := t - 62500
  let b := t + 62500
  let k := secOf b
  let cut : Int := (k : Int) * 1000000000
  if cut ≤ a then [(k, 1)] else if b ≤ cut then [(k - 1, 1)]
  else [(k - 1, mkRat (cut - a) 125000), (k, mkRat (b - cut) 125000)]

/-- µWh of one sample of 1 µV·µA. -/
def whFactor : Rat := mkRat 125 (36 * 10 ^ 14)

/-- What one cycle of one point gives: powers in µV·µA, and whether it adds energy (Table 9.2, R213). -/
structure CycleRes where
  p : Rat
  q : Rat
  sApp : Rat
  adds : Bool

/-- Powers of a cycle. -/
def cycleRes (m : Memory) (cf : PtCfg) (smps : List Smp) (n' : Rat) : CycleRes :=
  let n := smps.length
  let es := smps.map (fun x => cf.elems m (fun k => x.x.getD k 0))
  let us (e : Nat) := es.map (fun l => (l.getD e (0, 0)).1)
  let is (e : Nat) := es.map (fun l => (l.getD e (0, 0)).2)
  let el := List.range cf.energyElems
  let p := sumR (el.map (fun e => sumR ((us e).zipWith (· * ·) (is e)))) / n
  let q := sumR (el.map (fun e => imUI (binSum (us e) n') (binSum (is e) n') n))
  let sa := if cf.typ = 3 then sqrtR (p * p + q * q) else sumR (el.map (fun e => rmsOf (us e) * rmsOf (is e)))
  { p := p, q := q, sApp := sa, adds := !(decide (sa < mkRat cf.noload 1000000 * cf.sfs m)) }

/-- Energies of one sample in a cycle: import, export, Q1 to Q4, apparent (R213). -/
def smpEnergy (r : CycleRes) (ui : Rat) : List Rat :=
  if !r.adds then List.replicate 7 0
  else
    let a := ui * whFactor
    let qm := (if r.q < 0 then -r.q else r.q) * whFactor
    let quad := if 0 ≤ r.p then (if 0 ≤ r.q then 0 else 3) else (if 0 ≤ r.q then 1 else 2)
    [if 0 ≤ r.p then a else 0, if 0 ≤ r.p then 0 else -a] ++
      (List.range 4).map (fun k => if k = quad then qm else 0) ++ [r.sApp * whFactor]

/-- Add lists of rationals element by element. -/
def addL (a b : List Rat) : List Rat := a.zipWith (· + ·) b
/-- Scale a list. -/
def scaleL (k : Rat) (a : List Rat) : List Rat := a.map (k * ·)

/-- One sample of a cycle goes to its seconds and to the running totals (R213, R214). -/
def pointSmp (m : Memory) (cf : PtCfg) (r : CycleRes) (from? : Option Int) (x : Smp) (st : PointSt) : PointSt :=
  let es := cf.elems m (fun k => x.x.getD k 0)
  let ui := sumR ((es.take cf.energyElems).map (fun p => p.1 * p.2))
  let counts (k : Nat) : Bool := match from? with | some f => decide (f ≤ (k : Int) * 1000000000) | none => false
  (smpParts x.t).foldl (fun st kp =>
    let e := if counts kp.1 then scaleL kp.2 (smpEnergy r ui) else List.replicate 7 0
    let a := tgetD st.secs kp.1 SecAcc.init
    let own := secOf x.t = kp.1
    let a1 := { a with
      e := addL a.e e, w := a.w + kp.2 * 125000, n := if own then a.n + 1 else a.n
      u2 := if own then addL a.u2 ((es.map (fun p => p.1 * p.1)) ++ [0, 0]) else a.u2
      i2 := if own then addL a.i2 ((es.map (fun p => p.2 * p.2)) ++ [0, 0]) else a.i2
      loaded := a.loaded || r.adds }
    { st with residue := addL st.residue e, secs := tput kp.1 a1 st.secs }) st

/-- A quantity in µ-units rounded to milli-units of a record. -/
def milli (r : Rat) : Int := wholeOr Config.roundMeter r

/-- Per-second frequency of a set in mHz: whole cycles between the first and the last of the second's crossings. -/
def secFreq (s : State) (c v k : Nat) : Nat :=
  if (vset s c v).finv || (vset s c v).vloss then 0
  else match tget (vset s c v).ends k with
    | some (t1, t2, n) => if t2 ≤ t1 then 0 else (milli ((n : Rat) * 1000000000000 / (t2 - t1))).toNat
    | none => 0

/-- A second of a point is complete: its last-second fields are written (Table 9.3). -/
def finishSecond (c p k : Nat) (s : State) : State :=
  let cf := ptCfg s.mem p
  let st := pointSt s p
  let a := tgetD st.secs k SecAcc.init
  let later := (st.secs.filter (fun x => k < x.1)).foldl (fun b x => addL b x.2.e) (List.replicate 7 0)
  let regs := [16, 24, 32, 40, 48, 56, 64]
  let tot := (regs.zip (st.residue.zip later)).map (fun x => ((ptN s p x.1 8 : Rat) + x.2.1 - x.2.2).floor.toNat % 2 ^ 64)
  let gap := (mcore s c).gapSecs.contains k
  let secs : Rat := if gap then (if a.w = 0 then 1 else a.w / 1000000000) else 1
  let e (i : Nat) : Rat := a.e.getD i 0
  let mW (x : Rat) : Rat := x * 36 / 10 / secs
  let pw := mW (e 0 - e 1)
  let sw := mW (e 6)
  let qw := mW (e 2 + e 3 - e 4 - e 5)
  let rms (l : List Rat) (i : Nat) : Nat := if a.n = 0 then 0 else (milli (sqrtR (l.getD i 0 / a.n) / 1000)).toNat
  let pf : Int := if sw = 0 then 0 else milli (pw / sw * 32768)
  let pf16 : Int := if -32768 ≤ pf ∧ pf < 32768 then pf else Config.roundMeter (pw / sw * 32768)
  let flags := (ptN s p 12 4) % 16 + 16 * b2n gap + 32 * b2n (!a.loaded) + 64
  let s1 := s |> ptPut p 72 4 (ofSigned 32 (milli pw)) |> ptPut p 76 4 (ofSigned 32 (milli qw))
    |> ptPut p 80 4 (ofSigned 32 (milli sw)) |> ptPut p 84 2 (ofSigned 16 pf16) |> ptPut p 88 4 (secFreq s c cf.vset k)
    |> ptPut p 12 4 flags
  let s2 := (List.range 3).foldl (fun s i => s |> ptPut p (96 + 4 * i) 4 (rms a.u2 i) |> ptPut p (108 + 4 * i) 4 (rms a.i2 i)) s1
  modPoint p (fun st => { st with secs := st.secs.filter (fun x => k < x.1), secE := tot, count := add32 st.count 1,
                                  secEnd := (k + 1) * 1000000000 }) s2

/-- A cycle of a point. -/
def pointCycle (c p : Nat) (smps : List Smp) (n' t1 : Rat) (s : State) : State :=
  let cf := ptCfg s.mem p
  if smps.isEmpty then s
  else
    let r := cycleRes s.mem cf smps n'
    let s1 := modPoint p (fun st => smps.foldl (fun st x => pointSmp s.mem cf r s.meter.energyFrom x st) st) s
    let done := ((pointSt s1 p).secs.map (·.1)).filter (fun k => decide (((((k + 1) * 1000000000 + 62500 : Nat) : Int) : Rat) ≤ t1))
    done.foldl (fun s k => finishSecond c p k s) s1

/-- The core whose firmware reports a set: SC_0 unless every point on it is SC_1's. -/
def setOwner (s : State) (v : Nat) : Nat :=
  let l := (pointsUsed s.mem).filter (fun p => (ptCfg s.mem p).vset = v)
  if l.any (fun p => serves s 0 (ptCfg s.mem p).core) || l.isEmpty then 0 else 1

/-- Phase sequence of a cycle: reversed where V2N leads V1N, or U32 lags U12. -/
def seqReversed (m : Memory) (v : Nat) (smps : List Smp) (n' : Rat) : Bool :=
  let x (k : Nat) := binSum (smps.map (fun y => y.x.getD (128 + 4 * v + k) 0)) n'
  let im := imUI (x 1) (x 0) 1
  if setMode m v = 1 then decide (0 < im) else decide (im < 0)

/-- Close the cycle `[t0, t1)` of a set with length N′ in samples, for the points that `mine` admits. -/
def endCycle (c v : Nat) (mine : Nat → Bool) (t0 t1 n' : Rat) (crossing : Bool) (s : State) : State :=
  let smps := cycleSmps s c t0 t1
  let pts := (pointsUsed s.mem).filter (fun p => (ptCfg s.mem p).vset = v && mine (ptCfg s.mem p).core)
  let s1 := pts.foldl (fun s p => pointCycle c p smps n' t1 s) s
  let rev := if crossing then seqReversed s.mem v smps n' else (vset s c v).seqRev
  let k := secOf t1.floor
  let s2 := modVset c v (fun st => { st with
    seqRev := rev
    ends := if !crossing then st.ends else
      let ends := st.ends.filter (fun x => k ≤ x.1 + 2)
      match tget ends k with
      | none => tput k (t1, t1, 0) ends
      | some (a, _, n) => tput k (a, t1, n + 1) ends
    marks := if crossing && s.meter.harm.isSome then st.marks ++ [t1] else st.marks }) s1
  if rev && !(vset s c v).seqRev && setOwner s v == c then meterEvent 5 (appendLog (LogRec.plain 0x0304 v 0) s2) else s2

/-- Enter or leave voltage loss with its event and record (R211, R222, R223). -/
def setLoss (c v : Nat) (b : Bool) (s : State) : State :=
  if (vset s c v).vloss = b then s
  else
    let s1 := modVset c v (fun st => { st with vloss := b }) s
    if setOwner s v = c then meterEvent (if b then 0 else 1) (appendLog (LogRec.plain 0x0302 (v + 256 * b2n b) 0) s1) else s1

/-- The reference of a set over a span is below VLOSS. -/
def refLow (s : State) (c v : Nat) (t0 t1 : Rat) : Bool :=
  decide (rmsOf ((cycleSmps s c t0 t1).map (fun x => x.x.getD (128 + 4 * v) 0)) < (setVloss s.mem v : Rat))

/-- N′ lies within 115.9 to 188.2 samples. -/
def lenOk (n' : Rat) : Bool := decide (1159 ≤ n' * 10) && decide (n' * 10 ≤ 1882)

/-- Length of the next fixed cycle (R211). -/
def fixedLen (s : State) (c v : Nat) : Nat :=
  if setNominal s.mem v = 60 then (if (vset s c v).fixedPos % 3 = 2 then 134 else 133) else 160

/-- After a cycle of a set that was valid: it may become frequency-invalid. -/
def judgeCycle (c v : Nat) (t0 t1 n' : Rat) (s : State) : State :=
  let low := refLow s c v t0 t1
  let s1 := setLoss c v low s
  if low || !lenOk n' then modVset c v (fun st => { st with finv := true, good := 0, fixedPos := 0 }) s1 else s1

/-- One new sample of a set (R210, R211): `prev` is the sample before it. -/
def setSample (c v : Nat) (mine : Nat → Bool) (prev : Option Smp) (x : Smp) (s : State) : State :=
  if setMode s.mem v = 0 then s
  else
    let rf (y : Smp) : Rat := y.x.getD (128 + 4 * v) 0
    let t : Rat := x.t
    let cr : Option Rat := match prev with
      | some p => if x.t - p.t = 125000 && rf p < 0 && 0 ≤ rf x then some ((p.t : Rat) + 125000 * (-rf p) / (rf x - rf p)) else none
      | none => none
    let st := vset s c v
    match st.start with
    | none => modVset c v (fun st => { st with start := some t }) s
    | some t0 =>
      if !(st.finv || st.vloss) then
        match cr with
        | some z =>
          if st.cross.isNone then modVset c v (fun st => { st with start := some z, cross := some z }) s
          else
            let n' := (z - t0) / 125000
            let s1 := judgeCycle c v t0 z n' (endCycle c v mine t0 z n' true s)
            modVset c v (fun st => { st with start := some z, cross := some z }) s1
        | none =>
          let n' := (t - t0) / 125000
          if n' * 10 ≤ 1882 then s
          else
            let s1 := judgeCycle c v t0 t n' (if st.cross.isNone then s else endCycle c v mine t0 t n' false s)
            modVset c v (fun st => { st with start := some t }) s1
      else
        let e := t0 + 125000 * (fixedLen s c v : Rat)
        let s1 := if e ≤ t then
            let low := refLow s c v t0 e
            let s2 := endCycle c v mine t0 e (fixedLen s c v) false s
            modVset c v (fun st => { st with start := some e, fixedPos := st.fixedPos + 1 }) (if low then setLoss c v true s2 else s2)
          else s
        match cr with
        | none => s1
        | some z =>
          let ok := match st.cross with | some y => lenOk ((z - y) / 125000) && !refLow s c v y z | none => false
          let good := if ok then st.good + 1 else 0
          let s2 := modVset c v (fun st => { st with cross := some z, good := good }) s1
          if good < 10 then s2
          else
            let t0' := (vset s2 c v).start.getD z
            let s3 := if t0' < z then endCycle c v mine t0' z ((z - t0') / 125000) false s2 else s2
            modVset c v (fun st => { st with finv := false, good := 0, start := some z }) (setLoss c v false s3)

/-! ### Blocks (R208, R212, R215) -/

/-- Live FLAGS bits 0–3 of a point. -/
def liveFlags (s : State) (c : Nat) (cf : PtCfg) : Nat :=
  let st := vset s c cf.vset
  let ins := cf.inputs s.mem
  b2n st.vloss + 2 * b2n (st.finv || st.vloss) + 4 * b2n (ins.any (fun i => s.meter.stuck.testBit i)) +
    8 * b2n (ins.any (fun i => s.meter.sat.testBit i))

/-- Publish a point at the end of a block, under its sequence lock (R215, R216). -/
def publishPoint (c p : Nat) (endTime : Int) (s : State) : State :=
  let st := pointSt s p
  let regs := [16, 24, 32, 40, 48, 56, 64]
  let whole (r : Rat) : Int := max 0 r.floor
  let s1 := (regs.zip st.residue).foldl (fun s x => ptPut p x.1 8 ((ptN s p x.1 8 + (whole x.2).toNat) % 2 ^ 64) s) s
  let s2 := s1 |> ptPut p 0 8 (ofSigned 64 endTime) |> ptPut p 8 4 (add32 (ptN s p 8 4) 2)
    |> ptPut p 12 4 (ptN s p 12 4 / 16 * 16 + liveFlags s c (ptCfg s.mem p))
  modPoint p (fun st => { st with residue := st.residue.map (fun r => r - (whole r : Rat)) }) s2

/-- Samples no longer needed by an open cycle, a crossing or an analysis are dropped. -/
def trimHist (c : Nat) (s : State) : State :=
  let k := mcore s c
  let keep := (k.sets.toList.flatMap (fun st => (st.start.toList ++ st.cross.toList))) ++
    (match s.meter.harm with | some h => [((h.since : Int) : Rat)] | none => [])
  let lo := keep.foldl (fun a x => if x < a then x else a) (match k.hist.getLast? with | some x => (x.t : Rat) | none => 0)
  modMCore c (fun k => { k with hist := k.hist.filter (fun x => decide (lo - 125000 ≤ (x.t : Rat))) }) s

/-- One sample time of a block on a core. -/
def blockSample (c : Nat) (mine : Nat → Bool) (b : MBlock) (j : Nat) (s : State) : State :=
  let t : Int := b.endTime - 62500 - 125000 * (79 - (j : Int))
  let k := mcore s c
  let prev := k.hist.getLast?
  let out := (List.range 160).map (fun i => correct s.mem i (k.corr.getD i { y := 0, z := [0, 0, 0, 0] }) ((b.samples.getD i []).getD j 0))
  let x : Smp := { t := t, x := out.map (·.1) }
  let s1 := modMCore c (fun k => { k with corr := out.map (·.2), hist := k.hist ++ [x] }) s
  (List.range 8).foldl (fun s v => setSample c v mine prev x s) s1

/-- The instant from which energy is added, once a first sample is processed (R229). -/
def noteFirst (b : MBlock) (s : State) : State :=
  match s.meter.energyFrom with
  | some _ => s
  | none =>
    let t0 := b.endTime - 62500 - 125000 * 79
    { s with meter := { s.meter with energyFrom := some ((t0 + 1999999999) / 1000000000 * 1000000000) } }

/-- The metering-start gap record (R229). -/
def noteStart (b : MBlock) (s : State) : State :=
  match s.meter.energyFrom with
  | some f =>
    if s.meter.startLogged || b.endTime < f then s
    else
      let s1 := gapRec 3 (min s.meter.lastGap f) f (pointsUsed s.mem) s
      { s1 with meter := { s1.meter with startLogged := true } }
  | none => s

/-- A core's firmware processes one block. -/
def processBlock (c : Nat) (mine : Nat → Bool) (b : MBlock) (s : State) : State :=
  if (pointsUsed s.mem).isEmpty then s
  else
    let s1 := (List.range 80).foldl (fun s j => blockSample c mine b j s) (noteFirst b s)
    let pts := (pointsUsed s.mem).filter (fun p => mine (ptCfg s.mem p).core)
    noteStart b (trimHist c (pts.foldl (fun s p => publishPoint c p b.endTime s) s1))

/-- The core takes blocks: its island is On or in Duty (R208, R160). -/
def coreTakes (s : State) (c : Nat) : Bool :=
  ((isl s (islSC c)).st == .on || (isl s (islSC c)).st == .duty) && !(vget s.cores c CoreState.init).dfault

/-- Deliver every block that waits for a core, oldest first. -/
def meterDeliver (c : Nat) (s : State) : State :=
  let l := vget s.meter.wait c []
  let s1 := { s with meter := { s.meter with wait := vput s.meter.wait c [] } }
  if allOnZero s then
    if !coreTakes s 0 then s
    else if c = 1 then l.foldl (fun s b => processBlock 1 (fun core => core == 1) b s) s1
    else
      let s2 := l.foldl (fun s b => processBlock 0 (fun _ => true) b s) s1
      if l.isEmpty then s2 else modMCore 1 (fun _ => mcore s2 0) s2
  else if coreTakes s c then l.foldl (fun s b => processBlock c (fun core => core == c) b s) s1
  else s

/-- A block is lost to a core (R227): its points' seconds carry a gap. -/
def loseBlock (c : Nat) (cause : Nat) (log : Bool) (endTime : Int) (s : State) : State :=
  let ks := [secOf (endTime - 10000000), secOf (endTime - 1)].eraseDups
  let s1 := modMCore c (fun k => { k with gapSecs := (k.gapSecs.filter (fun x => ks.any (fun y => y ≤ x + 2))) ++ ks }) s
  if log then gapRec cause (endTime - 10000000) endTime ((pointsUsed s.mem).filter (fun p => serves s c (ptCfg s.mem p).core)) s1 else s1

/-- Queue a block for a core; a fifth takes the oldest one's place, which is a gap (R208). -/
def queueBlock (c : Nat) (b : MBlock) (s : State) : State :=
  let l := vget s.meter.wait c []
  match l with
  | o :: rest =>
    if l.length < 4 then { s with meter := { s.meter with wait := vput s.meter.wait c (l ++ [b]) } }
    else
      let s1 := { s with meter := { s.meter with wait := vput s.meter.wait c (rest ++ [b]), dropped := satInc 16 s.meter.dropped } }
      loseBlock c 2 true o.endTime s1
  | [] => { s with meter := { s.meter with wait := vput s.meter.wait c [b] } }

/-- The end of a 10 ms block (R208, R227, R229). -/
def blockDelivery (endTime : Int) (bits : List (List Bool)) (ecc : Bool) (s : State) : State :=
  if (isl s islNIGHT).st ≠ .on then s
  else
    let d := decimate s endTime bits
    let s1 := d.2
    let cs := if allOnZero s then [0] else [0, 1]
    if !s.meter.running || (pointsUsed s.mem).isEmpty then s1
    else if s.meter.refLoss.isSome then cs.foldl (fun s c => loseBlock c 1 false endTime s) s1
    else if ecc then cs.foldl (fun s c => loseBlock c 4 (c == 0) endTime s) s1
    else meterDeliver 0 (meterDeliver 1 (cs.foldl (fun s c => queueBlock c d.1 s) s1))

/-- A delivery answered RETRY is repeated (R208). -/
def deliveryRetry (s : State) : State := if (isl s islNIGHT).st ≠ .on then s else meterDeliver 0 (meterDeliver 1 s)

/-- An input becomes stuck, or ends being so (R226). -/
def inputStuck (i : Nat) (on : Bool) (s : State) : State :=
  if (isl s islNIGHT).st ≠ .on || s.meter.stuck.testBit i == on then s
  else
    let s1 := appendLog (LogRec.plain 0x0303 (i + 256 * b2n on) 0) { s with meter := { s.meter with stuck := setBitN s.meter.stuck i on } }
    if on then meterEvent 2 s1 else s1

/-- REFCLK is lost: the gap begins (R227). -/
def meterRefLoss (s : State) : State :=
  if !s.meter.running || s.meter.refLoss.isSome then s
  else { s with meter := { s.meter with refLoss := some s.time.centre } }

/-- The relock completes: the gap is recorded (R227). -/
def meterRefBack (s : State) : State :=
  match s.meter.refLoss with
  | none => s
  | some t => gapRec 1 t s.time.centre (pointsUsed s.mem) { s with meter := { s.meter with refLoss := none } }

/-! ### The seal (R219, R220) -/

/-- What R220 compares of a point. -/
def ptKey (c : PtCfg) : Nat × Nat × Nat × List Nat × Bool := (c.typ, c.vset, c.vsel, c.iIn, c.rev)

/-- The points whose totals a new payload restarts (R220). -/
def sealChanged (old new : Memory) : List Nat :=
  (List.range 128).filter (fun p =>
    let a := ptCfg old p
    let b := ptCfg new p
    (a.used || b.used) && ptKey a != ptKey b)

/-- Restart a point's totals and increment its EPOCH; what they have not been credited with stays owed to the
ledgers (R244). -/
def restartPoint (p : Nat) (s : State) : State :=
  let regs := [16, 24, 32, 40, 48, 56, 64]
  let st := pointSt s p
  let tot := (regs.zip st.residue).map (fun x => (ptN s p x.1 8 + x.2.floor.toNat) % 2 ^ 64)
  let rest := match vget s.ldg.credited p none with
    | none => List.replicate 7 0
    | some (ep, old) => if ep = ptN s p 92 4 then tot.zipWith (fun a b => (a + 2 ^ 64 - b) % 2 ^ 64) old else tot
  let s1 := regs.foldl (fun s o => ptPut p o 8 0 s) s
  modPoint p (fun _ => { PointSt.init with owed := st.owed.zipWith (· + ·) rest }) (ptPut p 92 4 (add32 (ptN s p 92 4) 1) s1)

/-- A METER_SEAL commit point, with the memory before it (R220). -/
def sealApplied (old : Memory) (s : State) : State :=
  let l := sealChanged old s.mem
  let s1 := l.foldl (fun s p => restartPoint p s) s
  let s2 := { s1 with meter := { s1.meter with
    harm := none, harmResult := if s1.meter.harm.isSome then .abort else s1.meter.harmResult } }
  appendLog (LogRec.plain 0x0305 s.consent.sealCount (pointMap l)) (meterEvent 7 s2)

/-- The checks of R219 on a payload's bytes. -/
def sealOk (p : List Byte) : Bool :=
  let n (o k : Nat) := le p o k
  let used (q : Nat) : Bool := decide (1 ≤ n (2752 + 32 * q) 1) && decide (n (2752 + 32 * q) 1 ≤ 3)
  let pts := List.range 128
  let typ (q : Nat) := n (2752 + 32 * q) 1
  let vs (q : Nat) := n (2753 + 32 * q) 1
  let iIn (q k : Nat) := n (2756 + 32 * q + k) 1
  let nI (q : Nat) := match typ q with | 1 => 1 | 3 => 2 | 2 => 3 | _ => 0
  let curr (q : Nat) := (List.range (nI q)).map (iIn q)
  let all := (pts.filter used).flatMap curr
  let mode (v : Nat) := n (2624 + 16 * v) 1
  let cfg (q : Nat) : PtCfg := { typ := typ q, vset := vs q, vsel := n (2754 + 32 * q) 1, core := 0, iIn := (List.range 3).map (iIn q), rev := false, noload := 0 }
  let ins (q : Nat) := (cfg q).currents ++ (cfg q).volts.flatMap (lineInputs (mode (vs q) == 1) (cfg q).base) ++ [(cfg q).base]
  p.length == 6848 && n 0 4 == 0x4D534C31 && n 4 2 == 1 && decide (n 6 1 ≤ 1) && n 7 1 == 0 &&
  (List.range 8).all (fun k => decide (n (8 + k) 1 ≤ 15)) && zeroBytes p 24 40 &&
  (List.range 160).all (fun k => decide (n (64 + 16 * k + 14) 1 ≤ 7) && n (64 + 16 * k + 15) 1 == 0 && n (64 + 16 * k + 12) 2 != 0x8000) &&
  (List.range 8).all (fun v => decide (mode v ≤ 2) && (mode v == 0 || n (2625 + 16 * v) 1 == 50 || n (2625 + 16 * v) 1 == 60) &&
    zeroBytes p (2628 + 16 * v) 12) &&
  pts.all (fun q => decide (typ q ≤ 3) && decide (vs q ≤ 7) &&
    (if typ q = 1 then decide (n (2754 + 32 * q) 1 ≤ 5) else n (2754 + 32 * q) 1 == 0) && decide (n (2755 + 32 * q) 1 ≤ 1) &&
    (!used q || (List.range 3).all (fun k => if k < nI q then decide (iIn q k ≤ 127) else iIn q k == 0xFF)) &&
    decide (n (2759 + 32 * q) 1 ≤ 1) && n (2762 + 32 * q) 2 == 0 && zeroBytes p (2768 + 32 * q) 16) &&
  decide (all.eraseDups.length = all.length) &&
  (pts.filter used).all (fun q => mode (vs q) != 0 && (typ q != 2 || mode (vs q) == 1) &&
    (typ q != 1 || decide (3 ≤ n (2754 + 32 * q) 1) || mode (vs q) == 1) &&
    (ins q).all (fun k => n (64 + 16 * k) 4 != 0 && n (72 + 16 * k) 4 != 0))

/-! ### Harmonics (R217, R483) -/

/-- Cycles of a window. -/
def harmK (s : State) (p : Nat) : Nat := if setNominal s.mem (ptCfg s.mem p).vset = 60 then 12 else 10

/-- The core that serves a point now. -/
def servingCore (s : State) (p : Nat) : Nat := if allOnZero s then 0 else (ptCfg s.mem p).core

/-- An MQ_HARM write with START = 1: refused, or the analysis runs. -/
def harmStart (p : Nat) (s : State) : Status × State :=
  let cf := ptCfg s.mem p
  let c := servingCore s p
  let st := vset s c cf.vset
  if s.meter.harm.isSome || !cf.used || st.finv || st.vloss || allOnZero s then
    (.refused, { s with meter := { s.meter with harmResult := if s.meter.harm.isSome then s.meter.harmResult else .refused } })
  else
    let since : Int := match (mcore s c).hist.getLast? with | some x => x.t | none => 0
    let s1 := modVset c cf.vset (fun st => { st with marks := [] }) s
    (.ok, { s1 with meter := { s1.meter with harm := some ⟨p, since⟩, harmPoint := p, harmResult := .busy } })

/-- The Harmonic result area (Table 19.7). -/
def harmBase : Nat := sramBase + 0x394000

/-- The squared rms magnitude and the phasor sums of a signal at h. -/
def harmBin (xs : List Rat) (h : Nat) (n' : Rat) : Rat × Rat × Rat :=
  let b := if h = 0 then (sumR xs, 0) else binSum xs (n' / h)
  (2 * (b.1 * b.1 + b.2 * b.2) / ((xs.length : Rat) * xs.length), b.1, b.2)

/-- The bytes of one signal's harmonics. -/
def harmSignal (xs : List Rat) (present : Bool) (n' : Rat) (f : Rat × Rat) : List Byte :=
  (List.range 64).flatMap (fun h =>
    if !present then List.replicate 8 0
    else
      let b := harmBin xs h n'
      leBytes 4 (milli (sqrtR b.1 / 1000)).toNat ++
        leBytes 4 (if h = 0 then 0 else ofSigned 32 (clampInt (-180000) 180000 (Config.phaseMdeg b.2.1 b.2.2 f.1 f.2 h))))

/-- THD of a signal in 0.001 %. -/
def harmThd (xs : List Rat) (present : Bool) (n' : Rat) : Nat :=
  let m1 := (harmBin xs 1 n').1
  if !present || m1 = 0 then 0
  else (milli (sqrtR (sumR ((List.range 62).map (fun k => (harmBin xs (k + 2) n').1)) / m1) * 100000)).toNat

/-- The analysis publishes its result area once its window is complete (R217, R483). -/
def harmDone (s : State) : State :=
  match s.meter.harm with
  | none => s
  | some h =>
    let cf := ptCfg s.mem h.point
    let c := servingCore s h.point
    let k := harmK s h.point
    let marks := (vset s c cf.vset).marks.filter (fun z => decide ((h.since : Rat) < z))
    match marks.head?, marks[k]? with
    | some t0, some t1 =>
      let smps := cycleSmps s c t0 t1
      let n' := (t1 - t0) / 125000 / k
      let sig (i : Nat) : List Rat := smps.map (fun x => let e := (cf.elems s.mem (fun j => x.x.getD j 0)).getD (i / 2) (0, 0); if i % 2 = 0 then e.1 else e.2)
      let has (i : Nat) : Bool := decide (i / 2 < cf.volts.length)
      let f := binSum (sig 0) n'
      let bytes := leBytes 8 t0.floor.toNat ++ leBytes 4 (add32 (s.mem.readN (harmBase + 8) 4) 2) ++
        [BitVec.ofNat 8 h.point, BitVec.ofNat 8 k, BitVec.ofNat 8 cf.typ, 0] ++ leBytes 8 t1.floor.toNat ++
        leBytes 4 (milli (8000000 / n')).toNat ++ List.replicate 36 0 ++
        (List.range 6).flatMap (fun i => leBytes 4 (harmThd (sig i) (has i) n')) ++ List.replicate 40 0 ++
        (List.range 6).flatMap (fun i => harmSignal (sig i) (has i) n' f)
      meterEvent 6 { s with mem := s.mem.writeBytes harmBase bytes
                            meter := { s.meter with harm := none, harmResult := .ok } }
    | _, _ => s

/-- Entry to NIGHT or UPDATE abandons an analysis. -/
def harmAbort (s : State) : State :=
  if s.meter.harm.isSome then { s with meter := { s.meter with harm := none, harmResult := .abort } } else s

/-! ### The quick view (R221, R472) -/

/-- NIGHT is fenced or in reset. -/
def nightDown (s : State) : Bool := (isl s islNIGHT).fence.isSome || (isl s islNIGHT).st != .on

/-- Copy the selected point's record into the quick view. -/
def quickCopy (s : State) : State :=
  let p := s.meter.sel
  let st := pointSt s p
  let q : QuickView :=
    { seq := st.count, flags := ptN s p 12 4 % 128, time := st.secEnd
      ui := Vector.ofFn (fun (i : Fin 3) => packWord [(32, ptN s p (96 + 4 * i.val) 4), (0, ptN s p (108 + 4 * i.val) 4)])
      pq := packWord [(32, ptN s p 72 4), (0, ptN s p 76 4)]
      spf := packWord [(32, ptN s p 80 4), (16, ptN s p 84 2), (0, ofSigned 16 (milli (mkRat (ptN s p 88 4) 10)))]
      e := Vector.ofFn (fun (i : Fin 7) => st.secE.getD i.val 0) }
  { s with meter := { s.meter with quick := q } }

/-- A committed MQ_SEL write. -/
def mqSelWrite (w : Word) (s : State) : Status × State :=
  if nightDown s then (.busy, s)
  else (.ok, quickCopy { s with meter := { s.meter with sel := bits w 6 0, hold := bit w 8 } })

/-- The update after each second. -/
def quickUpdate (s : State) : State := if s.meter.hold || nightDown s then s else quickCopy s

/-- Write a metering register of the host map by its offset from 0x600. -/
def meterWrite (o : Nat) (w : Word) (s : State) : Status × State :=
  if o = 0 then mqSelWrite w s
  else if o ≠ 0x78 && o ≠ 0x80 && o ≠ 0x88 then (.ok, s)
  else if nightDown s then (.busy, s)
  else if o = 0x78 then
    (if bit w 16 then harmStart (bits w 6 0) s else (.ok, { s with meter := { s.meter with harmPoint := bits w 6 0 } }))
  else if o = 0x80 then (.ok, { s with meter := { s.meter with event := s.meter.event - Nat.land s.meter.event (bits w 7 0) } })
  else (.ok, { s with meter := { s.meter with eventEn := bits w 7 0 } })

/-- Read a metering register of the host map by its offset from 0x600 (Table 9.6). -/
def meterHostRead (o : Nat) (s : State) : Word :=
  let q := s.meter.quick
  if o = 0 then packWord [(8, b2n s.meter.hold), (0, s.meter.sel)]
  else if o = 0x08 then packWord [(32, q.seq), (0, q.flags)]
  else if o = 0x10 then BitVec.ofNat 64 q.time
  else if o = 0x18 || o = 0x20 || o = 0x28 then vget q.ui ((o - 0x18) / 8) 0
  else if o = 0x30 then q.pq
  else if o = 0x38 then q.spf
  else if 0x40 ≤ o && o ≤ 0x70 then BitVec.ofNat 64 (vget q.e ((o - 0x40) / 8) 0)
  else if o = 0x78 then packWord [(60, statusCode s.meter.harmResult), (0, s.meter.harmPoint)]
  else if o = 0x80 then BitVec.ofNat 64 s.meter.event
  else if o = 0x88 then BitVec.ofNat 64 s.meter.eventEn
  else 0

/-- Read the metering status block. -/
def meterRead (o : Nat) (s : State) : Option Word :=
  let m := s.meter
  if o = 0 then some (packWord [(32, m.blocks), (16, m.dropped), (0, m.gaps)])
  else if 0x08 ≤ o && o ≤ 0x18 then some (BitVec.ofNat 64 (m.stuck / 2 ^ (64 * ((o - 8) / 8))))
  else if 0x20 ≤ o && o ≤ 0x30 then some (BitVec.ofNat 64 (m.sat / 2 ^ (64 * ((o - 0x20) / 8))))
  else if o = 0x38 then
    some (packWord ((List.range 8).map (fun v => let st := vset s (setOwner s v) v
      (8 * v, b2n st.vloss + 2 * b2n (st.finv || st.vloss) + 4 * b2n st.seqRev))))
  else if 0x1000 ≤ o && o < 0x1800 then some (BitVec.ofNat 64 (Config.decimCoef ((o - 0x1000) / 8)).toNat)
  else none

/-! ### Resets, modes and bring-up -/

/-- NIGHT leaves reset: its own registers take their reset values. -/
def meterReset (s : State) : State :=
  { s with meter := { MeterState.init with lastGap := s.meter.lastGap, points := s.meter.points, cores := s.meter.cores } }

/-- SC_0 or SC_1 restarts: its firmware resumes each point's totals from the published record (R228). -/
def meterCoreReset (c : Nat) (s : State) : State :=
  let s1 := modMCore c (fun _ => MeterCore.init) s
  { s1 with meter := { s1.meter with
    points := Vector.ofFn (fun (p : Fin 128) =>
      let st := vget s1.meter.points p.val PointSt.init
      if serves s c (ptCfg s.mem p.val).core then { st with residue := List.replicate 7 0, secs := [] } else st) } }

/-- Bring-up step 8 starts processing (R229). -/
def meterStart (s : State) : State :=
  if s.meter.running then s else { s with meter := { s.meter with running := true, energyFrom := none, startLogged := false } }

/-- DORMANT entry stops metering. -/
def meterDormant (s : State) : State :=
  { s with meter := { MeterState.init with lastGap := s.time.centre } }

end Sys2Proof.Machine
end

