-- ==== Sys2Proof/Machine/LedgerOps.lean ====
section
/-! DEFINITION. Pulse inputs, M-Bus, sensors, heat, ledgers and snapshots (chapter 10). -/
namespace Sys2Proof.Machine
open Sys2Proof

/-! ### Tables (Table 10.7) -/

/-- Base of the ledger block. -/
def ldgBase : Nat := blockBase 6
/-- A field of the tables in force. -/
def lt (s : State) (o n : Nat) : Nat := s.ldg.tabs.readN o n
/-- The tables as written in the block, by offset. -/
def ldgTables (s : State) : Memory :=
  (s.mem.filter (fun c => ldgBase + 0x1000 ≤ c.1 && c.1 < ldgBase + 0x28000)).map (fun c => (c.1 - ldgBase, c.2))

/-- Change the ledger block. -/
def modLdg (f : LedgerState → LedgerState) (s : State) : State := { s with ldg := f s.ldg }

/-- A ledger is in use in the map in force. -/
def ldgUsed (s : State) (i : Nat) : Bool := lt s (0x8000 + 32 * i + 17) 1 == 1
/-- The ledgers in use: those whose IN_USE byte is listed and 1. -/
def ldgList (s : State) : List Nat :=
  (s.ldg.tabs.filter (fun c => 0x8000 ≤ c.1 && c.1 % 32 == 17 && c.2 == 1)).map (fun c => (c.1 - 0x8000) / 32)

/-- Address of a live ledger (Table 10.3). -/
def ldgAddr (i : Nat) : Nat := sramBase + 0x3A0000 + 128 * i
/-- A field of a live ledger. -/
def ldgN (s : State) (i o n : Nat) : Nat := s.mem.readN (ldgAddr i + o) n
/-- Write a field of a live ledger. -/
def ldgPut (i o n v : Nat) (s : State) : State := { s with mem := s.mem.writeN (ldgAddr i + o) n v }
/-- Set bits of a ledger's FLAGS. -/
def ldgFlag (i b : Nat) (s : State) : State := ldgPut i 5 1 (setBitN (ldgN s i 5 1) b true) s
/-- Add to a ledger register, modulo 2^64 (R231), with the time of the update. -/
def ldgAdd (i o v : Nat) (s : State) : State :=
  if v = 0 then s else ldgPut i 112 8 s.time.centre (ldgPut i o 8 ((ldgN s i o 8 + v) % 2 ^ 64) s)

/-! ### Calendar and local time (R245, R246) -/

/-- Calendar time in ns since 2000-01-01. -/
def calNs (s : State) : Int :=
  if s.time.centreValid then (s.time.centre : Int) + s.ldg.calOffset else (s.time.rtcSec : Int) * 1000000000 + s.time.rtcNs

/-- Local time in seconds since 2000-01-01, for a calendar instant. -/
def localOf (s : State) (ns : Int) : Nat := ((ns + s.ldg.loc.offset * 60000000000) / 1000000000).toNat

/-- Local time now, in seconds. -/
def localSec (s : State) : Nat := localOf s (calNs s)

/-- Year, month and day of a day number counted from 2000-01-01, on the Gregorian calendar. -/
def civil (d : Nat) : Nat × Nat × Nat :=
  let z := d + 730425
  let era := z / 146097
  let doe := z % 146097
  let yoe := (doe - doe / 1460 + doe / 36524 - doe / 146096) / 365
  let doy := doe - (365 * yoe + yoe / 4 - yoe / 100)
  let mp := (5 * doy + 2) / 153
  let day := doy - (153 * mp + 2) / 5 + 1
  let mon := if mp < 10 then mp + 3 else mp - 9
  (yoe + era * 400 + (if mon ≤ 2 then 1 else 0), mon, day)

/-- Weekday of a day number, Monday 0. -/
def weekday (d : Nat) : Nat := (d + 5) % 7

/-- Day type of a local day in a calendar: a matching special date, or the weekday map (R246). -/
def dayType (s : State) (cal day : Nat) : Nat :=
  let b := 0x4000 + 512 * cal
  let c := civil day
  let hit := (List.range 32).find? (fun k =>
    let o := b + 136 + 4 * k
    (lt s o 1 == 0 || lt s o 1 + 2000 == c.1) && lt s (o + 1) 1 == c.2.1 && lt s (o + 2) 1 == c.2.2)
  match hit with
  | some k => lt s (b + 136 + 4 * k + 3) 1
  | none => lt s (b + weekday day) 1

/-- The tariff in force at a local second (R246). -/
def tariffAt (s : State) (cal sec : Nat) : Nat :=
  let minute := sec / 60 % 1440
  let b := 0x4000 + 512 * cal + 8 + 32 * dayType s cal (sec / 86400)
  (List.range 8).foldl (fun t j =>
    if lt s (b + 4 * j) 2 ≠ 0xFFFF && lt s (b + 4 * j) 2 ≤ minute && !(0 < j && lt s (b + 4 * j) 2 == 0) then lt s (b + 4 * j + 2) 1 % 4 else t) 0

/-- The tariff of a ledger's calendar at the start of the second that has just ended. -/
def tariffNow (s : State) (i : Nat) : Nat := tariffAt s (lt s (0x8000 + 32 * i + 16) 1 % 16) (localSec s - 1)

/-! ### Notices -/

/-- Post a ledger notice; a queue that does not take it drops it. -/
def ldgNotice (typ kind idx x : Nat) (s : State) : State :=
  if !s.ldg.noticeEn then s
  else
    let r := qEnqueue s.ldg.noticeQ (leBytes 1 typ ++ leBytes 1 kind ++ leBytes 2 idx ++ leBytes 4 0 ++ leBytes 8 x) s
    if r.1 == .ok then r.2 else modLdg (fun l => { l with noticeLost := true }) s

/-! ### Pulse inputs (R233, R234) -/

/-- A pulse channel. -/
def pulse (s : State) (k : Nat) : PulseChan := vget s.ldg.pulses k PulseChan.init
/-- Change a pulse channel. -/
def modPulse (k : Nat) (f : PulseChan → PulseChan) (s : State) : State :=
  modLdg (fun l => { l with pulses := vmod l.pulses k f }) s
/-- MODE of a channel. -/
def pulseMode (s : State) (k : Nat) : Nat := lt s (0x1000 + 16 * k + 4) 1 % 4
/-- QTY of a channel. -/
def pulseQty (s : State) (k : Nat) : Nat := lt s (0x1000 + 16 * k + 4) 1 / 16 % 8
/-- The channel is the B input of a QUAD pair, whose own MODE is ignored. -/
def pulseIsB (s : State) (k : Nat) : Bool := k % 2 == 1 && pulseMode s (k - 1) == 2

/-- A debounced rising edge. -/
def pulseEdge (k : Nat) (bHigh : Bool) (t : Nat) (s : State) : State :=
  if (isl s islNIGHT).st ≠ .on || pulseIsB s k then s
  else match pulseMode s k with
    | 1 => modPulse k (fun c => { c with fwd := add32 c.fwd 1 }) s
    | 2 => if k % 2 = 0 then modPulse k (fun c => if bHigh then { c with rev := add32 c.rev 1 } else { c with fwd := add32 c.fwd 1 }) s else s
    | 3 => modPulse k (fun c => { c with gateN := c.gateN + 1, gateFirst := if c.gateN = 0 then t else c.gateFirst, gateLast := t }) s
    | _ => s

/-- A FREQ channel's gate ends: whole periods over their span, in mHz. -/
def pulseGate (k : Nat) (s : State) : State :=
  if (isl s islNIGHT).st ≠ .on || pulseIsB s k || pulseMode s k ≠ 3 then s
  else modPulse k (fun c => { c with
    freq := if c.gateN < 2 || c.gateLast ≤ c.gateFirst then 0
      else (milli (mkRat ((c.gateN - 1) * 1000000000000) (c.gateLast - c.gateFirst))).toNat
    gateN := 0, gateFirst := 0, gateLast := 0 }) s

/-- One channel's second (R234). -/
def pulseCredit (k : Nat) (s : State) : State :=
  let c := pulse s k
  let net : Int := (sub32 c.fwd c.lastFwd : Int) - (sub32 c.rev c.lastRev : Int)
  let q : Rat := mkRat (lt s (0x1000 + 16 * k) 4) 256 * net
  let s1 := modPulse k (fun c => { c with lastFwd := c.fwd, lastRev := c.rev }) s
  if pulseIsB s k || pulseMode s k = 0 || pulseMode s k = 3 then s1
  else
    let i := lt s (0x1000 + 16 * k + 8) 2 % 4096
    let acc := c.acc + q
    match pulseQty s k with
    | 5 =>
      let v := if acc < 0 then 0 else acc
      modPulse k (fun c => { c with vol := v, acc := acc - v }) s1
    | 0 => s1
    | qty =>
      let whole : Nat := acc.floor.toNat
      let o := if qty = 1 then 64 else if qty = 2 then 72 else if qty = 3 then 8 + 8 * tariffNow s i else 88
      let s2 := ldgAdd i o whole (modPulse k (fun c => { c with acc := acc - (whole : Rat) }) s1)
      if net < 0 && !(ldgN s i 5 1).testBit 5 then ldgFlag i 5 (appendLog (LogRec.plain 0x0315 k 0) s2) else s2

/-- Every channel's second. -/
def pulseSecond (s : State) : State :=
  if (isl s islNIGHT).st ≠ .on then s else (List.range 64).foldl (fun s k => pulseCredit k s) s

/-! ### Ledgers (R243, R244, R247) -/

/-- Increments of a point since they were last credited (R244). -/
def pointIncr (s : State) (p : Nat) : List Nat :=
  let now := (pointSt s p).secE
  match vget s.ldg.credited p none with
  | none => List.replicate 7 0
  | some (ep, old) => if ep = ptN s p 92 4 then now.zipWith (fun a b => (a + 2 ^ 64 - b) % 2 ^ 64) old else now

/-- One source of a ledger (R244). -/
def creditSource (i j : Nat) (s : State) : State :=
  let o := 0x8000 + 32 * i + 4 * j
  let p := lt s o 1
  if 128 ≤ p then s
  else
    let inc := (pointIncr s p).zipWith (· + ·) (pointSt s p).owed
    let f : Rat := mkRat (lt s (o + 1) 3) 1000000
    let c := tgetD s.ldg.carry (4 * i + j) (List.replicate 4 0)
    let tot := addL c ([0, 1, 2, 5].map (fun k => f * ((inc.getD k 0 : Nat) : Rat)))
    let w := tot.map (fun r => r.floor.toNat)
    let s1 := modLdg (fun l => { l with carry := tput (4 * i + j) (tot.zipWith (fun r n => r - (n : Nat)) w) l.carry }) s
    let s2 := s1 |> ldgAdd i (8 + 8 * tariffNow s i) (w.getD 0 0) |> ldgAdd i 40 (w.getD 1 0)
      |> ldgAdd i 48 (w.getD 2 0) |> ldgAdd i 56 (w.getD 3 0)
    if (ptN s p 12 4).testBit 4 then ldgFlag i 1 s2 else s2

/-- The electricity credits of a second. -/
def ledgerSecond (s : State) : State :=
  if (isl s islNIGHT).st ≠ .on then s
  else
    let s1 := (ldgList s).foldl (fun s i => (List.range 4).foldl (fun s j => creditSource i j s) s) s
    let s2 := modLdg (fun l => { l with credited := Vector.ofFn (fun (p : Fin 128) => some (ptN s p.val 92 4, (pointSt s p.val).secE)) }) s1
    { s2 with meter := { s2.meter with points := s2.meter.points.map (fun p => { p with owed := List.replicate 7 0 }) } }

/-- NVM copy of a ledger (Table 19.5). -/
def ldgNvm (i : Nat) : Nat := nvmBase + 0x40000 + 128 * i

/-- Commit every ledger in use to NVM (R243). -/
def ledgerCommit (s : State) : State :=
  if (isl s islNIGHT).st ≠ .on then s
  else { s with mem := (ldgList s).foldl (fun m i => m.writeBytes (ldgNvm i) (s.mem.bytes (ldgAddr i) 128)) s.mem }

/-- ΣE_IMP of a ledger over all tariffs. -/
def sumImp (s : State) (i : Nat) : Nat := ((List.range 4).map (fun t => ldgN s i (8 + 8 * t) 8)).sum

/-- A demand interval ends (R247); local settings that wait take effect (R251). -/
def demandEnd (s : State) : State :=
  if (isl s islNIGHT).st ≠ .on then s
  else
    let d := s.ldg.loc.demand
    let loc : Int := calNs s + s.ldg.loc.offset * 60000000000
    let len : Int := (d : Int) * 60000000000
    let start : Int := (s.time.centre : Int) - (if d = 0 then 0 else loc % len + len)
    let one (s : State) (i : Nat) : State :=
      match tget s.ldg.demBase i with
      | none => s
      | some b =>
        let dem := (sumImp s i + 2 ^ 64 - b % 2 ^ 64) % 2 ^ 64 * 60 / (d * 1000000)
        if d ≠ 0 && ldgN s i 96 4 < dem then
          ldgPut i 100 4 ((start - (ldgN s i 104 8 : Int)) / 60000000000).toNat (ldgPut i 96 4 dem s)
        else s
    let s1 := (ldgList s).foldl one s
    modLdg (fun l => { l with
      demBase := (ldgList s1).map (fun i => (i, sumImp s1 i)), loc := l.locNext.getD l.loc, locNext := none }) s1

/-! ### Snapshots (R248, R249, R253) -/

/-- Base of a slot: pairs DAY and PERIOD, slots A and B. -/
def snapSlot (period slotB : Bool) : Nat :=
  nvmBase + (if period then (if slotB then 0x243000 else 0x1C2000) else (if slotB then 0x141000 else 0x0C0000))

/-- SEQ of a slot, 0 where its header is not valid. -/
def snapSeqOf (s : State) (b : Nat) : Nat :=
  if s.mem.readN b 4 == 0x4C534E31 && s.mem.readN (b + 5) 1 == 1 then s.mem.readN (b + 24) 8 else 0

/-- The older slot of a pair is B. -/
def olderB (s : State) (period : Bool) : Bool := decide (snapSeqOf s (snapSlot period true) < snapSeqOf s (snapSlot period false))

/-- The ledgers at T, each record in use stamped with T. -/
def snapData (t : Nat) (s : State) : Memory :=
  let m := (s.mem.filter (fun c => ldgAddr 0 ≤ c.1 && c.1 < ldgAddr 4096)).map (fun c => (c.1 - ldgAddr 0, c.2))
  (ldgList s).foldl (fun m i => m.writeN (128 * i + 112) 8 t) m

/-- Take a snapshot: the ledgers are frozen, committed to NVM, and the slot's header loses VALID. -/
def takeSnap (kind : Nat) (s : State) : State :=
  let period := kind == 2
  let pend := s.ldg.snaps.any (fun j => (j.kind == 2) == period)
  let b := if pend then !(olderB s period) else olderB s period
  let job : SnapJob := { kind := kind, slotB := b, t := s.time.centre, localSec := localSec s, data := snapData s.time.centre s }
  let s1 := ledgerCommit s
  modLdg (fun l => { l with snaps := l.snaps ++ [job] }) { s1 with mem := s1.mem.write (snapSlot period b + 5) 0 }

/-- The start of a new period after a PERIOD snapshot (R248). -/
def newPeriod (s : State) : State :=
  (ldgList s).foldl (fun s i => s |> ldgPut i 96 4 0 |> ldgPut i 100 4 0 |> ldgPut i 5 1 (ldgN s i 5 1 % 2)
    |> ldgPut i 6 2 ((ldgN s i 6 2 + 1) % 65536) |> ldgPut i 104 8 s.time.centre) s

/-- The DAILY instant: once per local date, when the local minute has reached DAILY_MIN (R248). -/
def dailySnap (s : State) : State :=
  let sec := localSec s
  let day := sec / 86400
  let fresh := match s.ldg.lastDaily with | none => true | some d => decide (d < day)
  if (isl s islNIGHT).st ≠ .on || !fresh || sec / 60 % 1440 < s.ldg.loc.daily then s
  else
    let s1 := takeSnap 1 (modLdg (fun l => { l with lastDaily := some day }) s)
    if (civil day).2.2 = s.ldg.loc.billDay then newPeriod (takeSnap 2 s1) else s1

/-- A committed SNAP (R253). -/
def interimSnap (s : State) : State :=
  if !s.ldg.snaps.isEmpty then modLdg (fun l => { l with snapResult := .busy }) s
  else takeSnap 3 (modLdg (fun l => { l with snapResult := .ok }) s)

/-- A snapshot's slot is written and its header made valid, and the CONCENTRATOR is told (R249, R456). -/
def snapDone (s : State) : State :=
  match s.ldg.snaps with
  | [] => s
  | j :: rest =>
    let b := snapSlot (j.kind == 2) j.slotB
    let area := s.mem.clear b (b + 524352)
    let recs : Memory := j.data.foldl (fun (m : Memory) c => m.write (b + 64 + c.1) c.2) area
    let digest := shaN (j.data.bytes 0 524288)
    let seq := s.ldg.snapSeq + 1
    let hdr := leBytes 4 0x4C534E31 ++ leBytes 1 j.kind ++ leBytes 1 1 ++ leBytes 2 0 ++ leBytes 8 j.t ++ leBytes 8 j.localSec ++
      leBytes 8 seq ++ leBytes 32 digest
    let s1 := modLdg (fun l => { l with snaps := rest, snapSeq := seq }) { s with mem := recs.writeBytes b hdr
                                                                                  ecc := s.ecc.filter (fun a => a < b || b + 524352 ≤ a) }
    ldgNotice 1 j.kind 0 j.t (appendLog { LogRec.plain 0x0310 (j.kind + 256 * b2n j.slotB) 0 with digest := digest }
      (snapReport j.kind j.t digest s1))

/-- The snapshot of DORMANT entry: one in progress is completed, then the INTERIM one is written (R253, R56). -/
def snapDormant (s : State) : State :=
  let s1 := s.ldg.snaps.foldl (fun s _ => snapDone s) s
  snapDone (takeSnap 3 s1)

/-! ### APPLY (R251) -/

/-- Offsets of the tables, in the order they are checked, with what each must satisfy. -/
def ldgChecks (m : Memory) (dailyOk : Bool) : List (Nat × Bool) :=
  let f (o n : Nat) : Nat := m.readN o n
  let z (o n : Nat) : Bool := f o n == 0
  let pulse (k : Nat) : Bool :=
    let o := 0x1000 + 16 * k
    z (o + 10) 6 && f (o + 4) 1 / 4 % 4 == 0 && f (o + 4) 1 / 128 == 0 &&
    (f (o + 4) 1 % 4 == 0 || (decide (f (o + 4) 1 / 16 % 8 ≤ 5) && decide (f (o + 8) 2 ≤ 4095) &&
      (f (o + 4) 1 % 4 != 2 || k % 2 == 0) && (f (o + 4) 1 % 4 != 3 || (decide (1 ≤ f (o + 5) 1) && decide (f (o + 5) 1 ≤ 100)))))
  let spi (k : Nat) : Bool :=
    let o := 0x1400 + 16 * k
    f o 1 / 8 % 16 == 0 && f (o + 8) 1 / 128 == 0 && (f (o + 8) 1).testBit 3 == false &&
    (f o 1 / 128 == 0 || (decide (f (o + 1) 1 ≤ 3) && decide (4 ≤ f (o + 2) 1) && decide (f (o + 3) 1 ≤ 3) &&
      decide (f (o + 8) 1 % 8 ≤ 4) && decide (f (o + 8) 1 / 16 % 8 ≤ 4) && decide (f (o + 9) 1 ≤ 31) &&
      decide (1 ≤ f (o + 10) 1) && decide (f (o + 10) 1 ≤ 32) && decide (f (o + 11) 1 ≤ 1)))
  let heat (k : Nat) : Bool :=
    let o := 0x1600 + 16 * k
    z (o + 8) 8 && f (o + 3) 1 / 4 % 32 == 0 &&
    (f (o + 3) 1 / 128 == 0 || (decide (f o 1 < 64) && decide (f (o + 1) 1 < 32) && decide (f (o + 2) 1 < 32) &&
      decide (f (o + 4) 2 ≤ 4095) && decide (f (o + 6) 2 ≤ 3000) && f (0x1000 + 16 * f o 1 + 4) 1 / 16 % 8 == 5))
  let slave (k : Nat) : Bool :=
    let o := 0x2000 + 16 * k
    z (o + 14) 2 && f (o + 9) 1 / 4 % 32 == 0 &&
    (f (o + 9) 1 % 4 == 0 || (decide (f (o + 9) 1 % 4 ≤ 2) && decide (f (o + 10) 2 ≤ 4095) &&
      ((decide (1 ≤ f (o + 8) 1) && decide (f (o + 8) 1 ≤ 250)) || f (o + 8) 1 == 253)))
  let prim := ((List.range 500).filter (fun k => f (0x2009 + 16 * k) 1 % 4 != 0 && f (0x2008 + 16 * k) 1 != 253)).map
    (fun k => (f (0x2009 + 16 * k) 1 / 128, f (0x2008 + 16 * k) 1))
  let used := (List.range 4096).filter (fun i => f (0x8000 + 32 * i + 17) 1 == 1)
  let cals := (used.map (fun i => f (0x8000 + 32 * i + 16) 1)).eraseDups
  let cal (c : Nat) : Bool :=
    let b := 0x4000 + 512 * c
    (List.range 7).all (fun k => decide (f (b + k) 1 ≤ 3)) && z (b + 7) 1 && z (b + 264) 248 &&
    (List.range 4).all (fun d =>
      let e (j : Nat) := f (b + 8 + 32 * d + 4 * j) 2
      e 0 == 0 && (List.range 7).all (fun j => e (j + 1) == 0xFFFF || decide (e j < e (j + 1)) && decide (e (j + 1) < 1440)) &&
      (List.range 8).all (fun j => e j == 0xFFFF || (decide (f (b + 8 + 32 * d + 4 * j + 2) 1 ≤ 3) && z (b + 8 + 32 * d + 4 * j + 3) 1))) &&
    (List.range 32).all (fun k => decide (f (b + 136 + 4 * k + 3) 1 ≤ 3))
  let ledger (i : Nat) : Bool :=
    let o := 0x8000 + 32 * i
    (List.range 4).all (fun j => f (o + 4 * j) 1 == 0xFF ||
      (decide (f (o + 4 * j) 1 ≤ 127) && decide (1 ≤ f (o + 4 * j + 1) 3) && decide (f (o + 4 * j + 1) 3 ≤ 1000000))) &&
    decide (f (o + 16) 1 ≤ 15)
  [(0, dailyOk), (0x10, (List.range 64).all pulse), (0x14, (List.range 32).all spi), (0x16, (List.range 32).all heat),
   (0x20, (List.range 500).all slave && decide (prim.eraseDups.length = prim.length)), (0x40, cals.all (fun c => 15 < c || cal c)),
   (0x80, (List.range 4096).all (fun i => decide (f (0x8000 + 32 * i + 17) 1 ≤ 1) && z (0x8000 + 32 * i + 18) 2 && z (0x8000 + 32 * i + 24) 8) &&
     used.all ledger)]

/-- LDG_LOCAL's fields. -/
def localCfg (w : Word) : LocalCfg := { offset := sbits w 15 0, daily := bits w 26 16, billDay := bits w 36 32, demand := bits w 47 40 }

/-- The local fields are within their ranges, and DAILY_MIN is a multiple of DEMAND_MIN. -/
def localOk (c : LocalCfg) : Bool :=
  [5, 10, 15, 30, 60].contains c.demand && decide (1 ≤ c.billDay) && decide (c.billDay ≤ 28) && decide (c.daily ≤ 1439) &&
  decide (-840 ≤ c.offset) && decide (c.offset ≤ 840) && c.daily % c.demand == 0

/-- An APPLY: every table is checked (R251). -/
def ldgApply (s : State) : State :=
  let m := ldgTables s
  let c := localCfg s.ldg.localReg
  match (ldgChecks m (localOk c)).find? (fun p => !p.2) with
  | some (at', _) => modLdg (fun l => { l with applyResult := .refused, refuseAt := at' }) s
  | none => modLdg (fun l => { l with applyResult := .busy, refuseAt := 0, next := some (m, c) }) s

/-- SHA-256 of the configuration tables, from 0x1000 to the end of the ledger map. -/
def tablesDigest (m : Memory) : Nat := shaN (m.bytes 0x1000 0x27000)

/-- The ledger records follow the map: TENANT_ID, CAL and IN_USE. -/
def mapLedgers (s : State) : State :=
  (List.range 4096).foldl (fun s i =>
    if ldgUsed s i then
      s |> ldgPut i 0 4 (lt s (0x8000 + 32 * i + 20) 4) |> ldgPut i 4 1 (lt s (0x8000 + 32 * i + 16) 1)
        |> ldgPut i 5 1 (setBitN (ldgN s i 5 1) 0 true)
    else if (ldgN s i 5 1).testBit 0 then ldgPut i 5 1 (setBitN (ldgN s i 5 1) 0 false) s else s) s

/-- Checked tables take effect (R251). -/
def ldgTakeEffect (s : State) : State :=
  match s.ldg.next with
  | none => s
  | some (m, c) =>
    let s1 := mapLedgers (modLdg (fun l => { l with tabs := m, next := none, applyResult := .ok
                                                    loc := if l.loc.demand = 0 then c else l.loc
                                                    locNext := if l.loc.demand = 0 then none else some c }) s)
    appendLog { LogRec.plain 0x0311 0 0 with digest := tablesDigest m } s1

/-! ### Sensors (R240, R241) -/

/-- R(T) of the Callendar–Van Dusen equation, in Ω, at a temperature in m°C. -/
def cvdR (r0 : Nat) (t : Int) : Rat :=
  let x : Rat := mkRat t 1000
  let a : Rat := mkRat 39083 10000000
  let b : Rat := -(mkRat 5775 10000000000)
  let c : Rat := -(mkRat 4183 1000000000000000)
  r0 * (1 + a * x + b * x * x + (if t < 0 then c * (x - 100) * x * x * x else 0))

/-- The largest whole m°C at or below a resistance, over `n` halvings from `lo`. -/
def cvdSearch (r0 : Nat) (r : Rat) : Nat → Int → Int
  | 0, lo => lo
  | n + 1, lo => cvdSearch r0 r n (if cvdR r0 (lo + (2 ^ n : Nat)) ≤ r then lo + (2 ^ n : Nat) else lo)

/-- A resistance converted to m°C, within ±1 m°C; none beyond −50 to 200 °C. -/
def rtdTemp (r0 : Nat) (r : Rat) : Option Int :=
  if r < cvdR r0 (-50000) || cvdR r0 200000 < r then none
  else
    let t := cvdSearch r0 r 18 (-50000)
    some (clampInt (-50000) 200000 (if cvdR r0 t = r then t else if Config.rtdUp r0 r then t + 1 else t))

/-- Begin or end a channel's sensor fault with its record (Table 10.5). -/
def spiFault (k : Nat) (b : Bool) (s : State) : State :=
  if (vget s.ldg.spi k ⟨0, 0, false⟩).fault = b then s
  else
    let s1 := modLdg (fun l => { l with spi := vmod l.spi k (fun c => { c with fault := b }) }) s
    let s2 := appendLog (LogRec.plain 0x0314 (k + 2 * 65536 + b2n b * 2 ^ 24) 0) s1
    if b then ldgNotice 4 2 k 0 s2 else s2

/-- One channel of a scan, with the bytes its device returned. -/
def spiRun (k : Nat) (reply : List Byte) (s : State) : State :=
  let o := 0x1400 + 16 * k
  let rd := lt s (o + 8) 1 / 16 % 8
  if lt s o 1 / 128 = 0 || rd = 0 then s
  else
    let d := ((List.range rd).foldl (fun a i => a * 256 + (reply.getD i 0).toNat) 0) / 2 ^ (lt s (o + 9) 1)
    let w := lt s (o + 10) 1
    let sg := lt s (o + 11) 1 == 1
    let code : Int := if sg then toSigned w d else (d % 2 ^ w : Nat)
    let sens := lt s (o + 3) 1
    let put (v : Int) (s : State) : State := modLdg (fun l => { l with spi := vmod l.spi k (fun c => { c with value := v, good := l.scanNo }) }) s
    if sens = 0 then put code s
    else
      let full : Int := ((2 ^ (if sg then w - 1 else w) : Nat) : Int)
      let r0 := if sens = 1 then 100 else if sens = 2 then 500 else 1000
      let r : Rat := mkRat (lt s (o + 12) 4) 1000 * mkRat code full.toNat
      if code = 0 || code = full - 1 then spiFault k true s
      else match rtdTemp r0 r with
        | none => spiFault k true s
        | some t => put t (spiFault k false s)

/-- One scan of the enabled channels in ascending index (R240). -/
def spiScan (replies : List (List Byte)) (s : State) : State :=
  if !islRuns s islIO then s
  else
    let s1 := modLdg (fun l => { l with scanNo := l.scanNo + 1 }) s
    (List.range 32).foldl (fun s k => spiRun k (replies.getD k []) s) s1

/-! ### Heat calculators (R242, R255) -/

/-- A channel's temperature, no older than two scans and without a fault. -/
def tempOf (s : State) (k : Nat) : Option Int :=
  let c := vget s.ldg.spi k ⟨0, 0, false⟩
  if c.fault || c.good = 0 || c.good + 2 < s.ldg.scanNo then none else some c.value

/-- Begin or end a calculator's source fault. -/
def heatFault (k i : Nat) (b : Bool) (s : State) : State :=
  if (vget s.ldg.heat k ⟨0, 0, 0, 0, false⟩).fault = b then s
  else
    let s1 := modLdg (fun l => { l with heat := vmod l.heat k (fun c => { c with fault := b }) }) s
    let s2 := appendLog (LogRec.plain 0x0314 (k + 3 * 65536 + b2n b * 2 ^ 24) 0) s1
    if b then ldgNotice 4 3 k 0 (ldgFlag i 2 s2) else s2

/-- One calculator's second. -/
def heatCalc (k : Nat) (s : State) : State :=
  let o := 0x1600 + 16 * k
  let fl := lt s (o + 3) 1
  if fl / 128 = 0 then s
  else
    let i := lt s (o + 4) 2 % 4096
    let v := (pulse s (lt s o 1)).vol
    match tempOf s (lt s (o + 1) 1), tempOf s (lt s (o + 2) 1) with
    | some tf, some tr =>
      let s1 := heatFault k i false s
      let tv := if fl % 2 = 1 then tf else tr
      let dq : Rat := v * mkRat 1 1000000 * Config.rho tv * (Config.enthalpy tf - Config.enthalpy tr)
      let dt : Int := lt s (o + 6) 2
      let h := vget s.ldg.heat k ⟨0, 0, 0, 0, false⟩
      if dt ≤ tf - tr then
        let a := h.accHeat + (if dq < 0 then 0 else dq)
        ldgAdd i 72 a.floor.toNat (modLdg (fun l => { l with heat := vmod l.heat k (fun c => { c with accHeat := a - a.floor }) }) s1)
      else if tf - tr ≤ -dt && fl / 2 % 2 = 1 then
        let a := h.accCool + (if dq < 0 then -dq else dq)
        ldgAdd i 80 a.floor.toNat (modLdg (fun l => { l with heat := vmod l.heat k (fun c => { c with accCool := a - a.floor }) }) s1)
      else modLdg (fun l => { l with heat := vmod l.heat k (fun c => { c with lowDt := c.lowDt + v }) }) s1
    | _, _ =>
      modLdg (fun l => { l with heat := vmod l.heat k (fun c => { c with faultVol := c.faultVol + v }) }) (heatFault k i true s)

/-- Every calculator's second; the volumes it used are spent. -/
def heatSecond (s : State) : State :=
  if (isl s islNIGHT).st ≠ .on then s
  else
    let s1 := (List.range 32).foldl (fun s k => heatCalc k s) s
    modLdg (fun l => { l with pulses := l.pulses.map (fun c => { c with vol := 0 }) }) s1

/-! ### M-Bus (R235 to R239, R254) -/

/-- A master. -/
def master (s : State) (m : Nat) : MbusMaster := vget s.ldg.masters m MbusMaster.init
/-- Change a master. -/
def modMaster (m : Nat) (f : MbusMaster → MbusMaster) (s : State) : State := modLdg (fun l => { l with masters := vmod l.masters m f }) s
/-- A slave. -/
def slaveOf (s : State) (k : Nat) : MbusSlave := tgetD s.ldg.slaves k MbusSlave.init
/-- Change a slave. -/
def modSlave (k : Nat) (f : MbusSlave → MbusSlave) (s : State) : State :=
  modLdg (fun l => { l with slaves := tput k (f (tgetD l.slaves k MbusSlave.init)) l.slaves }) s
/-- PRIMARY of a slave. -/
def primaryOf (s : State) (k : Nat) : Nat := lt s (0x2000 + 16 * k + 8) 1

/-- The sum modulo 256 of bytes. -/
def sum8 (l : List Byte) : Byte := l.foldl (· + ·) 0

/-- SND_NKE to an address. -/
def sndNke (a : Nat) : List Byte := let b := BitVec.ofNat 8 a; [0x10, 0x40, b, sum8 [0x40, b], 0x16]
/-- REQ_UD2 with FCV = 1. -/
def reqUd2 (fcb : Bool) (a : Nat) : List Byte :=
  let c : Byte := if fcb then 0x7B else 0x5B
  let b := BitVec.ofNat 8 a
  [0x10, c, b, sum8 [c, b], 0x16]
/-- The selection by secondary address. -/
def sndSelect (sec : List Byte) : List Byte :=
  let body := [0x53, 0xFD, 0x52] ++ sec
  [0x68, 0x0B, 0x0B, 0x68] ++ body ++ [sum8 body, 0x16]

/-- The telegram of the present stage. -/
def mbusTelegram (s : State) (m k : Nat) : List Byte :=
  match (master s m).stage with
  | .nke => sndNke (primaryOf s k)
  | .req => reqUd2 (slaveOf s k).fcb (primaryOf s k)
  | .sel | .selNke => sndSelect (leBytes 8 (lt s (0x2000 + 16 * k) 8))
  | .idle => []

/-- Send the present stage's telegram. -/
def mbusSend (m : Nat) (s : State) : State :=
  match (master s m).cur with
  | none => s
  | some k => modMaster m (fun x => { x with tx := mbusTelegram s m k, tries := x.tries + 1 }) s

/-- Enter a stage and send its telegram. -/
def mbusStage (m : Nat) (st : MbusStage) (s : State) : State := mbusSend m (modMaster m (fun x => { x with stage := st, tries := 0 }) s)

/-- The stage in which a slave's poll begins. -/
def firstStage (s : State) (k : Nat) : MbusStage :=
  match primaryOf s k == 253, (slaveOf s k).nke with
  | true, true => .sel | true, false => .selNke | false, true => .req | false, false => .nke

/-- The next slave of the round, or its end: then a search or a late round that waits starts. -/
def mbusNext (m : Nat) (s : State) : State :=
  match (master s m).todo with
  | k :: rest =>
    mbusStage m (firstStage s k) (modMaster m (fun x => { x with todo := rest, cur := some k, telegrams := 0, vals := MbusVals.init }) s)
  | [] => modMaster m (fun x => { x with cur := none, stage := .idle, searching := x.searching || x.searchDue, searchDue := false }) s

/-- The slaves of a master in use, ascending. -/
def slavesOf (s : State) (m : Nat) : List Nat :=
  (List.range 500).filter (fun k => let b := lt s (0x2000 + 16 * k + 9) 1; b % 4 ≠ 0 && b / 128 == m)

/-- Start a round. -/
def roundStart (m : Nat) (s : State) : State := mbusNext m (modMaster m (fun x => { x with todo := slavesOf s m, due := false }) s)

/-- A late round starts as soon as the master is free (R237). -/
def roundLate (m : Nat) (s : State) : State :=
  let x := master s m
  if x.due && x.cur.isNone && !x.searching then roundStart m s else s

/-- A poll round falls due (R237). -/
def pollRound (m : Nat) (s : State) : State :=
  let x := master s m
  if !x.en || !islRuns s islIO then s
  else if x.cur.isSome || x.searching then modMaster m (fun x => { x with due := true, lateCnt := satInc 16 x.lateCnt }) s
  else roundStart m s

/-- The slave's poll has failed (R235, R254). -/
def pollFailed (m k : Nat) (s : State) : State :=
  let i := lt s (0x2000 + 16 * k + 10) 2 % 4096
  let s1 := modSlave k (fun x => { x with failed := satInc 8 x.failed }) s
  let s2 := if (slaveOf s1 k).failed = 3 && (slaveOf s1 k).st ≠ 2 then
      ldgNotice 4 1 k 0 (appendLog (LogRec.plain 0x0314 (k + 65536 + 2 ^ 24) 0) (ldgFlag i 2 (modSlave k (fun x => { x with st := 2 }) s1)))
    else s1
  roundLate m (mbusNext m s2)

/-- No reply in time: a retry, or a failed poll (R235). -/
def replyTimeout (m : Nat) (s : State) : State :=
  let x := master s m
  match x.cur with
  | none => s
  | some k =>
    let s1 := modMaster m (fun x => { x with timeoutCnt := satInc 16 x.timeoutCnt }) s
    if x.tries ≤ x.retries then mbusSend m s1 else pollFailed m k s1

/-- A little-endian BCD field, with a sign in its top nibble. -/
def bcd (l : List Byte) : Int :=
  let v := ofLeBytes l
  let ds := (List.range (2 * l.length)).map (fun i => v / 16 ^ i % 16)
  let top := ds.getLast?.getD 0
  let body := if top = 15 then ds.dropLast else ds
  if body.all (· ≤ 9) then
    let n := body.foldr (fun (d a : Nat) => d + 10 * a) 0
    if top = 15 then -(n : Int) else n
  else Config.badBcd v

/-- Split off the leading extension bytes of a DIF or VIF: those up to the first with bit 7 clear. -/
def extBytes : Nat → List Byte → List Byte × List Byte
  | 0, l => ([], l)
  | _, [] => ([], [])
  | n + 1, b :: l => if b.getLsbD 7 then let r := extBytes n l; (b :: r.1, r.2) else ([b], l)

/-- Bytes of a record's data field, and of a variable-length field's own length byte. -/
def dataLen (code : Nat) (rest : List Byte) : Nat :=
  match code with
  | 1 | 2 | 3 | 4 => code
  | 5 => 4 | 6 => 6 | 7 => 8
  | 9 | 10 | 11 | 12 => code - 8
  | 14 => 6
  | 13 =>
    let v := (rest.headD 0).toNat
    1 + (if v < 0xC0 then v else if v < 0xE0 then v % 16 else if v < 0xF0 then v % 16 else 0)
  | _ => 0

/-- 10 to a whole power. -/
def pow10 (n : Int) : Rat := if 0 ≤ n then ((10 ^ n.toNat : Nat) : Rat) else mkRat 1 (10 ^ (-n).toNat)

/-- One parsed record (Table 10.2); an earlier reading of the same kind stays. -/
def takeRecord (vif : List Nat) (x : Int) (v : MbusVals) : MbusVals :=
  let r : Rat := x
  let en (q : Rat) : MbusVals := { v with energy := v.energy <|> some q }
  match vif with
  | [c] =>
    if c < 8 then en (r * 3600 * pow10 ((c : Int) - 3))
    else if c < 0x10 then en (r * pow10 ((c : Int) - 8))
    else if c < 0x18 then { v with vol := v.vol <|> some (x * ((10 ^ (c - 0x10) : Nat) : Int)) }
    else if 0x58 ≤ c && c < 0x5C then { v with flow := v.flow <|> some (r * pow10 ((c : Int) - 0x5B)) }
    else if 0x5C ≤ c && c < 0x60 then { v with ret := v.ret <|> some (r * pow10 ((c : Int) - 0x5F)) }
    else v
  | [0xFB, c] =>
    if c < 2 then en (r * 3600000000 * pow10 ((c : Int) - 1))
    else if 8 ≤ c && c < 10 then en (r * 1000000000 * pow10 ((c : Int) - 9))
    else v
  | [0xFD, 0x17] => { v with err := v.err <|> some x }
  | _ => v

/-- Parse data records, at most `n` of them; the Boolean tells that the telegram ended with DIF 0x1F (R237, R238). -/
def parseRecords : Nat → List Byte → MbusVals → MbusVals × Bool
  | 0, _, v => (v, false)
  | _, [], v => (v, false)
  | n + 1, d :: l, v =>
    if d = 0x0F then (v, false)
    else if d = 0x1F then (v, true)
    else if d = 0x2F then parseRecords n l v
    else
      let dife := if d.getLsbD 7 then extBytes 10 l else ([], l)
      let storage := d.getLsbD 6 || dife.1.any (fun b => b.toNat % 128 ≠ 0)
      match dife.2 with
      | [] => (v, false)
      | w :: r =>
        let vife := if w.getLsbD 7 then extBytes 10 r else ([], r)
        let text := if w.toNat % 128 = 0x7C then 1 + (vife.2.headD 0).toNat else 0
        let rest := vife.2.drop text
        let code := d.toNat % 16
        let len := dataLen code rest
        let data := rest.take len
        let vif : List Nat := if w.getLsbD 7 then w.toNat :: vife.1.map (·.toNat) else [w.toNat]
        let known := (code != 0 && decide (code ≤ 4)) || code == 6 || code == 7 || (decide (9 ≤ code) && decide (code ≤ 12)) || code == 14
        let x : Int := if code ≤ 7 then toSigned (8 * len) (ofLeBytes data) else bcd data
        let v1 := if known && !storage && d.toNat / 16 % 4 = 0 && data.length = len then takeRecord vif x v else v
        parseRecords n (rest.drop len) v1

/-- What a long frame is for a slave: rejected, not an accepted telegram, or its data records. -/
inductive FrameKind where
  | reject | other | data (records : List Byte)

/-- R235 and R236 on a long frame. -/
def frameKind (s : State) (k : Nat) (f : List Byte) : FrameKind :=
  let l := (f.getD 1 0).toNat
  let body := (f.drop 4).take l
  let sec := leBytes 8 (lt s (0x2000 + 16 * k) 8)
  let c := f.getD 4 0
  let ci := f.getD 6 0
  if f.getD 0 0 ≠ 0x68 || f.getD 3 0 ≠ 0x68 || f.getD 2 0 ≠ f.getD 1 0 || f.length ≠ l + 6 || f.getD (l + 5) 0 ≠ 0x16 then .reject
  else if sum8 body ≠ f.getD (l + 4) 0 then .reject
  else if (f.getD 5 0).toNat ≠ primaryOf s k then .reject
  else if (c ≠ 0x08 && c ≠ 0x18) || (ci ≠ 0x72 && ci ≠ 0x7A) then .other
  else if ci = 0x72 && !(sec.all (· == 0)) && (body.drop 3).take 8 ≠ sec then .reject
  else .data (body.drop (if ci = 0x72 then 15 else 7))

/-- What a poll credits: slave, increment and time of a WATER slave, for the LEAK stream (R239). -/
abbrev LeakInc := Option (Nat × Nat × Nat)

/-- Credit a slave's reading (R239). -/
def creditReading (k : Nat) (water : Bool) (x : Int) (s : State) : State × LeakInc :=
  let o := 0x2000 + 16 * k
  let i := lt s (o + 10) 2 % 4096
  let reg := if water then 64 else 72
  let set (s : State) : State := modSlave k (fun y => { y with base := some x }) s
  match (slaveOf s k).base with
  | none => (set s, none)
  | some b =>
    if x < b then
      (ldgFlag i 3 (appendLog (LogRec.plain 0x0312 k (ofSigned 64 b + 2 ^ 64 * ofSigned 64 x)) (set s)), none)
    else
      let inc := (x - b).toNat
      let maxStep := lt s (o + 12) 2 * (if water then 1000 else 1000000)
      let s1 := ldgAdd i reg inc (set s)
      let s2 := if maxStep ≠ 0 && maxStep < inc then ldgFlag i 4 (appendLog (LogRec.plain 0x0313 k inc) s1) else s1
      (s2, if water then some (k, inc, s.time.centre) else none)

/-- A slave's poll ends with a valid reading of its telegrams. -/
def pollOk (m k : Nat) (v : MbusVals) (s : State) : State × LeakInc :=
  let i := lt s (0x2000 + 16 * k + 10) 2 % 4096
  let water := lt s (0x2000 + 16 * k + 9) 1 % 4 == 1
  let wasFault := (slaveOf s k).st == 2
  let centi (r : Option Rat) (d : Int) : Int := match r with | some t => wholeOr Config.roundMbus (t * 100) | none => d
  let energyJ : Option Int := v.energy.map (wholeOr Config.roundMbus)
  let s1 := modSlave k (fun x => { x with
    time := s.time.centre, failed := 0, st := 1, vol := v.vol.getD x.vol, energy := energyJ.getD x.energy
    flow := centi v.flow x.flow, ret := centi v.ret x.ret, err := v.err.getD x.err }) s
  let s2 := if wasFault then appendLog (LogRec.plain 0x0314 (k + 65536) 0) s1 else s1
  let reading := if water then v.vol else energyJ
  let r := match reading with | some x => creditReading k water x s2 | none => (s2, none)
  let _ := i
  (roundLate m (mbusNext m (modMaster m (fun x => { x with okCnt := satInc 16 x.okCnt }) r.1)), r.2)

/-- A reply arrives (R235 to R238). -/
def mbusReply (m : Nat) (f : List Byte) (s : State) : State × LeakInc :=
  let x := master s m
  match x.cur with
  | none => (s, none)
  | some k =>
    match x.stage with
    | .idle => (s, none)
    | .selNke => (if f = [0xE5] then mbusStage m .nke s else s, none)
    | .nke =>
      (if f = [0xE5] then
        mbusStage m (if primaryOf s k = 253 then .sel else .req) (modSlave k (fun y => { y with nke := true, fcb := true }) s)
       else s, none)
    | .sel => (if f = [0xE5] then mbusStage m .req s else s, none)
    | .req =>
      if f.length < 6 then (s, none)
      else match frameKind s k f with
        | .other => (s, none)
        | .reject => (pollFailed m k (modMaster m (fun x => { x with rejectCnt := satInc 16 x.rejectCnt }) s), none)
        | .data recs =>
          let p := parseRecords 256 recs x.vals
          let s1 := modMaster m (fun y => { y with vals := p.1, telegrams := y.telegrams + 1 }) (modSlave k (fun y => { y with fcb := !y.fcb }) s)
          if p.2 && x.telegrams + 1 < 8 then (mbusStage m .req s1, none) else pollOk m k p.1 s1

/-- MBUS_CFG (Table 10.6); a SEARCH suspends polling once the running round has ended. -/
def mbusCfg (m : Nat) (w : Word) (s : State) : State :=
  let s1 := modMaster m (fun x => { x with pollS := clampNat 60 65535 (bits w 63 48), retries := min 4 (bits w 19 16), baud := bits w 10 8, en := bit w 0 }) s
  if !bit w 1 then s1
  else modMaster m (fun x => if x.cur.isNone then { x with searching := true } else { x with searchDue := true }) s1

/-- A secondary search ends, with the addresses found (R239). -/
def searchDone (m : Nat) (found : List Word) (s : State) : State :=
  if !(master s m).searching then s
  else
    let s1 := found.foldl (fun s a => ldgNotice 2 m 0 a.toNat s) s
    let s2 := ldgNotice 3 m found.length 0 (modMaster m (fun x => { x with searching := false }) s1)
    roundLate m (appendLog (LogRec.plain 0x0316 (256 * m + satTo 8 found.length) 0) s2)

/-! ### Registers (Table 10.6) -/

/-- MBUS_CFG as read. -/
def mbusCfgWord (x : MbusMaster) : Word := packWord [(48, x.pollS), (16, x.retries), (8, x.baud), (0, b2n x.en)]

/-- One published reading word of the block (offset from 0x3_0000). -/
def ldgPublished (o : Nat) (s : State) : Word :=
  if o < 0x400 then
    let c := pulse s (o / 16)
    if o % 16 = 0 then packWord [(32, c.rev), (0, c.fwd)] else BitVec.ofNat 64 c.freq
  else if o < 0x500 then BitVec.ofNat 64 (ofSigned 64 (vget s.ldg.spi ((o - 0x400) / 8) ⟨0, 0, false⟩).value)
  else if 0x1000 ≤ o && o < 0x1000 + 32 * 500 then
    let x := slaveOf s ((o - 0x1000) / 32)
    match (o - 0x1000) % 32 / 8 with
    | 0 => BitVec.ofNat 64 x.time
    | 1 => BitVec.ofNat 64 (ofSigned 64 x.vol)
    | 2 => BitVec.ofNat 64 (ofSigned 64 x.energy)
    | _ => packWord [(56, x.st), (48, x.failed), (32, ofSigned 16 x.err), (16, ofSigned 16 x.ret), (0, ofSigned 16 x.flow)]
  else 0

/-- Read a register of the ledger block; none = a table word held in memory. -/
def ldgRead (o : Nat) (s : State) : Option Word :=
  let l := s.ldg
  if o = 0 then some 0
  else if o = 0x08 then
    some (packWord [(60, statusCode l.applyResult), (56, statusCode l.snapResult), (48, l.refuseAt), (32, satTo 16 (ldgList s).length),
      (2, b2n (!s.time.centreValid)), (1, b2n l.noticeLost), (0, b2n (!l.snaps.isEmpty))])
  else if o = 0x10 then some (BitVec.ofNat 64 (ofSigned 64 l.calOffset))
  else if o = 0x18 then some l.localReg
  else if o = 0x20 || o = 0x28 then some (mbusCfgWord (master s ((o - 0x20) / 8)))
  else if o = 0x30 then some (BitVec.ofNat 64 l.scanMs)
  else if o = 0x38 || o = 0x40 then
    let x := master s ((o - 0x38) / 8)
    some (packWord [(48, x.okCnt), (32, x.timeoutCnt), (16, x.rejectCnt), (0, x.lateCnt)])
  else if o = 0x48 then some (packWord [(15, b2n l.noticeEn), (0, l.noticeQ)])
  else if o < 0x1000 then some 0
  else if 0x30000 ≤ o then some (ldgPublished (o - 0x30000) s)
  else none

/-- A fabric read of MBUS_STAT clears what it returned. -/
def ldgReadEffect (o : Nat) (s : State) : State :=
  if o = 0x38 || o = 0x40 then
    modMaster ((o - 0x38) / 8) (fun x => { x with okCnt := 0, timeoutCnt := 0, rejectCnt := 0, lateCnt := 0 }) s
  else s

/-- LDG_LOCAL as kept: reserved bits 0. -/
def localWord (w : Word) : Word := packWord [(40, bits w 47 40), (32, bits w 36 32), (16, bits w 26 16), (0, bits w 15 0)]

/-- Write LDG_CTL. -/
def ldgCtl (w : Word) (s : State) : State :=
  if bits w 63 56 ≠ 0x4C then s
  else
    let s1 := if bit w 0 then ldgApply s else s
    if bit w 1 then interimSnap s1 else s1

/-- Write a register of the ledger block. -/
def ldgWrite (o : Nat) (w : Word) (s : State) : State :=
  if o = 0 then ldgCtl w s
  else if o = 0x08 then modLdg (fun l => { l with noticeLost := l.noticeLost && !bit w 1 }) s
  else if o = 0x10 then modLdg (fun l => { l with calOffset := toSigned 64 w.toNat, calOffsetNvm := toSigned 64 w.toNat }) s
  else if o = 0x18 then modLdg (fun l => { l with localReg := localWord w, localNvm := localWord w }) s
  else if o = 0x20 || o = 0x28 then mbusCfg ((o - 0x20) / 8) w s
  else if o = 0x30 then modLdg (fun l => { l with scanMs := clampNat 100 10000 (bits w 15 0) }) s
  else if o = 0x48 then modLdg (fun l => { l with noticeEn := bit w 15, noticeQ := bits w 13 0 }) s
  else s

/-! ### Resets and bring-up (R256, R257) -/

/-- NIGHT leaves reset: the block's registers and hardware counters. -/
def ldgNightReset (s : State) : State :=
  modLdg (fun l => { LedgerState.init with
    calOffsetNvm := l.calOffsetNvm, localNvm := l.localNvm, snapSeq := l.snapSeq, tabs := l.tabs, loc := l.loc
    calOffset := l.calOffsetNvm, localReg := l.localNvm, credited := l.credited, carry := l.carry, slaves := l.slaves, lastDaily := l.lastDaily
    demBase := l.demBase }) s

/-- IO leaves reset: the masters and the sensor port start idle. -/
def ldgIoReset (s : State) : State :=
  modLdg (fun l => { l with masters := l.masters.map (fun x => { x with
    todo := [], cur := none, stage := .idle, tries := 0, telegrams := 0, due := false, searching := false, searchDue := false, tx := [] }) }) s

/-- The newest valid snapshot slot that holds a ledger without an error. -/
def newestSnap (s : State) (i : Nat) : Option Nat :=
  let good (b : Nat) : Bool := decide (0 < snapSeqOf s b) && !(s.ecc.any (fun a => b + 64 + 128 * i ≤ a + 7 && a < b + 64 + 128 * i + 128))
  let l := [snapSlot false false, snapSlot false true, snapSlot true false, snapSlot true true].filter good
  l.foldl (fun best b => match best with
    | none => some b
    | some c => if snapSeqOf s c < snapSeqOf s b then some b else best) none

/-- Load one live ledger from NVM, or from a snapshot where its NVM copy is bad (R256). -/
def ldgLoad (i : Nat) (s : State) : State :=
  let a := ldgNvm i
  if !(s.ecc.any (fun e => a ≤ e && e < a + 128)) then { s with mem := s.mem.writeBytes (ldgAddr i) (s.mem.bytes a 128) }
  else match newestSnap s i with
    | none => ldgFlag i 1 s
    | some b =>
      let s1 := ldgFlag i 1 { s with mem := s.mem.writeBytes (ldgAddr i) (s.mem.bytes (b + 64 + 128 * i) 128) }
      appendLog (LogRec.plain 0x0317 i (s.mem.readN (b + 8) 8)) s1

/-- Bring-up step 8: the tables are applied, and after a cold bring-up the live ledgers are loaded (R257). -/
def ldgStep8 (warm : Bool) (s : State) : State :=
  let s1 := modLdg (fun l => { l with calOffset := l.calOffsetNvm, localReg := l.localNvm }) s
  let s2 := ldgTakeEffect (ldgApply s1)
  if warm then s2
  else
    let s3 := (ldgList s2).foldl (fun s i => ldgLoad i s) s2
    modLdg (fun l => { l with
      pulses := Vector.replicate 64 PulseChan.init, slaves := [], credited := Vector.replicate 128 none
      demBase := (ldgList s3).map (fun i => (i, sumImp s3 i)) }) s3

/-- DORMANT entry loses everything but NVM. -/
def ldgDormant (s : State) : State :=
  modLdg (fun l => { LedgerState.init with calOffsetNvm := l.calOffsetNvm, localNvm := l.localNvm, snapSeq := l.snapSeq }) s

end Sys2Proof.Machine
end

