-- ==== Sys2Proof/Machine/LiftOps.lean ====
section
/-! DEFINITION. Lift: floor tables, stop lists and routes, calls, costs, dispatch cycles and DISPATCH messages (chapter 11). -/
namespace Sys2Proof.Machine
open Sys2Proof

/-! ### Records and tables -/

/-- A field of a group record in force. -/
def grpN (s : State) (g o n : Nat) : Nat := s.lift.tabs.readN (0x1400 + 64 * g + o) n
/-- IN_USE of a group. -/
def grpUsed (s : State) (g : Nat) : Bool := g < 16 && (grpN s g 0 1).testBit 0
/-- A group. -/
def grp (s : State) (g : Nat) : Group := vget s.lift.groups g Group.init
/-- Change a group. -/
def modGrp (g : Nat) (f : Group → Group) (s : State) : State := modLift (fun l => { l with groups := vmod l.groups g f }) s
/-- GROUP and SLOT of a car. -/
def carGroup (s : State) (c : Nat) : Nat := carN s c 0 1
def carSlot (s : State) (c : Nat) : Nat := carN s c 1 1
/-- The local cars of a group. -/
def groupCars (s : State) (g : Nat) : List Nat := (carsUsed s).filter (fun c => carGroup s c == g)
/-- The local car in a slot. -/
def slotCar (s : State) (g slot : Nat) : Option Nat := (groupCars s g).find? (fun c => carSlot s c == slot)

/-- LANDINGS of a floor table. -/
def flLandings (m : Memory) : Nat := m.readN 4 1
/-- LEVEL of a landing. -/
def flLevel (m : Memory) (j : Nat) : Int := toSigned 64 (m.readN (64 + 32 * j) 8)
/-- FLAGS of a landing. -/
def flFlags (m : Memory) (j : Nat) : Nat := m.readN (64 + 32 * j + 26) 1
/-- Sides served at a landing in service. -/
def flSides (m : Memory) (j : Nat) : Nat := if j < flLandings m && (flFlags m j).testBit 5 then flFlags m j % 4 else 0
/-- The landing with a flag. -/
def flFlagged (m : Memory) (b : Nat) : Option Nat := (List.range (flLandings m)).find? (fun j => (flFlags m j).testBit b)

/-- Base of a car's live floor table. -/
def liveFloor (c : Nat) : Nat := liftBase + 0x2000 + 0x1100 * c
/-- Base of a car's floor table in NVM (Table 19.5). -/
def nvmFloor (c : Nat) : Nat := nvmBase + 0x20000 + 0x1100 * c

/-! ### Events and cues -/

/-- An event on EVT_QID (R283); one the queue does not take is lost. -/
def liftEvent (c cause : Nat) (st : Status) (req : Nat) (s : State) : State :=
  let r := (Config.liftEventRest c cause).toNat
  (qEnqueue s.lift.evtQ (leBytes 1 r ++ leBytes 1 (statusCode st) ++ leBytes 6 (r / 256) ++ leBytes 8 req) s).2

/-- A cue for Bandstand: 0xF00 + 16c + k (chapter 15). -/
def liftCue (c k : Nat) (s : State) : State :=
  modLift (fun l => { l with
    cueSeq := add32 l.cueSeq 1, cues := l.cues ++ [(0xF00 + 16 * c + k, c, add32 l.cueSeq 1, s.time.centre)] }) s

/-! ### Stop lists and routes (R269, R270) -/

/-- The direction a call is for: up, down or none. -/
def callDir : StopKind → Option Bool
  | .up => some true | .down => some false | .pick u => some u | .car => none | .drop => none

/-- Landings without repeats, keeping the first. -/
def dedupN (l : List Nat) : List Nat := l.foldl (fun a x => if a.contains x then a else a ++ [x]) []

/-- Landings in rising or falling order of level. -/
def sortBy (lev : Nat → Int) (up : Bool) : List Nat → List Nat
  | [] => []
  | x :: t =>
    let rec ins (x : Nat) : List Nat → List Nat
      | [] => [x]
      | y :: r => if (if up then decide (lev x ≤ lev y) else decide (lev y ≤ lev x)) then x :: y :: r else y :: ins x r
    ins x (sortBy lev up t)

/-- The landings a list of calls visits: each call's landing, and a pickup's destination with it. -/
def visits (l : List StopCall) : List Nat :=
  dedupN (l.flatMap (fun c => match c.kind with | .pick _ => [c.landing, c.dest] | _ => [c.landing]))

/-- The order in which a car serves its stops: ahead in direction `up`, then the other direction, then what the first sweep
passed. Each stop carries its sweep, 0 to 2. -/
def routeOf (lev : Nat → Int) (ahead : Nat → Bool) (up : Bool) (calls : List StopCall) : List (Nat × Nat) :=
  let inA (c : StopCall) : Bool := ahead c.landing && callDir c.kind != some (!up)
  let a := calls.filter inA
  let rest := calls.filter (fun c => !inA c)
  let b := rest.filter (fun c => callDir c.kind != some up)
  let c := rest.filter (fun c => callDir c.kind == some up)
  (sortBy lev up (visits a)).map (fun j => (0, j)) ++ (sortBy lev (!up) (visits b)).map (fun j => (1, j)) ++
    (sortBy lev up (visits c)).map (fun j => (2, j))

/-- The distance between two levels. -/
def gap (a b : Int) : Nat := (a - b).natAbs

/-- The direction of a car: its own, or that of the nearest stop. -/
def dirUp (lev : Nat → Int) (pos : Int) (dir : Nat) (calls : List StopCall) : Bool :=
  if dir = 1 then true
  else if dir = 2 then false
  else
    match calls.foldl (fun (b : Option StopCall) c => match b with
      | none => some c
      | some x => if gap (lev c.landing) pos < gap (lev x.landing) pos then some c else some x) none with
    | none => true
    | some c => decide (pos < lev c.landing) || (decide (pos = lev c.landing) && callDir c.kind != some false)

/-- The commitment distance of a local car, in 0.1 mm (R270). -/
def dCommit (s : State) (c : Nat) : Rat :=
  let v := absR (car s c).vel
  (dStopOf s (16 + c) : Nat) + v * mkRat (carN s c 50 2) 1000 + (10 * carN s c 48 2 : Nat)

/-- A landing lies at least the commitment distance ahead of a moving car, or ahead of a car at rest. -/
def committable (s : State) (c j : Nat) (up : Bool) : Bool :=
  let k := car s c
  let d : Rat := if up then ((flLevel k.floor j - k.pos : Int) : Rat) else ((k.pos - flLevel k.floor j : Int) : Rat)
  if (axis s (16 + c)).v = 0 then decide (-((carN s c 52 2 : Nat) : Rat) ≤ d) else decide (dCommit s c ≤ d)

/-- The route of a local car. -/
def carRoute (s : State) (c : Nat) : List (Nat × Nat) :=
  let k := car s c
  let up := dirUp (flLevel k.floor) k.pos k.dir k.calls
  routeOf (flLevel k.floor) (fun j => committable s c j up) up k.calls

/-- Nearest committable landing ahead. -/
def nearestCommittable (s : State) (c : Nat) : Option Nat :=
  let k := car s c
  if k.dir = 0 then none
  else
    let up := k.dir == 1
    (sortBy (flLevel k.floor) up ((List.range (flLandings k.floor)).filter (fun j => committable s c j up))).head?

/-- Add a call to a car's list; a call equal in kind, landing and id merges its sides. -/
def addCall (c : Nat) (x : StopCall) (s : State) : State :=
  modCar c (fun k =>
    if k.calls.any (fun y => y.kind == x.kind && y.landing == x.landing && y.id == x.id) then
      { k with calls := k.calls.map (fun y => if y.kind == x.kind && y.landing == x.landing && y.id == x.id then { y with side := y.side ||| x.side } else y) }
    else { k with calls := k.calls ++ [x] }) s

/-- The stop call of a registered call. -/
def stopOf (x : GroupCall) : StopCall :=
  { kind := if x.isDest then .pick (decide (x.origin < x.destDir)) else if x.destDir = 1 then .up else .down
    landing := x.origin, side := x.side, id := x.id, dest := if x.isDest then x.destDir else 0, pass := x.pass }

/-! ### Dispatcher (R273, R279, R286) -/

/-- This device dispatches the group as its elected DISPATCHER. -/
def dispatches (s : State) (g : Nat) : Bool :=
  s.time.centreValid && s.blv.self.isSome && vget s.blv.dispatcher g none == s.blv.self

/-- The group has a DISPATCHER this device follows. -/
def followed (s : State) (g : Nat) : Option Nat := if s.time.centreValid then vget s.blv.dispatcher g none else none

/-- This device assigns the group's calls: as DISPATCHER, or in island dispatch. -/
def assigns (s : State) (g : Nat) : Bool := dispatches s g || (grp s g).island

/-- A head and records as a DISPATCH message; `groupcast` or to one node. -/
def sendDispatch (g msg size : Nat) (dst : Option Nat) (recs : List (List Byte)) (s : State) : State :=
  if s.blv.self.isNone then s
  else
    let head := leBytes 1 msg ++ leBytes 1 g ++ leBytes 1 recs.length ++ leBytes 1 size ++ leBytes 4 (s.time.centre / 100000000)
    let f := match dst with
      | some n => newFrame s .dispatch 0 n 1 (head ++ recs.flatten)
      | none => newFrame s .dispatch 2 g 1 (head ++ recs.flatten)
    { s with link := { s.link with own := s.link.own ++ [(.dispatch, f)] } }

/-- Records in messages of at most `n`. -/
def sendBatches : Nat → Nat → Nat → Nat → Nat → Option Nat → List (List Byte) → State → State
  | 0, _, _, _, _, _, _, s => s
  | f + 1, n, g, msg, size, dst, recs, s =>
    if recs.isEmpty then s else sendBatches f n g msg size dst (recs.drop n) (sendDispatch g msg size dst (recs.take n) s)

/-! ### Calls (R271, R272) -/

/-- The device is in a mode that accepts calls. -/
def callMode (s : State) : Bool := s.mode.mode == .service || s.mode.mode == .night

/-- A pending request to UPDATE winds service down (R49). -/
def windDown (s : State) : Bool := match s.mode.pendingReq with | some p => p.target == .update | none => false

/-- A landing and side of a group are served by a local car. -/
def served (s : State) (g j side : Nat) : Bool :=
  decide (j < grpN s g 1 1) && (groupCars s g).any (fun c => (flSides (car s c).floor j &&& side) ≠ 0)

/-- The node address in CALL_ID. -/
def nodeAddr (s : State) : Nat := (s.blv.self).getD (bits s.blv.cfg 7 0)

/-- CALL record of a registered call (Table 11.16). -/
def callRecord (x : GroupCall) : List Byte :=
  leBytes 1 (if x.isDest then 2 else 1) ++ leBytes 1 x.origin ++ leBytes 1 x.destDir ++ leBytes 1 x.side ++ leBytes 1 x.pass ++
    leBytes 3 0 ++ leBytes 4 x.id ++ leBytes 4 x.regMs

/-- Add one to a demand count of a landing: 0 up, 1 down, 2 destination, 3 car, saturating at 255. -/
def countDemand (g j k : Nat) (s : State) : State :=
  modGrp g (fun x =>
    let old := tgetD x.counts j (0, 0, 0, 0)
    let i (n : Nat) : Nat := satInc 8 n
    let new := match k with
      | 0 => (i old.1, old.2.1, old.2.2.1, old.2.2.2)
      | 1 => (old.1, i old.2.1, old.2.2.1, old.2.2.2)
      | 2 => (old.1, old.2.1, i old.2.2.1, old.2.2.2)
      | _ => (old.1, old.2.1, old.2.2.1, i old.2.2.2)
    { x with counts := tput j new x.counts }) s

/-- A car of the device stands level at the landing with doors open or closing, and its next direction matches. -/
def carAt (s : State) (g j : Nat) (up : Bool) : Option Nat :=
  (groupCars s g).find? (fun c =>
    let k := car s c
    k.st == .doors && k.landing == some j && (k.dir == 0 || (k.dir == 1) == up))

/-- Give a registered call to a local car (R285 does not apply: the car stands at the landing). -/
def giveCall (c id : Nat) (x : StopCall) (s : State) : State :=
  let g := carGroup s c
  addCall c x (modGrp g (fun q => { q with calls := q.calls.map (fun y => if y.id == id then { y with slot := some (carSlot s c) } else y) }) s)

/-- A closing door reopens. -/
def reopen (c : Nat) (s : State) : State :=
  modCar c (fun k => if k.door == .closing then { k with door := .opening } else k) s

/-- Register a hall or destination call of a group (R271); the Boolean says that it is registered or merged. -/
def registerCall (g : Nat) (isDest : Bool) (origin destDir side pass : Nat) (s : State) : Bool × State :=
  let q := grp s g
  let same (y : GroupCall) : Bool := y.isDest == isDest && y.origin == origin && y.destDir == destDir && y.side == side && (!isDest || y.pass == pass)
  if !grpUsed s g || !served s g origin side || !callMode s || (!isDest && windDown s) || (isDest && !(grpN s g 0 1).testBit 1) then (false, s)
  else if !isDest && q.calls.any same then (true, s)
  else if 1024 ≤ q.calls.length then (false, s)
  else
    let id := nodeAddr s * 2 ^ 24 + (s.lift.callSeq + 1) % 2 ^ 24
    let x : GroupCall := { id := id, isDest := isDest, origin := origin, destDir := destDir, side := side, pass := pass
                           regMs := s.time.centre / 1000000 % 2 ^ 32, regAt := s.time.uptime, slot := none, was := none }
    let s1 := modLift (fun l => { l with callSeq := (l.callSeq + 1) % 2 ^ 24, known := (id :: l.known).take 1024 }) s
    let s2 := modGrp g (fun q => { q with calls := q.calls ++ [x] }) s1
    let s3 := if dispatches s g then countDemand g origin (if isDest then 2 else if destDir = 1 then 0 else 1) s2 else s2
    let s4 := match followed s g with
      | some n => if some n == s.blv.self then s3 else sendDispatch g 2 16 (some n) [callRecord x] s3
      | none => s3
    let up := if isDest then decide (origin < destDir) else destDir == 1
    match if isDest then none else carAt s4 g origin up with
    | some c => (true, reopen c (giveCall c id (stopOf x) s4))
    | none => (true, s4)

/-- The car is in a state that takes calls. -/
def takesCalls (k : Car) : Bool := k.st == .parked || k.st == .doors || k.st == .running

/-- Register a car call. -/
def registerCarCall (c j side : Nat) (s : State) : Bool × State :=
  let k := car s c
  if !carUsed s c || !takesCalls k || (flSides k.floor j &&& side) = 0 || !callMode s then (false, s)
  else
    let s1 := addCall c { kind := .car, landing := j, side := side, id := 0, dest := 0, pass := 0 } s
    (true, if k.st == .doors && k.landing == some j then reopen c s1 else s1)

/-- A call from a source, with its sequence number; one not above the last accepted from the source is dropped. -/
def sourceCall (src : Nat) (seq : Option Nat) (f : State → Bool × State) (s : State) : Bool × State :=
  match seq with
  | none => f s
  | some q =>
    if (match tget s.lift.srcSeq src with | some l => decide (q ≤ l) | none => false) then (false, s)
    else f (modLift (fun l => { l with srcSeq := tput src q l.srcSeq }) s)

/-! ### Car reports (R273, R280) -/

/-- A landing map of calls. -/
def landingMap (l : List StopCall) (p : StopKind → Bool) : Nat :=
  (dedupN ((l.filter (fun c => p c.kind)).map (·.landing))).foldl (fun a j => a + 2 ^ j) 0

/-- Car calls and drop-offs; up calls and pickups; down calls and pickups. -/
def isCarKind : StopKind → Bool | .car => true | .drop => true | _ => false
def isUpKind (k : StopKind) : Bool := callDir k == some true
def isDnKind (k : StopKind) : Bool := callDir k == some false

/-- E in Q16.16, 0 where not valid. -/
def energyWord (e : Option Rat) : Int := match e with | some r => satSigned 32 (wholeOr Config.roundEnergy (r * 65536)) | none => 0

/-- The report of a local car at this instant. -/
def carReport (s : State) (c : Nat) : CarReport :=
  let k := car s c
  { slot := carSlot s c, st := k.st.code, dir := k.dir, next := k.next.getD 0xFF, committable := (nearestCommittable s c).getD 0xFF
    load := k.load.getD 0xFF
    flags := b2n k.eUp.isSome + 2 * b2n k.eDn.isSome + 4 * b2n (k.refusedId ≠ 0) + 8 * b2n k.posValid
    pos := k.pos, vel := roundR (k.vel / 10), dStop := dStopOf s (16 + c), ttg := timeToGo s (16 + c), eUp := energyWord k.eUp
    eDn := energyWord k.eDn, refusedId := k.refusedId, carMap := landingMap k.calls isCarKind, upMap := landingMap k.calls isUpKind
    dnMap := landingMap k.calls isDnKind }

/-- A report as its record (Table 11.15). -/
def reportBytes (r : CarReport) : List Byte :=
  leBytes 1 r.slot ++ leBytes 1 r.st ++ leBytes 1 r.dir ++ leBytes 1 r.next ++ leBytes 1 r.committable ++ leBytes 1 r.load ++
    leBytes 1 r.flags ++ leBytes 1 0 ++ leBytes 8 (ofSigned 64 r.pos) ++ leBytes 4 (ofSigned 32 r.vel) ++ leBytes 4 r.dStop ++
    leBytes 4 r.ttg ++ leBytes 4 (ofSigned 32 r.eUp) ++ leBytes 4 (ofSigned 32 r.eDn) ++ leBytes 4 r.refusedId ++
    leBytes 16 r.carMap ++ leBytes 16 r.upMap ++ leBytes 16 r.dnMap

/-- A record as a report. -/
def parseReport (p : List Byte) : CarReport :=
  { slot := le p 0 1, st := le p 1 1, dir := le p 2 1, next := le p 3 1, committable := le p 4 1, load := le p 5 1, flags := le p 6 1
    pos := toSigned 64 (le p 8 8), vel := toSigned 32 (le p 16 4), dStop := le p 20 4, ttg := le p 24 4, eUp := toSigned 32 (le p 28 4)
    eDn := toSigned 32 (le p 32 4), refusedId := le p 36 4, carMap := le p 40 16, upMap := le p 56 16, dnMap := le p 72 16 }

/-- A report reaches the dispatcher: the car calls new in it count as demand, a refusal frees its call. -/
def takeReport (g : Nat) (r : CarReport) (s : State) : State :=
  let old := tgetD (grp s g).seen r.slot 0
  let s1 := (setBitsBelow 128 r.carMap).foldl (fun s j => if old.testBit j then s else countDemand g j 3 s) s
  modGrp g (fun q => { q with
    reports := q.reports.filter (fun x => x.slot != r.slot) ++ [r], seen := tput r.slot r.carMap q.seen
    calls := if r.flags.testBit 2 then q.calls.map (fun y => if y.id == r.refusedId then { y with slot := none } else y) else q.calls }) s1

/-! ### Prediction and cost (R274, R275, Table 11.3) -/

/-- What the dispatcher knows of a car. -/
structure CarView where
  rep : CarReport
  rated : Nat
  accel : Nat
  startMs : Nat
  dwell : Nat
  bypass : Nat
  capacity : Nat
  floor : Memory
  calls : List StopCall

/-- Calls of a landing map. -/
def mapCalls (k : StopKind) (m : Nat) : List StopCall :=
  (setBitsBelow 128 m).map (fun j => { kind := k, landing := j, side := 0, id := 0, dest := 0, pass := 0 })

/-- The view of a reported car, with the calls assigned to it in the group's list. -/
def carView (s : State) (g : Nat) (calls : List GroupCall) (r : CarReport) : CarView :=
  let loc := slotCar s g r.slot
  let par (o n k : Nat) : Nat := match loc with | some c => carN s c o n | none => Config.remoteCar g r.slot k
  let fl := match loc with
    | some c => (car s c).floor
    | none => match groupCars s g with | c :: _ => (car s c).floor | [] => []
  { rep := r, rated := par 32 4 0, accel := par 36 4 1, startMs := par 46 2 2, dwell := par 44 2 3, bypass := par 80 1 4, capacity := par 81 1 5
    floor := fl
    calls := mapCalls .car r.carMap ++ mapCalls .up r.upMap ++ mapCalls .down r.dnMap ++
      (calls.filter (fun x => x.slot == some r.slot)).map stopOf }

/-- Whole milliseconds of a predicted time. -/
def msOf (fl : Nat) (exact : Bool) (key : Rat) : Nat := fl + (if exact then 0 else b2n (Config.msUp key))

/-- t_run of a distance in 0.1 mm, ms. -/
def tRun (v : CarView) (d : Nat) : Nat :=
  if v.accel * d ≥ 10 * v.rated * v.rated then
    let t : Rat := mkRat (d * 100) v.rated + mkRat (1000 * v.rated) v.accel
    msOf t.floor.toNat (t.den == 1) t
  else
    let q : Rat := mkRat (400000 * d) v.accel
    let r := isqrt q.floor.toNat
    msOf r (decide (((r * r : Nat) : Rat) = q)) q

/-- A predicted stop: sweep, landing, time until level in ms, leg length in 0.1 mm, leg goes up. -/
structure Leg where
  sweep : Nat
  landing : Nat
  time : Nat
  dist : Nat
  up : Bool
  deriving DecidableEq, Repr

/-- The predicted route of a car with a list of calls. -/
def predict (v : CarView) (calls : List StopCall) : List Leg :=
  let lev := flLevel v.floor
  let up := dirUp lev v.rep.pos v.rep.dir calls
  let ahead (j : Nat) : Bool :=
    if v.rep.st = 3 then
      v.rep.next == j || (v.rep.committable ≠ 0xFF && (if up then decide (lev v.rep.committable ≤ lev j) else decide (lev j ≤ lev v.rep.committable)))
    else if up then decide (v.rep.pos ≤ lev j) || gap v.rep.pos (lev j) < 1000 else decide (lev j ≤ v.rep.pos) || gap v.rep.pos (lev j) < 1000
  let step (p : List Leg × Int × Nat) (x : Nat × Nat) : List Leg × Int × Nat :=
    let d := gap (lev x.2) p.2.1
    let first := p.1.isEmpty
    let t := if first then
        (if v.rep.st = 3 then (if v.rep.next = x.2 then v.rep.ttg else tRun v d)
         else if d < 1000 then 0
         else (if v.rep.st = 2 then v.dwell else 0) + v.startMs + tRun v d)
      else p.2.2 + v.dwell + v.startMs + tRun v d
    (p.1 ++ [{ sweep := x.1, landing := x.2, time := t, dist := if first && d < 1000 then 0 else d, up := decide (p.2.1 < lev x.2) }], lev x.2, t)
  ((routeOf lev ahead up calls).foldl step ([], v.rep.pos, 0)).1

/-- The DEMAND rate of a landing, Q16.16 calls/h, while present and no older than DEMAND_AGE_S (R410, Table 1.3). -/
def demandRate (s : State) (g j : Nat) : Option Nat :=
  let b := blockBase 11 + 0x30000 + 32 * (128 * g + j)
  if present s islFORECAST && (s.mem.readN (b + 4) 4).testBit 4 &&
      decide (s.time.centre ≤ s.mem.readN (b + 8) 8 + 1000000000 * grpN s g 28 2) then some (s.mem.readN (b + 16) 4)
  else none

/-- The landing nearest a position. -/
def nearestLanding (m : Memory) (p : Int) : Option Nat :=
  (List.range (flLandings m)).foldl (fun b j => match b with
    | none => some j
    | some i => if gap (flLevel m j) p < gap (flLevel m i) p then some j else some i) none

/-- The cost of call `x` on a car (R275). -/
def callCost (s : State) (g : Nat) (v : CarView) (x : GroupCall) : Nat :=
  let old := predict v v.calls
  let new := predict v (v.calls ++ [stopOf x])
  let at_ (l : List Leg) (j : Nat) : Option Leg := l.find? (fun e => e.landing == j)
  let k := stopOf x
  let wait := match new.find? (fun e => e.landing == x.origin) with | some e => e.time | none => 0
  let pos := new.findIdx (fun e => e.landing == x.origin)
  let delays := ((new.drop (pos + 1)).map (fun e => match old.find? (fun o => o.landing == e.landing && o.sweep == e.sweep) with
    | some o => e.time - o.time
    | none => 0)).sum
  let ride := if x.isDest then (match at_ (new.drop (pos + 1)) k.dest with | some e => e.time - wait | none => 0) else 0
  let e1 : Int := if v.rep.flags.testBit 0 then v.rep.eUp else 0
  let e2 : Int := if v.rep.flags.testBit 1 then v.rep.eDn else 0
  let longer := new.filter (fun e => match old.find? (fun o => o.landing == e.landing && o.sweep == e.sweep) with
    | some o => decide (o.dist < e.dist)
    | none => true)
  let en := (longer.foldl (fun (a : Int) e => a + (e.dist : Int) * (if e.up then e1 else e2)) 0) / (10000 * 65536)
  let dem := if v.rep.st ≠ 1 then 0
    else match nearestLanding v.floor v.rep.pos with
      | none => 0
      | some j => match demandRate s g j with
        | none => 0
        | some l => l * tRun v (gap (flLevel v.floor j) (flLevel v.floor x.origin)) / (3600 * 65536)
  let w (i t : Nat) : Nat := grpN s g (4 + 4 * i) 4 * t / 65536
  w 0 wait + w 1 (delays + ride) + w 2 en.toNat + w 3 dem

/-- Passengers of assigned destination calls on the stretch above landing `i`, in a direction. -/
def ridersAt (calls : List GroupCall) (slot i : Nat) (up : Bool) : Nat :=
  ((calls.filter (fun y => y.isDest && y.slot == some slot && decide (y.origin < y.destDir) == up &&
    min y.origin y.destDir ≤ i && i < max y.origin y.destDir)).map (·.pass)).sum

/-- A car is a candidate for a call (R274). -/
def candidate (calls : List GroupCall) (v : CarView) (x : GroupCall) : Bool :=
  (v.rep.st == 1 || v.rep.st == 2 || v.rep.st == 3) && (flSides v.floor x.origin &&& x.side) ≠ 0 &&
  (v.rep.load == 0xFF || decide (v.rep.load < v.bypass)) &&
  (!x.isDest || (List.range 128).all (fun i =>
    !(min x.origin x.destDir ≤ i && i < max x.origin x.destDir) ||
      decide (ridersAt calls v.rep.slot i (decide (x.origin < x.destDir)) + x.pass ≤ v.capacity)))

/-- The stop of a call is committed in its car's report. -/
def callCommitted (reps : List CarReport) (x : GroupCall) : Bool :=
  reps.any (fun r => x.slot == some r.slot && r.next == x.origin && r.committable != x.origin && r.st != 1)

/-- The call may be assigned in this cycle. -/
def assignable (reassign : Bool) (reps : List CarReport) (x : GroupCall) : Bool :=
  x.slot.isNone || (reassign && !x.isDest && !callCommitted reps x)

/-- Assign one call among the reports: the lowest cost, then the lowest slot. -/
def bestSlot (s : State) (g : Nat) (calls : List GroupCall) (reps : List CarReport) (x : GroupCall) : Option Nat :=
  let others := calls.filter (fun y => y.id != x.id)
  let cands := (reps.map (fun r =>
      { carView s g others r with calls := (carView s g others r).calls.filter (fun (y : StopCall) =>
          !(x.slot == some r.slot && y.landing == x.origin && y.kind == (stopOf x).kind && y.id == 0)) })).filter
    (fun v => candidate others v x)
  (cands.foldl (fun (b : Option (Nat × Nat)) v =>
    let c := callCost s g v x
    match b with
    | none => some (c, v.rep.slot)
    | some p => if c < p.1 || (c == p.1 && v.rep.slot < p.2) then some (c, v.rep.slot) else some p) none).map (·.2)

/-- One assignment for the bus: ASSIGN record (Table 11.17). -/
structure Assignment where
  id : Nat
  slot : Option Nat
  landing : Nat
  park : Bool
  again : Bool
  deriving DecidableEq, Repr

/-- The record of an assignment. -/
def assignBytes (a : Assignment) : List Byte :=
  leBytes 4 a.id ++ leBytes 1 (a.slot.getD 0xFF) ++ leBytes 1 a.landing ++ leBytes 1 (b2n a.park + 2 * b2n a.again) ++ leBytes 1 0

/-- The cycle's assignments, oldest call first. -/
def assignAll (s : State) (g : Nat) : List GroupCall × List Assignment :=
  let reps := (grp s g).reports
  let re := (grpN s g 0 1).testBit 2
  ((grp s g).calls).foldl (fun (p : List GroupCall × List Assignment) x0 =>
    match p.1.find? (fun y => y.id == x0.id) with
    | none => p
    | some x =>
      if !assignable re reps x || (windDown s && !x.isDest) then p
      else
        let b := bestSlot s g p.1 reps x
        let b' := if b.isNone then x.slot else b
        let again := x.slot.isSome && b' != x.slot
        let out : List Assignment := if x.slot.isSome && b' == x.slot then [] else [{ id := x.id, slot := b', landing := x.origin, park := false, again := again }]
        (p.1.map (fun y => if y.id == x.id then { y with slot := b', was := x.slot } else y), p.2 ++ out))
    ((grp s g).calls, [])

/-! ### Parking (R277) -/

/-- A local car is idle. -/
def carIdle (s : State) (c : Nat) : Bool :=
  let k := car s c
  k.st == .parked && k.calls.isEmpty && decide (1000000 * grpN s (carGroup s c) 20 2 ≤ k.idleUs) && s.mode.mode == .service

/-- The landings to park at, by rate, highest first, less those of idle cars. -/
def parkLandings (s : State) (g : Nat) (floor : Memory) : List Nat :=
  let held := ((groupCars s g).filter (carIdle s)).filterMap (fun c => (car s c).landing)
  let rated := (List.range (grpN s g 1 1)).filterMap (fun j => (demandRate s g j).map (fun r => (r, j)))
  let ok := rated.filter (fun p => grpN s g 24 4 ≤ p.1 && !held.contains p.2 && flSides floor p.2 ≠ 0)
  let rec ins (x : Nat × Nat) : List (Nat × Nat) → List (Nat × Nat)
    | [] => [x]
    | y :: r => if y.1 < x.1 then x :: y :: r else y :: ins x r
  (ok.foldl (fun l x => ins x l) []).map (·.2)

/-- Parking assignments of idle cars: each landing to the idle car with the lowest t_run; without a forecast each car goes HOME. -/
def parkAll (s : State) (g : Nat) : List Assignment :=
  let cars := (groupCars s g).filter (carIdle s)
  match cars with
  | [] => []
  | c0 :: _ =>
    let absent := (List.range (grpN s g 1 1)).all (fun j => (demandRate s g j).isNone)
    if absent then
      cars.filterMap (fun c => match flFlagged (car s c).floor 2 with
        | some j => if (car s c).landing == some j then none else some { id := 0, slot := some (carSlot s c), landing := j, park := true, again := false }
        | none => none)
    else
      let view (c : Nat) : CarView := carView s g [] (carReport s c)
      ((parkLandings s g (car s c0).floor).foldl (fun (p : List Nat × List Assignment) j =>
        let t (c : Nat) : Nat := tRun (view c) (gap (car s c).pos (flLevel (car s c).floor j))
        match p.1.foldl (fun (b : Option Nat) c => match b with
          | none => some c
          | some x => if t c < t x then some c else some x) none with
        | none => p
        | some c => (p.1.filter (· != c), p.2 ++ [{ id := 0, slot := some (carSlot s c), landing := j, park := true, again := false }]))
        (cars, [])).2

/-! ### Assignments at a car (R285) -/

/-- A car receives an assignment: it refuses one ahead in its direction that is no longer committable. -/
def receiveAssign (c : Nat) (a : Assignment) (x : Option StopCall) (s : State) : State :=
  let k := car s c
  let up := k.dir == 1
  let ahead := if up then decide (k.pos < flLevel k.floor a.landing) else decide (flLevel k.floor a.landing < k.pos)
  let moving := (axis s (16 + c)).v ≠ 0
  let call : StopCall := x.getD { kind := .car, landing := a.landing, side := 0, id := a.id, dest := 0, pass := 0 }
  if !carUsed s c then s
  else if a.park then
    if k.st == .parked && k.calls.isEmpty then
      addCall c { call with kind := .car, side := 0, id := 0 } (modCar c (fun k => { k with runFor := some .park }) s)
    else s
  else if !takesCalls k then modCar c (fun k => { k with refusedId := a.id }) s
  else if moving && ahead && !committable s c a.landing up && k.next ≠ some a.landing then modCar c (fun k => { k with refusedId := a.id }) s
  else if k.st == .doors && k.landing == some a.landing then reopen c (addCall c call s)
  else addCall c call s

/-- Take a call from every local car of the group but one. -/
def dropCall (g id : Nat) (keep : Option Nat) (s : State) : State :=
  (groupCars s g).foldl (fun s c =>
    if some (carSlot s c) == keep then s else modCar c (fun k => { k with calls := k.calls.filter (fun y => y.id != id) }) s) s

/-- Apply an assignment at the local car it names. -/
def applyAssign (g : Nat) (a : Assignment) (s : State) : State :=
  let x := ((grp s g).calls.find? (fun y => y.id == a.id)).map stopOf
  let s1 := if a.park then s else dropCall g a.id a.slot s
  match a.slot with
  | none => s1
  | some sl => match slotCar s g sl with
    | some c => receiveAssign c a x s1
    | none => s1

/-! ### The dispatch cycle (R273, R277, R279) -/

/-- T_N: every local car's report is sampled, for the dispatcher here or for the one elsewhere. -/
def cycleSample (s : State) : State :=
  (List.range 16).foldl (fun s g =>
    if !grpUsed s g then s
    else
      let s0 := modGrp g (fun q => { q with reports := [], island := q.island && (followed s g).isNone }) s
      let cars := groupCars s g
      let reps := cars.map (carReport s)
      let s1 := if assigns s0 g then reps.foldl (fun s r => takeReport g r s) s0
        else match followed s g with
          | some n => sendBatches 2 11 g 1 88 (some n) (reps.map reportBytes) s0
          | none => s0
      cars.foldl (fun s c => modCar c (fun k => { k with refusedId := 0, reported := assigns s0 g }) s) s1) s

/-- STEP_S of the DEMAND slot, or its default of 300 s when none is loaded (Table 16.9). -/
def demandStepS (s : State) : Nat :=
  match (List.range 16).find? (fun k => (vget s.fc.slots k FcSlot.init).loaded && s.mem.readN (sramBase + 0x1000000 + 131072 * k + 6) 1 == 1) with
  | some k => le (vget s.fc.slots k FcSlot.init).recd 44 2
  | none => 300

/-- The counts of a step that has ended are published, one record per landing. -/
def publishCounts (g : Nat) (s : State) : State :=
  let n := localSec s / max 1 (demandStepS s)
  if !dispatches s g || (grp s g).step = n then s
  else
    let recs := (List.range (grpN s g 1 1)).map (fun j =>
      let c := tgetD (grp s g).counts j (0, 0, 0, 0)
      leBytes 1 c.1 ++ leBytes 1 c.2.1 ++ leBytes 1 c.2.2.1 ++ leBytes 1 c.2.2.2)
    sendDispatch g 5 4 none recs (modGrp g (fun q => { q with step := n, heard := q.counts, counts := [] }) s)

/-- The cut-off of a cycle: costs, assignments and parking, published to the group. -/
def cycleDecide (s : State) : State :=
  (List.range 16).foldl (fun s g =>
    if !grpUsed s g || !assigns s g then s
    else
      let r := assignAll s g
      let keep := if windDown s then r.1.filter (fun y => y.isDest || y.slot.isSome) else r.1
      let s1 := modGrp g (fun q => { q with calls := keep }) s
      let out := r.2 ++ (if s.mode.mode == .service then parkAll s g else [])
      let s2 := out.foldl (fun s a => applyAssign g a s) s1
      let s3 := if dispatches s g then sendBatches 12 127 g 3 8 none (out.map assignBytes) s2 else s2
      publishCounts g s3) s

/-- Leaving SERVICE for NIGHT parks the cars as R277 states. -/
def dispatchCycle (decide' : Bool) (s : State) : State :=
  if !islRuns s islMOTION || s.mode.mode == .safestop then s
  else if decide' then cycleDecide s else cycleSample s

/-- FALLBACK_MS without a DISPATCHER (R279, R286). -/
def islandFallback (g : Nat) (s : State) : State :=
  if grpUsed s g && (followed s g).isNone then modGrp g (fun q => { q with island := true }) s else s

/-! ### Received messages (R280) -/

/-- A message's records, where its group is in use here and its kind is the one named. -/
def messageRecs (s : State) (p : List Byte) (msg : Nat) : Option (Nat × List (List Byte)) :=
  let g := le p 1 1
  let n := le p 2 1
  let b := le p 3 1
  if le p 0 1 = msg && grpUsed s g then some (g, (List.range n).map (fun i => (p.drop (8 + b * i)).take b)) else none

/-- CAR_REPORT. -/
def recvReport (p : List Byte) (s : State) : State :=
  match messageRecs s p 1 with
  | none => s
  | some (g, rs) =>
    if !dispatches s g then s
    else rs.foldl (fun s r => if le r 0 1 < 32 then takeReport g (parseReport r) s else s) s

/-- CALL: an id already registered is dropped. -/
def recvCall (p : List Byte) (s : State) : State :=
  match messageRecs s p 2 with
  | none => s
  | some (g, rs) =>
    if !dispatches s g then s
    else rs.foldl (fun s r =>
      let id := le r 8 4
      if s.lift.known.contains id || grpN s g 1 1 ≤ le r 1 1 || 1024 ≤ (grp s g).calls.length then s
      else
        let x : GroupCall := { id := id, isDest := le r 0 1 == 2, origin := le r 1 1, destDir := le r 2 1, side := le r 3 1, pass := le r 4 1
                               regMs := le r 12 4, regAt := s.time.uptime, slot := none, was := none }
        let s1 := modLift (fun l => { l with known := (id :: l.known).take 1024 }) s
        countDemand g x.origin (if x.isDest then 2 else if x.destDir = 1 then 0 else 1) (modGrp g (fun q => { q with calls := q.calls ++ [x] }) s1)) s

/-- ASSIGN: the records for this device's cars are applied; all of them drive the indicators. -/
def recvAssign (p : List Byte) (s : State) : State :=
  match messageRecs s p 3 with
  | none => s
  | some (g, rs) =>
    rs.foldl (fun s r =>
      let sl := le r 4 1
      let a : Assignment := { id := le r 0 4, slot := if sl = 0xFF then none else some sl, landing := le r 5 1, park := (le r 6 1).testBit 0
                              again := (le r 6 1).testBit 1 }
      if grpN s g 1 1 ≤ a.landing then s
      else
        let s1 := modGrp g (fun q => { q with calls := q.calls.map (fun y => if !a.park && y.id == a.id then { y with slot := a.slot } else y) }) s
        applyAssign g a s1) s

/-- CALL_CLEAR. -/
def recvClear (p : List Byte) (s : State) : State :=
  match messageRecs s p 4 with
  | none => s
  | some (g, rs) => rs.foldl (fun s r => modGrp g (fun q => { q with calls := q.calls.filter (fun y => y.id != le r 0 4) }) s) s

/-- DEMAND_COUNTS. -/
def recvCounts (p : List Byte) (s : State) : State :=
  match messageRecs s p 5 with
  | none => s
  | some (g, rs) =>
    modGrp g (fun q => { q with heard := rs.zipIdx.map (fun r => (r.2, le r.1 0 1, le r.1 1 1, le r.1 2 1, le r.1 3 1)) }) s

/-- A call served by a car leaves the group's list; every device hears of it. -/
def clearCall (g id : Nat) (s : State) : State :=
  if id = 0 then s
  else sendDispatch g 4 4 none [leBytes 4 id] (modGrp g (fun q => { q with calls := q.calls.filter (fun y => y.id != id) }) s)

end Sys2Proof.Machine
end

