-- ==== Sys2Proof/Machine/BsOps.lean ====
section
/-! DEFINITION. Bandstand: requests, allocation, announcements, blocks, mixing, commands, MIDI, tables and registers
(chapter 15). -/
namespace Sys2Proof.Machine
open Sys2Proof

/-! ### Access -/

/-- Base of the Bandstand block. -/
def bsBase : Nat := blockBase 10
/-- Change Bandstand. -/
def modBs (f : BsState → BsState) (s : State) : State := { s with bs := f s.bs }
/-- A voice. -/
def voice (s : State) (v : Nat) : Voice := vget s.bs.voices v Voice.init
/-- Change a voice. -/
def modVoice (v : Nat) (f : Voice → Voice) (s : State) : State := modBs (fun b => { b with voices := vmod b.voices v f }) s
/-- A field of the tables in force. -/
def bsN (s : State) (o n : Nat) : Nat := s.bs.tabs.readN o n
/-- Fs (R365). -/
def bsFs (s : State) : Nat := if s.clock.family = 0 then 48000 else 44100
/-- Samples of a time in ms, rounded up. -/
def msSamples (s : State) (ms : Nat) : Nat := ceilDiv (ms * bsFs s) 1000
/-- Samples of the 1 ms ramp (R379). -/
def rampLen (s : State) : Nat := bsFs s / 1000
/-- Present time of the sample grid: centre time, or RTC time while it is not valid (R365). -/
def bsNow (s : State) : Nat := if s.time.centreValid then s.time.centre else s.time.rtcSec * 1000000000 + s.time.rtcNs
/-- The first sample at or after an instant. -/
def sampleAt (s : State) (ns : Nat) : Nat := ceilDiv (ns * bsFs s) 1000000000

/-- The lowest priority the mode allows; 8 = none (R367). -/
def lowestPrio (m : Mode) : Nat :=
  match m with
  | .service | .inspection | .safestop => 0
  | .recall | .update => 6
  | .night => 7
  | _ => 8

/-- Voices that exist in the mode (R367). -/
def voiceCount (m : Mode) : Nat := match m with | .night | .update => 128 | .dormant => 0 | _ => 256

/-- The core of a voice. -/
def voiceCore (v : Nat) : Nat := 2 + v / 64

/-- F of R59 toward which the cores run, Hz. -/
def coreHz (s : State) : Nat :=
  let p := pll s pllCORE
  let f := if p.changing then p.target else pllNow s pllCORE
  if 1000000000 < p.target then f / 2 else f

/-- Units of a core (section Allocation). -/
def coreUnits (s : State) : Nat := min 192 (((mkRat (32 * coreHz s) (bsFs s) - 20000) / 1600).floor.toNat)

/-- Units of a request. -/
def reqUnits (r : StartReq) : Nat := if r.phrase then 1 else 3

/-- The request a voice serves or is about to serve. -/
def Voice.owner (x : Voice) : Option StartReq := x.next.orElse fun _ => x.req
/-- Priority of a voice. -/
def Voice.prio (x : Voice) : Nat := match x.owner with | some r => r.prio | none => 0
/-- The voice is not FREE. -/
def Voice.busy (x : Voice) : Bool := x.st != .free

/-- The voices of the mode by index. -/
def liveVoices (s : State) : List (Nat × Voice) := ((s.bs.voices.toList.take (voiceCount s.mode.mode)).zipIdx).map (fun x => (x.2, x.1))

/-- Units in use on a core. -/
def unitsUsed (s : State) (core : Nat) : Nat :=
  ((s.bs.voices.toList.zipIdx.filter (fun x => voiceCore x.2 == core && x.1.busy)).map (fun x =>
    match x.1.owner with | some r => reqUnits r | none => 0)).sum

/-- HANDLE of a voice. -/
def handleOf (s : State) (v : Nat) : Nat := v + 2 ^ 8 * (voice s v).count

/-! ### Events (R386) -/

/-- Post an event. -/
def bsEvent (typ : Nat) (st : Status) (handle req : Nat) (s : State) : State :=
  if s.bs.evtQ = 0 then s
  else (qEnqueue s.bs.evtQ (leBytes 1 typ ++ leBytes 1 (statusCode st) ++ leBytes 2 0 ++ leBytes 4 handle ++ leBytes 8 req) s).2

/-- REQ_ID of a source; 0 for one that no command started. -/
def srcReq : BsSrc → Nat | .cmd r => r | _ => 0
/-- A command started it. -/
def fromCmd : BsSrc → Bool | .cmd _ => true | _ => false

/-! ### Acknowledging cue entries (R385) -/

/-- Acknowledge every leading entry that may be. -/
def ackLead : Nat → State → State
  | 0, s => s
  | f + 1, s => match s.bs.ackWait with
    | (_, _, true) :: t => ackLead f (qAck s.bs.kerbQ 1 (modBs (fun b => { b with ackWait := t }) s)).2
    | _ => s

/-- A Kerb cue entry may be acknowledged: its voice has sounded, or it is discarded or merged. -/
def cueDone (src : BsSrc) (s : State) : State :=
  match src with
  | .kerb e q =>
    let s1 := modBs (fun b => { b with ackWait := b.ackWait.map (fun x => if x.1 == e && x.2.1 == q then (e, q, true) else x) }) s
    ackLead s1.bs.ackWait.length s1
  | _ => s

/-- A request ends without a voice. -/
def discardReq (r : StartReq) (st : Status) (s : State) : State := cueDone r.src (bsEvent 4 st 0 (srcReq r.src) s)

/-- REFUSE_CNT. -/
def countRefuse (s : State) : State := modBs (fun b => { b with refuseCnt := satInc 16 b.refuseCnt }) s

/-! ### Voices: ending, ramping, placing -/

/-- A voice's play is over: FREE, and the request that waited for its ramp takes it as PENDING. -/
def freeVoice (v : Nat) (s : State) : State :=
  let x := voice s v
  match x.next with
  | some r => modVoice v (fun x => { Voice.init with
      st := .pending, req := some r, count := x.count, p0 := x.nextP0, p1v := x.nextP1, held := x.nextHeld }) s
  | none => modVoice v (fun x => { Voice.init with count := x.count }) s

/-- The event of an end: ENDED or STOLEN for a command's start, and ABORT for any other that is cut short. -/
def endEvent (typ : Nat) (st : Status) (h : Nat) (r : StartReq) (s : State) : State :=
  if fromCmd r.src then bsEvent typ st h (srcReq r.src) s else if st == .abort then bsEvent 2 .abort 0 0 s else s

/-- A voice ends: its event, then FREE or its waiting request. A stolen voice's start count is one below the waiting request's. -/
def endVoice (v : Nat) (st : Status) (s : State) : State :=
  let x := voice s v
  let h := v + 2 ^ 8 * (if x.stolen then (x.count + 2 ^ 24 - 1) % 2 ^ 24 else x.count)
  freeVoice v (match x.req with | some r => endEvent (if x.stolen then 3 else 2) st h r s | none => s)

/-- The request that waits for a voice's steal ramp ends before it starts. -/
def dropNext (v : Nat) (st : Status) (s : State) : State :=
  match (voice s v).next with
  | some r => cueDone r.src (endEvent 2 st (handleOf s v) r (modVoice v (fun x => { x with next := none }) s))
  | none => s

/-- Ramp a voice down from sample `n`; its repeats are discarded. A start that has not begun ends at once. -/
def rampVoice (v n : Nat) (s : State) : State :=
  let x := voice s v
  if x.next.isSome then dropNext v .abort s
  else if x.st == .pending then endVoice v .abort s
  else modVoice v (fun x => { x with rampAt := some (match x.rampAt with | some m => min m n | none => n)
                                     req := x.req.map (fun r => { r with repeats := 0 }) }) s

/-- Put a request in a FREE voice: PENDING, with the voice's start count. -/
def placeIn (v : Nat) (r : StartReq) (s : State) : State :=
  modVoice v (fun x => { Voice.init with st := .pending, req := some r, count := (x.count + 1) % 2 ^ 24 }) s

/-- Steal a voice: it ramps so as to end at the new start, or at once; a PENDING one gives way at once. -/
def stealFor (v : Nat) (r : StartReq) (s : State) : State :=
  let at_ := match r.start with | some t => sampleAt s t - rampLen s | none => s.bs.nextN
  let x := voice s v
  let s1 := modBs (fun b => { b with stealCnt := satInc 16 b.stealCnt }) s
  if x.st == .pending then placeIn v r (match x.req with | some q => endEvent 3 .ok (handleOf s v) q s1 | none => s1)
  else modVoice v (fun x => { x with next := some r, nextP0 := 0, nextP1 := 0, nextHeld := false, stolen := true, count := (x.count + 1) % 2 ^ 24 })
    (rampVoice v (max at_ s.bs.nextN) s1)

/-! ### Allocation (R379) -/

/-- Free units of a core. -/
def freeUnits (s : State) (core : Nat) : Nat := if islRuns s (islSC core) then coreUnits s - unitsUsed s core else 0

/-- The FREE voice taken: the core with the most free units, then the lowest index. -/
def freeChoice (s : State) (r : StartReq) : Option Nat :=
  let busy7 := ((liveVoices s).filter (fun x => x.2.busy && x.2.prio < 7)).length
  if r.prio = 7 || busy7 < voiceCount s.mode.mode - 64 then
    ((liveVoices s).filter (fun x => !x.2.busy && decide (reqUnits r ≤ freeUnits s (voiceCore x.1)))).foldl (fun b x => match b with
      | none => some x.1
      | some y => if freeUnits s (voiceCore y) < freeUnits s (voiceCore x.1) then some x.1 else some y) none
  else none

/-- ENV0 × LEVEL as unsigned Q1.31. -/
def amplitude (x : Voice) : Nat :=
  match x.st with
  | .pending | .free => 0
  | _ => ((vget x.env 0 Env.init).level * (if x.patch.isEmpty then 1 else q15 (x.patch.readN 24 2)) * 2147483648).floor.toNat

/-- The order of the candidates' keys: RELEASE first, lowest amplitude, earliest start, lowest index. -/
def candBefore (a b : Nat × Voice) : Bool :=
  let rel (x : Nat × Voice) : Nat := if x.2.st == .release then 0 else 1
  if rel a ≠ rel b then decide (rel a < rel b)
  else if amplitude a.2 ≠ amplitude b.2 then decide (amplitude a.2 < amplitude b.2)
  else if a.2.startN ≠ b.2.startN then decide (a.2.startN < b.2.startN)
  else decide (a.1 < b.1)

/-- The first candidate by the keys. -/
def firstCand (l : List (Nat × Voice)) : Option Nat :=
  (l.foldl (fun (b : Option (Nat × Voice)) x => match b with | none => some x | some y => if candBefore x y then some x else some y) none).map (·.1)

/-- The voice to steal. -/
def stealChoice (s : State) (r : StartReq) : Option Nat :=
  firstCand ((liveVoices s).filter (fun x => x.2.busy && x.2.next.isNone && decide (x.2.prio < r.prio) && islRuns s (islSC (voiceCore x.1)) &&
    decide (reqUnits r ≤ freeUnits s (voiceCore x.1) + (match x.2.req with | some q => reqUnits q | none => 0))))

/-- Remember the voice that serves a cue (R385). -/
def noteSeen (r : StartReq) (v : Nat) (s : State) : State :=
  let c := (voice s v).count
  let seen (e q : Nat) : CueSeen := { epoch := e, seq := q, voice := v, count := c, lost := false }
  match r.src with
  | .kerb e q => modBs (fun b => { b with seenKerb := some (seen e q) }) s
  | .lift q => modBs (fun b => { b with seenLift := some (seen 0 q) }) s
  | .node n q => modBs (fun b => { b with seenNode := tput n (seen 0 q) b.seenNode }) s
  | _ => s

/-- STARTED of a command's voice. -/
def noteStarted (r : StartReq) (v : Nat) (s : State) : State :=
  let s1 := noteSeen r v s
  if fromCmd r.src then bsEvent 1 .ok (handleOf s1 v) (srcReq r.src) s1 else s1

/-- Allocate a voice for a request, steal one, wait in the priority-7 FIFO, or refuse. -/
def allocReq (r : StartReq) (s : State) : State :=
  match freeChoice s r with
  | some v => noteStarted r v (placeIn v r s)
  | none => match stealChoice s r with
    | some v => noteStarted r v (stealFor v r s)
    | none =>
      if r.prio < 7 then discardReq r .refused (countRefuse s)
      else if s.bs.p7.length < 16 then modBs (fun b => { b with p7 := b.p7 ++ [(r, bsNow s)] }) s
      else discardReq r .abort (countRefuse s)

/-- The FIFO's requests take voices that have become FREE. -/
def drainP7 : Nat → State → State
  | 0, s => s
  | f + 1, s => match s.bs.p7 with
    | (r, _) :: t => match freeChoice s r with
      | some v => drainP7 f (noteStarted r v (placeIn v r (modBs (fun b => { b with p7 := t }) s)))
      | none => s
    | [] => s

/-- A request that has waited 2 s is discarded. -/
def p7Timeout (s : State) : State :=
  let old (x : StartReq × Nat) : Bool := decide (x.2 + 2000000000 ≤ bsNow s)
  let gone := s.bs.p7.filter old
  gone.foldl (fun s x => discardReq x.1 .abort (countRefuse s)) (modBs (fun b => { b with p7 := b.p7.filter (fun x => !old x) }) s)

/-! ### Announcements (R382) -/

/-- Announcements sounding, gaps between repeats included, with their voices. -/
def announcing (s : State) : List (Nat × StartReq) :=
  (s.bs.voices.toList.zipIdx).filterMap (fun x => match x.1.owner with
    | some r => if x.1.busy && r.excl && (x.1.rampAt.isNone || x.1.next.isSome) then some (x.2, r) else none
    | none => none)

/-- T_start of a request, or the present. -/
def reqTime (s : State) (r : StartReq) : Nat := r.start.getD (bsNow s)

/-- The request repeats an announcement that sounds or waits. -/
def isRepeat (s : State) (r : StartReq) : Bool :=
  let same (q : StartReq) (t : Nat) : Bool := q.cue == r.cue && q.car == r.car && q.zones == r.zones && q.excl && r.cue ≠ 0xFFFF && decide (reqTime s r < t + 1000000000)
  (announcing s).any (fun x => same x.2 (if (voice s x.1).st == .pending then reqTime s x.2 else (voice s x.1).startN * 1000000000 / bsFs s)) ||
  s.bs.waiting.any (fun q => same q (reqTime s q)) || s.bs.p7.any (fun q => same q.1 (reqTime s q.1))

/-- Start an announcement whose zones hold none of its priority or above: lower ones end at its start. -/
def startOver (r : StartReq) (s : State) : State :=
  let lower := (announcing s).filter (fun x => (x.2.zones &&& r.zones) ≠ 0)
  let at_ := match r.start with | some t => max s.bs.nextN (sampleAt s t - rampLen s) | none => s.bs.nextN
  allocReq r (lower.foldl (fun s x => rampVoice x.1 at_ s) s)

/-- Submit a start request. -/
def submit (r : StartReq) (s : State) : State :=
  let patchOk := r.phrase || (bsN s (0x20000 + 256 * r.id) 1).testBit 0
  let phraseOk := !r.phrase || (match s.bs.dir[r.id]? with | some e => e.format = 1 || e.format = 2 | none => false)
  if r.prio < lowestPrio s.mode.mode || !patchOk || !phraseOk then discardReq r .refused (countRefuse s)
  else if !r.excl then allocReq r s
  else if isRepeat s r then cueDone r.src (modBs (fun b => { b with cueDupCnt := satInc 16 b.cueDupCnt }) s)
  else if (announcing s).any (fun x => (x.2.zones &&& r.zones) ≠ 0 && decide (r.prio ≤ x.2.prio)) ||
      s.bs.waiting.any (fun q => (q.zones &&& r.zones) ≠ 0 && decide (r.prio ≤ q.prio)) then
    modBs (fun b => { b with waiting := b.waiting ++ [r] }) s
  else startOver r s

/-- Waiting announcements whose zones are free start at this block, in order. -/
def startWaiting (s : State) : State :=
  (s.bs.waiting.foldl (fun (acc : Nat × State) r =>
    let used := (announcing acc.2).foldl (fun m x => m ||| x.2.zones) acc.1
    if (used &&& r.zones) = 0 then (acc.1, allocReq { r with start := none } (modBs (fun b => { b with waiting := b.waiting.erase r }) acc.2))
    else (acc.1 ||| r.zones, acc.2)) (0, s)).2

/-! ### Cues (R368, R385) -/

/-- Send a centre-wide cue as an AUDIO_CUE message. -/
def sendCue (cue car prio t : Nat) (s : State) : State :=
  if s.blv.self.isNone then s
  else { s with link := { s.link with own := s.link.own ++ [(.audioCue, newFrame s .audioCue 1 0 2 (Config.cuePayload cue car prio t))] } }

/-- Resolve a cue: its time stamp, its priority (7, or capped), its source. -/
def resolveCue (cue car : Nat) (stamp : Option Nat) (seven isLocal : Bool) (src : BsSrc) (s : State) : State :=
  let e := 0x10000 + 16 * cue
  let kind := bsN s e 1
  if 4096 ≤ cue || kind = 0 then cueDone src (bsEvent 4 .refused 0 (srcReq src) s)
  else
    let fl := bsN s (e + 7) 1
    let zones := if fl.testBit 0 && car < 8 then bsN s (0x1300 + 2 * car) 2 else bsN s (e + 8) 2
    let prio := if seven then 7 else min 6 (bsN s (e + 1) 1)
    let t := stamp.getD (bsNow s) + 1000000 * bsN s (e + 14) 2
    let r : StartReq := { phrase := kind == 2, id := bsN s (e + 2) 2, note := bsN s (e + 4) 1, vel := bsN s (e + 5) 1, prio := prio, zones := zones
                          start := some t, hold := if kind = 1 then bsN s (e + 12) 2 else 0, excl := fl.testBit 2, cue := cue, car := car
                          repeats := bsN s (e + 6) 1, gap := bsN s (e + 10) 2, src := src }
    submit r (if fl.testBit 1 && isLocal then sendCue cue car prio t s else s)

/-- What an entry of a cue queue is against the last started one: new, merged, restarted or dropped. -/
inductive Seen where
  | new | merged | replay | dropped
  deriving DecidableEq, Repr

/-- R385's comparison. -/
def cueCase (s : State) (k : Option CueSeen) (epoch seq : Nat) : Seen :=
  match k with
  | none => .new
  | some x =>
    if x.epoch ≠ epoch || x.seq < seq then .new
    else if x.lost then .replay
    else if (voice s x.voice).busy && (voice s x.voice).count = x.count then .merged
    else .dropped

/-- Handle an entry of a cue queue by R385. -/
def cueEntry (k : Option CueSeen) (epoch seq cue car : Nat) (stamp : Option Nat) (seven isLocal : Bool) (src : BsSrc) (s : State) : State :=
  match cueCase s k epoch seq with
  | .new => resolveCue cue car stamp seven isLocal src s
  | .merged => cueDone src (modBs (fun b => { b with cueDupCnt := satInc 16 b.cueDupCnt }) s)
  | .replay => resolveCue cue car none seven isLocal src (modBs (fun b => { b with replayCnt := satInc 16 b.replayCnt }) s)
  | .dropped => cueDone src s

/-- Take an entry of the Kerb cue queue. -/
def kerbCueEntry (s : State) : State :=
  if s.bs.kerbQ = 0 then s
  else
    let r := qDequeue s.bs.kerbQ s
    let p := r.2.1
    if r.1.status == .ok then
      let epoch := le p 20 4
      let seq := le p 4 4
      let t := le p 8 8
      let s1 := modBs (fun b => { b with ackWait := b.ackWait ++ [(epoch, seq, false)] }) r.2.2
      cueEntry s1.bs.seenKerb epoch seq (le p 0 2) (le p 3 1) (if t = 0 then none else some t) true true (.kerb epoch seq) s1
    else r.2.2

/-- Take the lift controller's next cue. -/
def liftCueEntry (s : State) : State :=
  match s.lift.cues with
  | [] => s
  | (cue, c, seq, t) :: rest =>
    let s1 := modLift (fun l => { l with cues := rest }) s
    cueEntry s1.bs.seenLift 0 seq cue c (if s.time.centreValid then some t else none) false true (.lift seq) s1

/-! ### Modulation and parameters of a voice -/

/-- A source of Table 15.3 for a voice at its block's first sample. -/
def modSource (s : State) (v : Nat) (x : Voice) (n : Nat) (code : Nat) : Rat :=
  let r := x.req
  let note : Int := match r with | some r => r.note | none => 0
  let ch : Option MidiChan := match r with | some { src := .midi c _, .. } => some (vget s.bs.midi c MidiChan.init) | _ => none
  let cc (f : MidiChan → Nat) : Rat := match ch with | some m => mkRat (f m) 127 | none => 0
  let zone0 : Nat := match r with | some r => ((List.range 16).find? (fun z => r.zones.testBit z)).getD 0 | none => 0
  match code with
  | 1 => (vget x.env 0 Env.init).level
  | 2 => (vget x.env 1 Env.init).level
  | 3 => (vget x.env 2 Env.init).level
  | 4 => (vget x.env 3 Env.init).level
  | 5 => lfoValue (x.patch.readN 76 1) x.lfo1 x.sh1
  | 6 => lfoValue (x.patch.readN 80 1) x.lfo2 x.sh2
  | 7 => mkRat (match r with | some r => r.vel | none => 0) 127
  | 8 => mkRat (note - 60) 64
  | 9 => cc (·.cc1)
  | 10 => match ch with | some m => mkRat m.bend 8192 | none => 0
  | 11 => cc (·.pressure)
  | 12 => cc (·.cc11)
  | 13 => cc (·.cc16)
  | 14 => cc (·.cc17)
  | 15 => (Config.random v x.startN 15 + 1) / 2
  | 16 => Config.random v n 16
  | 17 => clampR 0 1 (mkRat x.elapsed (60 * bsFs s))
  | 18 => (vget s.bs.zones zone0 ZoneSt.init).page
  | 19 => mkRat (n % bsFs s) (bsFs s)
  | 20 => mkRat x.p0 32768
  | 21 => mkRat x.p1v 32768
  | 22 => if x.gate then 1 else 0
  | 23 => 1
  | _ => 0

/-- The patch of a phrase voice: full level, no filter and no noise; its envelopes start open. -/
def phrasePatch : Memory := Memory.writeN [] 24 2 0x7FFF

/-- Parameters of envelope `k`: times scaled by its modulation factors. -/
def envPar (x : Voice) (sum : Nat → Rat) (k : Nat) : EnvPar :=
  let b := 28 + 12 * k
  let t (o : Nat) : Rat := (x.patch.readN (b + o) 2 : Nat)
  let f (d : Nat) : Rat := exp2 (clampR (-4) 4 (4 * sum d))
  let all : Rat := if k = 2 then f 20 else if k = 3 then f 21 else 1
  let one (d : Nat) : Rat := if k = 0 then f (14 + d) else if k = 1 then f (17 + d) else all
  let sus := mkRat (x.patch.readN (b + 8) 2) 65536
  { delay := t 0 * all, attack := t 2 * one 0, hold := t 4 * all, decay := t 6 * one 1
    sustain := if k = 0 then clampR 0 1 (sus + sum 30) else sus, release := t 10 * one 2 }

/-- A 16-bit sample of the frames as read at the start; a later write may be seen (R390). -/
def wtSample (s : State) (copy : List Byte) (base n i : Nat) : Int :=
  let a := base + 2 * i
  let now := s.mem.readN a 2
  let old := le copy (2 * i) 2
  toSigned 16 (if now ≠ old && Config.frameSeen n a then now else old)

/-- Applied directory entry of a wavetable: base, frames, valid (R371). -/
def wtEntry (s : State) (w : Nat) : Nat × Nat × Bool :=
  (bsN s (0x30000 + 16 * w) 8, bsN s (0x30008 + 16 * w) 2, bsN s (0x3000A + 16 * w) 1 ≠ 0)

/-- The frames of a wavetable as they stand. -/
def wtCopy (s : State) (w : Nat) : List Byte := let e := wtEntry s w; if e.2.2 then s.mem.bytes e.1 (4096 * e.2.1) else []

/-- What one block of a voice gives: the voice after it, and stereo samples by position in the block. -/
structure VoiceOut where
  v : Voice
  out : List (Nat × Rat × Rat)
  /-- Phrase data ended at this position. -/
  endAt : Option Nat

/-- Run samples `lo` to `hi − 1` of the block whose first sample is `n`; the wavetable and phrase data are readable. -/
def voiceRun (s : State) (v n lo hi : Nat) (x : Voice) : VoiceOut :=
  let fs := bsFs s
  let p := x.patch
  let sum := modSum (modSource s v x (n + lo)) (routesOf p)
  let fl := p.readN 0 1
  let note : Rat := ((match x.req with | some r => r.note | none => 69) : Int)
  let cents (o d : Nat) : Rat := (toSigned 16 (p.readN o 2) : Rat) + clampR (-4800) 4800 (4800 * sum 1) + clampR (-4800) 4800 (4800 * sum d)
  let incA := phaseInc (noteHz note (cents 4 2)) fs
  let incB := phaseInc (noteHz note (cents 6 3)) fs
  let wA := clampR 0 1 (mkRat (p.readN 8 2) 65536 + sum 4)
  let wB := clampR 0 1 (mkRat (p.readN 10 2) 65536 + sum 5)
  let fm := clampR (-1) 1 (q15 (p.readN 18 2) + sum 6)
  let lv (o d : Nat) : Rat := clampR (-1) 1 (q15 (p.readN o 2) + sum d)
  let now : Rat × Rat × Rat × Rat × Rat := (lv 12 7, lv 14 8, lv 16 9, (vget x.env 0 Env.init).level * lv 24 12, clampR (-1) 1 (q15 (p.readN 26 2) + 2 * sum 13))
  let was := x.last.getD now
  let colour := clampR 0 1 ((if fl.testBit 5 then 1 else 0) + sum 29)
  let filt := filterOf (p.readN 1 1) (clampR 0 13300 ((p.readN 20 2 : Nat) + 9600 * sum 10)) (mkRat (p.readN 22 2) 256 + 20 * sum 11)
    (clampR 0 1 (mkRat (p.readN 148 2) 65536 + sum 31)) fs
  let eA := wtEntry s (p.readN 2 1)
  let eB := wtEntry s (p.readN 3 1)
  let rate : Rat := match x.entry with | some e => (e.rate : Rat) * exp2 (clampR (-1200) 1200 (1200 * sum 28) / 1200) / (fs : Rat) | none => 0
  let samples : List Int := match x.entry with | some e => phraseSamples e x.bytes | none => []
  let total : Nat := match x.entry with | some e => phraseLength e | none => 0
  let gain : Rat := match x.entry with | some e => mkRat e.gain 32768 | none => 0
  let one (acc : VoiceOut) (i : Nat) : VoiceOut :=
    let y := acc.v
    let f := mkRat (i - lo) 32
    let ramp (a b : Rat) : Rat := a + (b - a) * f
    let a : Rat := if eA.2.2 then oscSample (wtSample s y.wtA eA.1 (n + i)) eA.2.1 wA y.phA else 0
    let phA' := (((y.phA : Int) + incA) % 2 ^ 32).toNat
    let wrap := decide ((2 ^ 32 : Int) ≤ (y.phA : Int) + incA)
    let phB0 := if fl.testBit 2 && wrap then 0 else y.phB
    let b : Rat := if eB.2.2 then oscSample (wtSample s y.wtB eB.1 (n + i)) eB.2.1 wB phB0 else 0
    let incB' : Int := ((incB : Rat) * (1 + 8 * fm * a) + mkRat 1 2).floor
    let phB' := (((phB0 : Int) + incB') % 2 ^ 32).toNat
    let l := noiseStep y.lfsr
    let w := q15 (l / 65536)
    let p1 := mkRat 99765 100000 * y.p1 + mkRat 990460 10000000 * w
    let p2 := mkRat 963 1000 * y.p2 + mkRat 2965164 10000000 * w
    let p3 := mkRat 57 100 * y.p3 + mkRat 10526913 10000000 * w
    let pink := mkRat 1848 10000 * w + p1 + p2 + p3
    let src : Rat := if x.entry.isSome then lagrange4 (fun k => if k < 0 then 0 else samples.getD k.toNat 0) y.pos / 32768 * gain
      else a * ramp was.1 now.1 + b * ramp was.2.1 now.2.1
    let fr := filterStep filt y.fRe y.fIm (src + ramp was.2.2.1 now.2.2.1 * ((1 - colour) * w + colour * pink))
    let fade : Rat := match y.rampAt with
      | some r => if n + i < r then 1 else mkRat (rampLen s - min (rampLen s) (n + i - r)) (rampLen s)
      | none => 1
    let amp := fr.2 * ramp was.2.2.2.1 now.2.2.2.1 * fade
    let pan := ramp was.2.2.2.2 now.2.2.2.2
    let pos := y.pos + rate
    let ends := x.entry.isSome && acc.endAt.isNone && decide ((total : Rat) ≤ pos)
    { v := { y with phA := phA', phB := phB', lfsr := l, p1 := p1, p2 := p2, p3 := p3, fRe := fr.1.1, fIm := fr.1.2, pos := pos }
      out := (i, amp * cosT ((pan + 1) / 8), amp * sinT ((pan + 1) / 8)) :: acc.out
      endAt := if ends then some (i + 1) else acc.endAt }
  let r := ((List.range 32).filter (fun i => lo ≤ i && i < hi)).foldl one { v := x, out := [], endAt := none }
  let dt := mkRat ((hi - lo) * 1000) fs
  let lfoGo (k : Nat) (ph sh : Rat) : Rat × Rat :=
    let hz := mkRat (p.readN (78 + 4 * k) 2) 100 * exp2 (clampR (-4) 4 (4 * sum (22 + k)))
    if fl.testBit (3 + k) then (turnFrac (mkRat (n + 32) fs * hz), sh)
    else
      let q := ph + hz * dt / 1000
      (turnFrac q, if 1 ≤ q then Config.random v (n + hi) (5 + k) else sh)
  let l1 := lfoGo 0 x.lfo1 x.sh1
  let l2 := lfoGo 1 x.lfo2 x.sh2
  let env := Vector.ofFn (fun (k : Fin 4) => envPass (envPar x sum k.val) dt (vget x.env k.val Env.init))
  { r with v := { r.v with env := env, lfo1 := l1.1, sh1 := l1.2, lfo2 := l2.1, sh2 := l2.2, last := some now, elapsed := x.elapsed + (hi - lo) } }

/-- Release an ACTIVE voice: its envelopes and its gate. -/
def releaseVoice (x : Voice) : Voice :=
  if x.st == .active then { x with st := .release, gate := false, env := x.env.map envRelease } else x

/-- Release what a voice plays or is about to play; a start that has not begun ends (DESIGN CHOICE). -/
def releaseAt (v : Nat) (s : State) : State :=
  let x := voice s v
  if x.next.isSome then dropNext v .ok s
  else if x.st == .pending then endVoice v .ok (cueDone (match x.req with | some r => r.src | none => .cmd 0) s)
  else modVoice v releaseVoice s

/-! ### Starting a voice in a block (R369, R390) -/

/-- The voice at its first sample. -/
def beginVoice (v n : Nat) (r : StartReq) (s : State) : State :=
  let patch : Memory := if r.phrase then phrasePatch else (s.bs.tabs.filter (fun c => 0x20000 + 256 * r.id ≤ c.1 && c.1 < 0x20100 + 256 * r.id)).map (fun c => (c.1 - (0x20000 + 256 * r.id), c.2))
  let fl := patch.readN 0 1
  let ph : Option Nat := if r.phrase then some r.id else if fl.testBit 1 then some (Config.patchPhrase r.id % 4096) else none
  modVoice v (fun x => { x with
    st := .active, startN := n, elapsed := 0, gate := true, patch := patch, entry := ph.bind (fun i => s.bs.dir[i]?)
    wtA := wtCopy s (patch.readN 2 1), wtB := wtCopy s (patch.readN 3 1), phA := 0, phB := 0, lfsr := (Config.noiseSeed v n).toNat
    env := Vector.replicate 4 (if r.phrase then envEnter .sustain 1 else envEnter .delay 0), lfo1 := 0, lfo2 := 0, sh1 := Config.random v n 5, sh2 := Config.random v n 6
    last := none, pos := 0, under := 0, rampAt := none, stolen := false }) s

/-- Advance a voice's content by the `k` samples before sample `n`, without output. -/
def advanceVoice (s : State) (v n k : Nat) (x : Voice) : Voice :=
  let y := (List.range (k / 32)).foldl (fun y b => (voiceRun s v (n - k + 32 * b) 0 32 y).v) x
  if k % 32 = 0 then y else (voiceRun s v (n - k % 32) 0 (k % 32) y).v

end Sys2Proof.Machine
end

