-- ==== Sys2Proof/Machine/BsMix.lean ====
section
/-! DEFINITION. Bandstand: the audio block and the mixer, commands, MIDI, APPLY, registers, modes and resets (chapter 15). -/
namespace Sys2Proof.Machine
open Sys2Proof

/-- Phrase bytes that have come into memory for a voice since the last block, or a flash read error. -/
abbrev PhraseFeed := Option (List Byte)

/-! ### One voice in a block -/

/-- A play has ended at sample `n`: the next play after GAP, or the end of the voice (Table 15.12). -/
def playEnds (v n : Nat) (s : State) : State :=
  let x := voice s v
  match x.req with
  | some r =>
    if 0 < r.repeats && x.next.isNone && x.rampAt.isNone then
      let t := n + ceilDiv (r.gap * bsFs s) 100
      modVoice v (fun x => { Voice.init with
        st := .pending, count := x.count, req := some { r with repeats := r.repeats - 1, start := some (t * 1000000000 / bsFs s) } }) s
    else endVoice v .ok s
  | none => freeVoice v s

/-- The phrase samples a block of a voice can need are in memory. -/
def phraseReady (s : State) (x : Voice) : Bool :=
  match x.entry with
  | none => true
  | some e => decide (e.length ≤ x.bytes.length) ||
      decide (x.pos + 2 * 64 * (e.rate : Rat) / (bsFs s : Rat) + 3 ≤ ((phraseSamples e x.bytes).length : Rat))

/-- A phrase fails (R394). -/
def phraseFails (v : Nat) (s : State) : State :=
  let x := voice s v
  let s1 := modBs (fun b => { b with phraseErrCnt := satInc 16 b.phraseErrCnt }) s
  match x.req with
  | some r => if r.prio = 7 && !x.again && x.next.isNone then
      modVoice v (fun x => { Voice.init with st := .pending, count := x.count, again := true, req := some { r with start := none } }) s1
    else endVoice v .abort s1
  | none => freeVoice v s1

/-- An uncorrectable word lies in the frames of a voice's wavetables. -/
def wtEcc (s : State) (x : Voice) : Bool :=
  x.entry.isNone && !x.patch.isEmpty && [2, 3].any (fun o =>
    let e := wtEntry s (x.patch.readN o 1)
    e.2.2 && s.ecc.any (fun a => e.1 ≤ a + 7 && a < e.1 + 4096 * e.2.1))

/-- Start a PENDING voice whose start falls in the block of first sample `n` (R369): the position of its first sample. -/
def startVoice (v n : Nat) (s : State) : Option Nat × State :=
  match (voice s v).req with
  | none => (none, s)
  | some r =>
    let at_ := match r.start with | some t => sampleAt s t | none => n
    let again := (voice s v).again
    let go (k : Nat) (s : State) : State := cueDone r.src (modVoice v (fun x => { x with again := again }) (beginVoice v k r s))
    if n + 32 ≤ at_ then (none, s)
    else if n ≤ at_ then (some (at_ - n), go at_ s)
    else
      let late := n - at_
      let s1 := modBs (fun b => { b with lateCnt := satInc 16 b.lateCnt }) s
      if late * 10 ≤ bsFs s then
        let s2 := go at_ s1
        (some 0, modVoice v (fun x => advanceVoice s2 v n late x) s2)
      else if r.prio = 7 then (some 0, bsEvent 5 .ok (handleOf s v) (srcReq r.src) (go n s1))
      else (none, endVoice v .abort (cueDone r.src s))

/-- One voice in the block whose first sample is `n`: its samples, and the voice after it. -/
def voiceBlock (v n : Nat) (feed : Option PhraseFeed) (s : State) : List (Nat × Rat × Rat) × State :=
  let s0 := match feed with
    | some (some b) => modVoice v (fun x => { x with bytes := x.bytes ++ b }) s
    | _ => s
  let st : Option Nat × State := if (voice s0 v).st == .pending then startVoice v n s0 else (if (voice s0 v).busy then some 0 else none, s0)
  match st.1 with
  | none => ([], st.2)
  | some lo =>
    let s1 := st.2
    let x := voice s1 v
    if feed == some none then ([], phraseFails v s1)
    else if wtEcc s1 x then ([], phraseFails v s1)
    else if !phraseReady s1 x then
      let s2 := modBs (fun b => { b with underrunCnt := satInc 16 b.underrunCnt }) s1
      if 2 ≤ x.under then ([], phraseFails v s2) else ([], modVoice v (fun x => { x with under := x.under + 1 }) s2)
    else
      let x1 := match x.rampAt with | some r => if r < n + 32 then { x with st := .ramp } else x | none => x
      let hold := match x1.req with | some r => if r.hold ≠ 0 && decide (msSamples s1 r.hold ≤ x1.elapsed) then releaseVoice x1 else x1 | none => x1
      let o := voiceRun s1 v n lo 32 { hold with under := 0 }
      let s2 := modVoice v (fun _ => o.v) s1
      let rampEnd := match o.v.rampAt with | some r => decide (r + rampLen s1 ≤ n + 32) | none => false
      let s3 := if rampEnd then endVoice v (if o.v.stolen then .ok else .abort) s2
        else match o.endAt with
          | some e => if (match o.v.req with | some r => r.phrase | none => false) then playEnds v (n + e) s2 else modVoice v releaseVoice s2
          | none => if (vget o.v.env 0 Env.init).seg == .ended then playEnds v (n + 32) s2 else s2
      (o.out, s3)

/-! ### The mixer (R383, R384) -/

/-- Paging routes that sound in zone `z` in the mode. -/
def pagingRoutes (s : State) (z : Nat) : List (Nat × Nat × Rat) :=
  (List.range 8).filterMap (fun i =>
    let b := 0x1400 + 8 * i
    let sl := bsN s b 1
    if sl.testBit 7 && (bsN s (b + 2) 2).testBit z && lowestPrio s.mode.mode ≤ bsN s (b + 1) 1 then
      some (sl % 8, bsN s (b + 1) 1, mkRat (toSigned 16 (bsN s (b + 4) 2)) 10) else none)

/-- A paging input exceeds −50 dBFS in the block. -/
def loud (l : List Int) : Bool := l.any (fun x => decide (2 ^ 46 < x * x * 100000))

/-- Zone `z` of the block: the voices' stereo samples by priority class, and the paging input. -/
def mixZone (z : Nat) (voices : List (Nat × List (Nat × Rat × Rat))) (paging : List (List Int)) (s : State) : State :=
  let b := 0x1000 + 16 * z
  let fl := bsN s b 1
  let zs := vget s.bs.zones z ZoneSt.init
  let routes := pagingRoutes s z
  let slot (k : Nat) : List Int := paging.getD k []
  let ducked := voices.any (fun v => decide (6 ≤ v.1)) || routes.any (fun r => decide (6 ≤ r.2.1) && loud (slot r.1))
  let full : Rat := mkRat (bsN s (b + 4) 2) 10
  let stepDb (ms : Nat) : Rat := full * 1000 / ((max 1 ms * bsFs s : Nat) : Rat)
  let duckOn := ducked && fl.testBit 2
  let duckAt (i : Nat) : Rat :=
    if duckOn then min full (zs.duck + stepDb (bsN s (b + 6) 2) * ((i + 1 : Nat) : Rat))
    else max 0 (zs.duck - stepDb (bsN s (b + 8) 2) * ((i + 1 : Nat) : Rat))
  let gain := dbG (mkRat (toSigned 16 (bsN s (b + 2) 2)) 10)
  let sample (i : Nat) : (Int × Bool) × (Int × Bool) :=
    let g := gain
    let d := dbG (-(duckAt i))
    let one (f : Rat × Rat → Rat) (p : Nat → Rat) : Rat :=
      let part (hi : Bool) : Rat :=
        sumR ((voices.filter (fun v => decide (6 ≤ v.1) == hi)).map (fun v => match v.2.find? (fun o => o.1 == i) with | some o => f o.2 | none => 0)) +
        sumR ((routes.filter (fun r => decide (6 ≤ r.2.1) == hi)).map (fun r => p r.1 * dbG r.2.2))
      (part true + part false * d) * g
    let pg (k : Nat) : Rat := mkRat ((slot k).getD i 0) 8388608
    let fin (r : Rat) : Int × Bool :=
      let x : Int := if r = 0 || fl.testBit 1 || !fl.testBit 0 then 0 else Config.roundAudio (r * 8388608)
      (clampInt (-8388608) 8388607 x, decide (x < -8388608) || decide (8388607 < x))
    (fin (one (·.1) pg), fin (one (·.2) pg))
  let o := (List.range 32).map sample
  let quiet := s.mode.mode == .bringup || s.mode.mode == .dormant
  let sat := (o.map (fun p => b2n p.1.2 + b2n p.2.2)).sum
  let peak := routes.foldl (fun (m : Int) r => (slot r.1).foldl (fun m x => max m x.natAbs) m) 0
  let after : ZoneSt := { duck := duckAt 31, ducked := ducked, sat := zs.sat + sat, page := if routes.isEmpty then 0 else Config.pageLevel zs.page peak
                          out := if quiet then List.replicate 32 (0, 0) else o.map (fun p => (p.1.1, p.2.1)) }
  modBs (fun bs => { bs with zones := vput bs.zones z after }) s

/-- The slots of one frame of output port `p`, from sample `i` of the last block (R396). -/
def tdmFrame (s : State) (p i : Nat) : List Int :=
  let at_ (z : Nat) : Int × Int := (vget s.bs.zones z ZoneSt.init).out.getD i (0, 0)
  if bsN s (0x1000 + 64 * p + 1) 1 % 4 = 1 then [(at_ (4 * p)).1, (at_ (4 * p)).2]
  else (List.range 4).flatMap (fun k => [(at_ (4 * p + k)).1, (at_ (4 * p + k)).2])

/-! ### Shedding and lost voices (R381, R393) -/

/-- Shed voices of a core until they fit: lowest priority first, then R379's keys. -/
def shedCore (core : Nat) : Nat → State → State
  | 0, s => s
  | f + 1, s =>
    let l := (liveVoices s).filter (fun x => voiceCore x.1 == core && x.2.busy && decide (x.2.prio < 7) && x.2.rampAt.isNone)
    let ramping := ((s.bs.voices.toList.zipIdx.filter (fun x => voiceCore x.2 == core && x.1.rampAt.isSome && x.1.next.isNone)).map (fun x =>
      match x.1.req with | some r => reqUnits r | none => 0)).sum
    if unitsUsed s core - ramping ≤ coreUnits s then s
    else
      let low := l.foldl (fun m x => min m x.2.prio) 8
      match firstCand (l.filter (fun x => x.2.prio = low)) with
      | none => s
      | some v => shedCore core f (rampVoice v s.bs.nextN (modBs (fun b => { b with shedCnt := satInc 16 b.shedCnt }) s))

/-- Mark the cue a lost voice served. -/
def markLost (v : Nat) (s : State) : State :=
  let f (x : CueSeen) : CueSeen := if x.voice = v && x.count = (voice s v).count then { x with lost := true } else x
  modBs (fun b => { b with seenKerb := b.seenKerb.map f, seenLift := b.seenLift.map f, seenNode := b.seenNode.map (fun p => (p.1, f p.2)) }) s

/-- A voice is lost without a ramp: a priority-7 announcement restarts (R385), any other ends with ABORT. -/
def loseVoice (v : Nat) (s : State) : State :=
  let x := voice s v
  if !x.busy then s
  else
    let again := match x.owner with | some r => if r.prio = 7 then some { r with start := some (bsNow s) } else none | none => none
    let s0 := markLost v s
    let s1 := endVoice v .abort (if again.isSome then modVoice v (fun x => { x with next := none }) s0 else dropNext v .abort s0)
    match again with
    | some r => allocReq r (modBs (fun b => { b with replayCnt := satInc 16 b.replayCnt }) s1)
    | none => s1

/-- Every voice of a core is lost (R393). -/
def loseCore (core : Nat) (s : State) : State :=
  (List.range 256).foldl (fun s v => if voiceCore v = core then loseVoice v s else s) s

/-- Entry to a mode: voices below its lowest priority ramp down with their waiting starts discarded (R392, R395), and voices that
do not exist in it are lost. -/
def bsMode (m : Mode) (s : State) : State :=
  let low := lowestPrio m
  let gone := s.bs.waiting.filter (fun r => r.prio < low)
  let s1 := gone.foldl (fun s r => discardReq r .abort s) (modBs (fun b => { b with waiting := b.waiting.filter (fun r => low ≤ r.prio) }) s)
  (List.range 256).foldl (fun s v =>
    let x := voice s v
    if !x.busy then s
    else if voiceCount m ≤ v then loseVoice v s
    else if x.prio < low then rampVoice v s.bs.nextN (dropNext v .abort s)
    else s) s1

/-! ### Commands (R386) -/

/-- The voice a HANDLE names, if it still does. -/
def byHandle (s : State) (h : Nat) : Option Nat :=
  let v := h % 256
  if (voice s v).busy && (voice s v).count = h / 256 then some v else none

/-- Answer RELEASE, KILL and SET_P. -/
def answerHandle (op h req : Nat) (f : Nat → State → State) (s : State) : State :=
  match byHandle s h with
  | some v => f v (bsEvent (Config.cmdAnswer op).toNat .ok h req s)
  | none => bsEvent 4 .refused h req s

/-- START. -/
def cmdStart (kind prio id note vel zones hold : Nat) (excl : Bool) (t req : Nat) (s : State) : State :=
  if 6 < prio || kind = 0 || 2 < kind then bsEvent 4 .refused 0 req s
  else submit { phrase := kind == 2, id := id, note := note, vel := vel, prio := prio, zones := zones, start := if t = 0 then none else some t
                hold := hold, excl := excl, cue := 0xFFFF, car := 0xFF, repeats := 0, gap := 0, src := .cmd req } s

/-- RELEASE. -/
def cmdRelease (h req : Nat) (s : State) : State := answerHandle 2 h req releaseAt s
/-- KILL. -/
def cmdKill (h req : Nat) (s : State) : State := answerHandle 3 h req (fun v s => rampVoice v s.bs.nextN s) s
/-- CUE. -/
def cmdCue (prio cue car t req : Nat) (s : State) : State :=
  if 6 < prio then bsEvent 4 .refused 0 req s else resolveCue cue car (if t = 0 then none else some t) false true (.cmd req) s
/-- SET_P. -/
def cmdSetP (h : Nat) (p0 p1 : Int) (req : Nat) (s : State) : State :=
  answerHandle 5 h req (fun v s => modVoice v (fun x =>
    if x.next.isSome then { x with nextP0 := p0, nextP1 := p1 } else { x with p0 := p0, p1v := p1 }) s) s

/-- Execute an entry. -/
def bsEntry (p : List Byte) (s : State) : State :=
  let req := le p 24 8
  let t := le p 16 8
  match le p 0 1 with
  | 1 => cmdStart (le p 6 1) (le p 1 1) (le p 2 2) (le p 4 1) (le p 5 1) (le p 8 2) (le p 10 2) ((le p 7 1).testBit 0) t req s
  | 2 => if 6 < le p 1 1 then bsEvent 4 .refused 0 req s else cmdRelease (le p 12 4) req s
  | 3 => if 6 < le p 1 1 then bsEvent 4 .refused 0 req s else cmdKill (le p 12 4) req s
  | 4 => cmdCue (le p 1 1) (le p 12 2) (le p 14 1) t req s
  | 5 => if 6 < le p 1 1 then bsEvent 4 .refused 0 req s else cmdSetP (le p 12 4) (toSigned 16 (le p 8 2)) (toSigned 16 (le p 10 2)) req s
  | _ => bsEvent 4 .refused 0 req s

/-- An entry may execute in the block that ends before sample `n`: a start at once, another at its T_START. -/
def entryDue (s : State) (n : Nat) (p : List Byte) : Bool :=
  let t := le p 16 8
  t == 0 || le p 0 1 == 1 || le p 0 1 == 4 || decide (sampleAt s t < n)

/-- Take entries of CMD_QID in order. -/
def bsPump (n : Nat) : Nat → State → State
  | 0, s => s
  | f + 1, s =>
    match s.bs.held with
    | some p => if entryDue s n p then bsPump n f (bsEntry p (modBs (fun b => { b with held := none }) s)) else s
    | none =>
      if s.bs.cmdQ = 0 then s
      else
        let r := qDequeue s.bs.cmdQ s
        let p := r.2.1
        if r.1.status == .ok then
          let s1 := (qAck s.bs.cmdQ 1 r.2.2).2
          if entryDue s1 n p then bsPump n f (bsEntry p s1) else modBs (fun b => { b with held := some p }) s1
        else if r.1.status == .abort then bsPump n f (bsEvent 4 .abort 0 (le p 24 8) (qAck s.bs.cmdQ 1 r.2.2).2)
        else r.2.2

/-! ### The block (sections Model, R366, R369) -/

/-- Publish the status record of a voice. -/
def bsPublish (s : State) : State :=
  (List.range 256).foldl (fun s v =>
    if (voice s v).busy then { s with mem := s.mem.writeBytes (bsBase + 0x40000 + 32 * v) (leBytes 32 (Config.voiceRecord v (voice s v).st.code).toNat) } else s) s

/-- Tables and frames that take effect at a block boundary (R388, R390). -/
def bsBoundary (s : State) : State :=
  let s1 := match s.bs.nextTabs with
    | some m => modBs (fun b => { b with tabs := m, nextTabs := none }) s
    | none => s
  let s2 := modBs (fun b => { b with inval := [] }) s1
  if s1.bs.inval.isEmpty then s2
  else
    let again (x : Voice) : Voice :=
      if !x.busy || x.st == .pending then x
      else
        { x with wtA := if s1.bs.inval.contains (x.patch.readN 2 1) then wtCopy s1 (x.patch.readN 2 1) else x.wtA
                 wtB := if s1.bs.inval.contains (x.patch.readN 3 1) then wtCopy s1 (x.patch.readN 3 1) else x.wtB }
    modBs (fun b => { b with voices := b.voices.map again }) s2

/-- A phrase voice sounds (R389). -/
def phraseSounds (s : State) : Bool := s.bs.voices.toList.any (fun x => x.busy && x.entry.isSome)

/-- AUDIO may power off in NIGHT again (Table 2.4). -/
def bsRest (s : State) : State :=
  if s.bs.woken && s.mode.mode == .night && !(s.bs.voices.toList.any (·.busy)) && s.bs.p7.isEmpty && s.bs.waiting.isEmpty then
    modBs (fun b => { b with woken := false }) s
  else s

/-- The block of 32 samples whose first sample is number `n`: the grid's error, the paging input, the phrase data that came, and the
cores whose partial misses the mixer's deadline. -/
def audioBlock (n : Nat) (align : Int) (paging : List (List Int)) (feeds : List (Nat × PhraseFeed)) (miss : List Nat) (s : State) : State :=
  if !islRuns s islAUDIO || s.mode.mode == .dormant then s
  else
    let s0 := bsBoundary (modBs (fun b => { b with nextN := n, alignNs := align }) s)
    let s1 := drainP7 16 (startWaiting (bsPump (n + 32) 64 s0))
    let s2 := [2, 3, 4, 5].foldl (fun s c => if islRuns s (islSC c) then shedCore c 64 s else s) s1
    let run := (List.range 256).foldl (fun (acc : List (Nat × Nat × List (Nat × Rat × Rat)) × State) v =>
      if !islRuns acc.2 (islSC (voiceCore v)) then acc
      else
        let zones := match (voice acc.2 v).req with | some r => r.zones | none => 0
        let prio := match (voice acc.2 v).req with | some r => r.prio | none => 0
        let r := voiceBlock v n (tget feeds v) acc.2
        if r.1.isEmpty then (acc.1, r.2)
        else (acc.1 ++ [(zones, prio, if miss.contains (voiceCore v) then [] else r.1)], r.2)) ([], modBs (fun b => { b with nextN := n + 32 }) s2)
    let s3 := (miss.filter (fun c => 2 ≤ c && c ≤ 5)).foldl (fun s _ => modBs (fun b => { b with underrunCnt := satInc 16 b.underrunCnt }) s) run.2
    let s4 := (List.range 16).foldl (fun s z => mixZone z ((run.1.filter (fun x => x.1.testBit z)).map (·.2)) paging s) s3
    bsRest (bsPublish s4)

/-! ### MIDI (R387) -/

/-- Change a channel. -/
def modMidi (ch : Nat) (f : MidiChan → MidiChan) (s : State) : State := modBs (fun b => { b with midi := vmod b.midi ch f }) s

/-- The voices of a channel, on one note or on all. -/
def midiVoices (s : State) (ch : Nat) (note : Option Nat) : List Nat :=
  (s.bs.voices.toList.zipIdx).filterMap (fun x => match x.1.owner with
    | some { src := .midi c k, .. } => if x.1.busy && c = ch && (note == none || note == some k) then some x.2 else none
    | _ => none)

/-- Note off. -/
def noteOff (ch note : Nat) (s : State) : State :=
  let hold := decide (64 ≤ (vget s.bs.midi ch MidiChan.init).cc64)
  (midiVoices s ch (some note)).foldl (fun s v =>
    if hold then modVoice v (fun x => if x.next.isSome then { x with nextHeld := true } else { x with held := true }) s else releaseAt v s) s

/-- Note on. -/
def noteOn (ch note vel : Nat) (s : State) : State :=
  if vel = 0 then noteOff ch note s
  else
    let b := 0x1200 + 8 * ch
    submit { phrase := false, id := (bsN s b 1 + (vget s.bs.midi ch MidiChan.init).program) % 256
             note := (note : Int) + toSigned 8 (bsN s (b + 2) 1), vel := vel, prio := min 5 (bsN s (b + 1) 1), zones := bsN s (b + 3) 2
             start := none, hold := 0, excl := false, cue := 0xFFFF, car := 0xFF, repeats := 0, gap := 0, src := .midi ch note } s

/-- A control change. -/
def controlChange (ch cc v : Nat) (s : State) : State :=
  match cc with
  | 1 => modMidi ch (fun m => { m with cc1 := v }) s
  | 11 => modMidi ch (fun m => { m with cc11 := v }) s
  | 16 => modMidi ch (fun m => { m with cc16 := v }) s
  | 17 => modMidi ch (fun m => { m with cc17 := v }) s
  | 64 =>
    let s1 := modMidi ch (fun m => { m with cc64 := v }) s
    if v < 64 then (midiVoices s1 ch none).foldl (fun s x =>
      let y := voice s x
      if (if y.next.isSome then y.nextHeld else y.held) then releaseAt x (modVoice x (fun y => { y with held := false, nextHeld := false }) s) else s) s1
    else s1
  | 120 => (midiVoices s ch none).foldl (fun s v => rampVoice v s.bs.nextN s) s
  | 123 => (midiVoices s ch none).foldl (fun s v => releaseAt v s) s
  | _ => s

/-- 300 ms without a byte after active sensing. -/
def sensingTimeout (s : State) : State :=
  if !s.bs.sensing then s
  else (List.range 16).foldl (fun s ch => (midiVoices s ch none).foldl (fun s v => releaseAt v s) s) (modBs (fun b => { b with sensing := false }) s)

/-! ### APPLY (R388, Tables 15.7 to 15.10) -/

/-- Check one record: the first failing 16-byte unit. -/
def recBad (m : Memory) (b : Nat) (checks : List (Nat × (Memory → Nat → Bool))) : Option Nat :=
  (checks.find? (fun c => c.2 m b)).map (fun c => (b + c.1) / 16)

/-- Outside a range. -/
def outN (x lo hi : Nat) : Bool := decide (x < lo) || decide (hi < x)
/-- Outside a signed 16-bit range. -/
def outI (x : Nat) (lo hi : Int) : Bool := decide (toSigned 16 x < lo) || decide (hi < toSigned 16 x)

/-- A patch record. -/
def patchBad (m : Memory) (i : Nat) : Option Nat :=
  let b := 0x20000 + 256 * i
  let n (o k : Nat) : Nat := m.readN (b + o) k
  let bad (o : Nat) (c : Bool) : Option Nat := if c then some ((b + o) / 16) else none
  if !(n 0 1).testBit 0 then none
  else
    (bad 0 (64 ≤ n 0 1 || 4 < n 1 1 || outI (n 4 2) (-4800) 4800 || outI (n 6 2) (-4800) 4800)).orElse fun _ =>
    (bad 16 (13300 < n 20 2 || outN (n 22 2) 128 10240)).orElse fun _ =>
    (bad 76 ([76, 80].any (fun o => 4 < n o 1 || n (o + 1) 1 ≠ 0 || outN (n (o + 2) 2) 1 10000))).orElse fun _ =>
    (((List.range 16).find? (fun k => 23 < n (84 + 4 * k) 1 || 31 < n (85 + 4 * k) 1)).map (fun k => (b + 84 + 4 * k) / 16)).orElse fun _ =>
    (bad 150 (n 150 106 ≠ 0))

/-- A zone record. -/
def zoneBad (m : Memory) (z : Nat) : Option Nat :=
  let b := 0x1000 + 16 * z
  let n (o k : Nat) : Nat := m.readN (b + o) k
  if 8 ≤ n 0 1 || (if z % 4 = 0 then 2 ≤ n 1 1 else n 1 1 ≠ 0) || ((n 0 1).testBit 0 && (outI (n 2 2) (-960) 120 || 600 < n 4 2 || outN (n 6 2) 1 1000 ||
      outN (n 8 2) 10 10000)) || n 10 6 ≠ 0 then some (b / 16) else none

/-- A MIDI channel record, and a paging route. -/
def midiBad (m : Memory) (i : Nat) : Option Nat :=
  let b := 0x1200 + 8 * i
  if 5 < m.readN (b + 1) 1 || m.readN (b + 5) 3 ≠ 0 then some (b / 16) else none
def routeBad (m : Memory) (i : Nat) : Option Nat :=
  let b := 0x1400 + 8 * i
  let sl := m.readN b 1
  if sl.testBit 7 && (8 ≤ sl % 128 || 7 < m.readN (b + 1) 1 || m.readN (b + 6) 2 ≠ 0) then some (b / 16) else none

/-- A cue entry: its fields, its patch and its zones. -/
def cueBad (m : Memory) (i : Nat) : Option Nat :=
  let b := 0x10000 + 16 * i
  let n (o k : Nat) : Nat := m.readN (b + o) k
  let zoneUnused := (List.range 16).any (fun z => (n 8 2).testBit z && !(m.readN (0x1000 + 16 * z) 1).testBit 0)
  if n 0 1 = 0 then none
  else if 2 < n 0 1 || 7 < n 1 1 || 127 < n 4 1 || 127 < n 5 1 || 15 < n 6 1 || 8 ≤ n 7 1 || 1000 < n 14 2 ||
      (n 0 1 = 1 && (255 < n 2 2 || !(m.readN (0x20000 + 256 * n 2 2) 1).testBit 0)) || (n 0 1 = 2 && 4095 < n 2 2) || zoneUnused then some (b / 16)
  else none

/-- A wavetable directory entry: its frames lie in Plaza SRAM. -/
def wtBad (m : Memory) (i : Nat) : Option Nat :=
  let b := 0x30000 + 16 * i
  let n (o k : Nat) : Nat := m.readN (b + o) k
  if n 10 1 = 0 then none
  else if 1 < n 10 1 || outN (n 8 2) 1 256 || n 0 8 % 64 ≠ 0 || !inSram (n 0 8) (4096 * n 8 2) || n 11 5 ≠ 0 then some (b / 16)
  else none

/-- KERB_QID names a queue without KERB as producer owner. -/
def kerbQBad (s : State) : Bool :=
  s.bs.kerbQ ≠ 0 && (match qGet s s.bs.kerbQ with | some q => q.cfg.prod != islKERB | none => true)

/-- The first failing field ÷ 16. -/
def bsBad (m : Memory) (s : State) : Option Nat :=
  ((List.range 16).findSome? (zoneBad m)).orElse fun _ => ((List.range 16).findSome? (midiBad m)).orElse fun _ =>
  ((List.range 8).findSome? (routeBad m)).orElse fun _ => ((List.range 4096).findSome? (cueBad m)).orElse fun _ =>
  ((List.range 256).findSome? (patchBad m)).orElse fun _ => ((List.range 256).findSome? (wtBad m)).orElse fun _ =>
  if kerbQBad s then some 1 else none

/-- APPLY: it takes effect at the next block boundary. -/
def bsApply (s : State) : State :=
  let m := blockTables bsBase 0x1000 0x40000 s
  match bsBad m s with
  | some r => modBs (fun b => { b with result := .refused, refuseAt := r % 4096 }) s
  | none => modBs (fun b => { b with result := .ok, refuseAt := 0, nextTabs := some m }) s

/-- STOP_ALL. -/
def stopAll (s : State) : State :=
  (List.range 256).foldl (fun s v => if (voice s v).busy && (voice s v).prio ≤ 5 then rampVoice v s.bs.nextN s else s) (modBs (fun b => { b with result := .ok }) s)

/-- Parse the phrase directory. -/
def parseDir (b : List Byte) : List PhraseEntry :=
  (List.range (b.length / 16)).map (fun i =>
    let o := 16 * i
    { offset := le b o 4, length := le b (o + 4) 4, format := le b (o + 8) 1, rate := le b (o + 10) 2, gain := toSigned 16 (le b (o + 12) 2) })

/-- PHRASE_RELOAD with the directory's bytes in flash. -/
def phraseReload (dir : List Byte) (s : State) : State :=
  if phraseSounds s then modBs (fun b => { b with reload := true, result := .busy }) s
  else modBs (fun b => { b with dir := parseDir dir, reload := false, result := .ok }) s

/-- A deferred PHRASE_RELOAD. -/
def phraseDeferred (dir : List Byte) (s : State) : State := if s.bs.reload then phraseReload dir s else s

/-! ### Registers (Table 15.6) -/

/-- Read. -/
def bsRead (o : Nat) (s : State) : Option Word :=
  let b := s.bs
  let act (p : Voice → Bool) : Nat := (b.voices.toList.filter p).length
  if o = 0 then some 0
  else if o = 8 then
    some (packWord [(60, statusCode b.result), (48, b.refuseAt), (32, act (·.busy)), (16, act (fun x => x.busy && x.prio == 7)),
      (0, maskOf (b.zones.toList.map (·.ducked)))])
  else if o = 16 then some (packWord [(32, b.kerbQ), (16, b.evtQ), (0, b.cmdQ)])
  else if o = 24 then some (packWord [(48, b.stealCnt), (32, b.refuseCnt), (16, b.shedCnt), (0, b.underrunCnt)])
  else if o = 32 then some (packWord [(48, b.cueDupCnt), (32, b.replayCnt), (16, b.lateCnt), (0, b.phraseErrCnt)])
  else if o = 40 then some (packWord [(32, ofSigned 32 b.alignNs), (0, 96)])
  else if o = 48 then some b.phraseReg
  else none

/-- What a read clears (RC). -/
def bsReadEffect (o : Nat) (s : State) : State :=
  if o = 24 then modBs (fun b => { b with stealCnt := 0, refuseCnt := 0, shedCnt := 0, underrunCnt := 0 }) s
  else if o = 32 then modBs (fun b => { b with cueDupCnt := 0, replayCnt := 0, lateCnt := 0, phraseErrCnt := 0 }) s
  else s

/-- BS_CTL; `dir` is what the flash holds where a PHRASE_RELOAD reads. -/
def bsCtl (w : Word) (dir : List Byte) (s : State) : State :=
  if bits w 63 56 ≠ 0x42 then s
  else match bits w 2 0 with
    | 1 => bsApply s
    | 2 => modBs (fun b => { b with inval := b.inval ++ [bits w 15 8], result := .ok }) s
    | 3 => stopAll s
    | 4 => phraseReload dir s
    | _ => s

/-- Write; a PHRASE_RELOAD so issued reads the flash when its bytes come (PHRASE_RELOAD_DEFERRED). -/
def bsWrite (o : Nat) (w : Word) (s : State) : State :=
  if o = 0 then (if bits w 2 0 = 4 then (if bits w 63 56 = 0x42 then modBs (fun b => { b with reload := true, result := .busy }) s else s) else bsCtl w [] s)
  else if o = 16 then modBs (fun b => { b with kerbQ := bits w 45 32, evtQ := bits w 29 16, cmdQ := bits w 13 0 }) s
  else if o = 48 then
    let v := packWord [(63, bits w 63 63), (0, bits w 31 0)]
    modBs (fun b => { b with phraseReg := v, phraseNvm := v }) s
  else s

/-! ### Reset and start (R395) -/

/-- AUDIO restarts: registers and voices take their reset values; what R385 keeps in Plaza SRAM stays. -/
def bsReset (s : State) : State :=
  modBs (fun b => { BsState.init with
    phraseReg := b.phraseReg, phraseNvm := b.phraseNvm, tabs := b.tabs, dir := b.dir, seenKerb := b.seenKerb, seenLift := b.seenLift
    seenNode := b.seenNode, nextN := b.nextN, woken := b.woken
    voices := b.voices.map (fun x => { Voice.init with count := x.count }) }) s

/-- Bring-up step 8. -/
def bsStep8 (dir : List Byte) (s : State) : State :=
  let s1 := bsApply (modBs (fun b => { b with
    dir := parseDir dir, phraseReg := b.phraseNvm, voices := b.voices.map (fun x => { Voice.init with count := x.count }), waiting := [], p7 := [] }) s)
  match s1.bs.nextTabs with
  | some m => modBs (fun b => { b with tabs := m, nextTabs := none }) s1
  | none => s1

end Sys2Proof.Machine
end

