-- ==== Sys2Proof/Machine/CarOps.lean ====
section
/-! DEFINITION. The car controller: position, corrections, runs, doors, permits, faults, inspection, recall, learn and
correction runs, energy, set-points and the lift block (chapter 11). -/
namespace Sys2Proof.Machine
open Sys2Proof

/-! ### Commands to the axes of a car (Table 12.4) -/

/-- A command for an axis's next servo instant. -/
def sendAxis (a op flags vcap : Nat) (target arg : Int) (s : State) : State :=
  modAxis a (fun x => { x with cmds := x.cmds ++ [{ op := op, flags := flags, vcap := vcap, target := target, req := 0, arg := arg }] }) s

/-- The car is under inspection: by the mode or by its Kerb input (R287). -/
def inspected (s : State) (c : Nat) : Bool := s.mode.mode == .inspection || kerbCtl s (16 + c)

/-- Speed cap of a car's profile in u/s: INSP_SPEED under inspection, else RATED_SPEED. -/
def carCap (s : State) (c : Nat) : Nat := 10 * (if inspected s c then min (carN s c 40 2) (carN s c 32 4) else carN s c 32 4)

/-- MOVE_ABS of a car profile. -/
def carMove (c : Nat) (x : Int) (cap : Nat) (s : State) : State := sendAxis (16 + c) 1 0 cap x 0 s

/-- Start a run of the car: motion only while MOVE_PERMIT is 1 (R261). -/
def startRun (c : Nat) (k : RunKind) (x : Int) (cap : Nat) (s : State) : State :=
  carMove c x cap (modCar c (fun q => { q with
    runFor := some k, landing := none, dir := if q.pos < x then 1 else if x < q.pos then 2 else q.dir, tripUs := 0, tripMax := 0, idleUs := 0 }) s)

/-- The door axes of a car on the sides of a mask. -/
def sideDoors (s : State) (c sides : Nat) : List Nat := ((carDoors s c).filter (fun d => sides.testBit d.1)).map (·.2)

/-- MOVE_ABS of doors to OPEN_POS or CLOSED_POS. -/
def doorsTo (c sides : Nat) (opening : Bool) (s : State) : State :=
  (sideDoors s c sides).foldl (fun s a => sendAxis a 1 0 0 (ddI s a (if opening then 48 else 56) 8) 0 s) s

/-- Every door of the mask is IDLE at OPEN_POS or CLOSED_POS, with no command waiting. -/
def doorsAt (s : State) (c sides : Nat) (opening : Bool) : Bool :=
  (sideDoors s c sides).all (fun a =>
    (axis s a).st == .idle && (axis s a).sp == ddI s a (if opening then 48 else 56) 8 && (axis s a).cmds.isEmpty)

/-- Every door of a car is closed. -/
def carClosed (s : State) (c : Nat) : Bool :=
  (carDoors s c).all (fun d => (axis s d.2).sp == ddI s d.2 56 8 && (axis s d.2).st != .moving && (axis s d.2).st != .geared)

/-! ### Energy (R276) -/

/-- Read E_IMP and E_EXP of the drive's point (R216), with whether the reading is good. -/
def readEnergy (s : State) (c : Nat) : Option EnergyRead :=
  let p := carN s c 84 1
  if p = 0xFF then none
  else
    let fl := ptN s p 12 4
    let age : Int := (s.time.centre : Int) - (ptN s p 0 8 : Nat)
    some { imp := (ptN s p 16 8 : Nat), exp := (ptN s p 24 8 : Nat), epoch := fl / 2 ^ 16
           good := fl.testBit 4 && !fl.testBit 5 && decide (age ≤ 1000000 * (carN s c 58 2 : Nat)) && decide (0 ≤ age), pos := (car s c).pos }

/-- 200 ms after level: the second reading and the update of E. -/
def tripEnergy (c : Nat) (s : State) : State :=
  let k := car s c
  match k.energy, readEnergy s c with
  | some a, some b =>
    let dist := mkRat ((b.pos - a.pos).natAbs) 10000
    let s1 := modCar c (fun k => { k with energy := none }) s
    if dist < 1 || !a.good || !b.good || a.epoch ≠ b.epoch || k.landing.isNone then s1
    else
      let per := (((b.imp - a.imp) - (b.exp - a.exp) : Int) : Rat) / 1000 / dist
      let upd (e : Option Rat) : Option Rat := some (match e with | none => per | some x => x + (per - x) / 8)
      modCar c (fun k => if k.energyUp then { k with eUp := upd k.eUp, trips := add32 k.trips 1 } else { k with eDn := upd k.eDn, trips := add32 k.trips 1 }) s1
  | _, _ => modCar c (fun k => { k with energy := none }) s

/-! ### Faults (R289, Table 11.11) -/

/-- Car calls are cancelled; hall and destination calls go back to the dispatcher. -/
def releaseCalls (c : Nat) (s : State) : State :=
  let g := carGroup s c
  let sl := carSlot s c
  modGrp g (fun q => { q with calls := q.calls.map (fun y => if y.slot == some sl then { y with slot := none } else y) })
    (modCar c (fun k => { k with calls := [], next := none, committed := false }) s)

/-- A car fault. -/
def carFault (c code : Nat) (s : State) : State :=
  let k := car s c
  if k.st == .fault || k.st == .off || !carUsed s c then s
  else
    let ax := axis s (16 + c)
    let s1 := if ax.st == .moving || ax.st == .homing || ax.st == .geared then
        faultStop (16 + c) .stopped (modAxis (16 + c) (fun x => { x with home := none }) s) else s
    let learning := k.st == .learn
    let s2 := modCar c (fun k => { k with
      st := .fault, fault := code, runFor := none, adv := false, energy := none
      posValid := k.posValid && !(code == 1 || code == 2) }) (releaseCalls c s1)
    liftEvent c code (if learning then .refused else .ok) 0 s2

/-! ### Position (R262 to R265) -/

/-- Gray code to binary. -/
def ungray (bits : Nat) : Nat → Nat
  | x => (List.range bits).foldl (fun a i => a ^^^ (x / 2 ^ (i + 1))) x

/-- Read an SSI word. -/
def ssiRead (c : Nat) (r : SsiRead) (s : State) : Bool × State :=
  let k := car s c
  let n := carN s c 6 1
  match r with
  | .unused => (true, s)
  | .notReady => (false, modCar c (fun k => { k with ssiOk := 0 }) s)
  | .word w0 =>
    let w := if (carN s c 7 1).testBit 0 then ungray n (w0 % 2 ^ n) else w0 % 2 ^ n
    match k.raw with
    | none => (true, modCar c (fun k => { k with raw := some w, u := w, ssiOk := k.ssiOk + 1 }) s)
    | some old =>
      let d := toSigned n ((w + 2 ^ n - old % 2 ^ n) % 2 ^ n)
      if 2 ^ (n - 2) < d.natAbs then (false, modCar c (fun k => { k with raw := some w, ssiOk := 0 }) s)
      else (true, modCar c (fun k => { k with raw := some w, u := k.u + d, ssiOk := k.ssiOk + 1 }) s)

/-- The position from the incremental encoder, and from the SSI encoder. -/
def posInc (s : State) (c : Nat) : Int := (car s c).origin + roundR (mkRat (carI s c 16 8 * (car s c).count) (2 ^ 32))
def posSsi (s : State) (c : Nat) (age : Rat) : Int :=
  (car s c).ssiOrigin + roundR (mkRat (carI s c 24 8 * (car s c).u) (2 ^ 32) + (car s c).vel * age)

/-- The primary source is SSI. -/
def ssiPrimary (s : State) (c : Nat) : Bool := carN s c 3 1 % 4 == 2

/-- Shift the car position frame by `e` (R265, R307). -/
def shiftFrame (c : Nat) (e : Int) (s : State) : State :=
  frameShift (16 + c) e (modCar c (fun k =>
    if ssiPrimary s c then { k with ssiOrigin := k.ssiOrigin + e, pos := k.pos + e } else { k with origin := k.origin + e, pos := k.pos + e }) s)

/-- Read the encoders, apply a correction, and compare the sources; an SSI car takes POS_VALID at its first good read (R291). -/
def positionStep (c us : Nat) (inc : Int) (both : Bool) (ssi : SsiRead) (ageNs : Nat) (s : State) : State :=
  let r := ssiRead c ssi (modCar c (fun k => { k with count := k.count + inc, encOkUs := if both then 0 else k.encOkUs + us }) s)
  let k0 := car r.2 c
  let src := carN s c 3 1
  let age := mkRat ageNs 1000000000
  let p := if ssiPrimary s c then posSsi r.2 c age else posInc r.2 c
  let o := if ssiPrimary s c then posInc r.2 c else posSsi r.2 c age
  let s1 := modCar c (fun k => { k with
    pos := p, vel := ((p - k0.pos : Int) : Rat) * 1000000 / (us : Rat)
    mism := if src.testBit 2 && decide ((carN s c 54 2 : Nat) < (p - o).natAbs) then k.mism + 1 else 0 }) r.2
  let s2 := if k0.corr ≠ 0 then
      let s2 := modCar c (fun k => { k with corr := 0 }) (shiftFrame c k0.corr s1)
      match k0.next with
      | some j => if k0.runFor.isSome then carMove c (flLevel k0.floor j) (carCap s c) s2 else s2
      | none => s2
    else s1
  let s3 := if both && (src % 4 = 1 || src.testBit 2) then carFault c 3 s2 else s2
  let s4 := if !r.1 then carFault c 4 s3
    else if ssiPrimary s c && k0.refd && (car s c).raw.isNone && !k0.posValid then
      modCar c (fun k => { k with
        posValid := true, landing := (List.range (flLandings k.floor)).find? (fun j => gap k.pos (flLevel k.floor j) ≤ carN s c 52 2) }) s3
    else s3
  if 3 ≤ (car s4 c).mism then carFault c 2 s4 else s4

/-- An edge of DZ_n, `t` ns after the last servo instant (R265, R266). -/
def dzEdge (c : Nat) (rising : Bool) (t : Nat) (s : State) : State :=
  let k := car s c
  let s0 := modCar c (fun k => { k with dz := rising }) s
  if !carUsed s c || !islRuns s islMOTION then s0
  else
    let cap := roundR ((k.pos : Rat) + k.vel * mkRat t 1000000000)
    let up := decide (0 < k.vel)
    let s1 := if k.runFor == some .learnUp || k.runFor == some .learnDown then
        modCar c (fun k => { k with caps := k.caps ++ [(k.runFor == some .learnUp, rising, cap)] }) s0 else s0
    if !rising || absR k.vel < 500 || k.st == .learn && k.runFor != some .learnHome then s1
    else
      let field (j : Nat) : Int := toSigned 64 (k.floor.readN (64 + 32 * j + (if up then 8 else 16)) 8)
      match (List.range (flLandings k.floor)).foldl (fun (b : Option Nat) j => match b with
        | none => some j
        | some i => if gap (field j) cap < gap (field i) cap then some j else some i) none with
      | none => s1
      | some j =>
        let e := field j - cap
        if e.natAbs ≤ carN s c 52 2 then
          modCar c (fun k => { k with
            corr := k.corr + e, corrCnt := add32 k.corrCnt 1, corrLast := e, posValid := k.posValid || k.refd }) s1
        else carFault c 1 s1

/-! ### Floor tables (R266 to R268) -/

/-- The car controller reads its live floor table; a table that is not valid for the group is a fault. -/
def loadFloor (c : Nat) (s : State) : State :=
  let m := tableCopy s (liveFloor c) 0x1040
  let s1 := modCar c (fun k => { k with floor := m, adopt := false, reload := false }) s
  if m.readN 5 1 = 0 || flLandings m ≠ grpN s (carGroup s c) 1 1 then carFault c 9 s1 else s1

/-- Copy a table from NVM to the live copy. -/
def floorFromNvm (c : Nat) (s : State) : State :=
  { s with mem := (s.mem.clear (liveFloor c) (liveFloor c + 0x1040)).writeBytes (liveFloor c) (s.mem.bytes (nvmFloor c) 0x1040) }

/-- FLOOR_RELOAD of one car: the live copy goes to NVM with its trims applied to LEVEL, and is read. -/
def floorReload (c : Nat) (s : State) : State :=
  let old := (car s c).floor
  let m := (List.range (flLandings old)).foldl (fun (m : Memory) j =>
    let a := liveFloor c + 64 + 32 * j
    let d := toSigned 16 (m.readN (a + 26 - 2) 2) - toSigned 16 (old.readN (64 + 32 * j + 24) 2)
    m.writeN a 8 (ofSigned 64 (toSigned 64 (m.readN a 8) + d))) s.mem
  let s1 := { s with mem := (m.clear (nvmFloor c) (nvmFloor c + 0x1040)).writeBytes (nvmFloor c) (m.bytes (liveFloor c) 0x1040) }
  loadFloor c s1

/-- The car is PARKED or OFF. -/
def carResting (k : Car) : Bool := k.st == .parked || k.st == .off

/-- FLOOR_RELOAD: deferred for a car in any other state. -/
def reloadCars (m : Nat) (s : State) : State :=
  let cars := setBitsBelow 8 m
  let s1 := cars.foldl (fun s c => if carResting (car s c) then floorReload c s else modCar c (fun k => { k with reload := true }) s) s
  modLift (fun l => { l with result := if cars.all (fun c => carResting (car s c)) then .ok else .busy }) s1

/-- ENERGY_RESET. -/
def energyReset (m : Nat) (s : State) : State :=
  modLift (fun l => { l with result := .ok })
    ((setBitsBelow 8 m).foldl (fun s c => modCar c (fun k => { k with eUp := none, eDn := none }) s) s)

/-! ### Learn and correction runs -/

/-- Post the outcome of a learn run. -/
def learnEnd (c : Nat) (ok : Bool) (s : State) : State :=
  liftEvent c 5 (if ok then .ok else .refused) 0 (modCar c (fun k => { k with st := .off, runFor := none, caps := [] }) s)

/-- Positions of one kind of edge of a pass, in the order travelled. -/
def edgesOf (caps : List (Bool × Bool × Int)) (up rising : Bool) : List Int :=
  (caps.filter (fun e => e.1 == up && e.2.1 == rising)).map (fun e => e.2.2)

/-- The checks and the table of R266, steps 4 to 6. -/
def learnComplete (c : Nat) (s : State) : State :=
  let k := car s c
  if k.st != .learn || k.runFor != some .learnDone then s
  else
    let n := grpN s (carGroup s c) 1 1
    let inU := edgesOf k.caps true true
    let outU := edgesOf k.caps true false
    let inD := (edgesOf k.caps false true).reverse
    let outD := (edgesOf k.caps false false).reverse
    let cnt := inU.length == n && outU.length == n && inD.length == n && outD.length == n
    let lenOk (p : Int × Int) : Bool := decide (500 ≤ gap p.1 p.2) && decide (gap p.1 p.2 ≤ 5000)
    let lens := (inU.zip outU).all lenOk && (inD.zip outD).all lenOk
    let at_ (l : List Int) (j : Nat) : Int := l.getD j 0
    let mean (j : Nat) : Rat := mkRat (at_ inU j + at_ outU j + at_ inD j + at_ outD j) 4
    let whole (r : Rat) : Int := wholeOr Config.roundLevel r
    let trim (j : Nat) : Int := toSigned 16 (k.floor.readN (64 + 32 * j + 24) 2)
    let level (j : Nat) : Int := whole (mean j - mean 0 + trim j)
    let apart := (List.range (n - 1)).all (fun j => decide (5000 ≤ level (j + 1) - level j))
    if !(cnt && lens && apart) then learnEnd c false s
    else
      let ref := whole (-(mean 0))
      let entry (j : Nat) : List Byte :=
        leBytes 8 (ofSigned 64 (level j)) ++ leBytes 8 (ofSigned 64 (whole ((at_ inU j : Rat) - mean 0))) ++
        leBytes 8 (ofSigned 64 (whole ((at_ inD j : Rat) - mean 0))) ++ (k.floor.bytes (64 + 32 * j + 24) 8)
      let head := leBytes 4 0x464C5431 ++ leBytes 1 n ++ leBytes 1 1 ++ leBytes 2 0 ++ leBytes 8 s.time.centre ++
        leBytes 8 (ofSigned 64 ref) ++ leBytes 8 (if carN s c 3 1 % 4 = 1 && !(carN s c 3 1).testBit 2 then 0 else ofSigned 64 (k.ssiOrigin + ref)) ++
        leBytes 32 0
      let bytes := head ++ ((List.range n).map entry).flatten
      let s1 := { s with mem := (s.mem.clear (nvmFloor c) (nvmFloor c + 0x1040)).writeBytes (nvmFloor c) bytes }
      let s2 := shiftFrame c ref s1
      liftEvent c 5 .ok k.learnReq (startRun c .learnHome (level 0) (10 * carN s c 42 2)
        (modCar c (fun k => { k with adopt := true, caps := [] }) s2))

/-- LEARN_RUN is accepted (R266). -/
def learnStart (c req : Nat) (s : State) : Bool × State :=
  let k := car s c
  if carUsed s c && k.st == .off && permit s c 0 && (s.mode.mode == .service || s.mode.mode == .inspection) then
    (true, sendAxis (16 + c) 5 0 (10 * carN s c 42 2) 0 0 (modCar c (fun k => { k with
      st := .learn, runFor := some .learnRef, caps := [], learnReq := req, fault := 0, posValid := false, refd := false }) s))
  else (false, s)

/-- CORRECTION_RUN is accepted (R267). -/
def correctStart (c : Nat) (s : State) : Bool × State :=
  let k := car s c
  if carUsed s c && k.st == .off && permit s c 0 then
    let ref := toSigned 64 (k.floor.readN 16 8)
    (true, sendAxis (16 + c) 5 0 (10 * carN s c 42 2) 0 ref (modCar c (fun k => { k with
      st := .learn, runFor := some .correct, fault := 0, posValid := false, refd := false }) s))
  else (false, s)

/-- The profile is IDLE with nothing waiting. -/
def profileIdle (s : State) (c : Nat) : Bool := (axis s (16 + c)).st == .idle && (axis s (16 + c)).cmds.isEmpty

/-- A learn or correction run at a servo instant. -/
def learnStep (c : Nat) (s : State) : State :=
  let k := car s c
  let ax := axis s (16 + c)
  let far : Int := if axI s (16 + c) 88 8 < axI s (16 + c) 96 8 then axI s (16 + c) 96 8 else 2 ^ 40
  let low : Int := if axI s (16 + c) 88 8 < axI s (16 + c) 96 8 then axI s (16 + c) 88 8 else -(2 ^ 40)
  let cap := 10 * carN s c 42 2
  let restart (r : RunKind) (x : Int) : State :=
    sendAxis (16 + c) 4 0 0 0 0 (carMove c x cap (modCar c (fun k => { k with runFor := some r }) s))
  match k.runFor with
  | some .learnRef => if profileIdle s c && k.refd then carMove c far cap (modCar c (fun k => { k with runFor := some .learnUp }) s) else s
  | some .learnUp =>
    if ax.limHi && ax.st == .stopped && ax.cmds.isEmpty then restart .learnDown low
    else if profileIdle s c && ax.sp == far then carMove c low cap (modCar c (fun k => { k with runFor := some .learnDown }) s) else s
  | some .learnDown =>
    if (ax.limLo && ax.st == .stopped && ax.cmds.isEmpty) || (profileIdle s c && ax.sp == low) then modCar c (fun k => { k with runFor := some .learnDone }) s else s
  | some .learnHome =>
    if ax.st == .stopped && ax.cmds.isEmpty then sendAxis (16 + c) 4 0 0 0 0 s
    else if profileIdle s c then modCar c (fun k => { k with st := .off, runFor := none }) s else s
  | some .correct =>
    if profileIdle s c && k.refd then modCar c (fun k => { k with st := .off, runFor := none }) s else s
  | _ => s

/-! ### Permits (R261) -/

/-- The permit a car's present action needs, where it is 0. -/
def permitMissing (s : State) (c : Nat) : Bool :=
  let k := car s c
  (k.st == .running && !permit s c 0) || (k.st == .doors && k.door == .opening && !permit s c 1)

/-- A permit falls: the axes it gates stop, and the car enters HELD. -/
def permitFall (c p : Nat) (s : State) : State :=
  if permit s c p || !carUsed s c || !islRuns s islMOTION then s
  else
    let s1 := (List.range 24).foldl (fun s a => if axUsed s a && axCar s a = c then permitActions a s else s) s
    if permitMissing s1 c then modCar c (fun k => { k with heldFrom := k.st, st := .held }) s1 else s1

/-- A permit returns: the held car continues to the same stop by RESUME. -/
def permitRise (c p : Nat) (s : State) : State :=
  let k := car s c
  if !permit s c p || k.st != .held || !islRuns s islMOTION then s
  else
    let s1 := modCar c (fun k => { k with st := k.heldFrom }) s
    if permitMissing s1 c then s
    else if k.heldFrom == .running then sendAxis (16 + c) 4 0 0 0 0 s1
    else (sideDoors s1 c k.sides).foldl (fun s a => if (axis s a).st == .stopped then sendAxis a 4 0 0 0 0 s else s) s1

/-! ### The state machine of a car in service -/

/-- The next stop of a car: its route's first. -/
def pickNext (s : State) (c : Nat) : Option Nat := ((carRoute s c).head?).map (·.2)

/-- The sides a stop opens: the union of its calls' sides served at the landing (R285). -/
def stopSides (k : Car) (j : Nat) : Nat := ((k.calls.filter (fun x => x.landing == j)).foldl (fun a x => a ||| x.side) 0) &&& flSides k.floor j

/-- A call of landing `j` is served in the car's direction of departure. -/
def servedHere (k : Car) (j : Nat) (x : StopCall) : Bool :=
  x.landing == j && (match callDir x.kind with
    | none => true
    | some u => k.dir == 0 || (k.dir == 1) == u || !(k.calls.any (fun y => y.landing != j && (decide (flLevel k.floor j < flLevel k.floor y.landing) == (k.dir == 1)))))

/-- The doors begin to open at a landing: its calls are cleared, and pickups become drop-offs (R269). -/
def clearStop (c j : Nat) (s : State) : State :=
  let k := car s c
  let done := k.calls.filter (servedHere k j)
  let drops := done.filterMap (fun x => match x.kind with
    | .pick _ => some { x with kind := .drop, landing := x.dest, id := 0 }
    | _ => none)
  let s1 := modCar c (fun k => { k with calls := k.calls.filter (fun x => !servedHere k j x) }) s
  let s2 := drops.foldl (fun s x => addCall c x s) s1
  done.foldl (fun s x => clearCall (carGroup s c) x.id s) s2

/-- Begin to open the doors at a landing, under DOOR_PERMIT. -/
def beginOpen (c j sides : Nat) (s : State) : State :=
  let s1 := modCar c (fun k => { k with st := .doors, door := .opening, sides := sides, landing := some j, next := none, committed := false, runFor := none }) s
  clearStop c j (doorsTo c sides true s1)

/-- Enter PARKED. -/
def enterParked (c : Nat) (s : State) : State :=
  let k := car s c
  let s1 := modCar c (fun k => { k with st := .parked, dir := 0, runFor := none, door := .closed, next := none, committed := false, idleUs := 0 }) s
  let s2 := if k.leaving then liftEvent c 0 .ok 0 (liftCue c 3 (modCar c (fun k => { k with st := .off, leaving := false }) (releaseCalls c s1))) else s1
  if k.adopt then loadFloor c (floorFromNvm c s2) else if k.reload then floorReload c s2 else s2

/-- A trip to landing `j` starts: the first energy reading, and the motion command. -/
def beginTrip (c j : Nat) (s : State) : State :=
  let k := car s c
  let x := flLevel k.floor j
  let kind := if k.runFor == some .park then RunKind.park else .stop
  modCar c (fun q => { q with st := .running, next := some j, committed := false, energy := readEnergy s c, energyUp := decide (k.pos < x) })
    (startRun c kind x (carCap s c) s)

/-- PARKED: serve the landing where the car stands, or start the next trip. -/
def stepParked (c us : Nat) (s : State) : State :=
  let k := car s c
  if k.leaving then enterParked c s
  else match pickNext s c with
    | none =>
      if k.adopt then loadFloor c (floorFromNvm c s)
      else modCar c (fun k => { k with idleUs := if s.mode.mode == .service || s.mode.mode == .night then k.idleUs + us else 0 }) s
    | some j =>
      if k.landing == some j then
        let sides := stopSides k j
        if sides = 0 then modCar c (fun k => { k with calls := k.calls.filter (fun x => x.landing != j), runFor := none }) s
        else if permit s c 1 then beginOpen c j sides s
        else modCar c (fun k => { k with st := .held, heldFrom := .parked }) s
      else if permit s c 0 then beginTrip c j s
      else modCar c (fun k => { k with st := .held, heldFrom := .parked }) s

/-- Advance opening on the approach to the committed stop (R261, section Electronic gearing). -/
def advStep (c : Nat) (s : State) : State :=
  let k := car s c
  let p := permit s c 2
  let s1 := modCar c (fun k => { k with advSeen := p }) s
  match k.next with
  | none => s1
  | some j =>
    if p && !k.advSeen && !k.adv && k.runFor == some .stop && (carN s c 2 1).testBit 1 && k.committed && stopSides k j ≠ 0 then
      let s2 := (sideDoors s1 c (stopSides k j)).foldl (fun s a => sendAxis a 6 0 0 0 0 s) s1
      clearStop c j (modCar c (fun k => { k with adv := true, sides := stopSides k j }) s2)
    else s1

/-- Level at landing `j`. -/
def arriveAt (c j : Nat) (s : State) : State :=
  let k := car s c
  let s1 := modCar c (fun k => { k with landing := some j, tripUs := 0 }) s
  let up := k.dir == 1
  let after := k.calls.filter (fun x => x.landing != j)
  let s2 := modCar c (fun q => { q with
    dir := if after.any (fun x => decide (flLevel k.floor j < flLevel k.floor x.landing) == up) then q.dir
      else match (k.calls.filter (fun x => x.landing == j)).findSome? (fun x => callDir x.kind) with
        | some u => if u then 1 else 2
        | none => if after.isEmpty then 0 else (if up then 2 else 1) }) s1
  match k.runFor with
  | some .park => enterParked c s2
  | _ =>
    if k.adv then
      let s3 := (sideDoors s2 c k.sides).foldl (fun s a =>
        if (axis s a).st == .geared then sendAxis a 7 0 0 (ddI s a 48 8) 0 s else s) s2
      modCar c (fun k => { k with st := .doors, door := .opening, adv := false, next := none, committed := false, runFor := none }) s3
    else
      let sides := stopSides k j
      let s3 := if k.calls.any (fun x => x.landing == j && x.id ≠ 0) then liftCue c (if (car s2 c).dir = 2 then 1 else 0) s2 else s2
      if sides = 0 then enterParked c (modCar c (fun k => { k with calls := k.calls.filter (fun x => x.landing != j) }) s3)
      else if permit s c 1 then beginOpen c j sides s3
      else modCar c (fun k => { k with st := .held, heldFrom := .parked, runFor := none }) s3

/-- RUNNING: the next stop, its commitment, the trip's limit, and arrival. -/
def stepRunning (c us : Nat) (s : State) : State :=
  let k := car s c
  let ax := axis s (16 + c)
  let up := k.dir == 1
  let s0 := modCar c (fun k => { k with tripUs := k.tripUs + us, tripMax := if k.tripMax = 0 && ax.st == .moving then 1500 * timeToGo s (16 + c) + 5000000 else k.tripMax }) s
  if 0 < k.tripMax ∧ k.tripMax < k.tripUs then carFault c 8 s0
  else if ax.st == .stopped && ax.cmds.isEmpty && !permit s c 0 then modCar c (fun k => { k with st := .held, heldFrom := .running }) s0
  else match k.next with
    | none => if profileIdle s c then enterParked c s0 else s0
    | some j =>
      let s1 := if k.committed then s0
        else if !committable s c j up && ax.v ≠ 0 then modCar c (fun k => { k with committed := true }) s0
        else match pickNext s0 c with
          | some i =>
            if i ≠ j && (committable s c i up || ax.v = 0) then
              carMove c (flLevel k.floor i) (carCap s c) (modCar c (fun k => { k with next := some i, runFor := if k.runFor == some .park then some .stop else k.runFor }) s0)
            else s0
          | none => s0
      let j' := ((car s1 c).next).getD j
      let s2 := advStep c s1
      if profileIdle s2 c && (axis s2 (16 + c)).sp == flLevel k.floor j' then arriveAt c j' s2 else s2

/-- Relevel with the doors open, under LEVEL_PERMIT. -/
def relevel (c : Nat) (s : State) : State :=
  let k := car s c
  match k.landing with
  | none => s
  | some j =>
    if carN s c 56 2 < gap k.pos (flLevel k.floor j) && permit s c 3 && (axis s (16 + c)).cmds.isEmpty then
      match (axis s (16 + c)).st with
      | .idle => sendAxis (16 + c) 1 1 (carCap s c) (flLevel k.floor j) 0 s
      | _ => s
    else s

/-- DOORS: the door cycle. -/
def stepDoors (c us : Nat) (s : State) : State :=
  let k := car s c
  let s0 := relevel c s
  match k.door with
  | .opening =>
    if !permit s c 1 && !doorsAt s c k.sides true then modCar c (fun k => { k with st := .held, heldFrom := .doors }) s0
    else if doorsAt s c k.sides true then modCar c (fun k => { k with door := .dwell (1000 * carN s c 44 2) }) s0
    else (sideDoors s c k.sides).foldl (fun s a =>
      if (axis s a).st == .idle && (axis s a).cmds.isEmpty && permit s c 1 then sendAxis a 1 0 0 (ddI s a 48 8) 0 s else s) s0
  | .dwell t =>
    let again := k.calls.any (fun x => some x.landing == k.landing && servedHere k x.landing x)
    let s1 := match k.landing with
      | some j => if again then clearStop c j (doorsTo c (stopSides k j) true (modCar c (fun k => { k with sides := k.sides ||| stopSides k j }) s0)) else s0
      | none => s0
    if again then modCar c (fun k => { k with door := .opening }) s1
    else if us < t then modCar c (fun k => { k with door := .dwell (t - us) }) s1
    else doorsTo c 3 false (modCar c (fun k => { k with door := .closing }) s1)
  | .closing =>
    if carClosed s c && doorsAt s c 3 false then
      if k.leaving then enterParked c s0
      else match pickNext s c with
        | none => enterParked c s0
        | some j => if some j == k.landing then modCar c (fun k => { k with st := .parked, door := .closed }) s0
          else if permit s c 0 then beginTrip c j (modCar c (fun k => { k with door := .closed }) s0)
          else modCar c (fun k => { k with st := .held, heldFrom := .parked, door := .closed }) s0
    else s0
  | .closed => enterParked c s0

/-- HELD: leave it when the permit is back (R261). -/
def stepHeld (c : Nat) (s : State) : State :=
  let k := car s c
  match k.heldFrom with
  | .parked => if permit s c 0 || permit s c 1 then modCar c (fun k => { k with st := .parked }) s else s
  | .running => if permit s c 0 then permitRise c 0 s else s
  | _ => if permit s c 1 then permitRise c 1 s else s

/-! ### Recall (R288) -/

/-- The recall landing. -/
def recallLanding (s : State) (c : Nat) : Option Nat := flFlagged (car s c).floor (if kerbCtl s 1 then 4 else 3)

/-- A car takes up the recall from its present state. -/
def recallStart (c : Nat) (s : State) : State :=
  let k := car s c
  let s1 := modCar c (fun k => { k with calls := [], recalling := true, energy := none, leaving := false }) s
  match recallLanding s c with
  | none => modCar c (fun k => { k with st := .recall, runFor := none }) s1
  | some j =>
    let x := flLevel k.floor j
    let moving := (axis s (16 + c)).v ≠ 0
    let toward := decide (0 < (axis s (16 + c)).v) == decide (k.pos < x)
    if moving && !toward then
      let s2 := if k.next.isNone then sendAxis (16 + c) 3 0 0 0 0 s1 else s1
      modCar c (fun k => { k with st := .recall, runFor := some .recallStop }) s2
    else if moving then startRun c .recall x (carCap s c) (modCar c (fun k => { k with st := .recall, next := some j }) s1)
    else modCar c (fun k => { k with st := .recall, runFor := none, next := some j }) (doorsTo c 3 false s1)

/-- A car in RECALL at a servo instant: close, travel, open the front door and stay. -/
def stepRecall (c : Nat) (s : State) : State :=
  let k := car s c
  match recallLanding s c with
  | none => s
  | some j =>
    let x := flLevel k.floor j
    let rest := profileIdle s c || ((axis s (16 + c)).st == .stopped && (axis s (16 + c)).cmds.isEmpty)
    if k.door == .dwell 0 then s
    else if !rest then s
    else if gap k.pos x ≤ carN s c 52 2 then
      let s1 := modCar c (fun k => { k with landing := some j, next := none, runFor := none }) s
      if doorsAt s c 1 true then modCar c (fun k => { k with door := .dwell 0 }) s1
      else if k.door == .opening || !permit s c 1 then s1
      else doorsTo c 1 true (modCar c (fun k => { k with door := .opening }) s1)
    else if !carClosed s c then s
    else if permit s c 0 && k.posValid then
      let s1 := startRun c .recall x (carCap s c) (modCar c (fun k => { k with next := some j, door := .closed }) s)
      if (axis s (16 + c)).st == .stopped then sendAxis (16 + c) 4 0 0 0 0 s1 else s1
    else s

/-! ### Inspection (R287) -/

/-- The car enters INSPECTION: hall calls go back, car calls are cancelled, and a moving car stops on RAMP. -/
def inspectStart (c : Nat) (s : State) : State :=
  let s1 := modCar c (fun k => { k with st := .inspection, runFor := none, adv := false, recalling := false, leaving := false, energy := none }) (releaseCalls c s)
  if (axis s (16 + c)).st == .moving then sendAxis (16 + c) 3 0 0 0 0 s1 else s1

/-- Move under inspection: 1 up to the top landing, 2 down to landing 0, 0 stop. -/
def inspectMove (c dir : Nat) (s : State) : State :=
  let k := car s c
  let go (j : Nat) : State :=
    let s1 := carMove c (flLevel k.floor j) (10 * carN s c 40 2) (modCar c (fun q => { q with runFor := some .inspect, dir := dir, landing := none }) s)
    if (axis s (16 + c)).st == .stopped then sendAxis (16 + c) 4 0 0 0 0 s1 else s1
  match dir with
  | 1 => go (flLandings k.floor - 1)
  | 2 => go 0
  | _ => rampStop (16 + c) .stopped (modCar c (fun q => { q with runFor := none, dir := 0 }) s) |> fun t =>
      if (axis s (16 + c)).st == .moving then t else modCar c (fun q => { q with runFor := none, dir := 0 }) s

/-- INSPECTION at a servo instant: the inspection station's run signals; both at once stop the car. -/
def stepInspection (c : Nat) (s : State) : State :=
  let k := car s c
  let up := kerbCtl s (24 + c)
  let dn := kerbCtl s (32 + c)
  let want := if up && !dn then 1 else if dn && !up then 2 else 0
  if want ≠ 0 && k.dir ≠ want && permit s c 0 then modCar c (fun k => { k with heldFrom := .inspection }) (inspectMove c want s)
  else if want = 0 && k.heldFrom == .inspection && k.dir ≠ 0 then modCar c (fun k => { k with heldFrom := .off }) (inspectMove c 0 s)
  else if k.runFor == some .inspect && profileIdle s c then modCar c (fun k => { k with runFor := none, dir := 0 }) s
  else s

/-! ### One servo instant of a car (R282) -/

/-- Enable the car's axes and home its doors where they need it. -/
def carPrepare (c : Nat) (s : State) : State :=
  if !axisMode s then s
  else
    let s1 := if (axis s (16 + c)).st == .disabled && (axis s (16 + c)).cmds.isEmpty && axUsed s (16 + c) then sendAxis (16 + c) 8 0 0 0 0 s else s
    (carDoors s c).foldl (fun s d =>
      let ax := axis s d.2
      if ax.cmds.isEmpty && axUsed s d.2 then
        if ax.st == .disabled then sendAxis d.2 8 0 0 0 0 s
        else if (ax.st == .idle || ax.st == .stopped) && !ax.posValid then sendAxis d.2 5 0 0 0 (ddI s d.2 56 8) s
        else s
      else s) s1

/-- The car's events on the internal queue: door-axis faults are DOOR_FAULT, profile faults POS_LOST. -/
def carEvents (c : Nat) (s : State) : State :=
  let mine (a : Nat) : Bool := a == 16 + c || (carDoors s c).any (fun d => d.2 == a)
  let l := s.lift.evts.filter (fun e => mine e.2.1)
  let s1 := modLift (fun x => { x with evts := x.evts.filter (fun e => !mine e.2.1) }) s
  l.foldl (fun s e => if e.1 = evFAULT then carFault c (if e.2.1 < 16 then 7 else 1) s else s) s1

/-- Follow the mode and the Kerb inspection input. -/
def carMode (c : Nat) (s : State) : State :=
  let k := car s c
  if k.st == .off || k.st == .fault || k.st == .learn then s
  else if inspected s c then
    let s1 := if k.st == .inspection then s else inspectStart c s
    if s.mode.mode == .recall && !k.noRecall then liftEvent c 6 .refused 0 (modCar c (fun k => { k with noRecall := true }) s1) else s1
  else if s.mode.mode == .recall then
    if k.st == .recall then s
    else if k.st == .held && k.recalling then s else recallStart c (modCar c (fun k => { k with noRecall := false }) s)
  else if k.st == .inspection || k.st == .recall then
    if s.mode.mode == .service || s.mode.mode == .night then
      let lvl := (List.range (flLandings k.floor)).find? (fun j => gap k.pos (flLevel k.floor j) ≤ carN s c 52 2)
      modCar c (fun k => { k with recalling := false, noRecall := false })
        (if k.st == .recall && k.door == .dwell 0 then doorsTo c 3 false (modCar c (fun k => { k with st := .doors, door := .closing, landing := lvl }) s)
         else enterParked c (modCar c (fun k => { k with landing := lvl }) s))
    else s
  else s

/-- A fault car opens its front door where it stands level (R289). -/
def stepFault (c : Nat) (s : State) : State :=
  let k := car s c
  if (axis s (16 + c)).v = 0 && k.posValid && k.landing.isNone then
    match (List.range (flLandings k.floor)).find? (fun j => gap k.pos (flLevel k.floor j) ≤ carN s c 52 2) with
    | some j => if permit s c 1 && k.fault ≠ 7 then doorsTo c 1 true (modCar c (fun k => { k with landing := some j }) s) else s
    | none => s
  else s

/-- The exchange of set-points with the drive (R278). -/
def setPointStep (c us : Nat) (s : State) : State :=
  let k := car s c
  let ax := axis s (16 + c)
  let drive := carN s c 60 1 % 4
  let sends := axisMode s && (permit s c 0 || ax.st == .stopping || (ax.relevel && permit s c 3)) && ax.st != .disabled
  let s1 := if drive = 1 then
      let miss := if k.pdoSeen then 0 else k.pdoMiss + 1
      let s1 := modCar c (fun k => { k with pdoSeen := false, pdoMiss := miss, pdoUs := if k.pdoSeen then k.pdoUs + us else 0 }) s
      if 3 ≤ miss then carFault c 5 s1 else s1
    else s
  if !sends then modCar c (fun k => { k with setPoint := none }) s1
  else if drive = 1 then
    modCar c (fun k => { k with setPoint := some (roundR (mkRat ((carN s c 64 8 : Nat) * ax.sp) (2 ^ 32))) }) s1
  else
    let v := ax.v / 10 + mkRat (carN s c 76 4) 65536 * ((ax.sp - k.pos : Int) : Rat) / 10
    let code := clampInt 0 65535 (32768 + roundR (v * 32767 / (carN s c 72 4 : Nat)))
    let ch := carN s c 62 1
    let qid := (vget s1.pwm.chans ch PwmChan.init).recd.qid
    (qEnqueue qid (leBytes 8 code.toNat) (modCar c (fun k => { k with setPoint := some code }) s1)).2

/-- Publish a car's status record (Table 11.9). -/
def carPublish (c : Nat) (s : State) : State :=
  let k := car s c
  let r := carReport s c
  let fl := b2n k.posValid + 2 * b2n (permit s c 0) + 4 * b2n (permit s c 1) + 8 * b2n (permit s c 2) + 16 * b2n (permit s c 3) +
    32 * b2n k.eUp.isSome + 64 * b2n k.eDn.isSome + 128 * b2n k.reported
  let bytes := leBytes 8 s.time.centre ++ leBytes 4 (add32 k.seq 2) ++ leBytes 1 k.st.code ++ leBytes 1 k.dir ++ leBytes 1 r.next ++
    leBytes 1 r.committable ++ leBytes 8 (ofSigned 64 k.pos) ++ leBytes 4 (ofSigned 32 r.vel) ++ leBytes 4 r.dStop ++ leBytes 4 r.ttg ++
    leBytes 1 r.load ++ leBytes 1 fl ++ leBytes 1 k.fault ++ leBytes 1 (k.landing.getD 0xFF) ++ leBytes 4 (ofSigned 32 r.eUp) ++
    leBytes 4 (ofSigned 32 r.eDn) ++ leBytes 4 (ofSigned 32 k.corrLast) ++ leBytes 4 k.corrCnt ++ leBytes 16 r.carMap ++
    leBytes 16 r.upMap ++ leBytes 16 r.dnMap ++ leBytes 4 k.trips ++ leBytes 20 0
  let s1 := modCar c (fun k => { k with seq := add32 k.seq 2 }) s
  { s1 with mem := s1.mem.writeBytes (liftBase + 0x1800 + 128 * c) bytes }

/-- The step of a car by its state. -/
def carStep (c us : Nat) (s : State) : State :=
  match (car s c).st with
  | .parked => stepParked c us s
  | .doors => stepDoors c us s
  | .running => stepRunning c us s
  | .held => stepHeld c s
  | .inspection => stepInspection c s
  | .recall => stepRecall c s
  | .learn => learnStep c s
  | .fault => stepFault c s
  | .off => s

/-! ### Host commands (R283, Table 11.10) -/

/-- The fields of a command entry. -/
structure LiftCmd where
  cmd : Nat
  car : Nat
  landing : Nat
  side : Nat
  dir : Nat
  req : Nat

/-- Parse a command entry. -/
def parseLiftCmd (p : List Byte) : LiftCmd :=
  { cmd := le p 0 1, car := le p 1 1, landing := le p 2 2, side := le p 4 1, dir := le p 5 1, req := le p 8 8 }

/-- OUT_OF_SERVICE: the committed stop, a door cycle, then OFF. -/
def outOfService (c : Nat) (s : State) : Bool × State :=
  let k := car s c
  if !carUsed s c then (false, s)
  else if k.st == .parked || k.st == .fault || k.st == .inspection then
    (true, liftEvent c 0 .ok 0 (liftCue c 3 (modCar c (fun k => { k with st := .off, leaving := false, runFor := none }) (releaseCalls c s))))
  else if k.st == .off then (true, s)
  else
    let keep (k : Car) (x : StopCall) : Bool := k.committed && some x.landing == k.next
    let g := carGroup s c
    let s1 := modGrp g (fun q => { q with calls := q.calls.map (fun y => if y.slot == some (carSlot s c) && !(k.committed && some y.origin == k.next) then { y with slot := none } else y) }) s
    (true, modCar c (fun k => { k with leaving := true, calls := k.calls.filter (keep k) }) s1)

/-- The cause of a car fault has gone (Table 11.11). -/
def faultGone (s : State) (c : Nat) : Bool :=
  let k := car s c
  match k.fault with
  | 3 => decide (1000000 ≤ k.encOkUs)
  | 4 => decide (100 ≤ k.ssiOk)
  | 5 => decide (1000000 ≤ k.pdoUs)
  | 6 => !k.driveBad
  | 7 => (carDoors s c).all (fun d => (axis s d.2).st != .faulted)
  | 8 => true
  | _ => false

/-- IN_SERVICE. -/
def inService (c : Nat) (s : State) : Bool × State :=
  let k := car s c
  let ok := k.st == .off || (k.st == .fault && faultGone s c)
  let inc := k.fault == 3 && carN s c 3 1 % 4 == 1 && k.st == .fault
  if carUsed s c && ok && k.posValid && !inc then
    let lvl := (List.range (flLandings k.floor)).find? (fun j => gap k.pos (flLevel k.floor j) ≤ carN s c 52 2)
    (true, enterParked c (modCar c (fun k => { k with fault := 0, landing := lvl, leaving := false }) s))
  else (false, s)

/-- TEST_RUN: in INSPECTION mode, to a landing at INSP_SPEED. -/
def testRun (c j : Nat) (s : State) : Bool × State :=
  let k := car s c
  if carUsed s c && s.mode.mode == .inspection && k.st == .inspection && j < flLandings k.floor then
    let s1 := startRun c .inspect (flLevel k.floor j) (10 * carN s c 40 2) s
    (true, if (axis s (16 + c)).st == .stopped then sendAxis (16 + c) 4 0 0 0 0 s1 else s1)
  else (false, s)

/-- INSP_MOVE. -/
def inspMove (c dir : Nat) (s : State) : Bool × State :=
  if carUsed s c && (car s c).st == .inspection && dir ≤ 2 then (true, inspectMove c dir s) else (false, s)

/-- Execute a host command and post its event. -/
def liftCmd (x : LiftCmd) (s : State) : State :=
  let g := carGroup s x.car
  let r := if 8 ≤ x.car then (false, s)
    else match x.cmd with
      | 1 => registerCarCall x.car x.landing x.side s
      | 2 => registerCall g false x.landing x.dir x.side 0 s
      | 3 => outOfService x.car s
      | 4 => inService x.car s
      | 5 => learnStart x.car x.req s
      | 6 => correctStart x.car s
      | 7 => testRun x.car x.landing s
      | 8 => inspMove x.car x.dir s
      | _ => (false, s)
  liftEvent x.car (0x10 + x.cmd) (if r.1 then .ok else .refused) x.req r.2

/-- A command row: executed while MOTION runs. -/
def liftRow (x : LiftCmd) (s : State) : State := if islRuns s islMOTION then liftCmd x s else s

/-- Take the entries of CMD_QID; an ABORT entry is answered and not executed. -/
def liftPump : Nat → State → State
  | 0, s => s
  | f + 1, s =>
    if s.lift.cmdQ = 0 then s
    else
      let r := qDequeue s.lift.cmdQ s
      let x := parseLiftCmd r.2.1
      if r.1.status == .ok then liftPump f (liftCmd x (qAck s.lift.cmdQ 1 r.2.2).2)
      else if r.1.status == .abort then liftPump f (liftEvent x.car (0x10 + x.cmd) .abort x.req (qAck s.lift.cmdQ 1 r.2.2).2)
      else r.2.2

/-- The whole servo instant of a car. -/
def carServo (c : Nat) (inc : Int) (both : Bool) (ssi : SsiRead) (ageNs : Nat) (s : State) : State :=
  if !carUsed s c || !islRuns s islMOTION then s
  else
    let us := servoUs s (16 + c)
    let s1 := positionStep c us inc both ssi ageNs (liftPump 64 s)
    let s2 := carMode c (carEvents c (carPrepare c s1))
    let s3 := setPointStep c us (carStep c us s2)
    carPublish c s3

/-- TRIP_TIMEOUT. -/
def tripTimeout (c : Nat) (s : State) : State :=
  let k := car s c
  if k.st == .running && decide (0 < k.tripMax) && islRuns s islMOTION then carFault c 8 s else s

/-- A status PDO of the drive, or three periods without one. -/
def drivePdo (c : Nat) (pdo : Option (Bool × Option Nat)) (s : State) : State :=
  if !carUsed s c || carN s c 60 1 % 4 ≠ 1 || !islRuns s islMOTION then s
  else match pdo with
    | none => carFault c 5 s
    | some (bad, load) =>
      let s1 := modCar c (fun k => { k with pdoSeen := true, driveBad := bad, load := load }) s
      if bad then carFault c 6 s1 else s1

/-! ### APPLY (R281) -/

/-- A car record as written. -/
def carRecBad (m : Memory) (c : Nat) : Option Nat :=
  let b := 0x1000 + 128 * c
  let n (o k : Nat) : Nat := m.readN (b + o) k
  let bad (o : Nat) (x : Bool) : Option Nat := if x then some ((b + o) / 16) else none
  let out (x lo hi : Nat) : Bool := x < lo || hi < x
  let used (i : Nat) : Bool := (m.readN (0x1000 + 128 * i + 2) 1).testBit 0
  let other (i o : Nat) : Nat := m.readN (0x1000 + 128 * i + o) 1
  let src := n 3 1
  let ssi := src % 4 = 2 || src.testBit 2
  let drive := n 60 1
  let axes (i : Nat) : List Nat := [other i 82, other i 83].filter (· < 16)
  if !(n 2 1).testBit 0 then none
  else
    (bad 0 (16 ≤ n 0 1 || 32 ≤ n 1 1 || 4 ≤ n 2 1 || src % 4 = 0 || src % 4 = 3 || 8 ≤ src || 8 ≤ n 4 1 || 8 ≤ n 5 1 ||
      (ssi && out (n 6 1) 13 32) || 16 ≤ n 7 1 || 4 < n 7 1 / 2 || (ssi && out (n 8 2) 10 100) || n 10 6 ≠ 0)).orElse fun _ =>
    (bad 0 (!(m.readN (0x1400 + 64 * n 0 1) 1).testBit 0 || (List.range 8).any (fun i => i ≠ c && used i && other i 0 = n 0 1 && other i 1 = n 1 1))).orElse
      fun _ =>
    (bad 4 ((List.range 8).any (fun i => i ≠ c && used i && (other i 4 = n 4 1 || other i 85 = n 85 1)))).orElse fun _ =>
    (bad 32 (out (n 32 4) 100 10000 || out (n 36 4) 100 2000 || out (n 40 2) 50 630 || out (n 42 2) 50 630 || out (n 44 2) 500 60000 || 10000 < n 46 2)).orElse
      fun _ =>
    (bad 48 (1000 < n 48 2 || 100 < n 50 2 || out (n 52 2) 10 1000 || out (n 54 2) 10 5000 || out (n 56 2) 20 500 || out (n 58 2) 20 1000 ||
      drive % 4 = 0 || drive % 4 = 3 || 32 ≤ drive || out (n 61 1) 1 127 || 32 ≤ n 62 1 || out (n 63 1) 1 16)).orElse fun _ =>
    (bad 60 (drive % 4 = 1 && (List.range 8).any (fun i => i ≠ c && used i && other i 60 = drive && other i 61 = n 61 1))).orElse fun _ =>
    (bad 80 (out (n 80 1) 50 100 || n 81 1 = 0 || !(n 82 1 < 16 || n 82 1 == 0xFF) || !(n 83 1 < 16 || n 83 1 == 0xFF) ||
      !(n 84 1 < 128 || n 84 1 == 0xFF) || 8 ≤ n 85 1 || n 86 42 ≠ 0)).orElse fun _ =>
    (bad 82 ((n 82 1 < 16 && n 82 1 = n 83 1) || (List.range 8).any (fun i => i ≠ c && used i && (axes i).any (fun a => (axes c).contains a))))

/-- A group record as written. -/
def grpRecBad (m : Memory) (g : Nat) : Option Nat :=
  let b := 0x1400 + 64 * g
  let n (o k : Nat) : Nat := m.readN (b + o) k
  let bad (o : Nat) (x : Bool) : Option Nat := if x then some ((b + o) / 16) else none
  let out (x lo hi : Nat) : Bool := x < lo || hi < x
  if !(n 0 1).testBit 0 then none
  else
    (bad 0 (8 ≤ n 0 1 || out (n 1 1) 1 128 || out (n 2 2) 200 10000)).orElse fun _ =>
    (bad 20 (3600 < n 20 2 || out (n 22 2) 60 3600 || out (n 28 2) 60 3600)).orElse fun _ => (bad 30 (n 30 34 ≠ 0))

/-- The records as written. -/
def liftRecords (s : State) : Memory := blockTables liftBase 0x1000 0x1800 s

/-- The first failing field ÷ 16. -/
def liftBad (m : Memory) : Option Nat :=
  ((List.range 8).findSome? (carRecBad m)).orElse fun _ => (List.range 16).findSome? (grpRecBad m)

/-- A car that is not OFF gets a changed position source, scales, drive or door axes. -/
def liftApplyWaits (s : State) (m : Memory) : Bool :=
  (List.range 8).any (fun c =>
    let b := 0x1000 + 128 * c
    let diff (o n : Nat) : Bool := m.bytes (b + o) n != s.lift.tabs.bytes (b + o) n
    carUsed s c && (car s c).st != .off && (diff 3 7 || diff 16 16 || diff 60 4 || diff 64 16 || diff 82 2))

/-- The checked records take effect; Boulevard hosts the groups of the cars in use. -/
def liftTake (m : Memory) (s : State) : State :=
  let s1 := modLift (fun l => { l with tabs := m, pendingTabs := none, result := .ok, refuseAt := 0 }) s
  { s1 with blv := { s1.blv with hosted := maskOf ((List.range 16).map (fun g => !(groupCars s1 g).isEmpty)) } }

/-- LIFT APPLY. -/
def liftApply (s : State) : State :=
  let m := liftRecords s
  match liftBad m with
  | some r => modLift (fun l => { l with result := .refused, refuseAt := r % 4096 }) s
  | none => if liftApplyWaits s m then modLift (fun l => { l with pendingTabs := some m, result := .busy }) s else liftTake m s

/-- Deferred actions whose car is PARKED or OFF take effect (R268, R281). -/
def liftDeferred (s : State) : State :=
  let s1 := match s.lift.pendingTabs with
    | some m => if liftApplyWaits s m then s else liftTake m s
    | none => s
  let s2 := (List.range 8).foldl (fun s c => if (car s c).reload && carResting (car s c) then floorReload c s else s) s1
  if s2.lift.pendingTabs.isNone && s2.lift.result == .busy && !s2.lift.cars.toList.any (·.reload) then
    modLift (fun l => { l with result := .ok }) s2
  else s2

/-! ### Registers (Table 11.7) -/

/-- Read the lift block's registers. -/
def liftRead (o : Nat) (s : State) : Option Word :=
  if o = 8 then
    some (packWord [(60, statusCode s.lift.result), (48, s.lift.refuseAt),
      (32, satTo 16 (s.lift.groups.toList.map (fun q => q.calls.length)).sum), (16, maskOf ((List.range 16).map (dispatches s))),
      (0, maskOf (s.lift.groups.toList.map (·.island)))])
  else if o = 16 then some (packWord [(16, s.lift.evtQ), (0, s.lift.cmdQ)])
  else if o = 0 then some 0 else none

/-- LIFT_CTL. -/
def liftCtl (w : Word) (s : State) : State :=
  if bits w 63 56 ≠ 0x4A then s
  else match bits w 2 0 with
    | 1 => liftApply s
    | 2 => reloadCars (bits w 15 8) s
    | 3 => energyReset (bits w 15 8) s
    | _ => s

/-- Write the lift block's registers. -/
def liftWrite (o : Nat) (w : Word) (s : State) : State :=
  if o = 0 then liftCtl w s
  else if o = 16 then modLift (fun l => { l with evtQ := bits w 29 16, cmdQ := bits w 13 0 }) s
  else s

/-! ### Modes and start (R290, R291) -/

/-- Entry to SAFESTOP: every car call is cancelled and no assignment stands. -/
def liftSafestop (s : State) : State :=
  (List.range 8).foldl (fun s c => if carUsed s c then modCar c (fun k => { k with runFor := none, adv := false, energy := none }) (releaseCalls c s) else s) s

/-- Entry to RECALL: hall and destination calls of the device's cars are cancelled with their car calls (R288). -/
def liftRecall (s : State) : State :=
  (List.range 8).foldl (fun s c =>
    if !carUsed s c then s
    else
      let g := carGroup s c
      let s1 := modGrp g (fun q => { q with calls := q.calls.filter (fun y => y.slot != some (carSlot s c)) }) s
      let s2 := if (car s c).st == .learn then learnEnd c false s1 else s1
      modCar c (fun k => { k with calls := [], noRecall := false
                                  st := if (car s c).st == .learn then (if k.posValid then .parked else .learn) else k.st }) s2) s

/-- The car controllers after a reset of MOTION: records, measured energies and calls stay. -/
def liftReset (s : State) : State :=
  modLift (fun l => { l with
    cars := l.cars.map (fun k => { Car.init with
      origin := k.origin, ssiOrigin := k.ssiOrigin, pos := k.pos, eUp := k.eUp, eDn := k.eDn, trips := k.trips, corrCnt := k.corrCnt
      corrLast := k.corrLast, dz := k.dz, seq := k.seq, floor := k.floor })
    result := .ok, refuseAt := 0, evtQ := 0, cmdQ := 0, pendingTabs := none, evts := [] }) s

/-- The starting state of a car (R291). -/
def carStart (warm : Bool) (c : Nat) (s : State) : State :=
  if !carUsed s c then s
  else
    let s1 := modCar c (fun k => { k with st := .parked }) s
    let s2 := loadFloor c (floorFromNvm c s1)
    let k := car s2 c
    let bad := k.st == .fault
    let near (p : Int) : Option Nat := (List.range (flLandings k.floor)).find? (fun j => gap p (flLevel k.floor j) ≤ carN s c 52 2)
    if bad then s2
    else if ssiPrimary s c then
      modCar c (fun k => { k with st := .parked, ssiOrigin := toSigned 64 (k.floor.readN 24 8), raw := none, refd := true, posValid := false }) s2
    else match (vget s.motion.saved c none).bind near, warm && k.dz with
      | some j, true =>
        let l := flLevel k.floor j
        enterParked c (modCar c (fun k => { k with pos := l, origin := l - roundR (mkRat (carI s c 16 8 * k.count) (2 ^ 32)), posValid := true, landing := some j }) s2)
      | _, _ => modCar c (fun k => { k with st := .off }) s2

/-- Bring-up step 8: tables, floor tables and starting states. -/
def liftStep8 (warm : Bool) (s : State) : State :=
  let s1 := liftApply s
  let s2 := (List.range 8).foldl (fun s c => carStart warm c s) s1
  let keep (g : Nat) (y : GroupCall) : Bool := decide (s.time.uptime ≤ y.regAt + 1000000000 * grpN s2 g 22 2)
  modLift (fun l => { l with groups := Vector.ofFn (fun (g : Fin 16) =>
    let q := vget l.groups g.val Group.init
    { q with calls := if warm then q.calls.filter (keep g.val) else [] }) }) s2

/-! ### What the mode logic reads (R45, Tables 2.2 and 2.3) -/

/-- No car is moving. -/
def noCarMoves (s : State) : Bool := (carsUsed s).all (fun c => (axis s (16 + c)).v = 0)
/-- Every car is parked, off or stopped for good, with its doors closed. -/
def allParked (s : State) : Bool :=
  (carsUsed s).all (fun c => let k := car s c; (k.st == .parked && k.calls.isEmpty || k.st == .off || k.st == .fault) && carClosed s c)
/-- Every car has been parked with doors closed, and no call registered, for `sec` seconds. -/
def allIdleFor (sec : Nat) (s : State) : Bool :=
  allParked s && (carsUsed s).all (fun c => (car s c).st != .parked || decide (1000000 * sec ≤ (car s c).idleUs)) &&
  s.lift.groups.toList.all (fun q => q.calls.isEmpty)
/-- Every door is closed. -/
def allDoorsClosed (s : State) : Bool := (carsUsed s).all (carClosed s)
/-- Every escalator channel in use reports stopped. -/
def allEscStopped (s : State) : Bool := (List.range 4).all (fun c => !escUsed s c || (!(esc s c).run && decide (escSpeed s c = 0)))

end Sys2Proof.Machine
end

