-- ==== Sys2Proof/Machine/P256.lean ====
section
/-! DEFINITION. ECDSA P-256 signature verification over SHA-256, for the image checks of R127. -/
namespace Sys2Proof.Machine

/-- The field prime of P-256. -/
def p256P : Nat := 0xffffffff00000001000000000000000000000000ffffffffffffffffffffffff
/-- The group order of P-256. -/
def p256N : Nat := 0xffffffff00000000ffffffffffffffffbce6faada7179e84f3b9cac2fc632551
/-- The curve constant b. -/
def p256B : Nat := 0x5ac635d8aa3a93e7b3ebbd55769886bc651d06b0cc53b0f63bce3c3e27d2604b
/-- The base point. -/
def p256G : Nat × Nat :=
  (0x6b17d1f2e12c4247f8bce6e563a440f277037d812deb33a0f4a13945d898c296,
   0x4fe342e2fe1a7f9b8ee7eb4a7c0f9e162bce33576b315ececbb6406837bf51f5)

/-- `b ^ e mod m` over `k` bits of `e`, least significant first. -/
def powMod (m : Nat) : Nat → Nat → Nat → Nat → Nat
  | 0, _, _, acc => acc
  | k + 1, b, e, acc => powMod m k (b * b % m) (e / 2) (if e % 2 = 1 then acc * b % m else acc)

/-- Inverse modulo a prime below 2^256. -/
def invMod (m a : Nat) : Nat := powMod m 256 (a % m) (m - 2) 1

/-- Point addition on P-256; `none` is the point at infinity. -/
def ecAdd : Option (Nat × Nat) → Option (Nat × Nat) → Option (Nat × Nat)
  | none, q => q
  | p, none => p
  | some (x1, y1), some (x2, y2) =>
    let m := p256P
    if x1 = x2 && (y1 + y2) % m = 0 then none
    else
      let l := if x1 = x2 then (3 * x1 * x1 + (m - 3)) * invMod m (2 * y1) % m
        else (y2 + m - y1) * invMod m (x2 + m - x1) % m
      let x3 := (l * l + 2 * m - x1 - x2) % m
      some (x3, (l * (x1 + m - x3) + (m - y1)) % m)

/-- `e · P` over `k` bits of `e`. -/
def ecMul : Nat → Nat → Option (Nat × Nat) → Option (Nat × Nat) → Option (Nat × Nat)
  | 0, _, _, acc => acc
  | k + 1, e, p, acc => ecMul k (e / 2) (ecAdd p p) (if e % 2 = 1 then ecAdd acc p else acc)

/-- The point lies on the curve. -/
def onCurve (x y : Nat) : Bool :=
  x < p256P && y < p256P && y * y % p256P == (x * x % p256P * x + (p256P - 3) * x + p256B) % p256P

/-- The number a big-endian byte list spells. -/
def ofBeBytes (l : List Byte) : Nat := ofLeBytes l.reverse

/-- Verify a signature (r, s) over a message with a public key of 64 bytes, x then y, big-endian. -/
def ecdsaVerify (key msg sig : List Byte) : Bool :=
  let x := ofBeBytes (key.take 32)
  let y := ofBeBytes (key.drop 32)
  let r := ofBeBytes (sig.take 32)
  let s := ofBeBytes (sig.drop 32)
  if key.length == 64 && onCurve x y && 0 < r && r < p256N && 0 < s && s < p256N then
    let e := ofBeBytes (sha256 msg)
    let w := invMod p256N s
    match ecAdd (ecMul 256 (e * w % p256N) (some p256G) none) (ecMul 256 (r * w % p256N) (some (x, y)) none) with
    | none => false
    | some (px, _) => px % p256N == r
  else false

end Sys2Proof.Machine
end

