-- ==== Sys2Proof/Machine/PwmOps.lean ====
section
/-! DEFINITION. The PWM pipeline, its code sources, safe codes, records and registers (chapter 17). -/
namespace Sys2Proof.Machine
open Sys2Proof

/-- Base of the PWM block (Table 19.6). -/
def pwmBase : Nat := blockBase 12

/-- Change one channel. -/
def modChan (n : Nat) (f : PwmChan → PwmChan) (s : State) : State :=
  { s with pwm := { s.pwm with chans := vmod s.pwm.chans n f } }

/-- One channel. -/
def chan (s : State) (n : Nat) : PwmChan := vget s.pwm.chans n PwmChan.init

/-! ### Channel records (Table 17.2, R438) -/

/-- Parse the 32 bytes of a channel record. -/
def parsePwmRec (p : List Byte) : PwmRec :=
  let f := le p 0 1
  let so := le p 1 1
  { inUse := f.testBit 0, underrunSafe := f.testBit 1, source := so % 4, sel := so / 4 % 4, gen := so / 16 % 8,
    holdPeriods := le p 2 1, underrunLimit := le p 3 1, qid := le p 4 2, slew := le p 6 2, phase := le p 8 2,
    lo := le p 10 2, hi := le p 12 2, step := le p 14 2, ndiv := le p 16 2, seed := le p 18 4 }

/-- The queue of a QUEUE channel has IO as its consumer owner and 8-byte entries (R429). -/
def pwmQueueOk (s : State) (qid : Nat) : Bool :=
  match qGet s qid with
  | none => false
  | some q => q.cfg.cons == islIO && q.cfg.entryW == 0

/-- The byte offset of the first failing field of a record that is in use, if any (R438). -/
def pwmRecFail (s : State) (p : List Byte) : Option Nat :=
  let r := parsePwmRec p
  let so := le p 1 1
  if 4 ≤ le p 0 1 then some 0
  else if !r.inUse then none
  else if so.testBit 7 || (r.source = 3 && (r.gen = 0 || 3 < r.gen)) || (r.source ≠ 3 && r.gen ≠ 0) ||
      ((r.source = 0 || r.source = 3) && r.sel ≠ 0) then some 1
  else if 15 < r.holdPeriods then some 2
  else if r.source = 1 && r.underrunLimit = 0 then some 3
  else if r.source = 1 && (r.qid < 0x2C00 || 0x33FF < r.qid || !pwmQueueOk s r.qid) then some 4
  else if 511 < r.phase then some 8
  else if r.source = 3 && r.hi < r.lo then some 10
  else if r.source = 3 && r.gen ≠ 3 && r.step = 0 then some 14
  else if r.source = 3 && r.gen = 3 && r.ndiv = 0 then some 16
  else if r.source = 3 && r.gen = 3 && r.seed = 0 then some 18
  else if !zeroBytes p 22 10 then some 22
  else none

/-- The 32 bytes of channel `n`'s record in the block. -/
def pwmRecBytes (s : State) (n : Nat) : List Byte := s.mem.bytes (pwmBase + 0x1000 + 32 * n) 32

/-- The timebase word breaks Table 17.1. -/
def pwmTbBad (w : Word) : Bool :=
  8 < bits w 63 60 || (bits w 63 60 = 0 && (bits w 25 0 < 1000 || 48000000 < bits w 25 0))

/-- The first failing field of the block's tables, as an offset ÷ 16 (R438). -/
def pwmCheck (s : State) : Option Nat :=
  match (List.range 4).find? (fun g => pwmTbBad (vget s.pwm.tbReg g 0)) with
  | some g => some ((0x010 + 8 * g) / 16)
  | none =>
    (List.range 32).findSome? (fun n => (pwmRecFail s (pwmRecBytes s n)).map (fun o => (0x1000 + 32 * n + o) / 16))

/-- Take the records and timebases of the block (R438): each channel's record enters at its next load point. -/
def pwmTake (s : State) : State :=
  let cs := (List.range 32).foldl (fun cs n =>
    vmod cs n (fun (c : PwmChan) => { c with newRec := some (parsePwmRec (pwmRecBytes s n)) })) s.pwm.chans
  { s with pwm := { s.pwm with chans := cs, tb := s.pwm.tbReg, result := .ok, refuseAt := 0 } }

/-- APPLY (R438). -/
def pwmApply (s : State) : State :=
  match pwmCheck s with
  | some o => { s with pwm := { s.pwm with result := .refused, refuseAt := o } }
  | none => pwmTake s

/-! ### Safe states (R435, R436, R437) -/

/-- Each PWM ball is held low: DORMANT, and BRINGUP before step 4 (R436). -/
def pwmHeldLow (s : State) : Bool :=
  s.mode.mode == .dormant || (s.mode.mode == .bringup && decide (s.mode.step < 4))

/-- The conditions of R435 for one channel. -/
def pwmSafe (s : State) (c : PwmChan) : Bool :=
  s.mode.mode == .safestop ||
  (s.mode.mode == .bringup && decide (4 ≤ s.mode.step)) ||
  c.fault.isSome ||
  (isl s islIO).fence == some .reset

/-- Restart a generator: G = LO, rising (R432). -/
def PwmChan.genRestart (c : PwmChan) : PwmChan :=
  { c with gen := c.recd.lo, rising := true, lfsr := c.recd.seed, ndivCnt := 0 }

/-- Start a channel by R437 from its safe code: its first target enters without the hold. -/
def PwmChan.restart (safe : Nat) (c : PwmChan) : PwmChan :=
  { c.genRestart with target := safe, held := safe, applied := safe, hold := none, fresh := true, dither := 0,
                      carry := 0, emptyRun := 0 }

/-! ### The pipeline (R425 to R427, R432 to R434) -/

/-- The LFSR of R432, advanced once: Galois form of x^32 + x^22 + x^2 + x + 1. -/
def lfsrStep (x : Nat) : Nat :=
  let y := x / 2
  if x % 2 = 1 then Nat.xor y 0x80200003 else y

/-- The generator's next target at a load point (R432). -/
def PwmChan.genStep (c : PwmChan) : PwmChan :=
  match c.recd.gen with
  | 1 =>
    if c.rising then
      if c.recd.hi ≤ c.gen + c.recd.step then { c with gen := c.recd.hi, rising := false }
      else { c with gen := c.gen + c.recd.step }
    else
      if c.gen ≤ c.recd.lo + c.recd.step then { c with gen := c.recd.lo, rising := true }
      else { c with gen := c.gen - c.recd.step }
  | 2 =>
    if c.recd.hi < c.gen + c.recd.step then { c with gen := c.recd.lo } else { c with gen := c.gen + c.recd.step }
  | _ =>
    if c.ndivCnt + 1 < c.recd.ndiv then { c with ndivCnt := c.ndivCnt + 1 }
    else
      let x := lfsrStep c.lfsr
      { c with ndivCnt := 0, lfsr := x, gen := c.recd.lo + (x / 65536) * (c.recd.hi - c.recd.lo + 1) / 65536 }

/-- Dither of R425 and carry of R426 on the applied code: the high time of the next output period. -/
def PwmChan.emit (c : PwmChan) : PwmChan :=
  let sum := c.dither + c.applied % 128
  let h : Int := (c.applied / 128 + sum / 128 : Nat)
  let h' := h + c.carry
  let e0 := clampInt 0 512 h'
  let e := if e0 = 1 then 0 else if e0 = 511 then 512 else e0
  { c with dither := sum % 128, carry := h' - e, high := e.toNat }

/-- Slew of R434. -/
def PwmChan.slewTo (c : PwmChan) : PwmChan :=
  let d := c.recd.slew
  if d = 0 then { c with applied := c.held }
  else if c.applied < c.held then { c with applied := min c.held (c.applied + d) }
  else { c with applied := max c.held (c.applied - d) }

/-- A target crosses when its top four bits differ from those of D (R433). -/
def PwmChan.crosses (c : PwmChan) (t : Nat) : Bool := t / 4096 ≠ c.held / 4096

/-- A target from REGISTER, QUEUE or STROBE enters at a load point (R433, R437). -/
def PwmChan.enter (c : PwmChan) (t : Nat) : PwmChan :=
  let c := { c with target := t }
  if c.fresh then { c with held := t, hold := none, fresh := false }
  else if c.crosses t && decide (0 < c.recd.holdPeriods) then
    let left := match c.hold with
      | some h => h.left
      | none => c.recd.holdPeriods + 1
    { c with hold := some ⟨t, left⟩, majorCnt := satInc 16 c.majorCnt }
  else
    { c with held := t, hold := none, cancelCnt := if c.hold.isSome then satInc 16 c.cancelCnt else c.cancelCnt }

/-- One load point of a running hold: at its end D takes the pending code (R433). -/
def PwmChan.holdStep (c : PwmChan) : PwmChan :=
  match c.hold with
  | none => c
  | some h => if h.left ≤ 1 then { c with held := h.code, hold := none } else { c with hold := some { h with left := h.left - 1 } }

/-- The targets that enter at a load point at `now`: those that arrived at least 1 µs before; only the latest enters
(R428). -/
def PwmChan.arrive (now : Nat) (c : PwmChan) : PwmChan :=
  let due := c.arrivals.filter (fun a => decide (a.1 + 1000 ≤ now))
  let c1 := { c with arrivals := c.arrivals.filter (fun a => !decide (a.1 + 1000 ≤ now)) }
  match due.getLast? with
  | none => c1
  | some a => c1.enter a.2

/-- One running load point of a channel (R425 to R434). -/
def PwmChan.runPoint (now : Nat) (c : PwmChan) : PwmChan :=
  let c1 := if c.recd.source = 3 then
      let g := c.genStep
      { g with target := g.gen, held := g.gen, fresh := false }
    else (c.arrive now).holdStep
  c1.slewTo.emit

/-- The record taken by the last APPLY enters; a changed record restarts the channel by R437 without a fault (R438). -/
def PwmChan.takeRec (safe : Nat) (c : PwmChan) : PwmChan :=
  match c.newRec with
  | none => c
  | some r =>
    if r = c.recd then { c with newRec := none, fault := if c.fault = some 3 then none else c.fault }
    else ({ c with recd := r, newRec := none, arrivals := [],
                   fault := if c.fault = some 3 then none else c.fault } : PwmChan).restart safe

/-- The targets due at `now` while the safe code holds D and A: the latest is the target, and nothing else (R428, R435). -/
def PwmChan.absorb (now : Nat) (c : PwmChan) : PwmChan :=
  { c with arrivals := c.arrivals.filter (fun a => !decide (a.1 + 1000 ≤ now))
           target := match (c.arrivals.filter (fun a => decide (a.1 + 1000 ≤ now))).getLast? with
             | none => c.target
             | some a => a.2 }

/-- A load point while the channel is safe: the safe code enters whole, Σ and C are cleared on its first point (R435). -/
def PwmChan.safePoint (now safe : Nat) (c : PwmChan) : PwmChan :=
  let c1 := { c.absorb now with held := safe, applied := safe, hold := none }
  (if c.safeIn then c1 else { c1 with dither := 0, carry := 0, safeIn := true }).emit

/-- The load point of channel `n` (R425 to R437). -/
def pwmLoadPoint (n : Nat) (s : State) : State :=
  let safe := vget s.pwm.safe n 0
  modChan n (fun c =>
    if pwmHeldLow s then
      { c with applied := 0, held := 0, hold := none, dither := 0, carry := 0, high := 0, safeIn := false, wasSafe := true }
    else
      let c1 := if s.mode.mode == .update then c else c.takeRec safe
      if pwmSafe s c1 then { c1.safePoint s.time.uptime safe with wasSafe := true }
      else if !c1.recd.inUse then { c1.safePoint s.time.uptime safe with wasSafe := false }
      else if s.mode.mode == .update then { c1.emit with hold := none, wasSafe := c1.wasSafe }
      else
        let c2 := if c1.wasSafe then c1.restart safe else c1
        { c2.runPoint s.time.uptime with wasSafe := false, safeIn := false }) s

/-! ### Sources (R429, R431) -/

/-- Writes and strobes do not enter in SAFESTOP or UPDATE (R435, R436). -/
def pwmEnters (s : State) : Bool := !(s.mode.mode == .safestop || s.mode.mode == .update || pwmHeldLow s)

/-- A target reaches the block for channel `n`. -/
def pwmArrive (n code : Nat) (s : State) : State :=
  modChan n (fun c => { c with arrivals := c.arrivals ++ [(s.time.uptime, code)] }) s

/-- A committed write of PWM_CODE_n: a target for REGISTER, a staged code for STROBE, otherwise ignored (R429). -/
def pwmCodeWrite (n : Nat) (w : Word) (s : State) : State :=
  let code := bits w 15 0
  let s1 := modChan n (fun c => { c with code := code }) s
  if (chan s n).recd.source = 0 && pwmEnters s then pwmArrive n code s1 else s1

/-- The channels a condition holds of. -/
def pwmChans (s : State) (p : PwmChan → Bool) : List Nat := (List.range 32).filter (fun n => p (chan s n))

/-- Strobe groups fire: each staged code of their STROBE channels becomes a target (R431). -/
def pwmStrobe (groups : Nat) (s : State) : State :=
  if pwmEnters s then
    (pwmChans s (fun c => c.recd.inUse && c.recd.source == 2 && groups.testBit c.recd.sel)).foldl
      (fun s n => pwmArrive n (chan s n).code s) s
  else s

/-- A faulted channel with a cause (R441). -/
def pwmFault (n cause : Nat) (s : State) : State :=
  modChan n (fun c => if c.fault.isSome then c else { c with fault := some cause, safeIn := false }) s

/-- An empty tick of channel `n` (R429): at UNDERRUN_LIMIT ticks in a row the channel faults when UNDERRUN_SAFE is 1. -/
def pwmEmptyTick (n : Nat) (s : State) : State :=
  let s1 := modChan n (fun c => { c with underrunCnt := satInc 16 c.underrunCnt, emptyRun := c.emptyRun + 1 }) s
  let c := chan s1 n
  if c.recd.underrunSafe && decide (c.recd.underrunLimit ≤ c.emptyRun) then pwmFault n 1 s1 else s1

/-- One tick of a QUEUE channel (R429, R441). -/
def pwmTickChan (n : Nat) (s : State) : State :=
  let qid := (chan s n).recd.qid
  let r := qDequeue qid s
  match r.1.status with
  | .ok =>
    let s1 := (qAck qid 1 r.2.2).2
    if bit r.1.data 59 then
      pwmEmptyTick n (modChan n (fun c => { c with staleCnt := satInc 16 c.staleCnt }) s1)
    else pwmArrive n (le r.2.1 0 2) (modChan n (fun c => { c with emptyRun := 0 }) s1)
  | .abort =>
    pwmEmptyTick n (modChan n (fun c => { c with staleCnt := satInc 16 c.staleCnt }) (qAck qid 1 r.2.2).2)
  | .quarantine => pwmFault n 2 (pwmEmptyTick n r.2.2)
  | _ => pwmEmptyTick n r.2.2

/-- A tick of timebase `g`: every QUEUE channel of it takes one entry, a faulted one too; nothing is dequeued in SAFESTOP or
UPDATE, nor by an IO that is fenced (R429, R435, R436). -/
def pwmTick (g : Nat) (s : State) : State :=
  if pwmEnters s then
    (pwmChans s (fun c => c.recd.inUse && c.recd.source == 1 && c.recd.sel == g && (isl s islIO).fence == none)).foldl
      (fun s n => pwmTickChan n s) s
  else s

/-! ### Commands of PWM_CTL -/

/-- The cause of a channel's fault is still present: a quarantined queue, or a record not rewritten since its ECC
error (R437, R441). -/
def pwmCausePresent (s : State) (c : PwmChan) : Bool :=
  match c.fault with
  | none => false
  | some 1 => false
  | some 2 => match qGet s c.recd.qid with
    | none => false
    | some q => q.quarantined
  | some _ => true

/-- FAULT_CLEAR (R437): refused as a whole while a named channel's cause is present. -/
def pwmFaultClear (m : Nat) (s : State) : State :=
  let named := setBitsBelow 32 m
  if named.any (fun n => pwmCausePresent s (chan s n)) then { s with pwm := { s.pwm with result := .refused } }
  else
    let s1 := named.foldl (fun s n =>
      modChan n (fun c => if c.fault.isSome then
        { (({ c with fault := none } : PwmChan).restart (vget s.pwm.safe n 0)) with safeIn := false, wasSafe := false } else c) s) s
    { s1 with pwm := { s1.pwm with result := .ok } }

/-- GEN_SYNC: every named generator restarts (R432). -/
def pwmGenSync (m : Nat) (s : State) : State :=
  let s1 := (setBitsBelow 32 m).foldl (fun s n => modChan n PwmChan.genRestart s) s
  { s1 with pwm := { s1.pwm with result := .ok } }

/-! ### Registers (Table 17.1) -/

/-- PWM_STAT.SAFE: channels safe or held low. -/
def pwmSafeMask (s : State) : Nat :=
  maskOf ((List.range 32).map (fun n => pwmHeldLow s || pwmSafe s (chan s n)))

/-- PWM_OUT_n. -/
def pwmOutWord (s : State) (n : Nat) : Word :=
  let c := chan s n
  packWord [(48, c.applied), (32, c.held), (16, match c.hold with | some h => h.code | none => c.target),
    (11, b2n (c.applied ≠ c.held)), (10, b2n c.hold.isSome), (9, b2n c.fault.isSome),
    (8, b2n (pwmHeldLow s || pwmSafe s c)), (4, c.fault.getD 0), (0, ofSigned 2 c.carry)]

/-- PWM_CNT_n. -/
def pwmCntWord (c : PwmChan) : Word :=
  packWord [(48, c.underrunCnt), (32, c.staleCnt), (16, c.majorCnt), (0, c.cancelCnt)]

/-- Read a register of the PWM block; `none` where the offset belongs to the record table or to nothing. -/
def pwmRead (o : Nat) (s : State) : Option Word :=
  if o = 0x000 then some 0
  else if o = 0x008 then
    some (packWord [(60, statusCode s.pwm.result), (48, s.pwm.refuseAt), (0, pwmSafeMask s)])
  else if 0x010 ≤ o && o < 0x030 then some (vget s.pwm.tbReg ((o - 0x010) / 8) 0)
  else if 0x100 ≤ o && o < 0x200 then some (BitVec.ofNat 64 (chan s ((o - 0x100) / 8)).code)
  else if 0x200 ≤ o && o < 0x300 then some (pwmOutWord s ((o - 0x200) / 8))
  else if 0x300 ≤ o && o < 0x400 then some (pwmCntWord (chan s ((o - 0x300) / 8)))
  else none

/-- The side effect of a read of a PWM register: PWM_CNT_n clears (RC). -/
def pwmReadEffect (o : Nat) (s : State) : State :=
  if 0x300 ≤ o && o < 0x400 then
    modChan ((o - 0x300) / 8) (fun c => { c with underrunCnt := 0, staleCnt := 0, majorCnt := 0, cancelCnt := 0 }) s
  else s

/-- A write of PWM_CTL (KEY 0x50). -/
def pwmCtl (w : Word) (s : State) : State :=
  if bits w 63 56 ≠ 0x50 then s
  else match bits w 2 0 with
    | 1 => pwmApply s
    | 2 => pwmStrobe (bits w 11 8) s
    | 3 => pwmFaultClear (bits w 47 16) s
    | 4 => pwmGenSync (bits w 47 16) s
    | _ => s

/-- Write a register of the PWM block; the record table is memory. -/
def pwmWrite (o : Nat) (w : Word) (s : State) : State :=
  if o = 0x000 then pwmCtl w s
  else if 0x010 ≤ o && o < 0x030 then
    let v := packWord [(60, bits w 63 60), (0, bits w 25 0)]
    { s with pwm := { s.pwm with tbReg := vput s.pwm.tbReg ((o - 0x010) / 8) v } }
  else if 0x100 ≤ o && o < 0x200 then pwmCodeWrite ((o - 0x100) / 8) w s
  else s

/-! ### SAFE_VALUES (R439) and mode changes (R442, R444) -/

/-- A SAFE_VALUES payload has the layout of R439. -/
def safeValuesOk (p : List Byte) : Bool :=
  p.length == 128 && le p 0 4 == 0x53564C31 && le p 4 2 == 1 && zeroBytes p 6 58

/-- The safe codes of the payload in force in NVM (R439, R444). -/
def pwmLoadSafe (s : State) : State :=
  let a := nvmBase + 0x1000
  { s with pwm := { s.pwm with safe := Vector.ofFn (fun (n : Fin 32) => s.mem.readN (a + 64 + 2 * n.val) 2) } }

/-- Every IN_USE channel starts by R437, as on entry to the target mode (R444) and at the release of IO (R442). -/
def pwmRestartAll (s : State) : State :=
  (List.range 32).foldl (fun s n => modChan n (fun c => c.restart (vget s.pwm.safe n 0)) s) s

/-- Entry to UPDATE discards every pending code (R436). -/
def pwmEnterUpdate (s : State) : State :=
  (List.range 32).foldl (fun s n => modChan n (fun c => { c with hold := none, arrivals := [] }) s) s

/-- Entry to a safe state discards every pending code and waiting target (R435). -/
def pwmEnterSafe (s : State) : State :=
  (List.range 32).foldl (fun s n => modChan n (fun c => { c with hold := none, arrivals := [], safeIn := false }) s) s

end Sys2Proof.Machine
end

