-- ==== Sys2Proof/Machine/Payloads.lean ====
section
/-! DEFINITION. The payload checks of the consent scopes (R116 and the chapters that own the payloads). -/
namespace Sys2Proof.Machine
open Sys2Proof





/-- A METER_SEAL payload is valid (R219). -/
def meterSealOk (p : List Byte) : Bool := sealOk p
/-- A MODEL_LIMITS payload is valid (R419). -/
def modelLimitsOk (p : List Byte) : Bool :=
  p.length == 144 && le p 0 4 == 0x4D4C4D31 && le p 4 2 == 1 && zeroBytes p 6 10 &&
  (List.range 5).all (fun k =>
    let b := 16 + 16 * k
    decide (le p b 1 ≤ 1) && le p (b + 1) 1 == 0 && decide (le p (b + 4) 2 ≤ 32767) && decide (1 ≤ le p (b + 6) 2) && decide (le p (b + 6) 2 ≤ 4096) &&
    le p (b + 8) 2 != 0 && zeroBytes p (b + 10) 6) && zeroBytes p 96 48

/-- A CONSENT_CONFIG payload keeps R128; REANCHOR only in UPDATE. -/
def consentConfigOk (inUpdate : Bool) (p : List Byte) : Bool :=
  p.length == 32 && le p 0 4 == 0x5A434346 && decide (10 ≤ le p 4 2) && decide (le p 4 2 ≤ 600) && zeroBytes p 6 2 &&
  (List.range 8).all (fun s => decide (1 ≤ le p (8 + s) 1) && decide (le p (8 + s) 1 ≤ 7)) &&
  decide (le p 16 4 ≤ 1) && zeroBytes p 20 12 && (inUpdate || le p 16 4 == 0)

end Sys2Proof.Machine
end

