-- ==== Sys2Proof/Machine/ConsentOps.lean ====
section
/-! DEFINITION. The consent controller: proposals, hashing, confirmation, ends of a proposal, images (chapter 5). -/
namespace Sys2Proof.Machine
open Sys2Proof

/-- Reason codes of Table 5.6. -/
def rsCOMMITTED : Nat := 1
def rsEXPIRED : Nat := 2
def rsSUPERSEDED : Nat := 3
def rsWITHDRAWN : Nat := 4
def rsDIGEST : Nat := 5
def rsIMAGE : Nat := 6
def rsMODE : Nat := 7
def rsCHANNEL : Nat := 8
def rsTAG : Nat := 9
def rsRESET : Nat := 10
def rsRANGE : Nat := 11
def rsCHANGED : Nat := 12
def rsPAYLOAD : Nat := 13
def rsAPPLY : Nat := 14
def rsFORMAT : Nat := 15

/-- Scope codes of Table 5.1. -/
def scKERB : Nat := 0
def scTRIP : Nat := 1
def scMETER : Nat := 2
def scSAFE : Nat := 3
def scFIRMWARE : Nat := 4
def scMODEL : Nat := 5
def scCONFIG : Nat := 6
def scROLES : Nat := 7

/-- Channel codes of Table 5.2. -/
def channelCode : Channel → Nat
  | .hp => 0 | .mp => 1 | .warden => 2 | .fw => 3

/-- Base of the staging area (Table 19.4). -/
def stagingBase : Nat := sramBase + 0x800000

/-- A scope with no proposal. -/
def ScopeState.blank : ScopeState :=
  { phase := .idle, result := 0, proposer := .hp, confirmer := none, length := 0, offset := 0, digest := 0, mask := 0,
    window := 0, deadline := 0 }

/-- A scope. -/
def scopeOf (s : State) (k : Nat) : ScopeState := vget s.consent.scopes k ScopeState.blank

/-- Change a scope; every change of CONSENT_STATE sets ATTN_CAUSE.CONSENT (R122). -/
def modScope (k : Nat) (f : ScopeState → ScopeState) (s : State) : State :=
  setAttn attnConsent { s with consent := { s.consent with scopes := vmod s.consent.scopes k f } }

/-- A proposal is open in HASHING or PENDING. -/
def ScopeState.isOpen (x : ScopeState) : Bool := x.phase == .hashing || x.phase == .pending

/-- The tag of a latched digest: bytes 0–7, byte 0 in bits [63:56]. -/
def tagOf (digest : Nat) : Nat := ofLeBytes (leBytes 8 digest).reverse

/-- A commit is in progress. -/
def commitBusy (s : State) : Bool := s.consent.scopes.toList.any (fun x => x.phase == .committing)

/-- MISMATCH_CNT returns to 0 while no scope is in HASHING or PENDING (R118). -/
def settleMismatch (s : State) : State :=
  if s.consent.scopes.toList.any ScopeState.isOpen then s else { s with consent := { s.consent with mismatch := 0 } }

/-- FLAGS of a consent record (Table 5.4). -/
def recordFlags (a : Channel) (b : Option Channel) : Nat :=
  2 * channelCode a + (match b with | some c => 8 * channelCode c + 32 | none => 0)

/-- The record of a proposal that ended without commit (Table 5.5). -/
def endRecord (k : Nat) (x : ScopeState) (reason : Nat) : LogRec :=
  { typ := 0x0102, scope := k, flags := recordFlags x.proposer (if x.phase == .committing then x.confirmer else none),
    detail32 := reason, tag := tagOf x.digest, digest := x.digest, detail := 0 }

/-- End a scope's proposal without commit: record, lock released, IDLE, RESULT (R122). -/
def endProposal (k reason : Nat) (s : State) : State :=
  let s1 := appendLog (endRecord k (scopeOf s k) reason) s
  settleMismatch (modScope k (fun x => { x with phase := .idle, result := reason, confirmer := none }) s1)

/-- Table 5.3: the scope accepts proposals in the mode. -/
def scopeAllowed (k : Nat) (m : Mode) : Bool :=
  if k = scFIRMWARE then m == .update
  else m == .night || m == .service || m == .inspection || m == .update

/-- R131: entering a mode ends the open proposals whose scope it does not allow. -/
def consentMode (m : Mode) (s : State) : State :=
  (List.range 8).foldl (fun s k =>
    if (scopeOf s k).isOpen && !scopeAllowed k m then endProposal k rsMODE s else s) s

/-- The locked range of a scope: from acceptance until the proposal ends (R115). -/
def lockedRange (x : ScopeState) : Option (Nat × Nat) :=
  if x.phase == .idle then none else some (stagingBase + 64 * x.offset, x.length)

/-- A write of `n` bytes at `a` meets a locked range (R115). -/
def hitsLock (s : State) (a n : Nat) : Bool :=
  s.consent.scopes.toList.any (fun x => match lockedRange x with
    | some (b, l) => decide (a < b + l) && decide (b < a + n)
    | none => false)

/-- Refuse a consent write with a reason (R114, R117, R120). -/
def refuseWith (reason : Nat) (s : State) : Status × State :=
  (.refused, { s with consent := { s.consent with lastRefusal := reason } })

/-- A CONSENT_PROPOSE write consumes the channel's digest words (R114). -/
def spendDigest (ch : Channel) (s : State) : State :=
  { s with consent := { s.consent with
      digestBy := s.consent.digestBy.map (fun b => if b == some ch then none else b) } }

/-- The digest the four CONSENT_DIGEST words spell: byte 8n of the digest in bits [63:56] of word n (Table 5.9). -/
def digestOfWords (s : State) : Nat :=
  ofLeBytes (s.consent.digest.toList.flatMap (fun w => (leBytes 8 w.toNat).reverse))

/-- The range overlaps a locked range of another scope. -/
def overlapsOther (s : State) (k off len : Nat) : Bool :=
  (List.range 8).any (fun j => j ≠ k && (match lockedRange (scopeOf s j) with
    | some (b, l) => decide (stagingBase + 64 * off < b + l) && decide (b < stagingBase + 64 * off + len)
    | none => false))

/-- The first condition of R114 not met, as a reason; none = the proposal is accepted. -/
def proposeRefusal (ch : Channel) (w : Word) (s : State) : Option Nat :=
  let k := bits w 50 48
  let len := bits w 47 24
  let off := bits w 16 0
  if bits w 63 56 ≠ 0xC5 then some rsFORMAT
  else if ch == .warden then some rsCHANNEL
  else if !(s.consent.digestBy.toList.all (fun b => b == some ch)) then some rsCHANNEL
  else if !scopeAllowed k s.mode.mode then some rsMODE
  else if len = 0 || 8388608 < len || 8388608 < 64 * off + len || overlapsOther s k off len then some rsRANGE
  else if (scopeOf s k).phase == .committing then some rsMODE
  else if k = scMETER && 0xFFFFFFFF ≤ s.consent.sealCount then some rsPAYLOAD
  else none

/-- A CONSENT_PROPOSE write with WITHDRAW = 0 (R114, R130). -/
def propose (ch : Channel) (w : Word) (s : State) : Status × State :=
  match proposeRefusal ch w s with
  | some r => refuseWith r (spendDigest ch s)
  | none =>
    let k := bits w 50 48
    let s1 := if (scopeOf s k).isOpen then endProposal k rsSUPERSEDED s else s
    let d := digestOfWords s
    (.ok, modScope k (fun x => { x with
      phase := .hashing, proposer := ch, confirmer := none, length := bits w 47 24, offset := bits w 16 0,
      digest := d, mask := vget s.consent.bMask k 0, window := s.consent.windowS, deadline := 0 }) (spendDigest ch s1))

/-- A CONSENT_PROPOSE write with WITHDRAW = 1 (R120). -/
def withdraw (ch : Channel) (w : Word) (s : State) : Status × State :=
  let k := bits w 50 48
  let s1 := spendDigest ch s
  if bits w 63 56 ≠ 0xC5 then refuseWith rsFORMAT s1
  else if !(scopeOf s k).isOpen then refuseWith rsMODE s1
  else if (scopeOf s k).proposer ≠ ch then refuseWith rsCHANNEL s1
  else (.ok, endProposal k rsWITHDRAWN s1)

/-- The mask bit of a confirmer channel (R128). -/
def maskBit (ch : Channel) : Nat := channelCode ch

/-- End every HASHING and PENDING proposal with reason TAG after four mismatches (R118). -/
def tooManyTags (s : State) : State :=
  if s.consent.mismatch < 4 then s
  else (List.range 8).foldl (fun s k => if (scopeOf s k).isOpen then endProposal k rsTAG s else s) s

/-- A CONSENT_CONFIRM write or a WARDEN's tag (R117). -/
def confirm (ch : Channel) (tag : Word) (s : State) : Status × State :=
  let t := tag.toNat
  let hits := (List.range 8).filter (fun k => (scopeOf s k).phase == .pending && tagOf (scopeOf s k).digest == t)
  match hits with
  | [k] =>
    let x := scopeOf s k
    if ch == .fw || !x.mask.testBit (maskBit ch) || x.proposer == ch || x.deadline ≤ s.time.uptime then refuseWith rsCHANNEL s
    else (.ok, modScope k (fun x => { x with phase := .committing, confirmer := some ch }) s)
  | [] =>
    let known := (List.range 8).any (fun k =>
      let x := scopeOf s k
      (x.phase == .hashing || x.phase == .committing) && tagOf x.digest == t)
    let r := refuseWith rsTAG s
    if known then r
    else (.refused, settleMismatch (tooManyTags { r.2 with consent := { r.2.consent with mismatch := min 15 (r.2.consent.mismatch + 1) } }))
  | _ => refuseWith rsTAG s

/-! ### Images (R127, R508) -/

/-- One Rhoun image of a payload. -/
structure Image where
  typ : Nat
  version : Nat
  rollback : Nat
  keySlot : Nat
  target : Nat
  /-- The header's bytes 0–63, which the signature covers. -/
  signed : List Byte
  signature : List Byte
  digest : Nat
  body : List Byte
  /-- MAGIC, FORMAT and the zero bytes are as Table 5.7 states. -/
  headerOk : Bool
  deriving DecidableEq, Repr

/-- Parse the image at the front of a byte list. -/
def parseImage (p : List Byte) : Image :=
  { typ := le p 6 2, version := le p 8 4, rollback := le p 12 4, keySlot := le p 20 1, target := le p 21 1
    signed := p.take 64, signature := (p.drop 64).take 64, digest := le p 32 32, body := (p.drop 128).take (le p 16 4)
    headerOk := le p 0 4 == 0x52484E31 && le p 4 2 == 1 && zeroBytes p 22 10 }

/-- Split a FIRMWARE payload into its images by the layout of R508, at most `n` of them; none where it breaks. -/
def splitImages : Nat → List Byte → Option (List Image)
  | 0, _ => none
  | n + 1, p =>
    if p.length < 128 then none
    else
      let i := parseImage p
      let fin := 128 + le p 16 4
      if p.length < fin then none
      else if p.length = fin then some [i]
      else
        let nxt := (fin + 7) / 8 * 8
        if zeroBytes p fin (nxt - fin) && nxt < p.length then (splitImages n (p.drop nxt)).map (i :: ·) else none

/-- The key that verifies an image, where TYPE, KEY_SLOT and TARGET pair as R127's table states. -/
def imageKey (s : State) (i : Image) : Option (List Byte) :=
  let enrolled := vget s.consent.keys i.keySlot none
  let within (m : Nat) : Bool := i.target ≠ 0 && Nat.land i.target (255 - m) == 0
  match i.typ with
  | 1 => if i.keySlot = 0 && within 0x3F then some Config.slot0Key else none
  | 2 => if 1 ≤ i.keySlot && i.keySlot ≤ 3 && within 0xC0 then enrolled else none
  | 3 => if 1 ≤ i.keySlot && i.keySlot ≤ 3 && i.target = 0 && i.body.length = 64 then some i.body else none
  | 4 => if i.target ≠ 0 then none else if i.keySlot = 0 then some Config.slot0Key
    else if i.keySlot ≤ 3 then enrolled else none
  | _ => none

/-- One section of a type-1 or type-2 image: memory, byte offset, and its bytes (R199). -/
structure Section where
  space : Nat
  offset : Nat
  data : List Byte
  deriving DecidableEq, Repr

/-- Bytes of a memory by SPACE: program, X, Y (R199). -/
def spaceSize (sp : Nat) : Nat := if sp = 0 then 0x20000 else 0x40000

/-- The sections of an image body, at most `n` of them; none where a section breaks R199. -/
def sections : Nat → List Byte → Option (List Section)
  | _, [] => some []
  | 0, _ => none
  | n + 1, p =>
    let sp := le p 0 2
    let fl := le p 2 2
    let o := le p 4 4
    let len := le p 8 4
    let zero := fl == 1
    let size := if zero then 16 else 16 + len
    if p.length < 16 || p.length < size || 2 < sp || 1 < fl || o % 8 ≠ 0 || len % 8 ≠ 0 || !zeroBytes p 12 4 ||
       spaceSize sp < o + len then none
    else
      let d := if zero then List.replicate len (0 : Byte) else (p.drop 16).take len
      (sections n (p.drop size)).map (⟨sp, o, d⟩ :: ·)

/-- The sections of a whole body. -/
def bodySections (b : List Byte) : Option (List Section) := sections (b.length / 16 + 1) b

/-- Every check of R127 on one image, with R199 for images that hold programs. -/
def imageOk (s : State) (i : Image) : Bool :=
  i.headerOk && (!(i.typ == 1 || i.typ == 2) || (bodySections i.body).isSome) && shaN i.body == i.digest && decide (vget s.consent.floors i.typ 0 ≤ i.rollback) &&
  (match imageKey s i with
    | some k => ecdsaVerify k i.signed i.signature
    | none => false)

/-- Where the image store holds each program image: its offset and the image, each on a 64-byte boundary (R484). -/
def storePlan (l : List Image) : List (Nat × Image) :=
  ((l.filter (fun i => i.typ == 1 || i.typ == 2)).foldl (fun (p : Nat × List (Nat × Image)) i =>
    let a := (p.1 + 63) / 64 * 64
    (a + i.body.length, p.2 ++ [(a, i)])) (0, [])).2

/-- The program images fit the image store of 2,944 KiB (R484). -/
def storeFits (l : List Image) : Bool := (storePlan l).all (fun p => decide (p.1 + p.2.body.length ≤ 2944 * 1024))

/-- The images of a payload, when the layout and every image pass (R127, R484, R508). -/
def firmwareImages (s : State) (p : List Byte) : Option (List Image) :=
  match splitImages 16 p with
  | none => none
  | some l =>
    if l.all (imageOk s) && storeFits l then some l else none

/-! ### Hashing (R116) -/

/-- The staged payload of a scope. -/
def payloadOf (s : State) (x : ScopeState) : List Byte := s.mem.bytes (stagingBase + 64 * x.offset) x.length

/-- The read of the range meets an uncorrectable ECC error (R485). -/
def payloadBad (s : State) (x : ScopeState) : Bool :=
  let a := stagingBase + 64 * x.offset
  s.ecc.any (fun w => a / 8 * 8 ≤ w && w < a + x.length)

/-- A fabric write meets a locked range (R115). -/
def lockedAt (s : State) (a : Nat) : Bool :=
  s.consent.scopes.toList.any (fun x =>
    (x.isOpen || x.phase == .committing) && decide (stagingBase + 64 * x.offset < a + 8) &&
    decide (a < stagingBase + 64 * x.offset + x.length))

/-- The reason a payload fails its scope's checks, if it does. -/
def payloadFail (s : State) (k : Nat) (p : List Byte) : Option Nat :=
  let chk (b : Bool) : Option Nat := if b then none else some rsPAYLOAD
  match k with
  | 0 => chk (kerbProgramOk p)
  | 1 => chk (tripPathsOk p)
  | 2 => chk (meterSealOk p)
  | 3 => chk (safeValuesOk p)
  | 4 => if (firmwareImages s p).isSome then none else some rsIMAGE
  | 5 => chk (modelLimitsOk p)
  | 6 => chk (consentConfigOk (s.mode.mode == .update) p)
  | _ => chk (rolesOk p)

/-- The hash and the checks complete: the proposal ends, or enters PENDING and its window starts (R116). -/
def hashingDone (k : Nat) (s : State) : State :=
  let x := scopeOf s k
  if x.phase ≠ .hashing then s
  else
    let p := payloadOf s x
    if payloadBad s x then endProposal k rsCHANGED s
    else if shaN p ≠ x.digest then endProposal k rsDIGEST s
    else match payloadFail s k p with
      | some r => endProposal k r s
      | none => modScope k (fun x => { x with phase := .pending, deadline := s.time.uptime + x.window * 1000000000 }) s

/-- The window of a PENDING proposal runs out (R119). -/
def windowExpiry (k : Nat) (s : State) : State :=
  if (scopeOf s k).phase == .pending then endProposal k rsEXPIRED s else s

/-! ### Bring-up (R132 to R134) -/

/-- Proposals open when AON's state is lost (R132). -/
def openProposals (s : State) : List LostProposal :=
  ((List.range 8).filter (fun k => (scopeOf s k).phase ≠ .idle)).map (fun k =>
    let x := scopeOf s k
    { scope := k, digest := x.digest, proposer := x.proposer,
      confirmer := if x.phase == .committing then x.confirmer else none })

/-- Step 4 appends one RESET record for each lost proposal (R132). -/
def logLost (s : State) : State :=
  let s1 := s.consent.lost.foldl (fun s l =>
    appendLog { typ := 0x0102, scope := l.scope, flags := recordFlags l.proposer l.confirmer, detail32 := rsRESET,
                tag := tagOf l.digest, digest := l.digest, detail := 0 } s) s
  { s1 with consent := { s1.consent with lost := [] } }

/-- The bytes of record SEQ in the log. -/
def logRecBytes (s : State) (seq : Nat) : List Byte := s.mem.bytes (logAddr seq) 128

/-- The chain holds from the newest record back to the oldest retained one or the latest re-anchor, over at most `n`
records; `h` is the hash the newest must have (R125, R133, R134). -/
def chainOk (s : State) : Nat → Nat → Nat → Bool
  | 0, _, _ => true
  | _, 0, _ => true
  | n + 1, seq + 1, h =>
    let b := logRecBytes s (seq + 1)
    shaN b == h && (le b 16 2 == 0x0103 || chainOk s n seq (le b 96 32))

/-- The event-log chain is intact up to the stored head hash (R134). -/
def logIntact (s : State) : Bool := chainOk s 8192 s.log.seq s.log.head.toNat

/-- An uncorrectable error lies in a consent-scoped NVM area (R133). -/
def trustBad (s : State) : Bool := s.ecc.any (fun a => nvmBase ≤ a && a < nvmBase + 0x20000)

/-! ### Registers (Table 5.9) -/

/-- REMAINING_S of the selected scope. -/
def remainingS (s : State) (x : ScopeState) : Nat :=
  if x.phase == .pending then (x.deadline - s.time.uptime) / 1000000000 else 0

/-- Read a register of the consent block by its offset from 0x300. -/
def consentRead (o : Nat) (s : State) : Word :=
  let c := s.consent
  let x := scopeOf s c.sel
  if o = 0x08 then
    (if x.phase == .pending || x.phase == .committing then BitVec.ofNat 64 (tagOf x.digest) else 0)
  else if o = 0x18 then
    packWord ((List.range 8).flatMap (fun k => [(8 * k + 4, (scopeOf s k).result), (8 * k, (scopeOf s k).phase.code)]))
  else if o = 0x20 then
    packWord [(32, remainingS s x), (28, b2n c.lockHit), (24, c.lastRefusal), (16, c.mismatch), (0, c.windowS)]
  else if o = 0x28 then BitVec.ofNat 64 c.sel
  else if o = 0x30 then packWord [(56, channelCode x.proposer), (24, x.length), (0, x.offset)]
  else if 0x40 ≤ o && o < 0x60 then vget c.digest ((o - 0x40) / 8) 0
  else if !c.nvmLoaded then 0
  else if o = 0x60 then packWord [(32, c.calTag), (0, c.sealCount)]
  else if o = 0x68 then BitVec.ofNat 64 s.log.seq
  else if o = 0x70 then
    packWord [(32, c.fwVersion), (8, 1 + 2 * b2n (vget c.keys 1 none).isSome + 4 * b2n (vget c.keys 2 none).isSome
      + 8 * b2n (vget c.keys 3 none).isSome), (0, c.slot)]
  else 0

/-- A host-port read of CONSENT_WINDOW clears LOCK_HIT. -/
def consentReadEffect (o : Nat) (s : State) : State :=
  if o = 0x20 then { s with consent := { s.consent with lockHit := false } } else s

/-- A write of CONSENT_DIGEST_n over a channel. -/
def digestWrite (ch : Channel) (n : Nat) (w : Word) (s : State) : State :=
  { s with consent := { s.consent with digest := vput s.consent.digest n w, digestBy := vput s.consent.digestBy n (some ch) } }

/-- Write a register of the consent block over a channel. -/
def consentWrite (ch : Channel) (o : Nat) (w : Word) (s : State) : Status × State :=
  if o = 0x00 then (if bit w 52 then withdraw ch w s else propose ch w s)
  else if o = 0x10 then confirm ch w s
  else if o = 0x28 then (.ok, { s with consent := { s.consent with sel := bits w 2 0 } })
  else if 0x40 ≤ o && o < 0x60 then (.ok, digestWrite ch ((o - 0x40) / 8) w s)
  else (.ok, s)

end Sys2Proof.Machine
end

