-- ==== Sys2Proof/Machine/CoreOps.lean ====
section
/-! DEFINITION. Registers, pending results, addressing, stack frames, entries and returns of a Signal Core, its register
block and its reset (chapters 7 and 8). -/
namespace Sys2Proof.Machine
open Sys2Proof

/-- Core `n`. -/
def core (s : State) (n : Nat) : CoreState := vget s.cores n CoreState.init

/-- Change core `n`. -/
def modCore (n : Nat) (f : CoreState → CoreState) (s : State) : State := { s with cores := vmod s.cores n f }

/-! ### Registers (R156, R182, R183) -/

/-- The bank in use. -/
def CoreState.cur (k : CoreState) : Bank := if k.bank then k.shadow else k.main

/-- Change the bank in use. -/
def CoreState.modCur (f : Bank → Bank) (k : CoreState) : CoreState :=
  if k.bank then { k with shadow := f k.shadow } else { k with main := f k.main }

/-- D register `i` (R183). -/
def rdD (k : CoreState) (i : Nat) : Word := if i < 12 then vget k.d i 0 else vget k.cur.d (i - 12) 0

/-- Write D register `i`. -/
def wrD (i : Nat) (v : Word) (k : CoreState) : CoreState :=
  if i < 12 then { k with d := vput k.d i v } else k.modCur (fun b => { b with d := vput b.d (i - 12) v })

/-- An accumulator as MOVD, MOVDL, MOVDI, STA and STL see it (R161). -/
def rdAcc (k : CoreState) (i : Nat) : Acc := if i < 3 then vget k.a i Acc.zero else k.cur.a3

/-- An accumulator as an accumulator writer sees it (R161). -/
def rdAccW (k : CoreState) (i : Nat) : Acc := if i < 3 then vget k.aw i Acc.zero else k.cur.a3w

/-- The new value of an accumulator reaches its other readers. -/
def wrAcc (i : Nat) (v : Acc) (k : CoreState) : CoreState :=
  if i < 3 then { k with a := vput k.a i v } else k.modCur (fun b => { b with a3 := v })

/-- The new value of an accumulator reaches the accumulator writers. -/
def wrAccW (i : Nat) (v : Acc) (k : CoreState) : CoreState :=
  if i < 3 then { k with aw := vput k.aw i v } else k.modCur (fun b => { b with a3w := v })

/-- Every accumulator writer sees what the other readers see. -/
def accSettle (k : CoreState) : CoreState := { k with aw := k.a }.modCur (fun b => { b with a3w := b.a3 })

/-- Pointer `i`. -/
def rdP (k : CoreState) (i : Nat) : BitVec 41 := if i < 6 then vget k.p i 0 else vget k.cur.p (i - 6) 0
/-- Buffer base `i`. -/
def rdB (k : CoreState) (i : Nat) : BitVec 41 := if i < 6 then vget k.b i 0 else vget k.cur.b (i - 6) 0
/-- Buffer length `i`. -/
def rdL (k : CoreState) (i : Nat) : BitVec 24 := if i < 6 then vget k.l i 0 else vget k.cur.l (i - 6) 0
/-- Modifier `i`. -/
def rdM (k : CoreState) (i : Nat) : BitVec 24 := if i < 6 then vget k.m i 0 else vget k.cur.m (i - 6) 0

/-- ST as it reads, LVL in bits 18:16 (Table 7.10). -/
def Bank.stWord (b : Bank) : Word := BitVec.ofNat 64 (b.st.toNat + 65536 * min 4 b.rep.length)

/-- What a write keeps of ST: LVL ignores writes, and reserved bits read 0 (Table 7.10, R13). -/
def stKeep (v : Word) : Word := v &&& 0x13F

/-- Registers a MOVAR names, by code, in the bank given (Tables 7.11 and 8.1); none where no register has the code. -/
def sregRead (k : CoreState) (b : Bank) (pc code : Nat) : Option Word :=
  let z (n : Nat) (v : BitVec n) : Word := v.setWidth 64
  let r (i lo : Nat) : Nat := i - lo
  if code < 0x08 then some (z 41 (if code < 6 then vget k.p code 0 else vget b.p (code - 6) 0))
  else if code < 0x10 then let i := r code 8; some (z 41 (if i < 6 then vget k.b i 0 else vget b.b (i - 6) 0))
  else if code < 0x18 then let i := r code 16; some (z 24 (if i < 6 then vget k.l i 0 else vget b.l (i - 6) 0))
  else if code < 0x20 then let i := r code 24; some ((if i < 6 then vget k.m i 0 else vget b.m (i - 6) 0).signExtend 64)
  else match code with
  | 0x20 => some b.stWord
  | 0x21 => some (z 32 b.idx)
  | 0x22 => some (BitVec.ofNat 64 ((b.rep.head?.map (·.count)).getD 0))
  | 0x23 => some (BitVec.ofNat 64 pc)
  | 0x28 => some (BitVec.ofNat 64 k.sp)
  | 0x29 => some (BitVec.ofNat 64 k.spLo)
  | 0x2A => some (BitVec.ofNat 64 k.spHi)
  | 0x2B => some (z 14 b.lr)
  | 0x2C => some (BitVec.ofNat 64 (if k.bank then k.spc else 0))
  | 0x2D => some (BitVec.ofNat 64 k.vbase)
  | 0x2E => some (BitVec.ofNat 64 k.ie)
  | 0x2F => some (BitVec.ofNat 64 k.iprio)
  | 0x30 => some k.imask
  | 0x31 => some k.ipend
  | 0x32 => some 0
  | 0x33 => some (BitVec.ofNat 64 (b2n k.bank))
  | 0x34 => some (BitVec.ofNat 64 k.fcause)
  | _ => none

/-- Codes a MOVAR write may name (R177, R182). -/
def sregWritable (code : Nat) : Bool :=
  code < 0x22 || (0x28 ≤ code && code ≤ 0x32 && code ≠ 0x2C)

/-- Write a banked register of a bank by its MOVAR code. -/
def bankWrite (code : Nat) (v : Word) (b : Bank) : Bank :=
  if code = 6 || code = 7 then { b with p := vput b.p (code - 6) (v.setWidth 41) }
  else if code = 14 || code = 15 then { b with b := vput b.b (code - 14) (v.setWidth 41) }
  else if code = 22 || code = 23 then { b with l := vput b.l (code - 22) (v.setWidth 24) }
  else if code = 30 || code = 31 then { b with m := vput b.m (code - 30) (v.setWidth 24) }
  else if code = 0x20 then { b with st := stKeep v }
  else if code = 0x21 then { b with idx := v.setWidth 32 }
  else if code = 0x2B then { b with lr := v.setWidth 14 }
  else b

/-- The codes of banked registers (Table 8.2). -/
def bankedCode (code : Nat) : Bool :=
  [6, 7, 14, 15, 22, 23, 30, 31, 0x20, 0x21, 0x2B].contains code

/-- Write a register that both banks share by its MOVAR code (R177, Table 8.1). -/
def sharedWrite (code : Nat) (v : Word) (k : CoreState) : CoreState :=
  let n := v.toNat
  if code < 0x06 then { k with p := vput k.p code (v.setWidth 41) }
  else if 0x08 ≤ code && code < 0x0E then { k with b := vput k.b (code - 8) (v.setWidth 41) }
  else if 0x10 ≤ code && code < 0x16 then { k with l := vput k.l (code - 16) (v.setWidth 24) }
  else if 0x18 ≤ code && code < 0x1E then { k with m := vput k.m (code - 24) (v.setWidth 24) }
  else match code with
  | 0x28 => { k with sp := n % 2 ^ 19 }
  | 0x29 => { k with spLo := n % 2 ^ 19 }
  | 0x2A => { k with spHi := n % 2 ^ 19 }
  | 0x2D => { k with vbase := bits v 13 9 * 512 }
  | 0x2E => { k with ie := n % 4 }
  | 0x2F => { k with iprio := n % 8 }
  | 0x30 => { k with imask := v }
  | 0x31 => { k with ipend := k.ipend ||| v }
  | 0x32 => { k with ipend := k.ipend &&& ~~~v }
  | _ => k

/-- Write a special register of the bank in use. -/
def sregWrite (code : Nat) (v : Word) (k : CoreState) : CoreState :=
  if bankedCode code then k.modCur (bankWrite code v) else sharedWrite code v k

/-! ### Pending results (R161, R184) -/

/-- A result becomes visible. -/
def applyResult (r : Result) (k : CoreState) : CoreState :=
  match r with
  | .d i v => wrD i v k
  | .acc i v => wrAcc i v k
  | .sreg c v => sregWrite c v k
  | .flags v => k.modCur (fun b => { b with st := (b.st &&& 0xFFFFFFFFFFFFFFF0) ||| BitVec.ofNat 64 (v % 16) })
  | .sticky m => k.modCur (fun b => { b with st := b.st ||| BitVec.ofNat 64 m })

/-- Make a list of results visible in order. -/
def applyAll (l : List Pend) (k : CoreState) : CoreState := l.foldl (fun k p => applyResult p.res k) k

/-- The end of a bundle: what is due becomes visible in issue order, the rest comes one bundle nearer (R161). -/
def tickPend (k : CoreState) : CoreState :=
  let due := k.pend.filter (fun p => p.left == 0)
  let rest := (k.pend.filter (fun p => p.left ≠ 0)).map (fun p => { p with left := p.left - 1 })
  applyAll due { k with pend := rest }

/-- A pending result is a D-register load. -/
def Pend.isLoad (p : Pend) : Bool := match p.res with | .d _ _ => true | _ => false

/-- Pending accumulator and MOVAR results become visible (R184). -/
def settleOthers (k : CoreState) : CoreState :=
  accSettle (applyAll (k.pend.filter (fun p => !p.isLoad)) { k with pend := k.pend.filter Pend.isLoad })

/-- Writes of SP and its bounds become visible (R190). -/
def settleSp (k : CoreState) : CoreState :=
  let sp (p : Pend) : Bool := match p.res with | .sreg c _ => 0x28 ≤ c && c ≤ 0x2A | _ => false
  applyAll (k.pend.filter sp) { k with pend := k.pend.filter (fun p => !sp p) }

/-! ### Addressing (R158, R162, R164) -/

/-- Base of core-local space in Plaza space: local addresses are offsets of the core block (R479). -/
def localAddr (n a : Nat) : Nat := coreBase n + a

/-- An address of the core reaches Plaza space (R158). -/
def isPlaza (a : BitVec 41) : Bool := a.getLsbD 40

/-- A core-local address has a target (Table 7.2). -/
def coreLocalOk (a : BitVec 41) : Bool := a.toNat < 0xA0000

/-- The pointer rule of R162, by base, length and the amount. -/
def ptrAdd (p b : BitVec 41) (l : BitVec 24) (d : Int) : BitVec 41 :=
  let t : Int := (p.toNat : Int) + d
  let len : Int := (l.toNat : Int)
  let base : Int := (b.toNat : Int)
  BitVec.ofInt 41 (if l = 0 then t else if base + len ≤ t then t - len else if t < base then t + len else t)

/-- Bank that serves a local address: X even, X odd, Y even, Y odd, program memory (R158, R159). -/
def localBank (a : Nat) : Nat := if a < 0x40000 then a / 8 % 2 else if a < 0x80000 then 2 + a / 8 % 2 else 4

/-- One slot's access size in bytes. -/
def slotSize (store : Bool) (m : MoveSlot) : Nat := if !store && m.kind.val = 2 then 4 else 8

/-- A slot's offset. -/
def slotOfs (m : MoveSlot) : Int := toSigned 6 m.ofs.val

/-- A slot makes an access: it has a KIND and its MODE is not MOD (Tables 7.4, 7.5). -/
def slotAccess (store : Bool) (m : MoveSlot) : Bool :=
  m.kind.val ≠ 0 && m.mode.val ≠ 7 && (store || m.kind.val ≠ 3)

/-- The address a slot uses (Table 7.5). -/
def slotAddr (k : CoreState) (store : Bool) (m : MoveSlot) : BitVec 41 :=
  let i := m.ptr.val
  if m.mode.val = 5 then ptrAdd (rdP k i) (rdB k i) (rdL k i) (slotOfs m * (slotSize store m : Int)) else rdP k i

/-- How far a slot modifies its pointer (Table 7.5); none = unchanged. -/
def slotStep (k : CoreState) (store : Bool) (m : MoveSlot) : Option Int :=
  let sz : Int := (slotSize store m : Int)
  let mod : Int := (rdM k m.ptr.val).toInt
  if m.mode.val = 7 then some mod
  else if m.kind.val = 0 || (!store && m.kind.val = 3) then none
  else match m.mode.val with
  | 1 => some sz
  | 2 => some (-sz)
  | 3 => some mod
  | 4 => some (-mod)
  | 6 => some (slotOfs m * sz)
  | _ => none

/-- Pointer writes of a bundle's move slots: both address with the pointers from before, and the X slot modifies first (R162). -/
def ptrWrites (k : CoreState) (mv : Moves) : List (Nat × BitVec 41) :=
  let upd (i : Nat) (p : BitVec 41) (d : Int) : BitVec 41 := ptrAdd p (rdB k i) (rdL k i) d
  let ix := mv.x.ptr.val
  let iy := mv.y.ptr.val
  let px := (slotStep k false mv.x).map (upd ix (rdP k ix))
  let baseY := if ix = iy then px.getD (rdP k iy) else rdP k iy
  let py := (slotStep k mv.store mv.y).map (upd iy baseY)
  (px.toList.map (fun v => (ix, v))) ++ (py.toList.map (fun v => (iy, v)))

/-! ### Interrupt channels (R186, R188, R194) -/

/-- Priority of a channel, 1–7 (Table 8.5). -/
def chanPrio (k : CoreState) (c : Nat) : Nat :=
  let v := bits (vget k.irqPrio (c / 16) 0) (4 * (c % 16) + 2) (4 * (c % 16))
  if v = 0 then 1 else v

/-- A channel is FAST. -/
def chanFast (k : CoreState) (c : Nat) : Bool := bit k.irqClass c

/-- A channel is takeable (R186). -/
def takeable (k : CoreState) (c : Nat) : Bool :=
  bit k.ipend c && bit k.imask c &&
  (if chanFast k c then k.ie.testBit 1 else k.ie.testBit 0 && decide (k.iprio < chanPrio k c))

/-- The takeable channel of a class with the highest priority, then the lowest number (R187). -/
def bestChan (k : CoreState) (fast : Bool) : Option Nat :=
  (List.range 64).foldl (fun (b : Option Nat) c =>
    if takeable k c && chanFast k c == fast then
      match b with
      | none => some c
      | some o => if chanPrio k o < chanPrio k c then some c else b
    else b) none

/-- A FAST channel may be taken at this boundary (R188). -/
def fastAllowed (k : CoreState) : Bool := !k.bank && k.br.slots == 0

/-- A HELD channel may be taken at this boundary (R194). -/
def heldAllowed (k : CoreState) : Bool :=
  k.br.slots == 0 && !k.bank &&
  (match k.cur.rep with
    | [] => true
    | r :: _ => r.yield && r.start == k.pc)

/-! ### Stack frame (R189, R190, Table 8.3) -/

/-- The first failing check of R190 before a push, by its FCAUSE. -/
def pushFault (k : CoreState) : Option Nat :=
  if k.sp % 16 ≠ 0 then some 1
  else if k.sp < k.spLo + 96 then some 2
  else if k.spHi < k.sp then some 3
  else if k.sp < 96 || 0x40000 < k.sp then some 4
  else none

/-- The first failing check of R190 before RETI pops. -/
def popFault (k : CoreState) : Option Nat :=
  if k.sp % 16 ≠ 0 then some 1
  else if k.sp < k.spLo then some 2
  else if k.spHi < k.sp + 96 then some 3
  else if 0x40000 < k.sp + 96 then some 4
  else none

/-- A repeat level in frame-word format (Table 8.3). -/
def levelWord (r : RepLevel) : Word :=
  packWord [(0, r.count % 2 ^ 24), (24, r.start % 2 ^ 14), (38, r.stop % 2 ^ 14), (52, b2n r.yield)]

/-- A repeat level from frame-word format. -/
def levelOf (w : Word) : RepLevel :=
  { count := bits w 23 0, start := bits w 37 24, stop := bits w 51 38, yield := bit w 52 }

/-- The 12 words of a frame (Table 8.3). -/
def frameWords (k : CoreState) (rpc vec : Nat) (faddr : Word) : List Word :=
  let b := k.cur
  let loads := (k.pend.filter Pend.isLoad).take 4
  let tgt := if k.br.kind == .jump then k.br.target else (Config.returnTarget k.freeIdx).toNat
  let slots := if k.br.taken then k.br.slots else 0
  let w0 := packWord [(0, rpc % 2 ^ 14), (14, b2n k.bank), (16, b.lr.toNat), (32, if slots = 0 then 0 else tgt % 2 ^ 14),
    (46, slots), (48, k.iprio), (52, min 4 b.rep.length), (56, vec)]
  let lv := b.rep.reverse
  let level (i : Nat) : Word := ((lv[i]?).map levelWord).getD 0
  let descr (i : Nat) : Nat :=
    match loads[i]? with
    | some ⟨left, .d r _⟩ => 2 ^ 7 + 2 ^ 6 * min 1 left + r
    | _ => 0
  let data (i : Nat) : Word := match loads[i]? with | some ⟨_, .d _ v⟩ => v | _ => 0
  let w6 := packWord [(0, descr 0), (8, descr 1), (16, descr 2), (24, descr 3), (32, b.idx.toNat)]
  [w0, b.stWord, level 0, level 1, level 2, level 3, w6, data 0, data 1, data 2, data 3, faddr]

/-- Write a frame's words from an X address. -/
def writeFrame (n sp : Nat) (ws : List Word) (s : State) : State :=
  let m := (List.range 12).foldl (fun (m : Memory) i => m.writeW (localAddr n (sp + 8 * i)) (ws.getD i 0)) s.mem
  let lo := localAddr n sp
  { s with mem := m, ecc := s.ecc.filter (fun a => a < lo || lo + 96 ≤ a) }

/-! ### Entries (R184, R187 to R191, R203) -/

/-- Cycles pass for a core. -/
def addCycles (c : Nat) (k : CoreState) : CoreState := { k with cycles := (k.cycles + c) % 2 ^ 64 }

/-- Enter the shadow bank at a vector: pending main results and branch state are held (R184, R188, R191). -/
def shadowEntry (spc fcause vec cyc : Nat) (k : CoreState) : CoreState :=
  let k1 := accSettle k
  let k2 := { k1 with
    heldPend := k.pend, heldBr := k.br, pend := [], br := Branch.none, bank := true, spc := spc, fcause := fcause
    shadowVec := vec, shadow := { k1.shadow with rep := [], a3w := k1.shadow.a3 }
    pc := (k.vbase + 4 * vec) % 2 ^ 14, skipBkpt := false }
  addCycles cyc k2

/-- DOUBLE_FAULT: the core halts and writes its fault records (R203). -/
def doubleFault (n vec fcause spc : Nat) (s : State) : State :=
  let t := s.time.centre
  setAttn attnCore (modCore n (fun k => { k with
    run := .doubleFault
    faultRec := #v[packWord [(0, spc % 2 ^ 14), (24, k.sp), (44, fcause), (48, k.shadowVec), (56, vec)], BitVec.ofNat 64 t,
      packWord [(0, k.spLo), (32, k.spHi)], BitVec.ofNat 64 (k.spc % 2 ^ 14)] }) s)

/-- A check of R190 fails: the shadow bank takes STACK_FAULT, or the core enters DOUBLE_FAULT (R191, R203). -/
def stackFault (n vec fcause spc : Nat) (s : State) : State :=
  if (core s n).bank then doubleFault n vec fcause spc s
  else modCore n (fun k =>
    let e := shadowEntry spc fcause 7 2 k
    { e with shadow := { e.shadow with d := vput (vput e.shadow.d 3 (BitVec.ofNat 64 k.sp)) 2 (BitVec.ofNat 64 vec) } }) s

/-- A HELD or exception entry through the stack (R189): the Boolean says that the push succeeded. -/
def stackEntry (n vec rpc : Nat) (faddr : Word) (s : State) : Bool × State :=
  let k0 := settleSp (core s n)
  match pushFault (settleOthers k0) with
  | some c =>
    let s1 := modCore n (fun _ => if (core s n).bank then settleOthers k0 else k0) s
    (false, stackFault n vec c rpc s1)
  | none =>
    let k := settleOthers k0
    let s1 := writeFrame n (k.sp - 96) (frameWords k rpc vec faddr) s
    (true, modCore n (fun _ => addCycles 8 ({ k with
      sp := k.sp - 96, pend := [], br := Branch.none, pc := (k.vbase + 4 * vec) % 2 ^ 14, skipBkpt := false
      freeIdx := k.freeIdx + 1 }.modCur (fun b => { b with rep := [] }))) s1)

/-- Enter a FAST channel (R188). -/
def enterFast (n c : Nat) (s : State) : State :=
  modCore n (fun k => shadowEntry k.pc 0 (16 + c) 1 { k with ipend := k.ipend &&& ~~~(BitVec.ofNat 64 (2 ^ c)) }) s

/-- Enter a HELD channel (R189); a failed push leaves its IPEND bit set. -/
def enterHeld (n c : Nat) (s : State) : State :=
  let p := chanPrio (core s n) c
  let r := stackEntry n (16 + c) (core s n).pc 0 s
  if r.1 then modCore n (fun k => { k with
      iprio := p, ipend := k.ipend &&& ~~~(BitVec.ofNat 64 (2 ^ c)), holdCnt := 0, holdDone := false }) r.2
  else r.2

/-- Enter an exception (R187, R196): the vector, the bundle it records and the fault address. -/
def enterException (n vec rpc : Nat) (faddr : Word) (s : State) : State := (stackEntry n vec rpc faddr s).2

/-! ### Returns (R192, R193) -/

/-- The end of RETI's second delay slot: the frame is checked and popped (R192). -/
def finishReti (n pc : Nat) (s : State) : State :=
  let k := core s n
  match popFault k with
  | some c => stackFault n 0x7F c pc s
  | none =>
    let w (i : Nat) : Word := s.mem.readW (localAddr n (k.sp + 8 * i))
    let w0 := w 0
    let slots := bits w0 47 46
    let lv := ((List.range (min 4 (bits w0 54 52))).map (fun i => levelOf (w (2 + i)))).reverse
    let ld (i : Nat) : List Pend :=
      let d := bits (w 6) (8 * i + 7) (8 * i)
      if d.testBit 7 then [⟨b2n (d.testBit 6), .d (d % 16) (w (7 + i))⟩] else []
    modCore n (fun k => addCycles 6 ({ k with
      pc := bits w0 13 0, bank := bit w0 14, iprio := bits w0 50 48, sp := k.sp + 96
      pend := k.pend ++ ld 0 ++ ld 1 ++ ld 2 ++ ld 3
      br := if slots = 0 then Branch.none else { slots := slots, taken := true, target := bits w0 45 32, kind := .jump, pc := 0 } }.modCur
        (fun b => { b with lr := BitVec.ofNat 14 (bits w0 29 16), st := stKeep (w 1), idx := BitVec.ofNat 32 (bits (w 6) 63 32),
                           rep := lv }))) s

/-- The end of RETS's second delay slot: every shadow result becomes visible, and the main stream resumes (R193). -/
def finishRets (k : CoreState) : CoreState :=
  let k1 := accSettle (tickPend (tickPend (tickPend k)))
  let k2 := { k1 with bank := false, pc := k1.spc, br := k1.heldBr, pend := k1.heldPend, heldPend := [], heldBr := Branch.none }
  let chain (k : CoreState) (p : Pend) : CoreState := match p.res with | .acc i v => wrAccW i v k | _ => k
  addCycles 1 (k2.pend.foldl chain k2)

/-! ### Program counter and repeats (R168) -/

/-- The next bundle after one at `pc`: a loop-back of the innermost level, or pops (R168). -/
def advancePc (pc : Nat) : List RepLevel → Nat × List RepLevel
  | [] => ((pc + 1) % 2 ^ 14, [])
  | r :: t =>
    if pc = r.stop then
      (if r.count ≠ 1 then (r.start, { r with count := (r.count + 2 ^ 24 - 1) % 2 ^ 24 } :: t) else advancePc pc t)
    else ((pc + 1) % 2 ^ 14, r :: t)

/-- The core goes to the bundle that follows. -/
def goOn (k : CoreState) : CoreState :=
  let r := advancePc k.pc k.cur.rep
  { k with pc := r.1 }.modCur (fun b => { b with rep := r.2 })

/-- The bundle just issued was no branch: it was a delay slot, or the stream goes on. RETI and RETS complete after their second
slot (R161, R192, R193). -/
def afterBundle (n : Nat) (s : State) : State :=
  let k := core s n
  if k.br.slots = 0 || !k.br.taken then
    modCore n (fun k => goOn { k with br := if k.br.slots ≤ 1 then Branch.none else { k.br with slots := k.br.slots - 1 } }) s
  else if 1 < k.br.slots then
    modCore n (fun k => { k with pc := (k.pc + 1) % 2 ^ 14, br := { k.br with slots := k.br.slots - 1 } }) s
  else
    let s1 := modCore n (fun k => { k with br := Branch.none }) s
    match k.br.kind with
    | .jump => modCore n (fun x => { x with pc := k.br.target }) s1
    | .reti => finishReti n k.br.pc s1
    | .rets => modCore n finishRets s1

/-- A branch issues: its delay slots follow; when taken, levels whose body does not hold the target are popped (R168). -/
def branchTo (taken : Bool) (target : Nat) (kind : BranchKind) (k : CoreState) : CoreState :=
  let br : Branch := { slots := 2, taken := taken, target := target % 2 ^ 14, kind := kind, pc := k.pc }
  if !taken then goOn { k with br := br }
  else
    let keep (l : List RepLevel) : List RepLevel :=
      if kind == .jump then l.filter (fun r => r.start ≤ target % 2 ^ 14 && target % 2 ^ 14 ≤ r.stop) else l
    { k with br := br, pc := (k.pc + 1) % 2 ^ 14 }.modCur (fun b => { b with rep := keep b.rep })

/-! ### Hold-off (R195) -/

/-- The hold-off count reaches its limit: one report per episode. -/
def holdReport (c : Nat) (k : CoreState) : CoreState :=
  { k with overrun := true, lastChan := c, overrunCnt := satInc 16 k.overrunCnt, holdOverrun := true, holdDone := true }

/-- `d` core cycles pass with the takeable HELD channel of the boundary before them held off, if there is one. -/
def holdCount (ch : Option Nat) (d : Nat) (k : CoreState) : CoreState :=
  match ch with
  | none => { k with holdCnt := 0, holdDone := false }
  | some c =>
    let lim := bits k.holdLimit 23 0
    let cnt := k.holdCnt + d
    let k1 := { k with holdCnt := cnt, maxWait := max k.maxWait (satTo 24 cnt) }
    if lim ≠ 0 && lim ≤ cnt && !k.holdDone then holdReport c k1 else k1

/-- The count of a held-off channel reaches SC_HOLD_LIMIT.LIMIT (R195). -/
def holdLimitReached (k : CoreState) : CoreState :=
  match bestChan k false with
  | none => k
  | some c =>
    let lim := bits k.holdLimit 23 0
    if heldAllowed k || lim = 0 || k.holdDone then k
    else holdReport c { k with holdCnt := max k.holdCnt lim, maxWait := max k.maxWait lim }

/-! ### Reset and restart (R181, R203, R204) -/

/-- What a core reset sets: the registers of R181 and R204, and execution at bundle 0. -/
def coreRestart (k : CoreState) : CoreState :=
  { CoreState.init with
    run := .running, fabWaitMax := k.fabWaitMax, eccCorr := k.eccCorr, writeDrop := k.writeDrop, ctlResult := k.ctlResult,
    irqClass := k.irqClass, irqPrio := k.irqPrio, holdLimit := k.holdLimit, overrunCnt := k.overrunCnt, lastChan := k.lastChan,
    overrun := k.overrun, maxWait := k.maxWait, faultRec := k.faultRec, bkpt := k.bkpt, dbgSel := k.dbgSel, wdogUs := k.wdogUs,
    freeIdx := k.freeIdx }

/-! ### Debug access (R201, Table 8.5) -/

/-- A part of an accumulator by the index of SC_DBG_SEL. -/
def accPart (a : Acc) (i : Nat) : Word :=
  match i with
  | 0 => a.re.setWidth 64
  | 1 => BitVec.ofNat 64 (a.re.toNat / 2 ^ 64)
  | 2 => a.im.setWidth 64
  | _ => BitVec.ofNat 64 (a.im.toNat / 2 ^ 64)

/-- Replace a part of an accumulator. -/
def accSetPart (a : Acc) (i : Nat) (v : Word) : Acc :=
  let lo (x : BitVec 80) : BitVec 80 := BitVec.ofNat 80 (x.toNat / 2 ^ 64 * 2 ^ 64 + v.toNat)
  let hi (x : BitVec 80) : BitVec 80 := BitVec.ofNat 80 (x.toNat % 2 ^ 64 + v.toNat % 2 ^ 16 * 2 ^ 64)
  match i with
  | 0 => { a with re := lo a.re }
  | 1 => { a with re := hi a.re }
  | 2 => { a with im := lo a.im }
  | _ => { a with im := hi a.im }

/-- The bank SC_DBG_SEL.SHADOW names. -/
def dbgBank (k : CoreState) : Bank := if bit k.dbgSel 8 then k.shadow else k.main

/-- SC_DBG_DATA as it reads (R201). -/
def dbgRead (k : CoreState) : Word :=
  let c := bits k.dbgSel 7 0
  let b := dbgBank k
  if k.run ≠ .debugHalted then 0
  else if c < 0x40 then (sregRead k b k.pc c).getD 0
  else if c < 0x50 then (if c < 0x4C then vget k.d (c - 0x40) 0 else vget b.d (c - 0x4C) 0)
  else if c < 0x60 then
    let i := (c - 0x50) / 4
    accPart (if i < 3 then vget k.a i Acc.zero else b.a3) ((c - 0x50) % 4)
  else if c < 0x64 then ((b.rep.reverse[c - 0x60]?).map levelWord).getD 0
  else 0

/-- Change the bank SC_DBG_SEL.SHADOW names. -/
def modDbgBank (f : Bank → Bank) (k : CoreState) : CoreState :=
  if bit k.dbgSel 8 then { k with shadow := f k.shadow } else { k with main := f k.main }

/-- Replace a repeat level counted from the outermost. -/
def setLevel (i : Nat) (r : RepLevel) (l : List RepLevel) : List RepLevel := (l.reverse.set i r).reverse

/-- A write of SC_DBG_DATA (R201): only in DEBUG_HALTED, and only to a register that takes writes. -/
def dbgWrite (v : Word) (k : CoreState) : CoreState :=
  let c := bits k.dbgSel 7 0
  if k.run ≠ .debugHalted then k
  else if c < 0x40 then
    (if !sregWritable c then k else if bankedCode c then modDbgBank (bankWrite c v) k else sharedWrite c v k)
  else if c < 0x4C then { k with d := vput k.d (c - 0x40) v }
  else if c < 0x50 then modDbgBank (fun b => { b with d := vput b.d (c - 0x4C) v }) k
  else if c < 0x5C then
    let i := (c - 0x50) / 4
    let a := accSetPart (vget k.a i Acc.zero) ((c - 0x50) % 4) v
    { k with a := vput k.a i a, aw := vput k.aw i a }
  else if c < 0x60 then
    modDbgBank (fun b => let a := accSetPart b.a3 ((c - 0x50) % 4) v; { b with a3 := a, a3w := a }) k
  else if c < 0x64 then modDbgBank (fun b => { b with rep := setLevel (c - 0x60) (levelOf v) b.rep }) k
  else k

/-! ### Commands (Table 8.5, R198, R201, R203) -/

/-- Stop at a boundary in DEBUG_HALTED; a bundle stalled at the port ends first. -/
def debugHalt (k : CoreState) : CoreState :=
  if k.stall.isSome then { k with halting := true }
  else { k with run := .debugHalted, dbgWait := k.run == .waiting, halting := false }

/-- SC_CTL's commands on one core: the result and the core. -/
def ctlCommand (n cmd : Nat) (k : CoreState) : Status × CoreState :=
  match cmd with
  | 1 => if n < 2 || !(k.run == .running || k.run == .waiting) then (.refused, k) else (.ok, debugHalt k)
  | 2 =>
    if n < 2 then (.refused, k)
    else if k.run == .halted then (.ok, { k with run := .running })
    else if k.run == .debugHalted then
      (.ok, { k with run := if k.dbgWait then .waiting else .running, dbgWait := false, skipBkpt := true })
    else (.refused, k)
  | 3 => if n < 2 || k.run ≠ .debugHalted then (.refused, k) else (.ok, { k with stepReq := true, skipBkpt := true })
  | 4 =>
    if k.run == .reset || (n < 2 && k.run ≠ .doubleFault) then (.refused, k) else (.ok, coreRestart k)
  | _ => (.refused, k)

/-- A write of SC_CTL (Table 8.5). On SC_0 and SC_1 every command but RESTART in DOUBLE_FAULT is dropped and counted (R201). -/
def ctlWrite (n key cmd : Nat) (s : State) : State :=
  modCore n (fun k =>
    let r := if key = 0x5C then ctlCommand n cmd k else (.refused, k)
    let drop := n < 2 && !(cmd = 4 && k.run == .doubleFault)
    { r.2 with ctlResult := r.1, writeDrop := if drop then satInc 16 r.2.writeDrop else r.2.writeDrop }) s

/-! ### The core block's registers (Tables 7.9 and 8.5) -/

/-- OWNER of a core (Table 7.9). -/
def coreOwner (n : Nat) : Nat := if n < 2 then 0 else if n < 6 then 1 else 2

/-- A core register by its offset. -/
def coreRegRead (s : State) (n o : Nat) : Word :=
  let k := core s n
  let st := k.cur.st
  match o with
  | 0x000 => packWord [(0, n), (8, coreOwner n), (16, 16), (24, 4)]
  | 0x008 => BitVec.ofNat 64 k.cycles
  | 0x010 => packWord [(0, k.stallFab), (32, k.stallBank)]
  | 0x018 => packWord [(0, k.captures), (32, k.hits)]
  | 0x020 => packWord [(0, b2n (bit st 4)), (1, b2n (bit st 5)), (16, k.writeDrop), (32, k.eccCorr), (48, k.fabWaitMax)]
  | 0x048 => packWord [(0, k.run.code), (4, b2n k.bank), (8, k.iprio), (32, k.pc), (60, statusCode k.ctlResult)]
  | 0x050 => k.irqClass
  | 0x058 => vget k.irqPrio 0 0
  | 0x060 => vget k.irqPrio 1 0
  | 0x068 => vget k.irqPrio 2 0
  | 0x070 => vget k.irqPrio 3 0
  | 0x080 => k.ipend
  | 0x088 => k.holdLimit
  | 0x090 => packWord [(0, k.maxWait), (32, b2n k.overrun), (40, k.lastChan), (48, k.overrunCnt)]
  | 0x0A0 => vget k.faultRec 0 0
  | 0x0A8 => vget k.faultRec 1 0
  | 0x0B0 => vget k.faultRec 2 0
  | 0x0B8 => vget k.faultRec 3 0
  | 0x0C0 => vget k.bkpt 0 0
  | 0x0C8 => vget k.bkpt 1 0
  | 0x0D0 => k.dbgSel
  | 0x0D8 => dbgRead k
  | 0x0E0 => BitVec.ofNat 64 k.wdogUs
  | _ => 0

/-- What a read of a core register clears (R12, access RC). -/
def coreRegReadEffect (n o : Nat) (s : State) : State :=
  match o with
  | 0x020 => modCore n (fun k => { k with fabWaitMax := 0, eccCorr := 0, writeDrop := 0 }) s
  | 0x090 => modCore n (fun k => { k with overrunCnt := 0, overrun := false, maxWait := 0 }) s
  | _ => s

/-- Count a write that SC_0 or SC_1 drops (R160, R201). -/
def dropWrite (n : Nat) (s : State) : State := modCore n (fun k => { k with writeDrop := satInc 16 k.writeDrop }) s

/-- A debug or breakpoint write: SC_0 and SC_1 drop it (R201). -/
def debugReg (n : Nat) (f : CoreState → CoreState) (s : State) : State := if n < 2 then dropWrite n s else modCore n f s

/-- What SC_IRQ_PRIO_n keeps: bit 4j + 3 is reserved (Table 8.5, R13). -/
def prioKeep (w : Word) : Word := w &&& 0x7777777777777777

/-- A write of SC_WDOG (R81, Table 8.5). -/
def wdogWrite (n : Nat) (w : Word) (s : State) : State :=
  if bits w 63 56 ≠ 0xA9 then s
  else
    let s1 := modCore n (fun k => { k with wdogUs := bits w 31 0 }) s
    if bit w 32 then modIsl s1 (islSC n) (fun x => { x with wdog := 0 }) else s1

/-- A write of a core register. -/
def coreRegWrite (n o : Nat) (w : Word) (s : State) : State :=
  match o with
  | 0x028 => if bit w 0 then modCore n (fun k => { k with stallBank := 0, stallFab := 0, hits := 0, captures := 0 }) s else s
  | 0x040 => ctlWrite n (bits w 63 56) (bits w 2 0) s
  | 0x050 => modCore n (fun k => { k with irqClass := w }) s
  | 0x058 => modCore n (fun k => { k with irqPrio := vput k.irqPrio 0 (prioKeep w) }) s
  | 0x060 => modCore n (fun k => { k with irqPrio := vput k.irqPrio 1 (prioKeep w) }) s
  | 0x068 => modCore n (fun k => { k with irqPrio := vput k.irqPrio 2 (prioKeep w) }) s
  | 0x070 => modCore n (fun k => { k with irqPrio := vput k.irqPrio 3 (prioKeep w) }) s
  | 0x078 => modCore n (fun k => { k with ipend := k.ipend ||| w }) s
  | 0x088 => modCore n (fun k => { k with holdLimit := w &&& 0xFFFFFF }) s
  | 0x0C0 => debugReg n (fun k => { k with bkpt := vput k.bkpt 0 (w &&& 0x8000000000003FFF) }) s
  | 0x0C8 => debugReg n (fun k => { k with bkpt := vput k.bkpt 1 (w &&& 0x8000000000003FFF) }) s
  | 0x0D0 => debugReg n (fun k => { k with dbgSel := w &&& 0x1FF }) s
  | 0x0D8 => debugReg n (dbgWrite w) s
  | 0x0E0 => wdogWrite n w s
  | _ => s

/-- The watchdog timeout in force in µs; none = disabled (R81). -/
def wdogTimeout (n : Nat) (k : CoreState) : Option Nat :=
  if k.wdogUs = 0 then (if 6 ≤ n then none else some 100000) else some (clampNat 1000 10000000 k.wdogUs)

/-- The watchdog count of a core runs (R81). -/
def wdogRuns (k : CoreState) : Bool := k.run == .running || k.run == .reset

/-! ### An ABORT of the port (R67, R175) -/

/-- The core's outstanding request ends with ABORT: a stalled load is to complete with 0, or the oldest posted store ends. -/
def portAbort (k : CoreState) : CoreState :=
  match k.posted with
  | (a, _, _) :: t => { k with posted := t, aborts := k.aborts ++ [a] }
  | [] =>
    match k.stall with
    | some st => { k with stall := some { st with aborted := true } }
    | none => k

end Sys2Proof.Machine
end

