-- ==== Sys2Proof/Machine/CoreLoad.lean ====
section
/-! DEFINITION. The image store and the load of a Signal Core's memories (R199, R200, R484). -/
namespace Sys2Proof.Machine
open Sys2Proof

/-- Base of the image store (Table 19.4). -/
def imageStore : Nat := sramBase + 0x520000

/-- The program images of the active boot slot; none as Zenham shipped it. -/
def slotImages (s : State) : List (Nat × Image) :=
  match vget s.consent.boot s.consent.slot none with
  | none => []
  | some p => storePlan ((splitImages 16 p).getD [])

/-- Write one image into the image store. -/
def storeImage (p : Nat × Image) (s : State) : State :=
  let a := imageStore + p.1
  let n := p.2.body.length
  { s with mem := s.mem.writeBytes a p.2.body, ecc := s.ecc.filter (fun w => w + 8 ≤ a || a + n ≤ w) }

/-- Bring-up step 5 copies the checked images into the image store (R200, R484). -/
def storeImages (s : State) : State :=
  let l := slotImages s
  let s1 := l.foldl (fun s p => storeImage p s) s
  { s1 with consent := { s1.consent with stored := l.map (fun p => (p.2.target, p.1, p.2.body.length)) } }

/-- The image at a place of the image store can be read; one that meets an uncorrectable error is read again from the active
boot slot, checked and written back (R200). None where that fails. -/
def readableImage (x : Nat × Nat × Nat) (s : State) : Option State :=
  let a := imageStore + x.2.1
  if !(s.ecc.any (fun w => decide (a < w + 8) && decide (w < a + x.2.2))) then some s
  else match (slotImages s).find? (fun p => p.1 == x.2.1 && p.2.body.length == x.2.2) with
    | some p => if imageOk s p.2 then some (storeImage p s) else none
    | none => none

/-- Core-local address of a byte of a memory by SPACE (R199, Table 7.2). -/
def spaceAddr (sp o : Nat) : Nat := (if sp = 0 then 0x80000 else if sp = 1 then 0 else 0x40000) + o

/-- Load the sections of one image into core `n`. -/
def loadSections (n : Nat) (l : List Section) (s : State) : State :=
  { s with mem := l.foldl (fun (m : Memory) x => m.writeBytes (localAddr n (spaceAddr x.space x.offset)) x.data) s.mem }

/-- The load of core `n`: its memories are cleared and written from the images that name it, in payload order (R200). The Boolean
is false where an image cannot be had. -/
def loadCore (n : Nat) (s : State) : Bool × State :=
  let lo := localAddr n 0
  let hi := localAddr n 0xA0000
  let s0 := { s with mem := s.mem.clear lo hi, ecc := s.ecc.filter (fun a => a < lo || hi ≤ a) }
  (s.consent.stored.filter (fun x => x.1.testBit n)).foldl (fun (p : Bool × State) x =>
    if !p.1 then p
    else match readableImage x p.2 with
      | none => (false, p.2)
      | some s1 => (true, loadSections n ((bodySections (s1.mem.bytes (imageStore + x.2.1) x.2.2)).getD []) s1)) (true, s0)

/-- The core block after an island reset: Tables 7.9 and 8.5, R181, R204. -/
def coreInit (run : RunState) (k : CoreState) : CoreState := { CoreState.init with run := run, freeIdx := k.freeIdx }

/-- Load core `n` and release it at bundle 0; without its program it stays in reset and its island Held (R200). -/
def coreStart (n : Nat) (s : State) : Bool × State :=
  let r := loadCore n s
  if r.1 then (true, modCore n (coreInit .running) r.2)
  else
    let i := islSC n
    (false, modIsl (latchIsl i (modCore n (coreInit .reset) r.2)) i
      (fun x => { x with st := .held, faulted := true, resetPending := true }))

/-- Reset of core island `n` with its program reload (R68, R200); in BRINGUP and DORMANT the load waits for steps 8 and 9. -/
def coreReset (n : Nat) (s : State) : State :=
  if s.mode.mode == .bringup || s.mode.mode == .dormant then modCore n (coreInit .reset) s
  else (coreStart n s).2

end Sys2Proof.Machine
end

