-- ==== Sys2Proof/Machine/FcMath.lean ====
section
/-! DEFINITION. The models of the Forecast engine: the model file, layers, curves and recurrence (R398 to R403, section Model file). -/
namespace Sys2Proof.Machine
open Sys2Proof

/-! ### Rounding and saturation (R398) -/

/-- Half the divisor is added before an arithmetic right shift. -/
def rshift (x : Int) (n : Nat) : Int := if n = 0 then x else (x + 2 ^ (n - 1)) / 2 ^ n
/-- sat16 and sat8. -/
def sat16 (x : Int) : Int := clampInt (-32768) 32767 x
def sat8 (x : Int) : Int := clampInt (-128) 127 x
/-- A signed field of a byte list. -/
def sle (p : List Byte) (o n : Nat) : Int := toSigned (8 * n) (le p o n)

/-! ### The model file -/

/-- Header fields. -/
def mdKind (f : List Byte) : Nat := le f 6 1
def mdChunk (f : List Byte) : Nat := match le f 7 1 with | 0 => 1 | 1 => 8 | 2 => 16 | 3 => 32 | _ => 64
def mdLayers (f : List Byte) : Nat := le f 8 1
def mdCurves (f : List Byte) : Nat := le f 9 1
def mdIn (f : List Byte) : Nat := le f 10 1
def mdOut (f : List Byte) : Nat := le f 11 1
def mdHeadIn (f : List Byte) : Nat := le f 12 1
def mdState (f : List Byte) : Nat := le f 14 2
def mdWait (f : List Byte) : Nat := le f 16 4
def mdGap (f : List Byte) : Nat := le f 20 4
def mdBody (f : List Byte) : Nat := le f 24 4
def mdVersion (f : List Byte) : Nat := le f 28 4
/-- File offsets of IN_SCALE, H0, the head and the curves. -/
def mdInOfs (f : List Byte) : Nat := 96 + le f 64 4
def mdH0Ofs (f : List Byte) : Nat := 96 + le f 68 4
def mdHeadOfs (f : List Byte) : Nat := 96 + le f 72 4
def mdCurveOfs (f : List Byte) : Nat := 96 + le f 76 4

/-- A layer record. -/
structure Layer where
  op : Nat
  int16 : Bool
  ew : Nat
  curve : Nat
  src : Nat
  src2 : Nat
  dst : Nat
  rows : Nat
  cols : Nat
  wofs : Nat
  mult : Nat
  shift : Nat
  ashift : Nat

/-- The layer records of a model. -/
def mdLayer (f : List Byte) (i : Nat) : Layer :=
  let r := (f.drop (96 + 16 * i)).take 16
  let b := le r 1 1
  { op := le r 0 1, int16 := b.testBit 0, ew := b / 2 % 8, curve := b / 16, src := le r 2 1 % 16, src2 := le r 2 1 / 16, dst := le r 3 1
    rows := le r 4 2, cols := le r 6 2, wofs := le r 8 4, mult := le r 12 2, shift := le r 14 1, ashift := le r 15 1 }

/-- All layers. -/
def mdLayerList (f : List Byte) : List Layer := (List.range (mdLayers f)).map (mdLayer f)

/-! ### Curves (R399, R400) -/

/-- One LSB of freedom (Table 16.10). -/
def lsbErr (e : Int) : Int := clampInt (-1) 1 e

/-- FINE. -/
def curveFine (c : List Byte) (x : Int) : Int :=
  let u := (x + 32768).toNat
  let i := u / 1024
  let k0 := sle c (8 + 2 * i) 2
  let k1 := sle c (10 + 2 * i) 2
  k0 + rshift ((k1 - k0) * (u % 1024 : Nat)) 10

/-- COARSE: the last segment whose BP does not exceed x. -/
def curveCoarse (c : List Byte) (x : Int) : Int :=
  let seg (i : Nat) : Int × Int × Int := (sle c (144 + 8 * i) 2, sle c (146 + 8 * i) 2, sle c (148 + 8 * i) 2)
  let s := (List.range 8).foldl (fun b i => if (seg i).1 ≤ x then seg i else b) (seg 0)
  sat16 (s.2.2 + rshift (s.2.1 * (x - s.1)) 12)

/-- Apply a layer's curve to a value; 0xF is none. -/
def applyCurve (f : List Byte) (coarse : Bool) (l : Layer) (x : Int) : Int :=
  if l.curve = 15 then x
  else
    let c := (f.drop (mdCurveOfs f + 256 * l.curve)).take 256
    sat16 ((if coarse then curveCoarse c x else curveFine c x) + lsbErr (Config.curveErr coarse c x))

/-! ### Layers (Table 16.1) -/

/-- A row's vectors. -/
abbrev Vecs := List (Nat × List Int)

/-- A vector of 64 elements. -/
def vec (v : Vecs) (i : Nat) : List Int := tgetD v i (List.replicate 64 0)
/-- Element of a vector. -/
def el (l : List Int) (i : Nat) : Int := l.getD i 0
/-- Extend to 64 elements. -/
def pad64 (l : List Int) : List Int := l ++ List.replicate (64 - l.length) 0

/-- MATMUL. -/
def layMatmul (f : List Byte) (coarse : Bool) (l : Layer) (x : List Int) : List Int :=
  let es := if l.int16 then 2 else 1
  let w0 := 96 + l.wofs
  let b0 := w0 + l.rows * l.cols * es
  let xi (j : Nat) : Int := if l.int16 then el x j else sat8 (rshift (el x j) l.ashift)
  (List.range l.rows).map (fun i =>
    let acc := (List.range l.cols).foldl (fun a j => a + sle f (w0 + (i * l.cols + j) * es) es * xi j) (sle f (b0 + 4 * i) 4)
    let acc := toSigned (if l.int16 then 48 else 32) (ofSigned (if l.int16 then 48 else 32) acc)
    applyCurve f coarse l (sat16 (rshift (acc * (l.mult : Int)) l.shift)))

/-- EWISE. -/
def layEwise (f : List Byte) (coarse : Bool) (l : Layer) (a b : List Int) : List Int :=
  (List.range l.rows).map (fun i =>
    let x := el a i
    let y := el b i
    applyCurve f coarse l (sat16 (match l.ew with | 0 => rshift (x * y) 12 | 1 => x + y | 2 => x - y | _ => 4096 - x)))

/-- HEAD: y_k, with the stream's head. -/
def layHead (f : List Byte) (coarse : Bool) (l : Layer) (head : List Byte) (x : List Int) : List Int :=
  let n := mdHeadIn f
  (List.range (mdOut f)).map (fun k =>
    let acc := (List.range n).foldl (fun a j => a + sle head (2 * (k * n + j)) 2 * el x j) 0
    applyCurve f coarse l (sat16 (sat16 (rshift acc 12) + sle f (mdHeadOfs f + 2 * mdOut f * n + 2 * k) 2)))

/-- Put bytes into a byte list. -/
def putBytes (p : List Byte) (o : Nat) (b : List Byte) : List Byte := p.take o ++ b ++ p.drop (o + b.length)

/-- The state a model starts from: an LREC element is H0 << 12, a LOAD_STATE region raw. -/
def initState (f : List Byte) : List Byte :=
  let h0 := (f.drop (mdH0Ofs f)).take (mdState f)
  let base := h0 ++ List.replicate (mdState f - h0.length) 0
  (mdLayerList f).foldl (fun p l =>
    if l.op = 4 then (List.range l.rows).foldl (fun p i => putBytes p (l.wofs + 4 * i) (leBytes 4 (ofSigned 32 (sle h0 (l.wofs + 4 * i) 2 * 4096)))) p
    else p) base

/-- What a step of a row carries between layers. -/
structure RowSt where
  v : Vecs
  /-- The stream's state bytes. -/
  st : List Byte
  /-- HEAD's input and outputs. -/
  x : List Int
  y : List Int

/-- One layer of one step: `len` is the chunk's length and `t` the step's place in it. -/
def layStep (f : List Byte) (coarse : Bool) (head : List Byte) (feat : List Int) (len t : Nat) (r : RowSt) (l : Layer) : RowSt :=
  let put (x : List Int) : RowSt := { r with v := tput l.dst (pad64 x) r.v }
  match l.op with
  | 1 => put ((List.range 64).map (fun i => if i < mdIn f then sat16 (rshift (el feat i * sle f (mdInOfs f + 2 * i) 2) 8) else 0))
  | 2 => put (layMatmul f coarse l (vec r.v l.src))
  | 3 => put (layEwise f coarse l (vec r.v l.src) (vec r.v l.src2))
  | 4 =>
    let one (p : List Byte × List Int) (i : Nat) : List Byte × List Int :=
      let o := l.wofs + 4 * i
      let a := clampInt 0 4096 (el (vec r.v l.src) i)
      let h := rshift (a * sle p.1 o 4) 12 + el (vec r.v l.src2) i * 4096
      let e : Int := if len ≤ 1 then 0 else lsbErr (Config.lrecErr len t i h)
      let d : Int := if len ≤ 1 || t + 1 < len then 0 else clampInt (-256) 256 (Config.lrecStateErr len i h)
      (putBytes p.1 o (leBytes 4 (ofSigned 32 (h + d))), p.2 ++ [sat16 (sat16 (rshift h 12) + e)])
    let q := (List.range l.rows).foldl one (r.st, [])
    { r with st := q.1, v := tput l.dst (pad64 q.2) r.v }
  | 5 => put ((List.range l.rows).map (fun i => sle r.st (l.wofs + 2 * i) 2))
  | 6 => { r with st := putBytes r.st l.wofs ((List.range l.rows).flatMap (fun i => leBytes 2 (ofSigned 16 (el (vec r.v l.src) i)))) }
  | 7 =>
    let x := (vec r.v l.src).take (mdHeadIn f)
    let y := layHead f coarse l head x
    { r with v := tput l.dst (pad64 y) r.v, x := x, y := y }
  | _ => r

/-- One step of a row from its state: the state after, the head input and the outputs. -/
def modelStep (f : List Byte) (coarse : Bool) (head : List Byte) (feat : List Int) (len t : Nat) (st : List Byte) : RowSt :=
  (mdLayerList f).foldl (layStep f coarse head feat len t) { v := [], st := st, x := [], y := [] }

/-! ### Model load checks (R418) -/

/-- N_IN, N_OUT of Table 16.5 for a KIND. -/
def kindShape (k nin nout : Nat) : Bool :=
  match k with
  | 1 => nin == 7 && nout == 3
  | 2 => nin == 4 && nout == 2
  | 3 => nin == 6 && nout == 2
  | 4 => nin == 7 && nout == 1
  | 0x80 => true
  | _ => false

/-- Bytes of a layer's weights and bias. -/
def layBytes (l : Layer) : Nat := l.rows * l.cols * (if l.int16 then 2 else 1) + 4 * l.rows

/-- Check 4 for one layer, with the vectors written before it. -/
def layBad (f : List Byte) (seen : List Nat) (l : Layer) : Bool :=
  let lim := if l.int16 then 32 else 64
  let needs := match l.op with | 1 => [] | 2 => [l.src] | 3 => if l.ew = 3 then [l.src] else [l.src, l.src2] | 4 => [l.src, l.src2] | 5 => [] | _ => [l.src]
  l.op = 0 || 7 < l.op || (l.op ≠ 6 && 15 < l.dst) || needs.any (fun v => !seen.contains v) || l.rows = 0 || 64 < l.rows ||
  (l.op = 2 && (l.cols = 0 || lim < l.rows || lim < l.cols || mdBody f < l.wofs + layBytes l || l.wofs % 64 ≠ 0)) || 47 < l.shift || 15 < l.ashift ||
  (l.op = 3 && 3 < l.ew) || (l.op = 4 && mdState f < l.wofs + 4 * l.rows) || ((l.op = 5 || l.op = 6) && mdState f < l.wofs + 2 * l.rows) ||
  (l.op = 7 && 64 < l.cols)

/-- Check 4 over the list. -/
def laysBad (f : List Byte) : List Nat → List Layer → Bool
  | _, [] => false
  | seen, l :: t => layBad f seen l || laysBad f (if l.op = 6 then seen else l.dst :: seen) t

/-- COARSE's BP values ascend from −32,768. -/
def bpOk (c : List Byte) : Bool :=
  sle c 144 2 == -32768 && (List.range 7).all (fun i => decide (sle c (144 + 8 * i) 2 < sle c (152 + 8 * i) 2))

/-- The first failed check of a model file for a slot; `same` says that another loaded slot holds its KIND. -/
def modelBad (f : List Byte) (night same : Bool) : Option Nat :=
  let ls := mdLayerList f
  let inBody (o n : Nat) : Bool := decide (o % 64 = 32) && decide (o + n ≤ 96 + mdBody f)
  let named := (ls.filter (fun l => l.op == 2 || l.op == 3 || l.op == 7)).map (·.curve) |>.filter (· ≠ 15)
  let curve (k : Nat) : List Byte := (f.drop (mdCurveOfs f + 256 * k)).take 256
  if f.length < 96 || le f 0 4 ≠ 0x46434D31 || le f 4 2 ≠ 1 || le f 13 1 ≠ 0 || !zeroBytes f 80 16 || 131072 < 96 + mdBody f || f.length < 96 + mdBody f ||
      4 < le f 7 1 || mdLayers f = 0 || 32 < mdLayers f || 15 < mdCurves f || mdIn f = 0 || 8 < mdIn f || mdOut f = 0 || 4 < mdOut f ||
      mdHeadIn f = 0 || 64 < mdHeadIn f || 1024 < mdState f || mdState f % 64 ≠ 0 then some 1
  else if shaN ((f.drop 96).take (mdBody f)) ≠ le f 32 32 then some 2
  else if !kindShape (mdKind f) (mdIn f) (mdOut f) || same then some 3
  else if laysBad f [] ls || mdBody f < 16 * mdLayers f || !inBody (mdInOfs f) (2 * mdIn f) || !inBody (mdH0Ofs f) (mdState f) ||
      !inBody (mdHeadOfs f) (2 * mdOut f * mdHeadIn f + 2 * mdOut f) || !inBody (mdCurveOfs f) (256 * mdCurves f) then some 4
  else if (ls.filter (fun l => l.op == 7)).length ≠ 1 || !(match ls.getLast? with | some l => l.op == 7 && l.cols == mdHeadIn f | none => false) then some 5
  else if mdChunk f ≠ 1 && ls.any (fun l => l.op == 5 || l.op == 6) then some 6
  else if named.any (fun k => mdCurves f ≤ k || !(le (curve k) 0 1).testBit 0 || (night && (!(le (curve k) 0 1).testBit 1 || !bpOk (curve k)))) then some 7
  else none

end Sys2Proof.Machine
end

