-- ==== Sys2Proof/Machine/FcOps.lean ====
section
/-! DEFINITION. The Forecast engine: inputs, chunks, outputs, adaptation, STREAM_CTL, model loads, checkpoints and registers
(chapter 16). -/
namespace Sys2Proof.Machine
open Sys2Proof

/-! ### Access -/

/-- Base of the Forecast block, the model store, the state pool and the head store (Tables 19.4, 19.6). -/
def fcBase : Nat := blockBase 11
def fcModel (slot : Nat) : Nat := sramBase + 0x1000000 + 131072 * slot
def fcPool : Nat := sramBase + 0x1200000
def fcHead (i : Nat) : Nat := sramBase + 0x1600000 + 512 * i

/-- Change the engine. -/
def modFc (f : FcState → FcState) (s : State) : State := { s with fc := f s.fc }
/-- A slot. -/
def fcSlot (s : State) (k : Nat) : FcSlot := vget s.fc.slots k FcSlot.init
/-- Change a slot. -/
def modSlot (k : Nat) (f : FcSlot → FcSlot) (s : State) : State := modFc (fun c => { c with slots := vmod c.slots k f }) s
/-- A stream. -/
def fcStream (s : State) (i : Nat) : Option FcStream := tget s.fc.streams i
/-- Change a stream. -/
def modStream (i : Nat) (f : FcStream → FcStream) (s : State) : State :=
  modFc (fun c => { c with streams := c.streams.map (fun p => if p.1 = i then (i, f p.2) else p) }) s
/-- A field of a slot's record in force. -/
def slN (s : State) (k o n : Nat) : Nat := le (fcSlot s k).recd o n
/-- The model of a slot, as its store holds it. -/
def fcFile (s : State) (k : Nat) : List Byte := s.mem.bytes (fcModel k) (96 + s.mem.readN (fcModel k + 24) 4 % 131072)
/-- Bytes of state and ring a stream takes in the pool. -/
def poolBytes (f : List Byte) : Nat := mdState f + 8 * mdHeadIn f
/-- Address of a stream's state. -/
def stateAddr (x : FcStream) : Nat := fcPool + 64 * x.ofs

/-- A slot runs in the mode (R417). -/
def slotRuns (s : State) (k : Nat) : Bool :=
  (slN s k 0 1).testBit 0 && (fcSlot s k).loaded &&
  (match s.mode.mode with
   | .service | .inspection => true
   | .night => (slN s k 0 1).testBit 2
   | _ => false)

/-- Priority of a KIND (R406). -/
def kindRank (k : Nat) : Nat := match k with | 1 => 0 | 4 => 1 | 3 => 2 | 2 => 3 | _ => 4

/-- Local time in seconds at a centre-time instant. -/
def localAt (s : State) (t : Nat) : Nat := localOf s ((t : Int) + s.ldg.calOffset)

/-! ### Stream entries and notices -/

/-- FLAGS of a stream entry. -/
def fcFlags (x : FcStream) : Nat :=
  1 + 2 * b2n x.reset + 4 * b2n x.frozen + 8 * b2n x.active + 16 * b2n x.valid + 32 * b2n x.fault

/-- Write a stream's entry to the table (Table 16.3); a stream not in use has a zero entry. -/
def putEntry (i : Nat) (s : State) : State :=
  let b := match fcStream s i with
    | some x => leBytes 1 x.slot ++ leBytes 1 (fcFlags x) ++ leBytes 2 x.source ++ leBytes 4 x.lastSeq ++ leBytes 8 x.steps ++ leBytes 8 x.time ++
        leBytes 4 x.ofs ++ leBytes 2 (min 65535 x.pending.length) ++ leBytes 1 x.gaps ++ leBytes 1 x.hold
    | none => leBytes 32 0
  { s with mem := s.mem.writeBytes (fcBase + 0x10000 + 32 * i) b }

/-- Post a notice (R413). -/
def fcNotice (typ : Nat) (set : Bool) (stream source time : Nat) (s : State) : State :=
  let r := qEnqueue s.fc.noticeQ (leBytes 1 typ ++ leBytes 1 (b2n set) ++ leBytes 2 stream ++ leBytes 4 source ++ leBytes 8 time) s
  if s.fc.noticeQ = 0 then s
  else if r.1 == .ok then r.2 else modFc (fun c => { c with noticeLost := true }) r.2

/-- A change of FLAG_ACTIVE: the notice and the record (R413, Table 16.6); `v` is the record's value as Q16.16. -/
def flagChange (i kind : Nat) (set : Bool) (v : Int) (time : Nat) (s : State) : State :=
  match fcStream s i with
  | none => s
  | some x =>
    let typ := match kind with | 2 => 1 | 4 => 2 | _ => 3
    let s1 := fcNotice typ set i x.source time (modStream i (fun x => { x with active := set }) s)
    appendLog (LogRec.plain (0x0400 + typ) (i + 4096 * b2n set) (x.source % 65536 + 2 ^ 64 * ofSigned 32 v)) s1

/-! ### Input entries (R404) -/

/-- Acknowledge every leading input entry of a slot that may be. -/
def fcAckLead (k : Nat) : Nat → State → State
  | 0, s => s
  | f + 1, s => match (fcSlot s k).ackWait with
    | (_, true) :: t => fcAckLead k f (qAck (slN s k 2 2) 1 (modSlot k (fun x => { x with ackWait := t }) s)).2
    | _ => s

/-- Entries by tag may be acknowledged. -/
def fcDone (k : Nat) (tags : List Nat) (s : State) : State :=
  let s1 := modSlot k (fun x => { x with ackWait := x.ackWait.map (fun p => if tags.contains p.1 then (p.1, true) else p) }) s
  fcAckLead k (fcSlot s1 k).ackWait.length s1

/-- Take the next entry of a slot's input queue. -/
def fcInput (k : Nat) (s : State) : State :=
  let q := slN s k 2 2
  if !islRuns s islFORECAST || !slotRuns s k then s
  else
    let r := qDequeue q s
    if r.1.status != .ok then r.2.2
    else
      let p := r.2.1
      let i := le p 0 2
      let tag := (fcSlot s k).nextTag
      let s1 := modSlot k (fun x => { x with nextTag := tag + 1, ackWait := x.ackWait ++ [(tag, false)] }) r.2.2
      let dup : Bool := match fcStream s1 i with
        | some x => x.slot != k || decide (le p 4 4 ≤ x.lastSeq)
        | none => true
      if dup then fcDone k [tag] (modFc (fun c => { c with dupCnt := satInc 16 c.dupCnt }) s1)
      else
        let e : FcStep := { tag := tag, reset := (le p 2 1).testBit 0, seq := le p 4 4, time := le p 8 8
                            feat := (List.range 8).map (fun j => if j < le p 3 1 then sle p (16 + 2 * j) 2 else 0) }
        putEntry i (modStream i (fun x => { x with pending := x.pending ++ [e] }) s1)

/-! ### Chunks (R401, R404, R406) -/

/-- A slot's chunk is due. -/
def chunkDue (s : State) (k : Nat) : Bool :=
  let f := fcFile s k
  slotRuns s k && s.fc.loading ≠ some k && !s.fc.running.any (fun b => b.slot == k) &&
  s.fc.streams.any (fun p => p.2.slot == k && !p.2.fault && (decide (mdChunk f ≤ p.2.pending.length) ||
    (match p.2.pending with | e :: _ => decide (e.time + 1000000 * mdWait f ≤ s.time.centre) | [] => false)))

/-- Split rows into batches of 64. -/
def batches : Nat → Nat → List (Nat × List FcStep × List Byte) → List FcBatch
  | 0, _, _ => []
  | f + 1, k, l => if l.isEmpty then [] else { slot := k, coarse := none, rows := l.take 64 } :: batches f k (l.drop 64)

/-- The chunk of a slot: every stream with pending steps, in ascending index. -/
def chunkOf (s : State) (k : Nat) : List FcBatch :=
  let f := fcFile s k
  let rows := ((List.range 4096).filterMap (fun i => (fcStream s i).map (fun x => (i, x)))).filterMap (fun p =>
    if p.2.slot = k && !p.2.fault && !p.2.pending.isEmpty then some (p.1, p.2.pending.take (mdChunk f), s.mem.bytes (fcHead p.1) (2 * mdOut f * mdHeadIn f)) else none)
  batches 64 k rows

/-- The chunk at the front starts: it takes the curve setting now in force. -/
def startHead (s : State) : State :=
  match s.fc.running with
  | b :: _ =>
    if b.coarse.isSome then s
    else modFc (fun c => { c with running := c.running.map (fun x => if x.slot = b.slot then { x with coarse := some (s.mode.mode == .night) } else x) }) s
  | [] => s

/-- Every due slot's chunk joins the batches: DEMAND at the next batch boundary, the others in KIND and slot order after the chunk
that runs. -/
def chunksDue (s : State) : State :=
  if !islRuns s islFORECAST then s
  else
    let due := (List.range 16).filter (chunkDue s)
    let rank (b : FcBatch) : Nat := 16 * kindRank (mdKind (fcFile s b.slot)) + b.slot
    let new := due.flatMap (chunkOf s)
    let front := match s.fc.running with | b :: _ => if b.coarse.isSome then [b] else [] | [] => []
    let rest := s.fc.running.drop front.length
    let cur := match front with | b :: _ => rest.takeWhile (fun x => x.slot == b.slot) | [] => []
    let others := rest.drop cur.length
    let demand := new.filter (fun b => rank b < 16)
    let later := new.filter (fun b => 16 ≤ rank b)
    let merged := (others ++ later).foldl (fun (l : List FcBatch) b => (l.takeWhile (fun x => rank x ≤ rank b)) ++ [b] ++ (l.dropWhile (fun x => rank x ≤ rank b))) []
    startHead (modFc (fun c => { c with running := front ++ demand ++ cur ++ merged }) s)

/-! ### Outputs (R409 to R412) -/

/-- OUT_k in Q16.16. -/
def outWord (s : State) (k j : Nat) (y : Int) : Int :=
  satSigned 32 (wholeOr Config.roundFc (mkRat (y * (slN s k (8 + 4 * j) 4 : Nat)) 4096))

/-- Write an output record (R216): FLAGS, TIME and OUT_0..3. -/
def putOut (a seq flags time : Nat) (out : List Int) (s : State) : State :=
  { s with mem := s.mem.writeBytes a (leBytes 4 seq ++ leBytes 4 flags ++ leBytes 8 time ++ (out.flatMap (fun x => leBytes 4 (ofSigned 32 x)))) }

/-- LEAK's score at a step (R411), from the flow and the outputs of the step before. -/
def leakScore (s : State) (x : FcStream) (feat : List Int) : Rat :=
  let q : Rat := mkRat (el feat 0) 10
  let e := mkRat (el x.out 0) 65536
  let sp := mkRat (el x.out 1) 65536
  let m := mkRat (slN s x.slot 40 4) 65536
  (q - e) / (if sp < m then m else sp)

/-- The window a local second falls in, by the day of its start; none outside. -/
def leakWindow (s : State) (k sec : Nat) : Option Nat :=
  let a := slN s k 34 2
  let b := slN s k 36 2
  let m := sec / 60 % 1440
  let d := sec / 86400
  if a ≤ b then (if a ≤ m && m < b then some d else none)
  else if a ≤ m then some d else if m < b then some (d - 1) else none

/-- The window has closed: its minimum decides the flag. -/
def leakClose (i time : Nat) (s : State) : State :=
  match fcStream s i with
  | none => s
  | some x => match x.win with
    | none => s
    | some (_, z) =>
      let s1 := modStream i (fun x => { x with win := none }) s
      let v : Int := (z * 65536).floor
      if mkRat (toSigned 32 (slN s x.slot 24 4)) 65536 ≤ z then
        let h := satInc 8 x.hold
        let s2 := modStream i (fun x => { x with hold := h }) s1
        if slN s x.slot 32 1 ≤ h && !x.active then flagChange i 2 true v time s2 else s2
      else if z < mkRat (toSigned 32 (slN s x.slot 28 4)) 65536 then
        let s2 := modStream i (fun x => { x with hold := 0 }) s1
        if x.active then flagChange i 2 false v time s2 else s2
      else s1

/-- LEAK's rule at a step; the outputs of the step before are still in place. -/
def leakRule (i : Nat) (e : FcStep) (s : State) : State :=
  match fcStream s i with
  | none => s
  | some x =>
    let w := leakWindow s x.slot (localAt s e.time)
    let s1 := match x.win with | some (d, _) => if w == some d then s else leakClose i e.time s | none => s
    match w with
    | none => s1
    | some d => if !x.valid then s1 else
      let z := leakScore s x e.feat
      modStream i (fun x => { x with win := some (d, match x.win with | some (_, m) => if z < m then z else m | none => z) }) s1

/-- TAMPER and DOORWEAR at a step (R412). -/
def scoreRule (i kind : Nat) (e : FcStep) (s : State) : State :=
  match fcStream s i with
  | none => s
  | some x =>
    let o := el x.out 0
    let hi := decide (toSigned 32 (slN s x.slot 24 4) ≤ o)
    let lo := decide (o < toSigned 32 (slN s x.slot 28 4))
    let h := if kind = 4 then (if hi then satInc 8 x.hold else if lo then 0 else x.hold) else x.hold
    let s1 := modStream i (fun x => { x with hold := h }) s
    let want : Option Bool := if kind = 4 then (if hi && slN s x.slot 32 1 ≤ h then some true else if lo then some false else none)
      else if hi then some true else if lo then some false else none
    match want with
    | some b => if b == x.active then s1 else flagChange i kind b o e.time s1
    | none => s1

/-- Publish a stream's outputs after a step. -/
def publishStep (i kind : Nat) (y : List Int) (e : FcStep) (s : State) : State :=
  match fcStream s i with
  | none => s
  | some x =>
    let o := (List.range 4).map (fun j => if j < y.length then
      (let w := outWord s x.slot j (el y j); if (kind = 1 || kind = 2) && w < 0 then 0 else w) else 0)
    let s1 := if kind = 2 then leakRule i e s else s
    let s2 := modStream i (fun x => { x with out := o, valid := true, outSeq := add32 x.outSeq 2 }) s1
    let s3 := if kind = 3 || kind = 4 then scoreRule i kind e s2 else s2
    match fcStream s3 i with
    | none => s3
    | some x =>
      let s4 := putOut (fcBase + 0x40000 + 32 * i) x.outSeq (fcFlags x) e.time o s3
      if kind = 1 then putOut (fcBase + 0x30000 + 32 * (x.source % 2048)) x.outSeq (fcFlags x) e.time o s4 else s4

/-- SC_2 is On in the mode (R414). -/
def adaptMode (s : State) : Bool := match s.mode.mode with | .service | .inspection | .recall | .safestop | .update => true | _ => false

/-- Keep the head input, and post the ADAPT entry (R414). -/
def adaptStep (i : Nat) (f : List Byte) (r : RowSt) (e : FcStep) (s : State) : State :=
  match fcStream s i with
  | none => s
  | some x =>
    if !(slN s x.slot 0 1).testBit 1 || !adaptMode s || x.frozen then s
    else
      let k := (x.steps - 1) % 4
      let a := stateAddr x + mdState f + 2 * mdHeadIn f * k
      let s1 := { s with mem := s.mem.writeBytes a (r.x.flatMap (fun v => leBytes 2 (ofSigned 16 v))) }
      let s2 := modStream i (fun x => { x with ring := vput x.ring k (some (x.steps % 2 ^ 32)) }) s1
      if s.fc.adaptQ = 0 then s2
      else
        let y := (List.range 4).flatMap (fun j => leBytes 2 (ofSigned 16 (el r.y j)))
        (qEnqueue s.fc.adaptQ (leBytes 2 i ++ leBytes 1 x.slot ++ leBytes 1 k ++ leBytes 4 x.steps ++ leBytes 8 e.time ++ y ++ leBytes 8 0) s2).2

/-! ### Running and writing back a batch (R403, R405) -/

/-- An uncorrectable word lies in a range. -/
def eccIn (s : State) (a n : Nat) : Bool := s.ecc.any (fun w => decide (a < w + 8) && decide (w < a + n))

/-- One row's chunk: each step by the model, with its reset, and its write-back. -/
def runRow (coarse : Bool) (i : Nat) (steps : List FcStep) (head : List Byte) (s : State) : State :=
  match fcStream s i with
  | none => s
  | some x0 =>
    let f := fcFile s x0.slot
    let bad := eccIn s (stateAddr x0) (poolBytes f)
    let s0 := if bad then modFc (fun c => { c with stateEcc := satInc 8 c.stateEcc }) { s with ecc := s.ecc.filter (fun w => !(decide (stateAddr x0 < w + 8) && decide (w < stateAddr x0 + poolBytes f))) } else s
    let len := steps.length
    let one (acc : List Byte × State) (p : FcStep × Nat) : List Byte × State :=
      match fcStream acc.2 i with
      | none => acc
      | some x =>
        let e := p.1
        let gap := decide (0 < x.steps) && decide (x.time + 1000000000 * mdGap f < e.time)
        let rst := e.reset || x.reset || gap || (bad && p.2 == 0)
        let r := modelStep f coarse head e.feat len p.2 (if rst then initState f else acc.1)
        let s1 := if gap then modFc (fun c => { c with gapCnt := satInc 15 c.gapCnt }) acc.2 else acc.2
        let s2 := modStream i (fun x => { x with
          lastSeq := e.seq, steps := x.steps + 1, time := e.time, reset := false, gaps := if gap then satInc 8 x.gaps else x.gaps
          valid := x.valid && !rst, pending := x.pending.filter (fun q => q.tag != e.tag) }) s1
        (r.st, adaptStep i f r e (publishStep i (mdKind f) r.y e (modFc (fun c => { c with steps := add32 c.steps 1 }) s2)))
    let r := steps.zipIdx.foldl one (s0.mem.bytes (stateAddr x0) (mdState f), s0)
    putEntry i { r.2 with mem := r.2.mem.writeBytes (stateAddr x0) r.1 }

/-- An uncorrectable error in a slot's model store: the slot must be loaded again (R422). -/
def modelLost (k : Nat) (s : State) : State :=
  let s1 := modSlot k (fun x => { x with loaded := false }) s
  fcNotice 4 false k 0 s.time.centre (modFc (fun c => { c with
    streams := c.streams.map (fun p => if p.2.slot = k then (p.1, { p.2 with fault := true }) else p), running := c.running.filter (fun b => b.slot != k) }) s1)

/-! ### STREAM_CTL (R408, Table 16.4) -/

/-- SOURCE values of a KIND. -/
def sourceOk (kind src : Nat) : Bool :=
  match kind with
  | 1 => decide (src < 2048)
  | 2 => decide (src < 500) || (decide (0x200 ≤ src) && decide (src < 0x240))
  | 3 => decide (src < 16)
  | 4 => decide (src < 128)
  | _ => true

/-- The first free place in the state pool for `n` 64-byte units. -/
def poolPlace (s : State) (n : Nat) : Option Nat :=
  let used := s.fc.streams.map (fun p => (p.2.ofs, ceilDiv (poolBytes (fcFile s p.2.slot)) 64))
  let free (o : Nat) : Bool := decide (o + n ≤ 65536) && used.all (fun u => decide (o + n ≤ u.1) || decide (u.1 + u.2 ≤ o))
  (0 :: used.map (fun u => u.1 + u.2)).foldl (fun b o => if free o && (match b with | none => true | some x => decide (o < x)) then some o else b) none

/-- w0 of a model, as bytes. -/
def w0Bytes (f : List Byte) : List Byte := (f.drop (mdHeadOfs f)).take (2 * mdOut f * mdHeadIn f)

/-- Write a stream's initial state and w0. -/
def seedStream (i : Nat) (s : State) : State :=
  match fcStream s i with
  | none => s
  | some x =>
    let f := fcFile s x.slot
    { s with mem := (s.mem.writeBytes (stateAddr x) (initState f)).writeBytes (fcHead i) (w0Bytes f) }

/-- CREATE. -/
def fcCreate (i k src : Nat) (s : State) : Bool × State :=
  let f := fcFile s k
  match fcStream s i, poolPlace s (ceilDiv (poolBytes f) 64) with
  | none, some o =>
    if !(fcSlot s k).loaded || !sourceOk (mdKind f) src then (false, s)
    else (true, putEntry i (seedStream i (modFc (fun c => { c with streams := tput i (FcStream.fresh k src o) c.streams }) s)))
  | _, _ => (false, s)

/-- Apply an operation. -/
def fcCtlApply (x : FcCtlOp) (s : State) : Bool × State :=
  let used := (fcStream s x.stream).isSome
  if x.op = 1 then fcCreate x.stream x.slot x.source s
  else if !used then (false, s)
  else match x.op with
    | 2 =>
      let tags := match fcStream s x.stream with | some y => y.pending.map (·.tag) | none => []
      let k := match fcStream s x.stream with | some y => y.slot | none => 0
      (true, putEntry x.stream (modFc (fun c => { c with streams := tdel x.stream c.streams }) (fcDone k tags s)))
    | 3 => (true, putEntry x.stream (modStream x.stream (fun y => { y with reset := true }) s))
    | 4 => (true, match fcStream s x.stream with | some y => { s with mem := s.mem.writeBytes (fcHead x.stream) (w0Bytes (fcFile s y.slot)) } | none => s)
    | 5 => (true, putEntry x.stream (modStream x.stream (fun y => { y with frozen := true }) s))
    | 6 => (true, putEntry x.stream (modStream x.stream (fun y => { y with frozen := false }) s))
    | _ => (false, s)

/-- A chunk that includes the stream runs. -/
def inChunk (s : State) (i : Nat) : Bool := s.fc.running.any (fun b => b.rows.any (fun r => r.1 == i))

/-- An operation takes effect, or waits. -/
def fcCtlRun (x : FcCtlOp) (s : State) : State :=
  if inChunk s x.stream then modFc (fun c => { c with sResult := .busy, sOp := x.op, sStream := x.stream, waiting := some x }) s
  else
    let r := fcCtlApply x s
    modFc (fun c => { c with sResult := if r.1 then .ok else .refused, sOp := x.op, sStream := x.stream, waiting := none }) r.2

/-- FC_STREAM_CTL: a write while an operation waits is not taken. -/
def fcStreamCtl (w : Word) (s : State) : State :=
  if bits w 63 56 ≠ 0x53 || s.fc.waiting.isSome || !islRuns s islFORECAST then s
  else fcCtlRun { op := bits w 50 48, slot := bits w 43 40, source := bits w 39 24, stream := bits w 11 0 } s

/-- A waiting operation is applied. -/
def fcCtlDeferred (s : State) : State :=
  match s.fc.waiting with
  | some x => if inChunk s x.stream then s else fcCtlRun x s
  | none => s

/-- The batch at the front ends and is written back (R405); a chunk that has become due joins, and the next batch starts. -/
def batchEnd (s : State) : State :=
  if !islRuns s islFORECAST then s
  else match s.fc.running with
    | [] => s
    | b :: rest =>
      if eccIn s (fcModel b.slot) 131072 then modelLost b.slot s
      else
        let s1 := b.rows.foldl (fun s r => runRow (b.coarse.getD false) r.1 r.2.1 r.2.2 s) s
        let s2 := fcDone b.slot (b.rows.flatMap (fun r => r.2.1.map (·.tag))) (modFc (fun c => { c with running := rest }) s1)
        startHead s2

/-! ### Adaptation (R415) -/

/-- The MODEL_LIMITS record of a KIND in NVM. -/
def limitN (s : State) (kind o n : Nat) : Nat :=
  s.mem.readN (nvmBase + 0x1100 + 16 + 16 * (if kind = 0x80 then 0 else kind) + o) n

/-- Take the hour's clamp record: it is appended when an update comes in a later hour (R413). -/
def clampRecord (i : Nat) (s : State) : State :=
  let h := s.time.uptime / 3600000000000
  let s1 := if s.fc.clampHour = h || s.fc.clamps.isEmpty then s
    else
      let n := (s.fc.clamps.map (·.2)).sum
      let top := s.fc.clamps.foldl (fun (b : Nat × Nat) p => if b.2 < p.2 then p else b) (0, 0)
      modFc (fun c => { c with clamps := [] }) (appendLog (LogRec.plain 0x0405 (n % 2 ^ 32) top.1) s)
  modFc (fun c => { c with clampHour := h, clamps := tput i (tgetD c.clamps i 0 + 1) c.clamps }) s1

/-- One weight's update: the new weight and the clamps it took; a weight is an int16 (DEDUCED: it saturates there). -/
def weightUpdate (mu n : Rat) (stepMax limit w w0 x e : Int) : Int × Nat :=
  let d0 : Int := (mu * mkRat e 4096 * mkRat x 4096 / n * 4096 + mkRat 1 2).floor
  let d := clampInt (-stepMax) stepMax d0
  let v := sat16 (clampInt (w0 - limit) (w0 + limit) (w + d))
  (v, b2n (d != d0) + b2n (v != w + d))

/-- Apply a HEAD_UPDATE entry. -/
def headUpdate (p : List Byte) (s : State) : State :=
  let i := le p 0 2
  let reject := modFc (fun c => { c with rejectUpd := satInc 16 c.rejectUpd }) s
  match fcStream s i with
  | none => reject
  | some x =>
    let f := fcFile s x.slot
    let kind := mdKind f
    if !(limitN s kind 0 1).testBit 0 || x.frozen || !(slN s x.slot 0 1).testBit 1 || !(fcSlot s x.slot).loaded then reject
    else match (List.range 4).find? (fun k => vget x.ring k none == some (le p 4 4)) with
      | none => modFc (fun c => { c with staleUpd := satInc 16 c.staleUpd }) s
      | some k =>
        let h := mdHeadIn f
        let xs := (List.range h).map (fun j => toSigned 16 (s.mem.readN (stateAddr x + mdState f + 2 * h * k + 2 * j) 2))
        let mu := mkRat (min (le p 8 2) (limitN s kind 2 2)) 65536
        let n := mkRat (limitN s kind 8 2) 256 + sumR (xs.map (fun v => mkRat (v * v) (4096 * 4096)))
        let r := (List.range (mdOut f * h)).foldl (fun (acc : Memory × Nat) q =>
          let a := fcHead i + 2 * q
          let u := weightUpdate mu n (limitN s kind 6 2) (limitN s kind 4 2) (toSigned 16 (acc.1.readN a 2)) (sle f (mdHeadOfs f + 2 * q) 2) (el xs (q % h)) (sle p (12 + 2 * (q / h)) 2)
          (acc.1.writeN a 2 (ofSigned 16 u.1), acc.2 + u.2)) (s.mem, 0)
        let s1 := modFc (fun c => { c with clampCnt := satTo 16 (c.clampCnt + r.2) }) { s with mem := r.1 }
        if r.2 = 0 then s1 else fcNotice 5 true i x.source x.time (clampRecord i s1)

/-- Take the next entry of HEAD_QID; one delivered with ABORT is not applied. -/
def headEntry (s : State) : State :=
  if s.fc.headQ = 0 || !islRuns s islFORECAST then s
  else
    let r := qDequeue s.fc.headQ s
    if r.1.status == .ok then headUpdate r.2.1 (qAck s.fc.headQ 1 r.2.2).2
    else if r.1.status == .abort then (qAck s.fc.headQ 1 r.2.2).2
    else r.2.2

/-! ### APPLY and MODEL_LOAD (R418, Table 16.9) -/

/-- A slot record as written: the first failing offset. -/
def slotBad (s : State) (m : Memory) (k : Nat) : Option Nat :=
  let b := 0x1000 + 64 * k
  let n (o c : Nat) : Nat := m.readN (b + o) c
  let bad (o : Nat) (c : Bool) : Option Nat := if c then some ((b + o) / 16) else none
  let owner : Bool := match qGet s (n 2 2) with | some q => q.cfg.cons == islFORECAST | none => false
  let kind := if (fcSlot s k).loaded then mdKind (fcFile s k) else 0
  if !(n 0 1).testBit 0 then none
  else
    (bad 0 (16 ≤ n 0 1 || 1 < n 1 1 || !owner || n 4 4 % 64 ≠ 0)).orElse fun _ =>
    (bad 24 (decide (toSigned 32 (n 24 4) < toSigned 32 (n 28 4)))).orElse fun _ =>
    (bad 32 (n 32 1 = 0 || n 33 1 ≠ 0 || 1439 < n 34 2 || 1439 < n 36 2 || n 38 2 ≠ 0 || (kind = 2 && n 40 4 = 0) ||
      (kind = 1 && (n 44 2 < 60 || 3600 < n 44 2 || 86400 % n 44 2 ≠ 0)) || 15 < n 46 1 || n 47 1 ≠ 0)).orElse fun _ =>
    (bad 48 (n 48 16 ≠ 0))

/-- The record written back with its LOADED bit. -/
def putSlotRec (k : Nat) (s : State) : State :=
  let r := (fcSlot s k).recd
  { s with mem := s.mem.writeBytes (fcBase + 0x1000 + 64 * k) (putBytes r 0 (leBytes 1 (le r 0 1 % 8 + 8 * b2n (fcSlot s k).loaded))) }

/-- A slot is emptied of its model: its chunk ends. -/
def unloadSlot (k : Nat) (s : State) : State :=
  putSlotRec k (modSlot k (fun x => { x with loaded := false }) (modFc (fun c => { c with running := c.running.filter (fun b => b.slot != k) }) s))

/-- APPLY. -/
def fcApply (s : State) : State :=
  let m := s.mem.filter (fun c => fcBase + 0x1000 ≤ c.1 && c.1 < fcBase + 0x1400) |>.map (fun c => (c.1 - fcBase, c.2))
  match (List.range 16).findSome? (slotBad s m) with
  | some r => modFc (fun c => { c with result := .refused, refuseAt := r % 4096 }) s
  | none =>
    let one (s : State) (k : Nat) : State :=
      let b := Memory.bytes m (0x1000 + 64 * k) 64
      let old := (fcSlot s k).recd
      let again := le old 1 7 ≠ le b 1 7 || (le old 0 1).testBit 2 != (le b 0 1).testBit 2 || !(le b 0 1).testBit 0
      let s1 := modSlot k (fun x => { x with recd := putBytes b 0 (leBytes 1 (le b 0 1 % 8)) }) s
      if again && (fcSlot s k).loaded then unloadSlot k s1 else putSlotRec k s1
    modFc (fun c => { c with result := .ok, refuseAt := 0 }) ((List.range 16).foldl one s)

/-- MODEL_LOAD starts. -/
def modelLoad (k : Nat) (s : State) : State :=
  if s.fc.loading.isSome then modFc (fun c => { c with result := .busy }) s
  else if !(slN s k 0 1).testBit 0 then modFc (fun c => { c with result := .refused, refuseAt := 0 }) s
  else modFc (fun c => { c with loading := some k, result := .busy }) s

/-- Another loaded slot holds the same KIND 1–4. -/
def kindHeld (s : State) (k kind : Nat) : Bool :=
  1 ≤ kind && kind ≤ 4 && (List.range 16).any (fun j => j ≠ k && (fcSlot s j).loaded && mdKind (fcFile s j) = kind)

/-- A file that has passed its checks takes effect: streams keep state and head, or are reset with w0 (Coincidences). -/
def modelTake (k : Nat) (f : List Byte) (s : State) : State :=
  let old := fcFile s k
  let keep := mdState old == mdState f && mdOut old == mdOut f && mdHeadIn old == mdHeadIn f && s.mem.readN (fcModel k) 4 == 0x46434D31
  let file := f.take (96 + mdBody f)
  let s1 := { s with mem := (s.mem.clear (fcModel k) (fcModel k + 131072)).writeBytes (fcModel k) file
                     ecc := s.ecc.filter (fun a => a < fcModel k || fcModel k + 131072 ≤ a) }
  let s2 := modSlot k (fun x => { x with loaded := true }) s1
  let mine := s.fc.streams.filter (fun p => p.2.slot = k)
  let s3 := if keep then mine.foldl (fun s p => modStream p.1 (fun x => { x with fault := false }) s) s2
    else
      let s3 := modFc (fun c => { c with streams := c.streams.filter (fun p => p.2.slot ≠ k) }) s2
      mine.foldl (fun s p =>
        match poolPlace s (ceilDiv (poolBytes file) 64) with
        | some o => putEntry p.1 (seedStream p.1 (modFc (fun c => { c with streams := tput p.1 { p.2 with
            ofs := o, fault := false, valid := false, reset := false, ring := Vector.replicate 4 none } c.streams }) s))
        | none => putEntry p.1 s) s3
  let s4 := fcNotice 4 true k 0 s.time.centre (putSlotRec k s3)
  appendLog { LogRec.plain 0x0404 (k + 256 * mdKind f) (mdVersion f) with digest := le f 32 32 } s4

/-- The file has been read: none = a flash read error. -/
def modelLoaded (file : Option (List Byte)) (s : State) : State :=
  match s.fc.loading with
  | none => s
  | some k =>
    if s.fc.running.any (fun b => b.slot == k) then s
    else
      let s1 := modFc (fun c => { c with loading := none }) s
      match file with
      | none => modFc (fun c => { c with result := .abort }) s1
      | some f => match modelBad f ((slN s k 0 1).testBit 2) (kindHeld s k (mdKind f)) with
        | some n => modFc (fun c => { c with result := .refused, refuseAt := n }) s1
        | none => modFc (fun c => { c with result := .ok, refuseAt := 0 }) (modelTake k f s1)

/-! ### Checkpoints (R423, R424) -/

/-- Every stream's entry, state and head. -/
def ckptTake (s : State) : List CkptStream :=
  s.fc.streams.map (fun p =>
    let f := fcFile s p.2.slot
    { stream := p.1, slot := p.2.slot, source := p.2.source, version := mdVersion f, entry := { p.2 with pending := [] }
      state := s.mem.bytes (stateAddr p.2) (mdState f), head := s.mem.bytes (fcHead p.1) (2 * mdOut f * mdHeadIn f) })

/-- A checkpoint starts. -/
def ckptStart (s : State) : State := modFc (fun c => { c with ckptJob := some (ckptTake s), result := .busy }) s

/-- The interval has passed, with checkpoints enabled. -/
def ckptInterval (s : State) : State := if bit s.fc.ckpt 63 then ckptStart s else s

/-- The write completes: the older image becomes the new one. -/
def ckptDone (s : State) : State :=
  match s.fc.ckptJob with
  | none => s
  | some j =>
    let n (x : Option (Nat × List CkptStream)) : Nat := match x with | some y => y.1 | none => 0
    modFc (fun c =>
      let k := max (n c.ckptA) (n c.ckptB) + 1
      if n c.ckptA ≤ n c.ckptB then { c with ckptA := some (k, j), ckptJob := none, result := .ok }
      else { c with ckptB := some (k, j), ckptJob := none, result := .ok }) s

/-- Restore what matches from the newer image, with each head clamped about w0. -/
def ckptRestore (s : State) : State :=
  let img := match s.fc.ckptA, s.fc.ckptB with
    | some a, some b => if b.1 < a.1 then a.2 else b.2
    | some a, none => a.2
    | none, some b => b.2
    | none, none => []
  img.foldl (fun s e =>
    match fcStream s e.stream with
    | none => s
    | some x =>
      let f := fcFile s x.slot
      if x.slot ≠ e.slot || x.source ≠ e.source || mdVersion f ≠ e.version || mdState f ≠ e.state.length then s
      else
        let lim : Int := limitN s (mdKind f) 4 2
        let w0 := w0Bytes f
        let head := (List.range (mdOut f * mdHeadIn f)).flatMap (fun q =>
          let w := sle w0 (2 * q) 2
          leBytes 2 (ofSigned 16 (clampInt (w - lim) (w + lim) (sle e.head (2 * q) 2))))
        let s1 := modStream e.stream (fun y => { e.entry with ofs := y.ofs, pending := [], ring := Vector.replicate 4 none }) s
        putEntry e.stream { s1 with mem := (s1.mem.writeBytes (stateAddr x) e.state).writeBytes (fcHead e.stream) head }) s

/-! ### Producers (R239, R280, Table 16.5) -/

/-- Sine and cosine of the local time of day in Q4.12. -/
def dayAngle (sec : Nat) : List Int :=
  let t := mkRat (sec % 86400) 86400
  [wholeOr Config.roundFc (sinT t * 4096), wholeOr Config.roundFc (cosT t * 4096)]

/-- Post an input entry to a stream's slot; a suspended slot's producers post nothing, and a full queue drops the entry. -/
def fcFeed (i : Nat) (feat : List Int) (s : State) : State :=
  match fcStream s i with
  | none => s
  | some x =>
    if !slotRuns s x.slot then s
    else
      let n := x.fed + 1
      let f := (List.range 8).flatMap (fun j => leBytes 2 (ofSigned 16 (sat16 (el feat j))))
      (qEnqueue (slN s x.slot 2 2) (leBytes 2 i ++ leBytes 1 0 ++ leBytes 1 feat.length ++ leBytes 4 n ++ leBytes 8 s.time.centre ++ f)
        (modStream i (fun x => { x with fed := n }) s)).2

/-- The streams of a KIND with a SOURCE. -/
def streamsOf (s : State) (kind src : Nat) : List Nat :=
  s.fc.streams.filterMap (fun p => if p.2.source = src && (fcSlot s p.2.slot).loaded && mdKind (fcFile s p.2.slot) = kind then some p.1 else none)

/-- A WATER slave's increment in mL over the time since its reading before (R239). -/
def feedLeak (src inc since : Nat) (s : State) : State :=
  let dt := s.time.centre - since
  if dt = 0 then s
  else
    let flow := wholeOr Config.roundFc (mkRat (inc * 36000000000) dt)
    let hours := wholeOr Config.roundFc (mkRat (dt * 4096) 3600000000000)
    (streamsOf s 2 src).foldl (fun s i => fcFeed i ([flow] ++ dayAngle (localAt s s.time.centre) ++ [hours]) s) s

/-- At each POLL_S of master 0, the volume of every water pulse channel since the last (Table 16.5). -/
def feedPulses (s : State) : State :=
  (List.range 64).foldl (fun s k =>
    if pulseQty s k ≠ 1 || pulseIsB s k || pulseMode s k = 0 || pulseMode s k = 3 then s
    else
      let c := pulse s k
      let n := (sub32 c.fwd c.rev, s.time.centre)
      let s1 := modFc (fun f => { f with pulseAt := tput k n f.pulseAt }) s
      match tget s.fc.pulseAt k with
      | none => s1
      | some o =>
        let d := toSigned 32 (sub32 n.1 o.1)
        feedLeak (0x200 + k) ((mkRat (lt s (0x1000 + 16 * k) 4) 256 * (d : Rat)).floor.toNat) o.2 s1) s

/-- A step's counts reach every DEMAND stream of the group. -/
def feedDemand (g : Nat) (s : State) : State :=
  (grp s g).heard.foldl (fun s c =>
    (streamsOf s 1 (128 * g + c.1)).foldl (fun s i =>
      let k := match fcStream s i with | some x => x.slot | none => 0
      let sec := localAt s s.time.centre
      fcFeed i ([(c.2.1 : Int), c.2.2.1, c.2.2.2.1, c.2.2.2.2] ++ dayAngle sec ++ [(dayType s (slN s k 46 1) (sec / 86400) : Int)]) s) s) s

/-! ### Registers (Table 16.8) -/

/-- Read. -/
def fcRead (o : Nat) (s : State) : Option Word :=
  let c := s.fc
  if o = 0 || o = 16 then some 0
  else if o = 8 then
    let loaded := maskOf (c.slots.toList.map (·.loaded))
    let susp := (List.range 16).any (fun k => (fcSlot s k).loaded && !slotRuns s k)
    some (packWord [(60, statusCode c.result), (48, c.refuseAt), (33, b2n susp), (32, b2n (s.mode.mode == .night)), (16, c.streams.length), (0, loaded)])
  else if o = 24 then some (packWord [(60, statusCode c.sResult), (48, c.sOp), (0, c.sStream)])
  else if o = 32 then some (packWord [(32, c.headQ), (16, c.adaptQ), (0, c.noticeQ)])
  else if o = 40 then some (packWord [(32, c.steps), (16, c.dupCnt), (1, c.gapCnt), (0, b2n c.noticeLost)])
  else if o = 48 then some (packWord [(48, c.clampCnt), (32, c.staleUpd), (16, c.rejectUpd), (8, c.stateEcc), (0, c.writeDrop)])
  else if o = 56 then some c.ckpt
  else none

/-- What a read clears (RC). -/
def fcReadEffect (o : Nat) (s : State) : State :=
  if o = 40 then modFc (fun c => { c with dupCnt := 0, gapCnt := 0, noticeLost := false }) s
  else if o = 48 then modFc (fun c => { c with clampCnt := 0, staleUpd := 0, rejectUpd := 0, stateEcc := 0, writeDrop := 0 }) s
  else s

/-- FC_CTL. -/
def fcCtl (w : Word) (s : State) : State :=
  if bits w 63 56 ≠ 0x46 || !islRuns s islFORECAST then s
  else match bits w 1 0 with
    | 1 => fcApply s
    | 2 => modelLoad (bits w 11 8) s
    | 3 => ckptStart s
    | _ => s

/-- FC_CKPT as stored. -/
def ckptWord (w : Word) : Word := packWord [(62, bits w 63 62), (48, clampNat 1 168 (bits w 55 48)), (0, bits w 31 0)]

/-- Write. -/
def fcWrite (o : Nat) (w : Word) (s : State) : State :=
  if o = 0 then fcCtl w s
  else if o = 16 then fcStreamCtl w s
  else if o = 32 then modFc (fun c => { c with headQ := bits w 45 32, adaptQ := bits w 29 16, noticeQ := bits w 13 0 }) s
  else if o = 56 then modFc (fun c => { c with ckpt := ckptWord w, ckptNvm := ckptWord w }) s
  else s

/-- A write to the model store or the head store from another initiator is dropped and counted (R416). -/
def fcDropWrite (s : State) : State := modFc (fun c => { c with writeDrop := satInc 8 c.writeDrop }) s

/-! ### Fences, reset and start (R422, R423) -/

/-- A fence ends the running batch without write-back; held input entries come again by redelivery. -/
def fcFenced (s : State) : State :=
  modFc (fun c => { c with
    running := [], slots := c.slots.map (fun x => { x with ackWait := [] }), streams := c.streams.map (fun p => (p.1, { p.2 with pending := [] })) }) s

/-- The engine's registers at a release after a reset; records, models, streams, states and heads stay in Plaza SRAM. -/
def fcReset (s : State) : State :=
  modFc (fun c => { FcState.init with
    slots := c.slots.map (fun x => { x with ackWait := [] }), streams := c.streams.map (fun p => (p.1, { p.2 with pending := [] }))
    ckpt := c.ckpt, ckptNvm := c.ckptNvm, ckptA := c.ckptA, ckptB := c.ckptB }) s

/-- Bring-up step 8: records, each IN_USE slot's file, the streams the Rhoun configuration lists, and a restore after a cold start. -/
def fcStep8 (warm : Bool) (files : List (Nat × Option (List Byte))) (streams : List (Nat × Nat × Nat)) (s : State) : State :=
  let s0 := fcApply (modFc (fun c => { c with ckpt := c.ckptNvm, ckptJob := none, running := [] }) s)
  let s1 := (List.range 16).foldl (fun s k => if (slN s k 0 1).testBit 0 && !(fcSlot s k).loaded then modelLoaded ((tget files k).getD none) (modelLoad k s) else s) s0
  let s2 := streams.foldl (fun s x => (fcCreate x.1 x.2.1 x.2.2 s).2) s1
  if !warm && bit s2.fc.ckpt 63 then ckptRestore s2 else s2

/-- DORMANT entry: a checkpoint is written at its step 1, and the forecast region is lost. -/
def fcDormant (s : State) : State :=
  let s1 := if bit s.fc.ckpt 63 then ckptDone (ckptStart s) else s
  modFc (fun c => { FcState.init with ckpt := c.ckpt, ckptNvm := c.ckptNvm, ckptA := c.ckptA, ckptB := c.ckptB }) s1

end Sys2Proof.Machine
end

