-- ==== Sys2Proof/Machine/Hooks.lean ====
section
/-! DEFINITION. What modes, resets and bring-up ask of the engines, and what they do to them. -/
namespace Sys2Proof.Machine
open Sys2Proof

/-! ### What the mode logic reads of the engines -/

/-- The Kerb RECALL signal: C0 as committed, while Kerb is in RUN (chapter 14). -/
def kerbRecall (s : State) : Bool := s.kerb.run == .run && s.kerb.cCom.testBit 0

/-- The Kerb program's fault output: C2 as committed. -/
def kerbFaultOut (s : State) : Bool := s.kerb.run == .run && s.kerb.cCom.testBit 2

/-- No car is moving. -/
def carsStill (s : State) : Bool := noCarMoves s
/-- Every car is parked with its doors closed. -/
def carsParked (s : State) : Bool := allParked s
/-- Every car has been parked with no call registered for NIGHT_IDLE_S (R45). -/
def carsIdle (s : State) : Bool := allIdleFor (bits s.mode.limits 15 0) s
/-- Every door is closed. -/
def doorsClosed (s : State) : Bool := allDoorsClosed s
/-- Every escalator channel reports stopped (R45). -/
def escalatorsStopped (s : State) : Bool := allEscStopped s
/-- A voice is sounding (R45, M5). -/
def voiceSounding (s : State) : Bool := s.bs.voices.toList.any (·.busy)
/-- Every car's inspection input in the Kerb mirror is normal (M12), C16–C23. -/
def inspectionNormal (s : State) : Bool := (List.range 8).all (fun c => !kerbCtl s (16 + c))

/-- The calendar time of R245 in ns since 2000-01-01: centre time plus LDG_TIME.CAL_OFFSET_NS. -/
def calendarNs (s : State) : Nat := (calNs s).toNat

/-- The call that woke the device is kept (M6). -/
def keepWakeCall (s : State) : State := { s with mode := { s.mode with wakeCalls := s.mode.wakeCalls + 1 } }

/-- A core's fabric request has completed with ABORT (R67, R175). -/
def coreAbort (i : Nat) (s : State) : State :=
  if islSC 0 ≤ i && i ≤ islSC 7 then modCore (i - islSC 0) portAbort s else s

/-- A VDD_KERB alarm (R360). -/
def kerbSupplyAlarm (s : State) : State := kerbFault 1 s
/-- A VDD_KERB alarm clears (R360). -/
def kerbSupplyClear (s : State) : State := kerbFaultGone s

/-! ### What resets, modes and bring-up do to the engines -/

/-- Steps 2 and 3 of a release after RESET, UPDATE or Off: the island's engines take their reset values and its program is
reloaded (R68, R15). -/
def engineReset (i : Nat) (s : State) : State :=
  if i = islNIGHT then ldgNightReset (meterReset s)
  else if i = islSC 0 then coreReset 0 (meterCoreReset 0 s)
  else if i = islSC 1 then coreReset 1 (meterCoreReset 1 s)
  else if islSC 2 ≤ i && i ≤ islSC 7 then coreReset (i - islSC 0) s
  else if i = islMOTION then doorReset (motionReset (liftReset s))
  else if i = islAUDIO then bsReset s
  else if i = islFORECAST then fcReset s
  else if i = islLINK then blvReset s
  else if i = islIO then ldgIoReset (pwmRestartAll s)
  else s

/-- What a fence with cause RESET does at once (R442). -/
def engineFenced (i : Nat) (s : State) : State :=
  if i = islIO then pwmEnterSafe s
  else if i = islMOTION then (List.range 16).foldl (fun s a => gatesOff a s) (motionFenced s)
  else if i = islFORECAST then fcFenced s
  else if islSC 2 ≤ i && i ≤ islSC 5 then loseCore (i - islSC 0) s
  else s

/-- Entry to a mode without traction set-points and with every bridge gate low (R314, R335, Table 2.4). -/
def axesHold (s : State) : State := allGatesOff (motionHold s)

/-- What entering a major mode does to the engines (R38, R53, R288, R290, R314, R435, R436). -/
def engineMode (m : Mode) (s0 : State) : State :=
  let s := bsMode m s0
  match m with
  | .safestop => pwmEnterSafe (axesHold (liftSafestop s))
  | .update => axesHold (pwmEnterUpdate (harmAbort s))
  | .night => axesHold (harmAbort s)
  | .recall => liftRecall s
  | .dormant => kerbOff (fcDormant <| ldgDormant (meterDormant (doorReset (motionReset (liftReset s)))))
  | .bringup => axesHold (if s.kerb.run == .off then s else kerbTest s)
  | _ => s

/-- Bring-up step 4 for the engines: safe codes are loaded (R444). -/
def engineStep4 (s : State) : State := pwmEnterSafe (pwmLoadSafe s)

/-- Bring-up step 8 for the engines: their tables are applied as an APPLY would (R444). -/
def engineStep8 (s : State) : State :=
  let s1 := pwmApply { s with blv := { s.blv with cfg := s.blv.cfgNvm } }
  meterStart (ldgStep8 s.mode.warm (liftStep8 s.mode.warm (doorStep8 (motionStep8 s1))))

/-- Bring-up step 9: Boulevard joins (R469). -/
def engineStep9 (s : State) : State := blvJoin s

/-- A billing snapshot of every ledger, as DORMANT entry takes it (R56). -/
def dormantSnapshot (s : State) : State := snapDormant s

end Sys2Proof.Machine
end

