-- ==== Sys2Proof/Machine/IslOps.lean ====
section
/-! DEFINITION. Power islands, fences and their release, and island faults (chapter 3, R64 to R68, R76 to R82). -/
namespace Sys2Proof.Machine
open Sys2Proof

/-- The state Table 2.4 gives island `i` in a mode (BRINGUP: under test, so On). -/
def islWant (m : Mode) (i : Nat) : IslState :=
  if i = 0 then .on
  else match m with
    | .dormant => .off
    | .bringup | .service | .inspection => .on
    | .night => if i = 1 || i = 2 || i = 14 || i = 15 then .on else if i = 3 || i = 11 then .duty
        else if i = 4 || i = 12 then .gated else .off
    | .recall => if i = 11 then .gated else .on
    | .safestop => if i = 9 || i = 10 || i = 11 then .gated else .on
    | .update => if i = 4 || (7 ≤ i && i ≤ 11) then .gated else .on

/-- The state island `i` is to have now: in NIGHT, a priority-7 announcement wakes AUDIO and cores 2–3 (Table 2.4, ‡). -/
def islWanted (s : State) (i : Nat) : IslState :=
  if s.mode.mode == .night && s.bs.woken && (i = 5 || i = 6 || i = 13) then .on else islWant s.mode.mode i

/-- The PLL an island runs on, if any (Table 3.1). -/
def islPll (i : Nat) : Option Nat :=
  if i = 2 then some pllNIGHT
  else if 3 ≤ i && i ≤ 11 then some pllCORE
  else if i = 12 || i = 15 then some pllIO
  else if i = 13 then some pllAUDIO
  else if i = 14 then some pllLINK
  else none

/-- Start the clock an island needs (R60, R68 step 1). -/
def startIslClock (i : Nat) (s : State) : State :=
  match islPll i with
  | some p => startPll p s
  | none => s

/-- The island's clock is needed: On, Duty or Waking (chapter 3, Model). -/
def islNeedsClock (x : Island) : Bool :=
  x.st == .on || x.st == .waking || (x.st == .duty && x.fence.isNone) || x.st == .fencing || x.st == .fenced || x.st == .held

/-- Stop PLL_CORE and PLL_AUDIO when their last consumer is Off or Gated; FAB_CLK needs PLL_CORE outside NIGHT, BRINGUP
and DORMANT (R59, R60). -/
def stopIdlePlls (s : State) : State :=
  let idle (p : Nat) : Bool := !((pllIslands p).any (fun i => islNeedsClock (isl s i)))
  let fabric := !(s.mode.mode == .night || s.mode.mode == .bringup || s.mode.mode == .dormant)
  let s1 := if idle pllCORE && !fabric && (pll s pllCORE).running then stopPll pllCORE s else s
  if idle pllAUDIO && (pll s pllAUDIO).running then stopPll pllAUDIO s1 else s1

/-- Begin or merge a fence (R64, R76). -/
def fenceIsl (i : Nat) (c : FenceCause) (s : State) : State :=
  if i = 0 then s
  else
    let x := isl s i
    match x.fence with
    | none =>
      let s1 := modIsl s i (fun x => { x with
        fence := some c, epoch := (x.epoch + 1) % 256, st := if c == .reset then .fenced else .fencing,
        recoverPending := x.recoverPending || c != .powerDown, resetPending := x.resetPending || c != .powerDown })
      if c == .reset then engineFenced i s1 else s1
    | some .powerDown =>
      if (x.st == .gated || x.st == .duty) && c != .powerDown then
        engineFenced i (modIsl s i (fun x => { x with fence := some c, epoch := (x.epoch + 1) % 256, st := .fenced,
                                                      recoverPending := true, resetPending := true }))
      else modIsl s i (fun x => { x with recoverPending := x.recoverPending || c != .powerDown,
                                         resetPending := x.resetPending || c != .powerDown })
    | some _ =>
      modIsl s i (fun x => { x with fence := some (if c == .powerDown then c else if c == .reset then .reset else c),
                                    heldPending := x.heldPending || (c == .powerDown && x.st == .held)
                                    st := if c == .powerDown then .fencing else x.st })

/-- A power-down completes: Gated, Duty or Off as the mode gives, or a wake that waited for it (R77, R82, R76). -/
def finishPowerDown (i : Nat) (s : State) : State :=
  let w := islWanted s i
  let s1 := modIsl s i (fun x => { x with
    st := if w == .on then .waking else w
    resetPending := x.resetPending || w == .off
    recoverPending := x.recoverPending || w == .off
    faulted := false, wdog := 0 })
  stopIdlePlls s1

/-- 1 µs into a POWER_DOWN or UPDATE fence: what is still open is answered ABORT and the fence is complete (R64). -/
def drainFence (i : Nat) (s : State) : State :=
  let x := isl s i
  if x.st ≠ .fencing then s
  else match x.fence with
    | some .powerDown => finishPowerDown i s
    | _ => modIsl s i (fun x => { x with st := .fenced })

/-- Reset and program reload of the release (R68 steps 2 and 3). -/
def islReload (i : Nat) (s : State) : State :=
  let x := isl s i
  if x.resetPending then engineReset i (modIsl s i (fun x => { x with resetPending := false, wdog := 0 })) else s

/-- The island runs again: On, new requests accepted, queue sides released, latched doorbells presented (R68); an island whose
program could not be loaded stays Held (R200). -/
def islOn (i : Nat) (s : State) : State :=
  if (isl s i).resetPending then s
  else
  let rec_ := (isl s i).recoverPending
  let s1 := modIsl s i (fun x => { x with st := .on, fence := none, recoverPending := false, faulted := false, wdog := 0 })
  releaseSides i rec_ s1

/-- Release a fence (R68): On, or the state Table 2.4 holds the island in; a Held island stays Held. -/
def releaseIsl (i : Nat) (s : State) : State :=
  let x := isl s i
  if i = 0 || x.st == .held || x.fence.isNone && x.st ≠ .waking || x.st == .fencing then s
  else if x.st == .off && islWanted s i ≠ .on then s
  else if x.heldPending then
    islReload i (modIsl s i (fun x => { x with st := .held, heldPending := false }))
  else match islWanted s i with
    | .on => islOn i (islReload i (startIslClock i s))
    | .off => modIsl s i (fun x => { x with st := .off, resetPending := true, recoverPending := true, faulted := false })
    | w =>
      if x.st == .gated || x.st == .duty then s
      else
        let s1 := islReload i (startIslClock i s)
        if (isl s1 i).resetPending then s1
        else stopIdlePlls (modIsl s1 i (fun x => { x with st := w, fence := some .powerDown, faulted := false, wdog := 0 }))

/-- Bring an island toward the state its mode gives it (R73, R77, R82): a power-down begins, or a wake. -/
def steerIsl (i : Nat) (s : State) : State :=
  let x := isl s i
  let w := islWanted s i
  if i = 0 || x.st == w then s
  else if w == .on then
    (if x.st == .gated || x.st == .off || x.st == .duty then modIsl s i (fun x => { x with st := .waking }) else s)
  else if x.st == .on || x.st == .waking || x.st == .held || x.st == .fenced || x.st == .duty || x.st == .gated then
    (if x.st == .on || x.st == .held || x.st == .fenced then fenceIsl i .powerDown s
     else modIsl s i (fun x => { x with st := w, fence := some .powerDown, resetPending := x.resetPending || w == .off,
                                        recoverPending := x.recoverPending || w == .off }))
  else s

/-- Every island toward the present mode's state. -/
def steerIslands (s : State) : State := stopIdlePlls ((List.range 16).foldl (fun s i => steerIsl i s) s)

/-- Restart times still inside ISL_RESTART.WINDOW_S. -/
def recentRestarts (s : State) (x : Island) : List Nat :=
  x.restartTimes.filter (fun t => decide (s.time.uptime < t + s.clock.windowS * 1000000000))

/-- The record of a metering island's restart (R79, Table 5.5). -/
def gapRecord (i : Nat) (s : State) : State :=
  if i = 2 || i = 3 || i = 4 then appendLog (LogRec.plain 0x0204 i 0) s else s

/-- An island fault of an island other than AON and KERB (R79): an Off island only latches it; beyond RESTART_MAX
restarts in the window the island is left Held. -/
def islandFault (i : Nat) (s : State) : State :=
  let x := isl s i
  let s1 := latchIsl i s
  if x.st == .off then modIsl s1 i (fun x => { x with resetPending := true, recoverPending := true })
  else if x.st == .held then s1
  else if x.faulted then s1
  else
    let recent := recentRestarts s x
    let limited := !(i = 2 || i = 3 || i = 4) && decide (s.clock.restartMax ≤ recent.length)
    let s2 := fenceIsl i .reset (modIsl s1 i (fun x => { x with faulted := true }))
    if limited then modIsl s2 i (fun x => { x with st := .held, restartTimes := recent })
    else
      gapRecord i (modIsl s2 i (fun x => { x with restarts := min 15 (x.restarts + 1),
                                                  restartTimes := recent ++ [s.time.uptime] }))

/-- A PLL's consumers go to the bypass clock after a trip: relocked once, or held after a second trip within 1 s (R63). -/
def pllTrip (p : Nat) (s : State) : State :=
  let x := pll s p
  let second := match x.lastTrip with
    | none => false
    | some t => decide (s.time.uptime ≤ t + 1000000000)
  let s1 := setAttn attnClock (modPll p (fun x => { x with lastTrip := some s.time.uptime }) s)
  if second then
    let s2 := modPll p (fun x => { x with held := true, bypass := true, changing := false, locked := false, stair := 15,
                                          bypassHz := dividedClock (bypassSource s) x.target }) s1
    (pllIslands p).foldl (fun s i =>
      let s := modIsl s i (fun x => { x with clockHeld := true })
      if (isl s i).st == .on || (isl s i).st == .duty then islandFault i s else s) s2
  else startRelock p x.target s1

/-- An over-frequency trip (R63). -/
def monTrip (p : Nat) (s : State) : State :=
  if (pll s p).running then
    pllTrip p { s with clock := { s.clock with monTrip := setBitN s.clock.monTrip p true } }
  else s

/-- A loss of lock after LOCKED has risen (R63). -/
def lockLoss (p : Nat) (s : State) : State :=
  if (pll s p).running && (pll s p).locked then
    pllTrip p { s with clock := { s.clock with lockLoss := setBitN s.clock.lockLoss p true } }
  else s

/-- A lock search that has not set LOCKED within 40 µs (R63). -/
def lockSearchTimeout (p : Nat) (s : State) : State :=
  if (pll s p).changing && !(pll s p).locked then
    pllTrip p { s with clock := { s.clock with lockLoss := setBitN s.clock.lockLoss p true } }
  else s

/-- Mark every island except AON and KERB as affected by a loss of REFCLK, or clear the mark. -/
def markRefLost (b : Bool) (s : State) : State :=
  (List.range 14).foldl (fun s k => modIsl s (k + 2) (fun x => { x with refLost := b })) s

/-- Loss of REFCLK (R80). -/
def refclkLoss (s : State) : State :=
  let s1 := { s with clock := { s.clock with refclkEvent := true, refclkLost := true } }
  let s2 := (List.range 5).foldl (fun s p =>
    modPll p (fun x => if x.running then { x with bypass := true, locked := false, changing := false, stair := 15,
                                                  bypassHz := dividedClock 16000000 x.target } else x) s) s1
  setAttn attnClock (markRefLost true (meterRefLoss s2))

/-- REFCLK has run for 10 ms again: each PLL is relocked and the faults it raised clear (R80, R503). -/
def refclkRelock (s : State) : State :=
  if !s.clock.refclkLost || s.pkg.alarms.contains .vddaPll then s
  else
    let s1 := { s with clock := { s.clock with refclkLost := false } }
    meterRefBack <| markRefLost false ((List.range 5).foldl (fun s p => if (pll s p).running then startRelock p (pllTarget s p) s else s) s1)

/-- A fabric initiator's timeout expires (R67): the request ends with ABORT and the target island is latched. -/
def fabricTimeout (initiator target : Nat) (s : State) : State :=
  replyWith .abort 0 (coreAbort initiator (setAttn attnClock (latchIsl target s)))

/-- The 10 ms AON duty tick (R507): channel 63 of SC_0, and in NIGHT the start of a burst of SC_0 and FORECAST. -/
def burstStart (i : Nat) (s : State) : State :=
  if (isl s i).st == .duty then
    let s1 := islReload i (startIslClock i s)
    let r := (isl s1 i).recoverPending
    if (isl s1 i).resetPending then s1
    else releaseSides i r (modIsl s1 i (fun x => { x with fence := none, recoverPending := false }))
  else s

/-- The end of a duty burst fences the island again (R82). -/
def burstEnd (i : Nat) (s : State) : State :=
  if (isl s i).st == .duty && (isl s i).fence.isNone then
    stopIdlePlls (modIsl s i (fun x => { x with fence := some .powerDown, epoch := (x.epoch + 1) % 256, wdog := 0 }))
  else s

/-- The AON duty tick (R507). -/
def dutyTick (s : State) : State :=
  let s1 := { s with clock := { s.clock with dutyTicks := s.clock.dutyTicks + 1 } }
  let s2 := if s.mode.mode == .night then burstStart islFORECAST (burstStart (islSC 0) s1) else s1
  raiseIrq 0 63 s2

/-- The islands an ISL_CTL write may not name: AON, KERB, NIGHT, SC_0, SC_1 (R72). -/
def islCtlBars (s : State) (m : Nat) (release : Bool) : Bool :=
  (setBitsBelow 16 m).any (fun i => i ≤ 4 || islWanted s i == .off || islWanted s i == .gated ||
    (release && (isl s i).st ≠ .held))

/-- ISL_CTL RESTART, HOLD and RELEASE (R72): the status and the state. -/
def islCtl (key m act : Nat) (s : State) : Status × State :=
  if key ≠ 0x3C || islCtlBars s m (act == 3) then (.refused, s)
  else
    let each (f : Nat → State → State) : State := (setBitsBelow 16 m).foldl (fun s i => f i s) s
    match act with
    | 1 => (.ok, each (fun i s => fenceIsl i .reset s))
    | 2 => (.ok, each (fun i s => modIsl (fenceIsl i .reset s) i (fun x => { x with st := .held })))
    | 3 => (.ok, each (fun i s => islOn i (islReload i (startIslClock i s))))
    | _ => (.ok, s)

/-- ISL_STATE (Table 3.7). -/
def islStateWord (s : State) : Word :=
  packWord ((List.range 16).map (fun i => (3 * i, (isl s i).st.code)))

/-- ISL_EPOCH_0 and ISL_EPOCH_1 (Table 3.7). -/
def islEpochWord (s : State) (hi : Bool) : Word :=
  packWord ((List.range 8).map (fun i => (8 * i, (isl s (i + 8 * b2n hi)).epoch)))

/-- ISL_RESTART_CNT (Table 3.7). -/
def islRestartWord (s : State) : Word := packWord ((List.range 16).map (fun i => (4 * i, (isl s i).restarts)))

/-- STATUS_FAULT (Table 2.10). -/
def statusFault (s : State) : Word :=
  packWord [(40, b2n s.mode.kerbCompare), (32, s.mode.faultCause), (16, maskOf (s.isl.toList.map islActive)),
    (0, maskOf (s.isl.toList.map (·.latched)))]

end Sys2Proof.Machine
end

