-- ==== Sys2Proof/Machine/ModeOps.lean ====
section
/-! DEFINITION. Major modes: requests, transitions, SAFESTOP, DORMANT, device reset and bring-up (chapter 2). -/
namespace Sys2Proof.Machine
open Sys2Proof

/-! ### Entering a mode -/

/-- The order of R37: a lower rank prevails. -/
def modeRank : Mode → Nat
  | .safestop => 0 | .recall => 1 | .inspection => 2 | .update => 3 | .service => 4 | .night => 5 | .dormant => 6
  | .bringup => 0

/-- A pending request whose target comes later in R37's order than the mode entered is cancelled. -/
def cancelLater (m : Mode) (s : State) : State :=
  match s.mode.pendingReq with
  | none => s
  | some p =>
    if modeRank m < modeRank p.target then { s with mode := { s.mode with pendingReq := none, reqResult := .refused } } else s

/-- ENTRY_TIME: centre time bits [51:20], 0 until valid. -/
def entryTime (s : State) : Nat := if s.time.centreValid then s.time.centre / 2 ^ 20 % 2 ^ 32 else 0

/-- The PLL_CORE target of a mode: 200 MHz in NIGHT and BRINGUP, TARGET_MHZ elsewhere (R70). -/
def retargetCore (s : State) : State :=
  let t := pllTarget s pllCORE
  if (pll s pllCORE).running && (pll s pllCORE).target ≠ t then startRelock pllCORE t s else s

/-- Start the PLLs a mode runs throughout (Table 2.4). -/
def modePlls (s : State) : State :=
  if s.mode.mode == .night || s.mode.mode == .bringup || s.mode.mode == .dormant then s
  else startPll pllAUDIO (startPll pllCORE s)

/-- Enter a major mode (R33, R37, R38, Table 2.7). -/
def enterMode (m : Mode) (cause : Nat) (s : State) : State :=
  let s1 := cancelLater m s
  let md := { s1.mode with mode := m, prev := s1.mode.mode, entryCause := cause, entryTime := entryTime s,
                           recallPending := m == .inspection && kerbRecall s }
  engineMode m (consentMode m (steerIslands (retargetCore (modePlls (setAttn attnMode { s1 with mode := md })))))

/-! ### SAFESTOP (R52, R53) -/

/-- Take M16 or M4: enter SAFESTOP with its record and its cause. -/
def enterSafestop (cause : Nat) (s : State) : State :=
  let s1 := enterMode .safestop cause s
  appendLog (LogRec.plain 0x0201 cause 0) { s1 with mode := { s1.mode with faultCause := cause } }

/-- A SAFESTOP cause (R52): taken from every mode that has an M16 cell, and ending bring-up from BRINGUP. -/
def safestopCause (cause : Nat) (s : State) : State :=
  match s.mode.mode with
  | .night | .service | .inspection | .recall | .update => enterSafestop cause s
  | .bringup =>
    let s1 := { s with mode := { s.mode with step := 0xE, elapsedFrozen := some ((s.time.uptime - s.mode.bringupStart) / 1000000) } }
    enterSafestop cause s1
  | _ => s

/-! ### Device reset and power -/

/-- The consent state after a reset: NVM content stays, AON's own registers reset, and the open proposals that NVM shows
wait for step 4 (R132). -/
def consentKept (s : State) : ConsentState :=
  let c := s.consent
  { ConsentState.init with
    bMask := c.bMask, windowNvm := c.windowNvm, sealCount := c.sealCount, calTag := c.calTag, floors := c.floors
    keys := c.keys, slot := c.slot, fwVersion := c.fwVersion, boot := c.boot, configImage := c.configImage
    lost := c.lost ++ openProposals s }

/-- What a device reset keeps: NVM, the event log, the RTC, the fused values and the NVM copies of registers (R15, R46,
R57, R471). -/
def deviceReset (cause : Nat) (s : State) : State :=
  let z := State.reset
  { z with
    pending := s.pending
    time := { z.time with uptime := s.time.uptime, rtcSec := s.time.rtcSec, rtcNs := s.time.rtcNs,
                          rtcValid := s.time.rtcValid, rtcOffsetNvm := s.time.rtcOffsetNvm }
    mode := { z.mode with entryCause := cause, cfgNvm := s.mode.cfgNvm, gapOpen := s.mode.gapOpen,
                          bringupStart := s.time.uptime }
    clock := { z.clock with targetMhzNvm := s.clock.targetMhzNvm, familyNvm := s.clock.familyNvm }
    host := { z.host with dieId := s.host.dieId, codeI := s.host.codeI, bootRom := s.host.bootRom }
    log := s.log
    consent := consentKept s
    blv := { z.blv with cfgNvm := s.blv.cfgNvm }
    link := { z.link with roleTag := s.link.roleTag, lineageKept := s.link.lineageKept, freeIdx := s.link.freeIdx }
    meter := { z.meter with lastGap := s.meter.lastGap }
    ldg := { z.ldg with calOffsetNvm := s.ldg.calOffsetNvm, localNvm := s.ldg.localNvm, snapSeq := s.ldg.snapSeq }
    fc := { z.fc with ckptNvm := s.fc.ckptNvm, ckptA := s.fc.ckptA, ckptB := s.fc.ckptB }
    bs := { z.bs with phraseNvm := s.bs.phraseNvm }
    pkg := { z.pkg with alarms := s.pkg.alarms, revA1 := s.pkg.revA1 }
    mem := s.mem.filter (fun c => c.1 < sramBase + sramSize || (nvmBase ≤ c.1 && c.1 < nvmBase + nvmSize))
    ecc := s.ecc.filter (fun a => a < nvmBase + nvmSize) }

/-- Power-on: a reset at which AON's own state is lost as well; Plaza SRAM holds nothing (R57, Table 2.11a). -/
def powerOn (s : State) : State :=
  let r := deviceReset 0x01 s
  { r with
    time := { TimeState.init with rtcOffsetNvm := s.time.rtcOffsetNvm }
    mode := { r.mode with bringupStart := 0 }
    link := { r.link with lineageKept := 0 }
    mem := r.mem.filter (fun c => nvmBase ≤ c.1)
    ecc := r.ecc.filter (fun a => nvmBase ≤ a) }

/-- The DORMANT entry sequence of M5 and M19 (R56, R83, R506): snapshot, record, outputs, islands, clocks, supplies. -/
def enterDormant (cause : Nat) (s : State) : State :=
  let s1 := appendLog (LogRec.plain 0x0202 0 0) (dormantSnapshot (consentMode .dormant s))
  let s2 := cancelLater .dormant s1
  let s3 := engineMode .dormant { s2 with
    mode := { s2.mode with mode := .dormant, prev := s2.mode.mode, entryCause := cause, entryTime := entryTime s, gapOpen := true }
    isl := Vector.ofFn (fun (i : Fin 16) => let x := isl s2 i.val
      if i.val = 0 then x else { x with st := .off, fence := none, resetPending := true, recoverPending := false,
                                        heldPending := x.heldPending || x.st == .held, faulted := false, wdog := 0, latchedBells := [] })
    clock := { s2.clock with pll := s2.clock.pll.map (fun x => { x with running := false, locked := false, changing := false,
                                                                        bypass := false, held := x.held, stair := 15, bypassHz := 0 })
                             kerbOsc := false, refclk := false }
    pkg := { s2.pkg with pwrEn := 0, resetOutN := false, blvRstN := false, phyRefclk := false }
    arc := { s2.arc with queues := [], peek := none, copy := none, action := none }
    mem := s2.mem.filter (fun c => nvmBase ≤ c.1 && c.1 < nvmBase + nvmSize)
    ecc := s2.ecc.filter (fun a => nvmBase ≤ a && a < nvmBase + nvmSize) }
  setAttn attnMode s3

/-! ### Bring-up (R39 to R42, R488) -/

/-- A bring-up starts: cold from M1, warm from M17 and M20, which skips step 1 (R39, R40). -/
def startBringup (warm : Bool) (cause : Nat) (s : State) : State :=
  let s1 := cancelLater .bringup s
  let md := { s1.mode with
    mode := .bringup, prev := s1.mode.mode, entryCause := cause, entryTime := entryTime s, warm := warm
    step := if warm then 2 else 1, failStep := 0, failCode := 0, islandFail := 0, elapsedFrozen := none
    bringupStart := s.time.uptime, nvmCorrected := false, updateFromSafestop := false, recallPending := false }
  engineMode .bringup (consentMode .bringup { s1 with mode := md })

/-- M1: a wake of DORMANT starts a cold bring-up (R41); engine and core blocks start from their reset values (R488). -/
def wakeDormant (s : State) : State :=
  if s.mode.mode == .dormant then
    let s1 := (List.range 13).foldl (fun s k => engineReset (k + 3) s) s
    startBringup false 0x22 s1
  else s

/-! ### Requests (R35, R36, R43) -/

/-- ENTRY_CAUSE of a request by its source (Table 2.8). -/
def requestCause : ReqSource → Nat
  | .hp => 0x10 | .mp => 0x11 | .boulevard => 0x12 | .rtc => 0x21

/-- The exit conditions of SAFESTOP for M17 (R55). -/
def safestopExit (s : State) : Bool :=
  !(s.isl.toList.any islActive) && !(s.isl.toList.any (·.latched)) && !kerbFaultOut s && !s.mode.kerbCompare

/-- How a request to `t` stands in the present mode (Tables 2.2 and 2.3). -/
inductive Cell where
  | diag | waking | busy | refused
  /-- Deferred until its conditions hold. -/
  | deferred
  /-- Taken at once. -/
  | go
  deriving DecidableEq, Repr

/-- The NIGHT entry conditions (R45). -/
def nightReady (s : State) : Bool := carsIdle s && escalatorsStopped s && !voiceSounding s

/-- The conditions of a deferred request for its target in the present mode (Table 2.3). -/
def deferredReady (s : State) (t : Mode) : Bool :=
  match s.mode.mode, t with
  | .service, .night => nightReady s
  | .service, .update => carsParked s
  | .inspection, .update => carsStill s && doorsClosed s
  | _, _ => false

/-- The cell of Table 2.2 with the conditions of Table 2.3. -/
def requestCell (s : State) (t : Mode) : Cell :=
  let go (b : Bool) : Cell := if b then .go else .refused
  if s.mode.mode == .dormant then .waking
  else if s.mode.mode == .bringup then .busy
  else if s.mode.mode == t then .diag
  else match s.mode.mode, t with
    | .night, .dormant => go (!commitBusy s && !voiceSounding s)
    | .night, .service => .go
    | .night, .inspection => .go
    | .night, .recall => .go
    | .night, .safestop => .go
    | .night, .update => go (carsStill s)
    | .service, .night => .deferred
    | .service, .inspection => .go
    | .service, .recall => .go
    | .service, .safestop => .go
    | .service, .update => .deferred
    | .inspection, .service => go (inspectionNormal s || kerbRecall s)
    | .inspection, .recall => go (kerbRecall s)
    | .inspection, .safestop => .go
    | .inspection, .update => .deferred
    | .recall, .service => go (!kerbRecall s)
    | .recall, .safestop => .go
    | .safestop, .dormant => go (!commitBusy s && !s.mode.kerbCompare)
    | .safestop, .bringup => go (safestopExit s)
    | .safestop, .update => go (!s.mode.kerbCompare)
    | .update, .bringup => go (!commitBusy s)
    | .update, .safestop => .go
    | _, _ => .refused

/-- Take a transition of Table 2.2. -/
def takeTransition (t : Mode) (cause : Nat) (s : State) : State :=
  match s.mode.mode, t with
  | _, .dormant => enterDormant cause s
  | _, .bringup => startBringup true cause s
  | _, .safestop => enterSafestop cause s
  | .inspection, .service => if kerbRecall s then enterMode .recall cause s else enterMode .service cause s
  | .safestop, .update =>
    let s1 := enterMode .update cause s
    { s1 with mode := { s1.mode with updateFromSafestop := true } }
  | _, t => enterMode t cause s

/-- Record a request's source and result. -/
def noteReq (src : ReqSource) (r : Status) (s : State) : State :=
  { s with mode := { s.mode with reqSource := src, reqResult := r } }

/-- A request for a mode (R35, R36): its frame status and its effect. -/
def modeRequest (src : ReqSource) (t : Mode) (s : State) : Status × State :=
  match requestCell s t with
  | .waking => (.waking, wakeDormant s)
  | .busy => (.busy, s)
  | .refused => (.refused, noteReq src .refused s)
  | .diag => (.ok, noteReq src .ok { s with mode := { s.mode with pendingReq := none } })
  | .go =>
    let s1 := { s with mode := { s.mode with pendingReq := none } }
    (.ok, takeTransition t (requestCause src) (noteReq src .ok s1))
  | .deferred =>
    if deferredReady s t then
      let s1 := { s with mode := { s.mode with pendingReq := none } }
      (.ok, takeTransition t (requestCause src) (noteReq src .ok s1))
    else (.ok, noteReq src .busy { s with mode := { s.mode with pendingReq := some ⟨t, src⟩ } })

/-- Cancel the pending request (R36, R43). -/
def cancelReq (s : State) : State :=
  match s.mode.pendingReq with
  | none => s
  | some _ => { s with mode := { s.mode with pendingReq := none, reqResult := .refused } }

/-- The pending request's conditions hold: its mode is entered (R36). -/
def deferredEntry (s : State) : State :=
  match s.mode.pendingReq with
  | none => s
  | some p =>
    if deferredReady s p.target then
      let s1 := { s with mode := { s.mode with pendingReq := none, reqResult := .ok } }
      takeTransition p.target (requestCause p.source) s1
    else s

/-- The time limit of the pending request runs out; a NIGHT entry of the schedule has none (R36). -/
def deferredTimeout (s : State) : State :=
  match s.mode.pendingReq with
  | none => s
  | some p => if p.source == .rtc && p.target == .night then s else cancelReq s

/-! ### Wake, recall and the schedule -/

/-- A wake event takes NIGHT to SERVICE by M6 (chapter 2, Transitions). -/
def wakeNight (cause : Nat) (s : State) : State :=
  if s.mode.mode == .night then enterMode .service cause s else s

/-- The Kerb RECALL signal rises (M14, M20, R50). -/
def recallSignal (s : State) : State :=
  match s.mode.mode with
  | .night | .service => enterMode .recall 0x30 s
  | .inspection => { s with mode := { s.mode with recallPending := true } }
  | .update => if commitBusy s then { s with mode := { s.mode with recallAfterCommit := true } } else startBringup true 0x30 s
  | _ => s

/-- The schedule of MODE_CFG acts (R46). -/
def scheduleOn (s : State) : Bool := bit s.mode.cfg 3 && s.time.rtcValid

/-- The RTC reaches NIGHT_START_MIN (M9). -/
def nightStart (s : State) : State :=
  if scheduleOn s && s.mode.mode == .service then (modeRequest .rtc .night s).2 else s

/-- The RTC reaches NIGHT_END_MIN: a wake event, and the end of a NIGHT request the schedule raised (R36). -/
def nightEnd (s : State) : State :=
  if !scheduleOn s then s
  else
    let s1 := match s.mode.pendingReq with
      | some p => if p.source == .rtc && p.target == .night then cancelReq s else s
      | none => s
    wakeNight 0x21 s1

/-! ### Registers -/

/-- STATUS_MODE (Table 2.7). -/
def statusMode (s : State) : Word :=
  let m := s.mode
  packWord [(32, m.entryTime), (24, m.entryCause), (19, b2n m.warm), (18, b2n m.recallPending),
    (16, reqSourceCode m.reqSource), (12, statusCode m.reqResult),
    (9, match m.pendingReq with | some p => p.target.code | none => 0), (8, b2n m.pendingReq.isSome), (4, m.prev.code),
    (0, m.mode.code)]

/-- STATUS_BRINGUP (Table 2.9). -/
def statusBringup (s : State) : Word :=
  let m := s.mode
  let el := m.elapsedFrozen.getD ((s.time.uptime - m.bringupStart) / 1000000)
  packWord [(49, b2n m.nvmCorrected), (48, b2n m.warm), (32, satTo 16 el), (16, m.islandFail), (8, m.failCode),
    (4, m.failStep), (0, m.step)]

/-- MODE_CFG as kept: minutes clamped, reserved bits 0 (Table 2.11, R45). -/
def modeCfgWord (w : Word) : Word :=
  packWord [(32, min 1439 (bits w 42 32)), (16, min 1439 (bits w 26 16)), (3, bits w 3 3), (0, bits w 2 0)]

/-- MODE_LIMITS as kept (Table 2.11, R45). -/
def modeLimitsWord (w : Word) : Word :=
  packWord [(32, max 60 (bits w 47 32)), (16, clampNat 10 600 (bits w 31 16)), (0, bits w 15 0)]

/-- Read the mode control block. -/
def modeRead (o : Nat) (s : State) : Option Word :=
  if o = 0 then some s.mode.cfg else if o = 8 then some s.mode.limits else none

/-- Write the mode control block. -/
def modeWrite (o : Nat) (w : Word) (s : State) : State :=
  if o = 0 then { s with mode := { s.mode with cfg := modeCfgWord w, cfgNvm := modeCfgWord w } }
  else if o = 8 then { s with mode := { s.mode with limits := modeLimitsWord w } }
  else s

/-! ### The RTC (R46) -/

/-- RTC_TIME (Table 2.11a). -/
def rtcTimeWord (s : State) : Word :=
  packWord [(32, s.time.rtcSec % 2 ^ 32), (31, b2n s.time.rtcValid), (0, s.time.rtcNs * 32768 / 1000000000)]

/-- A committed RTC_TIME write. -/
def rtcWrite (sec : Nat) (s : State) : State :=
  { s with time := { s.time with rtcSec := sec % 2 ^ 32, rtcNs := 0, rtcValid := true } }

/-- A committed RTC_LOCAL write: OFFSET_MIN clamped to ±840. -/
def rtcLocalWrite (w : Word) (s : State) : State :=
  let o := clampInt (-840) 840 (sbits w 15 0)
  { s with time := { s.time with rtcOffset := o, rtcOffsetNvm := o } }

end Sys2Proof.Machine
end

