-- ==== Sys2Proof/Machine/HostGate.lean ====
section
/-! DEFINITION. What a register write over the HP or MP meets in each major mode (R41, R42, R54, Table 19.2). -/
namespace Sys2Proof.Machine
open Sys2Proof

/-- The recovery registers, which alone a host may write in SAFESTOP (R54, Table 19.2). -/
def recoveryReg (o : Nat) : Bool :=
  [0x050, 0x080, 0x088, 0x090, 0x100, 0x110, 0x120, 0x130, 0x398].contains o || (0x300 ≤ o && o < 0x380)

/-- The status with which a mode turns a host write away, if it does (Table 19.2). -/
def hostBar (s : State) (o : Nat) : Option Status :=
  match s.mode.mode with
  | .dormant => some .waking
  | .bringup => if 0x080 ≤ o && o < 0x800 then some .busy else none
  | .safestop => if recoveryReg o then none else some .refused
  | _ => none

/-- Record the status of a host word. -/
def hostStatus (st : Status) (s : State) : State := { s with host := { s.host with status := st } }

/-- A host write of register `o`: turned away by its mode, waking a DORMANT device, or acting by `f` (R41, R42, R54). -/
def hostWrite (o : Nat) (f : State → Status × State) (s : State) : State :=
  match hostBar s o with
  | some .waking => wakeDormant (hostStatus .waking s)
  | some b => hostStatus b s
  | none => let r := f s; hostStatus r.1 r.2

/-- A host write that always ends with OK. -/
def hostWriteOk (o : Nat) (f : State → State) (s : State) : State := hostWrite o (fun s => (.ok, f s)) s

end Sys2Proof.Machine
end

