-- ==== Sys2Proof/Machine/Arcade.lean ====
section
/-! DEFINITION. Meanings of the Arcade commands (chapter 6). -/
namespace Sys2Proof.Machine
open Sys2Proof

/-- Record a port operation's reply. -/
def portReply (r : PortReply) (s : State) : State := { s with arc := { s.arc with reply := r } }

/-- A write operation of a port: its outcome is the reply status (R140). -/
def portWrite (r : Status × State) : State := portReply ⟨r.1, 0⟩ r.2

/-- The queue a load action names: Q_SEL for the host, the island's ARC_SEL for firmware (R481). -/
def loadTarget (src : LoadSrc) (s : State) : Nat :=
  match src with
  | .host => s.arc.qSel
  | .island i => vget s.arc.arcSel i.val 0

/-- Issue a load action through Q_RELOAD or ARC_RELOAD (R147, R481). -/
def loadVia (src : LoadSrc) (act : LoadAction) (s : State) : State :=
  match src with
  | .host => hostWrite 0x258 (issueAction (loadTarget src s) act true) s
  | .island _ => portWrite (issueAction (loadTarget src s) act false s)

/-- RESERVE (R140). -/
def execReserve (q : Fin 16384) (s : State) : Host.Outcome State Fault Refusal :=
  .next (portReply (qReserve q.val s).1 (qReserve q.val s).2)

/-- PUBLISH (R142). -/
def execPublish (q : Fin 16384) (n : BitVec 16) (s : State) : Host.Outcome State Fault Refusal :=
  .next (portWrite (qPublish q.val n.toNat s))

/-- ENQUEUE (R140). -/
def execEnqueue (q : Fin 16384) (w : Word) (s : State) : Host.Outcome State Fault Refusal :=
  .next (portWrite (qEnqueue q.val (leBytes 8 w.toNat) s))

/-- DEQUEUE (R145). -/
def execDequeue (q : Fin 16384) (s : State) : Host.Outcome State Fault Refusal :=
  .next (portReply (qDequeue q.val s).1 (qDequeue q.val s).2.2)

/-- ACK (R140). -/
def execAck (q : Fin 16384) (n : BitVec 16) (s : State) : Host.Outcome State Fault Refusal :=
  .next (portWrite (qAck q.val n.toNat s))

/-- ARM (R144). -/
def execArm (q : Fin 16384) (cons prod : Bool) (s : State) : Host.Outcome State Fault Refusal :=
  .next (portWrite (qArm q.val cons prod s))

/-- STATUS (R140). -/
def execStatus (q : Fin 16384) (s : State) : Host.Outcome State Fault Refusal := .next (portReply (qStatus q.val s) s)

/-- HOST_ENQUEUE (R149). -/
def execHostEnqueue (s : State) : Host.Outcome State Fault Refusal := .next (hostWrite 0x208 hostEnqueue s)

/-- HOST_ENQUEUE_COPY_COMPLETE (R149). -/
def execHostEnqueueCopyComplete (s : State) : Host.Outcome State Fault Refusal := .next (hostCopyDone s)

/-- TAKE (R149). -/
def execTake (arg : BitVec 16) (s : State) : Host.Outcome State Fault Refusal :=
  .next (hostWrite 0x208 (hostTake arg.toNat) s)

/-- HOST_ACK (R149). -/
def execHostAck (n : BitVec 16) (s : State) : Host.Outcome State Fault Refusal :=
  .next (hostWrite 0x208 (hostAck n.toNat) s)

/-- TAKE_ACK (R149). -/
def execTakeAck (arg : BitVec 16) (s : State) : Host.Outcome State Fault Refusal :=
  .next (hostWrite 0x208 (hostTakeAck arg.toNat) s)

/-- ARM_CONSUMER (R149). -/
def execArmConsumer (s : State) : Host.Outcome State Fault Refusal := .next (hostWrite 0x208 (hostArm true) s)

/-- ARM_PRODUCER (R149). -/
def execArmProducer (s : State) : Host.Outcome State Fault Refusal := .next (hostWrite 0x208 (hostArm false) s)

/-- Q_SEL_WRITE (R148). -/
def execQSelWrite (w : Word) (s : State) : Host.Outcome State Fault Refusal :=
  .next (hostWriteOk 0x200 (qSelWrite w) s)

/-- Q_PEEK_FILL (R148): a held entry does not change. -/
def execQPeekFill (s : State) : Host.Outcome State Fault Refusal :=
  .next (if s.arc.peek.isSome then s else peekFill s)

/-- LOAD (R147). -/
def execLoad (src : LoadSrc) (s : State) : Host.Outcome State Fault Refusal := .next (loadVia src .load s)

/-- CONFIG (R147). -/
def execConfig (src : LoadSrc) (s : State) : Host.Outcome State Fault Refusal := .next (loadVia src .config s)

/-- REINIT (R147). -/
def execReinit (src : LoadSrc) (s : State) : Host.Outcome State Fault Refusal := .next (loadVia src .reinit s)

/-- QUEUE_DISABLE (R147). -/
def execQueueDisable (src : LoadSrc) (s : State) : Host.Outcome State Fault Refusal := .next (loadVia src .disable s)

/-- REWIND (R147). -/
def execRewind (src : LoadSrc) (s : State) : Host.Outcome State Fault Refusal := .next (loadVia src .rewind s)

/-- CLEAR_STATS (R147). -/
def execClearStats (src : LoadSrc) (s : State) : Host.Outcome State Fault Refusal := .next (loadVia src .clearStats s)

/-- LOAD_ACTION_COMPLETE (R147). -/
def execLoadActionComplete (s : State) : Host.Outcome State Fault Refusal := .next (endAction s)

/-- QUARANTINE (R152). -/
def execQuarantine (q : Fin 16384) (s : State) : Host.Outcome State Fault Refusal := .next (quarantineQ q.val s)


end Sys2Proof.Machine
end

