-- ==== Sys2Proof/Machine/Bandstand.lean ====
section
/-! DEFINITION. Meanings of the Bandstand commands (chapter 15). -/
namespace Sys2Proof.Machine
open Sys2Proof

/-- A block; in NIGHT, AUDIO and cores 2–3 power off when no voice is left (Table 2.4). -/
def audioTurn (n : Nat) (align : Int) (paging : List (List Int)) (feeds : List (Nat × Option (List Byte))) (miss : List Nat) (s : State) : State :=
  let s1 := audioBlock n align paging feeds miss s
  if s.bs.woken && !s1.bs.woken then steerIslands s1 else s1

/-- Bandstand takes requests: AUDIO runs. -/
def onAudio (f : State → State) (s : State) : State := if islRuns s islAUDIO then f s else s

/-- AUDIO_BLOCK (R369): the number of the block's first sample, the grid's error, the paging input, the phrase bytes that came for each voice (none: a flash read error), and the cores whose partial is late. -/
def execAudioBlock (first : Nat) (alignNs : Int) (paging : List (List Int)) (feeds : List (Nat × Option (List Byte))) (missed : List Nat) (s : State) : Host.Outcome State Fault Refusal :=
  .next (audioTurn first alignNs paging feeds missed s)

/-- KERB_CUE_ENTRY (R385). -/
def execKerbCueEntry (s : State) : Host.Outcome State Fault Refusal := .next (onAudio kerbCueEntry s)

/-- LIFT_CUE (R368). -/
def execLiftCue (s : State) : Host.Outcome State Fault Refusal := .next (onAudio liftCueEntry s)

/-- START (R386). -/
def execStart (kind prio : Fin 256) (id : BitVec 16) (note vel : Fin 256) (zones hold : BitVec 16) (excl : Bool) (t req : BitVec 64) (s : State) : Host.Outcome State Fault Refusal :=
  .next (onAudio (cmdStart kind.val prio.val id.toNat note.val vel.val zones.toNat hold.toNat excl t.toNat req.toNat) s)

/-- RELEASE (R386). -/
def execRelease (handle : BitVec 32) (req : BitVec 64) (s : State) : Host.Outcome State Fault Refusal :=
  .next (onAudio (cmdRelease handle.toNat req.toNat) s)

/-- KILL (R386). -/
def execKill (handle : BitVec 32) (req : BitVec 64) (s : State) : Host.Outcome State Fault Refusal :=
  .next (onAudio (cmdKill handle.toNat req.toNat) s)

/-- BS_CUE (R386). -/
def execBsCue (prio : Fin 256) (cue : BitVec 16) (car : Fin 256) (t req : BitVec 64) (s : State) : Host.Outcome State Fault Refusal :=
  .next (onAudio (cmdCue prio.val cue.toNat car.val t.toNat req.toNat) s)

/-- SET_P (R386). -/
def execSetP (handle : BitVec 32) (p0 p1 : BitVec 16) (req : BitVec 64) (s : State) : Host.Outcome State Fault Refusal :=
  .next (onAudio (cmdSetP handle.toNat p0.toInt p1.toInt req.toNat) s)

/-- AUDIO_CUE (R368): a message's source and SEQ, and the fields it carries. -/
def execAudioCue (node : Fin 256) (seq : BitVec 16) (cue : BitVec 16) (car prio : Fin 256) (t : BitVec 64) (s : State) : Host.Outcome State Fault Refusal :=
  .next (onAudio (fun s => cueEntry (tget s.bs.seenNode node.val) 0 seq.toNat cue.toNat car.val (some (t.toNat - 1000000 * bsN s (0x10000 + 16 * cue.toNat + 14) 2)) (prio.val == 7) false (.node node.val seq.toNat) s) s)

/-- NOTE_ON (R387). -/
def execNoteOn (ch : Fin 16) (note vel : Fin 128) (s : State) : Host.Outcome State Fault Refusal :=
  .next (onAudio (noteOn ch.val note.val vel.val) s)

/-- NOTE_OFF (R387). -/
def execNoteOff (ch : Fin 16) (note : Fin 128) (s : State) : Host.Outcome State Fault Refusal :=
  .next (onAudio (noteOff ch.val note.val) s)

/-- CONTROL_CHANGE (R387). -/
def execControlChange (ch : Fin 16) (cc v : Fin 128) (s : State) : Host.Outcome State Fault Refusal :=
  .next (onAudio (controlChange ch.val cc.val v.val) s)

/-- PROGRAM_CHANGE (R387). -/
def execProgramChange (ch : Fin 16) (program : Fin 128) (s : State) : Host.Outcome State Fault Refusal :=
  .next (onAudio (modMidi ch.val (fun m => { m with program := program.val })) s)

/-- CHANNEL_PRESSURE (R387). -/
def execChannelPressure (ch : Fin 16) (v : Fin 128) (s : State) : Host.Outcome State Fault Refusal :=
  .next (onAudio (modMidi ch.val (fun m => { m with pressure := v.val })) s)

/-- PITCH_BEND (R387). -/
def execPitchBend (ch : Fin 16) (v : Fin 16384) (s : State) : Host.Outcome State Fault Refusal :=
  .next (onAudio (modMidi ch.val (fun m => { m with bend := (v.val : Int) - 8192 })) s)

/-- ACTIVE_SENSING (R387). -/
def execActiveSensing (s : State) : Host.Outcome State Fault Refusal :=
  .next (onAudio (modBs (fun b => { b with sensing := true })) s)

/-- MIDI_SENSING_TIMEOUT (R387). -/
def execMidiSensingTimeout (s : State) : Host.Outcome State Fault Refusal := .next (onAudio sensingTimeout s)

/-- P7_FIFO_TIMEOUT (R379). -/
def execP7FifoTimeout (s : State) : Host.Outcome State Fault Refusal := .next (onAudio p7Timeout s)

/-- BS_APPLY (R388): BS_CTL with ACTION APPLY. -/
def execBsApply (w : Word) (s : State) : Host.Outcome State Fault Refusal :=
  .next (if bits w 2 0 == 1 then onAudio (bsCtl w []) s else s)

/-- WT_INVALIDATE (R390). -/
def execWtInvalidate (w : Word) (s : State) : Host.Outcome State Fault Refusal :=
  .next (if bits w 2 0 == 2 then onAudio (bsCtl w []) s else s)

/-- STOP_ALL (R386). -/
def execStopAll (w : Word) (s : State) : Host.Outcome State Fault Refusal :=
  .next (if bits w 2 0 == 3 then onAudio (bsCtl w []) s else s)

/-- PHRASE_RELOAD (R389): with the phrase directory's bytes in flash. -/
def execPhraseReload (w : Word) (dir : List Byte) (s : State) : Host.Outcome State Fault Refusal :=
  .next (if bits w 2 0 == 4 then onAudio (bsCtl w dir) s else s)

/-- PHRASE_RELOAD_DEFERRED (R389). -/
def execPhraseReloadDeferred (dir : List Byte) (s : State) : Host.Outcome State Fault Refusal :=
  .next (onAudio (phraseDeferred dir) s)

end Sys2Proof.Machine
end

