-- ==== Sys2Proof/Machine/Boulevard.lean ====
section
/-! DEFINITION. Meanings of the Boulevard commands (chapter 18). -/
namespace Sys2Proof.Machine
open Sys2Proof

/-- MARKER_EMIT (R446). -/
def execMarkerEmit (s : State) : Host.Outcome State Fault Refusal := .next (markerEmit s)

/-- MARKER_RECEIVE (R449, R450, R453). -/
def execMarkerReceive (r : Ring) (m : Marker) (residence16 : Nat) (s : State) : Host.Outcome State Fault Refusal :=
  .next (markerReceive r m residence16 s)

/-- KERB_FRAME_INSERT (R446, R459). -/
def execKerbFrameInsert (s : State) : Host.Outcome State Fault Refusal := .next (kerbInsert s)

/-- KERB_FRAME_RECEIVE (R459). -/
def execKerbFrameReceive (f : BlvFrame) (pcrcOk : Bool) (s : State) : Host.Outcome State Fault Refusal :=
  .next (kerbReceive f pcrcOk s)

/-- FRAME_ACCEPT (R448, R458). -/
def execFrameAccept (r : Ring) (f : BlvFrame) (firstPass pcrcOk fcsOk : Bool) (s : State) : Host.Outcome State Fault Refusal :=
  .next (frameAccept r f firstPass pcrcOk fcsOk s)

/-- HOP_DELAY_MEASURE (R449). -/
def execHopDelayMeasure (r : Ring) (roundTripPs turnaroundPs : Nat) (s : State) : Host.Outcome State Fault Refusal :=
  .next (hopMeasure r roundTripPs turnaroundPs s)

/-- CONTROL_JOIN (R451). -/
def execControlJoin (m : Member) (s : State) : Host.Outcome State Fault Refusal := .next (controlJoin m s)

/-- MEMBERSHIP_EFFECTIVE (R451 to R453). -/
def execMembershipEffective (members : List Member) (prios : List Nat) (s : State) : Host.Outcome State Fault Refusal :=
  .next (membershipEffective members prios s)

/-- GROUP_DISPATCHER_CHANGE (R452). -/
def execGroupDispatcherChange (s : State) : Host.Outcome State Fault Refusal := .next (groupDispatcherChange s)

/-- TURN (R457). -/
def execTurn (s : State) : Host.Outcome State Fault Refusal := .next (blvTurn s)

/-- FRAME_RETURN (R457). -/
def execFrameReturn (c : BlvClass) (ackStatus : Status) (ackCnt : BitVec 8) (s : State) : Host.Outcome State Fault Refusal :=
  .next (frameReturn c ackStatus ackCnt.toNat s)

/-- BREAK_DETECT (R460, R462). -/
def execBreakDetect (portQ : Bool) (s : State) : Host.Outcome State Fault Refusal := .next (breakDetect portQ s)

/-- BREAK_RECEIVE (R460): a BREAK received, the same on either ring; the frame itself is forwarded as every frame is. -/
def execBreakReceive (_r : Ring) (s : State) : Host.Outcome State Fault Refusal := .next (breakReceive s)

/-- UNWRAP (R461). -/
def execUnwrap (s : State) : Host.Outcome State Fault Refusal := .next (unwrap s)

/-- BLV_APPLY (R463). -/
def execBlvApply (s : State) : Host.Outcome State Fault Refusal := .next (blvApply s)

/-- BLV_LEAVE (Table 18.7). -/
def execBlvLeave (s : State) : Host.Outcome State Fault Refusal := .next (blvLeave s)

/-- BLV_JOIN (R451). -/
def execBlvJoin (s : State) : Host.Outcome State Fault Refusal := .next (blvJoin s)

/-- BLV_CONFIRM (R455). -/
def execBlvConfirm (target : BitVec 8) (s : State) : Host.Outcome State Fault Refusal :=
  .next (blvConfirm target.toNat s)

/-- WARDEN_REPLY_RECEIVE (R455): only the reply of the target the WARDEN waits for is shown. -/
def execWardenReplyReceive (src : BitVec 8) (status : Status) (reason : BitVec 4) (s : State) : Host.Outcome State Fault Refusal :=
  .next (if s.link.confirmPending && s.link.confirmTarget == src.toNat then wardenReply status reason.toNat s else s)

/-- METER_ROLLUP_SEND (R456). -/
def execMeterRollupSend (s : State) : Host.Outcome State Fault Refusal := .next (rollupSend s)

/-- METER_ROLLUP_RECEIVE (R456). -/
def execMeterRollupReceive (src : BitVec 8) (payload : List Byte) (s : State) : Host.Outcome State Fault Refusal :=
  .next (if selfRole s true then rollupStore src.toNat payload s else s)

/-- TIME_VALID_LOSS (R450). -/
def execTimeValidLoss (s : State) : Host.Outcome State Fault Refusal := .next (timeValidLoss s)


end Sys2Proof.Machine
end

