-- ==== Sys2Proof/Machine/Fabric.lean ====
section
/-! DEFINITION. The Crossroads fabric: the Plaza space map, its write classes, ECC and the dispatch of reads and writes to blocks
(chapter 19, R64, R100, R474 to R486). -/
namespace Sys2Proof.Machine
open Sys2Proof

/-! ### The map (Tables 19.3 to 19.6) -/

/-- Where a Plaza address lies. -/
inductive Place where
  /-- Plaza SRAM, by offset. -/
  | sram (o : Nat)
  /-- NVM, by offset. -/
  | nvm (o : Nat)
  /-- Engine block, by its index in Table 19.6 and offset. -/
  | block (b o : Nat)
  /-- Core block, by core and offset. -/
  | core (n o : Nat)
  | unmapped
  deriving DecidableEq, Repr

/-- NVM offsets Table 19.5 lists; the others are unmapped (R477). -/
def nvmMapped (o : Nat) : Bool :=
  let within (b n : Nat) : Bool := decide (b ≤ o) && decide (o < b + n)
  within 0 0x1000 || within 0x1000 128 || within 0x1100 144 || within 0x1200 320 || within 0x1400 32 || within 0x2000 0x1000 ||
  within 0x4000 0x2000 || within 0x10000 0x10000 || within 0x20000 0x8800 || within 0x40000 0x80000 || within 0xC0000 524352 ||
  within 0x141000 524352 || within 0x1C2000 524352 || within 0x243000 524352 || within 0x300000 0x100000

/-- The place of an address (Table 19.3). -/
def placeOf (a : Nat) : Place :=
  if sramBase ≤ a && a < sramBase + sramSize then .sram (a - sramBase)
  else if nvmBase ≤ a && a < nvmBase + nvmSize then (if nvmMapped (a - nvmBase) then .nvm (a - nvmBase) else .unmapped)
  else if blockBase 0 ≤ a && a < blockBase 14 then .block ((a - blockBase 0) / 0x100000) ((a - blockBase 0) % 0x100000)
  else if coreBase 0 ≤ a && a < coreBase 8 then .core ((a - coreBase 0) / 0x100000) ((a - coreBase 0) % 0x100000)
  else .unmapped

/-- Owner islands of the engine blocks (Table 19.6). -/
def blockOwner (b : Nat) : Nat :=
  [islAON, islAON, islAON, islAON, islKERB, islNIGHT, islNIGHT, islMOTION, islMOTION, islMOTION, islAUDIO, islFORECAST, islIO,
    islLINK].getD b islAON

/-- The island that owns a place; none for the fabric's own SRAM. -/
def placeOwner : Place → Option Nat
  | .sram _ => none
  | .nvm _ => some islNIGHT
  | .block b _ => some (blockOwner b)
  | .core n _ => some (islSC n)
  | .unmapped => none

/-- The owner serves requests: On, or Gated or in Duty on a clock enable; Off answers as fenced (R64, R486). -/
def placeServed (s : State) (p : Place) : Bool :=
  match placeOwner p with
  | none => true
  | some i => let st := (isl s i).st; st == .on || st == .gated || st == .duty

/-- A core block's memory offset (R479). -/
def coreMemOfs (o : Nat) : Bool := decide (o < 0xA0000)

/-- A place is memory with ECC: SRAM, NVM or a core memory (R485). -/
def placeMem : Place → Bool
  | .sram _ => true
  | .nvm _ => true
  | .core _ o => coreMemOfs o
  | _ => false

/-- Offsets of a block's tables held as memory, and the block's index (the engine chapters' Configuration sections, R478). -/
def tableOfs (b o : Nat) : Bool :=
  let within (lo hi : Nat) : Bool := decide (lo ≤ o) && decide (o < hi)
  match b with
  | 6 => within 0x1000 0x1800 || within 0x2000 0x3F40 || within 0x4000 0x6000 || within 0x8000 0x28000
  | 7 => within 0x1000 0x1C00 || within 0x2000 0xA800
  | 8 => within 0x1000 0x1C00 || within 0x2000 0x2700 || within 0x4000 0xC100
  | 9 => within 0x1000 0x1800 || within 0x2000 0x12000
  | 10 => within 0x1000 0x1100 || within 0x1200 0x1280 || within 0x1300 0x1310 || within 0x1400 0x1440 || within 0x10000 0x31000 ||
      within 0x40000 0x42000
  | 11 => within 0x1000 0x1400 || within 0x10000 0x60000
  | 12 => within 0x1000 0x1400
  | 13 => within 0x100 0x500
  | _ => false

/-! ### Write classes (R160, R475) -/

/-- What a region does with a write from an initiator. -/
inductive WriteClass where
  /-- The write reaches the region: Open and Device regions. -/
  | serve
  /-- A Scoped region drops the write. -/
  | scoped
  /-- A Read-only region drops the write. -/
  | readOnly
  deriving DecidableEq, Repr

/-- The initiator is a Signal Core. -/
def Initiator.isCore : Initiator → Bool
  | .island i => decide (islSC 0 ≤ i.val) && decide (i.val ≤ islSC 7)
  | _ => false

/-- A consent-scoped or engine-scoped place and the writers it serves; none where the place is not Scoped (Tables 19.4 to 19.6,
R479). -/
def scopedWriters (p : Place) : Option (Initiator → Bool) :=
  match p with
  | .sram o =>
    if 0x520000 ≤ o && o < 0x800000 then some (fun i => i == .imageLoader)
    else if (0x1000000 ≤ o && o < 0x1200000) || (0x1600000 ≤ o && o < 0x1800000) then some (fun i => i == .island 11)
    else none
  | .nvm o =>
    if o < 0x20000 then some (fun i => i == .consentController)
    else if 0x300000 ≤ o then some (fun i => i == .logWriter)
    else none
  | .block b _ => if b = 1 then some Initiator.isCore else none
  | .core n o => if n < 2 && coreMemOfs o then some (fun i => i == .imageLoader || i == .decimation) else none
  | .unmapped => none

/-- The class of a place for an initiator. -/
def writeClass (p : Place) (i : Initiator) : WriteClass :=
  match p with
  | .block 4 _ => .readOnly
  | .block 5 _ => .readOnly
  | _ => match scopedWriters p with
    | some f => if f i then .serve else .scoped
    | none => .serve

/-- A place lies in a Scoped region (R98, R475). -/
def placeScoped (p : Place) : Bool := (scopedWriters p).isSome

/-- A dropped write is counted where the region's chapter names a counter (R160, R416). -/
def countDrop (p : Place) (s : State) : State :=
  match p with
  | .core n _ => dropWrite n s
  | .sram o => if 0x1000000 ≤ o then fcDropWrite s else s
  | _ => s

/-! ### Arcade over the fabric (Table 6.3, R481) -/

/-- Which copy of ARC_SEL an initiator reaches: a window acts for AON. -/
def selIndex : Initiator → Nat
  | .island i => i.val
  | _ => 0

/-- A read of the port aperture. -/
def apertureRead (o : Nat) (s : State) : PortReply × State :=
  let q := o / 64
  match o % 64 with
  | 0x00 => qReserve q s
  | 0x18 => let r := qDequeue q s; (r.1, r.2.2)
  | 0x30 => (qStatus q s, s)
  | _ => (⟨.ok, 0⟩, s)

/-- A write of the port aperture. -/
def apertureWrite (o : Nat) (w : Word) (s : State) : Status × State :=
  let q := o / 64
  match o % 64 with
  | 0x08 => qPublish q (bits w 15 0) s
  | 0x10 => qEnqueue q (leBytes 8 w.toNat) s
  | 0x20 => qAck q (bits w 15 0) s
  | 0x28 => qArm q (bit w 0) (bit w 1) s
  | _ => (.ok, s)

/-- Action codes of Table 6.5. -/
def loadActionOf : Nat → Option LoadAction
  | 1 => some .load
  | 2 => some .config
  | 3 => some .reinit
  | 4 => some .disable
  | 5 => some .rewind
  | 6 => some .clearStats
  | _ => none

/-- A write of Q_RELOAD or ARC_RELOAD: a wrong KEY or ACTION performs nothing, reads REFUSED and, from ARC_RELOAD, posts a
RELOAD_FAIL notice (R147). -/
def reloadWrite (qid : Nat) (byHost : Bool) (w : Word) (s : State) : Status × State :=
  match (if bits w 63 56 = 0x6B then loadActionOf (bits w 2 0) else none) with
  | some a => issueAction qid a byHost s
  | none =>
    let s1 := { s with arc := { s.arc with reloadResult := .refused } }
    (.refused, if byHost then s1 else postNotice 4 0 qid s1)

/-- A read of the Arcade control block. -/
def arcCtlRead (i : Initiator) (o : Nat) (s : State) : Word :=
  if o = 8 then BitVec.ofNat 64 (vget s.arc.arcSel (selIndex i) 0) else 0

/-- A write of the Arcade control block. -/
def arcCtlWrite (i : Initiator) (o : Nat) (w : Word) (s : State) : State :=
  if o = 0 then (reloadWrite (vget s.arc.arcSel (selIndex i) 0) false w s).2
  else if o = 8 then { s with arc := { s.arc with arcSel := vput s.arc.arcSel (selIndex i) (bits w 13 0) } }
  else s

/-! ### Engine blocks (Table 19.6) -/

/-- A register of an engine block: its value, or none where the offset is no register. -/
def blockReg (b o : Nat) (s : State) : Option Word :=
  match b with
  | 0 => modeRead o s
  | 1 => if o < 0x80 then some (consentRead o s) else none
  | 4 => if o ≤ 0xA0 then some (kerbRead (0x400 + o) s) else none
  | 5 => meterRead o s
  | 6 => ldgRead o s
  | 7 => liftRead o s
  | 8 => motRead o s
  | 9 => ddRead o s
  | 10 => bsRead o s
  | 11 => fcRead o s
  | 12 => pwmRead o s
  | 13 => blvRead o s
  | _ => none

/-- What a fabric read of a register clears; the aliases of host registers clear nothing (R480, R482). -/
def blockReadEffect (b o : Nat) (s : State) : State :=
  match b with
  | 6 => ldgReadEffect o s
  | 10 => bsReadEffect o s
  | 11 => fcReadEffect o s
  | 12 => pwmReadEffect o s
  | 13 => blvReadEffect o s
  | _ => s

/-- A fabric read of an engine block; an undefined offset reads 0 (R478). -/
def blockRead (i : Initiator) (b o : Nat) (s : State) : PortReply × State :=
  if b = 3 then apertureRead o s
  else if b = 2 then (⟨.ok, arcCtlRead i o s⟩, s)
  else match blockReg b o s with
    | some w => (⟨.ok, w⟩, blockReadEffect b o s)
    | none => (⟨.ok, if tableOfs b o then s.mem.readW (blockBase b + o) else 0⟩, s)

/-- A whole-word write of a register of an engine block. -/
def blockRegWrite (i : Initiator) (b o : Nat) (w : Word) (s : State) : Status × State :=
  match b with
  | 0 => (.ok, modeWrite o w s)
  | 1 => if o < 0x80 then consentWrite .fw o w s else (.ok, s)
  | 2 => (.ok, arcCtlWrite i o w s)
  | 3 => apertureWrite o w s
  | 6 => (.ok, ldgWrite o w s)
  | 7 => (.ok, liftWrite o w s)
  | 8 => (.ok, motWrite o w s)
  | 9 => (.ok, ddWrite o w s)
  | 10 => (.ok, bsWrite o w s)
  | 11 => (.ok, fcWrite o w s)
  | 12 => (.ok, pwmWrite o w s)
  | 13 => (.ok, blvWrite o w s)
  | _ => (.ok, s)

/-! ### Words and strobes -/

/-- `new` in the bytes whose strobe bit is set, `old` elsewhere. -/
def mergeWord (strobe : Nat) (old new : Word) : Word :=
  packWord ((List.range 8).map (fun i => (8 * i, if strobe.testBit i then bits new (8 * i + 7) (8 * i) else bits old (8 * i + 7) (8 * i))))

/-- A write to a word of memory: a whole word replaces data and check bits; a partial write to a word that holds an uncorrectable
error ends with ABORT and leaves it (R485). -/
def memWrite (a strobe : Nat) (w : Word) (s : State) : Status × State :=
  if strobe % 256 = 255 then (.ok, { s with mem := s.mem.writeW a w, ecc := s.ecc.filter (fun x => x ≠ a) })
  else if s.ecc.contains a then (.abort, s)
  else (.ok, { s with mem := s.mem.writeW a (mergeWord strobe (s.mem.readW a) w) })

/-! ### Reads and writes -/

/-- A fabric read of the 64-bit word at an address. -/
def fabRead (i : Initiator) (addr : Nat) (s : State) : PortReply × State :=
  let a := addr / 8 * 8
  let p := placeOf a
  if !placeServed s p then (⟨.retry, 0⟩, s)
  else if placeMem p then
    (match p with
      | .sram o => if (0x395000 ≤ o && o < 0x3A0000) then (⟨.ok, 0⟩, s) else if s.ecc.contains a then (⟨.abort, 0⟩, s) else (⟨.ok, s.mem.readW a⟩, s)
      | .nvm o => if o < 0x1000 then (⟨.ok, 0⟩, s) else if s.ecc.contains a then (⟨.abort, 0⟩, s) else (⟨.ok, s.mem.readW a⟩, s)
      | _ => if s.ecc.contains a then (⟨.abort, 0⟩, s) else (⟨.ok, s.mem.readW a⟩, s))
  else match p with
    | .block b o => blockRead i b o s
    | .core n o => if 0xF0000 ≤ o then (⟨.ok, coreRegRead s n (o - 0xF0000)⟩, coreRegReadEffect n (o - 0xF0000) s) else (⟨.ok, 0⟩, s)
    | _ => (⟨.ok, 0⟩, s)

/-- A write that its region serves. -/
def servedWrite (i : Initiator) (p : Place) (a strobe : Nat) (w : Word) (s : State) : Status × State :=
  match p with
  | .sram _ =>
    if lockedAt s a then (.ok, { s with consent := { s.consent with lockHit := true } }) else memWrite a strobe w s
  | .nvm _ => memWrite a strobe w s
  | .block b o =>
    if tableOfs b o then memWrite a strobe w s
    else
      let v := if strobe % 256 = 255 then w else mergeWord strobe ((blockReg b o s).getD 0) w
      blockRegWrite i b o v s
  | .core n o =>
    if coreMemOfs o then memWrite a strobe w s
    else if 0xF0000 ≤ o then
      (.ok, coreRegWrite n (o - 0xF0000) (if strobe % 256 = 255 then w else mergeWord strobe (coreRegRead s n (o - 0xF0000)) w) s)
    else (.ok, s)
  | .unmapped => (.ok, s)

/-- A fabric write of bytes of the 64-bit word at an address, by its region's class (R475). -/
def fabWrite (i : Initiator) (addr strobe : Nat) (w : Word) (s : State) : Status × State :=
  let a := addr / 8 * 8
  let p := placeOf a
  if !placeServed s p then (.retry, s)
  else match writeClass p i with
    | .readOnly => (.ok, s)
    | .scoped => if i == .window then (.refused, s) else (.ok, countDrop p s)
    | .serve => servedWrite i p a strobe w s

/-- What the ECC of a word shows at a read (R485): an uncorrectable error stays in the word; a correctable one is counted for core
memories only. -/
def eccNote (e : EccEvent) (addr : Nat) (s : State) : State :=
  let a := addr / 8 * 8
  if !placeMem (placeOf a) then s
  else match e with
    | .clean => s
    | .correctable =>
      (match placeOf a with
        | .core n _ => if s.ecc.contains a then s else modCore n (fun k => { k with eccCorr := satInc 16 k.eccCorr }) s
        | _ => s)
    | .uncorrectable => { s with ecc := insNat a s.ecc }

end Sys2Proof.Machine
end

