-- ==== Sys2Proof/Machine/Bringup.lean ====
section
/-! DEFINITION. The bring-up steps (R39, R40, R154, R155, R200, R488). -/
namespace Sys2Proof.Machine
open Sys2Proof

/-- The islands a warm bring-up leaves running and untested (R40). -/
def warmKeeps (s : State) (i : Nat) : Bool :=
  s.mode.warm && (i = 0 || ((i = 2 || i = 3 || i = 4) &&
    !([0, 2, 3, 4].any (fun k => islActive (isl s k)))))

/-- Power and start an island for bring-up; one Held before stays Held. -/
def bringIsl (i : Nat) (s : State) : State :=
  if warmKeeps s i || (isl s i).st == .held then s
  else if (isl s i).heldPending then
    modIsl (engineReset i s) i (fun x => { x with st := .held, fence := some .reset, resetPending := false, heldPending := false,
                                                  wdog := 0 })
  else modIsl (engineReset i s) i (fun x => { x with st := .on, fence := none, resetPending := false, heldPending := false,
                                                     recoverPending := true, wdog := 0 })

/-- Step 8's descriptor loads: LOAD on every VALID entry in ascending QID except the notice queue, after the notice queue is
established; a warm bring-up keeps the queues of lanes 0–7 (R154, R155). -/
def loadQueues (s : State) : Bool × State :=
  let keep := if s.mode.warm then s.arc.queues.filter (fun q => q.2.cfg.lane < 8) else []
  let notice := { Queue.blank with cfg := noticeCfg, valid := true, armedC := true }
  let s0 := { s with arc := { s.arc with queues := tput noticeQid notice keep, peek := none, copy := none, action := none } }
  let kept (q : Nat) : Bool := keep.any (fun p => p.1 == q)
  let valids := (s0.mem.filter (fun c => descAddr 0 ≤ c.1 && c.1 < descAddr 0x3FFF && c.1 % 32 == 7 && c.2.getMsbD 0)).map
    (fun c => (c.1 - descAddr 0) / 32)
  valids.foldl (fun (p : Bool × State) q =>
    if kept q then p
    else
      let r := runAction q .load true p.2
      (p.1 && r.1 == .ok, r.2)) (true, s0)

/-- Registers whose reset is NVM take their stored values (R15, R70, R488). -/
def loadNvmRegs (s : State) : State :=
  { s with
    mode := { s.mode with cfg := s.mode.cfgNvm }
    clock := { s.clock with targetMhz := s.clock.targetMhzNvm.getD 800, family := s.clock.familyNvm.getD 0 }
    time := { s.time with rtcOffset := s.time.rtcOffsetNvm } }

/-- The mode of MODE_CFG.BOOT_MODE (Table 2.11). -/
def bootMode (s : State) : Mode :=
  match bits s.mode.cfg 2 0 with
  | 2 => .night | 4 => .inspection | _ => .service

/-- End of bring-up: the record that may end a metering gap, then M3 or M2 (R39, R50, R56, Table 5.5). -/
def bringupDone (s : State) : State :=
  let ends := s.mode.gapOpen || !s.mode.warm
  let s1 := appendLog (LogRec.plain 0x0203 (b2n s.mode.warm + 2 * b2n ends) 0) s
  let s2 := { s1 with mode := { s1.mode with step := 0xF, gapOpen := false, recallRequested := false,
                                             elapsedFrozen := some ((s.time.uptime - s.mode.bringupStart) / 1000000) } }
  if kerbRecall s || s.mode.recallRequested then enterMode .recall 0x30 s2 else enterMode (bootMode s2) 0x40 s2

/-- A step fails: its number and code are kept and SAFESTOP is entered by M4 (R39). -/
def bringupFail (code islands : Nat) (s : State) : State :=
  let bad := if s.mode.step = 6 then islands else s.mode.islandFail
  let s1 := { s with mode := { s.mode with
    failStep := s.mode.step, failCode := code, step := 0xE, islandFail := bad
    elapsedFrozen := some ((s.time.uptime - s.mode.bringupStart) / 1000000) } }
  let hold (i : Nat) (s : State) : State :=
    if i < 2 then s else modIsl s i (fun x => { x with st := .held, fence := some .reset, resetPending := true })
  let s2 := if s.mode.step = 6 then (setBitsBelow 16 islands).foldl (fun s i => hold i s) s1 else s1
  enterSafestop 0x41 s2

/-- A step ends: what it did, and its FAIL_CODE where it fails by what the device itself finds. -/
abbrev StepEnd := Option Nat × State

/-- Step 4: the scrub, the event-log chain, the records of lost proposals, WINDOW_S and the safe codes (Table 2.5, R132, R133,
R444). -/
def step4 (corrected : Bool) (s : State) : StepEnd :=
  let s1 := { s with mode := { s.mode with nvmCorrected := corrected } }
  if trustBad s then (some 0x01, s1)
  else if !logIntact s then (some 0x02, s1)
  else
    let s2 := logLost s1
    (none, engineStep4 { s2 with consent := { s2.consent with windowS := s2.consent.windowNvm, nvmLoaded := true } })

/-- Step 5: the images of the active slot are checked and copied into the image store; a warm bring-up checks those loaded since
a step 5 last passed (R40, R127, R200, R484). -/
def step5 (s : State) : StepEnd :=
  match vget s.consent.boot s.consent.slot none with
  | none => (none, s)
  | some p =>
    if s.mode.warm && !s.consent.unchecked then (none, s)
    else if (firmwareImages s p).isNone then (some 0x03, s)
    else (none, storeImages { s with consent := { s.consent with unchecked := false } })

/-- Start the cores listed whose islands run and are not kept by a warm bring-up (R200). -/
def startCores (l : List Nat) (s : State) : StepEnd :=
  l.foldl (fun (p : StepEnd) n =>
    if warmKeeps p.2 (islSC n) || (isl p.2 (islSC n)).st ≠ .on then p
    else
      let r := coreStart n p.2
      (if r.1 then p.1 else some 0x03, r.2)) (none, s)

/-- Step 8: registers from NVM, the Rhoun configuration, the queues, the metering cores and the engines' tables (Table 2.5, R154,
R444). -/
def step8 (x : BringIn) (s : State) : StepEnd :=
  let s1 := x.config.foldl (fun s c => (fabWrite .window c.1 255 c.2 s).2) (loadNvmRegs s)
  let q := loadQueues s1
  if !q.1 then (some 0x07, q.2)
  else
    let s2 := fcStep8 s.mode.warm x.models x.streams (bsStep8 x.phrases (engineStep8 q.2))
    startCores [0, 1] s2

/-- Step 9: Boulevard joins and the other cores start (Table 2.5, R200, R451). -/
def step9 (s : State) : StepEnd := startCores [2, 3, 4, 5, 6, 7] (engineStep9 s)

/-- What completing the step in progress does (Table 2.5, Table 20.9, R505, R362). -/
def stepEffect (x : BringIn) (s : State) : StepEnd :=
  match s.mode.step with
  | 1 => (none, { s with pkg := { s.pkg with pwrEn := 15, resetOutN := true } })
  | 2 => (none, kerbTest (bringIsl islKERB { s with clock := { s.clock with kerbOsc := true } }))
  | 3 =>
    let s1 := { s with clock := { s.clock with refclk := true }, pkg := { s.pkg with blvRstN := true, phyRefclk := true } }
    let s2 := [pllNIGHT, pllIO, pllCORE, pllLINK].foldl (fun s p => if (pll s p).held then s else lockPll p s) s1
    (none, (List.range 14).foldl (fun s k => bringIsl (k + 2) s) s2)
  | 4 => step4 x.corrected s
  | 5 => step5 s
  | 7 => (none, kerbStart s)
  | 8 => step8 x s
  | 9 => step9 s
  | _ => (none, s)

/-- Release the queue sides of the islands tested in step 6 (R155). -/
def releaseTested (s : State) : State :=
  (List.range 14).foldl (fun s k =>
    let i := k + 2
    if (isl s i).recoverPending && (isl s i).st == .on then islOn i s else s) s

/-- The FAIL_CODEs a step can end with (Table 2.5). -/
def stepCodes (n : Nat) : List Nat :=
  match n with
  | 2 | 3 => [0x08]
  | 4 => [0x01, 0x02]
  | 5 => [0x03]
  | 6 => [0x04, 0x05]
  | 7 => [0x06]
  | 8 => [0x07]
  | _ => []

/-- The step in progress completes or fails (R39): a failure with a code that is not the step's is no event. -/
def stepComplete (x : BringIn) (s : State) : State :=
  let n := s.mode.step
  if s.mode.mode ≠ .bringup || s.pkg.railHold || n = 0 || 9 < n then s
  else match x.fail with
    | some code =>
      if !(stepCodes n).contains code then s
      else bringupFail code x.detail (if n = 7 then kerbTestFail x.detail s else s)
    | none =>
      let r := stepEffect x s
      match r.1 with
      | some code => bringupFail code 0 r.2
      | none => if n = 9 then bringupDone (releaseTested r.2) else { r.2 with mode := { r.2.mode with step := n + 1 } }

/-- BRINGUP_STEP_COMPLETE (R39): the bring-up step in progress completes, with what it met. -/
def execBringupStepComplete (x : BringIn) (s : State) : Host.Outcome State Fault Refusal := .next (stepComplete x s)

end Sys2Proof.Machine
end

