-- ==== Sys2Proof/Machine/Clocks.lean ====
section
/-! DEFINITION. Meanings of the clock and island commands (chapter 3). -/
namespace Sys2Proof.Machine
open Sys2Proof

/-- An island fault as R79 sorts it: AON resets the device, KERB takes SAFESTOP, every other island restarts. -/
def anyIslandFault (i : Nat) (s : State) : State :=
  if i = islAON then deviceReset 0x03 s
  else if i = islKERB then safestopCause 0x42 (latchIsl i s)
  else islandFault i s

/-- TARGET_MHZ_WRITE (R70). -/
def execTargetMhzWrite (mhz : BitVec 16) (s : State) : Host.Outcome State Fault Refusal :=
  .next (hostWriteOk 0x388 (targetWrite mhz.toNat) s)

/-- FAMILY_WRITE (R70). -/
def execFamilyWrite (family : Fin 2) (s : State) : Host.Outcome State Fault Refusal :=
  .next (hostWriteOk 0x390 (familyWrite family.val) s)

/-- PLL_LOCK (R61). -/
def execPllLock (p : Fin 5) (s : State) : Host.Outcome State Fault Refusal := .next (pllLock p.val s)

/-- RELOCK_STAIR_STEP (R61). -/
def execRelockStairStep (p : Fin 5) (s : State) : Host.Outcome State Fault Refusal := .next (stairStep p.val s)

/-- MON_TRIP (R63). -/
def execMonTrip (p : Fin 5) (s : State) : Host.Outcome State Fault Refusal := .next (monTrip p.val s)

/-- LOCK_LOSS (R63). -/
def execLockLoss (p : Fin 5) (s : State) : Host.Outcome State Fault Refusal := .next (lockLoss p.val s)

/-- LOCK_SEARCH_TIMEOUT (R63). -/
def execLockSearchTimeout (p : Fin 5) (s : State) : Host.Outcome State Fault Refusal :=
  .next (lockSearchTimeout p.val s)

/-- AON_DUTY_TICK (R507): only while REFCLK runs. -/
def execAonDutyTick (s : State) : Host.Outcome State Fault Refusal := .next (if s.clock.refclk then dutyTick s else s)

/-- FENCE_DRAIN_TIMEOUT (R64). -/
def execFenceDrainTimeout (i : Fin 16) (s : State) : Host.Outcome State Fault Refusal := .next (drainFence i.val s)

/-- FENCE_RELEASE (R68). -/
def execFenceRelease (i : Fin 16) (s : State) : Host.Outcome State Fault Refusal := .next (releaseIsl i.val s)

/-- FABRIC_TIMEOUT (R67): the initiator's request completes with ABORT. -/
def execFabricTimeout (initiator target : Fin 16) (s : State) : Host.Outcome State Fault Refusal :=
  .next (fabricTimeout initiator.val target.val s)

/-- ISL_CTL_RESTART (R72). -/
def execIslCtlRestart (key : BitVec 8) (islands : BitVec 16) (s : State) : Host.Outcome State Fault Refusal :=
  .next (hostWrite 0x3A8 (islCtl key.toNat islands.toNat 1) s)

/-- ISL_CTL_HOLD (R72). -/
def execIslCtlHold (key : BitVec 8) (islands : BitVec 16) (s : State) : Host.Outcome State Fault Refusal :=
  .next (hostWrite 0x3A8 (islCtl key.toNat islands.toNat 2) s)

/-- ISL_CTL_RELEASE (R72). -/
def execIslCtlRelease (key : BitVec 8) (islands : BitVec 16) (s : State) : Host.Outcome State Fault Refusal :=
  .next (hostWrite 0x3A8 (islCtl key.toNat islands.toNat 3) s)

/-- ISLAND_FAULT (R79). -/
def execIslandFault (i : Fin 16) (s : State) : Host.Outcome State Fault Refusal := .next (anyIslandFault i.val s)

/-- REFCLK_LOSS (R80). -/
def execRefclkLoss (s : State) : Host.Outcome State Fault Refusal := .next (refclkLoss s)

/-- REFCLK_RELOCK (R80). -/
def execRefclkRelock (s : State) : Host.Outcome State Fault Refusal := .next (refclkRelock s)

/-- The watchdog of an island counts: On or in a burst; on a core also enabled and not waiting or halted (R81). -/
def wdogCounts (s : State) (i : Nat) : Bool :=
  2 ≤ i && islRuns s i &&
  (if islSC 0 ≤ i && i ≤ islSC 7 then
    wdogRuns (core s (i - islSC 0)) && (wdogTimeout (i - islSC 0) (core s (i - islSC 0))).isSome
   else true)

/-- ISLAND_WATCHDOG_EXPIRY (R81): AON and KERB have none. -/
def execIslandWatchdogExpiry (i : Fin 16) (s : State) : Host.Outcome State Fault Refusal :=
  .next (if wdogCounts s i.val then islandFault i.val s else s)

/-- AON_WATCHDOG_EXPIRY (R81). -/
def execAonWatchdogExpiry (s : State) : Host.Outcome State Fault Refusal := .next (deviceReset 0x03 s)


end Sys2Proof.Machine
end

