-- ==== Sys2Proof/Machine/Commit.lean ====
section
/-! DEFINITION. The commit of a consent scope: the content it replaces, its records and what follows (chapter 5). -/
namespace Sys2Proof.Machine
open Sys2Proof

/-- NVM area of a scope's content: base and size (Table 19.5); the two scopes without one are FIRMWARE's boot slots and
KERB_PROGRAM's neighbours as listed. -/
def scopeArea (k : Nat) : Option (Nat × Nat) :=
  match k with
  | 0 => some (nvmBase + 0x10000, 0x10000)
  | 1 => some (nvmBase + 0x2000, 0x1000)
  | 2 => some (nvmBase + 0x4000, 0x2000)
  | 3 => some (nvmBase + 0x1000, 128)
  | 5 => some (nvmBase + 0x1100, 144)
  | 6 => some (nvmBase + 0x1400, 32)
  | 7 => some (nvmBase + 0x1200, 320)
  | _ => none

/-- Replace the content of a scope's NVM area; whole words are rewritten, so their errors go (R485). -/
def storeScope (k : Nat) (p : List Byte) (s : State) : State :=
  match scopeArea k with
  | some (b, n) => { s with mem := (s.mem.clear b (b + n)).writeBytes b p, ecc := s.ecc.filter (fun a => a < b || b + n ≤ a) }
  | none => s

/-- VERSION of the last type-1 image whose TARGET names core 2, else 0 (Table 5.9, FW_STATE). -/
def bandstandVersion (l : List Image) : Nat :=
  l.foldl (fun v i => if i.typ == 1 && i.target.testBit 2 then i.version else v) 0

/-- Floors and keys after a FIRMWARE commit (R127). -/
def takeImage (c : ConsentState) (i : Image) : ConsentState :=
  let c1 := { c with floors := vmod c.floors i.typ (fun f => max f i.rollback) }
  if i.typ = 3 then { c1 with keys := vput c1.keys i.keySlot (some i.body) }
  else if i.typ = 4 then { c1 with configImage := some i.body }
  else c1

/-- The FIRMWARE content: the inactive boot slot takes the payload and becomes active (R123). -/
def commitFirmware (p : List Byte) (l : List Image) (s : State) : State :=
  let c := l.foldl takeImage s.consent
  let n := 1 - c.slot
  { s with consent := { c with slot := n, unchecked := true, boot := vput c.boot n (some p), fwVersion := bandstandVersion l } }

/-- A CONSENT_CONFIG content (R128). -/
def commitConfig (p : List Byte) (s : State) : State :=
  { s with consent := { s.consent with
      windowS := le p 4 2, windowNvm := le p 4 2, bMask := Vector.ofFn (fun (i : Fin 8) => le p (8 + i.val) 1) } }

/-- What each scope's commit changes beside its NVM area (Table 5.3, R124, R439, R464). -/
def commitContent (k : Nat) (x : ScopeState) (p : List Byte) (s : State) : State :=
  let s1 := storeScope k p s
  match k with
  | 0 => { s1 with consent := { s1.consent with kerbProgramNew := true } }
  | 1 => { s1 with consent := { s1.consent with tripPathsNew := true } }
  | 2 => { s1 with consent := { s1.consent with sealCount := s1.consent.sealCount + 1, calTag := tagOf x.digest / 2 ^ 32 } }
  | 3 => pwmLoadSafe s1
  | 4 => commitFirmware p ((splitImages 16 p).getD []) s1
  | 5 => s1
  | 6 => commitConfig p s1
  | _ => { s1 with link := { s1.link with roleTag := tagOf x.digest / 2 ^ 32 } }

/-- The last record of the event log that verifies, from the oldest retained or the latest 0x0103 record on: record `q` verifies
when the next record's PREV_HASH, or the head hash, is its SHA-256 (R125, R133). -/
def lastIntact (s : State) : Nat :=
  let top := s.log.seq
  let low := top - 8191
  let kept := (List.range (top + 1 - max 1 low)).map (· + max 1 low)
  let start := kept.foldl (fun b q => if le (logRecBytes s q) 16 2 == 0x0103 then q else b) (max 1 low)
  let good (q : Nat) : Bool :=
    shaN (logRecBytes s q) == (if q = top then s.log.head.toNat else le (logRecBytes s (q + 1)) 96 32)
  start - 1 + ((kept.filter (fun q => start ≤ q)).takeWhile good).length

/-- The re-anchoring record, whose PREV_HASH is zero (R133). -/
def reanchor (s : State) : State :=
  let last := lastIntact s
  appendLog (LogRec.plain 0x0103 last 0) { s with log := { s.log with head := 0 } }

/-- VERSION of up to `n` images from position `i`, 4 bytes each. -/
def versionField (l : List Image) (i n : Nat) : Nat :=
  ((l.drop i).take n).foldr (fun im a => im.version + 2 ^ 32 * a) 0

/-- The records of a commit (Tables 5.4 and 5.5). -/
def commitRecords (k : Nat) (x : ScopeState) (p : List Byte) (s : State) : List LogRec :=
  let l := if k = scFIRMWARE then (splitImages 16 p).getD [] else []
  let base : LogRec := { typ := 0x0101, scope := k, flags := recordFlags x.proposer x.confirmer, detail32 := 0
                         tag := tagOf x.digest, digest := x.digest, detail := 0 }
  let die := if x.confirmer == some .warden then (match roleOf s false with | some r => r.2 | none => 0) else 0
  let first := { base with
    detail32 := if k = scMETER then s.consent.sealCount else l.length
    detail := die + 2 ^ 64 * versionField l 0 6 }
  let more (i n : Nat) : List LogRec :=
    if i < l.length then [{ base with typ := 0x0104, detail32 := i + 1, detail := versionField l i n }] else []
  first :: (more 6 8 ++ more 14 8)

/-- What waits for a commit to end: the M20 of a FIRMWARE commit in UPDATE and a recall that waited (R50, R123). -/
def afterCommit (firmware : Bool) (s : State) : State :=
  if s.mode.recallAfterCommit && s.mode.mode == .update then
    startBringup true 0x30 { s with mode := { s.mode with recallAfterCommit := false } }
  else if firmware && s.mode.mode == .update then startBringup true 0x04 s
  else { s with mode := { s.mode with recallAfterCommit := false } }

/-- The commit point of a scope, or its abandonment (R121 to R123). -/
def commitPoint (k : Nat) (flashOk : Bool) (s : State) : State :=
  let x := scopeOf s k
  if x.phase ≠ .committing then s
  else
    let p := payloadOf s x
    if payloadBad s x || shaN p ≠ x.digest then afterCommit false (endProposal k rsCHANGED s)
    else if k = scFIRMWARE && !flashOk then afterCommit false (endProposal k rsAPPLY s)
    else
      let s1 := commitContent k x p s
      let s2 := if k = scCONFIG && le p 16 4 == 1 then reanchor s1 else s1
      let s3 := (commitRecords k x p s2).foldl (fun s r => appendLog r s) s2
      let s4 := settleMismatch (modScope k (fun x => { x with phase := .idle, result := rsCOMMITTED, confirmer := none }) s3)
      afterCommit (k == scFIRMWARE) (if k = scMETER then sealApplied s.mem s4 else s4)

/-! ### The WARDEN's confirmation (R111, R455) -/

/-- The reply to a WARDEN: its status and reason code, in a BULK message to port 4. -/
def wardenAnswer (src : Nat) (st : Status) (s : State) : State :=
  let reason := if st == .ok then 0 else s.consent.lastRefusal
  let f := newFrame s .bulk 0 src 4 (leBytes 1 (statusCode st) ++ leBytes 1 reason)
  { s with link := { s.link with own := s.link.own ++ [(.bulk, f)] } }

/-- A tag received from a node: applied over channel WARDEN where that node, another one, holds the role now. -/
def wardenConfirm (src : Nat) (tag : Word) (s : State) : State :=
  let r := if holdsRole s false src && s.blv.self ≠ some src then confirm .warden tag s else refuseWith rsCHANNEL s
  wardenAnswer src r.1 r.2

/-! ### Channels -/

/-- A write of the consent block over a channel: HP and MP words meet their mode's gate; FW arrives by the alias. -/
def overChannel (ch : Channel) (o : Nat) (f : State → Status × State) (s : State) : State :=
  match ch with
  | .hp | .mp => hostWrite o f s
  | .warden => (f s).2
  | .fw => let r := f s; replyWith r.1 0 r.2

end Sys2Proof.Machine
end

