-- ==== Sys2Proof/Machine/Consent.lean ====
section
/-! DEFINITION. Meanings of the consent commands (chapter 5). -/
namespace Sys2Proof.Machine
open Sys2Proof

/-- CONSENT_PROPOSE (R114, R130): the command's word with WITHDRAW = 0. -/
def execConsentPropose (ch : Channel) (w : Word) (s : State) : Host.Outcome State Fault Refusal :=
  .next (overChannel ch 0x300 (propose ch (w &&& ~~~(1#64 <<< 52))) s)

/-- CONSENT_WITHDRAW (R120): the command's word with WITHDRAW = 1. -/
def execConsentWithdraw (ch : Channel) (w : Word) (s : State) : Host.Outcome State Fault Refusal :=
  .next (overChannel ch 0x300 (withdraw ch (w ||| (1#64 <<< 52))) s)

/-- HASHING_COMPLETE (R116). -/
def execHashingComplete (scope : Fin 8) (s : State) : Host.Outcome State Fault Refusal := .next (hashingDone scope.val s)

/-- CONSENT_CONFIRM (R117, R118). -/
def execConsentConfirm (ch : Channel) (tag : Word) (s : State) : Host.Outcome State Fault Refusal :=
  .next (overChannel ch 0x310 (confirm ch tag) s)

/-- CONSENT_WINDOW_EXPIRY (R119). -/
def execConsentWindowExpiry (scope : Fin 8) (s : State) : Host.Outcome State Fault Refusal :=
  .next (windowExpiry scope.val s)

/-- COMMIT_POINT (R121 to R124). -/
def execCommitPoint (scope : Fin 8) (flashOk : Bool) (s : State) : Host.Outcome State Fault Refusal :=
  .next (commitPoint scope.val flashOk s)

/-- WARDEN_CONFIRM_RECEIVE (R455). -/
def execWardenConfirmReceive (src : BitVec 8) (tag : Word) (s : State) : Host.Outcome State Fault Refusal :=
  .next (wardenConfirm src.toNat tag s)

end Sys2Proof.Machine
end

