-- ==== Sys2Proof/Machine/Door.lean ====
section
/-! DEFINITION. Meanings of the door-drive commands (chapter 13). -/
namespace Sys2Proof.Machine
open Sys2Proof

/-- TABLE_ADDRESS_UPDATE (R318): the microsecond j of the servo period. -/
def execTableAddressUpdate (a : Fin 16) (j : Fin 250) (s : State) : Host.Outcome State Fault Refusal :=
  .next (if islRuns s islMOTION then addressUpdate a.val j.val s else s)

/-- COMPARATOR_EDGE (R319). -/
def execComparatorEdge (a : Fin 16) (phaseB above : Bool) (delayNs atNs : Nat) (s : State) : Host.Outcome State Fault Refusal :=
  .next (if islRuns s islMOTION then comparator a.val phaseB above delayNs atNs s else s)

/-- CHOP_DEAD_TIME_END (R317). -/
def execChopDeadTimeEnd (a : Fin 16) (phaseB : Bool) (atNs : Nat) (s : State) : Host.Outcome State Fault Refusal :=
  .next (if islRuns s islMOTION then deadEnd a.val phaseB atNs s else s)

/-- CHOP_BLANK_END (R319). -/
def execChopBlankEnd (a : Fin 16) (phaseB above : Bool) (s : State) : Host.Outcome State Fault Refusal :=
  .next (if islRuns s islMOTION then blankEnd a.val phaseB above s else s)

/-- CHOP_FAST_DECAY_END (R323). -/
def execChopFastDecayEnd (a : Fin 16) (phaseB : Bool) (s : State) : Host.Outcome State Fault Refusal :=
  .next (if islRuns s islMOTION then fastEnd a.val phaseB s else s)

/-- SENSE_OFFSET_MEASURE (R321): the two offsets the DAC search finds, in 0.1 mV. -/
def execSenseOffsetMeasure (a : Fin 16) (ofsA ofsB : Int) (s : State) : Host.Outcome State Fault Refusal :=
  .next (offsetMeasured a.val ofsA ofsB s)

/-- OFFSET_CAL (R321). -/
def execOffsetCal (w : Word) (s : State) : Host.Outcome State Fault Refusal :=
  .next (if islRuns s islMOTION && bits w 1 0 == 2 then ddCtl w s else s)

/-- STANDSTILL_REDUCTION (R324). -/
def execStandstillReduction (a : Fin 16) (s : State) : Host.Outcome State Fault Refusal :=
  .next (if islRuns s islMOTION then formCurrents a.val s else s)

/-- BEMF_SAMPLE (R325). -/
def execBemfSample (a : Fin 16) (phaseB : Bool) (code : Fin 4096) (atNs : Nat) (s : State) : Host.Outcome State Fault Refusal :=
  .next (if islRuns s islMOTION then bemfSample a.val phaseB code.val atNs s else s)

/-- ESTIMATE (R326). -/
def execEstimate (a : Fin 16) (s : State) : Host.Outcome State Fault Refusal :=
  .next (if islRuns s islMOTION then estimate a.val s else s)

/-- NUDGE_RESUME (R329). -/
def execNudgeResume (a : Fin 16) (s : State) : Host.Outcome State Fault Refusal :=
  .next (if islRuns s islMOTION then nudgeResume a.val s else s)

/-- BRIDGE_FAULT (R334): fault code + 1 of Table 13.7, or its cause gone. -/
def execBridgeFault (a : Fin 16) (code : Fin 5) (present : Bool) (s : State) : Host.Outcome State Fault Refusal :=
  .next (if !islRuns s islMOTION then s else if present then bridgeFault a.val (code.val + 1) s else bridgeGone a.val s)

/-- DD_APPLY (R331): DD_CTL with ACTION APPLY. -/
def execDdApply (w : Word) (s : State) : Host.Outcome State Fault Refusal :=
  .next (if islRuns s islMOTION && bits w 1 0 == 1 then ddCtl w s else s)

/-- DD_APPLY_DEFERRED (R331). -/
def execDdApplyDeferred (s : State) : Host.Outcome State Fault Refusal :=
  .next (if islRuns s islMOTION then ddDeferred s else s)

end Sys2Proof.Machine
end

