-- ==== Sys2Proof/Machine/Forecast.lean ====
section
/-! DEFINITION. Meanings of the Forecast commands (chapter 16). -/
namespace Sys2Proof.Machine
open Sys2Proof

/-- An FC_STREAM_CTL write of one operation (Table 16.4). -/
def streamOp (op : Nat) (i : Fin 4096) (slot : Fin 16) (source : BitVec 16) (s : State) : State :=
  fcStreamCtl (packWord [(56, 0x53), (48, op), (40, slot.val), (24, source.toNat), (0, i.val)]) s

/-- FC_INPUT_ENTRY (R404): the slot's next input entry. -/
def execFcInputEntry (slot : Fin 16) (s : State) : Host.Outcome State Fault Refusal := .next (fcInput slot.val s)

/-- CHUNK_DUE (R404, R406). -/
def execChunkDue (s : State) : Host.Outcome State Fault Refusal := .next (chunksDue s)

/-- BATCH_WRITE_BACK (R405). -/
def execBatchWriteBack (s : State) : Host.Outcome State Fault Refusal := .next (batchEnd s)

/-- CREATE (R408). -/
def execCreate (stream : Fin 4096) (slot : Fin 16) (source : BitVec 16) (s : State) : Host.Outcome State Fault Refusal :=
  .next (streamOp 1 stream slot source s)

/-- DELETE (R408). -/
def execDelete (stream : Fin 4096) (s : State) : Host.Outcome State Fault Refusal := .next (streamOp 2 stream 0 0 s)

/-- STREAM_RESET (R408). -/
def execStreamReset (stream : Fin 4096) (s : State) : Host.Outcome State Fault Refusal :=
  .next (streamOp 3 stream 0 0 s)

/-- HEAD_RESET (R408). -/
def execHeadReset (stream : Fin 4096) (s : State) : Host.Outcome State Fault Refusal :=
  .next (streamOp 4 stream 0 0 s)

/-- FREEZE (R408). -/
def execFreeze (stream : Fin 4096) (s : State) : Host.Outcome State Fault Refusal := .next (streamOp 5 stream 0 0 s)

/-- THAW (R408). -/
def execThaw (stream : Fin 4096) (s : State) : Host.Outcome State Fault Refusal := .next (streamOp 6 stream 0 0 s)

/-- STREAM_CTL_DEFERRED (R408). -/
def execStreamCtlDeferred (s : State) : Host.Outcome State Fault Refusal :=
  .next (if islRuns s islFORECAST then fcCtlDeferred s else s)

/-- HEAD_UPDATE (R415): the next entry of HEAD_QID. -/
def execHeadUpdate (s : State) : Host.Outcome State Fault Refusal := .next (headEntry s)

/-- FC_APPLY (R409): FC_CTL with ACTION APPLY. -/
def execFcApply (w : Word) (s : State) : Host.Outcome State Fault Refusal :=
  .next (if bits w 1 0 == 1 then fcCtl w s else s)

/-- MODEL_LOAD (R418). -/
def execModelLoad (w : Word) (s : State) : Host.Outcome State Fault Refusal :=
  .next (if bits w 1 0 == 2 then fcCtl w s else s)

/-- MODEL_LOAD_COMPLETE (R418): the file read, or a flash read error. -/
def execModelLoadComplete (file : Option (List Byte)) (s : State) : Host.Outcome State Fault Refusal :=
  .next (if islRuns s islFORECAST then modelLoaded file s else s)

/-- CHECKPOINT (R424). -/
def execCheckpoint (w : Word) (s : State) : Host.Outcome State Fault Refusal :=
  .next (if bits w 1 0 == 3 then fcCtl w s else s)

/-- CHECKPOINT_INTERVAL (R424). -/
def execCheckpointInterval (s : State) : Host.Outcome State Fault Refusal :=
  .next (if islRuns s islFORECAST then ckptInterval s else s)

/-- CHECKPOINT_WRITE_COMPLETE (R424). -/
def execCheckpointWriteComplete (s : State) : Host.Outcome State Fault Refusal := .next (ckptDone s)

end Sys2Proof.Machine
end

