-- ==== Sys2Proof/Machine/Kerb.lean ====
section
/-! DEFINITION. Meanings of the Kerb commands (chapter 14). -/
namespace Sys2Proof.Machine
open Sys2Proof

/-- A Kerb fault enters FAULT and takes M16 with ENTRY_CAUSE 0x42 (R360). -/
def takeKerbFault (intFault : Nat) (s : State) : State :=
  if s.kerb.run == .off || s.kerb.run == .fault then s else safestopCause 0x42 (kerbFault intFault s)

/-- A lockstep difference (R361). -/
def compareFailure (cycle unit : Nat) (s : State) : State :=
  if s.kerb.run == .off || s.kerb.run == .fault then s
  else
    let s1 := { s with mode := { s.mode with kerbCompare := true }, kerb := { s.kerb with compare := true } }
    takeKerbFault 4 (appendLog (LogRec.plain 0x0508 s.kerb.scanCnt (cycle + 2 ^ 16 * unit)) s1)

/-- In NIGHT, a published announcement wakes AUDIO and cores 2–3 (Table 2.4, ‡). -/
def wakeAudio (s : State) : State :=
  let waits := match qGet s s.bs.kerbQ with | some q => s.bs.kerbQ ≠ 0 && 0 < q.avail | none => false
  if s.mode.mode == .night && !s.bs.woken && waits then steerIslands (modBs (fun b => { b with woken := true }) s) else s

/-- What a commit's control signals do to the mode logic: FAULT is a SAFESTOP cause, taken first (R52), and a rising RECALL is
M14's trigger (R345). The scan has latched every HOLD_OVERRUN line (R195). -/
def scanEffects (old s : State) : State :=
  let s1 := { s with cores := s.cores.map (fun k => { k with holdOverrun := false }) }
  let s2 := if kerbFaultOut s1 then safestopCause 0x43 s1 else s1
  let s3 := if kerbRecall s2 && !kerbRecall old then recallSignal s2 else s2
  wakeAudio (if s3.mode.mode == .inspection then { s3 with mode := { s3.mode with recallPending := kerbRecall s3 } } else s3)

/-- TRIP_PATH_TRIP (R341): the glitch-filtered balls take new levels and every path is evaluated. -/
def execTripPathTrip (kin : BitVec 192) (s : State) : Host.Outcome State Fault Refusal := .next (tripPathTrip kin s)

/-- KIN_FILTER_CHANGE (R339). -/
def execKinFilterChange (n : Fin 192) (v : Bool) (s : State) : Host.Outcome State Fault Refusal :=
  .next (kinFilter n.val v s)

/-- DISCREPANCY_LATCH (R340): pair 2k. -/
def execDiscrepancyLatch (k : Fin 96) (s : State) : Host.Outcome State Fault Refusal :=
  .next (discLatch (2 * k.val) s)

/-- KERB_SCAN (R344): one whole scan, with the readback levels at its latch; no scan happens outside RUN (Table 14.1). -/
def execKerbScan (rb : BitVec 32) (s : State) : Host.Outcome State Fault Refusal :=
  .next (if s.kerb.run == .run then scanEffects s (kerbScan rb s) else s)

/-- KERB_NOP (R346). -/
def execKerbNop (s : State) : Host.Outcome State Fault Refusal := .next (kerbExec (modKerb (·.nextI)) s)

/-- KERB_LD (R346). -/
def execKerbLd (n : Bool) (space : Fin 16) (i : Fin 4096) (s : State) : Host.Outcome State Fault Refusal :=
  .next (kerbExec (modKerb (kLogic (fun _ v => v) n space.val i.val)) s)

/-- KERB_AND (R346). -/
def execKerbAnd (n : Bool) (space : Fin 16) (i : Fin 4096) (s : State) : Host.Outcome State Fault Refusal :=
  .next (kerbExec (modKerb (kLogic and n space.val i.val)) s)

/-- KERB_OR (R346). -/
def execKerbOr (n : Bool) (space : Fin 16) (i : Fin 4096) (s : State) : Host.Outcome State Fault Refusal :=
  .next (kerbExec (modKerb (kLogic or n space.val i.val)) s)

/-- KERB_XOR (R346). -/
def execKerbXor (n : Bool) (space : Fin 16) (i : Fin 4096) (s : State) : Host.Outcome State Fault Refusal :=
  .next (kerbExec (modKerb (kLogic xor n space.val i.val)) s)

/-- KERB_PUSH (R346). -/
def execKerbPush (n : Bool) (space : Fin 16) (i : Fin 4096) (s : State) : Host.Outcome State Fault Refusal :=
  .next (kerbExec (modKerb (kPush n space.val i.val)) s)

/-- ANDP (R346). -/
def execAndp (s : State) : Host.Outcome State Fault Refusal := .next (kerbExec (modKerb (kPop and)) s)

/-- ORP (R346). -/
def execOrp (s : State) : Host.Outcome State Fault Refusal := .next (kerbExec (modKerb (kPop or)) s)

/-- KERB_ST (R346). -/
def execKerbSt (n : Bool) (space : Fin 16) (i : Fin 4096) (s : State) : Host.Outcome State Fault Refusal :=
  .next (kerbExec (modKerb (kSt n space.val i.val)) s)

/-- KERB_SET (R346). -/
def execKerbSet (space : Fin 16) (i : Fin 4096) (s : State) : Host.Outcome State Fault Refusal :=
  .next (kerbExec (modKerb (kSet true space.val i.val)) s)

/-- KERB_RST (R346). -/
def execKerbRst (space : Fin 16) (i : Fin 4096) (s : State) : Host.Outcome State Fault Refusal :=
  .next (kerbExec (modKerb (kSet false space.val i.val)) s)

/-- TIM (R348). -/
def execTim (i : Fin 256) (s : State) : Host.Outcome State Fault Refusal := .next (kerbExec (modKerb (kTim i.val)) s)

/-- EDGR (R346). -/
def execEdgr (i : Fin 512) (s : State) : Host.Outcome State Fault Refusal :=
  .next (kerbExec (modKerb (kEdge true i.val)) s)

/-- EDGF (R346). -/
def execEdgf (i : Fin 512) (s : State) : Host.Outcome State Fault Refusal :=
  .next (kerbExec (modKerb (kEdge false i.val)) s)

/-- CTU (R349). -/
def execCtu (i : Fin 128) (s : State) : Host.Outcome State Fault Refusal :=
  .next (kerbExec (modKerb (kCount (satInc 32) i.val)) s)

/-- CTD (R349). -/
def execCtd (i : Fin 128) (s : State) : Host.Outcome State Fault Refusal :=
  .next (kerbExec (modKerb (kCount (· - 1) i.val)) s)

/-- CRES (R349). -/
def execCres (i : Fin 128) (s : State) : Host.Outcome State Fault Refusal :=
  .next (kerbExec (modKerb (kCount (fun _ => 0) i.val)) s)

/-- JMPC (R346). -/
def execJmpc (t : Fin 4096) (s : State) : Host.Outcome State Fault Refusal :=
  .next (kerbExec (modKerb (kJump true t.val)) s)

/-- JMP (R346). -/
def execJmp (t : Fin 4096) (s : State) : Host.Outcome State Fault Refusal :=
  .next (kerbExec (modKerb (kJump false t.val)) s)

/-- CUE (R351). -/
def execCue (car : BitVec 8) (cue : Fin 4096) (s : State) : Host.Outcome State Fault Refusal :=
  .next (kerbExec (kCue car.toNat cue.val) s)

/-- FRST (R340, R341, R343). -/
def execFrst (i : Fin 4096) (s : State) : Host.Outcome State Fault Refusal := .next (kerbExec (kFrst i.val) s)

/-- END (R346). -/
def execKerbEnd (s : State) : Host.Outcome State Fault Refusal := .next (kerbExec (modKerb kEnd) s)

/-- READBACK_FAULT (R343). -/
def execReadbackFault (n : Fin 32) (level : Bool) (s : State) : Host.Outcome State Fault Refusal :=
  .next (readbackFault n.val level s)

/-- OUTPUT_TEST_PULSE (R343): what the readback showed within the pulse. -/
def execOutputTestPulse (n : Fin 32) (sawOff : Bool) (s : State) : Host.Outcome State Fault Refusal :=
  .next (outputTest n.val sawOff s)

/-- PROGRAM_EXCHANGE (R353). -/
def execProgramExchange (s : State) : Host.Outcome State Fault Refusal := .next (progExchange s)

/-- TRIP_PATHS_EXCHANGE (R354). -/
def execTripPathsExchange (s : State) : Host.Outcome State Fault Refusal := .next (tripExchange s)

/-- KERB_FAULT (R360). -/
def execKerbFault (c : KerbCause) (s : State) : Host.Outcome State Fault Refusal :=
  .next (match c with | .supply => takeKerbFault 1 s | .clock => takeKerbFault 2 s | .ecc => takeKerbFault 3 s | .gone => kerbFaultGone s)

/-- COMPARE_FAILURE (R361). -/
def execCompareFailure (cycle : Fin 160) (unit : Fin 4) (s : State) : Host.Outcome State Fault Refusal :=
  .next (compareFailure cycle.val unit.val s)

end Sys2Proof.Machine
end

