-- ==== Sys2Proof/Machine/Ledger.lean ====
section
/-! DEFINITION. Meanings of the pulse, M-Bus, sensor, heat and ledger commands (chapter 10). -/
namespace Sys2Proof.Machine
open Sys2Proof

/-- PULSE_EDGE (R233): a debounced rising edge at instant `t`, with the level of the pair's B input. -/
def execPulseEdge (k : Fin 64) (bHigh : Bool) (t : Nat) (s : State) : Host.Outcome State Fault Refusal :=
  .next (pulseEdge k.val bHigh t s)

/-- PULSE_FREQ_GATE (R233). -/
def execPulseFreqGate (k : Fin 64) (s : State) : Host.Outcome State Fault Refusal := .next (pulseGate k.val s)

/-- PULSE_SECOND_CREDIT (R234). -/
def execPulseSecondCredit (s : State) : Host.Outcome State Fault Refusal := .next (pulseSecond s)

/-- LEDGER_SECOND_CREDIT (R244). -/
def execLedgerSecondCredit (s : State) : Host.Outcome State Fault Refusal := .next (ledgerSecond s)

/-- HEAT_SECOND (R242, R255). -/
def execHeatSecond (s : State) : Host.Outcome State Fault Refusal := .next (heatSecond s)

/-- MBUS_POLL_ROUND (R237). -/
def execMbusPollRound (m : Fin 2) (s : State) : Host.Outcome State Fault Refusal :=
  .next (if m.val = 0 then feedPulses (pollRound m.val s) else pollRound m.val s)

/-- A reply, with the increment it sends to the LEAK stream (R239). -/
def replyAndFeed (m : Nat) (frame : List Byte) (s : State) : State :=
  let r := mbusReply m frame s
  match r.2 with
  | some (k, inc, _) => feedLeak k inc (slaveOf s k).time r.1
  | none => r.1

/-- MBUS_REPLY (R235 to R239). -/
def execMbusReply (m : Fin 2) (frame : List Byte) (s : State) : Host.Outcome State Fault Refusal :=
  .next (replyAndFeed m.val frame s)

/-- MBUS_REPLY_TIMEOUT (R235, R254). -/
def execMbusReplyTimeout (m : Fin 2) (s : State) : Host.Outcome State Fault Refusal := .next (replyTimeout m.val s)

/-- SECONDARY_SEARCH (R239): an MBUS_CFG write with SEARCH = 1. -/
def execSecondarySearch (m : Fin 2) (w : Word) (s : State) : Host.Outcome State Fault Refusal :=
  .next (mbusCfg m.val (w ||| 2) s)

/-- SECONDARY_SEARCH_DONE (R239). -/
def execSecondarySearchDone (m : Fin 2) (found : List Word) (s : State) : Host.Outcome State Fault Refusal :=
  .next (searchDone m.val found s)

/-- SPI_SCAN (R240, R241): the bytes each channel's device returns. -/
def execSpiScan (replies : List (List Byte)) (s : State) : Host.Outcome State Fault Refusal :=
  .next (spiScan replies s)

/-- LEDGER_NVM_COMMIT (R243). -/
def execLedgerNvmCommit (s : State) : Host.Outcome State Fault Refusal := .next (ledgerCommit s)

/-- DEMAND_INTERVAL_END (R247). -/
def execDemandIntervalEnd (s : State) : Host.Outcome State Fault Refusal := .next (demandEnd s)

/-- DAILY_SNAPSHOT (R248). -/
def execDailySnapshot (s : State) : Host.Outcome State Fault Refusal := .next (dailySnap s)

/-- INTERIM_SNAPSHOT (R253): an LDG_CTL write with SNAP = 1. -/
def execInterimSnapshot (w : Word) (s : State) : Host.Outcome State Fault Refusal :=
  .next (if bits w 63 56 = 0x4C then interimSnap s else s)

/-- SNAPSHOT_WRITE_COMPLETE (R249). -/
def execSnapshotWriteComplete (s : State) : Host.Outcome State Fault Refusal := .next (snapDone s)

/-- LDG_APPLY (R251): an LDG_CTL write with APPLY = 1. -/
def execLdgApply (w : Word) (s : State) : Host.Outcome State Fault Refusal :=
  .next (if bits w 63 56 = 0x4C then ldgApply s else s)

/-- LDG_APPLY_TAKE_EFFECT (R251). -/
def execLdgApplyTakeEffect (s : State) : Host.Outcome State Fault Refusal := .next (ldgTakeEffect s)

end Sys2Proof.Machine
end

