-- ==== Sys2Proof/Machine/Lift.lean ====
section
/-! DEFINITION. Meanings of the lift commands (chapter 11). -/
namespace Sys2Proof.Machine
open Sys2Proof

/-- A registration answered by the mode: in NIGHT a call that is kept wakes the device (R45, M6). -/
def wakeForCall (r : Bool × State) : State := if r.1 && r.2.mode.mode == .night then wakeNight 0x20 r.2 else r.2

/-- A call at its source. -/
def callAt (call : LiftCall) (s : State) : Bool × State :=
  match call with
  | .hall g j up side => registerCall g.val false j.val (if up then 1 else 2) side.val 0 s
  | .dest g o d side pass => registerCall g.val true o.val d.val side.val pass.val s
  | .car c j side => registerCarCall c.val j.val side.val s

/-- A step's counts, and the DEMAND streams they step (Table 16.5). -/
def countsHeard (payload : List Byte) (s : State) : State :=
  match messageRecs s payload 5 with
  | some (g, _) => feedDemand g (recvCounts payload s)
  | none => s

/-- A dispatch cycle; the counts this device publishes step its own DEMAND streams too. -/
def cycleAndFeed (cutOff : Bool) (s : State) : State :=
  let s1 := dispatchCycle cutOff s
  (List.range 16).foldl (fun s' g => if (grp s1 g).step ≠ (grp s g).step then feedDemand g s' else s') s1

/-- A command entry of a row. -/
def liftEntry (cmd : Nat) (c : Fin 8) (landing side dir : Nat) (req : BitVec 64) : LiftCmd :=
  { cmd := cmd, car := c.val, landing := landing, side := side, dir := dir, req := req.toNat }

/-- CAR_SERVO_INSTANT (R282): quadrature counts and double transitions since the last instant, and the SSI read with its age. -/
def execCarServoInstant (c : Fin 8) (inc : Int) (bothEdges : Bool) (ssi : SsiRead) (ageNs : Nat) (s : State) : Host.Outcome State Fault Refusal :=
  .next (carServo c.val inc bothEdges ssi ageNs s)

/-- DZ_EDGE (R265). -/
def execDzEdge (c : Fin 8) (rising : Bool) (sinceServoNs : Nat) (s : State) : Host.Outcome State Fault Refusal :=
  .next (dzEdge c.val rising sinceServoNs s)

/-- LEARN_RUN_COMPLETE (R266). -/
def execLearnRunComplete (c : Fin 8) (s : State) : Host.Outcome State Fault Refusal :=
  .next (if islRuns s islMOTION then learnComplete c.val s else s)

/-- CALL_REGISTRATION (R271). -/
def execCallRegistration (source : Nat) (seq : Option Nat) (call : LiftCall) (s : State) : Host.Outcome State Fault Refusal :=
  .next (wakeForCall (sourceCall source seq (callAt call) s))

/-- DISPATCH_CYCLE (R273): T_N samples the reports, and the cut-off decides. -/
def execDispatchCycle (cutOff : Bool) (s : State) : Host.Outcome State Fault Refusal := .next (cycleAndFeed cutOff s)

/-- ASSIGNMENT_RECEIVED (R285). -/
def execAssignmentReceived (c : Fin 8) (id : BitVec 32) (landing : Fin 128) (park : Bool) (s : State) : Host.Outcome State Fault Refusal :=
  .next (if islRuns s islMOTION then receiveAssign c.val { id := id.toNat, slot := some (carSlot s c.val), landing := landing.val, park := park, again := false } (((grp s (carGroup s c.val)).calls.find? (fun y => y.id == id.toNat)).map stopOf) s else s)

/-- TRIP_ENERGY_READ (R276). -/
def execTripEnergyRead (c : Fin 8) (s : State) : Host.Outcome State Fault Refusal :=
  .next (if islRuns s islMOTION then tripEnergy c.val s else s)

/-- TRIP_TIMEOUT (R289). -/
def execTripTimeout (c : Fin 8) (s : State) : Host.Outcome State Fault Refusal := .next (tripTimeout c.val s)

/-- DRIVE_STATUS_PDO (R278): a status PDO with its fault state and load, or three periods without one. -/
def execDriveStatusPdo (c : Fin 8) (pdo : Option (Bool × Option Nat)) (s : State) : Host.Outcome State Fault Refusal :=
  .next (drivePdo c.val pdo s)

/-- ISLAND_DISPATCH_FALLBACK (R279). -/
def execIslandDispatchFallback (g : Fin 16) (s : State) : Host.Outcome State Fault Refusal :=
  .next (if islRuns s islMOTION then islandFallback g.val s else s)

/-- CAR_REPORT (R280). -/
def execCarReport (payload : List Byte) (s : State) : Host.Outcome State Fault Refusal :=
  .next (if islRuns s islMOTION then recvReport payload s else s)

/-- DISPATCH_CALL (R280). -/
def execDispatchCall (payload : List Byte) (s : State) : Host.Outcome State Fault Refusal :=
  .next (if islRuns s islMOTION then recvCall payload s else s)

/-- ASSIGN (R280). -/
def execAssign (payload : List Byte) (s : State) : Host.Outcome State Fault Refusal :=
  .next (if islRuns s islMOTION then recvAssign payload s else s)

/-- CALL_CLEAR (R280). -/
def execCallClear (payload : List Byte) (s : State) : Host.Outcome State Fault Refusal :=
  .next (if islRuns s islMOTION then recvClear payload s else s)

/-- DEMAND_COUNTS (R280). -/
def execDemandCounts (payload : List Byte) (s : State) : Host.Outcome State Fault Refusal :=
  .next (countsHeard payload s)

/-- CAR_CALL (R283). -/
def execCarCall (c : Fin 8) (landing : Fin 65536) (side : Fin 256) (req : BitVec 64) (s : State) : Host.Outcome State Fault Refusal :=
  .next (liftRow (liftEntry 1 c landing.val side.val 0 req) s)

/-- HALL_CALL (R283): for the group of the car. -/
def execHallCall (c : Fin 8) (landing : Fin 65536) (side dir : Fin 256) (req : BitVec 64) (s : State) : Host.Outcome State Fault Refusal :=
  .next (liftRow (liftEntry 2 c landing.val side.val dir.val req) s)

/-- OUT_OF_SERVICE (R283). -/
def execOutOfService (c : Fin 8) (req : BitVec 64) (s : State) : Host.Outcome State Fault Refusal :=
  .next (liftRow (liftEntry 3 c 0 0 0 req) s)

/-- IN_SERVICE (R283). -/
def execInService (c : Fin 8) (req : BitVec 64) (s : State) : Host.Outcome State Fault Refusal :=
  .next (liftRow (liftEntry 4 c 0 0 0 req) s)

/-- LEARN_RUN (R266). -/
def execLearnRun (c : Fin 8) (req : BitVec 64) (s : State) : Host.Outcome State Fault Refusal :=
  .next (liftRow (liftEntry 5 c 0 0 0 req) s)

/-- CORRECTION_RUN (R267). -/
def execCorrectionRun (c : Fin 8) (req : BitVec 64) (s : State) : Host.Outcome State Fault Refusal :=
  .next (liftRow (liftEntry 6 c 0 0 0 req) s)

/-- TEST_RUN (R287). -/
def execTestRun (c : Fin 8) (landing : Fin 65536) (req : BitVec 64) (s : State) : Host.Outcome State Fault Refusal :=
  .next (liftRow (liftEntry 7 c landing.val 0 0 req) s)

/-- INSP_MOVE (R287). -/
def execInspMove (c : Fin 8) (dir : Fin 256) (req : BitVec 64) (s : State) : Host.Outcome State Fault Refusal :=
  .next (liftRow (liftEntry 8 c 0 0 dir.val req) s)

/-- LIFT_APPLY (R281): LIFT_CTL with ACTION APPLY. -/
def execLiftApply (w : Word) (s : State) : Host.Outcome State Fault Refusal :=
  .next (if islRuns s islMOTION && bits w 2 0 == 1 then liftCtl w s else s)

/-- FLOOR_RELOAD (R268). -/
def execFloorReload (w : Word) (s : State) : Host.Outcome State Fault Refusal :=
  .next (if islRuns s islMOTION && bits w 2 0 == 2 then liftCtl w s else s)

/-- ENERGY_RESET (R281). -/
def execEnergyReset (w : Word) (s : State) : Host.Outcome State Fault Refusal :=
  .next (if islRuns s islMOTION && bits w 2 0 == 3 then liftCtl w s else s)

/-- LIFT_DEFERRED_ACTION (R268). -/
def execLiftDeferredAction (s : State) : Host.Outcome State Fault Refusal :=
  .next (if islRuns s islMOTION then liftDeferred s else s)

/-- PERMIT_FALL (R261). -/
def execPermitFall (c : Fin 8) (p : Fin 4) (s : State) : Host.Outcome State Fault Refusal :=
  .next (permitFall c.val p.val s)

/-- PERMIT_RISE (R261). -/
def execPermitRise (c : Fin 8) (p : Fin 4) (s : State) : Host.Outcome State Fault Refusal :=
  .next (permitRise c.val p.val s)

end Sys2Proof.Machine
end

