-- ==== Sys2Proof/Machine/Meter.lean ====
section
/-! DEFINITION. Meanings of the electricity metering commands (chapter 9). -/
namespace Sys2Proof.Machine
open Sys2Proof

/-- BLOCK_DELIVERY (R208): the modulator bits of the block, the represented instant of its end, and whether its buffer read met an uncorrectable error. -/
def execBlockDelivery (endTime : Nat) (inputBits : List (List Bool)) (ecc : Bool) (s : State) : Host.Outcome State Fault Refusal :=
  .next (blockDelivery endTime inputBits ecc s)

/-- BLOCK_DELIVERY_RETRY (R208). -/
def execBlockDeliveryRetry (s : State) : Host.Outcome State Fault Refusal := .next (deliveryRetry s)

/-- INPUT_STUCK (R226). -/
def execInputStuck (i : Fin 160) (s : State) : Host.Outcome State Fault Refusal := .next (inputStuck i.val true s)

/-- MQ_SEL_WRITE (R221, R472). -/
def execMqSelWrite (w : Word) (s : State) : Host.Outcome State Fault Refusal :=
  .next (hostWrite 0x600 (mqSelWrite w) s)

/-- QUICK_VIEW_UPDATE (R221). -/
def execQuickViewUpdate (s : State) : Host.Outcome State Fault Refusal := .next (quickUpdate s)

/-- HARMONICS_START (R217): an MQ_HARM write with START = 1. -/
def execHarmonicsStart (w : Word) (s : State) : Host.Outcome State Fault Refusal :=
  .next (hostWrite 0x678 (fun s => if nightDown s then (.busy, s) else harmStart (bits w 6 0) s) s)

/-- HARMONICS_DONE (R217, R483). -/
def execHarmonicsDone (s : State) : Host.Outcome State Fault Refusal := .next (harmDone s)

/-- STUCK_INPUT_END (R226). -/
def execStuckInputEnd (i : Fin 160) (s : State) : Host.Outcome State Fault Refusal := .next (inputStuck i.val false s)

end Sys2Proof.Machine
end

