-- ==== Sys2Proof/Machine/Modes.lean ====
section
/-! DEFINITION. Meanings of the mode, bring-up and RTC commands (chapter 2). -/
namespace Sys2Proof.Machine
open Sys2Proof

/-- A mode request with its key, over whichever source (R35, R43). -/
def keyedRequest (src : ReqSource) (key : Nat) (f : State → Status × State) (s : State) : State :=
  match src with
  | .hp | .mp => hostWrite 0x090 (fun s => if key = 0xA5 then f s else (.refused, s)) s
  | .boulevard | .rtc => if key = 0xA5 then (f s).2 else s

/-- The calendar time of R245 in seconds since 2000-01-01: centre time plus LDG_TIME.CAL_OFFSET_NS. -/
def calendarSec (s : State) : Nat := calendarNs s / 1000000000

/-- MODE_REQUEST (R35, R43). -/
def execModeRequest (src : ReqSource) (key target : Nat) (s : State) : Host.Outcome State Fault Refusal :=
  .next (keyedRequest src key (modeRequest src (Mode.ofCode target)) s)

/-- MODE_REQ_CANCEL (R36, R43). -/
def execModeReqCancel (src : ReqSource) (key : Nat) (s : State) : Host.Outcome State Fault Refusal :=
  .next (keyedRequest src key (fun s => (.ok, cancelReq s)) s)

/-- SAFESTOP_CAUSE (R52). -/
def execSafestopCause (c : SafestopCause) (s : State) : Host.Outcome State Fault Refusal :=
  .next (match c with | .kerbFault => safestopCause 0x42 s | .kerbProgram => safestopCause 0x43 s | .request src => (modeRequest src .safestop s).2)

/-- RECALL_TRIGGER (R37, R50). -/
def execRecallTrigger (src : RecallSrc) (s : State) : Host.Outcome State Fault Refusal :=
  .next (match src with | .kerbSignal => recallSignal s | .request r => (modeRequest r .recall s).2)

/-- WAKE_EVENT (M6): the waking call is kept. -/
def execWakeEvent (k : WakeKind) (s : State) : Host.Outcome State Fault Refusal :=
  .next (match k with | .call => wakeNight 0x20 (keepWakeCall s) | .escalatorStart => wakeNight 0x20 s | .dispatch => wakeNight 0x12 s | .request src => (modeRequest src .service s).2)

/-- DEFERRED_REQUEST_ENTRY (R36). -/
def execDeferredRequestEntry (s : State) : Host.Outcome State Fault Refusal := .next (deferredEntry s)

/-- DEFERRED_REQUEST_TIMEOUT (R36). -/
def execDeferredRequestTimeout (s : State) : Host.Outcome State Fault Refusal := .next (deferredTimeout s)

/-- SCHEDULE_NIGHT_START (R46). -/
def execScheduleNightStart (s : State) : Host.Outcome State Fault Refusal := .next (nightStart s)

/-- SCHEDULE_NIGHT_END (R46). -/
def execScheduleNightEnd (s : State) : Host.Outcome State Fault Refusal := .next (nightEnd s)

/-- POWER_ON_RESET (R57). -/
def execPowerOnReset (s : State) : Host.Outcome State Fault Refusal := .next (powerOn s)

/-- RESET_N (R34). -/
def execResetN (s : State) : Host.Outcome State Fault Refusal := .next (deviceReset 0x02 s)

/-- SUPPLY_LOSS (R57): everything outside NVM is lost; the device stays in reset until its power-on. -/
def execSupplyLoss (s : State) : Host.Outcome State Fault Refusal :=
  .next ({ powerOn s with pkg := { (powerOn s).pkg with railHold := true } })

/-- WAKE_AFTER_DORMANT_ENTRY (R51). -/
def execWakeAfterDormantEntry (s : State) : Host.Outcome State Fault Refusal := .next (wakeDormant s)

/-- WAKE_N_EDGE (R41): a falling edge on either ball. -/
def execWakeNEdge (pin : Fin 2) (s : State) : Host.Outcome State Fault Refusal :=
  .next ((fun (_ : Fin 2) => wakeDormant s) pin)

/-- RTC_TIME_WRITE (R46). -/
def execRtcTimeWrite (w : Word) (s : State) : Host.Outcome State Fault Refusal :=
  .next (hostWriteOk 0x098 (rtcWrite (bits w 63 32)) s)

/-- RTC_MINUTE_SYNC (R46): only while centre time is valid. -/
def execRtcMinuteSync (s : State) : Host.Outcome State Fault Refusal :=
  .next (if s.time.centreValid then rtcWrite (calendarSec s) s else s)


end Sys2Proof.Machine
end

