-- ==== Sys2Proof/Machine/Motion.lean ====
section
/-! DEFINITION. Meanings of the motion commands (chapter 12). -/
namespace Sys2Proof.Machine
open Sys2Proof

/-- A command of a row (Table 12.3). -/
def motCmdOf (op : Nat) (flags : Fin 256) (vcap : BitVec 32) (target : BitVec 64) (arg : BitVec 64) (req : BitVec 64) : MotCmd :=
  { op := op, flags := flags.val, vcap := vcap.toNat, target := target.toInt, req := req.toNat, arg := arg.toInt }

/-- A servo instant; NUDGE of a lift door sounds its cue (R284, R329). -/
def axisInstant (a : Nat) (s : State) : State :=
  let s1 := axisServo a s
  if a < 16 && liftOwned s a && !(door s a).nudge && (door s1 a).nudge then liftCue (axCar s a) 2 s1 else s1

/-- MOVE_ABS (R298). -/
def execMoveAbs (a : Fin 28) (flags : Fin 256) (vcap : BitVec 32) (target req : BitVec 64) (s : State) : Host.Outcome State Fault Refusal :=
  .next (motRow a.val (motCmdOf 1 flags vcap target 0 req) s)

/-- MOVE_REL (R298). -/
def execMoveRel (a : Fin 28) (flags : Fin 256) (vcap : BitVec 32) (target req : BitVec 64) (s : State) : Host.Outcome State Fault Refusal :=
  .next (motRow a.val (motCmdOf 2 flags vcap target 0 req) s)

/-- STOP (R299). -/
def execStop (a : Fin 28) (req : BitVec 64) (s : State) : Host.Outcome State Fault Refusal :=
  .next (motRow a.val (motCmdOf 3 0 0 0 0 req) s)

/-- RESUME (R299). -/
def execResume (a : Fin 28) (req : BitVec 64) (s : State) : Host.Outcome State Fault Refusal :=
  .next (motRow a.val (motCmdOf 4 0 0 0 0 req) s)

/-- HOME (R306). -/
def execHome (a : Fin 28) (vcap : BitVec 32) (arg req : BitVec 64) (s : State) : Host.Outcome State Fault Refusal :=
  .next (motRow a.val (motCmdOf 5 0 vcap 0 arg req) s)

/-- GEAR_ON (R304). -/
def execGearOn (a : Fin 28) (flags : Fin 256) (arg req : BitVec 64) (s : State) : Host.Outcome State Fault Refusal :=
  .next (motRow a.val (motCmdOf 6 flags 0 0 arg req) s)

/-- GEAR_OFF (R305). -/
def execGearOff (a : Fin 28) (flags : Fin 256) (vcap : BitVec 32) (target req : BitVec 64) (s : State) : Host.Outcome State Fault Refusal :=
  .next (motRow a.val (motCmdOf 7 flags vcap target 0 req) s)

/-- ENABLE (R296). -/
def execEnable (a : Fin 28) (req : BitVec 64) (s : State) : Host.Outcome State Fault Refusal :=
  .next (motRow a.val (motCmdOf 8 0 0 0 0 req) s)

/-- DISABLE (R296). -/
def execDisable (a : Fin 28) (req : BitVec 64) (s : State) : Host.Outcome State Fault Refusal :=
  .next (motRow a.val (motCmdOf 9 0 0 0 0 req) s)

/-- FAULT_CLEAR (R312). -/
def execFaultClear (a : Fin 28) (req : BitVec 64) (s : State) : Host.Outcome State Fault Refusal :=
  .next (motRow a.val (motCmdOf 10 0 0 0 0 req) s)

/-- SET_POS (R296). -/
def execSetPos (a : Fin 28) (target req : BitVec 64) (s : State) : Host.Outcome State Fault Refusal :=
  .next (motRow a.val (motCmdOf 11 0 0 target 0 req) s)

/-- ESC_CLEAR (R308). -/
def execEscClear (c : Fin 4) (req : BitVec 64) (s : State) : Host.Outcome State Fault Refusal :=
  .next (if islRuns s islMOTION then escClear c.val req.toNat s else s)

/-- AXIS_SERVO_INSTANT (R298). -/
def execAxisServoInstant (a : Fin 24) (s : State) : Host.Outcome State Fault Refusal := .next (axisInstant a.val s)

/-- HOMING_TIMEOUT (R306). -/
def execHomingTimeout (a : Fin 24) (s : State) : Host.Outcome State Fault Refusal :=
  .next (if islRuns s islMOTION then homeFail a.val s else s)

/-- LIMIT_INPUT_ACTIVE (R301): a limit ball's new level. -/
def execLimitInputActive (a : Fin 24) (hi level : Bool) (sinceServoNs : Nat) (s : State) : Host.Outcome State Fault Refusal :=
  .next (if islRuns s islMOTION then limitInput a.val hi level sinceServoNs s else s)

/-- ESCALATOR_EVALUATION (R308): step-chain counts and handrail pulses of the time since the last. -/
def execEscalatorEvaluation (c : Fin 4) (counts : Int) (left right : Nat) (ms : Nat) (s : State) : Host.Outcome State Fault Refusal :=
  .next (escStep c.val counts left right ms s)

/-- MOT_APPLY (R309): MOT_CTL with ACTION APPLY. -/
def execMotApply (w : Word) (s : State) : Host.Outcome State Fault Refusal :=
  .next (if islRuns s islMOTION && bits w 1 0 == 1 then motCtl w s else s)

/-- MOT_APPLY_DEFERRED (R309). -/
def execMotApplyDeferred (s : State) : Host.Outcome State Fault Refusal :=
  .next (if islRuns s islMOTION then motDeferred s else s)

/-- TABLE_INVALIDATE (R310). -/
def execTableInvalidate (w : Word) (s : State) : Host.Outcome State Fault Refusal :=
  .next (if islRuns s islMOTION && bits w 1 0 == 2 then motCtl w s else s)

end Sys2Proof.Machine
end

