-- ==== Sys2Proof/Machine/Package.lean ====
section
/-! DEFINITION. Meanings of the supply, ball and test access port commands (chapter 20). -/
namespace Sys2Proof.Machine
open Sys2Proof

/-! ### Supplies (R503 to R505) -/

/-- The island whose fault a rail's alarm is (R503). -/
def railIsland : Rail → Option Nat
  | .vioMtr => some islNIGHT
  | .vioMot | .vddaMot => some islMOTION
  | .vioIo | .vioXspi => some islIO
  | .vioAud => some islAUDIO
  | .vddSds | .vddhSds => some islLINK
  | _ => none

/-- Note a rail's alarm. -/
def noteAlarm (r : Rail) (s : State) : State :=
  { s with pkg := { s.pkg with alarms := if s.pkg.alarms.contains r then s.pkg.alarms else s.pkg.alarms ++ [r] } }

/-- A monitor alarm (R503). -/
def supplyAlarm (r : Rail) (aonLost : Bool) (s : State) : State :=
  let s1 := noteAlarm r s
  match railIsland r with
  | some i => islandFault i (modIsl s1 i (fun x => { x with supplyAlarm := true }))
  | none =>
    match r with
    | .vddaPll => refclkLoss s1
    | .vddKerb => if s.kerb.run == .off || s.kerb.run == .fault then s1 else safestopCause 0x42 (kerbSupplyAlarm s1)
    | .vddAon | .vioAon | .vddCore =>
      let s2 := { s with pkg := { s.pkg with alarms := s.pkg.alarms.filter (· != r) } }
      if aonLost then powerOn s2 else deviceReset 0x05 s2
    | .vddSram => (List.range 14).foldl (fun s k => islandFault (k + 2) s) s1
    | _ => s1

/-- A monitor alarm clears (R503). -/
def supplyClear (r : Rail) (s : State) : State :=
  let s1 := { s with pkg := { s.pkg with alarms := s.pkg.alarms.filter (· != r) } }
  match railIsland r with
  | some i =>
    if s1.pkg.alarms.any (fun x => railIsland x == some i) then s1
    else modIsl s1 i (fun x => { x with supplyAlarm := false })
  | none => if r == .vddKerb then kerbSupplyClear s1 else s1

/-- A rail is not in range 180 µs after its PWR_EN (R504): every enable goes low and the device holds itself in reset. -/
def railTimeout (s : State) : State :=
  if s.mode.mode == .bringup && s.mode.step == 1 then
    { s with pkg := { s.pkg with pwrEn := 0, resetOutN := false, railHold := true } }
  else s

/-- 100 ms later the power-up sequence is repeated (R504). -/
def railRetry (s : State) : State :=
  if s.pkg.railHold && s.mode.mode == .bringup then { s with pkg := { s.pkg with railHold := false } } else s

/-! ### Balls (R496) -/

/-- One management read of a PHY's basic status. -/
def mdioPoll (portQ : Bool) (status : BitVec 16) (sync : Bool) (s : State) : State :=
  if !s.pkg.blvRstN then s
  else if portQ then { s with pkg := { s.pkg with phyQ := status.toNat, ledQ := sync } }
  else { s with pkg := { s.pkg with phyP := status.toNat, ledP := sync } }

/-- TIME_PPS rises for 10 ms. -/
def timePps (s : State) : State := { s with time := { s.time with pps := true, ppsFall := s.time.uptime + 10000000 } }

/-! ### The test access port (R497) -/

/-- An instruction that drives or floats balls is in force. -/
def tapActive (s : State) : Bool := s.pkg.scanDrives || s.pkg.scanFloats

/-- Leaving EXTEST, CLAMP or HIGHZ resets the device; a cold bring-up follows. -/
def tapLeave (s : State) : State := if tapActive s then deviceReset Config.tapResetCause.toNat s else s

/-- EXTEST, CLAMP and HIGHZ take effect only in BRINGUP or SAFESTOP with both keys asserted. -/
def tapAllowed (s : State) (keys : Bool) : Bool := keys && (s.mode.mode == .bringup || s.mode.mode == .safestop)

/-- Load a TAP instruction with what its register captures. -/
def tapLoad (i : TapInstr) (tdo : Nat) (s : State) : State :=
  { s with pkg := { s.pkg with tap := i, tdo := tdo, scanDrives := i == .extest || i == .clamp, scanFloats := i == .highz } }

/-- The IDCODE of the revision. -/
def idcode (s : State) : Nat := if s.pkg.revA1 then 0x17256B4B else 0x07256B4B

/-- One of EXTEST, CLAMP and HIGHZ: executed, or acting as BYPASS. -/
def tapScan (i : TapInstr) (keys : Bool) (s : State) : State :=
  if s.pkg.tap == i && tapActive s then s
  else
    let s1 := tapLeave s
    if tapAllowed s1 keys then tapLoad i 0 s1 else tapLoad .bypass 0 s1

/-- BYPASS (R497): the bypass register captures 0. -/
def execBypass (s : State) : Host.Outcome State Fault Refusal := .next (tapLoad .bypass 0 (tapLeave s))

/-- IDCODE (R497). -/
def execIdcode (s : State) : Host.Outcome State Fault Refusal := .next (tapLoad .idcode (idcode s) (tapLeave s))

/-- SAMPLE_PRELOAD (R497): the balls are captured and the shifted values preloaded. -/
def execSamplePreload (balls : List Bool) (shiftIn : List Bool) (s : State) : Host.Outcome State Fault Refusal :=
  .next (let s1 := tapLoad .samplePreload (maskOf balls) (tapLeave s); { s1 with pkg := { s1.pkg with preload := shiftIn } })

/-- EXTEST (R497). -/
def execExtest (keys : Bool) (s : State) : Host.Outcome State Fault Refusal := .next (tapScan .extest keys s)

/-- CLAMP (R497). -/
def execClamp (keys : Bool) (s : State) : Host.Outcome State Fault Refusal := .next (tapScan .clamp keys s)

/-- HIGHZ (R497). -/
def execHighz (keys : Bool) (s : State) : Host.Outcome State Fault Refusal := .next (tapScan .highz keys s)

/-- SUPPLY_MONITOR_ALARM (R503). -/
def execSupplyMonitorAlarm (r : Rail) (aonLost : Bool) (s : State) : Host.Outcome State Fault Refusal :=
  .next (supplyAlarm r aonLost s)

/-- RAIL_CHECK_TIMEOUT (R504). -/
def execRailCheckTimeout (s : State) : Host.Outcome State Fault Refusal := .next (railTimeout s)

/-- RAIL_RETRY (R504). -/
def execRailRetry (s : State) : Host.Outcome State Fault Refusal := .next (railRetry s)

/-- MDIO_POLL (R496). -/
def execMdioPoll (portQ : Bool) (status : BitVec 16) (sync : Bool) (s : State) : Host.Outcome State Fault Refusal :=
  .next (mdioPoll portQ status sync s)

/-- TIME_PPS (R496). -/
def execTimePps (s : State) : Host.Outcome State Fault Refusal := .next (timePps s)

/-- SUPPLY_ALARM_CLEAR (R503). -/
def execSupplyAlarmClear (r : Rail) (s : State) : Host.Outcome State Fault Refusal := .next (supplyClear r s)

/-- TAP_RESET (R497): the TAP holds IDCODE after its reset. -/
def execTapReset (s : State) : Host.Outcome State Fault Refusal := .next (tapLoad .idcode (idcode s) (tapLeave s))


end Sys2Proof.Machine
end

