-- ==== Sys2Proof/Machine/CoreIsa.lean ====
section
/-! DEFINITION. The issue of a Signal Core bundle: compute operations, moves, control operations, exceptions and the fabric
accesses of a core (chapters 7 and 8). -/
namespace Sys2Proof.Machine
open Sys2Proof

/-! ### Complex arithmetic (R165, R166, R173) -/

/-- The real part of a D register: bits [31:0] as a signed number (Table 7.1). -/
def reOf (w : Word) : Int := sbits w 31 0
/-- The imaginary part: bits [63:32]. -/
def imOf (w : Word) : Int := sbits w 63 32

/-- A D register from two signed 32-bit parts. -/
def pairOf32 (re im : Int) : Word := packWord [(0, ofSigned 32 re), (32, ofSigned 32 im)]

/-- An exact value stored into an 80-bit part: it wraps, and a value outside the range sets AOV (R165). -/
def into80 (x : Int) : BitVec 80 × Bool := (BitVec.ofInt 80 x, decide (x < -(2 ^ 79)) || decide (2 ^ 79 ≤ x))

/-- An accumulator from exact parts, with the sticky bit AOV where one wrapped. -/
def accOf (re im : Int) : Acc × Nat :=
  let a := into80 re
  let b := into80 im
  (⟨a.1, b.1⟩, if a.2 || b.2 then 32 else 0)

/-- Saturate to `w` bits: the value and whether it was saturated. -/
def satFlag (w : Nat) (x : Int) : Int × Bool :=
  let hi : Int := 2 ^ (w - 1)
  if x < -hi then (-hi, true) else if hi ≤ x then (hi - 1, true) else (x, false)

/-- Round a part to Q1.31 by ST.RND and saturate (R166). -/
def roundPart (rnd : Bool) (x : BitVec 80) : Int × Bool :=
  let v := x.toInt
  let q := v / 2 ^ 32
  let r := v % 2 ^ 32
  let up := if rnd then decide (2 ^ 31 < r) || (decide (r = 2 ^ 31) && decide (q % 2 = 1)) else decide (2 ^ 31 ≤ r)
  satFlag 32 (if up then q + 1 else q)

/-- An accumulator as STA and MOVD store it, with the sticky bit SAT (R166). -/
def storePair (rnd : Bool) (a : Acc) : Word × Nat :=
  let x := roundPart rnd a.re
  let y := roundPart rnd a.im
  (pairOf32 x.1 y.1, if x.2 || y.2 then 16 else 0)

/-- A part as STL, MOVDL and MOVDI store it, with the sticky bit SAT (R166). -/
def storeLong (x : BitVec 80) : Word × Nat :=
  let v := satFlag 64 x.toInt
  (BitVec.ofInt 64 v.1, if v.2 then 16 else 0)

/-- The complex product, each part shifted left by one bit (R165). -/
def cProd (a b : Word) : Int × Int :=
  (2 * (reOf a * reOf b - imOf a * imOf b), 2 * (reOf a * imOf b + imOf a * reOf b))

/-- The complex product with the conjugate of the second operand. -/
def cProdJ (a b : Word) : Int × Int :=
  (2 * (reOf a * reOf b + imOf a * imOf b), 2 * (imOf a * reOf b - reOf a * imOf b))

/-- The two real products. -/
def rProd (a b : Word) : Int × Int := (2 * (reOf a * reOf b), 2 * (imOf a * imOf b))

/-- Add a product, times a sign, to an accumulator. -/
def accPlus (a : Acc) (sg : Int) (p : Int × Int) : Acc × Nat := accOf (a.re.toInt + sg * p.1) (a.im.toInt + sg * p.2)

/-! ### What a compute slot computes (Table 7.6) -/

/-- The outcome of a compute slot: a new accumulator, a new D register, flags, sticky bits and a new IDX. -/
structure Fx where
  acc : Option (Nat × Acc)
  d : Option (Nat × Word)
  flags : Option Nat
  sticky : Nat
  idx : Option (BitVec 32)
  deriving DecidableEq, Repr

/-- No effect. -/
def Fx.none : Fx := { acc := .none, d := .none, flags := .none, sticky := 0, idx := .none }

/-- A new accumulator with its sticky bits. -/
def fxAcc (i : Nat) (r : Acc × Nat) : Fx := { Fx.none with acc := some (i, r.1), sticky := r.2 }

/-- A new D register without flags. -/
def fxD (i : Nat) (r : Word × Nat) : Fx := { Fx.none with d := some (i, r.1), sticky := r.2 }

/-- Flags V, C, N, Z in bits 3–0 of a 64-bit result (R173). -/
def flagsOf (r : Word) (c v : Bool) : Nat := b2n (r == 0) + 2 * b2n r.msb + 4 * b2n c + 8 * b2n v

/-- A new D register with flags. -/
def fxF (i : Nat) (r : Word) (c v : Bool) : Fx := { Fx.none with d := some (i, r), flags := some (flagsOf r c v) }

/-- A new D register whose flags C and V the spec does not state (R173). -/
def fxOpen (op i : Nat) (r x y : Word) : Fx :=
  let f := Config.moveFlags op x y
  fxF i r (f.getLsbD 1) (f.getLsbD 0)

/-- The sum's carry and overflow. -/
def fxAdd (i : Nat) (a b : Word) : Fx :=
  fxF i (a + b) (decide (2 ^ 64 ≤ a.toNat + b.toNat)) ((a.msb == b.msb) && ((a + b).msb != a.msb))

/-- The borrow and overflow of a difference. -/
def subFlags (a b : Word) : Nat := flagsOf (a - b) (decide (a.toNat < b.toNat)) ((a.msb != b.msb) && ((a - b).msb != a.msb))

/-- Both parts saturated to Q1.31; `sets` says whether a saturation sets SAT. -/
def fxPair (i : Nat) (sets : Bool) (re im : Int) : Fx :=
  let x := satFlag 32 re
  let y := satFlag 32 im
  fxD i (pairOf32 x.1 y.1, if sets && (x.2 || y.2) then 16 else 0)

/-- MAXI and MINI (R172). -/
def fxSearch (k : CoreState) (dst sa md : Nat) (max : Bool) : Fx :=
  let v0 := reOf (rdD k sa)
  let v := if md.testBit 0 then (if v0 = -(2 ^ 31) then 2 ^ 31 - 1 else (v0.natAbs : Int)) else v0
  let cur := reOf (rdD k dst)
  let idx := k.cur.idx
  let hit := if max then decide (cur < v) else decide (v < cur)
  { Fx.none with
    d := if hit then some (dst, packWord [(0, ofSigned 32 v), (32, idx.toNat)]) else none
    idx := some (idx + 1) }

/-- The shift count of SHL, SHR, SAR, SHRA and SHLA (Table 7.4). -/
def shiftCount (k : CoreState) (sb md : Nat) : Nat := if md.testBit 7 then md % 64 else (rdD k sb).toNat % 64

/-- The compute slot's effect (Table 7.6); none where OP is not listed. -/
def computeFx (k : CoreState) (op dst sa sb md : Nat) : Option Fx :=
  let a := rdD k sa
  let b := rdD k sb
  let an := dst % 4
  let acc := rdAccW k an
  let am := rdAccW k (sa % 4)
  let n := shiftCount k sb md
  let rnd := bit k.cur.st 8
  let neg := Config.negSetsSat op
  match op with
  | 0x00 => some Fx.none
  | 0x01 => some (fxAcc an (accPlus acc 1 (cProd a b)))
  | 0x02 => some (fxAcc an (accPlus acc (-1) (cProd a b)))
  | 0x03 => some (fxAcc an (accPlus acc 1 (cProdJ a b)))
  | 0x04 => some (fxAcc an (accPlus Acc.zero 1 (cProd a b)))
  | 0x05 => some (fxAcc an (accPlus acc 1 (cProd a b)))
  | 0x06 => some (fxAcc an (accPlus acc 1 (rProd a b)))
  | 0x07 => some (fxAcc an (accPlus acc (-1) (rProd a b)))
  | 0x08 => some (fxAcc an (accPlus Acc.zero 1 (rProd a b)))
  | 0x09 => some (fxAcc an (accPlus acc 1 (rProd a b)))
  | 0x0A => some (fxAcc an (Acc.zero, 0))
  | 0x0B => some (fxAcc an (accOf (reOf a * 2 ^ 32) (imOf a * 2 ^ 32)))
  | 0x0C => some (fxAcc an (accOf (acc.re.toInt + am.re.toInt) (acc.im.toInt + am.im.toInt)))
  | 0x0D => some (fxAcc an (accOf (acc.re.toInt - am.re.toInt) (acc.im.toInt - am.im.toInt)))
  | 0x0E => some (fxAcc an (⟨acc.re.sshiftRight n, acc.im.sshiftRight n⟩, 0))
  | 0x0F => some (fxAcc an (⟨acc.re <<< n, acc.im <<< n⟩, 0))
  | 0x10 => some (fxD dst (storePair rnd (rdAcc k (sa % 4))))
  | 0x11 => some (fxD dst (storeLong (rdAcc k (sa % 4)).re))
  | 0x12 => some (fxD dst (storeLong (rdAcc k (sa % 4)).im))
  | 0x18 => some (fxAdd dst a b)
  | 0x19 => some { Fx.none with d := some (dst, a - b), flags := some (subFlags a b) }
  | 0x1A => some (fxF dst (a &&& b) false false)
  | 0x1B => some (fxF dst (a ||| b) false false)
  | 0x1C => some (fxF dst (a ^^^ b) false false)
  | 0x1D => some (fxF dst (a <<< n) false false)
  | 0x1E => some (fxF dst (a >>> n) false false)
  | 0x1F => some (fxF dst (a.sshiftRight n) false false)
  | 0x20 => some { Fx.none with flags := some (subFlags a b) }
  | 0x21 => some (fxOpen op dst a a 0)
  | 0x22 => some (fxPair dst true (reOf a + reOf b) (imOf a + imOf b))
  | 0x23 => some (fxPair dst true (reOf a - reOf b) (imOf a - imOf b))
  | 0x24 => some (fxPair dst neg (-(reOf a)) (-(imOf a)))
  | 0x25 => some (fxPair dst neg (reOf a) (-(imOf a)))
  | 0x26 => some (fxD dst (pairOf32 (imOf a) (reOf a), 0))
  | 0x27 => some (fxOpen op dst (BitVec.ofInt 64 (reOf a * reOf b)) a b)
  | 0x28 => some (fxSearch k dst sa md true)
  | 0x29 => some (fxSearch k dst sa md false)
  | 0x2A => some (fxPair dst neg ((reOf a).natAbs : Int) ((imOf a).natAbs : Int))
  | _ => none

/-- The pending results of a compute slot (R161). -/
def fxPend (f : Fx) : List Pend :=
  (f.d.toList.map (fun p => ⟨0, .d p.1 p.2⟩)) ++ (f.flags.toList.map (fun v => ⟨0, .flags v⟩)) ++
  (f.idx.toList.map (fun v => ⟨0, .sreg 0x21 (v.setWidth 64)⟩)) ++
  (if f.sticky = 0 then [] else [⟨0, .sticky f.sticky⟩]) ++ (f.acc.toList.map (fun p => ⟨1, .acc p.1 p.2⟩))

/-! ### Exceptions a bundle raises (R158, R164, R168, R174, R177) -/

/-- One access of a bundle: its address and size. -/
structure Access where
  addr : BitVec 41
  size : Nat
  deriving DecidableEq, Repr

/-- The op moves the loaded word up a delay line (R171). -/
def isFtap (op : Nat) : Bool := op = 0x05 || op = 0x09

/-- The X-slot load of a bundle. -/
def loadX (k : CoreState) (mv : Moves) : Option Access :=
  if slotAccess false mv.x then some ⟨slotAddr k false mv.x, slotSize false mv.x⟩ else none

/-- The Y-slot load or the store. -/
def slotY (k : CoreState) (mv : Moves) : Option Access :=
  if slotAccess mv.store mv.y then some ⟨slotAddr k mv.store mv.y, slotSize mv.store mv.y⟩ else none

/-- The FTAP write: the load address plus the access size under the load pointer's B and L (R171). -/
def ftapMove (k : CoreState) (op : Nat) (mv : Moves) : Option Access :=
  if isFtap op then
    (loadX k mv).map (fun x => ⟨ptrAdd x.addr (rdB k mv.x.ptr.val) (rdL k mv.x.ptr.val) (x.size : Int), x.size⟩)
  else none

/-- The accesses of a bundle in the order R159 serves them. -/
def accessesOf (k : CoreState) (op : Nat) (mv : Moves) : List Access :=
  (loadX k mv).toList ++ (slotY k mv).toList ++ (ftapMove k op mv).toList

/-- An exception: vector and fault address. -/
structure Exc where
  vec : Nat
  faddr : Word
  deriving DecidableEq, Repr

/-- The exception an access raises: ALIGN, then ADDRESS. -/
def accessExc (x : Access) : Option Exc :=
  let w := x.addr.setWidth 64
  if x.addr.toNat % x.size ≠ 0 then some ⟨2, w⟩
  else if !isPlaza x.addr && !coreLocalOk x.addr then some ⟨3, w⟩
  else none

/-- The lower of two exceptions. -/
def minExc (a b : Option Exc) : Option Exc :=
  match a, b with
  | some x, some y => if y.vec < x.vec then some y else some x
  | none, y => y
  | x, none => x

/-- A load slot holds the reserved KIND 3. -/
def kind3 (mv : Moves) : Bool := mv.x.kind.val = 3 || (!mv.store && mv.y.kind.val = 3)

/-- A control opcode of R174 that may not stand in a delay slot. -/
def branchOp (opc : Nat) : Bool := (1 ≤ opc && opc ≤ 6) || opc = 8

/-- A FORM 2 bundle is illegal (R174, R177, R193). -/
def ctlIllegal (k : CoreState) (opc ops : Nat) : Bool :=
  let code := ops / 2 ^ 40 % 64
  if k.br.slots ≠ 0 && branchOp opc then true
  else match opc with
    | 0x00 => false
    | 0x01 => decide (9 < ops / 2 ^ 52 % 16)
    | 0x02 => decide (9 < ops / 2 ^ 52 % 16)
    | 0x03 => false
    | 0x04 => false
    | 0x05 => false
    | 0x06 => !k.bank
    | 0x08 => false
    | 0x09 => false
    | 0x0A => if ops.testBit 55 then (sregRead k k.cur 0 code).isNone else !sregWritable code
    | 0x0B => false
    | 0x0C => false
    | 0x0D => false
    | 0x0E => false
    | 0x0F => false
    | _ => true

/-- The exception a bundle raises, the lowest vector first (R196). -/
def bundleExc (k : CoreState) (b : Bundle) : Option Exc :=
  let own : Option Exc := match b with
    | .form3 => some ⟨1, 0⟩
    | .slots op dst sa sb md mv =>
      if (computeFx k op dst sa sb md).isNone || (kind3 mv && Config.moveKind3Illegal) then some ⟨1, 0⟩
      else (accessesOf k op mv).foldl (fun e x => minExc e (accessExc x)) none
    | .ctl opc ops =>
      if ctlIllegal k opc ops then some ⟨1, 0⟩
      else if opc = 8 && 4 ≤ k.cur.rep.length then some ⟨5, 0⟩
      else none
  let abort : Option Exc := k.aborts.head?.map (fun a => ⟨4, BitVec.ofNat 64 (2 ^ 40 + a)⟩)
  minExc own abort

/-- The exception of vector 4 has been taken. -/
def dropAbort (vec : Nat) (k : CoreState) : CoreState := if vec = 4 then { k with aborts := k.aborts.tail } else k

/-! ### Boundaries (R187) -/

/-- A breakpoint matches before the next bundle (R201). -/
def bkptHit (k : CoreState) : Bool :=
  !k.skipBkpt && k.bkpt.toList.any (fun w => bit w 63 && bits w 13 0 == k.pc)

/-- The interrupt entry the boundary takes, if any: FAST first (R187). -/
def takeIrq (n : Nat) (s : State) : Option State :=
  let k := core s n
  match (if fastAllowed k then bestChan k true else none), (if heldAllowed k then bestChan k false else none) with
  | some c, _ => some (enterFast n c s)
  | none, some c => some (enterHeld n c s)
  | none, none => none

/-! ### The Crossroads port (R175) -/

/-- The initiator of core `n`. -/
def coreIni (n : Nat) : Initiator := .island (Fin.ofNat 16 (islSC n))

/-- Posted stores complete in program order until one is answered RETRY; ABORT raises BUS_ABORT (R175). -/
def drainPosted (n : Nat) (s : State) : State :=
  ((List.range 4).foldl (fun (p : Bool × State) _ =>
    if !p.1 then p
    else match (core p.2 n).posted with
      | [] => p
      | (a, sz, w) :: t =>
        let strobe := if sz = 8 then 255 else 15 * 2 ^ (a % 8)
        let r := fabWrite (coreIni n) a strobe (if sz = 8 then w else w <<< (8 * (a % 8))) p.2
        (match r.1 with
          | .retry => (false, p.2)
          | .abort => (true, modCore n (fun k => { k with posted := t, aborts := k.aborts ++ [a] }) r.2)
          | _ => (true, modCore n (fun k => { k with posted := t }) r.2))) (true, s)).2

/-- The cycles the port keeps the core waiting, and the longest grant, are free values (R175, R178). -/
def portWait (k : CoreState) : CoreState :=
  { addCycles (Config.fabricCycles k.freeIdx) k with
    stallFab := (k.stallFab + Config.fabricCycles k.freeIdx) % 2 ^ 32
    fabWaitMax := max k.fabWaitMax (satTo 16 (Config.fabricGrant k.freeIdx)), freeIdx := k.freeIdx + 1 }

/-- What came of a bundle's loads. -/
structure Loads where
  /-- Values read so far, none once the bundle must wait. -/
  vals : Option (List Word)
  /-- Replies a stalled bundle has kept, not yet used. -/
  got : List Word
  /-- Every Plaza reply so far. -/
  seen : List Word
  /-- A local word with an uncorrectable error was read. -/
  bad : Bool
  st : State

/-- The bytes of a load in the word that holds them. -/
def pickBytes (x : Access) (w : Word) : Word :=
  if x.size = 8 then w else BitVec.ofNat 64 (w.toNat / 2 ^ (8 * (x.addr.toNat % 8)) % 2 ^ 32)

/-- One load: local at once, Plaza through the port after every earlier posted store (R175). -/
def loadOne (n : Nat) (p : Loads) (x : Access) : Loads :=
  match p.vals with
  | none => p
  | some vs =>
    if !isPlaza x.addr then
      let a := localAddr n x.addr.toNat
      { p with vals := some (vs ++ [pickBytes x (p.st.mem.readW (a / 8 * 8))]), bad := p.bad || p.st.ecc.contains (a / 8 * 8) }
    else match p.got with
      | g :: t => { p with vals := some (vs ++ [pickBytes x g]), got := t, seen := p.seen ++ [g] }
      | [] =>
        let a := x.addr.toNat % 2 ^ 40
        let s1 := drainPosted n p.st
        if !(core s1 n).posted.isEmpty then { p with vals := none, st := s1 }
        else
          let r := fabRead (coreIni n) a s1
          match r.1.status with
          | .retry => { p with vals := none, st := s1 }
          | .abort =>
            { p with vals := some (vs ++ [0]), seen := p.seen ++ [0]
                     st := modCore n (fun k => { portWait k with aborts := k.aborts ++ [a] }) r.2 }
          | _ => { p with vals := some (vs ++ [pickBytes x r.1.data]), seen := p.seen ++ [r.1.data], st := modCore n portWait r.2 }

/-- The loads of a bundle: X, then Y. -/
def loadsOf (k : CoreState) (mv : Moves) : List Access :=
  (loadX k mv).toList ++ (if mv.store then [] else (slotY k mv).toList)

/-! ### Completion of a bundle -/

/-- The word a store slot stores, with the sticky bit SAT (Table 7.4, R166). -/
def storeValue (k : CoreState) (m : MoveSlot) : Word × Nat :=
  match m.kind.val with
  | 1 => (rdD k m.reg.val, 0)
  | 2 => storePair (bit k.cur.st 8) (rdAcc k (m.reg.val % 4))
  | _ => storeLong (rdAcc k (m.reg.val % 4)).re

/-- Write a value at an address of the core: local memory at once, Plaza space through the posted store buffer (R175). -/
def coreStore (n : Nat) (x : Access) (w : Word) (s : State) : State :=
  if isPlaza x.addr then modCore n (fun k => { k with posted := k.posted ++ [(x.addr.toNat % 2 ^ 40, x.size, w)] }) s
  else
    let a := localAddr n x.addr.toNat
    { s with mem := Memory.writeN s.mem a x.size w.toNat
             ecc := if x.size = 8 then s.ecc.filter (fun e => e ≠ a) else s.ecc }

/-- Stall cycles of R159: accesses that find their bank used, and data accesses to program memory while the P bus fetches. -/
def bankStalls (l : List Access) (cached : Bool) : Nat :=
  let banks := (l.filter (fun x => !isPlaza x.addr)).map (fun x => localBank x.addr.toNat)
  (banks.foldl (fun (p : List Nat × Nat) b => (b :: p.1, p.2 + b2n (p.1.contains b))) ([], 0)).2 +
  (if cached then 0 else (banks.filter (· == 4)).length)

/-- The loop cache holds the bundle at PC and its level runs (R170). -/
def cacheHit (k : CoreState) : Option Word :=
  match k.lc, k.cur.rep with
  | some c, r :: _ =>
    if !c.filling && r.start = c.start && r.stop = (c.start + c.len - 1) % 2 ^ 14 then tget c.body k.pc else none
  | _, _ => none

/-- The bundle at PC is fetched: counted when it comes from the loop cache, captured when the cache is filling (R170). -/
def noteFetch (w : Word) (k : CoreState) : CoreState :=
  match cacheHit k with
  | some _ => { k with hits := (k.hits + 1) % 2 ^ 32 }
  | none =>
    match k.lc with
    | some c =>
      if c.filling && c.start ≤ k.pc && k.pc < c.start + c.len then { k with lc := some { c with body := tput k.pc w c.body } } else k
    | none => k

/-- The first iteration has been captured once the stream loops back or leaves the body (R170). -/
def cacheFilled (old : List RepLevel) (k : CoreState) : CoreState :=
  match k.lc with
  | some c =>
    let here (l : List RepLevel) : Option RepLevel := l.find? (fun r => r.start == c.start && r.stop == (c.start + c.len - 1) % 2 ^ 14)
    if c.filling && (here old).isSome && (here k.cur.rep != here old) then { k with lc := some { c with filling := false } } else k
  | none => k

/-- The word at PC in program memory. -/
def fetchWord (s : State) (n : Nat) : Word := s.mem.readW (localAddr n (0x80000 + 8 * (core s n).pc))

/-- The bundle of compute and move slots completes with its loads' values. -/
def finishSlots (n : Nat) (op dst sa sb md : Nat) (mv : Moves) (vals : List Word) (s : State) : State :=
  let k := core s n
  let f := (computeFx k op dst sa sb md).getD Fx.none
  let nx := (loadX k mv).toList.length
  let px : List Pend := if nx = 1 then [⟨2, .d mv.x.reg.val (vals.getD 0 0)⟩] else []
  let py : List Pend := if !mv.store && (slotY k mv).isSome then [⟨2, .d mv.y.reg.val (vals.getD nx 0)⟩] else []
  let sv := storeValue k mv.y
  let ptr : List Pend := (ptrWrites k mv).map (fun p => ⟨0, .sreg p.1 (p.2.setWidth 64)⟩)
  let satS : List Pend := if mv.store && (slotY k mv).isSome && sv.2 ≠ 0 then [⟨0, .sticky sv.2⟩] else []
  let stalls := bankStalls (accessesOf k op mv) (cacheHit k).isSome
  let s1 := match (if mv.store then slotY k mv else none) with
    | some x => coreStore n x sv.1 s
    | none => s
  let s2 := match ftapMove k op mv with
    | some x => coreStore n x (vals.getD 0 0) s1
    | none => s1
  modCore n (fun k =>
    let k1 := { k with pend := k.pend ++ px ++ py ++ fxPend f ++ satS ++ ptr, stallBank := (k.stallBank + stalls) % 2 ^ 32 }
    addCycles stalls (match f.acc with | some a => wrAccW a.1 a.2 k1 | none => k1)) s2

/-- A condition of Table 7.8's COND codes. -/
def condHolds (st : Word) (c : Nat) : Bool :=
  let z := bit st 0
  let n := bit st 1
  let v := bit st 3
  match c with
  | 0 => true
  | 1 => z
  | 2 => !z
  | 3 => n
  | 4 => !n
  | 5 => !z && n == v
  | 6 => z || n != v
  | 7 => v
  | 8 => !v
  | _ => bit st 4

/-- PC plus a signed 24-bit offset. -/
def pcPlus (k : CoreState) (ops : Nat) : Nat := (((k.pc : Int) + toSigned 24 ops) % 2 ^ 14).toNat

/-- REP (R168): a level over the next LEN bundles, and the loop cache's capture (R170). -/
def repeatOp (ops : Nat) (k : CoreState) : CoreState :=
  let len := ops % 2 ^ 16 + 1
  let reg := ops.testBit 54
  let cnt := if reg then (rdD k (ops / 2 ^ 30 % 16)).toNat % 2 ^ 24 else ops / 2 ^ 30 % 2 ^ 24
  if reg && cnt = 0 then { k with pc := (k.pc + 1 + len) % 2 ^ 14 }
  else
    let start := (k.pc + 1) % 2 ^ 14
    let lv : RepLevel := { count := cnt, start := start, stop := (k.pc + len) % 2 ^ 14, yield := ops.testBit 55 }
    let fresh := len ≤ 16 && (match k.lc with | some c => c.start ≠ start || c.len ≠ len | none => true)
    let k1 := if len ≤ 16 then
        (if fresh then { k with lc := some { start := start, len := len, filling := true, body := [] }
                                captures := (k.captures + 1) % 2 ^ 32 } else k)
      else k
    { k1 with pc := start }.modCur (fun b => { b with rep := lv :: b.rep })

/-- LDI's result (Table 7.8). -/
def ldiValue (old : Word) (part imm : Nat) : Word :=
  match part with
  | 0 => packWord [(0, imm), (32, bits old 63 32)]
  | 1 => packWord [(0, bits old 31 0), (32, imm)]
  | 2 => BitVec.ofInt 64 (toSigned 32 imm)
  | _ => packWord [(0, imm), (32, imm)]

/-- Append a pending result. -/
def addPend (p : Pend) (k : CoreState) : CoreState := { k with pend := k.pend ++ [p] }

/-- Whether a control op sets PC by itself: a branch or REP. -/
def setsPc (opc : Nat) : Bool := branchOp opc

/-- A control op's effect (Table 7.8, R185, R192, R193, R197, R198); TRAP and the waits follow the bundle. -/
def controlOp (opc ops : Nat) (k : CoreState) : CoreState :=
  let dd := ops / 2 ^ 48 % 16
  let cond := condHolds k.cur.st (ops / 2 ^ 52 % 16)
  match opc with
  | 0x01 => branchTo cond (pcPlus k ops) .jump k
  | 0x02 => branchTo cond ((rdD k dd).toNat % 2 ^ 14) .jump k
  | 0x03 => branchTo true (pcPlus k ops) .jump (addPend ⟨1, .sreg 0x2B (BitVec.ofNat 64 ((k.pc + 3) % 2 ^ 14))⟩ k)
  | 0x04 => branchTo true k.cur.lr.toNat .jump k
  | 0x05 => branchTo true 0 .reti k
  | 0x06 => branchTo true 0 .rets k
  | 0x08 => repeatOp ops k
  | 0x09 =>
    let d := ops / 2 ^ 52 % 16
    addPend ⟨0, .d d (ldiValue (rdD k d) (ops / 2 ^ 50 % 4) (ops % 2 ^ 32))⟩ k
  | 0x0A =>
    let d := ops / 2 ^ 51 % 16
    let code := ops / 2 ^ 40 % 64
    if ops.testBit 55 then addPend ⟨0, .d d ((sregRead k k.cur k.pc code).getD 0)⟩ k
    else addPend ⟨1, .sreg code (rdD k d)⟩ k
  | 0x0F => { k with lc := none }
  | _ => k

/-- After a bundle: the run state WAIT and HALT give (R197, R198). -/
def afterCtl (opc : Nat) (k : CoreState) : CoreState :=
  if opc = 0x0B then (if k.ipend &&& k.imask = 0 then { k with run := .waiting } else k)
  else if opc = 0x0C then { k with run := .halted }
  else k

/-- The end of a bundle for every form: results become visible, PC moves on, TRAP is taken and a halt asked for takes effect. -/
def endBundle (n : Nat) (b : Bundle) (s : State) : State :=
  let old := (core s n).cur.rep
  let w := fetchWord s n
  let s1 := modCore n (fun k => addCycles 1 { noteFetch w k with skipBkpt := false, stall := none }) s
  let s2 := match b with
    | .ctl opc ops =>
      let s2 := modCore n (controlOp opc ops) s1
      let s3 := modCore n tickPend s2
      modCore n (afterCtl opc) (if setsPc opc then s3 else afterBundle n s3)
    | _ => afterBundle n (modCore n tickPend s1)
  let s3 := drainPosted n (modCore n (cacheFilled old) s2)
  let s4 := match b with
    | .ctl 0x0D ops => enterException n 6 (core s3 n).pc (BitVec.ofNat 64 (ops % 256)) s3
    | _ => s3
  modCore n (fun k => if k.halting && (k.run == .running || k.run == .waiting) then debugHalt k else k) s4

/-! ### Issue -/

/-- The number of Plaza stores a bundle posts. -/
def plazaStores (k : CoreState) (b : Bundle) : Nat :=
  match b with
  | .slots op _ _ _ _ mv =>
    ((if mv.store then (slotY k mv).toList else []) ++ (ftapMove k op mv).toList).countP (fun (x : Access) => isPlaza x.addr)
  | _ => 0

/-- The bundle waits at the port, with the replies it has had. -/
def stallWith (n : Nat) (b : Bundle) (got : List Word) (s : State) : State :=
  modCore n (fun k => portWait { k with stall := some { bundle := b, got := got, aborted := false } }) s

/-- A bundle that raises no exception issues, or stalls at the port (R175): `got` are the replies it has had. -/
def runBundle (n : Nat) (b : Bundle) (got : List Word) (s : State) : State :=
  let s0 := if plazaStores (core s n) b = 0 && !(b matches .ctl 0x0E _) then s else drainPosted n s
  let k := core s0 n
  if 4 < k.posted.length + plazaStores k b || ((b matches .ctl 0x0E _) && !k.posted.isEmpty) then stallWith n b got s0
  else match b with
    | .slots op dst sa sb md mv =>
      let r := (loadsOf k mv).foldl (loadOne n) { vals := some [], got := got, seen := [], bad := false, st := s0 }
      (match r.vals with
        | none => stallWith n b r.seen r.st
        | some vals =>
          if r.bad then islandFault (islSC n) r.st else endBundle n b (finishSlots n op dst sa sb md mv vals r.st))
    | _ => endBundle n b s0

/-- Take up a stalled bundle again: a reissue of its request, or the completion of one that ended with ABORT (R67, R175). -/
def resumeStall (n : Nat) (s : State) : State :=
  match (core s n).stall with
  | none => drainPosted n s
  | some st =>
    if st.aborted then
      let k := core s n
      let a := (match st.bundle with
        | .slots _ _ _ _ _ mv => ((loadsOf k mv).filter (fun (x : Access) => isPlaza x.addr)).getD st.got.length ⟨0, 8⟩
        | _ => ⟨0, 8⟩).addr.toNat % 2 ^ 40
      runBundle n st.bundle (st.got ++ [0]) (modCore n (fun k => { k with aborts := k.aborts ++ [a], stall := none }) s)
    else runBundle n st.bundle st.got s

/-- The core issues bundles: it runs, its island executes, and none is stalled. -/
def coreIssues (s : State) (n : Nat) : Bool :=
  (core s n).run == .running && islRuns s (islSC n) && (core s n).stall.isNone

/-- A stalled load that ended with ABORT completes first. -/
def resumeAborted (n : Nat) (s : State) : State :=
  match (core s n).stall with
  | some st => if st.aborted then resumeStall n s else s
  | none => s

/-- The boundary before a bundle, and the bundle (R187): a breakpoint halts, an exception of the bundle or a pending BUS_ABORT is
taken, a takeable channel is entered; otherwise the bundle issues. -/
def issueBundle (n : Nat) (b : Bundle) (s : State) : State :=
  let s0 := resumeAborted n s
  let k := core s0 n
  if !coreIssues s0 n then s0
  else if bkptHit k then modCore n debugHalt s0
  else match bundleExc k b with
    | some e => enterException n e.vec k.pc e.faddr (modCore n (dropAbort e.vec) s0)
    | none =>
      match takeIrq n s0 with
      | some s1 => s1
      | none =>
        let c0 := (core s0 n).cycles
        let s1 := runBundle n b [] s0
        modCore n (fun x => holdCount (bestChan k false) ((x.cycles + 2 ^ 64 - c0) % 2 ^ 64) x) s1

/-! ### Fetch and single step (R201, Tables 7.3 and 7.4) -/

/-- A move slot from its 18 bits. -/
def decodeMove (x : Nat) : MoveSlot :=
  { kind := Fin.ofNat 4 (x / 2 ^ 16), reg := Fin.ofNat 16 (x / 2 ^ 12), ptr := Fin.ofNat 8 (x / 2 ^ 9),
    mode := Fin.ofNat 8 (x / 2 ^ 6), ofs := Fin.ofNat 64 x }

/-- A bundle from its 64 bits (Table 7.3). -/
def decodeBundle (w : Word) : Bundle :=
  let form := bits w 63 62
  if form = 3 then .form3
  else if form = 2 then .ctl (bits w 61 56) (bits w 55 0)
  else .slots (bits w 61 56) (bits w 55 52) (bits w 51 48) (bits w 47 44) (bits w 43 36)
    { store := form == 1, x := decodeMove (bits w 35 18), y := decodeMove (bits w 17 0) }

/-- The bundle at PC: from the loop cache where it holds it, else from program memory. -/
def fetchBundle (s : State) (n : Nat) : Bundle := decodeBundle ((cacheHit (core s n)).getD (fetchWord s n))

/-- STEP issues one bundle and halts again (R201). -/
def stepCore (n : Nat) (s : State) : State :=
  let k := core s n
  if !k.stepReq then s
  else
    let back := k.dbgWait
    let s1 := modCore n (fun k => { k with stepReq := false, run := .running, dbgWait := false }) s
    if !islRuns s (islSC n) then modCore n (fun x => { x with stepReq := false }) s
    else if (cacheHit k).isNone && s.ecc.contains (localAddr n (0x80000 + 8 * k.pc)) then islandFault (islSC n) s1
    else
      let s2 := if back && k.ipend &&& k.imask = 0 then modCore n (fun k => { k with run := .waiting }) s1
        else issueBundle n (fetchBundle s1 n) s1
      modCore n (fun k => if k.run == .running || k.run == .waiting then debugHalt k else k) s2

/-- Every STEP that a fabric write asked for, including those its bundles' stores ask for in turn. -/
def settleSteps (s : State) : State :=
  (List.range 8).foldl (fun s _ => (List.range 8).foldl (fun s n => stepCore n s) s) s

/-! ### Commands of the core block and the boundary -/

/-- A write of a core register over the fabric, with the steps it asks for. -/
def coreRegVia (n o : Nat) (w : Word) (s : State) : State :=
  let r := fabWrite .window (coreBase n + 0xF0000 + o) 255 w s
  settleSteps (replyWith r.1 0 r.2)

/-- SC_CTL with a command and its key. -/
def ctlVia (n key cmd : Nat) (s : State) : State := coreRegVia n 0x040 (packWord [(56, key), (0, cmd)]) s

/-- An access of SC_DBG_DATA: a write, or a read whose value is the reply. -/
def dbgVia (n : Nat) (w : Option Word) (s : State) : State :=
  match w with
  | some v => coreRegVia n 0x0D8 v s
  | none => let r := fabRead .window (coreBase n + 0xF00D8) s; replyWith r.1.status r.1.data r.2

/-- The boundary takes the FAST channel with the highest priority (R187, R188). -/
def fastAtBoundary (n : Nat) (s : State) : State :=
  let k := core s n
  if !coreIssues s n || !k.aborts.isEmpty || !fastAllowed k then s
  else match bestChan k true with
    | some c => enterFast n c s
    | none => s

/-- The boundary takes the HELD channel with the highest priority, unless a FAST one comes first (R187, R189, R194). -/
def heldAtBoundary (n : Nat) (s : State) : State :=
  let k := core s n
  if !coreIssues s n || !k.aborts.isEmpty || !heldAllowed k || (fastAllowed k && (bestChan k true).isSome) then s
  else match bestChan k false with
    | some c => enterHeld n c s
    | none => s

/-- The end of a WAIT (R197). -/
def waitWake (n : Nat) (s : State) : State :=
  let k := core s n
  if k.run ≠ .waiting || !islRuns s (islSC n) || k.ipend &&& k.imask = 0 then s
  else
    let s1 := modCore n (fun k => { k with run := .running }) s
    (takeIrq n s1).getD s1

/-- A breakpoint matches at the boundary (R201). -/
def bkptAtBoundary (n : Nat) (s : State) : State :=
  if coreIssues s n && bkptHit (core s n) then modCore n debugHalt s else s

/-- The oldest posted store is answered ABORT (R175). -/
def postedAbort (n : Nat) (s : State) : State :=
  modCore n (fun k => if k.posted.isEmpty then k else portAbort k) s

/-- A bundle of a core's stream, and the steps it asks other cores for. -/
def coreBundle (n : Nat) (b : Bundle) (s : State) : State := settleSteps (issueBundle n b s)

end Sys2Proof.Machine
end

