-- ==== Sys2Proof/Machine/RegMap.lean ====
section
/-! DEFINITION. The host-port register map and the windows into Plaza space (chapter 4, Table 19.1). -/
namespace Sys2Proof.Machine
open Sys2Proof

/-- Index of a port in a banked register (R102). -/
def portIdx : Port → Nat
  | .hp => 0 | .mp => 1

/-- Change the host port's state. -/
def modHost (f : HostState → HostState) (s : State) : State := { s with host := f s.host }

/-! ### Windows (R96 to R100, R106) -/

/-- Window `n`. -/
def win (s : State) (n : Nat) : Win := vget s.host.win n Win.init

/-- Change window `n`. -/
def modWin (n : Nat) (f : Win → Win) (s : State) : State := modHost (fun h => { h with win := vmod h.win n f }) s

/-- WIN_ADDR_n as it reads (Table 4.9). -/
def winAddrWord (x : Win) : Word :=
  packWord [(53, b2n x.wr.isSome), (49, statusCode x.wrResult), (48, b2n (x.pf == .busy)), (44, statusCode x.pfResult),
    (40, b2n x.autoInc), (0, x.addr)]

/-- The prefetch state a new prefetch takes: it waits for a posted write in progress (R100). -/
def newPrefetch (x : Win) : Prefetch := if x.wr.isSome then .waiting else .busy

/-- A committed WIN_ADDR_n write: the prefetch in progress is abandoned, a new one issued (R96, R106). -/
def winAddrWrite (n : Nat) (w : Word) (s : State) : State :=
  modWin n (fun x => { x with addr := bits w 39 3 * 8, autoInc := bit w 40, pf := newPrefetch x }) s

/-- What a WIN_DATA_n read returns (Table 4.4). -/
def winReadOut (x : Win) : Status × Word :=
  match x.pf with
  | .ok => (.ok, x.buf)
  | .busy => (.stale, x.buf)
  | .waiting => (.stale, x.buf)
  | .retry => (.retry, 0)
  | .abort => (.abort, 0)

/-- The next address of a window: 40 bits. -/
def winNext (x : Win) : Nat := (x.addr + 8) % 2 ^ 40

/-- The window request that ended with RETRY or ABORT sets ATTN_CAUSE.WINDOW (R99). -/
def winBad (st : Status) (s : State) : State := if st == .retry || st == .abort then setAttn attnWindow s else s

/-- A fabric read of the window's prefetch, or its reissue: RETRY leaves it in progress (R99). -/
def winPrefetch (n : Nat) (s : State) : State :=
  let x := win s n
  if x.pf ≠ .busy || x.wr.isSome then s
  else
    let r := fabRead .window x.addr s
    match r.1.status with
    | .retry => s
    | .abort => winBad .abort (modWin n (fun x => { x with pf := .abort, pfResult := .abort }) r.2)
    | _ => modWin n (fun x => { x with pf := .ok, pfResult := .ok, buf := r.1.data }) r.2

/-- The fabric write of the posted-write buffer, or its reissue; its end issues a new prefetch (R96, R99). -/
def winPosted (n : Nat) (s : State) : State :=
  match (win s n).wr with
  | none => s
  | some (a, w) =>
    let r := fabWrite .window a 255 w s
    match r.1 with
    | .retry => s
    | st =>
      let res : Status := if st == .abort then .abort else .ok
      winBad res (modWin n (fun x => { x with wr := none, wrResult := res, pf := .busy }) r.2)

/-- The window's outstanding request: the posted write first, else the prefetch (R100). -/
def winReissue (n : Nat) (s : State) : State := if (win s n).wr.isSome then winPosted n s else winPrefetch n s

/-- The outstanding request has run for 64 µs: it completes with RETRY and without effect (R99). -/
def winTimeout (n : Nat) (s : State) : State :=
  let x := win s n
  if x.wr.isSome then winBad .retry (modWin n (fun x => { x with wr := none, wrResult := .retry, pf := .busy }) s)
  else if x.pf == .busy then winBad .retry (modWin n (fun x => { x with pf := .retry, pfResult := .retry }) s)
  else s

/-- A speculative prefetch whose read word does not commit: the fabric read happens and its data is discarded (R96). -/
def winSpeculate (n : Nat) (s : State) : State :=
  let x := win s n
  if x.wr.isSome then s else (fabRead .window (winNext x) s).2

/-- What a WIN_DATA_n read does at its commit, or when it does not commit (Table 4.4, R96). -/
def winReadEffect (n : Nat) (committed : Bool) (s : State) : State :=
  let x := win s n
  match x.pf with
  | .ok =>
    if !x.autoInc then s
    else if committed then modWin n (fun x => { x with addr := winNext x, pf := newPrefetch x }) s
    else winSpeculate n s
  | .retry => if committed then modWin n (fun x => { x with pf := newPrefetch x }) s else s
  | .abort => if committed then modWin n (fun x => { x with pf := newPrefetch x }) s else s
  | _ => s

/-- A WIN_DATA_n write (R98). -/
def winDataWrite (n : Nat) (w : Word) (s : State) : Status × State :=
  let x := win s n
  if x.wr.isSome then (.busy, s)
  else if placeScoped (placeOf x.addr) then (.refused, s)
  else
    (.ok, modWin n (fun x => { x with
      wr := some (x.addr, w), pf := .waiting, addr := if x.autoInc then winNext x else x.addr }) s)

/-! ### Identity, attention (Tables 4.5 to 4.8) -/

/-- ID_PART. -/
def idPart (s : State) : Word :=
  packWord [(48, 0x0E5A), (32, 0x7256), (8, if s.host.codeI then 0x49 else 0x43), (0, 1)]

/-- ID_REV. -/
def idRev (s : State) : Word := packWord [(16, s.host.bootRom), (0, if s.pkg.revA1 then 0xA1 else 0xA0)]

/-- HP_ERR of a port's bank. -/
def hpErrWord (s : State) (p : Port) : Word :=
  let i := portIdx p
  packWord [(32, vget s.host.truncCnt i 0), (16, vget s.host.frameErrCnt i 0), (0, vget s.host.crcErrCnt i 0)]

/-- HP_ATTN_N is driven low (R101). -/
def attnAsserted (s : State) : Bool :=
  !(s.mode.mode == .dormant || s.mode.mode == .bringup) && Nat.land s.host.attnCause s.host.attnMask ≠ 0

/-- A W1C write of ATTN_CAUSE; CLOCK stays while R71 holds. -/
def attnClear (w : Word) (s : State) : State :=
  let c := s.host.attnCause - Nat.land s.host.attnCause (bits w 10 0)
  let s1 := modHost (fun h => { h with attnCause := c }) s
  if clkEventActive s then setAttn attnClock s1 else s1

/-- A W1C write of STATUS_FAULT.ISLAND_LATCHED. -/
def latchClear (w : Word) (s : State) : State :=
  (setBitsBelow 16 (bits w 15 0)).foldl (fun s i => modIsl s i (fun x => { x with latched := false })) s

/-- A W1C write of CLK_EVENT (Table 3.6). -/
def clkEventClear (w : Word) (s : State) : State :=
  let c := s.clock
  { s with clock := { c with
    audioDone := c.audioDone && !bit w 25, coreDone := c.coreDone && !bit w 24, refclkEvent := c.refclkEvent && !bit w 16
    lockLoss := c.lockLoss - Nat.land c.lockLoss (bits w 12 8), monTrip := c.monTrip - Nat.land c.monTrip (bits w 4 0) } }

/-! ### The queue block (Table 6.6) -/

/-- Q_STATUS. -/
def qStatusReg (s : State) : Word :=
  let q := s.arc.qSel
  let x := qGet s q
  let st : Status := match x with
    | none => .ok
    | some y => if y.loading then .busy else if y.quarantined then .quarantine else .ok
  let frozen (f : State → Queue → Bool) : Nat := b2n ((x.map (f s)).getD false)
  let pk := s.arc.peek
  packWord [(60, statusCode st), (56, statusCode s.arc.reloadResult),
    (52, match pk with | none => statusCode .empty | some p => if p.aborted then statusCode .abort else 0),
    (51, b2n ((pk.map (·.redelivered)).getD false)), (50, frozen prodFrozen), (49, frozen consFrozen), (48, b2n s.arc.copy.isSome),
    (32, (pk.map (·.seq)).getD 0), (14, (x.map (·.avail)).getD 0), (0, q)]

/-- Word `i` of Q_PEEK. -/
def qPeekWord (s : State) (i : Nat) : Word :=
  match s.arc.peek with
  | none => 0
  | some p => BitVec.ofNat 64 (le p.data (8 * i) 8)

/-- Word `i` of the selected queue's descriptor as in force, with live counters (Tables 6.2 and 6.6). -/
def qDescWord (s : State) (i : Nat) : Word :=
  match qGet s s.arc.qSel with
  | none => 0
  | some q =>
    let c := q.cfg
    match i with
    | 0 => packWord [(63, b2n q.valid), (62, b2n c.exactly), (56, c.lane), (51, c.prod), (46, c.cons), (44, c.entryW), (39, c.log2Depth),
        (38, b2n c.dbCons), (37, b2n c.dbProd), (0, c.ringBase)]
    | 1 => packWord [(32, q.resv), (0, q.tail)]
    | 2 => packWord [(32, q.read), (0, q.head)]
    | _ => packWord [(48, c.dbCount), (32, c.dbChan), (0, b2n q.quarantined)]

/-- Q_STATS_i. -/
def qStatsWord (s : State) (i : Nat) : Word :=
  match qGet s s.arc.qSel with
  | none => 0
  | some q =>
    match i with
    | 0 => packWord [(32, q.enqCnt), (0, q.deqCnt)]
    | 1 => packWord [(48, q.redelivered), (32, q.aborted), (16, q.fullCnt), (0, q.discarded)]
    | _ => BitVec.ofNat 64 q.highWater

/-- Read the queue block by its offset. -/
def queueRead (s : State) (o : Nat) : Word :=
  if o = 0x200 then BitVec.ofNat 64 s.arc.qSel
  else if o = 0x210 then qStatusReg s
  else if 0x218 ≤ o && o ≤ 0x250 then qPeekWord s ((o - 0x218) / 8)
  else if 0x260 ≤ o && o ≤ 0x298 then vget s.arc.entry ((o - 0x260) / 8) 0
  else if 0x2A0 ≤ o && o ≤ 0x2B8 then qDescWord s ((o - 0x2A0) / 8)
  else if 0x2C0 ≤ o && o ≤ 0x2D0 then qStatsWord s ((o - 0x2C0) / 8)
  else if o = 0x2D8 then s.arc.hostRdy0
  else if o = 0x2E0 then s.arc.hostRdy1
  else if o = 0x2E8 then packWord [(32, s.arc.quarCount), (16, b2n s.arc.noticeLost)]
  else 0

/-- A Q_DOORBELL write (R149). -/
def doorbell (w : Word) (s : State) : Status × State :=
  let arg := bits w 31 16
  match bits w 3 0 with
  | 1 => hostEnqueue s
  | 2 => hostTake arg s
  | 3 => hostAck arg s
  | 4 => hostArm true s
  | 5 => hostTakeAck arg s
  | 6 => hostArm false s
  | _ => (.refused, s)

/-- Write the queue block. -/
def queueWrite (o : Nat) (w : Word) (s : State) : Status × State :=
  if o = 0x200 then (.ok, qSelWrite w s)
  else if o = 0x208 then doorbell w s
  else if o = 0x258 then reloadWrite s.arc.qSel true w s
  else if 0x260 ≤ o && o ≤ 0x298 then (.ok, { s with arc := { s.arc with entry := vput s.arc.entry ((o - 0x260) / 8) w } })
  else if o = 0x2D8 then (.ok, { s with arc := { s.arc with hostRdy0 := s.arc.hostRdy0 &&& ~~~w } })
  else if o = 0x2E0 then (.ok, { s with arc := { s.arc with hostRdy1 := s.arc.hostRdy1 &&& ~~~w } })
  else if o = 0x2E8 then (.ok, { s with arc := { s.arc with noticeLost := s.arc.noticeLost && !bit w 16 } })
  else (.ok, s)

/-! ### The clock and island block (Tables 3.4 to 3.7) -/

/-- Read the clock and island block. -/
def clockRead (s : State) (o : Nat) : Word :=
  match o with
  | 0x380 => clkStatus s
  | 0x388 => packWord [(32, b2n (pll s pllCORE).changing), (0, s.clock.targetMhz)]
  | 0x390 => packWord [(1, b2n (pll s pllAUDIO).changing), (0, s.clock.family)]
  | 0x398 => clkEvent s
  | 0x3A0 => islStateWord s
  | 0x3B0 => islEpochWord s false
  | 0x3B8 => islEpochWord s true
  | 0x3C0 => packWord [(8, s.clock.windowS), (0, s.clock.restartMax)]
  | 0x3C8 => islRestartWord s
  | 0x3D0 => BitVec.ofNat 64 s.clock.initTimeout
  | 0x3D8 => BitVec.ofNat 64 s.clock.powerMw
  | _ => 0

/-- Write the clock and island block (R70 to R72). -/
def clockWrite (o : Nat) (w : Word) (s : State) : Status × State :=
  match o with
  | 0x388 => (.ok, targetWrite (bits w 15 0) s)
  | 0x390 => (.ok, familyWrite (bits w 0 0) s)
  | 0x398 => (.ok, clkEventClear w s)
  | 0x3A8 => islCtl (bits w 63 56) (bits w 15 0) (bits w 17 16) s
  | 0x3C0 => (.ok, { s with clock := { s.clock with windowS := max 1 (bits w 15 8), restartMax := bits w 3 0 } })
  | 0x3D0 => (.ok, { s with clock := { s.clock with initTimeout := clampNat 4 64 (bits w 7 0) } })
  | _ => (.ok, s)

/-! ### The map (Table 19.1) -/

/-- A register as a port reads it; unlisted offsets read 0 (R471). -/
def hostRegRead (p : Port) (o : Nat) (s : State) : Word :=
  if o < 0x080 then
    (match o with
      | 0x000 => idPart s
      | 0x008 => idRev s
      | 0x010 => BitVec.ofNat 64 s.host.dieId
      | 0x020 => BitVec.ofNat 64 (b2n (vget s.host.crcEn (portIdx p) false))
      | 0x028 => hpErrWord s p
      | 0x040 => statusMode s
      | 0x048 => statusBringup s
      | 0x050 => statusFault s
      | _ => 0)
  else if o < 0x100 then
    (match o with
      | 0x080 => BitVec.ofNat 64 s.host.attnCause
      | 0x088 => BitVec.ofNat 64 s.host.attnMask
      | 0x098 => rtcTimeWord s
      | 0x0A0 => BitVec.ofNat 64 (ofSigned 16 s.time.rtcOffset)
      | _ => 0)
  else if o < 0x140 then
    let n := (o - 0x100) / 16
    if o % 16 = 0 then winAddrWord (win s n) else (winReadOut (win s n)).2
  else if o < 0x200 then 0
  else if o < 0x300 then queueRead s o
  else if o < 0x380 then consentRead (o - 0x300) s
  else if o < 0x400 then clockRead s o
  else if o ≤ 0x4A0 then kerbRead o s
  else if 0x600 ≤ o && o < 0x690 then meterHostRead (o - 0x600) s
  else 0

/-- The status a read of a register ends with, its mode apart: WIN_DATA_n as Table 4.4 states. -/
def hostRegStatus (o : Nat) (s : State) : Status :=
  if 0x100 ≤ o && o < 0x140 && o % 16 = 8 then (winReadOut (win s ((o - 0x100) / 16))).1 else .ok

/-- Side effects of a read word: RC fields and the window's advance at its commit (R89). -/
def hostRegEffect (p : Port) (o : Nat) (committed : Bool) (s : State) : State :=
  if 0x100 ≤ o && o < 0x140 && o % 16 = 8 then winReadEffect ((o - 0x100) / 16) committed s
  else if !committed then s
  else if o = 0x028 then
    let i := portIdx p
    modHost (fun h => { h with
      truncCnt := vput h.truncCnt i 0, frameErrCnt := vput h.frameErrCnt i 0, crcErrCnt := vput h.crcErrCnt i 0 }) s
  else if 0x300 ≤ o && o < 0x380 then consentReadEffect (o - 0x300) s
  else if 0x400 ≤ o && o ≤ 0x4A0 then kerbReadEffect o s
  else s

/-- The mode request source of a port (Table 2.7). -/
def portSource : Port → ReqSource
  | .hp => .hp | .mp => .mp

/-- The consent channel of a port (Table 5.2). -/
def portChannel : Port → Channel
  | .hp => .hp | .mp => .mp

/-- A MODE_REQ write (R35, R43). -/
def modeReqWrite (p : Port) (w : Word) (s : State) : Status × State :=
  if bits w 15 8 ≠ 0xA5 then (.refused, s)
  else if bit w 4 then (.ok, cancelReq s)
  else modeRequest (portSource p) (Mode.ofCode (bits w 2 0)) s

/-- A committed write of a register, each field by its access code (R12, R90); unlisted offsets ignore it (R471). -/
def hostRegWrite (p : Port) (o : Nat) (w : Word) (s : State) : Status × State :=
  if o < 0x080 then
    (match o with
      | 0x020 => (.ok, modHost (fun h => { h with crcEn := vput h.crcEn (portIdx p) (bit w 0) }) s)
      | 0x050 => (.ok, latchClear w s)
      | _ => (.ok, s))
  else if o < 0x100 then
    (match o with
      | 0x080 => (.ok, attnClear w s)
      | 0x088 => (.ok, modHost (fun h => { h with attnMask := bits w 10 0 }) s)
      | 0x090 => modeReqWrite p w s
      | 0x098 => (.ok, rtcWrite (bits w 63 32) s)
      | 0x0A0 => (.ok, rtcLocalWrite w s)
      | _ => (.ok, s))
  else if o < 0x140 then
    let n := (o - 0x100) / 16
    if o % 16 = 0 then (.ok, winAddrWrite n w s) else winDataWrite n w s
  else if o < 0x200 then (.ok, s)
  else if o < 0x300 then queueWrite o w s
  else if o < 0x380 then consentWrite (portChannel p) (o - 0x300) w s
  else if o < 0x400 then clockWrite o w s
  else if 0x600 ≤ o && o < 0x690 then meterWrite (o - 0x600) w s
  else (.ok, s)

end Sys2Proof.Machine
end

