-- ==== Sys2Proof/Machine/HostPort.lean ====
section
/-! DEFINITION. Frames of the host and maintenance ports: words, status bytes, CRC-8, bursts (R84 to R95, R102, R107, R108). -/
namespace Sys2Proof.Machine
open Sys2Proof

/-! ### CRC-8 (R92) -/

/-- One step of the register with generator x^8 + x^2 + x + 1. -/
def crcShift (c : Nat) : Nat := if c.testBit 7 then (c * 2 % 256).xor 7 else c * 2 % 256

/-- The CRC continued over one byte. -/
def crcByte (c b : Nat) : Nat := (List.range 8).foldl (fun c _ => crcShift c) (c.xor b)

/-- The CRC of bytes. -/
def crc8 (l : List Nat) : Nat := l.foldl crcByte 0

/-- The eight data bytes in frame order. -/
def dataBytes (w : Word) : List Nat := (List.range 8).map (fun i => bits w (63 - 8 * i) (56 - 8 * i))

/-- The opcode and address bytes. -/
def headBytes (opc addr : Nat) : List Nat := [opc, addr / 256 % 256, addr % 256]

/-- The opcodes of Table 4.2. -/
def listedOpcode (c : Nat) : Bool := [0x0B, 0x0C, 0x0D, 0x02, 0x03, 0x04].contains c

/-! ### Words -/

/-- The status byte (R91). -/
def statusByte (st : Status) (attn crcOn : Bool) : Nat := 16 * statusCode st + 8 * b2n attn + 4 * b2n crcOn

/-- Add a word to the frame as the device drove it, and keep its status. -/
def frameWord (opc addr : Nat) (st : Status) (d : Word) (attn crcOn : Bool) (s : State) : State :=
  let b := statusByte st attn crcOn
  let w : FrameWord := { data := d, status := b, crc := if crcOn then crc8 (headBytes opc addr ++ dataBytes d ++ [b]) else 0 }
  modHost (fun h => { h with status := st, frame := h.frame ++ [w] }) s

/-- A frame begins: nothing has been driven yet. -/
def frameStart (s : State) : State := modHost (fun h => { h with frame := [] }) s

/-- A counter of HP_ERR incremented sets ATTN_CAUSE.HP_ERR (Table 4.7). -/
def countErr (f : HostState → HostState) (s : State) : State := setAttn attnHpErr (modHost f s)

/-- A word ends with CRC_ERROR (R93). -/
def countCrc (p : Port) (s : State) : State :=
  countErr (fun h => { h with crcErrCnt := vmod h.crcErrCnt (portIdx p) (satInc 16) }) s

/-- Address bits [15:12] or [2:0] are set (R86). -/
def addrBad (a : Nat) : Bool := a / 4096 % 16 ≠ 0 || a % 8 ≠ 0

/-- The device does not answer before bring-up step 1 completes (R108). -/
def portSilent (s : State) : Bool := s.mode.mode == .bringup && (s.mode.step ≤ 1 || s.pkg.railHold)

/-- A register of KERB or NIGHT, served from its copy in AON (R472). -/
def copiedReg (o : Nat) : Bool := (decide (0x400 ≤ o) && decide (o ≤ 0x4A0)) || (decide (0x600 ≤ o) && decide (o ≤ 0x688))

/-- Data and status of a read word at its snapshot in the present mode (R41, R42, R86, R97, R487); `copyBad` says that the AON copy
it meets holds an uncorrectable error. -/
def readOut (p : Port) (addr : Nat) (copyBad : Bool) (s : State) : Status × Word :=
  if s.mode.mode == .dormant then (.waking, 0)
  else if addrBad addr || 0xFF8 < addr then (.refused, 0)
  else if 0x800 ≤ addr then (.ok, 0)
  else if s.mode.mode == .bringup && 0x080 ≤ addr then (.busy, 0)
  else if copyBad && copiedReg addr then (.abort, 0)
  else (hostRegStatus addr s, hostRegRead p addr s)

/-- The snapshot of a register with a wrong host CRC (R93). -/
def readWordBad (p : Port) (opc addr : Nat) (crcOn : Bool) (s : State) : State :=
  let attn := attnAsserted s
  let r := readOut p addr false s
  countCrc p (frameWord opc addr .crcError r.2 attn crcOn s)

/-- One read word (R88, R89): snapshot, status, and at commit the side effects. -/
def readWord (p : Port) (opc addr : Nat) (crcOn committed copyBad : Bool) (s : State) : State :=
  let attn := attnAsserted s
  let r := readOut p addr copyBad s
  let s1 := frameWord opc addr r.1 r.2 attn crcOn s
  if s.mode.mode == .dormant || addrBad addr || 0x800 ≤ addr || (s.mode.mode == .bringup && 0x080 ≤ addr) then s1
  else hostRegEffect p addr (committed && !(copyBad && copiedReg addr)) s1

/-- The status and effect of a write word (R86, R90, R102, Table 19.2). -/
def writeOut (p : Port) (keys : Bool) (addr : Nat) (w : Word) (s : State) : Status × State :=
  match hostBar s addr with
  | some .waking => (.waking, s)
  | some .busy => if addrBad addr then (.refused, s) else (.busy, s)
  | some b => (b, s)
  | none =>
    if addrBad addr || 0xFF8 < addr || (p == .mp && !keys) then (.refused, s)
    else if 0x800 ≤ addr then (.ok, s)
    else hostRegWrite p addr w s

/-- One write word: committed when its CRC, if any, is right (R90, R93). -/
def writeWord (p : Port) (keys : Bool) (opc addr : Nat) (crcOn : Bool) (w : Word) (crc : Nat) (s : State) : State :=
  if crcOn && crc8 (headBytes opc addr ++ dataBytes w) ≠ crc then
    let s1 := countCrc p s
    frameWord opc addr .crcError w (attnAsserted s1) crcOn s1
  else
    let r := writeOut p keys addr w s
    frameWord opc addr r.1 w (attnAsserted r.2) crcOn r.2

/-- A frame as a whole: silent before step 1 completes; the fall of HP_CS_N wakes a DORMANT device whatever the frame (R108). -/
def frameOf (f : State → State) (s : State) : State :=
  if portSilent s then frameStart s
  else
    let s1 := f (frameStart s)
    if s.mode.mode == .dormant then wakeDormant s1 else s1

/-- The layout in force for a port's frame: HP_CFG.CRC_EN as the frame begins (R94). -/
def crcOnOf (p : Port) (s : State) : Bool := vget s.host.crcEn (portIdx p) false

/-- The words of a read frame: word k addresses the start address plus `stepBy` × k (R95). -/
def readFrame (p : Port) (opc addr stepBy words crc : Nat) (committed : Bool) (bad : List Nat) (s : State) : State :=
  let on := crcOnOf p s
  if on && crc8 (headBytes opc addr) ≠ crc then
    (List.range words).foldl (fun s k => readWordBad p opc (addr + stepBy * k) on s) s
  else (List.range words).foldl (fun s k => readWord p opc (addr + stepBy * k) on committed (bad.contains k) s) s

/-- The words of a write frame. -/
def writeFrameOf (p : Port) (keys : Bool) (opc addr stepBy : Nat) (l : List (Word × BitVec 8)) (s : State) : State :=
  let on := crcOnOf p s
  (l.foldl (fun (q : Nat × State) x => (q.1 + 1, writeWord p keys opc (addr + stepBy * q.1) on x.1 x.2.toNat q.2)) (0, s)).2

/-- A frame with an unlisted opcode (R87): data 0, REFUSED, no effect. -/
def unlistedFrame (p : Port) (opc addr crc : Nat) (s : State) : State :=
  let on := crcOnOf p s
  let attn := attnAsserted s
  let s1 := countErr (fun h => { h with frameErrCnt := vmod h.frameErrCnt (portIdx p) (satInc 16) }) s
  if on && crc8 (headBytes opc addr) ≠ crc then countCrc p (frameWord opc addr .crcError 0 attn on s1)
  else frameWord opc addr (if s.mode.mode == .dormant then .waking else .refused) 0 attn on s1

/-- A frame that ends inside a word (R107). -/
def truncatedFrame (p : Port) (s : State) : State :=
  countErr (fun h => { h with truncCnt := vmod h.truncCnt (portIdx p) (satInc 16) }) s

/-- A write of one register over a port outside a frame's bytes: its mode's gate, then its effect. -/
def regWriteOver (p : Port) (o : Nat) (w : Word) (s : State) : State :=
  hostWrite o (fun s => if addrBad o then (.refused, s) else if 0x800 ≤ o then (.ok, s) else hostRegWrite p o w s) s

/-- A read of WIN_DATA_n over the HP: status, and its data as the reply. -/
def winDataReadOver (n : Nat) (committed : Bool) (s : State) : State :=
  let o := 0x108 + 0x10 * n
  let r := readOut .hp o false s
  let s1 := replyWith r.1 r.2 (hostStatus r.1 s)
  if s.mode.mode == .dormant then wakeDormant s1
  else if s.mode.mode == .bringup then s1
  else hostRegEffect .hp o committed s1

end Sys2Proof.Machine
end

