-- ==== Sys2Proof/Machine/Ports.lean ====
section
/-! DEFINITION. Meanings of the host-port commands (chapter 4). -/
namespace Sys2Proof.Machine
open Sys2Proof

/-- READ (R85) -/
def execRead (p : Port) (addr : BitVec 16) (crc : BitVec 8) (committed copyBad : Bool) (s : State) : Host.Outcome State Fault Refusal :=
  .next (frameOf (readFrame p 0x0B addr.toNat 0 1 crc.toNat committed (if copyBad then [0] else [])) s)

/-- READ_BURST (R95) -/
def execReadBurst (p : Port) (addr : BitVec 16) (crc : BitVec 8) (words : Nat) (copyBad : List Nat) (s : State) : Host.Outcome State Fault Refusal :=
  .next (frameOf (readFrame p 0x0C addr.toNat 8 words crc.toNat true copyBad) s)

/-- READ_REPEAT (R95) -/
def execReadRepeat (p : Port) (addr : BitVec 16) (crc : BitVec 8) (words : Nat) (copyBad : List Nat) (s : State) : Host.Outcome State Fault Refusal :=
  .next (frameOf (readFrame p 0x0D addr.toNat 0 words crc.toNat true copyBad) s)

/-- WRITE (R90) -/
def execWrite (p : Port) (keys : Bool) (addr : BitVec 16) (data : Word) (crc : BitVec 8) (s : State) : Host.Outcome State Fault Refusal :=
  .next (frameOf (writeFrameOf p keys 0x02 addr.toNat 0 [(data, crc)]) s)

/-- WRITE_BURST (R95) -/
def execWriteBurst (p : Port) (keys : Bool) (addr : BitVec 16) (words : List (Word × BitVec 8)) (s : State) : Host.Outcome State Fault Refusal :=
  .next (frameOf (writeFrameOf p keys 0x03 addr.toNat 8 words) s)

/-- WRITE_REPEAT (R95) -/
def execWriteRepeat (p : Port) (keys : Bool) (addr : BitVec 16) (words : List (Word × BitVec 8)) (s : State) : Host.Outcome State Fault Refusal :=
  .next (frameOf (writeFrameOf p keys 0x04 addr.toNat 0 words) s)

/-- UNLISTED_OPCODE (R87): an opcode of Table 4.2 is none -/
def execUnlistedOpcode (p : Port) (opcode : BitVec 8) (addr : BitVec 16) (crc : BitVec 8) (s : State) : Host.Outcome State Fault Refusal :=
  .next (if listedOpcode opcode.toNat then s else frameOf (unlistedFrame p opcode.toNat addr.toNat crc.toNat) s)

/-- FRAME_TRUNCATED (R107) -/
def execFrameTruncated (p : Port) (s : State) : Host.Outcome State Fault Refusal :=
  .next (frameOf (truncatedFrame p) s)

/-- HP_CFG_WRITE (R94) -/
def execHpCfgWrite (p : Port) (w : Word) (s : State) : Host.Outcome State Fault Refusal :=
  .next (regWriteOver p 0x020 w s)

/-- WIN_ADDR_WRITE (R96) -/
def execWinAddrWrite (n : Fin 4) (w : Word) (s : State) : Host.Outcome State Fault Refusal :=
  .next (regWriteOver .hp (0x100 + 0x10 * n.val) w s)

/-- WIN_DATA_READ (R97) -/
def execWinDataRead (n : Fin 4) (committed : Bool) (s : State) : Host.Outcome State Fault Refusal :=
  .next (winDataReadOver n.val committed s)

/-- WIN_DATA_WRITE (R98) -/
def execWinDataWrite (n : Fin 4) (w : Word) (s : State) : Host.Outcome State Fault Refusal :=
  .next (regWriteOver .hp (0x108 + 0x10 * n.val) w s)

/-- WIN_PREFETCH_COMPLETE (R96) -/
def execWinPrefetchComplete (n : Fin 4) (s : State) : Host.Outcome State Fault Refusal := .next (winPrefetch n.val s)

/-- WIN_POSTED_WRITE_COMPLETE (R99) -/
def execWinPostedWriteComplete (n : Fin 4) (s : State) : Host.Outcome State Fault Refusal :=
  .next (settleSteps (winPosted n.val s))

/-- WIN_RETRY_REISSUE (R99) -/
def execWinRetryReissue (n : Fin 4) (s : State) : Host.Outcome State Fault Refusal :=
  .next (settleSteps (winReissue n.val s))

/-- WIN_REQUEST_TIMEOUT (R99) -/
def execWinRequestTimeout (n : Fin 4) (s : State) : Host.Outcome State Fault Refusal := .next (winTimeout n.val s)

/-- REGISTER_WRITE (R12) -/
def execRegisterWrite (p : Port) (off : BitVec 12) (w : Word) (s : State) : Host.Outcome State Fault Refusal :=
  .next (regWriteOver p off.toNat w s)

end Sys2Proof.Machine
end

