-- ==== Sys2Proof/Machine/Pwm.lean ====
section
/-! DEFINITION. Meanings of the PWM commands (chapter 17). -/
namespace Sys2Proof.Machine
open Sys2Proof

/-- LOAD_POINT: the load point of channel `n` (R425 to R437). -/
def execLoadPoint (n : Fin 32) (s : State) : Host.Outcome State Fault Refusal := .next (pwmLoadPoint n.val s)

/-- PWM_CODE_WRITE (R429). -/
def execPwmCodeWrite (n : Fin 32) (w : Word) (s : State) : Host.Outcome State Fault Refusal :=
  .next (pwmCodeWrite n.val w s)

/-- TIMEBASE_TICK (R429, R430). -/
def execTimebaseTick (g : Fin 4) (s : State) : Host.Outcome State Fault Refusal := .next (pwmTick g.val s)

/-- PWM_LOAD_N_EDGE: a low of at least 20 ns fires the group (R431). -/
def execPwmLoadNEdge (g : Fin 4) (lowNs : Nat) (s : State) : Host.Outcome State Fault Refusal :=
  .next (if 20 ≤ lowNs then pwmStrobe (2 ^ g.val) s else s)

/-- STROBE (R431). -/
def execStrobe (groups : BitVec 4) (s : State) : Host.Outcome State Fault Refusal := .next (pwmStrobe groups.toNat s)

/-- PWM_APPLY (R438). -/
def execPwmApply (s : State) : Host.Outcome State Fault Refusal := .next (pwmApply s)

/-- PWM_FAULT_CLEAR (R437). -/
def execPwmFaultClear (channels : BitVec 32) (s : State) : Host.Outcome State Fault Refusal :=
  .next (pwmFaultClear channels.toNat s)

/-- GEN_SYNC (R432). -/
def execGenSync (channels : BitVec 32) (s : State) : Host.Outcome State Fault Refusal :=
  .next (pwmGenSync channels.toNat s)

end Sys2Proof.Machine
end

