-- ==== Sys2Proof/Machine/SignalCore.lean ====
section
/-! DEFINITION. Meanings of the Signal Core commands (chapters 7 and 8): a bundle of a core's stream by its operation, the entries of a
boundary, and the core block's commands. -/
namespace Sys2Proof.Machine
open Sys2Proof

/-- A load slot's move of a given KIND. -/
def moveOf (k : Fin 4) (m : MoveSlot) : MoveSlot := { m with kind := k }

/-- A slot without a move. -/
def noMove : MoveSlot := { kind := 0, reg := 0, ptr := 0, mode := 0, ofs := 0 }

/-- A bundle whose only slot is a load in the X or the Y slot. -/
def loadBundle (y : Bool) (m : MoveSlot) : Bundle :=
  .slots 0 0 0 0 0 { store := false, x := if y then noMove else m, y := if y then m else noMove }

/-- A bundle whose only slot is the store slot. -/
def storeBundle (m : MoveSlot) : Bundle := .slots 0 0 0 0 0 { store := true, x := noMove, y := m }

/-- A request leaves its initiator: an island that is fenced or Off issues none (R64). -/
def issues (i : Initiator) (s : State) : Bool :=
  match i with
  | .island k => k.val = 0 || islRuns s k.val
  | _ => true

/-- A fabric read with what the word's ECC shows. -/
def fabReadCmd (i : Initiator) (a : Nat) (e : EccEvent) (s : State) : State :=
  if issues i s then
    let r := fabRead i a (eccNote e a s)
    replyWith r.1.status r.1.data r.2
  else s

/-- A fabric write, with the steps it may ask of cores. -/
def fabWriteCmd (i : Initiator) (a strobe : Nat) (w : Word) (s : State) : State :=
  if issues i s then
    let r := fabWrite i a strobe w s
    settleSteps (replyWith r.1 0 r.2)
  else s

/-- CMAC (R165): An += Da × Db. -/
def execCmac (c : Fin 8) (an : Fin 4) (da db : Fin 16) (mv : Moves) (s : State) : Host.Outcome State Fault Refusal :=
  .next (coreBundle c.val (.slots 0x01 an.val da.val db.val 0 mv) s)

/-- CMSU (R173): An −= Da × Db. -/
def execCmsu (c : Fin 8) (an : Fin 4) (da db : Fin 16) (mv : Moves) (s : State) : Host.Outcome State Fault Refusal :=
  .next (coreBundle c.val (.slots 0x02 an.val da.val db.val 0 mv) s)

/-- CMACJ (R173): An += Da × conj(Db). -/
def execCmacj (c : Fin 8) (an : Fin 4) (da db : Fin 16) (mv : Moves) (s : State) : Host.Outcome State Fault Refusal :=
  .next (coreBundle c.val (.slots 0x03 an.val da.val db.val 0 mv) s)

/-- CMUL (R173): An = Da × Db. -/
def execCmul (c : Fin 8) (an : Fin 4) (da db : Fin 16) (mv : Moves) (s : State) : Host.Outcome State Fault Refusal :=
  .next (coreBundle c.val (.slots 0x04 an.val da.val db.val 0 mv) s)

/-- FTAP (R171): as CMAC, with the delay-line move. -/
def execFtap (c : Fin 8) (an : Fin 4) (da db : Fin 16) (mv : Moves) (s : State) : Host.Outcome State Fault Refusal :=
  .next (coreBundle c.val (.slots 0x05 an.val da.val db.val 0 mv) s)

/-- RMAC2 (R173): dual real multiply-accumulate. -/
def execRmac2 (c : Fin 8) (an : Fin 4) (da db : Fin 16) (mv : Moves) (s : State) : Host.Outcome State Fault Refusal :=
  .next (coreBundle c.val (.slots 0x06 an.val da.val db.val 0 mv) s)

/-- RMSU2 (R173): dual real multiply-subtract. -/
def execRmsu2 (c : Fin 8) (an : Fin 4) (da db : Fin 16) (mv : Moves) (s : State) : Host.Outcome State Fault Refusal :=
  .next (coreBundle c.val (.slots 0x07 an.val da.val db.val 0 mv) s)

/-- RMUL2 (R173): dual real product. -/
def execRmul2 (c : Fin 8) (an : Fin 4) (da db : Fin 16) (mv : Moves) (s : State) : Host.Outcome State Fault Refusal :=
  .next (coreBundle c.val (.slots 0x08 an.val da.val db.val 0 mv) s)

/-- FTAPR (R171): as RMAC2, with the delay-line move. -/
def execFtapr (c : Fin 8) (an : Fin 4) (da db : Fin 16) (mv : Moves) (s : State) : Host.Outcome State Fault Refusal :=
  .next (coreBundle c.val (.slots 0x09 an.val da.val db.val 0 mv) s)

/-- CLRA (R173): An = 0. -/
def execClra (c : Fin 8) (an : Fin 4) (mv : Moves) (s : State) : Host.Outcome State Fault Refusal :=
  .next (coreBundle c.val (.slots 0x0A an.val 0 0 0 mv) s)

/-- MOVA (R173): An from the Q1.31 parts of Da. -/
def execMova (c : Fin 8) (an : Fin 4) (da : Fin 16) (mv : Moves) (s : State) : Host.Outcome State Fault Refusal :=
  .next (coreBundle c.val (.slots 0x0B an.val da.val 0 0 mv) s)

/-- ADDA (R173): An += Am. -/
def execAdda (c : Fin 8) (an am : Fin 4) (mv : Moves) (s : State) : Host.Outcome State Fault Refusal :=
  .next (coreBundle c.val (.slots 0x0C an.val am.val 0 0 mv) s)

/-- SUBA (R173): An −= Am. -/
def execSuba (c : Fin 8) (an am : Fin 4) (mv : Moves) (s : State) : Host.Outcome State Fault Refusal :=
  .next (coreBundle c.val (.slots 0x0D an.val am.val 0 0 mv) s)

/-- SHRA (R173): both parts right by k. -/
def execShra (c : Fin 8) (an : Fin 4) (sb : Fin 16) (md : BitVec 8) (mv : Moves) (s : State) : Host.Outcome State Fault Refusal :=
  .next (coreBundle c.val (.slots 0x0E an.val 0 sb.val md.toNat mv) s)

/-- SHLA (R173): both parts left by k. -/
def execShla (c : Fin 8) (an : Fin 4) (sb : Fin 16) (md : BitVec 8) (mv : Moves) (s : State) : Host.Outcome State Fault Refusal :=
  .next (coreBundle c.val (.slots 0x0F an.val 0 sb.val md.toNat mv) s)

/-- MOVD (R166): the rounded and saturated pair. -/
def execMovd (c : Fin 8) (dd : Fin 16) (an : Fin 4) (mv : Moves) (s : State) : Host.Outcome State Fault Refusal :=
  .next (coreBundle c.val (.slots 0x10 dd.val an.val 0 0 mv) s)

/-- MOVDL (R166): the saturated real part. -/
def execMovdl (c : Fin 8) (dd : Fin 16) (an : Fin 4) (mv : Moves) (s : State) : Host.Outcome State Fault Refusal :=
  .next (coreBundle c.val (.slots 0x11 dd.val an.val 0 0 mv) s)

/-- MOVDI (R166): the saturated imaginary part. -/
def execMovdi (c : Fin 8) (dd : Fin 16) (an : Fin 4) (mv : Moves) (s : State) : Host.Outcome State Fault Refusal :=
  .next (coreBundle c.val (.slots 0x12 dd.val an.val 0 0 mv) s)

/-- ADD (R173): 64-bit sum. -/
def execAdd (c : Fin 8) (dd da db : Fin 16) (mv : Moves) (s : State) : Host.Outcome State Fault Refusal :=
  .next (coreBundle c.val (.slots 0x18 dd.val da.val db.val 0 mv) s)

/-- SUB (R173): 64-bit difference. -/
def execSub (c : Fin 8) (dd da db : Fin 16) (mv : Moves) (s : State) : Host.Outcome State Fault Refusal :=
  .next (coreBundle c.val (.slots 0x19 dd.val da.val db.val 0 mv) s)

/-- AND (R173): bitwise AND. -/
def execScAnd (c : Fin 8) (dd da db : Fin 16) (mv : Moves) (s : State) : Host.Outcome State Fault Refusal :=
  .next (coreBundle c.val (.slots 0x1A dd.val da.val db.val 0 mv) s)

/-- OR (R173): bitwise OR. -/
def execScOr (c : Fin 8) (dd da db : Fin 16) (mv : Moves) (s : State) : Host.Outcome State Fault Refusal :=
  .next (coreBundle c.val (.slots 0x1B dd.val da.val db.val 0 mv) s)

/-- XOR (R173): bitwise XOR. -/
def execXor (c : Fin 8) (dd da db : Fin 16) (mv : Moves) (s : State) : Host.Outcome State Fault Refusal :=
  .next (coreBundle c.val (.slots 0x1C dd.val da.val db.val 0 mv) s)

/-- SHL (R173): left shift by k. -/
def execShl (c : Fin 8) (dd da sb : Fin 16) (md : BitVec 8) (mv : Moves) (s : State) : Host.Outcome State Fault Refusal :=
  .next (coreBundle c.val (.slots 0x1D dd.val da.val sb.val md.toNat mv) s)

/-- SHR (R173): logical right shift by k. -/
def execShr (c : Fin 8) (dd da sb : Fin 16) (md : BitVec 8) (mv : Moves) (s : State) : Host.Outcome State Fault Refusal :=
  .next (coreBundle c.val (.slots 0x1E dd.val da.val sb.val md.toNat mv) s)

/-- SAR (R173): arithmetic right shift by k. -/
def execSar (c : Fin 8) (dd da sb : Fin 16) (md : BitVec 8) (mv : Moves) (s : State) : Host.Outcome State Fault Refusal :=
  .next (coreBundle c.val (.slots 0x1F dd.val da.val sb.val md.toNat mv) s)

/-- CMP (R173): flags of Da − Db. -/
def execCmp (c : Fin 8) (da db : Fin 16) (mv : Moves) (s : State) : Host.Outcome State Fault Refusal :=
  .next (coreBundle c.val (.slots 0x20 0 da.val db.val 0 mv) s)

/-- MOV (R173): copy. -/
def execMov (c : Fin 8) (dd da : Fin 16) (mv : Moves) (s : State) : Host.Outcome State Fault Refusal :=
  .next (coreBundle c.val (.slots 0x21 dd.val da.val 0 0 mv) s)

/-- ADDS2 (R173): saturating sum of each part. -/
def execAdds2 (c : Fin 8) (dd da db : Fin 16) (mv : Moves) (s : State) : Host.Outcome State Fault Refusal :=
  .next (coreBundle c.val (.slots 0x22 dd.val da.val db.val 0 mv) s)

/-- SUBS2 (R173): saturating difference of each part. -/
def execSubs2 (c : Fin 8) (dd da db : Fin 16) (mv : Moves) (s : State) : Host.Outcome State Fault Refusal :=
  .next (coreBundle c.val (.slots 0x23 dd.val da.val db.val 0 mv) s)

/-- NEG2 (R173): saturating negation of each part. -/
def execNeg2 (c : Fin 8) (dd da : Fin 16) (mv : Moves) (s : State) : Host.Outcome State Fault Refusal :=
  .next (coreBundle c.val (.slots 0x24 dd.val da.val 0 0 mv) s)

/-- CONJ (R173): saturating negation of the imaginary part. -/
def execConj (c : Fin 8) (dd da : Fin 16) (mv : Moves) (s : State) : Host.Outcome State Fault Refusal :=
  .next (coreBundle c.val (.slots 0x25 dd.val da.val 0 0 mv) s)

/-- SWAP (R173): exchange of the halves. -/
def execSwap (c : Fin 8) (dd da : Fin 16) (mv : Moves) (s : State) : Host.Outcome State Fault Refusal :=
  .next (coreBundle c.val (.slots 0x26 dd.val da.val 0 0 mv) s)

/-- ABS2 (R173): saturating absolute value of each part. -/
def execAbs2 (c : Fin 8) (dd da : Fin 16) (mv : Moves) (s : State) : Host.Outcome State Fault Refusal :=
  .next (coreBundle c.val (.slots 0x2A dd.val da.val 0 0 mv) s)

/-- MULI (R173): signed product of the low halves. -/
def execMuli (c : Fin 8) (dd da db : Fin 16) (mv : Moves) (s : State) : Host.Outcome State Fault Refusal :=
  .next (coreBundle c.val (.slots 0x27 dd.val da.val db.val 0 mv) s)

/-- MAXI (R172): search step with IDX. -/
def execMaxi (c : Fin 8) (dd da : Fin 16) (abs : Bool) (mv : Moves) (s : State) : Host.Outcome State Fault Refusal :=
  .next (coreBundle c.val (.slots 0x28 dd.val da.val 0 (b2n abs) mv) s)

/-- MINI (R172): search step with IDX. -/
def execMini (c : Fin 8) (dd da : Fin 16) (abs : Bool) (mv : Moves) (s : State) : Host.Outcome State Fault Refusal :=
  .next (coreBundle c.val (.slots 0x29 dd.val da.val 0 (b2n abs) mv) s)

/-- NOP (R173, R174): as a control bundle or as a compute slot -/
def execNop (c : Fin 8) (ctl : Bool) (mv : Moves) (s : State) : Host.Outcome State Fault Refusal :=
  .next (coreBundle c.val (if ctl then .ctl 0x00 0 else .slots 0x00 0 0 0 0 mv) s)

/-- LD (R161) -/
def execLd (c : Fin 8) (y : Bool) (m : MoveSlot) (s : State) : Host.Outcome State Fault Refusal :=
  .next (coreBundle c.val (loadBundle y (moveOf 1 m)) s)

/-- LDH (R161) -/
def execLdh (c : Fin 8) (y : Bool) (m : MoveSlot) (s : State) : Host.Outcome State Fault Refusal :=
  .next (coreBundle c.val (loadBundle y (moveOf 2 m)) s)

/-- ST (R161) -/
def execSt (c : Fin 8) (m : MoveSlot) (s : State) : Host.Outcome State Fault Refusal :=
  .next (coreBundle c.val (storeBundle (moveOf 1 m)) s)

/-- STA (R166) -/
def execSta (c : Fin 8) (m : MoveSlot) (s : State) : Host.Outcome State Fault Refusal :=
  .next (coreBundle c.val (storeBundle (moveOf 2 m)) s)

/-- STL (R166) -/
def execStl (c : Fin 8) (m : MoveSlot) (s : State) : Host.Outcome State Fault Refusal :=
  .next (coreBundle c.val (storeBundle (moveOf 3 m)) s)

/-- BR (R174) -/
def execBr (c : Fin 8) (cond : Fin 16) (ofs : BitVec 24) (s : State) : Host.Outcome State Fault Refusal :=
  .next (coreBundle c.val (.ctl 0x01 (cond.val * 2 ^ 52 + ofs.toNat)) s)

/-- BRD (R174) -/
def execBrd (c : Fin 8) (cond dd : Fin 16) (s : State) : Host.Outcome State Fault Refusal :=
  .next (coreBundle c.val (.ctl 0x02 (cond.val * 2 ^ 52 + dd.val * 2 ^ 48)) s)

/-- CALL (R185) -/
def execCall (c : Fin 8) (ofs : BitVec 24) (s : State) : Host.Outcome State Fault Refusal :=
  .next (coreBundle c.val (.ctl 0x03 ofs.toNat) s)

/-- RET (R185) -/
def execRet (c : Fin 8) (s : State) : Host.Outcome State Fault Refusal := .next (coreBundle c.val (.ctl 0x04 0) s)

/-- RETI (R192) -/
def execReti (c : Fin 8) (s : State) : Host.Outcome State Fault Refusal := .next (coreBundle c.val (.ctl 0x05 0) s)

/-- RETS (R193) -/
def execRets (c : Fin 8) (s : State) : Host.Outcome State Fault Refusal := .next (coreBundle c.val (.ctl 0x06 0) s)

/-- REP (R168): `lenM1` is the field LEN − 1; the register form takes Dd from the low bits of the count field -/
def execRep (c : Fin 8) (yld reg : Bool) (count : BitVec 24) (lenM1 : BitVec 16) (s : State) : Host.Outcome State Fault Refusal :=
  .next (coreBundle c.val (.ctl 0x08 (b2n yld * 2 ^ 55 + b2n reg * 2 ^ 54 + count.toNat * 2 ^ 30 + lenM1.toNat)) s)

/-- LDI (R174) -/
def execLdi (c : Fin 8) (dd : Fin 16) (part : Fin 4) (imm : BitVec 32) (s : State) : Host.Outcome State Fault Refusal :=
  .next (coreBundle c.val (.ctl 0x09 (dd.val * 2 ^ 52 + part.val * 2 ^ 50 + imm.toNat)) s)

/-- MOVAR (R177) -/
def execMovar (c : Fin 8) (fromSpecial : Bool) (dd : Fin 16) (code : Fin 64) (s : State) : Host.Outcome State Fault Refusal :=
  .next (coreBundle c.val (.ctl 0x0A (b2n fromSpecial * 2 ^ 55 + dd.val * 2 ^ 51 + code.val * 2 ^ 40)) s)

/-- WAIT (R197) -/
def execWait (c : Fin 8) (s : State) : Host.Outcome State Fault Refusal := .next (coreBundle c.val (.ctl 0x0B 0) s)

/-- HALT (R198) -/
def execHalt (c : Fin 8) (s : State) : Host.Outcome State Fault Refusal := .next (coreBundle c.val (.ctl 0x0C 0) s)

/-- TRAP (R196) -/
def execTrap (c : Fin 8) (num : BitVec 8) (s : State) : Host.Outcome State Fault Refusal :=
  .next (coreBundle c.val (.ctl 0x0D num.toNat) s)

/-- SYNC (R174) -/
def execSync (c : Fin 8) (s : State) : Host.Outcome State Fault Refusal := .next (coreBundle c.val (.ctl 0x0E 0) s)

/-- ICINV (R170) -/
def execIcinv (c : Fin 8) (s : State) : Host.Outcome State Fault Refusal := .next (coreBundle c.val (.ctl 0x0F 0) s)

/-- BUS_ABORT (R175): the oldest posted store is answered ABORT -/
def execBusAbort (c : Fin 8) (s : State) : Host.Outcome State Fault Refusal := .next (postedAbort c.val s)

/-- CORE_FABRIC_RETRY (R175): the port reissues its requests -/
def execCoreFabricRetry (c : Fin 8) (s : State) : Host.Outcome State Fault Refusal :=
  .next (settleSteps (resumeStall c.val s))

/-- FAST_INTERRUPT_ENTRY (R188) -/
def execFastInterruptEntry (c : Fin 8) (s : State) : Host.Outcome State Fault Refusal :=
  .next (fastAtBoundary c.val s)

/-- HELD_INTERRUPT_ENTRY (R189) -/
def execHeldInterruptEntry (c : Fin 8) (s : State) : Host.Outcome State Fault Refusal :=
  .next (heldAtBoundary c.val s)

/-- HOLD_OVERRUN (R195) -/
def execHoldOverrun (c : Fin 8) (s : State) : Host.Outcome State Fault Refusal :=
  .next (modCore c.val holdLimitReached s)

/-- WAIT_WAKE (R197) -/
def execWaitWake (c : Fin 8) (s : State) : Host.Outcome State Fault Refusal := .next (waitWake c.val s)

/-- BREAKPOINT_MATCH (R201) -/
def execBreakpointMatch (c : Fin 8) (s : State) : Host.Outcome State Fault Refusal := .next (bkptAtBoundary c.val s)

/-- SC_IRQ_RAISE (R186) -/
def execScIrqRaise (c : Fin 8) (w : Word) (s : State) : Host.Outcome State Fault Refusal :=
  .next (coreRegVia c.val 0x078 w s)

/-- SC_CTL_HALT (R201) -/
def execScCtlHalt (c : Fin 8) (key : BitVec 8) (s : State) : Host.Outcome State Fault Refusal :=
  .next (ctlVia c.val key.toNat 1 s)

/-- SC_CTL_RUN (R198) -/
def execScCtlRun (c : Fin 8) (key : BitVec 8) (s : State) : Host.Outcome State Fault Refusal :=
  .next (ctlVia c.val key.toNat 2 s)

/-- SC_CTL_STEP (R201) -/
def execScCtlStep (c : Fin 8) (key : BitVec 8) (s : State) : Host.Outcome State Fault Refusal :=
  .next (ctlVia c.val key.toNat 3 s)

/-- SC_CTL_RESTART (R203) -/
def execScCtlRestart (c : Fin 8) (key : BitVec 8) (s : State) : Host.Outcome State Fault Refusal :=
  .next (ctlVia c.val key.toNat 4 s)

/-- SC_DBG_DATA_ACCESS (R201): a write, or a read whose value is the reply -/
def execScDbgDataAccess (c : Fin 8) (w : Option Word) (s : State) : Host.Outcome State Fault Refusal :=
  .next (dbgVia c.val w s)

/-- SC_WDOG_SERVICE (R81): the word with SERVICE = 1 -/
def execScWdogService (c : Fin 8) (w : Word) (s : State) : Host.Outcome State Fault Refusal :=
  .next (coreRegVia c.val 0x0E0 (w ||| (1#64 <<< 32)) s)

/-- FABRIC_READ (R485) -/
def execFabricRead (init : Initiator) (addr : BitVec 40) (ecc : EccEvent) (s : State) : Host.Outcome State Fault Refusal :=
  .next (fabReadCmd init addr.toNat ecc s)

/-- FABRIC_WRITE (R475) -/
def execFabricWrite (init : Initiator) (addr : BitVec 40) (strobe : BitVec 8) (data : Word) (s : State) : Host.Outcome State Fault Refusal :=
  .next (fabWriteCmd init addr.toNat strobe.toNat data s)

end Sys2Proof.Machine
end

