-- ==== Sys2Proof/Machine/Dispatch.lean ====
section
/-! DEFINITION. One arm per constructor of `Instr`: the direct call of its meaning. -/
namespace Sys2Proof.Machine
open Sys2Proof

/-- The effect of a command on everything but the queue. -/
def exec (i : Instr) (s : State) : Host.Outcome State Fault Refusal :=
  match i with
  | .modeRequest src key target => Sys2Proof.Machine.execModeRequest src key target s
  | .modeReqCancel src key => Sys2Proof.Machine.execModeReqCancel src key s
  | .wakeEvent k => Sys2Proof.Machine.execWakeEvent k s
  | .recallTrigger src => Sys2Proof.Machine.execRecallTrigger src s
  | .safestopCause c => Sys2Proof.Machine.execSafestopCause c s
  | .deferredRequestEntry => Sys2Proof.Machine.execDeferredRequestEntry s
  | .deferredRequestTimeout => Sys2Proof.Machine.execDeferredRequestTimeout s
  | .scheduleNightStart => Sys2Proof.Machine.execScheduleNightStart s
  | .scheduleNightEnd => Sys2Proof.Machine.execScheduleNightEnd s
  | .powerOnReset => Sys2Proof.Machine.execPowerOnReset s
  | .resetN => Sys2Proof.Machine.execResetN s
  | .supplyLoss => Sys2Proof.Machine.execSupplyLoss s
  | .bringupStepComplete x => Sys2Proof.Machine.execBringupStepComplete x s
  | .wakeAfterDormantEntry => Sys2Proof.Machine.execWakeAfterDormantEntry s
  | .wakeNEdge pin => Sys2Proof.Machine.execWakeNEdge pin s
  | .rtcTimeWrite w => Sys2Proof.Machine.execRtcTimeWrite w s
  | .rtcMinuteSync => Sys2Proof.Machine.execRtcMinuteSync s
  | .targetMhzWrite mhz => Sys2Proof.Machine.execTargetMhzWrite mhz s
  | .familyWrite family => Sys2Proof.Machine.execFamilyWrite family s
  | .pllLock p => Sys2Proof.Machine.execPllLock p s
  | .relockStairStep p => Sys2Proof.Machine.execRelockStairStep p s
  | .monTrip p => Sys2Proof.Machine.execMonTrip p s
  | .lockLoss p => Sys2Proof.Machine.execLockLoss p s
  | .lockSearchTimeout p => Sys2Proof.Machine.execLockSearchTimeout p s
  | .aonDutyTick => Sys2Proof.Machine.execAonDutyTick s
  | .fenceDrainTimeout island => Sys2Proof.Machine.execFenceDrainTimeout island s
  | .fenceRelease island => Sys2Proof.Machine.execFenceRelease island s
  | .fabricTimeout initiator target => Sys2Proof.Machine.execFabricTimeout initiator target s
  | .islCtlRestart key islands => Sys2Proof.Machine.execIslCtlRestart key islands s
  | .islCtlHold key islands => Sys2Proof.Machine.execIslCtlHold key islands s
  | .islCtlRelease key islands => Sys2Proof.Machine.execIslCtlRelease key islands s
  | .islandFault island => Sys2Proof.Machine.execIslandFault island s
  | .refclkLoss => Sys2Proof.Machine.execRefclkLoss s
  | .refclkRelock => Sys2Proof.Machine.execRefclkRelock s
  | .islandWatchdogExpiry island => Sys2Proof.Machine.execIslandWatchdogExpiry island s
  | .aonWatchdogExpiry => Sys2Proof.Machine.execAonWatchdogExpiry s
  | .scWdogService c w => Sys2Proof.Machine.execScWdogService c w s
  | .read p addr crc committed copyBad => Sys2Proof.Machine.execRead p addr crc committed copyBad s
  | .readBurst p addr crc words copyBad => Sys2Proof.Machine.execReadBurst p addr crc words copyBad s
  | .readRepeat p addr crc words copyBad => Sys2Proof.Machine.execReadRepeat p addr crc words copyBad s
  | .write p keys addr data crc => Sys2Proof.Machine.execWrite p keys addr data crc s
  | .writeBurst p keys addr words => Sys2Proof.Machine.execWriteBurst p keys addr words s
  | .writeRepeat p keys addr words => Sys2Proof.Machine.execWriteRepeat p keys addr words s
  | .unlistedOpcode p opcode addr crc => Sys2Proof.Machine.execUnlistedOpcode p opcode addr crc s
  | .frameTruncated p => Sys2Proof.Machine.execFrameTruncated p s
  | .hpCfgWrite p w => Sys2Proof.Machine.execHpCfgWrite p w s
  | .winAddrWrite n w => Sys2Proof.Machine.execWinAddrWrite n w s
  | .winDataRead n committed => Sys2Proof.Machine.execWinDataRead n committed s
  | .winDataWrite n w => Sys2Proof.Machine.execWinDataWrite n w s
  | .winPrefetchComplete n => Sys2Proof.Machine.execWinPrefetchComplete n s
  | .winPostedWriteComplete n => Sys2Proof.Machine.execWinPostedWriteComplete n s
  | .winRetryReissue n => Sys2Proof.Machine.execWinRetryReissue n s
  | .winRequestTimeout n => Sys2Proof.Machine.execWinRequestTimeout n s
  | .registerWrite p off w => Sys2Proof.Machine.execRegisterWrite p off w s
  | .consentPropose ch w => Sys2Proof.Machine.execConsentPropose ch w s
  | .consentWithdraw ch w => Sys2Proof.Machine.execConsentWithdraw ch w s
  | .hashingComplete scope => Sys2Proof.Machine.execHashingComplete scope s
  | .consentConfirm ch tag => Sys2Proof.Machine.execConsentConfirm ch tag s
  | .consentWindowExpiry scope => Sys2Proof.Machine.execConsentWindowExpiry scope s
  | .commitPoint scope flashOk => Sys2Proof.Machine.execCommitPoint scope flashOk s
  | .reserve q => Sys2Proof.Machine.execReserve q s
  | .publish q n => Sys2Proof.Machine.execPublish q n s
  | .enqueue q w => Sys2Proof.Machine.execEnqueue q w s
  | .dequeue q => Sys2Proof.Machine.execDequeue q s
  | .ack q n => Sys2Proof.Machine.execAck q n s
  | .arm q cons prod => Sys2Proof.Machine.execArm q cons prod s
  | .status q => Sys2Proof.Machine.execStatus q s
  | .hostEnqueue => Sys2Proof.Machine.execHostEnqueue s
  | .hostEnqueueCopyComplete => Sys2Proof.Machine.execHostEnqueueCopyComplete s
  | .take arg => Sys2Proof.Machine.execTake arg s
  | .hostAck n => Sys2Proof.Machine.execHostAck n s
  | .takeAck arg => Sys2Proof.Machine.execTakeAck arg s
  | .armConsumer => Sys2Proof.Machine.execArmConsumer s
  | .armProducer => Sys2Proof.Machine.execArmProducer s
  | .qSelWrite w => Sys2Proof.Machine.execQSelWrite w s
  | .qPeekFill => Sys2Proof.Machine.execQPeekFill s
  | .load src => Sys2Proof.Machine.execLoad src s
  | .config src => Sys2Proof.Machine.execConfig src s
  | .reinit src => Sys2Proof.Machine.execReinit src s
  | .queueDisable src => Sys2Proof.Machine.execQueueDisable src s
  | .rewind src => Sys2Proof.Machine.execRewind src s
  | .clearStats src => Sys2Proof.Machine.execClearStats src s
  | .loadActionComplete => Sys2Proof.Machine.execLoadActionComplete s
  | .quarantine q => Sys2Proof.Machine.execQuarantine q s
  | .cmac c an da db mv => Sys2Proof.Machine.execCmac c an da db mv s
  | .cmsu c an da db mv => Sys2Proof.Machine.execCmsu c an da db mv s
  | .cmacj c an da db mv => Sys2Proof.Machine.execCmacj c an da db mv s
  | .cmul c an da db mv => Sys2Proof.Machine.execCmul c an da db mv s
  | .ftap c an da db mv => Sys2Proof.Machine.execFtap c an da db mv s
  | .rmac2 c an da db mv => Sys2Proof.Machine.execRmac2 c an da db mv s
  | .rmsu2 c an da db mv => Sys2Proof.Machine.execRmsu2 c an da db mv s
  | .rmul2 c an da db mv => Sys2Proof.Machine.execRmul2 c an da db mv s
  | .ftapr c an da db mv => Sys2Proof.Machine.execFtapr c an da db mv s
  | .clra c an mv => Sys2Proof.Machine.execClra c an mv s
  | .mova c an da mv => Sys2Proof.Machine.execMova c an da mv s
  | .adda c an am mv => Sys2Proof.Machine.execAdda c an am mv s
  | .suba c an am mv => Sys2Proof.Machine.execSuba c an am mv s
  | .shra c an sb md mv => Sys2Proof.Machine.execShra c an sb md mv s
  | .shla c an sb md mv => Sys2Proof.Machine.execShla c an sb md mv s
  | .movd c dd an mv => Sys2Proof.Machine.execMovd c dd an mv s
  | .movdl c dd an mv => Sys2Proof.Machine.execMovdl c dd an mv s
  | .movdi c dd an mv => Sys2Proof.Machine.execMovdi c dd an mv s
  | .add c dd da db mv => Sys2Proof.Machine.execAdd c dd da db mv s
  | .sub c dd da db mv => Sys2Proof.Machine.execSub c dd da db mv s
  | .scAnd c dd da db mv => Sys2Proof.Machine.execScAnd c dd da db mv s
  | .scOr c dd da db mv => Sys2Proof.Machine.execScOr c dd da db mv s
  | .xor c dd da db mv => Sys2Proof.Machine.execXor c dd da db mv s
  | .shl c dd da sb md mv => Sys2Proof.Machine.execShl c dd da sb md mv s
  | .shr c dd da sb md mv => Sys2Proof.Machine.execShr c dd da sb md mv s
  | .sar c dd da sb md mv => Sys2Proof.Machine.execSar c dd da sb md mv s
  | .cmp c da db mv => Sys2Proof.Machine.execCmp c da db mv s
  | .mov c dd da mv => Sys2Proof.Machine.execMov c dd da mv s
  | .adds2 c dd da db mv => Sys2Proof.Machine.execAdds2 c dd da db mv s
  | .subs2 c dd da db mv => Sys2Proof.Machine.execSubs2 c dd da db mv s
  | .neg2 c dd da mv => Sys2Proof.Machine.execNeg2 c dd da mv s
  | .conj c dd da mv => Sys2Proof.Machine.execConj c dd da mv s
  | .swap c dd da mv => Sys2Proof.Machine.execSwap c dd da mv s
  | .muli c dd da db mv => Sys2Proof.Machine.execMuli c dd da db mv s
  | .maxi c dd da abs mv => Sys2Proof.Machine.execMaxi c dd da abs mv s
  | .mini c dd da abs mv => Sys2Proof.Machine.execMini c dd da abs mv s
  | .abs2 c dd da mv => Sys2Proof.Machine.execAbs2 c dd da mv s
  | .nop c ctl mv => Sys2Proof.Machine.execNop c ctl mv s
  | .ld c y m => Sys2Proof.Machine.execLd c y m s
  | .ldh c y m => Sys2Proof.Machine.execLdh c y m s
  | .st c m => Sys2Proof.Machine.execSt c m s
  | .sta c m => Sys2Proof.Machine.execSta c m s
  | .stl c m => Sys2Proof.Machine.execStl c m s
  | .br c cond ofs => Sys2Proof.Machine.execBr c cond ofs s
  | .brd c cond dd => Sys2Proof.Machine.execBrd c cond dd s
  | .call c ofs => Sys2Proof.Machine.execCall c ofs s
  | .ret c => Sys2Proof.Machine.execRet c s
  | .reti c => Sys2Proof.Machine.execReti c s
  | .rets c => Sys2Proof.Machine.execRets c s
  | .rep c yld reg count lenM1 => Sys2Proof.Machine.execRep c yld reg count lenM1 s
  | .ldi c dd part imm => Sys2Proof.Machine.execLdi c dd part imm s
  | .movar c fromSpecial dd code => Sys2Proof.Machine.execMovar c fromSpecial dd code s
  | .wait c => Sys2Proof.Machine.execWait c s
  | .halt c => Sys2Proof.Machine.execHalt c s
  | .trap c num => Sys2Proof.Machine.execTrap c num s
  | .sync c => Sys2Proof.Machine.execSync c s
  | .icinv c => Sys2Proof.Machine.execIcinv c s
  | .busAbort c => Sys2Proof.Machine.execBusAbort c s
  | .coreFabricRetry c => Sys2Proof.Machine.execCoreFabricRetry c s
  | .fastInterruptEntry c => Sys2Proof.Machine.execFastInterruptEntry c s
  | .heldInterruptEntry c => Sys2Proof.Machine.execHeldInterruptEntry c s
  | .holdOverrun c => Sys2Proof.Machine.execHoldOverrun c s
  | .waitWake c => Sys2Proof.Machine.execWaitWake c s
  | .breakpointMatch c => Sys2Proof.Machine.execBreakpointMatch c s
  | .scIrqRaise c w => Sys2Proof.Machine.execScIrqRaise c w s
  | .scCtlHalt c key => Sys2Proof.Machine.execScCtlHalt c key s
  | .scCtlRun c key => Sys2Proof.Machine.execScCtlRun c key s
  | .scCtlStep c key => Sys2Proof.Machine.execScCtlStep c key s
  | .scCtlRestart c key => Sys2Proof.Machine.execScCtlRestart c key s
  | .scDbgDataAccess c w => Sys2Proof.Machine.execScDbgDataAccess c w s
  | .blockDelivery endTime inputBits ecc => Sys2Proof.Machine.execBlockDelivery endTime inputBits ecc s
  | .blockDeliveryRetry => Sys2Proof.Machine.execBlockDeliveryRetry s
  | .inputStuck idx => Sys2Proof.Machine.execInputStuck idx s
  | .mqSelWrite w => Sys2Proof.Machine.execMqSelWrite w s
  | .quickViewUpdate => Sys2Proof.Machine.execQuickViewUpdate s
  | .harmonicsStart w => Sys2Proof.Machine.execHarmonicsStart w s
  | .harmonicsDone => Sys2Proof.Machine.execHarmonicsDone s
  | .pulseEdge k bHigh t => Sys2Proof.Machine.execPulseEdge k bHigh t s
  | .pulseFreqGate k => Sys2Proof.Machine.execPulseFreqGate k s
  | .pulseSecondCredit => Sys2Proof.Machine.execPulseSecondCredit s
  | .ledgerSecondCredit => Sys2Proof.Machine.execLedgerSecondCredit s
  | .heatSecond => Sys2Proof.Machine.execHeatSecond s
  | .mbusPollRound m => Sys2Proof.Machine.execMbusPollRound m s
  | .mbusReply m frame => Sys2Proof.Machine.execMbusReply m frame s
  | .mbusReplyTimeout m => Sys2Proof.Machine.execMbusReplyTimeout m s
  | .secondarySearch m w => Sys2Proof.Machine.execSecondarySearch m w s
  | .secondarySearchDone m found => Sys2Proof.Machine.execSecondarySearchDone m found s
  | .spiScan replies => Sys2Proof.Machine.execSpiScan replies s
  | .ledgerNvmCommit => Sys2Proof.Machine.execLedgerNvmCommit s
  | .demandIntervalEnd => Sys2Proof.Machine.execDemandIntervalEnd s
  | .dailySnapshot => Sys2Proof.Machine.execDailySnapshot s
  | .interimSnapshot w => Sys2Proof.Machine.execInterimSnapshot w s
  | .snapshotWriteComplete => Sys2Proof.Machine.execSnapshotWriteComplete s
  | .ldgApply w => Sys2Proof.Machine.execLdgApply w s
  | .ldgApplyTakeEffect => Sys2Proof.Machine.execLdgApplyTakeEffect s
  | .carServoInstant c inc bothEdges ssi ageNs => Sys2Proof.Machine.execCarServoInstant c inc bothEdges ssi ageNs s
  | .dzEdge c rising sinceServoNs => Sys2Proof.Machine.execDzEdge c rising sinceServoNs s
  | .learnRunComplete c => Sys2Proof.Machine.execLearnRunComplete c s
  | .callRegistration source seq call => Sys2Proof.Machine.execCallRegistration source seq call s
  | .dispatchCycle cutOff => Sys2Proof.Machine.execDispatchCycle cutOff s
  | .assignmentReceived c id landing park => Sys2Proof.Machine.execAssignmentReceived c id landing park s
  | .tripEnergyRead c => Sys2Proof.Machine.execTripEnergyRead c s
  | .tripTimeout c => Sys2Proof.Machine.execTripTimeout c s
  | .driveStatusPdo c pdo => Sys2Proof.Machine.execDriveStatusPdo c pdo s
  | .islandDispatchFallback g => Sys2Proof.Machine.execIslandDispatchFallback g s
  | .carReport payload => Sys2Proof.Machine.execCarReport payload s
  | .dispatchCall payload => Sys2Proof.Machine.execDispatchCall payload s
  | .assign payload => Sys2Proof.Machine.execAssign payload s
  | .callClear payload => Sys2Proof.Machine.execCallClear payload s
  | .demandCounts payload => Sys2Proof.Machine.execDemandCounts payload s
  | .carCall c landing side req => Sys2Proof.Machine.execCarCall c landing side req s
  | .hallCall c landing side dir req => Sys2Proof.Machine.execHallCall c landing side dir req s
  | .outOfService c req => Sys2Proof.Machine.execOutOfService c req s
  | .inService c req => Sys2Proof.Machine.execInService c req s
  | .learnRun c req => Sys2Proof.Machine.execLearnRun c req s
  | .correctionRun c req => Sys2Proof.Machine.execCorrectionRun c req s
  | .testRun c landing req => Sys2Proof.Machine.execTestRun c landing req s
  | .inspMove c dir req => Sys2Proof.Machine.execInspMove c dir req s
  | .liftApply w => Sys2Proof.Machine.execLiftApply w s
  | .floorReload w => Sys2Proof.Machine.execFloorReload w s
  | .energyReset w => Sys2Proof.Machine.execEnergyReset w s
  | .liftDeferredAction => Sys2Proof.Machine.execLiftDeferredAction s
  | .permitFall c p => Sys2Proof.Machine.execPermitFall c p s
  | .permitRise c p => Sys2Proof.Machine.execPermitRise c p s
  | .moveAbs a flags vcap target req => Sys2Proof.Machine.execMoveAbs a flags vcap target req s
  | .moveRel a flags vcap target req => Sys2Proof.Machine.execMoveRel a flags vcap target req s
  | .stop a req => Sys2Proof.Machine.execStop a req s
  | .resume a req => Sys2Proof.Machine.execResume a req s
  | .home a vcap arg req => Sys2Proof.Machine.execHome a vcap arg req s
  | .gearOn a flags arg req => Sys2Proof.Machine.execGearOn a flags arg req s
  | .gearOff a flags vcap target req => Sys2Proof.Machine.execGearOff a flags vcap target req s
  | .enable a req => Sys2Proof.Machine.execEnable a req s
  | .disable a req => Sys2Proof.Machine.execDisable a req s
  | .faultClear a req => Sys2Proof.Machine.execFaultClear a req s
  | .setPos a target req => Sys2Proof.Machine.execSetPos a target req s
  | .escClear c req => Sys2Proof.Machine.execEscClear c req s
  | .axisServoInstant a => Sys2Proof.Machine.execAxisServoInstant a s
  | .homingTimeout a => Sys2Proof.Machine.execHomingTimeout a s
  | .limitInputActive a hi level sinceServoNs => Sys2Proof.Machine.execLimitInputActive a hi level sinceServoNs s
  | .escalatorEvaluation c counts left right ms => Sys2Proof.Machine.execEscalatorEvaluation c counts left right ms s
  | .motApply w => Sys2Proof.Machine.execMotApply w s
  | .motApplyDeferred => Sys2Proof.Machine.execMotApplyDeferred s
  | .tableInvalidate w => Sys2Proof.Machine.execTableInvalidate w s
  | .tableAddressUpdate a j => Sys2Proof.Machine.execTableAddressUpdate a j s
  | .comparatorEdge a phaseB above delayNs atNs => Sys2Proof.Machine.execComparatorEdge a phaseB above delayNs atNs s
  | .chopDeadTimeEnd a phaseB atNs => Sys2Proof.Machine.execChopDeadTimeEnd a phaseB atNs s
  | .chopBlankEnd a phaseB above => Sys2Proof.Machine.execChopBlankEnd a phaseB above s
  | .chopFastDecayEnd a phaseB => Sys2Proof.Machine.execChopFastDecayEnd a phaseB s
  | .senseOffsetMeasure a ofsA ofsB => Sys2Proof.Machine.execSenseOffsetMeasure a ofsA ofsB s
  | .offsetCal w => Sys2Proof.Machine.execOffsetCal w s
  | .standstillReduction a => Sys2Proof.Machine.execStandstillReduction a s
  | .bemfSample a phaseB code atNs => Sys2Proof.Machine.execBemfSample a phaseB code atNs s
  | .estimate a => Sys2Proof.Machine.execEstimate a s
  | .nudgeResume a => Sys2Proof.Machine.execNudgeResume a s
  | .bridgeFault a code present => Sys2Proof.Machine.execBridgeFault a code present s
  | .ddApply w => Sys2Proof.Machine.execDdApply w s
  | .ddApplyDeferred => Sys2Proof.Machine.execDdApplyDeferred s
  | .tripPathTrip kin => Sys2Proof.Machine.execTripPathTrip kin s
  | .kinFilterChange n v => Sys2Proof.Machine.execKinFilterChange n v s
  | .discrepancyLatch k => Sys2Proof.Machine.execDiscrepancyLatch k s
  | .kerbScan rb => Sys2Proof.Machine.execKerbScan rb s
  | .kerbNop => Sys2Proof.Machine.execKerbNop s
  | .kerbLd n space idx => Sys2Proof.Machine.execKerbLd n space idx s
  | .kerbAnd n space idx => Sys2Proof.Machine.execKerbAnd n space idx s
  | .kerbOr n space idx => Sys2Proof.Machine.execKerbOr n space idx s
  | .kerbXor n space idx => Sys2Proof.Machine.execKerbXor n space idx s
  | .kerbPush n space idx => Sys2Proof.Machine.execKerbPush n space idx s
  | .andp => Sys2Proof.Machine.execAndp s
  | .orp => Sys2Proof.Machine.execOrp s
  | .kerbSt n space idx => Sys2Proof.Machine.execKerbSt n space idx s
  | .kerbSet space idx => Sys2Proof.Machine.execKerbSet space idx s
  | .kerbRst space idx => Sys2Proof.Machine.execKerbRst space idx s
  | .tim idx => Sys2Proof.Machine.execTim idx s
  | .edgr idx => Sys2Proof.Machine.execEdgr idx s
  | .edgf idx => Sys2Proof.Machine.execEdgf idx s
  | .ctu idx => Sys2Proof.Machine.execCtu idx s
  | .ctd idx => Sys2Proof.Machine.execCtd idx s
  | .cres idx => Sys2Proof.Machine.execCres idx s
  | .jmpc t => Sys2Proof.Machine.execJmpc t s
  | .jmp t => Sys2Proof.Machine.execJmp t s
  | .cue car cue => Sys2Proof.Machine.execCue car cue s
  | .frst idx => Sys2Proof.Machine.execFrst idx s
  | .kerbEnd => Sys2Proof.Machine.execKerbEnd s
  | .readbackFault n level => Sys2Proof.Machine.execReadbackFault n level s
  | .outputTestPulse n sawOff => Sys2Proof.Machine.execOutputTestPulse n sawOff s
  | .programExchange => Sys2Proof.Machine.execProgramExchange s
  | .tripPathsExchange => Sys2Proof.Machine.execTripPathsExchange s
  | .kerbFault c => Sys2Proof.Machine.execKerbFault c s
  | .compareFailure cycle unit => Sys2Proof.Machine.execCompareFailure cycle unit s
  | .audioBlock first alignNs paging feeds missed => Sys2Proof.Machine.execAudioBlock first alignNs paging feeds missed s
  | .kerbCueEntry => Sys2Proof.Machine.execKerbCueEntry s
  | .liftCue => Sys2Proof.Machine.execLiftCue s
  | .start kind prio id note vel zones hold excl t req => Sys2Proof.Machine.execStart kind prio id note vel zones hold excl t req s
  | .release handle req => Sys2Proof.Machine.execRelease handle req s
  | .kill handle req => Sys2Proof.Machine.execKill handle req s
  | .bsCue prio cue car t req => Sys2Proof.Machine.execBsCue prio cue car t req s
  | .setP handle p0 p1 req => Sys2Proof.Machine.execSetP handle p0 p1 req s
  | .audioCue node seq cue car prio t => Sys2Proof.Machine.execAudioCue node seq cue car prio t s
  | .noteOn ch note vel => Sys2Proof.Machine.execNoteOn ch note vel s
  | .noteOff ch note => Sys2Proof.Machine.execNoteOff ch note s
  | .controlChange ch cc v => Sys2Proof.Machine.execControlChange ch cc v s
  | .programChange ch program => Sys2Proof.Machine.execProgramChange ch program s
  | .channelPressure ch v => Sys2Proof.Machine.execChannelPressure ch v s
  | .pitchBend ch v => Sys2Proof.Machine.execPitchBend ch v s
  | .activeSensing => Sys2Proof.Machine.execActiveSensing s
  | .midiSensingTimeout => Sys2Proof.Machine.execMidiSensingTimeout s
  | .p7FifoTimeout => Sys2Proof.Machine.execP7FifoTimeout s
  | .bsApply w => Sys2Proof.Machine.execBsApply w s
  | .wtInvalidate w => Sys2Proof.Machine.execWtInvalidate w s
  | .stopAll w => Sys2Proof.Machine.execStopAll w s
  | .phraseReload w dir => Sys2Proof.Machine.execPhraseReload w dir s
  | .phraseReloadDeferred dir => Sys2Proof.Machine.execPhraseReloadDeferred dir s
  | .fcInputEntry slot => Sys2Proof.Machine.execFcInputEntry slot s
  | .chunkDue => Sys2Proof.Machine.execChunkDue s
  | .batchWriteBack => Sys2Proof.Machine.execBatchWriteBack s
  | .create stream slot source => Sys2Proof.Machine.execCreate stream slot source s
  | .delete stream => Sys2Proof.Machine.execDelete stream s
  | .streamReset stream => Sys2Proof.Machine.execStreamReset stream s
  | .headReset stream => Sys2Proof.Machine.execHeadReset stream s
  | .freeze stream => Sys2Proof.Machine.execFreeze stream s
  | .thaw stream => Sys2Proof.Machine.execThaw stream s
  | .streamCtlDeferred => Sys2Proof.Machine.execStreamCtlDeferred s
  | .headUpdate => Sys2Proof.Machine.execHeadUpdate s
  | .fcApply w => Sys2Proof.Machine.execFcApply w s
  | .modelLoad w => Sys2Proof.Machine.execModelLoad w s
  | .modelLoadComplete file => Sys2Proof.Machine.execModelLoadComplete file s
  | .checkpoint w => Sys2Proof.Machine.execCheckpoint w s
  | .checkpointInterval => Sys2Proof.Machine.execCheckpointInterval s
  | .checkpointWriteComplete => Sys2Proof.Machine.execCheckpointWriteComplete s
  | .loadPoint n => Sys2Proof.Machine.execLoadPoint n s
  | .pwmCodeWrite n w => Sys2Proof.Machine.execPwmCodeWrite n w s
  | .timebaseTick g => Sys2Proof.Machine.execTimebaseTick g s
  | .pwmLoadNEdge g lowNs => Sys2Proof.Machine.execPwmLoadNEdge g lowNs s
  | .strobe groups => Sys2Proof.Machine.execStrobe groups s
  | .pwmApply => Sys2Proof.Machine.execPwmApply s
  | .pwmFaultClear channels => Sys2Proof.Machine.execPwmFaultClear channels s
  | .genSync channels => Sys2Proof.Machine.execGenSync channels s
  | .markerEmit => Sys2Proof.Machine.execMarkerEmit s
  | .markerReceive r m residence16 => Sys2Proof.Machine.execMarkerReceive r m residence16 s
  | .kerbFrameInsert => Sys2Proof.Machine.execKerbFrameInsert s
  | .kerbFrameReceive f pcrcOk => Sys2Proof.Machine.execKerbFrameReceive f pcrcOk s
  | .frameAccept r f firstPass pcrcOk fcsOk => Sys2Proof.Machine.execFrameAccept r f firstPass pcrcOk fcsOk s
  | .hopDelayMeasure r roundTripPs turnaroundPs => Sys2Proof.Machine.execHopDelayMeasure r roundTripPs turnaroundPs s
  | .controlJoin m => Sys2Proof.Machine.execControlJoin m s
  | .membershipEffective members prios => Sys2Proof.Machine.execMembershipEffective members prios s
  | .groupDispatcherChange => Sys2Proof.Machine.execGroupDispatcherChange s
  | .turn => Sys2Proof.Machine.execTurn s
  | .frameReturn c ackStatus ackCnt => Sys2Proof.Machine.execFrameReturn c ackStatus ackCnt s
  | .breakDetect portQ => Sys2Proof.Machine.execBreakDetect portQ s
  | .breakReceive r => Sys2Proof.Machine.execBreakReceive r s
  | .unwrap => Sys2Proof.Machine.execUnwrap s
  | .blvApply => Sys2Proof.Machine.execBlvApply s
  | .blvLeave => Sys2Proof.Machine.execBlvLeave s
  | .blvJoin => Sys2Proof.Machine.execBlvJoin s
  | .blvConfirm target => Sys2Proof.Machine.execBlvConfirm target s
  | .wardenConfirmReceive src tag => Sys2Proof.Machine.execWardenConfirmReceive src tag s
  | .wardenReplyReceive src status reason => Sys2Proof.Machine.execWardenReplyReceive src status reason s
  | .meterRollupSend => Sys2Proof.Machine.execMeterRollupSend s
  | .meterRollupReceive src payload => Sys2Proof.Machine.execMeterRollupReceive src payload s
  | .fabricRead init addr ecc => Sys2Proof.Machine.execFabricRead init addr ecc s
  | .fabricWrite init addr strobe data => Sys2Proof.Machine.execFabricWrite init addr strobe data s
  | .bypass => Sys2Proof.Machine.execBypass s
  | .idcode => Sys2Proof.Machine.execIdcode s
  | .samplePreload balls shiftIn => Sys2Proof.Machine.execSamplePreload balls shiftIn s
  | .extest keys => Sys2Proof.Machine.execExtest keys s
  | .clamp keys => Sys2Proof.Machine.execClamp keys s
  | .highz keys => Sys2Proof.Machine.execHighz keys s
  | .supplyMonitorAlarm r aonLost => Sys2Proof.Machine.execSupplyMonitorAlarm r aonLost s
  | .railCheckTimeout => Sys2Proof.Machine.execRailCheckTimeout s
  | .railRetry => Sys2Proof.Machine.execRailRetry s
  | .mdioPoll portQ status sync => Sys2Proof.Machine.execMdioPoll portQ status sync s
  | .timePps => Sys2Proof.Machine.execTimePps s
  | .supplyAlarmClear r => Sys2Proof.Machine.execSupplyAlarmClear r s
  | .stuckInputEnd idx => Sys2Proof.Machine.execStuckInputEnd idx s
  | .timeValidLoss => Sys2Proof.Machine.execTimeValidLoss s
  | .tapReset => Sys2Proof.Machine.execTapReset s

end Sys2Proof.Machine
end

