-- ==== Sys2Proof/Machine/Tick.lean ====
section
/-! DEFINITION. The passage of time on an empty queue: 1 µs of uptime, centre time, the RTC and TIME_PPS. -/
namespace Sys2Proof.Machine
open Sys2Proof

/-- 1 µs passes for the clocks of chapter 2: uptime, centre time (mod 2^64, R9), the RTC (R46) and the end of TIME_PPS. -/
def passTime (t : TimeState) : TimeState :=
  let ns := t.rtcNs + 1000
  { t with
    uptime := t.uptime + 1000
    centre := (t.centre + 1000) % 2 ^ 64
    rtcSec := if ns < 1000000000 then t.rtcSec else (t.rtcSec + 1) % 2 ^ 32
    rtcNs := if ns < 1000000000 then ns else ns - 1000000000
    pps := t.pps && decide (t.uptime + 1000 < t.ppsFall) }

/-- What an empty queue does: 1 µs passes. -/
def idleTick (s : State) : State := { s with time := passTime s.time }

end Sys2Proof.Machine
end

