-- ==== Sys2Proof/Quiet.lean ====
section
/-! DEFINITION. A part of the state without what doorbells, attention causes and interrupt requests change in it, so that a
frame can say that nothing else of the part changed. -/
namespace Sys2Proof.Machine

/-- An island without the doorbells latched toward it (R66). -/
def Island.quiet (x : Island) : Island := { x with latchedBells := [] }

/-- The host port without its attention causes (Table 4.7). -/
def HostState.quiet (h : HostState) : HostState := { h with attnCause := 0 }

/-- A core without its pending interrupt channels (R186). -/
def CoreState.quiet (k : CoreState) : CoreState := { k with ipend := 0 }

end Sys2Proof.Machine
end

