-- ==== Sys2Proof/WellFormed.lean ====
section
/-! DEFINITION. Which commands are well formed: what the widths of the fields of a register, a frame or a message leave
room for. The meanings of the machine are total; a sender cannot send a command that is not well formed. -/
namespace Sys2Proof

/-- The fields of a marker payload fit their widths (Table 18.4). -/
def Marker.wf (m : Marker) : Bool :=
  m.cycle < 2 ^ 64 && m.tTx < 2 ^ 64 && decide (-(2 ^ 31) ≤ m.corr16) && decide (m.corr16 < 2 ^ 31) &&
    m.lineage < 2 ^ 24 && m.memberVer < 256 && m.ackCnt < 256 && m.hops < 512

/-- The header and trailer fields of a frame fit their widths, and the payload has at most 1,024 bytes (Tables 18.2 and
18.3). -/
def BlvFrame.wf (f : BlvFrame) : Bool :=
  f.typ < 16 && f.flags < 16 && f.src < 256 && f.dst < 256 && f.port < 64 && f.seq < 65536 && f.payload.length ≤ 1024 &&
    f.ackCnt < 256 && f.nackNode < 256 && f.hops < 512

/-- The fields of a membership entry fit their widths (R451, R464). -/
def Member.wf (m : Member) : Bool :=
  m.addr < 256 && m.dieId < 2 ^ 64 && m.groups < 65536 && m.roleTag < 2 ^ 32 && m.lineage < 2 ^ 24 && m.prio < 256

/-- The code and detail of a failed step fit their fields, and the configuration writes words of Plaza (Tables 2.5, 2.9,
19.3). -/
def BringIn.wf (x : BringIn) : Bool :=
  x.fail.all (· < 256) && x.detail < 65536 && x.config.all (fun c => c.1 < 2 ^ 40 && c.1 % 8 == 0) &&
    x.models.all (fun m => m.1 < 16) && x.streams.all (fun t => t.1 < 16 && t.2.1 < 4096)

/-- The command fits the widths of what carries it. -/
def Instr.wf (c : Instr) : Bool :=
  match c with
  | .modeRequest _ key target => key < 256 && target < 8
  | .modeReqCancel _ key => key < 256
  | .wakeEvent .. => true
  | .recallTrigger .. => true
  | .safestopCause .. => true
  | .deferredRequestEntry => true
  | .deferredRequestTimeout => true
  | .scheduleNightStart => true
  | .scheduleNightEnd => true
  | .powerOnReset => true
  | .resetN => true
  | .supplyLoss => true
  | .bringupStepComplete x => x.wf
  | .wakeAfterDormantEntry => true
  | .wakeNEdge .. => true
  | .rtcTimeWrite .. => true
  | .rtcMinuteSync => true
  | .targetMhzWrite .. => true
  | .familyWrite .. => true
  | .pllLock .. => true
  | .relockStairStep .. => true
  | .monTrip .. => true
  | .lockLoss .. => true
  | .lockSearchTimeout .. => true
  | .aonDutyTick => true
  | .fenceDrainTimeout .. => true
  | .fenceRelease .. => true
  | .fabricTimeout .. => true
  | .islCtlRestart .. => true
  | .islCtlHold .. => true
  | .islCtlRelease .. => true
  | .islandFault .. => true
  | .refclkLoss => true
  | .refclkRelock => true
  | .islandWatchdogExpiry .. => true
  | .aonWatchdogExpiry => true
  | .scWdogService .. => true
  | .read .. => true
  | .readBurst _ _ _ words copyBad => words ≥ 1 && copyBad.all (· < words)
  | .readRepeat _ _ _ words copyBad => words ≥ 1 && copyBad.all (· < words)
  | .write .. => true
  | .writeBurst _ _ _ words => !words.isEmpty
  | .writeRepeat _ _ _ words => !words.isEmpty
  | .unlistedOpcode .. => true
  | .frameTruncated .. => true
  | .hpCfgWrite .. => true
  | .winAddrWrite .. => true
  | .winDataRead .. => true
  | .winDataWrite .. => true
  | .winPrefetchComplete .. => true
  | .winPostedWriteComplete .. => true
  | .winRetryReissue .. => true
  | .winRequestTimeout .. => true
  | .registerWrite .. => true
  | .consentPropose .. => true
  | .consentWithdraw .. => true
  | .hashingComplete .. => true
  | .consentConfirm .. => true
  | .consentWindowExpiry .. => true
  | .commitPoint .. => true
  | .reserve .. => true
  | .publish .. => true
  | .enqueue .. => true
  | .dequeue .. => true
  | .ack .. => true
  | .arm .. => true
  | .status .. => true
  | .hostEnqueue => true
  | .hostEnqueueCopyComplete => true
  | .take .. => true
  | .hostAck .. => true
  | .takeAck .. => true
  | .armConsumer => true
  | .armProducer => true
  | .qSelWrite .. => true
  | .qPeekFill => true
  | .load .. => true
  | .config .. => true
  | .reinit .. => true
  | .queueDisable .. => true
  | .rewind .. => true
  | .clearStats .. => true
  | .loadActionComplete => true
  | .quarantine .. => true
  | .cmac .. => true
  | .cmsu .. => true
  | .cmacj .. => true
  | .cmul .. => true
  | .ftap .. => true
  | .rmac2 .. => true
  | .rmsu2 .. => true
  | .rmul2 .. => true
  | .ftapr .. => true
  | .clra .. => true
  | .mova .. => true
  | .adda .. => true
  | .suba .. => true
  | .shra .. => true
  | .shla .. => true
  | .movd .. => true
  | .movdl .. => true
  | .movdi .. => true
  | .add .. => true
  | .sub .. => true
  | .scAnd .. => true
  | .scOr .. => true
  | .xor .. => true
  | .shl .. => true
  | .shr .. => true
  | .sar .. => true
  | .cmp .. => true
  | .mov .. => true
  | .adds2 .. => true
  | .subs2 .. => true
  | .neg2 .. => true
  | .conj .. => true
  | .swap .. => true
  | .muli .. => true
  | .maxi .. => true
  | .mini .. => true
  | .abs2 .. => true
  | .nop .. => true
  | .ld .. => true
  | .ldh .. => true
  | .st .. => true
  | .sta .. => true
  | .stl .. => true
  | .br .. => true
  | .brd .. => true
  | .call .. => true
  | .ret .. => true
  | .reti .. => true
  | .rets .. => true
  | .rep .. => true
  | .ldi .. => true
  | .movar .. => true
  | .wait .. => true
  | .halt .. => true
  | .trap .. => true
  | .sync .. => true
  | .icinv .. => true
  | .busAbort .. => true
  | .coreFabricRetry .. => true
  | .fastInterruptEntry .. => true
  | .heldInterruptEntry .. => true
  | .holdOverrun .. => true
  | .waitWake .. => true
  | .breakpointMatch .. => true
  | .scIrqRaise .. => true
  | .scCtlHalt .. => true
  | .scCtlRun .. => true
  | .scCtlStep .. => true
  | .scCtlRestart .. => true
  | .scDbgDataAccess .. => true
  | .blockDelivery _ inputBits _ => inputBits.length ≤ 160
  | .blockDeliveryRetry => true
  | .inputStuck .. => true
  | .mqSelWrite .. => true
  | .quickViewUpdate => true
  | .harmonicsStart .. => true
  | .harmonicsDone => true
  | .pulseEdge .. => true
  | .pulseFreqGate .. => true
  | .pulseSecondCredit => true
  | .ledgerSecondCredit => true
  | .heatSecond => true
  | .mbusPollRound .. => true
  | .mbusReply _ frame => frame.length ≤ 261
  | .mbusReplyTimeout .. => true
  | .secondarySearch .. => true
  | .secondarySearchDone .. => true
  | .spiScan replies => replies.length ≤ 32
  | .ledgerNvmCommit => true
  | .demandIntervalEnd => true
  | .dailySnapshot => true
  | .interimSnapshot .. => true
  | .snapshotWriteComplete => true
  | .ldgApply .. => true
  | .ldgApplyTakeEffect => true
  | .carServoInstant .. => true
  | .dzEdge .. => true
  | .learnRunComplete .. => true
  | .callRegistration _ seq _ => seq.all (· < 65536)
  | .dispatchCycle .. => true
  | .assignmentReceived .. => true
  | .tripEnergyRead .. => true
  | .tripTimeout .. => true
  | .driveStatusPdo .. => true
  | .islandDispatchFallback .. => true
  | .carReport payload => payload.length ≤ 1024
  | .dispatchCall payload => payload.length ≤ 1024
  | .assign payload => payload.length ≤ 1024
  | .callClear payload => payload.length ≤ 1024
  | .demandCounts payload => payload.length ≤ 1024
  | .carCall .. => true
  | .hallCall .. => true
  | .outOfService .. => true
  | .inService .. => true
  | .learnRun .. => true
  | .correctionRun .. => true
  | .testRun .. => true
  | .inspMove .. => true
  | .liftApply .. => true
  | .floorReload .. => true
  | .energyReset .. => true
  | .liftDeferredAction => true
  | .permitFall .. => true
  | .permitRise .. => true
  | .moveAbs .. => true
  | .moveRel .. => true
  | .stop .. => true
  | .resume .. => true
  | .home .. => true
  | .gearOn .. => true
  | .gearOff .. => true
  | .enable .. => true
  | .disable .. => true
  | .faultClear .. => true
  | .setPos .. => true
  | .escClear .. => true
  | .axisServoInstant .. => true
  | .homingTimeout .. => true
  | .limitInputActive .. => true
  | .escalatorEvaluation .. => true
  | .motApply .. => true
  | .motApplyDeferred => true
  | .tableInvalidate .. => true
  | .tableAddressUpdate .. => true
  | .comparatorEdge .. => true
  | .chopDeadTimeEnd .. => true
  | .chopBlankEnd .. => true
  | .chopFastDecayEnd .. => true
  | .senseOffsetMeasure .. => true
  | .offsetCal .. => true
  | .standstillReduction .. => true
  | .bemfSample .. => true
  | .estimate .. => true
  | .nudgeResume .. => true
  | .bridgeFault .. => true
  | .ddApply .. => true
  | .ddApplyDeferred => true
  | .tripPathTrip .. => true
  | .kinFilterChange .. => true
  | .discrepancyLatch .. => true
  | .kerbScan .. => true
  | .kerbNop => true
  | .kerbLd .. => true
  | .kerbAnd .. => true
  | .kerbOr .. => true
  | .kerbXor .. => true
  | .kerbPush .. => true
  | .andp => true
  | .orp => true
  | .kerbSt .. => true
  | .kerbSet .. => true
  | .kerbRst .. => true
  | .tim .. => true
  | .edgr .. => true
  | .edgf .. => true
  | .ctu .. => true
  | .ctd .. => true
  | .cres .. => true
  | .jmpc .. => true
  | .jmp .. => true
  | .cue .. => true
  | .frst .. => true
  | .kerbEnd => true
  | .readbackFault .. => true
  | .outputTestPulse .. => true
  | .programExchange => true
  | .tripPathsExchange => true
  | .kerbFault .. => true
  | .compareFailure .. => true
  | .audioBlock .. => true
  | .kerbCueEntry => true
  | .liftCue => true
  | .start .. => true
  | .release .. => true
  | .kill .. => true
  | .bsCue .. => true
  | .setP .. => true
  | .audioCue .. => true
  | .noteOn .. => true
  | .noteOff .. => true
  | .controlChange .. => true
  | .programChange .. => true
  | .channelPressure .. => true
  | .pitchBend .. => true
  | .activeSensing => true
  | .midiSensingTimeout => true
  | .p7FifoTimeout => true
  | .bsApply .. => true
  | .wtInvalidate .. => true
  | .stopAll .. => true
  | .phraseReload .. => true
  | .phraseReloadDeferred .. => true
  | .fcInputEntry .. => true
  | .chunkDue => true
  | .batchWriteBack => true
  | .create .. => true
  | .delete .. => true
  | .streamReset .. => true
  | .headReset .. => true
  | .freeze .. => true
  | .thaw .. => true
  | .streamCtlDeferred => true
  | .headUpdate => true
  | .fcApply .. => true
  | .modelLoad .. => true
  | .modelLoadComplete .. => true
  | .checkpoint .. => true
  | .checkpointInterval => true
  | .checkpointWriteComplete => true
  | .loadPoint .. => true
  | .pwmCodeWrite .. => true
  | .timebaseTick .. => true
  | .pwmLoadNEdge .. => true
  | .strobe .. => true
  | .pwmApply => true
  | .pwmFaultClear .. => true
  | .genSync .. => true
  | .markerEmit => true
  | .markerReceive _ m _ => m.wf
  | .kerbFrameInsert => true
  | .kerbFrameReceive f _ => f.wf && f.typ == 1 && f.payload.length == 8
  | .frameAccept _ f _ _ _ => f.wf
  | .hopDelayMeasure .. => true
  | .controlJoin m => m.wf
  | .membershipEffective members _ => members.length ≤ 256 && members.all (·.wf)
  | .groupDispatcherChange => true
  | .turn => true
  | .frameReturn .. => true
  | .breakDetect .. => true
  | .breakReceive .. => true
  | .unwrap => true
  | .blvApply => true
  | .blvLeave => true
  | .blvJoin => true
  | .blvConfirm .. => true
  | .wardenConfirmReceive .. => true
  | .wardenReplyReceive .. => true
  | .meterRollupSend => true
  | .meterRollupReceive _ payload => payload.length ≤ 1024
  | .fabricRead .. => true
  | .fabricWrite .. => true
  | .bypass => true
  | .idcode => true
  | .samplePreload balls shiftIn => balls.length == shiftIn.length
  | .extest .. => true
  | .clamp .. => true
  | .highz .. => true
  | .supplyMonitorAlarm .. => true
  | .railCheckTimeout => true
  | .railRetry => true
  | .mdioPoll .. => true
  | .timePps => true
  | .supplyAlarmClear .. => true
  | .stuckInputEnd .. => true
  | .timeValidLoss => true
  | .tapReset => true

end Sys2Proof
end

