-- ==== Sys2Proof/Safety.lean ====
section
/-! DEFINITION. The terms the statements use: the parts of the state, what a command leaves unchanged, and the invariant of
the machine. -/
namespace Sys2Proof.Machine
open Sys2Proof

/-- The parts of the state, the command queue apart. `islRest` is the islands but for the doorbells latched toward them,
`hostRest` the host port but for ATTN_CAUSE, and `coresRest` the cores but for their pending interrupt channels: what a
doorbell or a notice to the host may touch beside its own part. -/
inductive Part where
  | islRest | hostRest | coresRest
  | time | mode | clock | isl | host | log | consent | arc | cores | meter | ldg | lift | motion | door | kerb | bs | fc | pwm
  | blv | link | pkg | mem | ecc | reply
  deriving DecidableEq, Repr

/-- Two states agree on a part. -/
def Part.Same (p : Part) (s t : State) : Prop :=
  match p with
  | .islRest => t.isl.map Island.quiet = s.isl.map Island.quiet
  | .hostRest => t.host.quiet = s.host.quiet
  | .coresRest => t.cores.map CoreState.quiet = s.cores.map CoreState.quiet
  | .time => t.time = s.time
  | .mode => t.mode = s.mode
  | .clock => t.clock = s.clock
  | .isl => t.isl = s.isl
  | .host => t.host = s.host
  | .log => t.log = s.log
  | .consent => t.consent = s.consent
  | .arc => t.arc = s.arc
  | .cores => t.cores = s.cores
  | .meter => t.meter = s.meter
  | .ldg => t.ldg = s.ldg
  | .lift => t.lift = s.lift
  | .motion => t.motion = s.motion
  | .door => t.door = s.door
  | .kerb => t.kerb = s.kerb
  | .bs => t.bs = s.bs
  | .fc => t.fc = s.fc
  | .pwm => t.pwm = s.pwm
  | .blv => t.blv = s.blv
  | .link => t.link = s.link
  | .pkg => t.pkg = s.pkg
  | .mem => t.mem = s.mem
  | .ecc => t.ecc = s.ecc
  | .reply => t.reply = s.reply

/-- `t` has the queue of `s`, and agrees with it on every part but those listed. -/
def EverythingBut (ps : List Part) (s t : State) : Prop :=
  t.pending = s.pending ∧ ∀ p : Part, p ∉ ps → p.Same s t

/-- The invariant every step keeps: memory is in its one canonical form, addresses strictly rising and no byte listed that
an unlisted address reads as, so that equal memories are equal data. -/
def State.Inv (s : State) : Prop := s.mem.wf = true

/-- What a word over a channel answers: an HP or MP word ends with the status, a core's fabric write replies it. -/
def Answered (ch : Channel) (st : Status) (t : State) : Prop :=
  (ch = .hp ∨ ch = .mp → t.host.status = st) ∧ (ch = .fw → t.reply = ⟨st, 0⟩)

/-- The host port answers words: no DORMANT, no BRINGUP and no SAFESTOP. -/
def HostOpen (s : State) : Prop := s.mode.mode ≠ .dormant ∧ s.mode.mode ≠ .bringup ∧ s.mode.mode ≠ .safestop

/-- A queue is in service: its lane logic is not fenced, no load action runs on it, and it is valid and not in quarantine. -/
def Serves (s : State) (x : Queue) : Prop :=
  laneDown s x = false ∧ x.loading = false ∧ x.quarantined = false ∧ x.valid = true

/-- Every queue but `q` stands in `t` as it does in `s`. -/
def OtherQueues (q : Nat) (s t : State) : Prop := ∀ r : Nat, r ≠ q → qGet t r = qGet s r

/-- What evaluating the consumer doorbell leaves of a queue: a doorbell that fires is no longer armed (R144). -/
def afterBellC (x : Queue) : Queue :=
  { x with armedC := x.armedC && !(x.cfg.dbCons && decide (max 1 x.cfg.dbCount ≤ x.avail)) }

/-- The parts a doorbell touches beside the queue: a core's interrupts, a fenced island's latched doorbells, the host's causes. -/
def bellParts : List Part := [.arc, .host, .isl, .cores]

/-- Core `n` executes, with the branch state and the pending results given and nothing else in flight: no stall, repeat, posted
store, exception or interrupt waits, the loop cache is invalid, no breakpoint matches and no core has a STEP to make. -/
def CoreReadyAt (s : State) (n : Nat) (br : Branch) (pend : List Pend) : Prop :=
  coreIssues s n = true ∧ bkptHit (core s n) = false ∧ (core s n).aborts = [] ∧ (core s n).posted = [] ∧ (core s n).ie = 0 ∧
  (core s n).pend = pend ∧ (core s n).br = br ∧ (core s n).cur.rep = [] ∧ (core s n).lc = none ∧
  (core s n).halting = false ∧ ∀ m, m < 8 → (core s m).stepReq = false

/-- Core `n` executes with nothing in flight. -/
def CoreReady (s : State) (n : Nat) : Prop := CoreReadyAt s n Branch.none []

/-- What every control bundle leaves of a core: cycles pass, and no breakpoint is skipped and no hold-off counted any more. -/
def CoreState.spent (c : Nat) (k : CoreState) : CoreState :=
  { k with cycles := (k.cycles + c) % 2 ^ 64, skipBkpt := false, holdCnt := 0, holdDone := false }

/-- Channel `c` is the one a boundary takes of a class: no takeable channel of the class has a higher priority, and none of the same
priority a lower number (R187). -/
def Chosen (k : CoreState) (fast : Bool) (c : Nat) : Prop :=
  c < 64 ∧ takeable k c = true ∧ chanFast k c = fast ∧
  ∀ d, d < 64 → takeable k d = true → chanFast k d = fast → chanPrio k d < chanPrio k c ∨ (chanPrio k d = chanPrio k c ∧ c ≤ d)

/-- Every access of a bundle is aligned, in the core's own memories, and meets no ECC error. -/
def LocalMoves (s : State) (n op : Nat) (mv : Moves) : Prop :=
  kind3 mv = false ∧ ∀ x ∈ accessesOf (core s n) op mv,
    isPlaza x.addr = false ∧ accessExc x = none ∧ localAddr n x.addr.toNat / 8 * 8 ∉ s.ecc

/-- The bank a core does not use. -/
def CoreState.other (k : CoreState) : Bank := if k.bank then k.main else k.shadow

/-- A bundle of compute and move slots changes no register of the core but D, P, ST, IDX, the accumulators as their writers see
them, the results still to come, PC, and the counts of cycles, bank stalls and hold-off. -/
def OnlyStream (k t : CoreState) : Prop :=
  t = { k with
    pc := t.pc, d := t.d, aw := t.aw, p := t.p, main := t.main, shadow := t.shadow, pend := t.pend, cycles := t.cycles
    stallBank := t.stallBank, skipBkpt := false, holdCnt := 0, holdDone := false } ∧
  t.other = k.other ∧ t.cur = { k.cur with d := t.cur.d, a3w := t.cur.a3w, p := t.cur.p, idx := t.cur.idx, st := t.cur.st }

/-- The bundle's store slot or delay-line move writes memory. -/
def bundleStores (k : CoreState) (op : Nat) (mv : Moves) : Bool :=
  (mv.store && (slotY k mv).isSome) || (ftapMove k op mv).isSome

/-- What every bundle of slots whose moves are local leaves: the next bundle, every other core, every register but those it may
change, pointers its moves do not modify, and memory where it stores nothing. -/
def SlotsIssued (s t : State) (n op : Nat) (mv : Moves) : Prop :=
  EverythingBut [.cores, .coresRest, .mem, .ecc] s t ∧ (∀ m, m ≠ n → core t m = core s m) ∧
  (core t n).pc = ((core s n).pc + 1) % 2 ^ 14 ∧ OnlyStream (core s n) (core t n) ∧
  (∀ i, i < 8 → (∀ v, (i, v) ∉ ptrWrites (core s n) mv) → rdP (core t n) i = rdP (core s n) i) ∧
  (bundleStores (core s n) op mv = false → t.mem = s.mem ∧ t.ecc = s.ecc)

/-- ST after a bundle: its flags, if the operation sets any, and the sticky bits of the operation and of its store slot. -/
def bundleSt (k : CoreState) (fl : Option Nat) (m : Nat) (mv : Moves) : Word :=
  let st := match fl with
    | some v => (k.cur.st &&& 0xFFFFFFFFFFFFFFF0) ||| BitVec.ofNat 64 (v % 16)
    | none => k.cur.st
  st ||| BitVec.ofNat 64 m ||| BitVec.ofNat 64 (if mv.store && (slotY k mv).isSome then (storeValue k mv.y).2 else 0)

/-- A bundle whose operation gives D register `dd` the value `v`, with the flags, the sticky bits and the IDX given, and changes
no accumulator. -/
def GivesD (s : State) (n op : Nat) (mv : Moves) (dd : Nat) (v : Word) (fl : Option Nat) (m : Nat) (ix : BitVec 32) (t : State) :
    Prop :=
  SlotsIssued s t n op mv ∧ (∀ i, i < 16 → rdD (core t n) i = if i = dd then v else rdD (core s n) i) ∧
  (core t n).cur.st = bundleSt (core s n) fl m mv ∧ (core t n).cur.idx = ix ∧
  ∀ i, i < 4 → rdAccW (core t n) i = rdAccW (core s n) i

/-- A bundle whose operation gives accumulator `an` the exact parts `re` and `im`, each wrapped to 80 bits: the next accumulator
writer sees the value at once and every other reader one bundle later; AOV is set where `aov` says. -/
def GivesAcc (s : State) (n op : Nat) (mv : Moves) (an : Nat) (re im : BitVec 80) (aov : Bool) (t : State) : Prop :=
  SlotsIssued s t n op mv ∧ (∀ i, i < 16 → rdD (core t n) i = rdD (core s n) i) ∧
  (core t n).cur.st = bundleSt (core s n) none (if aov then 32 else 0) mv ∧ (core t n).cur.idx = (core s n).cur.idx ∧
  (∀ i, i < 4 → rdAccW (core t n) i = if i = an then ⟨re, im⟩ else rdAccW (core s n) i) ∧
  ⟨0, .acc an ⟨re, im⟩⟩ ∈ (core t n).pend

/-- An exact value lies outside what an 80-bit part holds. -/
def outside80 (x : Int) : Bool := decide (x < -(2 ^ 79)) || decide (2 ^ 79 ≤ x)

/-- An exact value lies outside what a signed 64-bit number holds. -/
def outside64 (x : Int) : Bool := decide (x < -(2 ^ 63)) || decide (2 ^ 63 ≤ x)

/-- Saturation to Q1.31. -/
def sat31 (x : Int) : Int := clampInt (-(2 ^ 31)) (2 ^ 31 - 1) x

/-- A value that Q1.31 does not hold. -/
def over31 (x : Int) : Bool := decide (x < -(2 ^ 31)) || decide (2 ^ 31 ≤ x)

/-- An accumulator part rounded to Q1.31: half up, or to even where ST.RND is set (R166). -/
def round31 (rnd : Bool) (x : BitVec 80) : Int :=
  (x.toInt + 2 ^ 31) / 2 ^ 32 - (if rnd && decide (x.toInt % 2 ^ 33 = 2 ^ 31) then 1 else 0)

/-- Every byte of Plaza space outside `[a, a + n)` reads in `t` as it does in `s`. -/
def SameOutside (a n : Nat) (s t : State) : Prop := ∀ x : Nat, x < a ∨ a + n ≤ x → t.mem.read x = s.mem.read x

/-- Every byte of Plaza space reads in `t` as it does in `s`. -/
def SameBytes (s t : State) : Prop := ∀ x : Nat, t.mem.read x = s.mem.read x

/-- The move slots of a bundle whose only slot is a load, in the X or the Y slot. -/
def loadMoves (y : Bool) (kind : Fin 4) (m : MoveSlot) : Moves :=
  { store := false, x := if y then noMove else moveOf kind m, y := if y then moveOf kind m else noMove }

/-- The move slots of a bundle whose only slot is the store slot. -/
def storeMoves (kind : Fin 4) (m : MoveSlot) : Moves := { store := true, x := noMove, y := moveOf kind m }

/-- Where a slot that makes an access of `size` bytes leaves its pointer (Table 7.5). -/
def pointerAfter (k : CoreState) (size : Int) (m : MoveSlot) : BitVec 41 :=
  let i := m.ptr.val
  let r := (rdM k i).toInt
  if m.mode = 0 ∨ m.mode = 5 then rdP k i
  else ptrAdd (rdP k i) (rdB k i) (rdL k i) ([0, size, -size, r, -r, 0, slotOfs m * size].getD m.mode.val 0)

/-- SP passes the checks of a push (R190). -/
def PushOk (k : CoreState) : Prop :=
  k.sp % 16 = 0 ∧ k.spLo + 96 ≤ k.sp ∧ k.sp ≤ k.spHi ∧ 96 ≤ k.sp ∧ k.sp ≤ 0x40000

/-- What an entry through the stack leaves: a frame of 12 words below SP, with no repeat level, branch or load pending, and the first
bundle of the vector next (R189, Table 8.3). -/
def FrameEntry (s t : State) (n vec rpc cyc : Nat) (faddr : Word) : Prop :=
  let k := core s n
  let k' := core t n
  let f := localAddr n (k.sp - 96)
  EverythingBut [.cores, .coresRest, .mem, .ecc] s t ∧ (∀ m, m ≠ n → core t m = core s m) ∧ SameOutside f 96 s t ∧
  t.mem.readW f = BitVec.ofNat 64 (rpc % 2 ^ 14 + b2n k.bank * 2 ^ 14 + k.cur.lr.toNat * 2 ^ 16 + k.iprio * 2 ^ 48 + vec * 2 ^ 56) ∧
  t.mem.readW (f + 8) = k.cur.stWord ∧ (∀ i, i < 4 → t.mem.readW (f + 16 + 8 * i) = 0) ∧
  t.mem.readW (f + 48) = BitVec.ofNat 64 (k.cur.idx.toNat * 2 ^ 32) ∧ (∀ i, i < 4 → t.mem.readW (f + 56 + 8 * i) = 0) ∧
  t.mem.readW (f + 88) = faddr ∧
  k'.sp = k.sp - 96 ∧ k'.pc = (k.vbase + 4 * vec) % 2 ^ 14 ∧ k'.bank = k.bank ∧ k'.cycles = (k.cycles + cyc) % 2 ^ 64 ∧
  k'.cur.st = k.cur.st ∧ k'.cur.lr = k.cur.lr ∧ (∀ i, i < 16 → rdD k' i = rdD k i) ∧ (∀ i, i < 8 → rdP k' i = rdP k i) ∧
  (∀ i, i < 4 → rdAcc k' i = rdAcc k i) ∧ k'.other = k.other

/-- A hall or destination call is registered: one more call of its group, under the next CALL_ID of the node, assigned to no car; nothing else
of the lift block but the call sequence, the ids known and the demand counts changes. -/
def CallRegistered (g : Nat) (isDest : Bool) (origin destDir side pass : Nat) (s x : State) : Prop :=
  EverythingBut [.lift, .link] s x ∧ x.lift.cars = s.lift.cars ∧ x.lift.tabs = s.lift.tabs ∧ x.lift.callSeq = (s.lift.callSeq + 1) % 2 ^ 24 ∧
  (∀ h : Nat, h ≠ g → grp x h = grp s h) ∧
  (grp x g).calls = (grp s g).calls ++ [{
    id := nodeAddr s * 2 ^ 24 + (s.lift.callSeq + 1) % 2 ^ 24, isDest := isDest, origin := origin, destDir := destDir, side := side
    pass := pass, regMs := s.time.centre / 1000000 % 2 ^ 32, regAt := s.time.uptime, slot := none, was := none }]

/-- What R271 asks of a hall or destination call: the group in use serves the landing and side, the mode takes calls, destination calls are
enabled, and hall calls are not being wound down. -/
def CallTaken (g : Nat) (isDest : Bool) (origin side : Nat) (s : State) : Prop :=
  grpUsed s g = true ∧ served s g origin side = true ∧ (s.mode.mode = .service ∨ s.mode.mode = .night) ∧
  (isDest = true → (grpN s g 0 1).testBit 1 = true) ∧ (isDest = false → windDown s = false)

/-- A car enters FAULT: its calls and its run are dropped, a position fault takes POS_VALID, and no other car changes. -/
def CarFaulted (c code : Nat) (s t : State) : Prop :=
  EverythingBut (bellParts ++ [.lift, .motion, .mem]) s t ∧ (∀ d : Nat, d ≠ c → car t d = car s d) ∧
  car t c = { car s c with
    st := .fault, fault := code, runFor := none, adv := false, energy := none, calls := [], next := none, committed := false
    posValid := (car s c).posValid && !(code == 1 || code == 2) }

/-- A voice once released (R387, Table 15.12): a start that has not begun is gone, an ACTIVE voice is in RELEASE with its gate off, and one in
RELEASE or RAMP goes on. -/
def Voice.released (x : Voice) : Voice :=
  if x.next ≠ none then { x with next := none }
  else if x.st = .pending then { Voice.init with count := x.count }
  else if x.st = .active then { x with st := .release, gate := false, env := x.env.map envRelease }
  else x

/-- A voice once told to ramp down from sample `n`: a start that has not begun is gone, and of a voice that plays the ramp begins no later than
`n` and the repeats are dropped. -/
def Voice.ramped (n : Nat) (x : Voice) : Voice :=
  if x.next ≠ none then { x with next := none }
  else if x.st = .pending then { Voice.init with count := x.count }
  else { x with rampAt := some ((x.rampAt.map (fun m => min m n)).getD n), req := x.req.map (fun r => { r with repeats := 0 }) }

/-- The voice serves, or is about to serve, a note that arrived on MIDI channel `ch` (any channel: none), on note `k` (any note: none). -/
def Voice.onMidi (ch note : Option Nat) (x : Voice) : Prop :=
  x.st ≠ .free ∧ ∃ r c k, x.owner = some r ∧ r.src = .midi c k ∧ (ch = none ∨ ch = some c) ∧ (note = none ∨ note = some k)

/-- Every voice of which `p` holds is changed by `f`, and every other stays. -/
def VoicesMoved (p : Voice → Prop) (f : Voice → Voice) (s t : State) : Prop :=
  ∀ v : Nat, v < 256 → (p (voice s v) → voice t v = f (voice s v)) ∧ (¬p (voice s v) → voice t v = voice s v)

/-- The bytes of a stream's entry (Table 16.3). -/
def fcEntryBytes (x : FcStream) : List Byte :=
  leBytes 1 x.slot ++ leBytes 1 (fcFlags x) ++ leBytes 2 x.source ++ leBytes 4 x.lastSeq ++ leBytes 8 x.steps ++ leBytes 8 x.time ++
    leBytes 4 x.ofs ++ leBytes 2 (min 65535 x.pending.length) ++ leBytes 1 x.gaps ++ leBytes 1 x.hold

/-- Address of a stream's entry in the stream table. -/
def fcEntryAt (i : Nat) : Nat := fcBase + 0x10000 + 32 * i

/-- The channel drives its applied code (R425, R426): from the accumulator and carry given, the low seven bits of the code go into the
accumulator, its overflow lengthens the high time by one count, a high or low segment of one count is carried to the next period. -/
def PwmChan.Emits (sum : Nat) (carry : Int) (y : PwmChan) : Prop :=
  ∃ h : Int, h = ((y.applied / 128 + (sum + y.applied % 128) / 128 : Nat) : Int) + carry ∧ y.dither = (sum + y.applied % 128) % 128 ∧
    y.high = (if h ≤ 1 then 0 else if 511 ≤ h then 512 else h.toNat) ∧ y.carry = h - y.high

/-- What Table 17.2 and R438 ask of a channel record that is in use. -/
def PwmRecOk (s : State) (p : List Byte) : Prop :=
  let r := parsePwmRec p
  (le p 1 1).testBit 7 = false ∧ (r.source = 3 → 1 ≤ r.gen ∧ r.gen ≤ 3) ∧ (r.source ≠ 3 → r.gen = 0) ∧
  (r.source = 0 ∨ r.source = 3 → r.sel = 0) ∧ r.holdPeriods ≤ 15 ∧ r.phase ≤ 511 ∧
  (r.source = 1 → 1 ≤ r.underrunLimit ∧ 0x2C00 ≤ r.qid ∧ r.qid ≤ 0x33FF ∧ ∃ q, qGet s r.qid = some q ∧ q.cfg.cons = islIO ∧ q.cfg.entryW = 0) ∧
  (r.source = 3 → r.lo ≤ r.hi ∧ (r.gen ≠ 3 → 1 ≤ r.step) ∧ (r.gen = 3 → 1 ≤ r.ndiv ∧ r.seed ≠ 0)) ∧ zeroBytes p 22 10 = true

/-- The last frame emitted on ring `r` is `f`, and the other ring's is as in `s`. -/
def FrameOut (r : Ring) (f : BlvFrame) (s t : State) : Prop :=
  t.link.outA = (if r = .a then some f else s.link.outA) ∧ t.link.outB = (if r = .b then some f else s.link.outB)

/-- The frame goes on along its ring with HOPS + 1, unless it has passed more nodes than any frame can (R448). -/
def FrameOn (r : Ring) (f : BlvFrame) (s t : State) : Prop :=
  (0 < nodes s ∧ 2 * (nodes s - 1) < f.hops → t.link.outA = s.link.outA ∧ t.link.outB = s.link.outB) ∧
  (nodes s = 0 ∨ f.hops ≤ 2 * (nodes s - 1) → FrameOut r { f with hops := min 511 (f.hops + 1) } s t)

/-! ### Commands of firmware -/

/-- A bundle or event of a Signal Core, a debug command, or a fabric access: all that firmware can do of itself. -/
def Firmware (c : Instr) : Prop :=
  match c with
  | .cmac .. | .cmsu .. | .cmacj .. | .cmul .. | .ftap .. | .rmac2 .. | .rmsu2 .. | .rmul2 .. | .ftapr .. | .clra .. | .mova .. | .adda ..
  | .suba .. | .shra .. | .shla .. | .movd .. | .movdl .. | .movdi .. | .add .. | .sub .. | .scAnd .. | .scOr .. | .xor ..
  | .shl .. | .shr .. | .sar .. | .cmp .. | .mov .. | .adds2 .. | .subs2 .. | .neg2 .. | .conj .. | .swap .. | .muli .. | .maxi ..
  | .mini .. | .abs2 .. | .nop .. | .ld .. | .ldh .. | .st .. | .sta .. | .stl .. | .br .. | .brd .. | .call .. | .ret .. | .reti ..
  | .rets .. | .rep .. | .ldi .. | .movar .. | .wait .. | .halt .. | .trap .. | .sync .. | .icinv .. | .busAbort .. | .coreFabricRetry ..
  | .fastInterruptEntry .. | .heldInterruptEntry .. | .holdOverrun .. | .waitWake .. | .breakpointMatch .. | .scIrqRaise ..
  | .scCtlHalt .. | .scCtlRun .. | .scCtlStep .. | .scCtlRestart .. | .scDbgDataAccess .. | .scWdogService .. | .fabricRead ..
  | .fabricWrite .. => True
  | _ => False

end Sys2Proof.Machine
end

