-- ==== Sys2Proof/Certificates/Slice0/Obligations.lean ====
section
/-! DEFINITION. The statements for the provers, in the order of the spec's chapters, and at the end those of the machine as a whole. -/
open Sys2Proof hiding core
open Sys2Proof.Machine

/-! ### Modes (chapter 2) -/

/-- R35, R36, R37, R43 with Table 2.2: what a MODE_REQ write over a port does, by the cell of the matrix it names. -/
def Obligations.ModeRequestOutcomes : Prop :=
  ∀ (s : State) (src : ReqSource) (key n : Nat), src = .hp ∨ src = .mp →
    (s.mode.mode = .dormant → ∃ t, exec (.modeRequest src key n) s = .next t ∧ t.mode.mode = .bringup ∧
      t.mode.step = 1 ∧ t.mode.warm = false ∧ t.mode.entryCause = 0x22 ∧ t.mode.prev = .dormant) ∧
    (s.mode.mode = .bringup →
      exec (.modeRequest src key n) s = .next { s with host := { s.host with status := .busy } }) ∧
    (s.mode.mode ≠ .dormant → s.mode.mode ≠ .bringup → key ≠ 0xA5 →
      exec (.modeRequest src key n) s = .next { s with host := { s.host with status := .refused } }) ∧
    (s.mode.mode ≠ .dormant → s.mode.mode ≠ .bringup → key = 0xA5 → requestCell s (Mode.ofCode n) = .refused →
      exec (.modeRequest src key n) s = .next { s with
        mode := { s.mode with reqSource := src, reqResult := .refused }, host := { s.host with status := .refused } }) ∧
    (s.mode.mode ≠ .dormant → s.mode.mode ≠ .bringup → key = 0xA5 → Mode.ofCode n = s.mode.mode →
      exec (.modeRequest src key n) s = .next { s with
        mode := { s.mode with pendingReq := none, reqSource := src, reqResult := .ok }, host := { s.host with status := .ok } }) ∧
    (s.mode.mode ≠ .dormant → s.mode.mode ≠ .bringup → key = 0xA5 → requestCell s (Mode.ofCode n) = .deferred →
      deferredReady s (Mode.ofCode n) = false →
      exec (.modeRequest src key n) s = .next { s with
        mode := { s.mode with pendingReq := some ⟨Mode.ofCode n, src⟩, reqSource := src, reqResult := .busy }
        host := { s.host with status := .ok } }) ∧
    (s.mode.mode ≠ .dormant → s.mode.mode ≠ .bringup → key = 0xA5 →
      requestCell s (Mode.ofCode n) = .go ∨
        (requestCell s (Mode.ofCode n) = .deferred ∧ deferredReady s (Mode.ofCode n) = true) →
      ∃ t, exec (.modeRequest src key n) s = .next t ∧ t.host.status = .ok ∧
        t.mode.mode = (if s.mode.mode = .inspection ∧ Mode.ofCode n = .service ∧ kerbRecall s = true then .recall
          else Mode.ofCode n) ∧
        t.mode.prev = s.mode.mode ∧ t.mode.entryCause = (if src = .hp then 0x10 else 0x11) ∧ t.mode.reqSource = src ∧
        t.mode.reqResult = .ok ∧ t.mode.pendingReq = none ∧
        t.mode.entryTime = (if s.time.centreValid then s.time.centre / 2 ^ 20 % 2 ^ 32 else 0))

/-- Table 2.2: a request, from whatever source, leaves a mode only for the modes its row of the matrix allows. -/
def Obligations.RequestsKeepToTheMatrix : Prop :=
  ∀ (s t : State) (src : ReqSource) (key n : Nat), exec (.modeRequest src key n) s = .next t →
    t.mode.mode ≠ s.mode.mode →
    match s.mode.mode with
    | .dormant => t.mode.mode = .bringup
    | .bringup => False
    | .night => t.mode.mode ∈ [Mode.dormant, .service, .inspection, .recall, .safestop, .update]
    | .service => t.mode.mode ∈ [Mode.night, .inspection, .recall, .safestop, .update]
    | .inspection => t.mode.mode ∈ [Mode.service, .recall, .safestop, .update]
    | .recall => t.mode.mode ∈ [Mode.service, .safestop]
    | .safestop => t.mode.mode ∈ [Mode.dormant, .bringup, .update]
    | .update => t.mode.mode ∈ [Mode.bringup, .safestop]

/-- R36, R46: what becomes of a deferred request: cancelled, entered when its conditions hold, timed out, or raised and ended
by the schedule. -/
def Obligations.DeferredRequestsRun : Prop :=
  ∀ (s : State),
    (∀ src, src = .hp ∨ src = .mp → s.mode.mode ≠ .dormant → s.mode.mode ≠ .bringup → s.mode.pendingReq ≠ none →
      exec (.modeReqCancel src 0xA5) s = .next { s with
        mode := { s.mode with pendingReq := none, reqResult := .refused }, host := { s.host with status := .ok } }) ∧
    (∀ src, src = .hp ∨ src = .mp → s.mode.mode ≠ .dormant → s.mode.mode ≠ .bringup → s.mode.pendingReq = none →
      exec (.modeReqCancel src 0xA5) s = .next { s with host := { s.host with status := .ok } }) ∧
    (∀ p, s.mode.pendingReq = some p → deferredReady s p.target = true → p.target = .night ∨ p.target = .update →
      ∃ t, exec .deferredRequestEntry s = .next t ∧ t.mode.mode = p.target ∧ t.mode.prev = s.mode.mode ∧
        t.mode.pendingReq = none ∧ t.mode.reqResult = .ok) ∧
    (∀ p, s.mode.pendingReq = some p → deferredReady s p.target = false → exec .deferredRequestEntry s = .next s) ∧
    (∀ p, s.mode.pendingReq = some p → ¬(p.source = .rtc ∧ p.target = .night) →
      exec .deferredRequestTimeout s = .next { s with mode := { s.mode with pendingReq := none, reqResult := .refused } }) ∧
    (s.mode.mode = .service → scheduleOn s = true → nightReady s = false →
      exec .scheduleNightStart s = .next { s with
        mode := { s.mode with pendingReq := some ⟨.night, .rtc⟩, reqSource := .rtc, reqResult := .busy } }) ∧
    (s.mode.mode = .service → scheduleOn s = true → nightReady s = true →
      ∃ t, exec .scheduleNightStart s = .next t ∧ t.mode.mode = .night ∧ t.mode.entryCause = 0x21 ∧
        t.mode.prev = .service ∧ t.mode.reqResult = .ok) ∧
    (s.mode.mode = .service → scheduleOn s = true → s.mode.pendingReq = some ⟨.night, .rtc⟩ →
      exec .scheduleNightEnd s = .next { s with mode := { s.mode with pendingReq := none, reqResult := .refused } }) ∧
    (s.mode.mode = .night → scheduleOn s = true →
      ∃ t, exec .scheduleNightEnd s = .next t ∧ t.mode.mode = .service ∧ t.mode.entryCause = 0x21 ∧ t.mode.prev = .night)

/-- R37, R50, R52, M6, M14, M16 and M20: what wakes the device from NIGHT, recalls it and stops it safely. -/
def Obligations.WakeRecallAndSafestop : Prop :=
  ∀ (s : State),
    (s.mode.mode = .night →
      (∃ t, exec (.wakeEvent .call) s = .next t ∧ t.mode.mode = .service ∧ t.mode.entryCause = 0x20 ∧
        t.mode.prev = .night ∧ t.mode.wakeCalls = s.mode.wakeCalls + 1) ∧
      (∃ t, exec (.wakeEvent .escalatorStart) s = .next t ∧ t.mode.mode = .service ∧ t.mode.entryCause = 0x20) ∧
      (∃ t, exec (.wakeEvent .dispatch) s = .next t ∧ t.mode.mode = .service ∧ t.mode.entryCause = 0x12) ∧
      (∃ t, exec (.wakeEvent (.request .hp)) s = .next t ∧ t.mode.mode = .service ∧ t.mode.entryCause = 0x10)) ∧
    (s.mode.mode = .night ∨ s.mode.mode = .service →
      ∃ t, exec (.recallTrigger .kerbSignal) s = .next t ∧ t.mode.mode = .recall ∧ t.mode.prev = s.mode.mode ∧
        t.mode.entryCause = 0x30 ∧ (∀ p, s.mode.pendingReq = some p → p.target = .night ∨ p.target = .update →
          t.mode.pendingReq = none ∧ t.mode.reqResult = .refused)) ∧
    (s.mode.mode = .inspection →
      exec (.recallTrigger .kerbSignal) s = .next { s with mode := { s.mode with recallPending := true } }) ∧
    (s.mode.mode = .update → commitBusy s = false →
      ∃ t, exec (.recallTrigger .kerbSignal) s = .next t ∧ t.mode.mode = .bringup ∧ t.mode.warm = true ∧
        t.mode.step = 2 ∧ t.mode.entryCause = 0x30) ∧
    (s.mode.mode = .update → commitBusy s = true →
      exec (.recallTrigger .kerbSignal) s = .next { s with mode := { s.mode with recallAfterCommit := true } }) ∧
    (s.mode.mode ∈ [Mode.night, .service, .inspection, .recall, .update] →
      (∃ t, exec (.safestopCause .kerbFault) s = .next t ∧ t.mode.mode = .safestop ∧ t.mode.prev = s.mode.mode ∧
        t.mode.entryCause = 0x42 ∧ t.mode.faultCause = 0x42) ∧
      (∃ t, exec (.safestopCause .kerbProgram) s = .next t ∧ t.mode.mode = .safestop ∧ t.mode.prev = s.mode.mode ∧
        t.mode.entryCause = 0x43 ∧ t.mode.faultCause = 0x43) ∧
      (∃ t, exec (.safestopCause (.request .hp)) s = .next t ∧ t.mode.mode = .safestop ∧ t.mode.prev = s.mode.mode ∧
        t.mode.entryCause = 0x10 ∧ t.mode.faultCause = 0x10))

/-- R34, R39, R41, R46, R51, R57, R81: what resets, wakes, bring-up steps and the RTC do. -/
def Obligations.ResetsWakesAndRtc : Prop :=
  ∀ (s : State),
    (∃ t, exec .resetN s = .next t ∧ t.mode.mode = .bringup ∧ t.mode.step = 1 ∧ t.mode.warm = false ∧ t.mode.entryCause = 0x02 ∧
      t.log = s.log ∧ t.time.rtcSec = s.time.rtcSec ∧ t.time.rtcValid = s.time.rtcValid ∧
      (∀ a, nvmBase ≤ a → a < nvmBase + nvmSize → t.mem.read a = s.mem.read a) ∧
      (∀ a, a < sramBase + sramSize → t.mem.read a = s.mem.read a)) ∧
    (∃ t, exec .powerOnReset s = .next t ∧ t.mode.mode = .bringup ∧ t.mode.step = 1 ∧ t.mode.entryCause = 0x01 ∧ t.log = s.log ∧
      t.time.rtcValid = false ∧ (∀ a, nvmBase ≤ a → a < nvmBase + nvmSize → t.mem.read a = s.mem.read a)) ∧
    (∃ t, exec .supplyLoss s = .next t ∧ t.pkg.railHold = true ∧ t.log = s.log ∧
      (∀ a, nvmBase ≤ a → a < nvmBase + nvmSize → t.mem.read a = s.mem.read a)) ∧
    (s.mode.mode = .dormant → ∀ c, c = .wakeAfterDormantEntry ∨ c = .wakeNEdge 0 ∨ c = .wakeNEdge 1 →
      ∃ t, exec c s = .next t ∧ t.mode.mode = .bringup ∧ t.mode.prev = .dormant ∧ t.mode.step = 1 ∧ t.mode.warm = false ∧
        t.mode.entryCause = 0x22) ∧
    (s.mode.mode ≠ .dormant → ∀ c, c = .wakeAfterDormantEntry ∨ c = .wakeNEdge 0 ∨ c = .wakeNEdge 1 → exec c s = .next s) ∧
    (∀ x : BringIn, s.mode.mode = .bringup → s.pkg.railHold = false → x.fail = none → 1 ≤ s.mode.step →
      (stepEffect x s).1 = none →
      (s.mode.step < 9 → ∃ t, exec (.bringupStepComplete x) s = .next t ∧ t.mode.step = s.mode.step + 1 ∧
        (s.mode.step = 1 → t.pkg.pwrEn = 15 ∧ t.pkg.resetOutN = true ∧ EverythingBut [.mode, .pkg] s t) ∧
        (s.mode.step = 6 → EverythingBut [.mode] s t)) ∧
      (s.mode.step = 9 → ∃ t, exec (.bringupStepComplete x) s = .next t ∧ t.mode.step = 0xF ∧
        t.mode.mode ∈ [Mode.night, .service, .inspection, .recall])) ∧
    (∀ (x : BringIn) (c : Nat), s.mode.mode = .bringup → s.pkg.railHold = false → x.fail = some c →
      (s.mode.step, c) ∈ [(2, 8), (3, 8), (4, 1), (4, 2), (5, 3), (6, 4), (6, 5), (7, 6), (8, 7)] →
      ∃ t, exec (.bringupStepComplete x) s = .next t ∧ t.mode.mode = .safestop ∧ t.mode.prev = .bringup ∧
        t.mode.failStep = s.mode.step ∧ t.mode.failCode = c ∧ t.mode.step = 0xE ∧ t.mode.entryCause = 0x41) ∧
    (∀ w : Word, s.mode.mode ≠ .dormant → s.mode.mode ≠ .bringup → s.mode.mode ≠ .safestop →
      exec (.rtcTimeWrite w) s = .next { s with
        time := { s.time with rtcSec := bits w 63 32 % 2 ^ 32, rtcNs := 0, rtcValid := true }
        host := { s.host with status := .ok } }) ∧
    (s.time.centreValid = true → exec .rtcMinuteSync s = .next { s with
        time := { s.time with rtcSec := calendarNs s / 1000000000 % 2 ^ 32, rtcNs := 0, rtcValid := true } }) ∧
    (s.time.centreValid = false → exec .rtcMinuteSync s = .next s)

/-! ### Clocks and islands (chapter 3) -/

/-- R70: writes of TARGET_MHZ and FAMILY store the value as rounded and clamped, and relock a running PLL when it changes. -/
def Obligations.ClockTargetsWritten : Prop :=
  ∀ (s : State), s.mode.mode ≠ .dormant → s.mode.mode ≠ .bringup → s.mode.mode ≠ .safestop →
    (∀ mhz : BitVec 16, ∃ t, exec (.targetMhzWrite mhz) s = .next t ∧ t.host.status = .ok ∧
      EverythingBut [.clock, .host, .hostRest] s t ∧ t.host.quiet = { s.host with status := .ok }.quiet ∧
      t.clock.targetMhz = max 200 (min 1200 (mhz.toNat / 25 * 25)) ∧ t.clock.targetMhzNvm = some t.clock.targetMhz ∧
      (t.clock.targetMhz = s.clock.targetMhz → t.clock.pll = s.clock.pll) ∧
      (t.clock.targetMhz ≠ s.clock.targetMhz → s.mode.mode ≠ .night → (pll s pllCORE).running = true →
        (pll t pllCORE).target = t.clock.targetMhz * 1000000 ∧
        ((pll s pllCORE).held = false → (pll t pllCORE).changing = true ∧ (pll t pllCORE).locked = false ∧
          (pll t pllCORE).bypass = true ∧ (pll t pllCORE).stair = 15) ∧
        ∀ p, p ≠ pllCORE → pll t p = pll s p)) ∧
    (∀ f : Fin 2, ∃ t, exec (.familyWrite f) s = .next t ∧ t.host.status = .ok ∧ EverythingBut [.clock, .host, .hostRest] s t ∧
      t.clock.family = f.val ∧ t.clock.familyNvm = some f.val ∧
      (f.val = s.clock.family ∨ (pll s pllAUDIO).running = false → t.clock.pll = s.clock.pll) ∧
      (f.val ≠ s.clock.family → (pll s pllAUDIO).running = true →
        (pll t pllAUDIO).target = (if f.val = 0 then 24576000 else 22579200) ∧
        ((pll s pllAUDIO).held = false → (pll t pllAUDIO).changing = true ∧ (pll t pllAUDIO).locked = false) ∧
        ∀ p, p ≠ pllAUDIO → pll t p = pll s p))

/-- R61 and R63: the relock sequence of a PLL, and what a trip of its monitor or a loss of lock does. -/
def Obligations.RelockSequence : Prop :=
  ∀ (s : State) (p : Fin 5),
    ((pll s p.val).changing = true → ∃ t, exec (.pllLock p) s = .next t ∧ EverythingBut [.clock] s t ∧
      pll t p.val = { pll s p.val with locked := true } ∧ ∀ q, q ≠ p.val → pll t q = pll s q) ∧
    ((pll s p.val).changing = false → exec (.pllLock p) s = .next s) ∧
    ((pll s p.val).changing = true → (pll s p.val).locked = true →
      ∃ t, exec (.relockStairStep p) s = .next t ∧ EverythingBut [.clock] s t ∧ (∀ q, q ≠ p.val → pll t q = pll s q) ∧
        ((pll s p.val).stair = 15 → pll t p.val = { pll s p.val with stair := 3, bypass := false, bypassHz := 0 }) ∧
        ((pll s p.val).stair = 3 ∨ (pll s p.val).stair = 2 →
          pll t p.val = { pll s p.val with stair := (pll s p.val).stair - 1 }) ∧
        ((pll s p.val).stair = 1 → pll t p.val = { pll s p.val with stair := 0, changing := false } ∧
          (p.val = pllCORE → t.clock.coreDone = true) ∧ (p.val = pllAUDIO → t.clock.audioDone = true))) ∧
    ((pll s p.val).changing = false ∨ (pll s p.val).locked = false → exec (.relockStairStep p) s = .next s) ∧
    ((pll s p.val).running = true → (pll s p.val).held = false → (pll s p.val).lastTrip = none →
      (∃ t, exec (.monTrip p) s = .next t ∧ t.clock.monTrip.testBit p.val = true ∧ t.clock.lockLoss = s.clock.lockLoss ∧
        (pll t p.val).changing = true ∧ (pll t p.val).locked = false ∧ (pll t p.val).bypass = true ∧
        (pll t p.val).stair = 15 ∧ (pll t p.val).target = (pll s p.val).target ∧
        (pll t p.val).lastTrip = some s.time.uptime ∧ t.host.attnCause.testBit attnClock = true ∧
        (∀ q, q ≠ p.val → pll t q = pll s q) ∧ EverythingBut [.clock, .host] s t) ∧
      ((pll s p.val).locked = true →
        ∃ t, exec (.lockLoss p) s = .next t ∧ t.clock.lockLoss.testBit p.val = true ∧ t.clock.monTrip = s.clock.monTrip ∧
        (pll t p.val).changing = true ∧ (pll t p.val).locked = false ∧ t.host.attnCause.testBit attnClock = true ∧
        EverythingBut [.clock, .host] s t) ∧
      ((pll s p.val).changing = true → (pll s p.val).locked = false →
        ∃ t, exec (.lockSearchTimeout p) s = .next t ∧ t.clock.lockLoss.testBit p.val = true ∧
        (pll t p.val).changing = true ∧ (pll t p.val).stair = 15 ∧ t.host.attnCause.testBit attnClock = true ∧
        EverythingBut [.clock, .host] s t)) ∧
    (∀ u, (pll s p.val).running = true → (pll s p.val).lastTrip = some u → s.time.uptime ≤ u + 1000000000 →
      ∃ t, exec (.monTrip p) s = .next t ∧ (pll t p.val).held = true ∧ (pll t p.val).bypass = true ∧
        (pll t p.val).changing = false ∧ (∀ i, i ∈ pllIslands p.val → (isl t i).clockHeld = true))

/-- R64, R67, R68, R72 and R76: ISL_CTL, the end of a fence's drain, the release of a fence, and a fabric timeout. -/
def Obligations.IslandControl : Prop :=
  ∀ (s : State),
    (s.mode.mode ≠ .dormant → s.mode.mode ≠ .bringup → s.mode.mode ≠ .safestop → ∀ (key : BitVec 8) (m : BitVec 16),
      (key ≠ 0x3C ∨ islCtlBars s m.toNat false = true →
        exec (.islCtlRestart key m) s = .next { s with host := { s.host with status := .refused } } ∧
        exec (.islCtlHold key m) s = .next { s with host := { s.host with status := .refused } }) ∧
      (key ≠ 0x3C ∨ islCtlBars s m.toNat true = true →
        exec (.islCtlRelease key m) s = .next { s with host := { s.host with status := .refused } }) ∧
      (∀ i : Fin 16, m.toNat = 2 ^ i.val → key = 0x3C →
        (islCtlBars s m.toNat false = false → (isl s i.val).fence = none →
          (∃ t, exec (.islCtlRestart key m) s = .next t ∧ t.host.status = .ok ∧ (isl t i.val).st = .fenced ∧
            (isl t i.val).fence = some .reset ∧ (isl t i.val).epoch = ((isl s i.val).epoch + 1) % 256 ∧
            (isl t i.val).resetPending = true ∧ ∀ j, j ≠ i.val → (isl t j).quiet = (isl s j).quiet) ∧
          (∃ t, exec (.islCtlHold key m) s = .next t ∧ t.host.status = .ok ∧ (isl t i.val).st = .held ∧
            (isl t i.val).fence = some .reset ∧ ∀ j, j ≠ i.val → (isl t j).quiet = (isl s j).quiet)) ∧
        (islCtlBars s m.toNat true = false → (isl s i.val).resetPending = false →
          ∃ t, exec (.islCtlRelease key m) s = .next t ∧ t.host.status = .ok ∧ (isl t i.val).st = .on ∧
            (isl t i.val).fence = none))) ∧
    (∀ i : Fin 16, (isl s i.val).st = .fencing → (isl s i.val).fence ≠ some .powerDown →
      ∃ t, exec (.fenceDrainTimeout i) s = .next t ∧ isl t i.val = { isl s i.val with st := .fenced } ∧
        (∀ j, j ≠ i.val → isl t j = isl s j) ∧ EverythingBut [.isl, .islRest] s t) ∧
    (∀ i : Fin 16, (isl s i.val).st = .fencing → (isl s i.val).fence = some .powerDown →
      ∃ t, exec (.fenceDrainTimeout i) s = .next t ∧
        (isl t i.val).st = (if islWanted s i.val = .on then .waking else islWanted s i.val) ∧
        (∀ j, j ≠ i.val → isl t j = isl s j) ∧ EverythingBut [.isl, .islRest, .clock] s t) ∧
    (∀ i : Fin 16, (isl s i.val).st ≠ .fencing → exec (.fenceDrainTimeout i) s = .next s) ∧
    (∀ i : Fin 16, i.val ≠ 0 → (isl s i.val).st = .fenced → (isl s i.val).fence ≠ none → (isl s i.val).heldPending = false →
      (isl s i.val).resetPending = false → islWanted s i.val = .on →
      ∃ t, exec (.fenceRelease i) s = .next t ∧ (isl t i.val).st = .on ∧ (isl t i.val).fence = none ∧
        (isl t i.val).recoverPending = false ∧ (isl t i.val).faulted = false ∧
        (∀ j, j ≠ i.val → (isl t j).quiet = (isl s j).quiet) ∧
        EverythingBut [.clock, .isl, .islRest, .host, .arc, .cores, .mem] s t) ∧
    (∀ i : Fin 16, i.val = 0 ∨ (isl s i.val).st = .held → exec (.fenceRelease i) s = .next s) ∧
    (∀ a b : Fin 16, (∃ t, exec (.fabricTimeout a b) s = .next t ∧ t.reply = ⟨.abort, 0⟩ ∧ (isl t b.val).latched = true ∧
      t.host.attnCause.testBit attnClock = true ∧ EverythingBut [.isl, .islRest, .host, .cores, .coresRest, .reply] s t))

/-- R79, R80, R81 and R507: island faults and watchdogs, the loss and return of REFCLK, and the 10 ms duty tick. -/
def Obligations.IslandFaultsAndTicks : Prop :=
  ∀ (s : State),
    (∃ t, exec (.islandFault 0) s = .next t ∧ t.mode.mode = .bringup ∧ t.mode.entryCause = 0x03 ∧ t.log = s.log) ∧
    (s.mode.mode ∈ [Mode.night, .service, .inspection, .recall, .update] →
      ∃ t, exec (.islandFault 1) s = .next t ∧ t.mode.mode = .safestop ∧ t.mode.entryCause = 0x42) ∧
    (∀ i : Fin 16, 2 ≤ i.val → (isl s i.val).st = .on → (isl s i.val).faulted = false → (isl s i.val).fence = none →
      ∀ c, c = .islandFault i ∨ (c = .islandWatchdogExpiry i ∧ wdogCounts s i.val = true) →
      ∃ t, exec c s = .next t ∧ (isl t i.val).latched = true ∧ (isl t i.val).faulted = true ∧
        (isl t i.val).fence = some .reset ∧ (isl t i.val).resetPending = true ∧
        (isl t i.val).st = (if (5 ≤ i.val ∧ s.clock.restartMax ≤ (recentRestarts s (isl s i.val)).length) then .held
          else .fenced) ∧
        (¬(5 ≤ i.val ∧ s.clock.restartMax ≤ (recentRestarts s (isl s i.val)).length) →
          (isl t i.val).restarts = min 15 ((isl s i.val).restarts + 1)) ∧
        (∀ j, j ≠ i.val → (isl t j).quiet = (isl s j).quiet)) ∧
    (∀ i : Fin 16, wdogCounts s i.val = false → exec (.islandWatchdogExpiry i) s = .next s) ∧
    (∃ t, exec .aonWatchdogExpiry s = .next t ∧ t.mode.mode = .bringup ∧ t.mode.step = 1 ∧ t.mode.warm = false ∧
      t.mode.entryCause = 0x03 ∧ t.log = s.log) ∧
    (∃ t, exec .refclkLoss s = .next t ∧ t.clock.refclkLost = true ∧ t.clock.refclkEvent = true ∧
      t.host.attnCause.testBit attnClock = true ∧
      (∀ p, p < 5 → (pll s p).running = true → (pll t p).bypass = true ∧ (pll t p).locked = false ∧ (pll t p).changing = false) ∧
      (∀ i, 2 ≤ i → i < 16 → (isl t i).refLost = true) ∧ isl t 0 = isl s 0 ∧ isl t 1 = isl s 1 ∧
      EverythingBut [.clock, .isl, .islRest, .host, .meter] s t) ∧
    (s.clock.refclkLost = true → Rail.vddaPll ∉ s.pkg.alarms →
      ∃ t, exec .refclkRelock s = .next t ∧ t.clock.refclkLost = false ∧ (∀ i, 2 ≤ i → i < 16 → (isl t i).refLost = false) ∧
        (∀ p, p < 5 → (pll s p).running = true → (pll s p).held = false → (pll t p).changing = true ∧ (pll t p).locked = false)) ∧
    (s.clock.refclkLost = false ∨ Rail.vddaPll ∈ s.pkg.alarms → exec .refclkRelock s = .next s) ∧
    (s.clock.refclk = true → ∃ t, exec .aonDutyTick s = .next t ∧ (core t 0).ipend.getLsbD 63 = true ∧
      (s.mode.mode ≠ .night → t.clock = { s.clock with dutyTicks := s.clock.dutyTicks + 1 } ∧
        (∀ c, 0 < c → core t c = core s c) ∧ EverythingBut [.clock, .cores] s t)) ∧
    (s.clock.refclk = false → exec .aonDutyTick s = .next s)

/-! ### The host and maintenance ports (chapter 4) -/

/-- R85, R87, R89, R91, R93, R95 and R107: what a read frame, an unlisted opcode and a truncated frame do outside DORMANT and
BRINGUP. Registers with an effect at the commit of a read are the windows' data, HP_ERR, the consent block and the Kerb block;
the clauses on one word leave those out and the clause on WIN_DATA is stated with the windows. -/
def Obligations.HostReadFrames : Prop :=
  ∀ (s : State) (p : Port), s.mode.mode ≠ .dormant → s.mode.mode ≠ .bringup →
    (∀ (addr : BitVec 16) (crc : BitVec 8) (com : Bool), crcOnOf p s = false → addr.toNat % 8 = 0 → addr.toNat < 0x800 →
      addr.toNat ≠ 0x028 → (addr.toNat < 0x100 ∨ (0x140 ≤ addr.toNat ∧ addr.toNat < 0x300) ∨
        (0x380 ≤ addr.toNat ∧ addr.toNat < 0x400) ∨ 0x4A0 < addr.toNat) →
      exec (.read p addr crc com false) s = .next { s with host := { s.host with
        status := .ok
        frame := [{ data := hostRegRead p addr.toNat { s with host := { s.host with frame := [] } }
                    status := 8 * b2n (attnAsserted s), crc := 0 }] } }) ∧
    (∀ (addr : BitVec 16) (crc : BitVec 8) (com bad : Bool), crcOnOf p s = false → addrBad addr.toNat = true →
      exec (.read p addr crc com bad) s = .next { s with host := { s.host with
        status := .refused, frame := [{ data := 0, status := 128 + 8 * b2n (attnAsserted s), crc := 0 }] } }) ∧
    (∀ crc : BitVec 8, crcOnOf p s = false → s.pkg.revA1 = false → s.host.codeI = false →
      ∃ t, exec (.readBurst p 0x000 crc 2 []) s = .next t ∧ EverythingBut [.host, .hostRest] s t ∧
        t.host.frame.map (·.data) = [0x0E5A_7256_0000_4301, packWord [(16, s.host.bootRom), (0, 0xA0)]]) ∧
    (∀ (crc : BitVec 8) (n : Nat), crcOnOf p s = false → s.host.codeI = false →
      ∃ t, exec (.readRepeat p 0x000 crc n []) s = .next t ∧ EverythingBut [.host, .hostRest] s t ∧
        t.host.frame.map (·.data) = List.replicate n 0x0E5A_7256_0000_4301) ∧
    (∀ (addr : BitVec 16) (crc : BitVec 8) (com bad : Bool), crcOnOf p s = true →
      crc.toNat ≠ crc8 [0x0B, addr.toNat / 256 % 256, addr.toNat % 256] →
      ∃ t, exec (.read p addr crc com bad) s = .next t ∧ EverythingBut [.host, .hostRest] s t ∧ t.host.status = .crcError ∧
        vget t.host.crcErrCnt (portIdx p) 0 = satInc 16 (vget s.host.crcErrCnt (portIdx p) 0) ∧
        t.host.attnCause.testBit attnHpErr = true ∧ t.host.win = s.host.win) ∧
    (∀ (op : BitVec 8) (addr : BitVec 16) (crc : BitVec 8), listedOpcode op.toNat = false → crcOnOf p s = false →
      ∃ t, exec (.unlistedOpcode p op addr crc) s = .next t ∧ EverythingBut [.host, .hostRest] s t ∧ t.host.status = .refused ∧
        t.host.frame = [{ data := 0, status := 128 + 8 * b2n (attnAsserted s), crc := 0 }] ∧
        vget t.host.frameErrCnt (portIdx p) 0 = satInc 16 (vget s.host.frameErrCnt (portIdx p) 0) ∧
        t.host.attnCause.testBit attnHpErr = true ∧ t.host.win = s.host.win) ∧
    (∃ t, exec (.frameTruncated p) s = .next t ∧ EverythingBut [.host, .hostRest] s t ∧ t.host.frame = [] ∧
      vget t.host.truncCnt (portIdx p) 0 = satInc 16 (vget s.host.truncCnt (portIdx p) 0) ∧
      t.host.attnCause.testBit attnHpErr = true ∧ t.host.win = s.host.win)

/-- R12, R86, R90, R93, R94, R95 and R102: what write frames and register writes do outside DORMANT, BRINGUP and SAFESTOP. -/
def Obligations.HostWriteFrames : Prop :=
  ∀ (s : State) (p : Port), s.mode.mode ≠ .dormant → s.mode.mode ≠ .bringup → s.mode.mode ≠ .safestop →
    (∀ (keys : Bool) (addr : BitVec 16) (w : Word) (crc : BitVec 8), crcOnOf p s = false → addrBad addr.toNat = false →
      addr.toNat < 0x800 → p = .hp ∨ keys = true →
      ∃ t, exec (.write p keys addr w crc) s = .next t ∧
        t.host.status = (hostRegWrite p addr.toNat w { s with host := { s.host with frame := [] } }).1 ∧
        EverythingBut [.host, .hostRest] (hostRegWrite p addr.toNat w { s with host := { s.host with frame := [] } }).2 t) ∧
    (∀ (keys : Bool) (addr : BitVec 16) (w : Word) (crc : BitVec 8), crcOnOf p s = false →
      addrBad addr.toNat = true ∨ (p = .mp ∧ keys = false) →
      exec (.write p keys addr w crc) s = .next { s with host := { s.host with
        status := .refused, frame := [{ data := w, status := 128 + 8 * b2n (attnAsserted s), crc := 0 }] } }) ∧
    (∀ (keys : Bool) (addr : BitVec 16) (w : Word) (crc : BitVec 8), crcOnOf p s = true →
      crc.toNat ≠ crc8 (headBytes 0x02 addr.toNat ++ dataBytes w) →
      ∃ t, exec (.write p keys addr w crc) s = .next t ∧ EverythingBut [.host, .hostRest] s t ∧ t.host.status = .crcError ∧
        vget t.host.crcErrCnt (portIdx p) 0 = satInc 16 (vget s.host.crcErrCnt (portIdx p) 0) ∧
        t.host.attnCause.testBit attnHpErr = true ∧ t.host.win = s.host.win ∧ t.host.attnMask = s.host.attnMask) ∧
    (∀ (a b : Word) (ca cb : BitVec 8), crcOnOf p s = false →
      ∃ t, exec (.writeBurst p true 0x080 [(a, ca), (b, cb)]) s = .next t ∧ EverythingBut [.host, .hostRest] s t ∧
        t.host.status = .ok ∧ t.host.attnMask = bits b 10 0 ∧ t.host.frame.length = 2 ∧ t.host.win = s.host.win) ∧
    (∀ (a b : Word) (ca cb : BitVec 8), crcOnOf p s = false →
      ∃ t, exec (.writeRepeat p true 0x088 [(a, ca), (b, cb)]) s = .next t ∧ EverythingBut [.host, .hostRest] s t ∧
        t.host.status = .ok ∧ t.host.attnMask = bits b 10 0 ∧ t.host.frame.length = 2 ∧ t.host.attnCause = s.host.attnCause) ∧
    (∀ w : Word, exec (.hpCfgWrite p w) s = .next { s with host := { s.host with
      crcEn := vput s.host.crcEn (portIdx p) (bit w 0), status := .ok } }) ∧
    (∀ w : Word, exec (.registerWrite p 0x088 w) s = .next { s with host := { s.host with attnMask := bits w 10 0, status := .ok } }) ∧
    (∀ w : Word, ∃ t, exec (.registerWrite p 0x050 w) s = .next t ∧ t.host = { s.host with status := .ok } ∧
      EverythingBut [.isl, .islRest, .host, .hostRest] s t ∧ ∀ i, i < 16 →
        isl t i = { isl s i with latched := (isl s i).latched && !w.getLsbD i }) ∧
    (∀ (off : BitVec 12) (w : Word), off.toNat % 8 = 0 → 0x800 ≤ off.toNat →
      exec (.registerWrite p off w) s = .next { s with host := { s.host with status := .ok } }) ∧
    (∀ (off : BitVec 12) (w : Word), off.toNat % 8 ≠ 0 →
      exec (.registerWrite p off w) s = .next { s with host := { s.host with status := .refused } })

/-- R96 to R100 and R106: the windows into Plaza space: their address, their reads and posted writes, and how their fabric requests
end. -/
def Obligations.WindowsIntoPlaza : Prop :=
  ∀ (s : State) (n : Fin 4), s.mode.mode ≠ .dormant → s.mode.mode ≠ .bringup → s.mode.mode ≠ .safestop →
    (∀ w : Word, ∃ t, exec (.winAddrWrite n w) s = .next t ∧ EverythingBut [.host, .hostRest] s t ∧ t.host.status = .ok ∧
      win t n.val = { win s n.val with addr := bits w 39 3 * 8, autoInc := bit w 40
                                       pf := if (win s n.val).wr.isSome then .waiting else .busy } ∧
      ∀ m, m ≠ n.val → win t m = win s m) ∧
    ((win s n.val).pf = .ok → ∀ com : Bool, com = true ∨ (win s n.val).autoInc = false →
      ∃ t, exec (.winDataRead n com) s = .next t ∧ EverythingBut [.host, .hostRest, .reply] s t ∧ t.host.status = .ok ∧
        t.reply = ⟨.ok, (win s n.val).buf⟩ ∧
        win t n.val = (if (win s n.val).autoInc then { win s n.val with
          addr := ((win s n.val).addr + 8) % 2 ^ 40, pf := if (win s n.val).wr.isSome then .waiting else .busy } else win s n.val)) ∧
    ((win s n.val).pf = .busy ∨ (win s n.val).pf = .waiting → ∀ com : Bool,
      exec (.winDataRead n com) s = .next { s with
        host := { s.host with status := .stale }, reply := ⟨.stale, (win s n.val).buf⟩ }) ∧
    (∀ w : Word, (win s n.val).wr = none → placeScoped (placeOf (win s n.val).addr) = false →
      ∃ t, exec (.winDataWrite n w) s = .next t ∧ EverythingBut [.host, .hostRest] s t ∧ t.host.status = .ok ∧
        win t n.val = { win s n.val with
          wr := some ((win s n.val).addr, w), pf := .waiting
          addr := if (win s n.val).autoInc then ((win s n.val).addr + 8) % 2 ^ 40 else (win s n.val).addr }) ∧
    (∀ w : Word, (win s n.val).wr ≠ none → exec (.winDataWrite n w) s = .next { s with host := { s.host with status := .busy } }) ∧
    (∀ w : Word, (win s n.val).wr = none → placeScoped (placeOf (win s n.val).addr) = true →
      exec (.winDataWrite n w) s = .next { s with host := { s.host with status := .refused } }) ∧
    ((win s n.val).pf = .busy → (win s n.val).wr = none → ∀ c, c = .winPrefetchComplete n ∨ c = .winRetryReissue n →
      (∀ a, (win s n.val).addr = a → sramBase ≤ a → a < sramBase + 0x395000 → a % 8 = 0 → a ∉ s.ecc →
        ∃ t, exec c s = .next t ∧ win t n.val = { win s n.val with pf := .ok, pfResult := .ok, buf := s.mem.readW a } ∧
          (c = .winPrefetchComplete n → EverythingBut [.host, .hostRest] s t)) ∧
      ((fabRead .window (win s n.val).addr s).1.status = .retry → c = .winPrefetchComplete n → exec c s = .next s) ∧
      ((fabRead .window (win s n.val).addr s).1.status = .abort → ∃ t, exec c s = .next t ∧
        win t n.val = { win s n.val with pf := .abort, pfResult := .abort } ∧
        (c = .winPrefetchComplete n → t.host.attnCause.testBit attnWindow = true))) ∧
    (∀ a w, (win s n.val).wr = some (a, w) → ∀ c, c = .winPostedWriteComplete n ∨ c = .winRetryReissue n →
      (fabWrite .window a 255 w s).1 = .ok → ∃ t, exec c s = .next t ∧
        win t n.val = { win s n.val with wr := none, wrResult := .ok, pf := .busy } ∧
        ((∀ m, m < 8 → (core (fabWrite .window a 255 w s).2 m).stepReq = false) → t.mem = (fabWrite .window a 255 w s).2.mem)) ∧
    (∀ a w, (win s n.val).wr = some (a, w) → ∃ t, exec (.winRequestTimeout n) s = .next t ∧ EverythingBut [.host, .hostRest] s t ∧
      win t n.val = { win s n.val with wr := none, wrResult := .retry, pf := .busy } ∧ t.host.attnCause.testBit attnWindow = true) ∧
    ((win s n.val).wr = none → (win s n.val).pf = .busy → ∃ t, exec (.winRequestTimeout n) s = .next t ∧
      EverythingBut [.host, .hostRest] s t ∧ win t n.val = { win s n.val with pf := .retry, pfResult := .retry } ∧
      t.host.attnCause.testBit attnWindow = true)

/-! ### The consent controller (chapter 5) -/

/-- R114, R120 and R122: a proposal, the refusals of one in the order of R114, and its withdrawal. -/
def Obligations.ProposalsAndWithdrawals : Prop :=
  ∀ (s : State) (ch : Channel) (w : Word) (k : Nat), HostOpen s → ch ≠ .warden → k = bits w 50 48 →
    (bits w 63 56 ≠ 0xC5 → ∀ c, c = .consentPropose ch w ∨ c = .consentWithdraw ch w →
      ∃ t, exec c s = .next t ∧ Answered ch .refused t ∧ t.consent.lastRefusal = rsFORMAT ∧ t.consent.scopes = s.consent.scopes ∧
        EverythingBut [.consent, .host, .hostRest, .reply] s t) ∧
    (bits w 63 56 = 0xC5 → (∃ n, n < 4 ∧ vget s.consent.digestBy n none ≠ some ch) →
      ∃ t, exec (.consentPropose ch w) s = .next t ∧ Answered ch .refused t ∧ t.consent.lastRefusal = rsCHANNEL ∧
        t.consent.scopes = s.consent.scopes ∧ EverythingBut [.consent, .host, .hostRest, .reply] s t) ∧
    (bits w 63 56 = 0xC5 → (∀ n, n < 4 → vget s.consent.digestBy n none = some ch) → scopeAllowed k s.mode.mode = false →
      ∃ t, exec (.consentPropose ch w) s = .next t ∧ Answered ch .refused t ∧ t.consent.lastRefusal = rsMODE ∧
        t.consent.scopes = s.consent.scopes ∧ EverythingBut [.consent, .host, .hostRest, .reply] s t) ∧
    (bits w 63 56 = 0xC5 → (∀ n, n < 4 → vget s.consent.digestBy n none = some ch) → scopeAllowed k s.mode.mode = true →
      0 < bits w 47 24 → 64 * bits w 16 0 + bits w 47 24 ≤ 8388608 → (∀ j, j < 8 → (scopeOf s j).phase = .idle) →
      (k = scMETER → s.consent.sealCount < 0xFFFFFFFF) →
      ∃ t, exec (.consentPropose ch w) s = .next t ∧ Answered ch .ok t ∧ t.log = s.log ∧ t.mem = s.mem ∧
        scopeOf t k = { phase := .hashing, result := (scopeOf s k).result, proposer := ch, confirmer := none, length := bits w 47 24
                        offset := bits w 16 0, digest := digestOfWords s, mask := vget s.consent.bMask k 0
                        window := s.consent.windowS, deadline := 0 } ∧
        (∀ j, j ≠ k → scopeOf t j = scopeOf s j) ∧ (∀ n, n < 4 → vget t.consent.digestBy n none = none) ∧
        t.host.attnCause.testBit attnConsent = true ∧ EverythingBut [.consent, .host, .hostRest, .reply] s t) ∧
    (bits w 63 56 = 0xC5 → (scopeOf s k).isOpen = false →
      ∃ t, exec (.consentWithdraw ch w) s = .next t ∧ Answered ch .refused t ∧ t.consent.lastRefusal = rsMODE ∧
        t.consent.scopes = s.consent.scopes) ∧
    (bits w 63 56 = 0xC5 → (scopeOf s k).isOpen = true → (scopeOf s k).proposer ≠ ch →
      ∃ t, exec (.consentWithdraw ch w) s = .next t ∧ Answered ch .refused t ∧ t.consent.lastRefusal = rsCHANNEL ∧
        t.consent.scopes = s.consent.scopes) ∧
    (bits w 63 56 = 0xC5 → (scopeOf s k).isOpen = true → (scopeOf s k).proposer = ch →
      ∃ t, exec (.consentWithdraw ch w) s = .next t ∧ Answered ch .ok t ∧ t.log.seq = s.log.seq + 1 ∧
        scopeOf t k = { scopeOf s k with phase := .idle, result := rsWITHDRAWN, confirmer := none } ∧
        (∀ j, j ≠ k → scopeOf t j = scopeOf s j) ∧ t.host.attnCause.testBit attnConsent = true ∧
        EverythingBut [.consent, .log, .mem, .host, .hostRest, .reply] s t ∧
        (s.mem.wf = true → SameOutside (logAddr (s.log.seq + 1)) 128 s t))

/-- R116, R119 and R121 to R124: the end of hashing, the expiry of a window, and the commit point. -/
def Obligations.HashingExpiryAndCommit : Prop :=
  ∀ (s : State) (k : Fin 8),
    (∀ r, (scopeOf s k.val).phase = .hashing →
      (payloadBad s (scopeOf s k.val) = true ∧ r = rsCHANGED) ∨
      (payloadBad s (scopeOf s k.val) = false ∧ shaN (payloadOf s (scopeOf s k.val)) ≠ (scopeOf s k.val).digest ∧ r = rsDIGEST) ∨
      (payloadBad s (scopeOf s k.val) = false ∧ shaN (payloadOf s (scopeOf s k.val)) = (scopeOf s k.val).digest ∧
        payloadFail s k.val (payloadOf s (scopeOf s k.val)) = some r) →
      ∃ t, exec (.hashingComplete k) s = .next t ∧ t.log.seq = s.log.seq + 1 ∧
        scopeOf t k.val = { scopeOf s k.val with phase := .idle, result := r, confirmer := none } ∧
        (∀ j, j ≠ k.val → scopeOf t j = scopeOf s j) ∧ t.host.attnCause.testBit attnConsent = true ∧
        EverythingBut [.consent, .log, .mem, .host] s t) ∧
    ((scopeOf s k.val).phase = .hashing → payloadBad s (scopeOf s k.val) = false →
      shaN (payloadOf s (scopeOf s k.val)) = (scopeOf s k.val).digest →
      payloadFail s k.val (payloadOf s (scopeOf s k.val)) = none →
      ∃ t, exec (.hashingComplete k) s = .next t ∧
        scopeOf t k.val = { scopeOf s k.val with
          phase := .pending, deadline := s.time.uptime + (scopeOf s k.val).window * 1000000000 } ∧
        (∀ j, j ≠ k.val → scopeOf t j = scopeOf s j) ∧ t.host.attnCause.testBit attnConsent = true ∧
        EverythingBut [.consent, .host] s t) ∧
    ((scopeOf s k.val).phase ≠ .hashing → exec (.hashingComplete k) s = .next s) ∧
    ((scopeOf s k.val).phase = .pending →
      ∃ t, exec (.consentWindowExpiry k) s = .next t ∧ t.log.seq = s.log.seq + 1 ∧
        scopeOf t k.val = { scopeOf s k.val with phase := .idle, result := rsEXPIRED, confirmer := none } ∧
        (∀ j, j ≠ k.val → scopeOf t j = scopeOf s j) ∧ EverythingBut [.consent, .log, .mem, .host] s t) ∧
    ((scopeOf s k.val).phase ≠ .pending → exec (.consentWindowExpiry k) s = .next s) ∧
    (∀ ok, (scopeOf s k.val).phase = .committing → payloadBad s (scopeOf s k.val) = true ∨
        shaN (payloadOf s (scopeOf s k.val)) ≠ (scopeOf s k.val).digest → s.mode.recallAfterCommit = false →
      ∃ t, exec (.commitPoint k ok) s = .next t ∧ t.log.seq = s.log.seq + 1 ∧
        scopeOf t k.val = { scopeOf s k.val with phase := .idle, result := rsCHANGED, confirmer := none }) ∧
    (∀ ok, (scopeOf s k.val).phase = .committing → payloadBad s (scopeOf s k.val) = false →
      shaN (payloadOf s (scopeOf s k.val)) = (scopeOf s k.val).digest → k.val = scTRIP ∨ k.val = scMODEL →
      s.mode.recallAfterCommit = false →
      ∃ t, exec (.commitPoint k ok) s = .next t ∧ t.log.seq = s.log.seq + 1 ∧
        scopeOf t k.val = { scopeOf s k.val with phase := .idle, result := rsCOMMITTED, confirmer := none } ∧
        (∀ j, j ≠ k.val → scopeOf t j = scopeOf s j) ∧
        (s.mem.wf = true → ∀ i, i < (payloadOf s (scopeOf s k.val)).length → i < (if k.val = scTRIP then 0x1000 else 144) →
          t.mem.read ((if k.val = scTRIP then nvmBase + 0x2000 else nvmBase + 0x1100) + i) =
            (payloadOf s (scopeOf s k.val)).getD i 0)) ∧
    ((scopeOf s k.val).phase = .committing → payloadBad s (scopeOf s k.val) = false →
      shaN (payloadOf s (scopeOf s k.val)) = (scopeOf s k.val).digest → k.val = scFIRMWARE → s.mode.recallAfterCommit = false →
      ∃ t, exec (.commitPoint k false) s = .next t ∧ t.log.seq = s.log.seq + 1 ∧
        scopeOf t k.val = { scopeOf s k.val with phase := .idle, result := rsAPPLY, confirmer := none }) ∧
    (∀ ok, (scopeOf s k.val).phase ≠ .committing → exec (.commitPoint k ok) s = .next s)

/-- R117, R118 and R455: a confirmation that matches one pending tag over another channel, a tag that matches nothing, and the
WARDEN's answer. -/
def Obligations.ConfirmationByAnotherChannel : Prop :=
  ∀ (s : State) (ch : Channel) (tag : Word), HostOpen s →
    (∀ k, k < 8 → ch = .hp ∨ ch = .mp →
      (∀ j, j < 8 → ((scopeOf s j).phase = .pending ∧ tagOf (scopeOf s j).digest = tag.toNat ↔ j = k)) →
      ((scopeOf s k).proposer ≠ ch → (scopeOf s k).mask.testBit (channelCode ch) = true →
        s.time.uptime < (scopeOf s k).deadline →
        ∃ t, exec (.consentConfirm ch tag) s = .next t ∧ t.host.status = .ok ∧
          scopeOf t k = { scopeOf s k with phase := .committing, confirmer := some ch } ∧
          (∀ j, j ≠ k → scopeOf t j = scopeOf s j) ∧ t.host.attnCause.testBit attnConsent = true ∧
          EverythingBut [.consent, .host, .hostRest] s t) ∧
      ((scopeOf s k).proposer = ch ∨ (scopeOf s k).mask.testBit (channelCode ch) = false →
        ∃ t, exec (.consentConfirm ch tag) s = .next t ∧ t.host.status = .refused ∧ t.consent.lastRefusal = rsCHANNEL ∧
          t.consent.scopes = s.consent.scopes ∧ t.consent.mismatch = s.consent.mismatch ∧
          EverythingBut [.consent, .host, .hostRest] s t)) ∧
    (ch = .hp ∨ ch = .mp → (∀ j, j < 8 → (scopeOf s j).phase = .idle ∨ tagOf (scopeOf s j).digest ≠ tag.toNat) →
      (∃ j, j < 8 ∧ (scopeOf s j).isOpen = true) → s.consent.mismatch < 3 →
      ∃ t, exec (.consentConfirm ch tag) s = .next t ∧ t.host.status = .refused ∧ t.consent.lastRefusal = rsTAG ∧
        t.consent.scopes = s.consent.scopes ∧ t.consent.mismatch = s.consent.mismatch + 1 ∧
        EverythingBut [.consent, .host, .hostRest] s t) ∧
    (∀ (src : BitVec 8), holdsRole s false src.toNat = true → s.blv.self ≠ some src.toNat → ∀ k, k < 8 →
      (∀ j, j < 8 → ((scopeOf s j).phase = .pending ∧ tagOf (scopeOf s j).digest = tag.toNat ↔ j = k)) →
      (scopeOf s k).proposer ≠ .warden → (scopeOf s k).mask.testBit 2 = true → s.time.uptime < (scopeOf s k).deadline →
      ∃ t, exec (.wardenConfirmReceive src tag) s = .next t ∧
        scopeOf t k = { scopeOf s k with phase := .committing, confirmer := some .warden } ∧
        EverythingBut [.consent, .host, .link] s t ∧ t.link.own.length = s.link.own.length + 1) ∧
    (∀ (src : BitVec 8), holdsRole s false src.toNat = false →
      ∃ t, exec (.wardenConfirmReceive src tag) s = .next t ∧ t.consent.lastRefusal = rsCHANNEL ∧
        t.consent.scopes = s.consent.scopes ∧ EverythingBut [.consent, .link] s t ∧
        t.link.own.length = s.link.own.length + 1)

/-! ### Arcade (chapter 6) -/

/-- R136, R140 to R142, R144: the producer's port operations on a queue in service. -/
def Obligations.ProducerPort : Prop :=
  ∀ (s : State) (q : Fin 16384) (x : Queue), qGet s q.val = some x → Serves s x → prodFrozen s x = false →
    (x.free ≠ 0 → ∃ t, exec (.reserve q) s = .next t ∧ EverythingBut [.arc] s t ∧ OtherQueues q.val s t ∧
      t.arc.reply = ⟨.ok, packWord [(40, x.slot x.resv), (0, x.slotAddr x.resv)]⟩ ∧
      qGet t q.val = some { x with
        resv := add32 x.resv 1, highWater := max x.highWater (sub32 (add32 x.resv 1) x.head) }) ∧
    (x.free = 0 → ∃ t, exec (.reserve q) s = .next t ∧ EverythingBut [.arc] s t ∧ OtherQueues q.val s t ∧
      t.arc.reply = ⟨.full, 0⟩ ∧ qGet t q.val = some { x with fullCnt := satInc 16 x.fullCnt, armedP := true }) ∧
    (∀ n : BitVec 16, n ≠ 0 → n.toNat ≤ sub32 x.resv x.tail →
      ∃ t, exec (.publish q n) s = .next t ∧ EverythingBut bellParts s t ∧ OtherQueues q.val s t ∧ t.arc.reply = ⟨.ok, 0⟩ ∧
        qGet t q.val = some (afterBellC { x with
          tail := add32 x.tail n.toNat, enqCnt := add32 x.enqCnt n.toNat, lastProd := .ok })) ∧
    (∀ n : BitVec 16, n = 0 ∨ sub32 x.resv x.tail < n.toNat →
      ∃ t, exec (.publish q n) s = .next t ∧ EverythingBut [.arc] s t ∧ OtherQueues q.val s t ∧ t.arc.reply = ⟨.refused, 0⟩ ∧
        qGet t q.val = some { x with lastProd := .refused }) ∧
    (∀ w : Word, x.entryBytes = 8 → x.free ≠ 0 →
      ∃ t, exec (.enqueue q w) s = .next t ∧ EverythingBut (.mem :: bellParts) s t ∧ OtherQueues q.val s t ∧
        t.arc.reply = ⟨.ok, 0⟩ ∧ t.mem = s.mem.writeBytes (x.slotAddr x.resv) (leBytes 8 w.toNat) ∧
        (s.mem.wf = true → SameOutside (x.slotAddr x.resv) 8 s t) ∧
        qGet t q.val = some (afterBellC { x with
          resv := add32 x.resv 1, tail := add32 x.tail 1, enqCnt := add32 x.enqCnt 1, lastProd := .ok
          highWater := max x.highWater (sub32 (add32 x.resv 1) x.head) })) ∧
    (∀ w : Word, x.entryBytes ≠ 8 → ∃ t, exec (.enqueue q w) s = .next t ∧ EverythingBut [.arc] s t ∧ OtherQueues q.val s t ∧
      t.arc.reply = ⟨.refused, 0⟩ ∧ qGet t q.val = some { x with lastProd := .refused }) ∧
    (x.armedC = true → x.cfg.dbCons = true → x.cfg.dbCount ≤ 1 → sub32 x.resv x.tail = 1 → x.avail = 0 → x.tail < 2 ^ 32 →
      (x.cfg.cons = ownHost → ∃ t, exec (.publish q 1) s = .next t ∧ t.host.attnCause.testBit attnQueue = true) ∧
      (∀ c, c < 8 → x.cfg.cons = islSC c → islFrozen s (islSC c) = false → x.cfg.dbChan < 64 →
        ∃ t, exec (.publish q 1) s = .next t ∧ (core t c).ipend.getLsbD x.cfg.dbChan = true))

/-- R136, R140, R144 and R145: the consumer's port operations, ARM and STATUS on a queue in service. -/
def Obligations.ConsumerPort : Prop :=
  ∀ (s : State) (q : Fin 16384) (x : Queue), qGet s q.val = some x → Serves s x →
    (∃ t, exec (.status q) s = .next t ∧ EverythingBut [.arc] s t ∧ t.arc = { s.arc with reply := ⟨.ok, qStatusWord s x⟩ }) ∧
    (consFrozen s x = false →
      (x.avail ≠ 0 → x.redeliverEnd = none →
        ∃ t, exec (.dequeue q) s = .next t ∧ EverythingBut [.arc] s t ∧ OtherQueues q.val s t ∧
          t.arc.reply = ⟨.ok, packWord [(59, 0), (40, x.slot x.read), (0, x.slotAddr x.read)]⟩ ∧
          qGet t q.val = some { x with read := add32 x.read 1, deqCnt := add32 x.deqCnt 1 }) ∧
      (∀ e, x.avail ≠ 0 → x.redeliverEnd = some e → later32 e x.read = true →
        ∃ t, exec (.dequeue q) s = .next t ∧ EverythingBut [.arc] s t ∧ OtherQueues q.val s t ∧
          t.arc.reply = ⟨if x.cfg.exactly then .abort else .ok,
            packWord [(59, if x.cfg.exactly then 0 else 1), (40, x.slot x.read), (0, x.slotAddr x.read)]⟩ ∧
          qGet t q.val = some { x with
            read := add32 x.read 1, deqCnt := add32 x.deqCnt 1
            redelivered := if x.cfg.exactly then x.redelivered else satInc 16 x.redelivered
            aborted := if x.cfg.exactly then satInc 16 x.aborted else x.aborted
            redeliverEnd := if e = add32 x.read 1 then none else some e }) ∧
      (x.avail = 0 → ∃ t, exec (.dequeue q) s = .next t ∧ EverythingBut [.arc] s t ∧ OtherQueues q.val s t ∧
        t.arc.reply = ⟨.empty, 0⟩ ∧ qGet t q.val = some { x with armedC := true }) ∧
      (∀ n : BitVec 16, n ≠ 0 → n.toNat ≤ sub32 x.read x.head →
        ∃ t, exec (.ack q n) s = .next t ∧ EverythingBut bellParts s t ∧ OtherQueues q.val s t ∧ t.arc.reply = ⟨.ok, 0⟩ ∧
          qGet t q.val = some { x with
            head := add32 x.head n.toNat, lastCons := .ok
            armedP := x.armedP && !(decide (x.free = 0) && x.cfg.dbProd) }) ∧
      (∀ n : BitVec 16, n = 0 ∨ sub32 x.read x.head < n.toNat →
        ∃ t, exec (.ack q n) s = .next t ∧ EverythingBut [.arc] s t ∧ OtherQueues q.val s t ∧ t.arc.reply = ⟨.refused, 0⟩ ∧
          qGet t q.val = some { x with lastCons := .refused }) ∧
      (prodFrozen s x = false → ∀ c p : Bool,
        ∃ t, exec (.arm q c p) s = .next t ∧ EverythingBut bellParts s t ∧ OtherQueues q.val s t ∧ t.arc.reply = ⟨.ok, 0⟩ ∧
          qGet t q.val = some (afterBellC { x with armedC := x.armedC || c, armedP := x.armedP || p })))

/-- R148 and R149: the host's queue block: selection, the held entry, and the host's doorbell operations. -/
def Obligations.HostQueueBlock : Prop :=
  ∀ (s : State), HostOpen s →
    (∀ w : Word, ∃ t, exec (.qSelWrite w) s = .next t ∧ EverythingBut [.arc, .host, .hostRest] s t ∧ t.host.status = .ok ∧
      t.arc = { s.arc with qSel := bits w 13 0, peek := none }) ∧
    (∀ p, s.arc.peek = some p → exec .qPeekFill s = .next s) ∧
    (∀ x, s.arc.peek = none → qGet s s.arc.qSel = some x → x.valid = true → x.quarantined = false → x.cfg.cons = ownHost →
      x.avail ≠ 0 → x.redeliverEnd = none → ∃ t, exec .qPeekFill s = .next t ∧ EverythingBut [.arc] s t ∧
        t.arc = { s.arc with peek := some { aborted := false, redelivered := false, seq := x.read % 65536
                                            data := s.mem.bytes (x.slotAddr x.read) x.entryBytes } }) ∧
    (∀ x, qGet s s.arc.qSel = some x → Serves s x → x.cfg.prod = ownHost → s.arc.copy = none →
      (x.free ≠ 0 → ∃ t, exec .hostEnqueue s = .next t ∧ EverythingBut [.arc, .host, .hostRest] s t ∧ t.host.status = .ok ∧
        OtherQueues s.arc.qSel s t ∧ t.arc.copy = some (s.arc.qSel, x.resv,
          (s.arc.entry.toList.flatMap (fun w => leBytes 8 w.toNat)).take x.entryBytes) ∧
        qGet t s.arc.qSel = some { x with
          resv := add32 x.resv 1, highWater := max x.highWater (sub32 (add32 x.resv 1) x.head) }) ∧
      (x.free = 0 → ∃ t, exec .hostEnqueue s = .next t ∧ t.host.status = .full ∧ t.arc.copy = none ∧
        qGet t s.arc.qSel = some { x with fullCnt := satInc 16 x.fullCnt, armedP := true }) ∧
      (∃ t, exec .armProducer s = .next t ∧ t.host.status = .ok ∧
        qGet t s.arc.qSel = some (afterBellC { x with armedP := true }))) ∧
    (∀ c, s.arc.copy = some c → exec .hostEnqueue s = .next { s with host := { s.host with status := .busy } }) ∧
    (∀ q c bytes x, s.arc.copy = some (q, c, bytes) → qGet s q = some x → x.valid = true → x.quarantined = false →
      ∃ t, exec .hostEnqueueCopyComplete s = .next t ∧ EverythingBut (.mem :: bellParts) s t ∧ t.arc.copy = none ∧
        t.mem = s.mem.writeBytes (x.slotAddr c) bytes ∧ (s.mem.wf = true → SameOutside (x.slotAddr c) bytes.length s t) ∧
        OtherQueues q s t ∧
        qGet t q = some (afterBellC { x with tail := add32 x.tail 1, enqCnt := add32 x.enqCnt 1, lastProd := .ok })) ∧
    (∀ x, qGet s s.arc.qSel = some x → Serves s x → x.cfg.cons = ownHost →
      (∀ p, s.arc.peek = some p → ∀ a : BitVec 16,
        (a.toNat ≠ p.seq → ∀ c, c = .take a ∨ c = .takeAck a →
          exec c s = .next { s with host := { s.host with status := .refused } }) ∧
        (a.toNat = p.seq → x.redeliverEnd = none →
          (∃ t, exec (.take a) s = .next t ∧ EverythingBut [.arc, .host, .hostRest] s t ∧ t.host.status = .ok ∧
            t.arc.peek = none ∧ qGet t s.arc.qSel = some { x with read := add32 x.read 1, deqCnt := add32 x.deqCnt 1 }) ∧
          (0 < sub32 (add32 x.read 1) x.head → ∃ t, exec (.takeAck a) s = .next t ∧ t.host.status = .ok ∧ t.arc.peek = none ∧
            qGet t s.arc.qSel = some { x with
              read := add32 x.read 1, deqCnt := add32 x.deqCnt 1, head := add32 x.head 1, lastCons := .ok
              armedP := x.armedP && !(decide (x.free = 0) && x.cfg.dbProd) }))) ∧
      (∀ n : BitVec 16, n ≠ 0 → n.toNat ≤ sub32 x.read x.head →
        ∃ t, exec (.hostAck n) s = .next t ∧ t.host.status = .ok ∧ t.arc.peek = s.arc.peek ∧
          qGet t s.arc.qSel = some { x with
            head := add32 x.head n.toNat, lastCons := .ok
            armedP := x.armedP && !(decide (x.free = 0) && x.cfg.dbProd) }) ∧
      (∃ t, exec .armConsumer s = .next t ∧ t.host.status = .ok ∧
        qGet t s.arc.qSel = some (afterBellC { x with armedC := true })))

/-- R137, R138, R147 and R152: the load actions, issued by the host or a core and complete at LOAD_ACTION_COMPLETE, and
quarantine. -/
def Obligations.QueueLoadActions : Prop :=
  ∀ (s : State) (src : LoadSrc) (q : Nat), q = loadTarget src s → (src = .host → HostOpen s) →
    (∀ a c, s.arc.action = some a → c ∈ [Instr.load src, .config src, .reinit src, .queueDisable src, .rewind src, .clearStats src] →
      ∃ t, exec c s = .next t ∧ t.arc.queues = s.arc.queues ∧ t.arc.action = s.arc.action ∧ t.mem = s.mem ∧
        (src = .host → t.host.status = .busy) ∧ (src ≠ .host → t.arc.reply = ⟨.busy, 0⟩)) ∧
    (s.arc.action = none → copyOn s q = false →
      (∀ x d, qGet s q = some x ∨ (qGet s q = none ∧ x = Queue.blank) → d = readDesc s q → x.quarantined = false →
        q ≠ noticeQid → descBad s q = false → descOk q d = true →
        (({ Queue.blank with cfg := d.cfg, resv := d.resv, tail := d.tail, read := d.read, head := d.head } : Queue).ordered = true →
          ∃ t y, exec (.load src) s = .next t ∧ qGet t q = some y ∧ OtherQueues q s t ∧ t.arc.reloadResult = .busy ∧
            y.cfg = d.cfg ∧ y.valid = d.valid ∧ y.resv = d.resv ∧ y.tail = d.tail ∧ y.read = d.read ∧ y.head = d.head ∧
            y.redeliverEnd = none ∧ y.loading = true ∧ y.enqCnt = 0 ∧ y.deqCnt = 0 ∧
            t.arc.action = some (q, .load, decide (src = .host), some .ok)) ∧
        (x.occupancy = 0 → ∃ t, exec (.config src) s = .next t ∧ OtherQueues q s t ∧
          qGet t q = some { x with cfg := d.cfg, valid := d.valid, loading := true } ∧
          t.arc.action = some (q, .config, decide (src = .host), some .ok)) ∧
        (src = .host → ∃ t y, exec (.reinit src) s = .next t ∧ qGet t q = some y ∧ OtherQueues q s t ∧ y.cfg = d.cfg ∧
          y.valid = d.valid ∧ y.resv = 0 ∧ y.tail = 0 ∧ y.read = 0 ∧ y.head = 0 ∧ y.quarantined = false ∧ y.loading = true ∧
          t.arc.action = some (q, .reinit, true, some .ok)) ∧
        (src ≠ .host → ∃ t, exec (.reinit src) s = .next t ∧ OtherQueues q s t ∧
          t.arc.action = some (q, .reinit, false, some .refused)) ∧
        (∃ t, exec (.queueDisable src) s = .next t ∧ OtherQueues q s t ∧
          qGet t q = some { x with valid := false, loading := true } ∧
          (s.mem.wf = true → SameOutside (descAddr q + 8) 17 s t) ∧
          t.arc.action = some (q, .disable, decide (src = .host), some .ok)) ∧
        (x.cfg.cons = ownHost → ∃ t, exec (.rewind src) s = .next t ∧ OtherQueues q s t ∧
          qGet t q = some { x.rewind with loading := true } ∧ t.arc.action = some (q, .rewind, decide (src = .host), some .ok)) ∧
        (∃ t, exec (.clearStats src) s = .next t ∧ OtherQueues q s t ∧ qGet t q = some { x.clearStats with loading := true } ∧
          t.arc.action = some (q, .clearStats, decide (src = .host), some .ok)))) ∧
    (s.arc.action = none → exec .loadActionComplete s = .next s) ∧
    (∀ k act o x, s.arc.action = some (k, act, true, some o) → qGet s k = some x →
      ∃ t, exec .loadActionComplete s = .next t ∧ EverythingBut bellParts s t ∧ OtherQueues k s t ∧ t.arc.action = none ∧
        t.arc.reloadResult = o ∧ (x.quarantined = false → qGet t k = some (afterBellC { x with loading := false }))) ∧
    (∀ (k : Fin 16384) x, qGet s k.val = some x → x.quarantined = false → k.val ≠ noticeQid → qGet s noticeQid = none →
      ∃ t, exec (.quarantine k) s = .next t ∧ OtherQueues k.val s t ∧
        qGet t k.val = some { x with quarantined := true, discarded := satTo 16 (x.discarded + x.occupancy) } ∧
        t.arc.quarCount = satInc 16 s.arc.quarCount ∧ t.arc.noticeLost = true ∧
        (s.mem.wf = true → SameOutside (descAddr k.val + 8) 17 s t)) ∧
    (∀ (k : Fin 16384) x, qGet s k.val = some x → x.quarantined = true → exec (.quarantine k) s = .next s)

/-! ### The Signal Cores: compute slots (chapter 7) -/

/-- R157, R161 and R173: the 64-bit operations on D registers, with their flags, whatever local moves stand beside them. MOV and
MULI leave C and V open. -/
def Obligations.WordOperations : Prop :=
  ∀ (s : State) (c : Fin 8) (mv : Moves) (k : CoreState), CoreReady s c.val → LocalMoves s c.val 0 mv → k = core s c.val →
    ∀ (dd da db : Fin 16) (md : BitVec 8) (a b : Word) (n : Nat), a = rdD k da.val → b = rdD k db.val →
      n = (if md.getLsbD 7 then md.toNat % 64 else b.toNat % 64) →
      (∃ t, exec (.add c dd da db mv) s = .next t ∧ GivesD s c.val 0x18 mv dd.val (a + b)
        (some (flagsOf (a + b) (decide (2 ^ 64 ≤ a.toNat + b.toNat)) (outside64 (a.toInt + b.toInt)))) 0 k.cur.idx t) ∧
      (∃ t, exec (.sub c dd da db mv) s = .next t ∧ GivesD s c.val 0x19 mv dd.val (a - b)
        (some (flagsOf (a - b) (decide (a.toNat < b.toNat)) (outside64 (a.toInt - b.toInt)))) 0 k.cur.idx t) ∧
      (∃ t, exec (.scAnd c dd da db mv) s = .next t ∧
        GivesD s c.val 0x1A mv dd.val (a &&& b) (some (flagsOf (a &&& b) false false)) 0 k.cur.idx t) ∧
      (∃ t, exec (.scOr c dd da db mv) s = .next t ∧
        GivesD s c.val 0x1B mv dd.val (a ||| b) (some (flagsOf (a ||| b) false false)) 0 k.cur.idx t) ∧
      (∃ t, exec (.xor c dd da db mv) s = .next t ∧
        GivesD s c.val 0x1C mv dd.val (a ^^^ b) (some (flagsOf (a ^^^ b) false false)) 0 k.cur.idx t) ∧
      (∃ t, exec (.shl c dd da db md mv) s = .next t ∧
        GivesD s c.val 0x1D mv dd.val (a <<< n) (some (flagsOf (a <<< n) false false)) 0 k.cur.idx t) ∧
      (∃ t, exec (.shr c dd da db md mv) s = .next t ∧
        GivesD s c.val 0x1E mv dd.val (a >>> n) (some (flagsOf (a >>> n) false false)) 0 k.cur.idx t) ∧
      (∃ t, exec (.sar c dd da db md mv) s = .next t ∧
        GivesD s c.val 0x1F mv dd.val (a.sshiftRight n) (some (flagsOf (a.sshiftRight n) false false)) 0 k.cur.idx t) ∧
      (∃ t, exec (.cmp c da db mv) s = .next t ∧ GivesD s c.val 0x20 mv 0 (rdD k 0)
        (some (flagsOf (a - b) (decide (a.toNat < b.toNat)) (outside64 (a.toInt - b.toInt)))) 0 k.cur.idx t) ∧
      (∃ t carry ovf, exec (.mov c dd da mv) s = .next t ∧
        GivesD s c.val 0x21 mv dd.val a (some (flagsOf a carry ovf)) 0 k.cur.idx t) ∧
      (∃ t carry ovf, exec (.muli c dd da db mv) s = .next t ∧ GivesD s c.val 0x27 mv dd.val (BitVec.ofInt 64 (reOf a * reOf b))
        (some (flagsOf (BitVec.ofInt 64 (reOf a * reOf b)) carry ovf)) 0 k.cur.idx t) ∧
      (∃ t, exec (.nop c false mv) s = .next t ∧ GivesD s c.val 0 mv 0 (rdD k 0) none 0 k.cur.idx t)

/-- R166, R172 and R173: the operations on pairs of Q1.31 parts, the search steps, and the moves from an accumulator. Whether
NEG2, CONJ and ABS2 set SAT is left open. -/
def Obligations.PairOperations : Prop :=
  ∀ (s : State) (c : Fin 8) (mv : Moves) (k : CoreState), CoreReady s c.val → LocalMoves s c.val 0 mv → k = core s c.val →
    ∀ (dd da db : Fin 16) (an : Fin 4) (a b : Word) (x : Acc), a = rdD k da.val → b = rdD k db.val → x = rdAcc k an.val →
      (∃ t, exec (.adds2 c dd da db mv) s = .next t ∧ GivesD s c.val 0x22 mv dd.val
        (pairOf32 (sat31 (reOf a + reOf b)) (sat31 (imOf a + imOf b))) none
        (if over31 (reOf a + reOf b) || over31 (imOf a + imOf b) then 16 else 0) k.cur.idx t) ∧
      (∃ t, exec (.subs2 c dd da db mv) s = .next t ∧ GivesD s c.val 0x23 mv dd.val
        (pairOf32 (sat31 (reOf a - reOf b)) (sat31 (imOf a - imOf b))) none
        (if over31 (reOf a - reOf b) || over31 (imOf a - imOf b) then 16 else 0) k.cur.idx t) ∧
      (∃ t m, exec (.neg2 c dd da mv) s = .next t ∧ (over31 (-(reOf a)) = false → over31 (-(imOf a)) = false → m = 0) ∧
        GivesD s c.val 0x24 mv dd.val (pairOf32 (sat31 (-(reOf a))) (sat31 (-(imOf a)))) none m k.cur.idx t) ∧
      (∃ t m, exec (.conj c dd da mv) s = .next t ∧ (over31 (-(imOf a)) = false → m = 0) ∧
        GivesD s c.val 0x25 mv dd.val (pairOf32 (reOf a) (sat31 (-(imOf a)))) none m k.cur.idx t) ∧
      (∃ t, exec (.swap c dd da mv) s = .next t ∧
        GivesD s c.val 0x26 mv dd.val (pairOf32 (imOf a) (reOf a)) none 0 k.cur.idx t) ∧
      (∃ t m, exec (.abs2 c dd da mv) s = .next t ∧
        (over31 (reOf a).natAbs = false → over31 (imOf a).natAbs = false → m = 0) ∧
        GivesD s c.val 0x2A mv dd.val (pairOf32 (sat31 (reOf a).natAbs) (sat31 (imOf a).natAbs)) none m k.cur.idx t) ∧
      (∀ (abs : Bool) (v : Int), v = (if abs then sat31 (reOf a).natAbs else reOf a) →
        (∃ t, exec (.maxi c dd da abs mv) s = .next t ∧ GivesD s c.val 0x28 mv dd.val
          (if reOf (rdD k dd.val) < v then packWord [(0, ofSigned 32 v), (32, k.cur.idx.toNat)] else rdD k dd.val) none 0
          (k.cur.idx + 1) t) ∧
        (∃ t, exec (.mini c dd da abs mv) s = .next t ∧ GivesD s c.val 0x29 mv dd.val
          (if v < reOf (rdD k dd.val) then packWord [(0, ofSigned 32 v), (32, k.cur.idx.toNat)] else rdD k dd.val) none 0
          (k.cur.idx + 1) t)) ∧
      (∃ t, exec (.movd c dd an mv) s = .next t ∧ GivesD s c.val 0x10 mv dd.val
        (pairOf32 (sat31 (round31 (k.cur.st.getLsbD 8) x.re)) (sat31 (round31 (k.cur.st.getLsbD 8) x.im))) none
        (if over31 (round31 (k.cur.st.getLsbD 8) x.re) || over31 (round31 (k.cur.st.getLsbD 8) x.im) then 16 else 0) k.cur.idx t) ∧
      (∃ t, exec (.movdl c dd an mv) s = .next t ∧ GivesD s c.val 0x11 mv dd.val
        (BitVec.ofInt 64 (clampInt (-(2 ^ 63)) (2 ^ 63 - 1) x.re.toInt)) none (if outside64 x.re.toInt then 16 else 0) k.cur.idx t) ∧
      (∃ t, exec (.movdi c dd an mv) s = .next t ∧ GivesD s c.val 0x12 mv dd.val
        (BitVec.ofInt 64 (clampInt (-(2 ^ 63)) (2 ^ 63 - 1) x.im.toInt)) none (if outside64 x.im.toInt then 16 else 0) k.cur.idx t)

/-- R157, R161, R165, R171 and R173: the accumulator operations: exact products with one more fraction bit, 80-bit parts that wrap
with AOV set, and the value the next accumulator writer sees. -/
def Obligations.AccumulatorOperations : Prop :=
  ∀ (s : State) (c : Fin 8) (mv : Moves) (k : CoreState), CoreReady s c.val → LocalMoves s c.val 0 mv → k = core s c.val →
    ∀ (an am : Fin 4) (da db sb : Fin 16) (md : BitVec 8) (a b : Word) (x y : Acc) (n : Nat) (g : Nat → Int → Int → State → Prop),
      a = rdD k da.val → b = rdD k db.val → x = rdAccW k an.val → y = rdAccW k am.val →
      n = (if md.getLsbD 7 then md.toNat % 64 else (rdD k sb.val).toNat % 64) →
      g = (fun op re im t => GivesAcc s c.val op mv an.val (BitVec.ofInt 80 re) (BitVec.ofInt 80 im) (outside80 re || outside80 im) t) →
      (∃ t, exec (.cmac c an da db mv) s = .next t ∧ g 0x01 (x.re.toInt + 2 * (reOf a * reOf b - imOf a * imOf b))
        (x.im.toInt + 2 * (reOf a * imOf b + imOf a * reOf b)) t) ∧
      (∃ t, exec (.cmsu c an da db mv) s = .next t ∧ g 0x02 (x.re.toInt - 2 * (reOf a * reOf b - imOf a * imOf b))
        (x.im.toInt - 2 * (reOf a * imOf b + imOf a * reOf b)) t) ∧
      (∃ t, exec (.cmacj c an da db mv) s = .next t ∧ g 0x03 (x.re.toInt + 2 * (reOf a * reOf b + imOf a * imOf b))
        (x.im.toInt + 2 * (imOf a * reOf b - reOf a * imOf b)) t) ∧
      (∃ t, exec (.cmul c an da db mv) s = .next t ∧ g 0x04 (2 * (reOf a * reOf b - imOf a * imOf b))
        (2 * (reOf a * imOf b + imOf a * reOf b)) t) ∧
      (LocalMoves s c.val 0x05 mv → ∃ t, exec (.ftap c an da db mv) s = .next t ∧ g 0x05 (x.re.toInt + 2 * (reOf a * reOf b - imOf a * imOf b))
        (x.im.toInt + 2 * (reOf a * imOf b + imOf a * reOf b)) t) ∧
      (∃ t, exec (.rmac2 c an da db mv) s = .next t ∧ g 0x06 (x.re.toInt + 2 * (reOf a * reOf b)) (x.im.toInt + 2 * (imOf a * imOf b)) t) ∧
      (∃ t, exec (.rmsu2 c an da db mv) s = .next t ∧ g 0x07 (x.re.toInt - 2 * (reOf a * reOf b)) (x.im.toInt - 2 * (imOf a * imOf b)) t) ∧
      (∃ t, exec (.rmul2 c an da db mv) s = .next t ∧ g 0x08 (2 * (reOf a * reOf b)) (2 * (imOf a * imOf b)) t) ∧
      (LocalMoves s c.val 0x09 mv → ∃ t, exec (.ftapr c an da db mv) s = .next t ∧ g 0x09 (x.re.toInt + 2 * (reOf a * reOf b)) (x.im.toInt + 2 * (imOf a * imOf b)) t) ∧
      (∃ t, exec (.clra c an mv) s = .next t ∧ g 0x0A 0 0 t) ∧
      (∃ t, exec (.mova c an da mv) s = .next t ∧ g 0x0B (reOf a * 2 ^ 32) (imOf a * 2 ^ 32) t) ∧
      (∃ t, exec (.adda c an am mv) s = .next t ∧ g 0x0C (x.re.toInt + y.re.toInt) (x.im.toInt + y.im.toInt) t) ∧
      (∃ t, exec (.suba c an am mv) s = .next t ∧ g 0x0D (x.re.toInt - y.re.toInt) (x.im.toInt - y.im.toInt) t) ∧
      (∃ t, exec (.shra c an sb md mv) s = .next t ∧ GivesAcc s c.val 0x0E mv an.val (x.re.sshiftRight n) (x.im.sshiftRight n) false t) ∧
      (∃ t, exec (.shla c an sb md mv) s = .next t ∧ GivesAcc s c.val 0x0F mv an.val (x.re <<< n) (x.im <<< n) false t)

/-! ### The Signal Cores: moves, control and boundaries (chapters 7 and 8) -/

/-- R161, R162, R164 and R166: loads and stores of a core's own memories: where they go, what is loaded or stored, and where they leave
their pointer; and the delay-line move of FTAP and FTAPR (R171). -/
def Obligations.LocalLoadsAndStores : Prop :=
  ∀ (s : State) (c : Fin 8) (m : MoveSlot) (k : CoreState), CoreReady s c.val → s.mem.wf = true → k = core s c.val → m.mode ≠ 7 →
    (∀ (y : Bool) (a : Nat), LocalMoves s c.val 0 (loadMoves y 1 m) → a = localAddr c.val (slotAddr k false (moveOf 1 m)).toNat →
      ∃ t, exec (.ld c y m) s = .next t ∧ GivesD s c.val 0 (loadMoves y 1 m) 0 (rdD k 0) none 0 k.cur.idx t ∧ t.mem = s.mem ∧
        rdP (core t c.val) m.ptr.val = pointerAfter k 8 m ∧ (core t c.val).pend = [⟨1, .d m.reg.val (s.mem.readW a)⟩]) ∧
    (∀ (y : Bool) (a : Nat), LocalMoves s c.val 0 (loadMoves y 2 m) → a = localAddr c.val (slotAddr k false (moveOf 2 m)).toNat →
      ∃ t, exec (.ldh c y m) s = .next t ∧ GivesD s c.val 0 (loadMoves y 2 m) 0 (rdD k 0) none 0 k.cur.idx t ∧ t.mem = s.mem ∧
        rdP (core t c.val) m.ptr.val = pointerAfter k 4 m ∧ (core t c.val).pend = [⟨1, .d m.reg.val
          (BitVec.ofNat 64 ((s.mem.readW (a / 8 * 8)).toNat / 2 ^ (8 * (a % 8)) % 2 ^ 32))⟩]) ∧
    (∀ (i : Instr) (kind : Fin 4) (v : Word) (a : Nat) (x : Acc), x = rdAcc k (m.reg.val % 4) →
      (i = .st c m ∧ kind = 1 ∧ v = rdD k m.reg.val ∨
       i = .sta c m ∧ kind = 2 ∧ v = pairOf32 (sat31 (round31 (k.cur.st.getLsbD 8) x.re)) (sat31 (round31 (k.cur.st.getLsbD 8) x.im)) ∨
       i = .stl c m ∧ kind = 3 ∧ v = BitVec.ofInt 64 (clampInt (-(2 ^ 63)) (2 ^ 63 - 1) x.re.toInt)) →
      LocalMoves s c.val 0 (storeMoves kind m) → a = localAddr c.val (slotAddr k true (moveOf kind m)).toNat →
      ∃ t, exec i s = .next t ∧ GivesD s c.val 0 (storeMoves kind m) 0 (rdD k 0) none 0 k.cur.idx t ∧
        t.mem.readW a = v ∧ SameOutside a 8 s t ∧ rdP (core t c.val) m.ptr.val = pointerAfter k 8 m ∧ (core t c.val).pend = []) ∧
    (∀ (op : Nat) (an : Fin 4) (da db : Fin 16) (a b : Nat) (i : Instr) (p : BitVec 41),
      (i = .ftap c an da db (loadMoves false 1 m) ∧ op = 5 ∨ i = .ftapr c an da db (loadMoves false 1 m) ∧ op = 9) →
      LocalMoves s c.val op (loadMoves false 1 m) → p = slotAddr k false (moveOf 1 m) → a = localAddr c.val p.toNat →
      b = localAddr c.val (ptrAdd p (rdB k m.ptr.val) (rdL k m.ptr.val) 8).toNat →
      ∃ t, exec i s = .next t ∧ t.mem.readW b = s.mem.readW a ∧ SameOutside b 8 s t ∧
        (core t c.val).pend = [⟨1, .d m.reg.val (s.mem.readW a)⟩, ⟨0, .acc an.val (rdAccW (core t c.val) an.val)⟩])

/-- R168, R170, R174, R177, R185, R197 and R198: what each control bundle leaves of its core; nothing else changes. A branch holds its
target for the two bundles after it, and a written LR or special register is visible to the second bundle after (R161). -/
def Obligations.ControlBundles : Prop :=
  ∀ (s : State) (c : Fin 8) (k : CoreState) (next : Nat), CoreReady s c.val → k = core s c.val → next = (k.pc + 1) % 2 ^ 14 →
    (∀ mv, exec (.nop c true mv) s = .next (modCore c.val (fun k => { k.spent 1 with pc := next }) s)) ∧
    (∀ (cond : Fin 16) (ofs : BitVec 24) (dd : Fin 16) (holds z n v sat : Bool), cond.val ≤ 9 →
      z = k.cur.st.getLsbD 0 → n = k.cur.st.getLsbD 1 → v = k.cur.st.getLsbD 3 → sat = k.cur.st.getLsbD 4 →
      holds = [true, z, !z, n, !n, !z && n == v, z || n != v, v, !v, sat].getD cond.val false →
      exec (.br c cond ofs) s = .next (modCore c.val (fun k => { k.spent 1 with
        pc := next, br := ⟨2, holds, (((k.pc : Int) + ofs.toInt) % 2 ^ 14).toNat, .jump, k.pc⟩ }) s) ∧
      exec (.brd c cond dd) s = .next (modCore c.val (fun k => { k.spent 1 with
        pc := next, br := ⟨2, holds, (rdD k dd.val).toNat % 2 ^ 14, .jump, k.pc⟩ }) s)) ∧
    (∀ ofs : BitVec 24, exec (.call c ofs) s = .next (modCore c.val (fun k => { k.spent 1 with
      pc := next, br := ⟨2, true, (((k.pc : Int) + ofs.toInt) % 2 ^ 14).toNat, .jump, k.pc⟩
      pend := [⟨0, .sreg 0x2B (BitVec.ofNat 64 ((k.pc + 3) % 2 ^ 14))⟩] }) s)) ∧
    exec (.ret c) s = .next (modCore c.val (fun k => { k.spent 1 with
      pc := next, br := ⟨2, true, k.cur.lr.toNat, .jump, k.pc⟩ }) s) ∧
    exec (.reti c) s = .next (modCore c.val (fun k => { k.spent 1 with pc := next, br := ⟨2, true, 0, .reti, k.pc⟩ }) s) ∧
    (k.bank = true → exec (.rets c) s = .next (modCore c.val (fun k => { k.spent 1 with
      pc := next, br := ⟨2, true, 0, .rets, k.pc⟩ }) s)) ∧
    (∀ (yld reg : Bool) (count : BitVec 24) (lenM1 : BitVec 16) (cnt len : Nat), len = lenM1.toNat + 1 →
      cnt = (if reg then (rdD k (count.toNat % 16)).toNat % 2 ^ 24 else count.toNat) →
      exec (.rep c yld reg count lenM1) s = .next (modCore c.val (fun k =>
        if reg = true ∧ cnt = 0 then { k.spent 1 with pc := (k.pc + 1 + len) % 2 ^ 14 }
        else { k.spent 1 with
          pc := next
          lc := if len ≤ 16 then some { start := next, len := len, filling := true, body := [] } else none
          captures := if len ≤ 16 then (k.captures + 1) % 2 ^ 32 else k.captures }.modCur
            (fun b => { b with rep := [{ count := cnt, start := next, stop := (k.pc + len) % 2 ^ 14, yield := yld }] })) s)) ∧
    (∀ (dd : Fin 16) (part : Fin 4) (imm : BitVec 32) (old v : Word), old = rdD k dd.val →
      (part = 0 → v = BitVec.ofNat 64 (imm.toNat + old.toNat / 2 ^ 32 * 2 ^ 32)) →
      (part = 1 → v = BitVec.ofNat 64 (old.toNat % 2 ^ 32 + imm.toNat * 2 ^ 32)) → (part = 2 → v = imm.signExtend 64) →
      (part = 3 → v = BitVec.ofNat 64 (imm.toNat + imm.toNat * 2 ^ 32)) →
      exec (.ldi c dd part imm) s = .next (modCore c.val (fun k => { wrD dd.val v (k.spent 1) with pc := next }) s)) ∧
    (∀ (dd : Fin 16) (code : Fin 64) (v : Word), sregRead k k.cur k.pc code.val = some v →
      exec (.movar c true dd code) s = .next (modCore c.val (fun k => { wrD dd.val v (k.spent 1) with pc := next }) s)) ∧
    (∀ (dd : Fin 16) (code : Fin 64), sregWritable code.val = true →
      exec (.movar c false dd code) s = .next (modCore c.val (fun k => { k.spent 1 with
        pc := next, pend := [⟨0, .sreg code.val (rdD k dd.val)⟩] }) s)) ∧
    exec (.wait c) s = .next (modCore c.val (fun k => { k.spent 1 with
      pc := next, run := if k.ipend &&& k.imask = 0 then .waiting else .running }) s) ∧
    exec (.halt c) s = .next (modCore c.val (fun k => { k.spent 1 with pc := next, run := .halted }) s) ∧
    exec (.sync c) s = .next (modCore c.val (fun k => { k.spent 1 with pc := next }) s) ∧
    ∀ z : State, (∃ lc, z = modCore c.val (fun k => { k with lc := lc }) s) →
      exec (.icinv c) z = .next (modCore c.val (fun k => { k.spent 1 with pc := next, lc := none }) z)

/-- R161, R185, R192 and R193: what the bundles after a branch, a load or a MOVAR do: the two delay slots and the target, RETI's
restoring of the frame, RETS's return to the main bank, and results becoming visible. -/
def Obligations.DelaySlotsAndReturns : Prop :=
  ∀ (s : State) (c : Fin 8) (k : CoreState) (next : Nat) (mv : Moves), k = core s c.val → next = (k.pc + 1) % 2 ^ 14 →
    (∀ br : Branch, CoreReadyAt s c.val br [] → br.slots = 2 → exec (.nop c true mv) s =
      .next (modCore c.val (fun k => { k.spent 1 with pc := next, br := { br with slots := 1 } }) s)) ∧
    (∀ br : Branch, CoreReadyAt s c.val br [] → br.slots = 1 → br.taken = false ∨ br.kind = .jump → exec (.nop c true mv) s =
      .next (modCore c.val (fun k => { k.spent 1 with pc := if br.taken then br.target else next, br := Branch.none }) s)) ∧
    (∀ (br : Branch) (w : Nat → Word), CoreReadyAt s c.val br [] → br.slots = 1 → br.taken = true → br.kind = .reti →
      k.sp % 16 = 0 → k.spLo ≤ k.sp → k.sp + 96 ≤ k.spHi → k.sp + 96 ≤ 0x40000 →
      (∀ i, w i = s.mem.readW (localAddr c.val (k.sp + 8 * i))) →
      ∃ t k', exec (.nop c true mv) s = .next t ∧ EverythingBut [.cores, .coresRest] s t ∧ (∀ m, m ≠ c.val → core t m = core s m) ∧
        k' = core t c.val ∧ k'.pc = bits (w 0) 13 0 ∧ k'.bank = bit (w 0) 14 ∧ k'.iprio = bits (w 0) 50 48 ∧ k'.sp = k.sp + 96 ∧
        k'.cur.lr.toNat = bits (w 0) 29 16 ∧ k'.cur.st = w 1 &&& 0x13F ∧ k'.cur.idx.toNat = bits (w 6) 63 32 ∧
        k'.cur.rep.length = min 4 (bits (w 0) 54 52) ∧ (∀ i l, k'.cur.rep.reverse[i]? = some l →
          l.count = bits (w (2 + i)) 23 0 ∧ l.start = bits (w (2 + i)) 37 24 ∧ l.stop = bits (w (2 + i)) 51 38 ∧
          l.yield = bit (w (2 + i)) 52) ∧
        (bits (w 0) 47 46 = 0 → k'.br = Branch.none) ∧
        (bits (w 0) 47 46 ≠ 0 → k'.br = ⟨bits (w 0) 47 46, true, bits (w 0) 45 32, .jump, 0⟩) ∧
        ((∀ j, j < 4 → bit (w 6) (8 * j + 7) = false) → k'.pend = [])) ∧
    (∀ br : Branch, CoreReadyAt s c.val br [] → br.slots = 1 → br.taken = true → br.kind = .rets → k.bank = true →
      ∃ t k', exec (.nop c true mv) s = .next t ∧ EverythingBut [.cores, .coresRest] s t ∧ (∀ m, m ≠ c.val → core t m = core s m) ∧
        k' = core t c.val ∧ k'.bank = false ∧ k'.pc = k.spc ∧ k'.br = k.heldBr ∧ k'.pend = k.heldPend ∧ k'.d = k.d ∧
        k'.a = k.a ∧ k'.p = k.p ∧ k'.sp = k.sp ∧ k'.ipend = k.ipend ∧ k'.cycles = (k.cycles + 2) % 2 ^ 64 ∧
        (∃ w, k'.main = { k.main with a3w := w }) ∧ ∃ w, k'.shadow = { k.shadow with a3w := w }) ∧
    (∀ (r : Result), CoreReadyAt s c.val Branch.none [⟨1, r⟩] →
      exec (.nop c true mv) s = .next (modCore c.val (fun k => { k.spent 1 with pc := next, pend := [⟨0, r⟩] }) s)) ∧
    (∀ (i : Fin 16) (v : Word), CoreReadyAt s c.val Branch.none [⟨0, .d i.val v⟩] →
      exec (.nop c true mv) s = .next (modCore c.val (fun k => { wrD i.val v (k.spent 1) with pc := next, pend := [] }) s)) ∧
    (∀ (i : Nat) (v : Word), 0x28 ≤ i → CoreReadyAt s c.val Branch.none [⟨0, .sreg i v⟩] → ∃ t,
      exec (.nop c true mv) s = .next t ∧ (core t c.val).pc = next ∧ (core t c.val).pend = [] ∧
      (i = 0x28 → (core t c.val).sp = v.toNat % 2 ^ 19) ∧ (i = 0x2B → (core t c.val).cur.lr.toNat = v.toNat % 2 ^ 14) ∧
      (i = 0x2D → (core t c.val).vbase = bits v 13 9 * 512) ∧ (i = 0x2E → (core t c.val).ie = v.toNat % 4) ∧
      (i = 0x30 → (core t c.val).imask = v) ∧ (i = 0x31 → (core t c.val).ipend = k.ipend ||| v) ∧
      (i = 0x32 → (core t c.val).ipend = k.ipend &&& ~~~v))

/-- R189, R190, R191, R196 and R203: taking an exception: the frame it pushes and the vector it enters; the shadow bank where the push
fails; and the double fault where the shadow bank is in use. -/
def Obligations.ExceptionEntries : Prop :=
  ∀ (s : State) (c : Fin 8) (k : CoreState), CoreReady s c.val → s.mem.wf = true → k = core s c.val →
    (PushOk k →
      (∀ num : BitVec 8, ∃ t, exec (.trap c num) s = .next t ∧
        FrameEntry s t c.val 6 ((k.pc + 1) % 2 ^ 14) 9 (num.setWidth 64)) ∧
      (∀ (cond dd : Fin 16) (ofs : BitVec 24) (i : Instr), 9 < cond.val → i = .br c cond ofs ∨ i = .brd c cond dd →
        ∃ t, exec i s = .next t ∧ FrameEntry s t c.val 1 k.pc 8 0) ∧
      (k.bank = false → ∃ t, exec (.rets c) s = .next t ∧ FrameEntry s t c.val 1 k.pc 8 0) ∧
      (∀ (dd : Fin 16) (code : Fin 64), sregWritable code.val = false →
        ∃ t, exec (.movar c false dd code) s = .next t ∧ FrameEntry s t c.val 1 k.pc 8 0) ∧
      (∀ (m : MoveSlot) (a : BitVec 41), m.mode ≠ 7 → a = slotAddr k false (moveOf 1 m) →
        (a.toNat % 8 ≠ 0 → ∃ t, exec (.ld c false m) s = .next t ∧ FrameEntry s t c.val 2 k.pc 8 (a.setWidth 64)) ∧
        (a.toNat % 8 = 0 → 0xA0000 ≤ a.toNat → a.toNat < 2 ^ 40 →
          ∃ t, exec (.ld c false m) s = .next t ∧ FrameEntry s t c.val 3 k.pc 8 (a.setWidth 64)))) ∧
    (∀ (cond : Fin 16) (ofs : BitVec 24) (cause : Nat), 9 < cond.val →
      (k.sp % 16 ≠ 0 ∧ cause = 1 ∨ k.sp % 16 = 0 ∧ k.sp < k.spLo + 96 ∧ cause = 2 ∨
        k.sp % 16 = 0 ∧ k.spLo + 96 ≤ k.sp ∧ k.spHi < k.sp ∧ cause = 3 ∨
        k.sp % 16 = 0 ∧ k.spLo + 96 ≤ k.sp ∧ k.sp ≤ k.spHi ∧ 0x40000 < k.sp ∧ cause = 4) →
      ∃ t k', exec (.br c cond ofs) s = .next t ∧ (∀ m, m ≠ c.val → core t m = core s m) ∧ t.mem = s.mem ∧ k' = core t c.val ∧
        k'.sp = k.sp ∧ k'.d = k.d ∧
        (k.bank = false → EverythingBut [.cores, .coresRest] s t ∧ k'.bank = true ∧ k'.spc = k.pc ∧ k'.fcause = cause ∧
          rdD k' 15 = BitVec.ofNat 64 k.sp ∧ rdD k' 14 = 1 ∧ k'.pc = (k.vbase + 28) % 2 ^ 14 ∧
          k'.cycles = (k.cycles + 2) % 2 ^ 64 ∧ ∃ w, k'.main = { k.main with a3w := w }) ∧
        (k.bank = true → EverythingBut [.cores, .coresRest, .host, .hostRest] s t ∧ t.host.attnCause.testBit attnCore = true ∧
          k'.run = .doubleFault ∧ vget k'.faultRec 0 0 =
            BitVec.ofNat 64 (k.pc % 2 ^ 14 + k.sp * 2 ^ 24 + cause * 2 ^ 44 + k.shadowVec * 2 ^ 48 + 2 ^ 56) ∧
          vget k'.faultRec 1 0 = BitVec.ofNat 64 s.time.centre ∧
          vget k'.faultRec 2 0 = BitVec.ofNat 64 (k.spLo + k.spHi * 2 ^ 32) ∧
          vget k'.faultRec 3 0 = BitVec.ofNat 64 (k.spc % 2 ^ 14)))

/-- R175, R187, R188, R189, R194, R195, R197 and R201: the events of a boundary: the entry of the channel that is chosen, hold-off
that reaches its limit, the end of WAIT, a breakpoint, and the ends of posted stores. -/
def Obligations.BoundaryEvents : Prop :=
  ∀ (s : State) (c : Fin 8) (k : CoreState), k = core s c.val →
    (∀ ch, coreIssues s c.val = true → k.aborts = [] → k.bank = false → k.br.slots = 0 → Chosen k true ch →
      exec (.fastInterruptEntry c) s = .next (modCore c.val (fun k => { k with
        bank := true, spc := k.pc, fcause := 0, shadowVec := 16 + ch, pc := (k.vbase + 4 * (16 + ch)) % 2 ^ 14
        ipend := k.ipend &&& ~~~(BitVec.ofNat 64 (2 ^ ch)), heldPend := k.pend, heldBr := k.br, pend := [], br := Branch.none
        aw := k.a, main := { k.main with a3w := k.main.a3 }, shadow := { k.shadow with rep := [], a3w := k.shadow.a3 }
        skipBkpt := false, cycles := (k.cycles + 1) % 2 ^ 64 }) s)) ∧
    (∀ ch, coreIssues s c.val = true → k.aborts = [] → k.bank = false → k.br = Branch.none → k.cur.rep = [] → k.pend = [] →
      s.mem.wf = true → PushOk k → (∀ d, d < 64 → takeable k d = true → chanFast k d = false) → Chosen k false ch →
      ∃ t, exec (.heldInterruptEntry c) s = .next t ∧ FrameEntry s t c.val (16 + ch) k.pc 8 0 ∧
        (core t c.val).iprio = chanPrio k ch ∧ (core t c.val).ipend = k.ipend &&& ~~~(BitVec.ofNat 64 (2 ^ ch))) ∧
    (k.bank = true ∨ k.br.slots ≠ 0 → exec (.heldInterruptEntry c) s = .next s ∧ exec (.fastInterruptEntry c) s = .next s) ∧
    (∀ ch lim, Chosen k false ch → lim = bits k.holdLimit 23 0 → lim ≠ 0 → k.holdDone = false →
      k.br.slots ≠ 0 ∨ k.bank = true ∨ (∃ r l, k.cur.rep = r :: l ∧ (r.yield = false ∨ r.start ≠ k.pc)) →
      exec (.holdOverrun c) s = .next (modCore c.val (fun k => { k with
        overrun := true, lastChan := ch, overrunCnt := min 65535 (k.overrunCnt + 1), holdOverrun := true, holdDone := true
        holdCnt := max k.holdCnt lim, maxWait := max k.maxWait lim }) s)) ∧
    (k.run = .waiting → islRuns s (islSC c.val) = true → k.ipend &&& k.imask ≠ 0 → k.ie = 0 →
      exec (.waitWake c) s = .next (modCore c.val (fun k => { k with run := .running }) s)) ∧
    (∀ i, i < 2 → coreIssues s c.val = true → k.skipBkpt = false → bit (vget k.bkpt i 0) 63 = true →
      bits (vget k.bkpt i 0) 13 0 = k.pc → exec (.breakpointMatch c) s =
        .next (modCore c.val (fun k => { k with run := .debugHalted, dbgWait := false, halting := false }) s)) ∧
    (∀ a z w l, k.posted = (a, z, w) :: l → exec (.busAbort c) s =
      .next (modCore c.val (fun k => { k with posted := l, aborts := k.aborts ++ [a] }) s)) ∧
    (∀ a w, k.stall = none → k.posted = [(a, 8, w)] → a % 8 = 0 → sramBase ≤ a → a < sramBase + 0x520000 → lockedAt s a = false →
      s.mem.wf = true → (∀ m, m < 8 → (core s m).stepReq = false) →
      ∃ t, exec (.coreFabricRetry c) s = .next t ∧ EverythingBut [.cores, .coresRest, .mem, .ecc] s t ∧ t.mem.readW a = w ∧
        SameOutside a 8 s t ∧ core t c.val = { k with posted := [] } ∧ ∀ m, m ≠ c.val → core t m = core s m)

/-- R81, R186, R198, R201, R203 and R204: the commands of a core's block: a channel raised, the watchdog served, halt, run, step and
restart with their results, and a register read or written while the core is halted. SC_0 and SC_1 drop them. -/
def Obligations.CoreBlockCommands : Prop :=
  ∀ (s : State) (c : Fin 8) (k : CoreState), k = core s c.val →
    (isl s (islSC c.val)).st ∈ [.on, .gated, .duty] → (∀ m, m < 8 → (core s m).stepReq = false) →
    (∀ w : Word, exec (.scIrqRaise c w) s = .next { modCore c.val (fun k => { k with ipend := k.ipend ||| w }) s with reply := ⟨.ok, 0⟩ }) ∧
    (∀ w : Word, bits w 63 56 = 0xA9 → exec (.scWdogService c w) s =
      .next { modIsl (modCore c.val (fun k => { k with wdogUs := bits w 31 0 }) s) (islSC c.val) (fun x => { x with wdog := 0 }) with
        reply := ⟨.ok, 0⟩ }) ∧
    (∀ w : Word, bits w 63 56 ≠ 0xA9 → exec (.scWdogService c w) s = .next { s with reply := ⟨.ok, 0⟩ }) ∧
    (∀ (key : BitVec 8) (i : Instr), key ≠ 0x5C →
      i ∈ [.scCtlHalt c key, .scCtlRun c key, .scCtlStep c key, .scCtlRestart c key] → ∃ t, exec i s = .next t ∧
        EverythingBut [.cores, .coresRest, .reply] s t ∧ core t c.val = { k with
          ctlResult := .refused, writeDrop := (core t c.val).writeDrop }) ∧
    (c.val < 2 → ∀ i, i ∈ [.scCtlHalt c 0x5C, .scCtlRun c 0x5C, .scCtlStep c 0x5C] → exec i s = .next { modCore c.val (fun k => { k with
      ctlResult := .refused, writeDrop := min 65535 (k.writeDrop + 1) }) s with reply := ⟨.ok, 0⟩ }) ∧
    (2 ≤ c.val → k.stall = none → k.run = .running ∨ k.run = .waiting → exec (.scCtlHalt c 0x5C) s = .next { modCore c.val (fun k => { k with
      run := .debugHalted, dbgWait := decide (k.run = .waiting), halting := false, ctlResult := .ok }) s with reply := ⟨.ok, 0⟩ }) ∧
    (2 ≤ c.val → k.run = .halted → exec (.scCtlRun c 0x5C) s =
      .next { modCore c.val (fun k => { k with run := .running, ctlResult := .ok }) s with reply := ⟨.ok, 0⟩ }) ∧
    (2 ≤ c.val → k.run = .debugHalted → exec (.scCtlRun c 0x5C) s = .next { modCore c.val (fun k => { k with
      run := if k.dbgWait then .waiting else .running, dbgWait := false, skipBkpt := true, ctlResult := .ok }) s with reply := ⟨.ok, 0⟩ }) ∧
    (k.run ≠ .reset → 2 ≤ c.val ∨ k.run = .doubleFault → ∃ t, exec (.scCtlRestart c 0x5C) s = .next t ∧
      EverythingBut [.cores, .coresRest, .reply] s t ∧ (∀ m, m ≠ c.val → core t m = core s m) ∧ core t c.val = { CoreState.init with
        run := .running, fabWaitMax := k.fabWaitMax, eccCorr := k.eccCorr, writeDrop := k.writeDrop, irqClass := k.irqClass
        irqPrio := k.irqPrio, holdLimit := k.holdLimit, overrunCnt := k.overrunCnt, lastChan := k.lastChan, overrun := k.overrun
        maxWait := k.maxWait, faultRec := k.faultRec, bkpt := k.bkpt, dbgSel := k.dbgSel, wdogUs := k.wdogUs, freeIdx := k.freeIdx }) ∧
    (2 ≤ c.val → k.run = .debugHalted → k.dbgWait = false → islRuns s (islSC c.val) = true →
      CoreReady (modCore c.val (fun k => { k with run := .running, skipBkpt := true }) s) c.val →
      s.mem.readW (localAddr c.val (0x80000 + 8 * k.pc)) = 0x8000000000000000 →
      localAddr c.val (0x80000 + 8 * k.pc) ∉ s.ecc → ∃ t, exec (.scCtlStep c 0x5C) s = .next t ∧
        EverythingBut [.cores, .coresRest, .reply] s t ∧ core t c.val = { k.spent 1 with
          pc := (k.pc + 1) % 2 ^ 14, run := .debugHalted, ctlResult := .ok }) ∧
    (∀ w : Word, c.val < 2 → exec (.scDbgDataAccess c (some w)) s = .next { modCore c.val (fun k => { k with
      writeDrop := min 65535 (k.writeDrop + 1) }) s with reply := ⟨.ok, 0⟩ }) ∧
    (k.run ≠ .debugHalted → exec (.scDbgDataAccess c none) s = .next { s with reply := ⟨.ok, 0⟩ } ∧ ∀ w, 2 ≤ c.val →
      exec (.scDbgDataAccess c (some w)) s = .next { s with reply := ⟨.ok, 0⟩ }) ∧
    (∀ i, i < 12 → k.run = .debugHalted → bits k.dbgSel 7 0 = 0x40 + i →
      exec (.scDbgDataAccess c none) s = .next { s with reply := ⟨.ok, vget k.d i 0⟩ } ∧ ∀ w, 2 ≤ c.val →
      exec (.scDbgDataAccess c (some w)) s = .next { modCore c.val (fun k => { k with d := vput k.d i w }) s with reply := ⟨.ok, 0⟩ })

/-! ### Electricity metering (chapter 9) -/

/-- R207, R208 and R226: a 10 ms block is decimated and counted while NIGHT is On, and waits for its owning cores, four blocks at most; a
retry hands over what waits; an input becomes stuck and ends being so. -/
def Obligations.BlocksDecimatedAndDelivered : Prop :=
  ∀ (s : State),
    ((isl s islNIGHT).st ≠ .on → ∀ (e : Nat) (bits : List (List Bool)) (ecc : Bool) (i : Fin 160),
      exec (.blockDelivery e bits ecc) s = .next s ∧ exec .blockDeliveryRetry s = .next s ∧
      exec (.inputStuck i) s = .next s ∧ exec (.stuckInputEnd i) s = .next s) ∧
    ((isl s islNIGHT).st = .on →
      (∀ (e : Nat) (bits : List (List Bool)) (ecc : Bool), ∃ t, exec (.blockDelivery e bits ecc) s = .next t ∧
        EverythingBut [.meter, .log, .mem, .host] s t ∧ t.meter.blocks = (s.meter.blocks + 1) % 2 ^ 32 ∧
        t.meter.sat = (decimate s e bits).2.meter.sat ∧ t.meter.stuck = s.meter.stuck ∧
        (s.meter.running = false → t.meter.wait = s.meter.wait ∧ SameBytes s t) ∧
        (s.meter.running = true → pointsUsed s.mem ≠ [] → s.meter.refLoss = none → ecc = false → allOnZero s = false →
          (∀ c, c < 2 → coreTakes s c = false) → ∀ c, c < 2 → vget t.meter.wait c [] =
            (vget s.meter.wait c []).drop (if (vget s.meter.wait c []).length < 4 then 0 else 1) ++ [(decimate s e bits).1])) ∧
      (∃ t, exec .blockDeliveryRetry s = .next t ∧ EverythingBut [.meter, .log, .mem, .host] s t ∧
        t.meter.blocks = s.meter.blocks ∧ t.meter.dropped = s.meter.dropped ∧ (allOnZero s = false → ∀ c, c < 2 →
          (coreTakes s c = true → vget t.meter.wait c [] = []) ∧
          (coreTakes s c = false → vget t.meter.wait c [] = vget s.meter.wait c []))) ∧
      (∀ i : Fin 160, s.meter.stuck.testBit i.val = false → ∃ t, exec (.inputStuck i) s = .next t ∧
        EverythingBut [.meter, .log, .mem, .host] s t ∧ t.meter.stuck = s.meter.stuck + 2 ^ i.val ∧
        t.meter.event.testBit 2 = true ∧ t.log.seq = s.log.seq + 1 ∧ t.meter.wait = s.meter.wait ∧
        (s.meter.event.testBit 2 = false → s.meter.eventEn.testBit 2 = true → t.host.attnCause.testBit attnMeter = true)) ∧
      (∀ i : Fin 160, s.meter.stuck.testBit i.val = true → ∃ t, exec (.stuckInputEnd i) s = .next t ∧
        EverythingBut [.meter, .log, .mem] s t ∧ t.meter = { s.meter with stuck := s.meter.stuck - 2 ^ i.val } ∧
        t.log.seq = s.log.seq + 1))

/-- R217, R221, R222, R472 and R483: the quick view, and a harmonic analysis from its start to its result. -/
def Obligations.QuickViewAndHarmonics : Prop :=
  ∀ (s : State),
    (HostOpen s → ∀ w : Word,
      (nightDown s = true → exec (.mqSelWrite w) s = .next { s with host := { s.host with status := .busy } } ∧
        exec (.harmonicsStart w) s = .next { s with host := { s.host with status := .busy } }) ∧
      (nightDown s = false → ∀ p, p = bits w 6 0 →
        (∃ t, exec (.mqSelWrite w) s = .next t ∧ EverythingBut [.meter, .host, .hostRest] s t ∧ t.host.status = .ok ∧
          t.meter = { s.meter with sel := p, hold := bit w 8, quick := t.meter.quick } ∧
          t.meter.quick.seq = (pointSt s p).count ∧ t.meter.quick.flags = ptN s p 12 4 % 128 ∧
          t.meter.quick.time = (pointSt s p).secEnd ∧
          ∀ i, i < 7 → vget t.meter.quick.e i 0 = (pointSt s p).secE.getD i 0) ∧
        (∀ v, v = vset s (servingCore s p) (ptCfg s.mem p).vset →
          (s.meter.harm.isSome = true ∨ (ptCfg s.mem p).used = false ∨ v.finv = true ∨ v.vloss = true ∨ allOnZero s = true →
            ∃ t, exec (.harmonicsStart w) s = .next t ∧ EverythingBut [.meter, .host, .hostRest] s t ∧ t.host.status = .refused ∧
              t.meter = { s.meter with harmResult := if s.meter.harm.isSome then s.meter.harmResult else .refused }) ∧
          (s.meter.harm = none → (ptCfg s.mem p).used = true → v.finv = false → v.vloss = false → allOnZero s = false →
            ∃ t h, exec (.harmonicsStart w) s = .next t ∧ EverythingBut [.meter, .host, .hostRest] s t ∧ t.host.status = .ok ∧
              t.meter = { s.meter with harm := some h, harmPoint := p, harmResult := .busy, cores := t.meter.cores } ∧
              h.point = p)))) ∧
    (s.meter.hold = true ∨ nightDown s = true → exec .quickViewUpdate s = .next s) ∧
    (s.meter.hold = false → nightDown s = false → ∃ t, exec .quickViewUpdate s = .next t ∧ EverythingBut [.meter] s t ∧
      t.meter = { s.meter with quick := t.meter.quick } ∧ t.meter.quick.seq = (pointSt s s.meter.sel).count ∧
      t.meter.quick.flags = ptN s s.meter.sel 12 4 % 128 ∧ t.meter.quick.time = (pointSt s s.meter.sel).secEnd ∧
      ∀ i, i < 7 → vget t.meter.quick.e i 0 = (pointSt s s.meter.sel).secE.getD i 0) ∧
    (s.meter.harm = none → exec .harmonicsDone s = .next s) ∧
    (∀ (h : HarmRun) (l : List Rat), s.meter.harm = some h → s.mem.wf = true → h.point < 128 →
      l = (vset s (servingCore s h.point) (ptCfg s.mem h.point).vset).marks.filter (fun z => decide ((h.since : Rat) < z)) →
      (l.length ≤ harmK s h.point → exec .harmonicsDone s = .next s) ∧
      (harmK s h.point < l.length → ∃ t, exec .harmonicsDone s = .next t ∧ EverythingBut [.meter, .mem, .host] s t ∧
        t.meter.harm = none ∧ t.meter.harmResult = .ok ∧ t.meter.event.testBit 6 = true ∧
        t.mem.readN (harmBase + 8) 4 = (s.mem.readN (harmBase + 8) 4 + 2) % 2 ^ 32 ∧
        t.mem.readN (harmBase + 12) 1 = h.point ∧ t.mem.readN (harmBase + 13) 1 = harmK s h.point ∧
        SameOutside harmBase 3200 s t))

/-! ### Water, heat and tenant ledgers (chapter 10) -/

/-- R233, R234, R240 and R242: a pulse edge and a frequency gate, and what each second and each scan does to a channel and to a heat
calculator. -/
def Obligations.PulsesSensorsAndHeat : Prop :=
  ∀ (s : State),
    ((isl s islNIGHT).st ≠ .on → ∀ (k : Fin 64) (b : Bool) (t : Nat), exec (.pulseEdge k b t) s = .next s ∧
      exec (.pulseFreqGate k) s = .next s ∧ exec .pulseSecondCredit s = .next s ∧ exec .heatSecond s = .next s) ∧
    ((isl s islNIGHT).st = .on →
      (∀ (k : Fin 64) (b : Bool) (t : Nat), pulseIsB s k.val = false →
        (pulseMode s k.val = 1 → exec (.pulseEdge k b t) s =
          .next (modPulse k.val (fun c => { c with fwd := (c.fwd + 1) % 2 ^ 32 }) s)) ∧
        (pulseMode s k.val = 2 → k.val % 2 = 0 → exec (.pulseEdge k b t) s = .next (modPulse k.val (fun c =>
          if b then { c with rev := (c.rev + 1) % 2 ^ 32 } else { c with fwd := (c.fwd + 1) % 2 ^ 32 }) s)) ∧
        (pulseMode s k.val = 0 → exec (.pulseEdge k b t) s = .next s) ∧
        (pulseMode s k.val = 3 → ∃ x, exec (.pulseEdge k b t) s = .next x ∧ EverythingBut [.ldg] s x ∧
          pulse x k.val = { pulse s k.val with gateN := (pulse s k.val).gateN + 1, gateLast := t
                                               gateFirst := if (pulse s k.val).gateN = 0 then t else (pulse s k.val).gateFirst }) ∧
        (pulseMode s k.val = 3 → ∃ x, exec (.pulseFreqGate k) s = .next x ∧ EverythingBut [.ldg] s x ∧
          pulse x k.val = { pulse s k.val with gateN := 0, gateFirst := 0, gateLast := 0, freq := (pulse x k.val).freq } ∧
          ((pulse s k.val).gateN < 2 → (pulse x k.val).freq = 0) ∧
          (∀ f : Nat, 2 ≤ (pulse s k.val).gateN → (pulse s k.val).gateFirst < (pulse s k.val).gateLast →
            ((pulse s k.val).gateN - 1) * 10 ^ 12 = f * ((pulse s k.val).gateLast - (pulse s k.val).gateFirst) →
            (pulse x k.val).freq = f))) ∧
      (∃ t, exec .pulseSecondCredit s = .next t ∧ EverythingBut [.ldg, .log, .mem] s t ∧
        (∀ k, k < 64 → (pulse t k).lastFwd = (pulse s k).fwd ∧ (pulse t k).lastRev = (pulse s k).rev ∧
          (pulse t k).fwd = (pulse s k).fwd ∧ (pulse t k).rev = (pulse s k).rev) ∧
        (∀ k a, k < 64 → pulseIsB s k = false → pulseMode s k = 1 ∨ pulseMode s k = 2 →
          a = (pulse s k).acc + mkRat (lt s (0x1000 + 16 * k) 4) 256 *
            ((sub32 (pulse s k).fwd (pulse s k).lastFwd : Int) - (sub32 (pulse s k).rev (pulse s k).lastRev : Int) : Int) →
          (1 ≤ pulseQty s k → pulseQty s k ≤ 4 → (pulse t k).acc = a - (a.floor.toNat : Rat)) ∧
          (pulseQty s k = 5 → 0 ≤ a → (pulse t k).acc = 0 ∧ (pulse t k).vol = a) ∧
          (pulseQty s k = 5 → a < 0 → (pulse t k).acc = a ∧ (pulse t k).vol = 0))) ∧
      (∃ t, exec .heatSecond s = .next t ∧ EverythingBut (bellParts ++ [.ldg, .log, .mem]) s t ∧
        (∀ k, k < 64 → pulse t k = { pulse s k with vol := 0 }) ∧
        (∀ k h h' v, k < 32 → h = vget s.ldg.heat k ⟨0, 0, 0, 0, false⟩ → h' = vget t.ldg.heat k ⟨0, 0, 0, 0, false⟩ →
          v = (pulse s (lt s (0x1600 + 16 * k) 1)).vol →
          (lt s (0x1600 + 16 * k + 3) 1 < 128 → h' = h) ∧
          (128 ≤ lt s (0x1600 + 16 * k + 3) 1 →
            (tempOf s (lt s (0x1600 + 16 * k + 1) 1) = none ∨ tempOf s (lt s (0x1600 + 16 * k + 2) 1) = none →
              h' = { h with fault := true, faultVol := h.faultVol + v }) ∧
            (∀ tf tr : Int, tempOf s (lt s (0x1600 + 16 * k + 1) 1) = some tf →
              tempOf s (lt s (0x1600 + 16 * k + 2) 1) = some tr → (lt s (0x1600 + 16 * k + 6) 2 : Int) > tf - tr →
              (lt s (0x1600 + 16 * k + 3) 1 / 2 % 2 = 0 ∨ tf - tr > -(lt s (0x1600 + 16 * k + 6) 2 : Int)) →
              h' = { h with fault := false, lowDt := h.lowDt + v }))))) ∧
    (islRuns s islIO = false → ∀ l, exec (.spiScan l) s = .next s) ∧
    (islRuns s islIO = true → ∀ l : List (List Byte), ∃ t, exec (.spiScan l) s = .next t ∧
      EverythingBut (bellParts ++ [.ldg, .log, .mem]) s t ∧ t.ldg.scanNo = s.ldg.scanNo + 1 ∧
      ∀ k c c', k < 32 → c = vget s.ldg.spi k ⟨0, 0, false⟩ → c' = vget t.ldg.spi k ⟨0, 0, false⟩ →
        (lt s (0x1400 + 16 * k) 1 < 128 → c' = c) ∧
        (128 ≤ lt s (0x1400 + 16 * k) 1 → lt s (0x1400 + 16 * k + 3) 1 = 0 → ∀ rd, rd = lt s (0x1400 + 16 * k + 8) 1 / 16 % 8 →
          rd ≠ 0 → lt s (0x1400 + 16 * k + 11) 1 ≠ 1 → c' = { c with good := s.ldg.scanNo + 1, value :=
            (((List.range rd).foldl (fun a i => a * 256 + ((l.getD k []).getD i 0).toNat) 0 / 2 ^ (lt s (0x1400 + 16 * k + 9) 1)
              % 2 ^ (lt s (0x1400 + 16 * k + 10) 1) : Nat) : Int) }))

/-- R235, R236, R237, R239 and R254: a poll round, a reply, the lack of one, and a secondary search. -/
def Obligations.MbusPolling : Prop :=
  ∀ (s : State) (m : Fin 2) (x : MbusMaster), x = master s m.val →
    (∃ t, exec (.mbusPollRound m) s = .next t ∧ EverythingBut (bellParts ++ [.ldg, .fc, .mem]) s t ∧
      (x.en = false ∨ islRuns s islIO = false → t.ldg = s.ldg) ∧
      (x.en = true → islRuns s islIO = true →
        (x.cur.isSome = true ∨ x.searching = true → master t m.val = { x with due := true, lateCnt := min 65535 (x.lateCnt + 1) }) ∧
        (x.cur = none → x.searching = false → ∀ k l, slavesOf s m.val = k :: l → primaryOf s k ≠ 253 → (slaveOf s k).nke = true →
          master t m.val = { x with due := false, todo := l, cur := some k, telegrams := 0, vals := MbusVals.init, stage := .req
                                    tries := 1, tx := reqUd2 (slaveOf s k).fcb (primaryOf s k) }))) ∧
    (x.cur = none → ∀ f, exec (.mbusReply m f) s = .next s ∧ exec (.mbusReplyTimeout m) s = .next s) ∧
    (∀ k, x.cur = some k →
      (x.stage = .nke → ∃ t, exec (.mbusReply m [0xE5]) s = .next t ∧ EverythingBut [.ldg] s t ∧
        slaveOf t k = { slaveOf s k with nke := true, fcb := true } ∧ (primaryOf s k ≠ 253 → master t m.val =
          { x with stage := .req, tries := 1, tx := reqUd2 true (primaryOf s k) })) ∧
      (x.stage = .req → ∀ f : List Byte, 6 ≤ f.length → frameKind s k f = .reject → ∃ t, exec (.mbusReply m f) s = .next t ∧
        EverythingBut (bellParts ++ [.ldg, .log, .mem]) s t ∧ (slaveOf t k).failed = min 255 ((slaveOf s k).failed + 1) ∧
        (master t m.val).rejectCnt = min 65535 (x.rejectCnt + 1) ∧ (slaveOf t k).base = (slaveOf s k).base) ∧
      (x.stage = .req → ∀ (f r : List Byte) (v : MbusVals), 6 ≤ f.length → frameKind s k f = .data r →
        parseRecords 256 r x.vals = (v, false) → ∃ t, exec (.mbusReply m f) s = .next t ∧
        EverythingBut (bellParts ++ [.ldg, .log, .mem, .fc]) s t ∧ (slaveOf t k).st = 1 ∧ (slaveOf t k).failed = 0 ∧
        (slaveOf t k).time = s.time.centre ∧ (slaveOf t k).fcb = !(slaveOf s k).fcb ∧
        (master t m.val).okCnt = min 65535 (x.okCnt + 1) ∧
        (lt s (0x2000 + 16 * k + 9) 1 % 4 = 1 → ∀ w, v.vol = some w → (slaveOf t k).vol = w ∧ (slaveOf t k).base = some w)) ∧
      (x.tries ≤ x.retries → ∃ t, exec (.mbusReplyTimeout m) s = .next t ∧ EverythingBut [.ldg] s t ∧
        master t m.val = { x with timeoutCnt := min 65535 (x.timeoutCnt + 1), tries := x.tries + 1, tx := mbusTelegram s m.val k } ∧
        t.ldg.slaves = s.ldg.slaves) ∧
      (x.retries < x.tries → ∃ t, exec (.mbusReplyTimeout m) s = .next t ∧
        EverythingBut (bellParts ++ [.ldg, .log, .mem]) s t ∧ (master t m.val).timeoutCnt = min 65535 (x.timeoutCnt + 1) ∧
        (slaveOf t k).failed = min 255 ((slaveOf s k).failed + 1) ∧
        ((slaveOf s k).failed = 2 → (slaveOf t k).st = 2 ∧ ((slaveOf s k).st ≠ 2 → t.log.seq = s.log.seq + 1)))) ∧
    (∀ w : Word, ∃ t, exec (.secondarySearch m w) s = .next t ∧ EverythingBut [.ldg] s t ∧
      master t m.val = { x with pollS := max 60 (bits w 63 48), retries := min 4 (bits w 19 16), baud := bits w 10 8, en := bit w 0
                                searching := x.searching || x.cur.isNone, searchDue := x.searchDue || x.cur.isSome } ∧
      ∀ q, q ≠ m.val → master t q = master s q) ∧
    (x.searching = false → ∀ l, exec (.secondarySearchDone m l) s = .next s) ∧
    (x.searching = true → ∀ l : List Word, ∃ t, exec (.secondarySearchDone m l) s = .next t ∧
      EverythingBut (bellParts ++ [.ldg, .log, .mem]) s t ∧ t.log.seq = s.log.seq + 1 ∧
      (x.due = false → master t m.val = { x with searching := false }))

/-- R243, R244, R247 to R249, R251 and R253: the credits and the NVM commit of the ledgers, demand intervals, snapshots, and APPLY. -/
def Obligations.LedgersAndSnapshots : Prop :=
  ∀ (s : State),
    ((isl s islNIGHT).st ≠ .on → exec .ledgerSecondCredit s = .next s ∧ exec .ledgerNvmCommit s = .next s ∧
      exec .demandIntervalEnd s = .next s ∧ exec .dailySnapshot s = .next s) ∧
    ((isl s islNIGHT).st = .on →
      (∃ t, exec .ledgerSecondCredit s = .next t ∧ EverythingBut [.meter, .ldg, .mem] s t ∧
        t.ldg = { s.ldg with carry := t.ldg.carry, credited := t.ldg.credited } ∧
        (∀ p, p < 128 → (pointSt t p).owed = List.replicate 7 0 ∧ (pointSt t p).secE = (pointSt s p).secE ∧
          ∃ e, vget t.ldg.credited p none = some (e, (pointSt s p).secE)) ∧
        (ldgList s = [] → t.mem = s.mem)) ∧
      (s.mem.wf = true → ∃ t, exec .ledgerNvmCommit s = .next t ∧ EverythingBut [.mem] s t ∧
        (∀ i, i ∈ ldgList s → ∀ o, o < 128 → t.mem.read (ldgNvm i + o) = s.mem.read (ldgAddr i + o)) ∧
        ∀ a, (∀ i, i ∈ ldgList s → a < ldgNvm i ∨ ldgNvm i + 128 ≤ a) → t.mem.read a = s.mem.read a) ∧
      (∃ t, exec .demandIntervalEnd s = .next t ∧ EverythingBut [.ldg, .mem] s t ∧
        t.ldg = { s.ldg with demBase := t.ldg.demBase, loc := s.ldg.locNext.getD s.ldg.loc, locNext := none } ∧
        (∀ i b d dem, ldgList s = [i] → tget s.ldg.demBase i = some b → d = s.ldg.loc.demand → d ≠ 0 → s.mem.wf = true →
          dem = (sumImp s i + 2 ^ 64 - b % 2 ^ 64) % 2 ^ 64 * 60 / (d * 1000000) → dem < 2 ^ 32 →
          ldgN t i 96 4 = max (ldgN s i 96 4) dem ∧ t.ldg.demBase = [(i, sumImp s i)])) ∧
      (∀ day, day = localSec s / 86400 → (∀ d, s.ldg.lastDaily = some d → d < day) → s.ldg.loc.daily ≤ localSec s / 60 % 1440 →
        ∃ t j, exec .dailySnapshot s = .next t ∧ EverythingBut [.ldg, .mem] s t ∧ t.ldg.lastDaily = some day ∧
          j.kind = 1 ∧ j.t = s.time.centre ∧ j.localSec = localSec s ∧
          ((civil day).2.2 ≠ s.ldg.loc.billDay → t.ldg.snaps = s.ldg.snaps ++ [j]) ∧
          ((civil day).2.2 = s.ldg.loc.billDay → ∃ p, t.ldg.snaps = s.ldg.snaps ++ [j, p] ∧ p.kind = 2 ∧ p.t = s.time.centre))) ∧
    (∀ w : Word, bits w 63 56 ≠ 0x4C → exec (.interimSnapshot w) s = .next s ∧ exec (.ldgApply w) s = .next s) ∧
    (∀ w : Word, bits w 63 56 = 0x4C →
      (s.ldg.snaps ≠ [] → exec (.interimSnapshot w) s = .next { s with ldg := { s.ldg with snapResult := .busy } }) ∧
      (s.ldg.snaps = [] → ∃ t j, exec (.interimSnapshot w) s = .next t ∧ EverythingBut [.ldg, .mem] s t ∧
        t.ldg = { s.ldg with snapResult := .ok, snaps := [j] } ∧ j.kind = 3 ∧ j.t = s.time.centre) ∧
      (∀ a, (ldgChecks (ldgTables s) (localOk (localCfg s.ldg.localReg))).find? (fun p => !p.2) = some (a, false) →
        exec (.ldgApply w) s = .next { s with ldg := { s.ldg with applyResult := .refused, refuseAt := a } }) ∧
      ((ldgChecks (ldgTables s) (localOk (localCfg s.ldg.localReg))).find? (fun p => !p.2) = none →
        exec (.ldgApply w) s = .next { s with ldg := { s.ldg with
          applyResult := .busy, refuseAt := 0, next := some (ldgTables s, localCfg s.ldg.localReg) } })) ∧
    (s.ldg.next = none → exec .ldgApplyTakeEffect s = .next s) ∧
    (∀ tabs loc, s.ldg.next = some (tabs, loc) → ∃ t, exec .ldgApplyTakeEffect s = .next t ∧ EverythingBut [.ldg, .log, .mem] s t ∧
      t.log.seq = s.log.seq + 1 ∧ t.ldg = { s.ldg with
        tabs := tabs, next := none, applyResult := .ok, loc := if s.ldg.loc.demand = 0 then loc else s.ldg.loc
        locNext := if s.ldg.loc.demand = 0 then none else some loc }) ∧
    (s.ldg.snaps = [] → exec .snapshotWriteComplete s = .next s) ∧
    (∀ j l, s.ldg.snaps = j :: l → ∃ t, exec .snapshotWriteComplete s = .next t ∧
      EverythingBut (bellParts ++ [.ldg, .log, .link, .mem, .ecc]) s t ∧ t.ldg.snaps = l ∧ t.ldg.snapSeq = s.ldg.snapSeq + 1 ∧
      t.log.seq = s.log.seq + 1 ∧ (s.ldg.noticeEn = false → s.mem.wf = true → ∀ b, b = snapSlot (j.kind == 2) j.slotB →
        t.mem.readN b 4 = 0x4C534E31 ∧ t.mem.readN (b + 5) 1 = 1 ∧ t.mem.readN (b + 8) 8 = j.t % 2 ^ 64))

/-! ### The lift (chapter 11) -/

/-- R266, R267, R271, R283 and R287: the host's commands to a car. Each is answered by an event, OK where it is taken and REFUSED where it is
not, and a refused one changes nothing else. -/
def Obligations.CarCommands : Prop :=
  ∀ (s : State) (c : Fin 8) (req : BitVec 64) (k : Car), k = car s c.val →
    (∀ (j : Fin 65536) (side dir : Fin 256) (i : Instr), i ∈ [Instr.carCall c j side req, .hallCall c j side dir req, .outOfService c req,
        .inService c req, .learnRun c req, .correctionRun c req, .testRun c j req, .inspMove c dir req] →
      (islRuns s islMOTION = false → exec i s = .next s) ∧
      ∃ t, exec i s = .next t ∧ EverythingBut (bellParts ++ [.lift, .motion, .door, .link, .mem]) s t) ∧
    (islRuns s islMOTION = true →
      (∀ (j : Fin 65536) (side : Fin 256) (ok : Prop), ok = (carUsed s c.val = true ∧ (k.st = .parked ∨ k.st = .doors ∨ k.st = .running) ∧
          flSides k.floor j.val &&& side.val ≠ 0 ∧ (s.mode.mode = .service ∨ s.mode.mode = .night)) →
        (¬ok → exec (.carCall c j side req) s = .next (liftEvent c.val 0x11 .refused req.toNat s)) ∧
        (ok → (∀ y, y ∈ k.calls → y.kind = .car → y.landing ≠ j.val) → (k.st = .doors → k.landing ≠ some j.val) →
          exec (.carCall c j side req) s = .next (liftEvent c.val 0x11 .ok req.toNat (modCar c.val (fun x => { x with
            calls := x.calls ++ [{ kind := .car, landing := j.val, side := side.val, id := 0, dest := 0, pass := 0 }] }) s)))) ∧
      (∀ (j : Fin 65536) (side dir : Fin 256) (g : Nat), g = carGroup s c.val →
        (¬CallTaken g false j.val side.val s →
          exec (.hallCall c j side dir req) s = .next (liftEvent c.val 0x12 .refused req.toNat s)) ∧
        (CallTaken g false j.val side.val s → (grp s g).calls.length < 1024 →
          (∀ y, y ∈ (grp s g).calls → y.isDest = false → y.origin = j.val → y.destDir = dir.val → y.side ≠ side.val) →
          carAt s g j.val (dir.val == 1) = none → ∃ x, CallRegistered g false j.val dir.val side.val 0 s x ∧
            exec (.hallCall c j side dir req) s = .next (liftEvent c.val 0x12 .ok req.toNat x))) ∧
      (carUsed s c.val = false → exec (.outOfService c req) s = .next (liftEvent c.val 0x13 .refused req.toNat s)) ∧
      (carUsed s c.val = true →
        (k.st = .off → exec (.outOfService c req) s = .next (liftEvent c.val 0x13 .ok req.toNat s)) ∧
        (k.st = .parked ∨ k.st = .fault ∨ k.st = .inspection → ∃ x, exec (.outOfService c req) s = .next (liftEvent c.val 0x13 .ok req.toNat x) ∧
          car x c.val = { k with st := .off, leaving := false, runFor := none, calls := [], next := none, committed := false } ∧
          ∀ d : Nat, d ≠ c.val → car x d = car s d) ∧
        (k.st = .running ∨ k.st = .doors ∨ k.st = .held ∨ k.st = .recall ∨ k.st = .learn →
          ∃ x, exec (.outOfService c req) s = .next (liftEvent c.val 0x13 .ok req.toNat x) ∧ EverythingBut [.lift] s x ∧
            car x c.val = { k with leaving := true, calls := k.calls.filter (fun y => k.committed && some y.landing == k.next) })) ∧
      (∀ ok : Prop, ok = (carUsed s c.val = true ∧ k.posValid = true ∧
          (k.st = .off ∨ (k.st = .fault ∧ faultGone s c.val = true ∧ ¬(k.fault = 3 ∧ carN s c.val 3 1 % 4 = 1)))) →
        (¬ok → exec (.inService c req) s = .next (liftEvent c.val 0x14 .refused req.toNat s)) ∧
        (ok → k.adopt = false → k.reload = false → ∃ x, exec (.inService c req) s = .next (liftEvent c.val 0x14 .ok req.toNat x) ∧
          EverythingBut [.lift] s x ∧ (car x c.val).st = .parked ∧ (car x c.val).fault = 0 ∧ (car x c.val).dir = 0 ∧
          (car x c.val).door = .closed ∧ (car x c.val).calls = k.calls ∧ (car x c.val).pos = k.pos)) ∧
      (∀ ok : Prop, ok = (carUsed s c.val = true ∧ k.st = .off ∧ permit s c.val 0 = true) →
        (¬ok ∨ (s.mode.mode ≠ .service ∧ s.mode.mode ≠ .inspection) →
          exec (.learnRun c req) s = .next (liftEvent c.val 0x15 .refused req.toNat s)) ∧
        (ok → s.mode.mode = .service ∨ s.mode.mode = .inspection → exec (.learnRun c req) s = .next (liftEvent c.val 0x15 .ok req.toNat
          (sendAxis (16 + c.val) 5 0 (10 * carN s c.val 42 2) 0 0 (modCar c.val (fun x => { x with
            st := .learn, runFor := some .learnRef, caps := [], learnReq := req.toNat, fault := 0, posValid := false, refd := false }) s)))) ∧
        (¬ok → exec (.correctionRun c req) s = .next (liftEvent c.val 0x16 .refused req.toNat s)) ∧
        (ok → exec (.correctionRun c req) s = .next (liftEvent c.val 0x16 .ok req.toNat
          (sendAxis (16 + c.val) 5 0 (10 * carN s c.val 42 2) 0 (toSigned 64 (k.floor.readN 16 8)) (modCar c.val (fun x => { x with
            st := .learn, runFor := some .correct, fault := 0, posValid := false, refd := false }) s))))) ∧
      (∀ (j : Fin 65536) (ok : Prop), ok = (carUsed s c.val = true ∧ s.mode.mode = .inspection ∧ k.st = .inspection ∧ j.val < flLandings k.floor) →
        (¬ok → exec (.testRun c j req) s = .next (liftEvent c.val 0x17 .refused req.toNat s)) ∧
        (ok → ∃ x l, exec (.testRun c j req) s = .next (liftEvent c.val 0x17 .ok req.toNat x) ∧ EverythingBut [.lift, .motion] s x ∧
          (car x c.val).runFor = some .inspect ∧ (car x c.val).st = .inspection ∧ (car x c.val).landing = none ∧
          (axis x (16 + c.val)).cmds = (axis s (16 + c.val)).cmds ++ { op := 1, flags := 0, vcap := 10 * carN s c.val 40 2
                                                                       target := flLevel k.floor j.val, req := 0, arg := 0 } :: l)) ∧
      (∀ dir : Fin 256,
        (carUsed s c.val = false ∨ k.st ≠ .inspection ∨ 2 < dir.val →
          exec (.inspMove c dir req) s = .next (liftEvent c.val 0x18 .refused req.toNat s)) ∧
        (carUsed s c.val = true → k.st = .inspection → dir.val = 1 ∨ dir.val = 2 →
          ∃ x l, exec (.inspMove c dir req) s = .next (liftEvent c.val 0x18 .ok req.toNat x) ∧ EverythingBut [.lift, .motion] s x ∧
            car x c.val = { k with runFor := some .inspect, dir := dir.val, landing := none } ∧
            (axis x (16 + c.val)).cmds = (axis s (16 + c.val)).cmds ++ { op := 1, flags := 0, vcap := 10 * carN s c.val 40 2
                                                                         target := flLevel k.floor (if dir.val = 1 then flLandings k.floor - 1 else 0)
                                                                         req := 0, arg := 0 } :: l) ∧
        (carUsed s c.val = true → k.st = .inspection → dir.val = 0 → ∃ x, EverythingBut [.lift, .motion] s x ∧
          exec (.inspMove c dir req) s = .next (liftEvent c.val 0x18 .ok req.toNat x) ∧
          car x c.val = { k with runFor := none, dir := 0 })))

/-- R271, R273, R275, R279, R280 and R285: a call from a source, a dispatch cycle's sample and its cut-off, an assignment at a car, the
fallback to island dispatch, and the five messages of DISPATCH. -/
def Obligations.CallsAndDispatch : Prop :=
  ∀ (s : State),
    (∀ (src q l : Nat) (call : LiftCall), tget s.lift.srcSeq src = some l → q ≤ l → exec (.callRegistration src (some q) call) s = .next s) ∧
    (∀ (src : Nat) (seq : Option Nat) (s' : State), (∀ q l, seq = some q → tget s.lift.srcSeq src = some l → l < q) →
      s' = (match seq with | none => s | some q => modLift (fun l => { l with srcSeq := tput src q l.srcSeq }) s) →
      (∀ (g : Fin 16) (j : Fin 128) (up : Bool) (side : Fin 4) (d : Nat), d = (if up then 1 else 2) →
        (¬CallTaken g.val false j.val side.val s → exec (.callRegistration src seq (.hall g j up side)) s = .next s') ∧
        (CallTaken g.val false j.val side.val s →
          ((∃ y, y ∈ (grp s g.val).calls ∧ y.isDest = false ∧ y.origin = j.val ∧ y.destDir = d ∧ y.side = side.val) →
            exec (.callRegistration src seq (.hall g j up side)) s = .next (if s.mode.mode = .night then wakeNight 0x20 s' else s')) ∧
          ((grp s g.val).calls.length < 1024 →
            (∀ y, y ∈ (grp s g.val).calls → y.isDest = false → y.origin = j.val → y.destDir = d → y.side ≠ side.val) →
            carAt s g.val j.val up = none → ∃ x, CallRegistered g.val false j.val d side.val 0 s x ∧ x.lift.srcSeq = s'.lift.srcSeq ∧
              exec (.callRegistration src seq (.hall g j up side)) s = .next (if s.mode.mode = .night then wakeNight 0x20 x else x)))) ∧
      (∀ (g : Fin 16) (o d : Fin 128) (side : Fin 4) (pass : Fin 256),
        (¬CallTaken g.val true o.val side.val s → exec (.callRegistration src seq (.dest g o d side pass)) s = .next s') ∧
        (CallTaken g.val true o.val side.val s → (grp s g.val).calls.length < 1024 →
          ∃ x, CallRegistered g.val true o.val d.val side.val pass.val s x ∧ x.lift.srcSeq = s'.lift.srcSeq ∧
            exec (.callRegistration src seq (.dest g o d side pass)) s = .next (if s.mode.mode = .night then wakeNight 0x20 x else x)))) ∧
    (∀ b : Bool, islRuns s islMOTION = false ∨ s.mode.mode = .safestop ∨ (∀ h, grpUsed s h = false) →
      exec (.dispatchCycle b) s = .next s) ∧
    (∀ g : Nat, islRuns s islMOTION = true → s.mode.mode ≠ .safestop → grpUsed s g = true → (∀ h, grpUsed s h = true → h = g) →
      (∃ t, exec (.dispatchCycle false) s = .next t ∧ EverythingBut [.lift, .link] s t ∧
        (grp t g).island = ((grp s g).island && (followed s g).isNone) ∧
        (∀ c : Nat, c ∈ groupCars s g → car t c = { car s c with refusedId := 0, reported := (car t c).reported }) ∧
        (∀ c : Nat, groupCars s g = [c] → dispatches s g = true ∨ ((grp s g).island = true ∧ followed s g = none) →
          (grp t g).reports = [carReport s c])) ∧
      (∀ (x : GroupCall) (r1 r2 : CarReport) (v1 v2 : CarView), assigns s g = true → (grp s g).calls = [x] → x.slot = none → windDown s = false →
        (grp s g).reports = [r1, r2] → v1 = carView s g [] r1 → v2 = carView s g [] r2 → candidate [] v1 x = true → candidate [] v2 x = true →
        ∃ t, exec (.dispatchCycle true) s = .next t ∧ EverythingBut (bellParts ++ [.lift, .link, .fc, .mem]) s t ∧
          (grp t g).calls = [{ x with was := none, slot := some (if callCost s g v2 x < callCost s g v1 x ∨
            (callCost s g v2 x = callCost s g v1 x ∧ r2.slot < r1.slot) then r2.slot else r1.slot) }])) ∧
    (∀ (c : Fin 8) (id : BitVec 32) (j : Fin 128) (park : Bool) (k : Car) (call : StopCall), k = car s c.val →
      call = (((grp s (carGroup s c.val)).calls.find? (fun y => y.id == id.toNat)).map stopOf).getD
        { kind := .car, landing := j.val, side := 0, id := id.toNat, dest := 0, pass := 0 } →
      (islRuns s islMOTION = false ∨ carUsed s c.val = false ∨ (park = true ∧ (k.st ≠ .parked ∨ k.calls ≠ [])) →
        exec (.assignmentReceived c id j park) s = .next s) ∧
      (islRuns s islMOTION = true → carUsed s c.val = true →
        (park = true → k.st = .parked → k.calls = [] → exec (.assignmentReceived c id j park) s = .next (modCar c.val (fun x => { x with
          runFor := some .park, calls := [{ call with kind := .car, side := 0, id := 0 }] }) s)) ∧
        (park = false → (k.st ≠ .parked ∧ k.st ≠ .doors ∧ k.st ≠ .running) ∨
            ((axis s (16 + c.val)).v ≠ 0 ∧ (if k.dir = 1 then k.pos < flLevel k.floor j.val else flLevel k.floor j.val < k.pos) ∧
              committable s c.val j.val (k.dir == 1) = false ∧ k.next ≠ some j.val) →
          exec (.assignmentReceived c id j park) s = .next (modCar c.val (fun x => { x with refusedId := id.toNat }) s)) ∧
        (park = false → k.st = .parked ∨ k.st = .running → (axis s (16 + c.val)).v = 0 ∨ committable s c.val j.val (k.dir == 1) = true →
          (∀ y, y ∈ k.calls → y.kind = call.kind → y.landing = call.landing → y.id ≠ call.id) →
          exec (.assignmentReceived c id j park) s = .next (modCar c.val (fun x => { x with calls := x.calls ++ [call] }) s)))) ∧
    (∀ g : Fin 16, (islRuns s islMOTION = false ∨ grpUsed s g.val = false ∨ followed s g.val ≠ none → exec (.islandDispatchFallback g) s = .next s) ∧
      (islRuns s islMOTION = true → grpUsed s g.val = true → followed s g.val = none →
        exec (.islandDispatchFallback g) s = .next (modGrp g.val (fun q => { q with island := true }) s))) ∧
    (∀ (p r : List Byte) (g : Nat), g = le p 1 1 → r = (p.drop 8).take (le p 3 1) →
      (islRuns s islMOTION = false ∨ grpUsed s g = false ∨ dispatches s g = false ∨ le p 0 1 ≠ 1 → exec (.carReport p) s = .next s) ∧
      (islRuns s islMOTION = false ∨ grpUsed s g = false ∨ dispatches s g = false ∨ le p 0 1 ≠ 2 → exec (.dispatchCall p) s = .next s) ∧
      (islRuns s islMOTION = false ∨ grpUsed s g = false ∨ le p 0 1 ≠ 3 → exec (.assign p) s = .next s) ∧
      (islRuns s islMOTION = false ∨ grpUsed s g = false ∨ le p 0 1 ≠ 4 → exec (.callClear p) s = .next s) ∧
      (grpUsed s g = false ∨ le p 0 1 ≠ 5 → exec (.demandCounts p) s = .next s) ∧
      (islRuns s islMOTION = true → grpUsed s g = true → le p 2 1 = 1 →
        (le p 0 1 = 1 → dispatches s g = true → le r 0 1 < 32 → ∃ t, exec (.carReport p) s = .next t ∧ EverythingBut [.lift] s t ∧
          t.lift.cars = s.lift.cars ∧ (∀ h : Nat, h ≠ g → grp t h = grp s h) ∧
          (grp t g).reports = (grp s g).reports.filter (fun y => y.slot != le r 0 1) ++ [parseReport r] ∧
          ((le r 6 1).testBit 2 = false → (grp t g).calls = (grp s g).calls) ∧
          ((le r 6 1).testBit 2 = true → (grp t g).calls = (grp s g).calls.map (fun y => if y.id == le r 36 4 then { y with slot := none } else y))) ∧
        (le p 0 1 = 2 → dispatches s g = true →
          (s.lift.known.contains (le r 8 4) = true → exec (.dispatchCall p) s = .next s) ∧
          (s.lift.known.contains (le r 8 4) = false → le r 1 1 < grpN s g 1 1 → (grp s g).calls.length < 1024 →
            ∃ t, exec (.dispatchCall p) s = .next t ∧ EverythingBut [.lift] s t ∧ t.lift.cars = s.lift.cars ∧
              (∀ h : Nat, h ≠ g → grp t h = grp s h) ∧ t.lift.known = (le r 8 4 :: s.lift.known).take 1024 ∧
              (grp t g).calls = (grp s g).calls ++ [{ id := le r 8 4, isDest := le r 0 1 == 2, origin := le r 1 1, destDir := le r 2 1
                                                      side := le r 3 1, pass := le r 4 1, regMs := le r 12 4, regAt := s.time.uptime
                                                      slot := none, was := none }])) ∧
        (le p 0 1 = 3 → le r 5 1 < grpN s g 1 1 → ∃ t, exec (.assign p) s = .next t ∧ EverythingBut [.lift] s t ∧
          (∀ h : Nat, h ≠ g → grp t h = grp s h) ∧
          (grp t g).calls = (grp s g).calls.map (fun y => if (le r 6 1).testBit 0 = false ∧ y.id = le r 0 4 then
            { y with slot := if le r 4 1 = 0xFF then none else some (le r 4 1) } else y) ∧
          ((le r 6 1).testBit 0 = false → ∀ c : Nat, c ∈ groupCars s g → le r 4 1 = 0xFF ∨ carSlot s c ≠ le r 4 1 →
            car t c = { car s c with calls := (car s c).calls.filter (fun y => y.id != le r 0 4) })) ∧
        (le p 0 1 = 4 → exec (.callClear p) s = .next (modGrp g (fun q => { q with calls := q.calls.filter (fun y => y.id != le r 0 4) }) s))) ∧
      (grpUsed s g = true → le p 0 1 = 5 → le p 2 1 = 1 → ∃ t, exec (.demandCounts p) s = .next t ∧
        EverythingBut (bellParts ++ [.lift, .fc, .mem]) s t ∧
        t.lift = (modGrp g (fun q => { q with heard := [(0, le r 0 1, le r 1 1, le r 2 1, le r 3 1)] }) s).lift))

/-- R261, R262, R265, R266, R268, R276, R278, R281, R282 and R289: a car's servo instant, door-zone edge, learned table, energy reading,
faults and permits, and the tables of the lift block. -/
def Obligations.CarMotionAndTables : Prop :=
  (∀ (s : State) (c : Fin 8) (k : Car), k = car s c.val →
    (∀ (inc : Int) (both : Bool) (ssi : SsiRead) (age : Nat),
      (islRuns s islMOTION = false ∨ carUsed s c.val = false → exec (.carServoInstant c inc both ssi age) s = .next s) ∧
      (islRuns s islMOTION = true → carUsed s c.val = true → ∃ t, exec (.carServoInstant c inc both ssi age) s = .next t ∧
        (s.mem.wf = true → ∀ b, b = liftBase + 0x1800 + 128 * c.val → t.mem.readN b 8 = t.time.centre % 2 ^ 64 ∧
          t.mem.readN (b + 8) 4 = (car t c.val).seq % 2 ^ 32 ∧ t.mem.readN (b + 12) 1 = (car t c.val).st.code ∧
          t.mem.readN (b + 16) 8 = ofSigned 64 (car t c.val).pos % 2 ^ 64) ∧
        (k.st = .off → s.lift.cmdQ = 0 → k.corr = 0 → carN s c.val 3 1 % 4 ≠ 2 → ssi = .unused → (car t c.val).count = k.count + inc ∧
          (car t c.val).pos = k.origin + roundR (mkRat (carI s c.val 16 8 * (k.count + inc)) (2 ^ 32)) ∧ (car t c.val).st = .off))) ∧
    (∀ (b : Bool) (n : Nat),
      (carUsed s c.val = false ∨ islRuns s islMOTION = false ∨ (b = false ∧ k.runFor ≠ some .learnUp ∧ k.runFor ≠ some .learnDown) →
        exec (.dzEdge c b n) s = .next (modCar c.val (fun x => { x with dz := b }) s)) ∧
      (carUsed s c.val = true → islRuns s islMOTION = true → ∀ cap, cap = roundR ((k.pos : Rat) + k.vel * mkRat n 1000000000) →
        (k.st = .learn → k.runFor = some .learnUp ∨ k.runFor = some .learnDown → exec (.dzEdge c b n) s = .next (modCar c.val (fun x => { x with
          dz := b, caps := x.caps ++ [(k.runFor == some .learnUp, b, cap)] }) s)) ∧
        (∀ (field : Nat → Int) (j : Nat) (e : Int), b = true → 500 ≤ absR k.vel → k.st ≠ .learn → k.runFor ≠ some .learnUp →
          k.runFor ≠ some .learnDown → (∀ i, field i = toSigned 64 (k.floor.readN (64 + 32 * i + (if 0 < k.vel then 8 else 16)) 8)) →
          j < flLandings k.floor → (∀ i, i < flLandings k.floor → i ≠ j → gap (field j) cap < gap (field i) cap) → e = field j - cap →
          (e.natAbs ≤ carN s c.val 52 2 → exec (.dzEdge c b n) s = .next (modCar c.val (fun x => { x with
            dz := true, corr := x.corr + e, corrCnt := add32 x.corrCnt 1, corrLast := e, posValid := x.posValid || x.refd }) s)) ∧
          (carN s c.val 52 2 < e.natAbs → k.st ≠ .off → k.st ≠ .fault → ∃ t, exec (.dzEdge c b n) s = .next t ∧
            CarFaulted c.val 1 (modCar c.val (fun x => { x with dz := true }) s) t)))) ∧
    (islRuns s islMOTION = false ∨ k.st ≠ .learn ∨ k.runFor ≠ some .learnDone → exec (.learnRunComplete c) s = .next s) ∧
    (islRuns s islMOTION = true → k.st = .learn → k.runFor = some .learnDone →
      ∀ (n : Nat) (iu ou id od : List Int), n = grpN s (carGroup s c.val) 1 1 → iu = edgesOf k.caps true true → ou = edgesOf k.caps true false →
        id = (edgesOf k.caps false true).reverse → od = (edgesOf k.caps false false).reverse →
      (iu.length ≠ n ∨ ou.length ≠ n ∨ id.length ≠ n ∨ od.length ≠ n → ∃ t, exec (.learnRunComplete c) s = .next t ∧
        EverythingBut (bellParts ++ [.lift, .mem]) s t ∧ car t c.val = { k with st := .off, runFor := none, caps := [] }) ∧
      (∀ (sum lev : Nat → Int), iu.length = n → ou.length = n → id.length = n → od.length = n →
        (∀ j, sum j = iu.getD j 0 + ou.getD j 0 + id.getD j 0 + od.getD j 0) →
        (∀ j, 4 * lev j = sum j - sum 0 + 4 * toSigned 16 (k.floor.readN (64 + 32 * j + 24) 2)) →
        (∀ p, p ∈ iu.zip ou ++ id.zip od → 500 ≤ gap p.1 p.2 ∧ gap p.1 p.2 ≤ 5000) → (∀ j, j + 1 < n → 5000 ≤ lev (j + 1) - lev j) →
        ∃ t, exec (.learnRunComplete c) s = .next t ∧ EverythingBut (bellParts ++ [.lift, .motion, .mem]) s t ∧
          (car t c.val).st = .learn ∧ (car t c.val).runFor = some .learnHome ∧ (car t c.val).adopt = true ∧ (car t c.val).caps = [] ∧
          (s.mem.wf = true → qGet s s.lift.evtQ = none → ∀ b, b = nvmFloor c.val → t.mem.readN b 4 = 0x464C5431 ∧
            t.mem.readN (b + 4) 1 = n ∧ ∀ j, j < n → t.mem.readN (b + (64 + 32 * j)) 8 = ofSigned 64 (lev j) % 2 ^ 64))) ∧
    (islRuns s islMOTION = false → exec (.tripEnergyRead c) s = .next s) ∧
    (islRuns s islMOTION = true →
      (k.energy = none ∨ readEnergy s c.val = none → exec (.tripEnergyRead c) s = .next (modCar c.val (fun x => { x with energy := none }) s)) ∧
      (∀ (a b : EnergyRead) (dist per : Rat), k.energy = some a → readEnergy s c.val = some b → dist = mkRat ((b.pos - a.pos).natAbs) 10000 →
        per = (((b.imp - a.imp) - (b.exp - a.exp) : Int) : Rat) / 1000 / dist →
        (dist < 1 ∨ a.good = false ∨ b.good = false ∨ a.epoch ≠ b.epoch ∨ k.landing = none →
          exec (.tripEnergyRead c) s = .next (modCar c.val (fun x => { x with energy := none }) s)) ∧
        (1 ≤ dist → a.good = true → b.good = true → a.epoch = b.epoch → k.landing.isSome = true → ∀ old new, old = (if k.energyUp then k.eUp else k.eDn) →
          new = (match old with | none => per | some x => x + (per - x) / 8) → exec (.tripEnergyRead c) s = .next (modCar c.val (fun x => { x with
            energy := none, trips := add32 x.trips 1, eUp := if x.energyUp then some new else x.eUp
            eDn := if x.energyUp then x.eDn else some new }) s)))) ∧
    (k.st ≠ .running ∨ k.tripMax = 0 ∨ islRuns s islMOTION = false ∨ carUsed s c.val = false → exec (.tripTimeout c) s = .next s) ∧
    (k.st = .running → 0 < k.tripMax → islRuns s islMOTION = true → carUsed s c.val = true → ∃ t, exec (.tripTimeout c) s = .next t ∧
      CarFaulted c.val 8 s t) ∧
    (∀ o, carUsed s c.val = false ∨ carN s c.val 60 1 % 4 ≠ 1 ∨ islRuns s islMOTION = false → exec (.driveStatusPdo c o) s = .next s) ∧
    (carUsed s c.val = true → carN s c.val 60 1 % 4 = 1 → islRuns s islMOTION = true →
      (∀ l, exec (.driveStatusPdo c (some (false, l))) s = .next (modCar c.val (fun x => { x with pdoSeen := true, driveBad := false, load := l }) s)) ∧
      (k.st ≠ .off → k.st ≠ .fault → (∃ t, exec (.driveStatusPdo c none) s = .next t ∧ CarFaulted c.val 5 s t) ∧
        ∀ l, ∃ t, exec (.driveStatusPdo c (some (true, l))) s = .next t ∧
          CarFaulted c.val 6 (modCar c.val (fun x => { x with pdoSeen := true, driveBad := true, load := l }) s) t)) ∧
    (∀ p : Fin 4,
      (permit s c.val p.val = true ∨ carUsed s c.val = false ∨ islRuns s islMOTION = false → exec (.permitFall c p) s = .next s) ∧
      (permit s c.val p.val = false → carUsed s c.val = true → islRuns s islMOTION = true → ∃ t, exec (.permitFall c p) s = .next t ∧
        EverythingBut (bellParts ++ [.lift, .motion, .mem]) s t ∧
        ((k.st = .running ∧ permit s c.val 0 = false) ∨ (k.st = .doors ∧ k.door = .opening ∧ permit s c.val 1 = false) →
          car t c.val = { k with heldFrom := k.st, st := .held }) ∧
        ((k.st ≠ .running ∨ permit s c.val 0 = true) → (k.st ≠ .doors ∨ k.door ≠ .opening ∨ permit s c.val 1 = true) → car t c.val = k)) ∧
      (permit s c.val p.val = false ∨ k.st ≠ .held ∨ islRuns s islMOTION = false → exec (.permitRise c p) s = .next s) ∧
      (permit s c.val p.val = true → k.st = .held → islRuns s islMOTION = true → k.heldFrom = .running → permit s c.val 0 = true →
        exec (.permitRise c p) s = .next (sendAxis (16 + c.val) 4 0 0 0 0 (modCar c.val (fun x => { x with st := .running }) s)))) ∧
    (∀ w : Word, islRuns s islMOTION = true → bits w 63 56 = 0x4A → bits w 2 0 = 2 → bits w 15 8 = 2 ^ c.val →
      (k.st ≠ .parked ∧ k.st ≠ .off → exec (.floorReload w) s = .next (modLift (fun l => { l with result := .busy })
        (modCar c.val (fun x => { x with reload := true }) s))) ∧
      (k.st = .parked ∨ k.st = .off → s.mem.wf = true → s.mem.readN (liveFloor c.val + 5) 1 ≠ 0 →
        s.mem.readN (liveFloor c.val + 4) 1 = grpN s (carGroup s c.val) 1 1 → ∃ t, exec (.floorReload w) s = .next t ∧
          EverythingBut [.lift, .mem] s t ∧ t.lift.result = .ok ∧
          car t c.val = { k with floor := tableCopy t (liveFloor c.val) 0x1040, adopt := false, reload := false } ∧
          ∀ o, o < 0x1040 → t.mem.read (nvmFloor c.val + o) = t.mem.read (liveFloor c.val + o)))) ∧
  (∀ (s : State) (w : Word),
    (islRuns s islMOTION = false ∨ bits w 63 56 ≠ 0x4A → exec (.liftApply w) s = .next s ∧ exec (.floorReload w) s = .next s ∧
      exec (.energyReset w) s = .next s) ∧
    (islRuns s islMOTION = true → bits w 63 56 = 0x4A →
      (bits w 2 0 = 1 → ∀ m, m = liftRecords s →
        (∀ r, liftBad m = some r → exec (.liftApply w) s = .next (modLift (fun l => { l with result := .refused, refuseAt := r % 4096 }) s)) ∧
        (liftBad m = none → liftApplyWaits s m = true →
          exec (.liftApply w) s = .next (modLift (fun l => { l with pendingTabs := some m, result := .busy }) s)) ∧
        (liftBad m = none → liftApplyWaits s m = false → ∃ t, exec (.liftApply w) s = .next t ∧ EverythingBut [.lift, .blv] s t ∧
          t.lift = { s.lift with tabs := m, pendingTabs := none, result := .ok, refuseAt := 0 } ∧
          t.blv = { s.blv with hosted := t.blv.hosted })) ∧
      (bits w 2 0 = 3 → ∃ t, exec (.energyReset w) s = .next t ∧ EverythingBut [.lift] s t ∧ t.lift = { s.lift with result := .ok, cars := t.lift.cars } ∧
        ∀ d, d < 8 → car t d = if (bits w 15 8).testBit d then { car s d with eUp := none, eDn := none } else car s d)) ∧
    (islRuns s islMOTION = false → exec .liftDeferredAction s = .next s) ∧
    ((∀ d, d < 8 → (car s d).reload = false) →
      (s.lift.pendingTabs = none → s.lift.result ≠ .busy → exec .liftDeferredAction s = .next s) ∧
      (∀ m, s.lift.pendingTabs = some m →
        (liftApplyWaits s m = true → exec .liftDeferredAction s = .next s) ∧
        (liftApplyWaits s m = false → islRuns s islMOTION = true → ∃ t, exec .liftDeferredAction s = .next t ∧ EverythingBut [.lift, .blv] s t ∧
          t.lift = { s.lift with tabs := m, pendingTabs := none, result := .ok, refuseAt := 0 }))))

/-! ### The motion engine (chapter 12) -/

/-- R296, R298, R299, R302, R304 to R306, R310 and R312: the commands of Table 12.4 to a profiled axis. Each is answered by an event; a
refused one changes nothing else. A MOVE to an axis at rest in IDLE reads the axis's tables first. That MOVE, RESUME, HOME and GEAR_ON are
refused in a mode without the outputs, and that STOP and RESUME answer ACCEPTED, are the model's readings. -/
def Obligations.MotionCommands : Prop :=
  ∀ (s : State) (a : Fin 28) (req : BitVec 64) (k : Axis), k = axis s a.val →
    (∀ (fl : Fin 256) (vc : BitVec 32) (tg : BitVec 64) (i : Instr), i ∈ [Instr.moveAbs a fl vc tg req, .moveRel a fl vc tg req, .stop a req,
        .resume a req, .home a vc tg req, .gearOn a fl tg req, .gearOff a fl vc tg req, .enable a req, .disable a req, .faultClear a req,
        .setPos a tg req] →
      (islRuns s islMOTION = false → exec i s = .next s) ∧
      (islRuns s islMOTION = true → 24 ≤ a.val → exec i s = .next (answer a.val false req.toNat s)) ∧
      ∃ t, exec i s = .next t ∧ EverythingBut (bellParts ++ [.lift, .motion, .door, .mem]) s t) ∧
    (∀ (typ : Nat) (st : Status) (code : Nat),
      (liftOwned s a.val = true → motEvent a.val typ st code req.toNat s =
        { s with lift := { s.lift with evts := s.lift.evts ++ [(typ, a.val, st, code, req.toNat)] } }) ∧
      (liftOwned s a.val = false → motEvent a.val typ st code req.toNat s = (qEnqueue s.motion.evtQ (leBytes 1 typ ++ leBytes 1 a.val ++
        leBytes 1 (statusCode st) ++ leBytes 1 code ++ leBytes 4 0 ++ leBytes 8 req.toNat) s).2)) ∧
    (islRuns s islMOTION = true → a.val < 24 →
      (∀ (rel : Bool) (fl : Fin 256) (vc : BitVec 32) (tg : BitVec 64) (i : Instr) (x : Int) (bad : Prop),
        i = (if rel then Instr.moveRel a fl vc tg req else .moveAbs a fl vc tg req) → x = (if rel then k.x + tg.toInt else tg.toInt) →
        bad = (k.st = .disabled ∨ k.st = .homing ∨ k.st = .faulted ∨ k.st = .geared ∨ (a.val < 16 ∧ k.posValid = false) ∨
          (axI s a.val 88 8 < axI s a.val 96 8 ∧ (x < axI s a.val 88 8 ∨ axI s a.val 96 8 < x)) ∨
          towardActive s a.val ((x : Rat) - k.y) = true ∨ ((k.st = .idle ∨ k.st = .moving) ∧ axisMode s = false)) →
        (bad → exec i s = .next (answer a.val false req.toNat s)) ∧
        (¬bad → k.st = .stopping ∨ k.st = .stopped → exec i s = .next (answer a.val true req.toNat (modAxis a.val (fun y => { y with
          vcap := vc.toNat, camOff := fl.val.testBit 1, relevel := fl.val.testBit 0, req := req.toNat, x := x }) s))) ∧
        (¬bad → k.st = .moving → exec i s = .next (answer a.val true req.toNat (modAxis a.val (fun y => { y with
          vcap := vc.toNat, camOff := fl.val.testBit 1, relevel := fl.val.testBit 0, req := req.toNat, x := x, obsDec := false }) s))) ∧
        (¬bad → k.st = .idle → (a.val < 16 → (doorTables s a.val).any (fun t => tableEcc s t.1 t.2) = false) →
          ∃ t, exec i s = .next t ∧ EverythingBut (bellParts ++ [.lift, .motion, .mem]) s t ∧
            axis t a.val = { k with
              vcap := vc.toNat, camOff := fl.val.testBit 1, relevel := fl.val.testBit 0, req := req.toNat, st := .moving, x := x, obsDec := false
              camO := (axis t a.val).camO, camC := (axis t a.val).camC, mstep := (axis t a.val).mstep, reread := (axis t a.val).reread } ∧
            (a.val < 16 → (axis t a.val).reread = false ∧ ∀ o, o < 16384 →
              (axis t a.val).mstep.read o = s.mem.read (ddBase + 0x2000 + 0x4000 * (ddN s a.val 1 1 % 4) + o)))) ∧
      (∀ bad : Prop, bad = (k.st = .disabled ∨ k.st = .faulted ∨ k.st = .geared ∨ (k.st = .stopping ∧ k.after = .faulted)) →
        (bad → exec (.stop a req) s = .next (answer a.val false req.toNat s)) ∧
        (¬bad → k.st = .stopping ∨ k.st = .stopped → exec (.stop a req) s = .next (answer a.val true req.toNat s)) ∧
        (¬bad → k.st ≠ .stopping → k.st ≠ .stopped →
          (k.v = 0 → exec (.stop a req) s = .next (motEvent a.val 3 .ok 0 req.toNat (answer a.val true req.toNat (modAxis a.val (fun y =>
            { y with st := .stopped, obsDec := false, home := none, req := req.toNat }) s)))) ∧
          (k.v ≠ 0 → exec (.stop a req) s = .next (answer a.val true req.toNat (modAxis a.val (fun y =>
            { y with st := .stopping, after := .stopped, home := none, req := req.toNat }) s))))) ∧
      (∀ ok : Prop, ok = (k.st = .stopped ∧ gateOpen s a.val ((k.x : Rat) - k.y) = true ∧ towardActive s a.val ((k.x : Rat) - k.y) = false ∧
          axisMode s = true) →
        (¬ok → exec (.resume a req) s = .next (answer a.val false req.toNat s)) ∧
        (ok → exec (.resume a req) s = .next (answer a.val true req.toNat (modAxis a.val (fun y =>
          { y with st := .moving, obsDec := false, req := req.toNat }) s)))) ∧
      (∀ (vc : BitVec 32) (arg : BitVec 64) (ok stallRef : Prop), ok = (axisMode s = true ∧ (k.st = .idle ∨ k.st = .stopped ∨
          (k.st = .faulted ∧ ¬(k.fault = 4 ∧ k.limLo = true ∧ k.limHi = true)))) →
        stallRef = (a.val < 16 ∧ (axN s a.val 38 1).testBit 0 = true) →
        (¬ok → exec (.home a vc arg req) s = .next (answer a.val false req.toNat s)) ∧
        (ok → ∃ h, (h = .back ↔ ¬stallRef ∧ k.limLo = true) ∧ (h = .seek ↔ stallRef ∨ k.limLo = false) ∧
          exec (.home a vc arg req) s = .next (answer a.val true req.toNat (modAxis a.val (fun y => { y with
            st := .homing, fault := 0, home := some h, homeArg := arg.toInt, homeAt := y.y, homeUs := 0, req := req.toNat
            vcap := vc.toNat, camOff := true, relevel := false, obsDec := false }) s)))) ∧
      (∀ (fl : Fin 256) (arg : BitVec 64),
        (masterPos s a.val = none → exec (.gearOn a fl arg req) s = .next (answer a.val false req.toNat s)) ∧
        (∀ m, masterPos s a.val = some m →
          (k.st = .homing ∨ k.st = .faulted ∨ k.st = .disabled ∨ axisMode s = false ∨ m = axI s a.val 68 8 →
            exec (.gearOn a fl arg req) s = .next (answer a.val false req.toNat s)) ∧
          (k.st = .moving ∨ k.st = .stopping ∨ k.st = .stopped ∨ k.st = .geared ∨ (k.st = .idle ∧ 16 ≤ a.val) → axisMode s = true →
            m ≠ axI s a.val 68 8 → exec (.gearOn a fl arg req) s = .next (answer a.val true req.toNat (modAxis a.val (fun y => { y with
              st := .geared, m0 := m, y0 := y.sp, y := y.sp, exact := true, lag := 0, switched := false, bSide := false, req := req.toNat }) s))))) ∧
      (∀ (fl : Fin 256) (vc : BitVec 32) (tg : BitVec 64),
        (k.st ≠ .geared → exec (.gearOff a fl vc tg req) s = .next (answer a.val false req.toNat s)) ∧
        (k.st = .geared → exec (.gearOff a fl vc tg req) s = .next (answer a.val true req.toNat (modAxis a.val (fun y => { y with
          vcap := vc.toNat, camOff := fl.val.testBit 1, req := req.toNat, st := .moving, y := y.sp, exact := true, x := tg.toInt
          v := ((y.sp - y.spPrev : Int) : Rat) * 1000000 / (servoUs s a.val : Rat) }) s)))) ∧
      (k.st ≠ .disabled ∨ axUsed s a.val = false → exec (.enable a req) s = .next (answer a.val false req.toNat s)) ∧
      (k.st = .disabled → axUsed s a.val = true → ∃ (t : State) (y : Rat), y = (if a.val < 16 then k.y else ((car s (a.val - 16)).pos : Rat)) ∧
        exec (.enable a req) s = .next (motEvent a.val 1 .ok 0 req.toNat t) ∧ EverythingBut [.motion, .door] s t ∧
        axis t a.val = { k with
          st := if axisMode s then .idle else .stopped, y := y, v := 0, x := roundR y, sp := roundR y, spPrev := roundR y, exact := true
          fault := 0, obsDec := false, camO := (axis t a.val).camO, camC := (axis t a.val).camC, mstep := (axis t a.val).mstep
          reread := (axis t a.val).reread } ∧ (∀ b, b ≠ a.val → axis t b = axis s b) ∧
        (a.val < 16 → door t a.val = { door s a.val with bridge :=
          if (door s a.val).bridgeOn = true ∧ (door s a.val).bridge ≠ 3 then (door s a.val).bridge else 0 })) ∧
      ((k.v = 0 ∧ (axN s a.val 0 1).testBit 1 = false) ∨ (axN s a.val 0 1).testBit 1 = true →
        exec (.disable a req) s = .next (answer a.val true req.toNat (modAxis a.val (fun y =>
          { y with st := .disabled, v := 0, obsDec := false, home := none, req := req.toNat }) s))) ∧
      (k.v ≠ 0 → (axN s a.val 0 1).testBit 1 = false →
        exec (.disable a req) s = .next (answer a.val true req.toNat (modAxis a.val (fun y =>
          { y with st := .stopping, after := .disabled, home := none, req := req.toNat }) s))) ∧
      (k.st = .faulted → faultPresent s a.val = true → exec (.faultClear a req) s = .next (answer a.val false req.toNat s)) ∧
      (k.st = .faulted → faultPresent s a.val = false → exec (.faultClear a req) s = .next (motEvent a.val 1 .ok 0 req.toNat
        (modAxis a.val (fun y => { y with st := .stopped, fault := 0 }) s))) ∧
      (k.st ≠ .faulted → exec (.faultClear a req) s = .next (motEvent a.val 1 .ok 0 req.toNat s)) ∧
      (∀ tg : BitVec 64,
        (16 ≤ a.val ∨ (k.st ≠ .idle ∧ k.st ≠ .disabled) → exec (.setPos a tg req) s = .next (answer a.val false req.toNat s)) ∧
        (a.val < 16 → k.st = .idle ∨ k.st = .disabled → exec (.setPos a tg req) s = .next (motEvent a.val 1 .ok 0 req.toNat
          (modAxis a.val (fun y => { y with
            y := (tg.toInt : Rat), x := tg.toInt, sp := tg.toInt, spPrev := tg.toInt, exact := true, posValid := true }) s)))))
/-- R294, R295, R297 to R301, R306 and R308 to R310: a servo instant of a car profile, the law of Table 12.5, a homing that runs out of time,
a limit input, escalator supervision, and APPLY and TABLE_INVALIDATE. An axis at rest keeps its plan. -/
def Obligations.AxesAndEscalators : Prop :=
  (∀ (l : Law) (x : Rat) (n : Nat) (dt : Rat) (y v : Rat) (e : Bool) (sg u : Rat), sg = (if x < y then -1 else 1) → u = sg * v → 0 < dt →
    0 ≤ l.vStart → 0 ≤ l.vStop → l.vStop ≤ l.vBrk → 0 < l.decHi → 0 < l.decLo →
    (x = y → -l.vStop ≤ v → v ≤ l.vStop → planRun l x (n + 1) dt ⟨y, v, e⟩ = (⟨x, 0, true⟩, dt, true)) ∧
    (x ≠ y → v = 0 → 0 < l.vStart → planRun l x (n + 1) dt ⟨y, 0, e⟩ = planRun l x (n + 1) dt ⟨y, sg * l.vStart, e⟩) ∧
    (x ≠ y → u < 0 → -u ≤ l.vStop → planRun l x (n + 1) dt ⟨y, v, e⟩ = planRun l x n dt ⟨y, sg * l.vStart, e⟩) ∧
    (x ≠ y → u < 0 → l.vBrk < -u → l.vBrk < -u - l.decHi * dt →
      planRun l x (n + 2) dt ⟨y, v, e⟩ = (⟨y + v * dt + sg * l.decHi * dt * dt / 2, v + sg * l.decHi * dt, e⟩, 0, false)) ∧
    (x ≠ y → 0 < u → sg * (x - y) ≤ l.stopDist u → l.vBrk < u → l.vBrk < u - l.decHi * dt →
      x ≠ y + v * dt - sg * l.decHi * dt * dt / 2 →
      planRun l x (n + 2) dt ⟨y, v, e⟩ = (⟨y + v * dt - sg * l.decHi * dt * dt / 2, v - sg * l.decHi * dt, e⟩, 0, false)) ∧
    (∀ w, x ≠ y → l.vStop ≤ u → 0 < u → u < l.vBrk → u < l.cap → w = (if l.cap < l.vBrk then l.cap else l.vBrk) → 0 < l.accLo → u + l.accLo * dt < w →
      l.stopDist w + (w * w - u * u) / (2 * l.accLo) ≤ sg * (x - y) →
      planRun l x (n + 2) dt ⟨y, v, e⟩ = (⟨y + v * dt + sg * l.accLo * dt * dt / 2, v + sg * l.accLo * dt, e⟩, 0, false)) ∧
    (x ≠ y → 0 < u → u = l.cap → l.stopDist u + u * dt < sg * (x - y) →
      planRun l x (n + 2) dt ⟨y, v, e⟩ = (⟨y + v * dt, v, e⟩, 0, false))) ∧
  ∀ (s : State),
    (∀ (a : Fin 24) (k : Axis), k = axis s a.val →
      (axUsed s a.val = false ∨ islRuns s islMOTION = false → exec (.axisServoInstant a) s = .next s) ∧
      (∃ t, exec (.axisServoInstant a) s = .next t ∧ EverythingBut (bellParts ++ [.lift, .motion, .door, .mem, .coresRest]) s t) ∧
      (16 ≤ a.val → axUsed s a.val = true → islRuns s islMOTION = true → k.cmds = [] → s.motion.cmdQ = 0 → k.reread = false →
        k.edgeLo = false → k.edgeHi = false → ¬(k.limLo = true ∧ k.limHi = true) →
        (k.st = .disabled ∨ k.st = .idle ∨ k.st = .stopped ∨ k.st = .faulted →
          exec (.axisServoInstant a) s = .next (axisPublish a.val (modAxis a.val (fun y => { y with spPrev := y.sp, sp := setPointOf y }) s))) ∧
        (k.st = .moving → k.obsDec = false → ∀ p d fin,
          planRun (lawAt s a.val k.y k.x) k.x 60 (mkRat (servoUs s a.val) 1000000) ⟨k.y, k.v, k.exact⟩ = (p, d, fin) →
          (permit s (axCar s a.val) (if k.relevel then 3 else 0) = true →
            (fin = false → exec (.axisServoInstant a) s = .next (axisPublish a.val (modAxis a.val (fun y => { y with
              y := p.y, v := p.v, exact := p.exact, spPrev := y.sp, sp := setPointOf { y with y := p.y, v := p.v, exact := p.exact } }) s))) ∧
            (fin = true → liftOwned s a.val = true → ∃ t, exec (.axisServoInstant a) s = .next t ∧ EverythingBut [.lift, .motion, .mem] s t ∧
              t.lift.evts = s.lift.evts ++ [(1, a.val, .ok, 0, k.req)] ∧ axis t a.val = { k with
                st := .idle, y := p.y, v := p.v, exact := p.exact, spPrev := k.sp, sp := setPointOf { k with y := p.y, v := p.v, exact := p.exact }
                seq := add32 k.seq 2 })) ∧
          (permit s (axCar s a.val) (if k.relevel then 3 else 0) = false → fin = false → ∃ t, exec (.axisServoInstant a) s = .next t ∧
            EverythingBut (bellParts ++ [.lift, .motion, .mem]) s t ∧ (axis t a.val).x = k.x ∧ (axis t a.val).y = p.y ∧
            ((axN s a.val 0 1).testBit 1 = true → (axis t a.val).st = .stopped ∧ (axis t a.val).v = 0) ∧
            ((axN s a.val 0 1).testBit 1 = false → p.v ≠ 0 → (axis t a.val).st = .stopping ∧ (axis t a.val).after = .stopped ∧
              (axis t a.val).v = p.v))))) ∧
    (∀ (a : Nat), a < 24 → s.mem.wf = true → ∀ b t, b = motBase + 0x2000 + 64 * a → t = axisPublish a s →
      EverythingBut [.motion, .mem] s t ∧ t.mem.readN b 8 = s.time.centre % 2 ^ 64 ∧ t.mem.readN (b + 12) 1 = (axis s a).st.code ∧
      t.mem.readN (b + 16) 8 = ofSigned 64 (axis s a).sp ∧ t.mem.readN (b + 24) 8 = ofSigned 64 (axis s a).x ∧
      ∀ q, q < b ∨ b + 64 ≤ q → t.mem.read q = s.mem.read q) ∧
    (∀ (a : Fin 24) (k : Axis), k = axis s a.val →
      (islRuns s islMOTION = false ∨ k.st ≠ .homing → exec (.homingTimeout a) s = .next s) ∧
      (islRuns s islMOTION = true → k.st = .homing →
        (k.v = 0 ∨ (axN s a.val 0 1).testBit 1 = true → exec (.homingTimeout a) s = .next (motEvent a.val 4 .ok 3 k.req
          (modAxis a.val (fun y => { y with st := .faulted, fault := 3, home := none, v := 0, obsDec := false }) s))) ∧
        (k.v ≠ 0 → (axN s a.val 0 1).testBit 1 = false → exec (.homingTimeout a) s = .next (motEvent a.val 4 .ok 3 k.req
          (modAxis a.val (fun y => { y with st := .stopping, after := .faulted, fault := 3, home := none }) s)))) ∧
      (∀ (hi level : Bool) (ns act : Nat) (on : Bool), act = axN s a.val (if hi then 37 else 36) 1 → on = (level != act.testBit 7) →
        (islRuns s islMOTION = false → exec (.limitInputActive a hi level ns) s = .next s) ∧
        (islRuns s islMOTION = true → k.st ≠ .homing →
          (on = false ∨ (if hi then k.limHi else k.limLo) = true ∨ (if hi then towardHi s a.val k.v else towardLo s a.val k.v) = false ∨
              (k.st ≠ .moving ∧ k.st ≠ .geared ∧ k.st ≠ .stopping) →
            exec (.limitInputActive a hi level ns) s = .next (modAxis a.val (fun y => { y with
              limHi := if hi then on else y.limHi, limLo := if hi then y.limLo else on }) s)) ∧
          (on = true → (if hi then k.limHi else k.limLo) = false → (if hi then towardHi s a.val k.v else towardLo s a.val k.v) = true →
            (k.st = .moving ∨ k.st = .geared ∨ k.st = .stopping) →
            (act % 4 = 2 → a.val < 16 → exec (.limitInputActive a hi level ns) s =
              .next (motEvent a.val 3 .ok 0 k.req (motEvent a.val 5 .ok 0 k.req (modAxis a.val (fun y => { y with
                limHi := if hi then on else y.limHi, limLo := if hi then y.limLo else on, home := none
                st := .stopped, y := y.y + y.v * mkRat ns 1000000000, v := 0, obsDec := false }) s)))) ∧
            (act % 4 ≠ 2 ∨ 16 ≤ a.val → exec (.limitInputActive a hi level ns) s = .next (modAxis a.val (fun y => { y with
              limHi := if hi then on else y.limHi, limLo := if hi then y.limLo else on
              edgeHi := hi || y.edgeHi, edgeLo := !hi || y.edgeLo }) s)))))) ∧
    (∀ (c : Fin 4) (req : BitVec 64) (k : EscChan), k = esc s c.val →
      (islRuns s islMOTION = false → exec (.escClear c req) s = .next s) ∧
      (islRuns s islMOTION = true →
        (escConditions s c.val &&& k.trips ≠ 0 → exec (.escClear c req) s = .next (answer (24 + c.val) false req.toNat s)) ∧
        (escConditions s c.val &&& k.trips = 0 → exec (.escClear c req) s =
          .next (motEvent (24 + c.val) 1 .ok 0 req.toNat (modEsc c.val (fun x => { x with trips := 0 }) s)))) ∧
      (∀ (counts : Int) (l r ms : Nat),
        (escUsed s c.val = false ∨ escMode s = false ∨ islRuns s islMOTION = false → exec (.escalatorEvaluation c counts l r ms) s = .next s) ∧
        (escUsed s c.val = true → escMode s = true → islRuns s islMOTION = true → ∃ t, exec (.escalatorEvaluation c counts l r ms) s = .next t ∧
          EverythingBut (bellParts ++ [.lift, .motion, .mem, .kerb, .log]) s t ∧
          ∀ (n : Int) (v : Rat), n = (if (escN s c.val 0 1).testBit 1 then -counts else counts) →
            v = absR (mkRat (((n :: k.hist).take 100).foldl (· + ·) 0 * (escN s c.val 4 4 : Nat)) 65536) * 10 →
            (esc t c.val).count = k.count + n ∧ (esc t c.val).run = escRun s c.val ∧
            (∀ b, k.trips.testBit b = true → (esc t c.val).trips.testBit b = true) ∧
            (((10 * escN s c.val 2 2 * escN s c.val 12 1 : Nat) : Rat) < v * 100 → (esc t c.val).trips.testBit 0 = true) ∧
            (v * 100 ≤ ((10 * escN s c.val 2 2 * escN s c.val 12 1 : Nat) : Rat) → k.trips.testBit 0 = false →
              (esc t c.val).trips.testBit 0 = false)))) ∧
    (∀ w : Word,
      (islRuns s islMOTION = false ∨ bits w 63 56 ≠ 0x4D ∨ bits w 1 0 ≠ 1 → exec (.motApply w) s = .next s) ∧
      (islRuns s islMOTION = false ∨ bits w 63 56 ≠ 0x4D ∨ bits w 1 0 ≠ 2 → exec (.tableInvalidate w) s = .next s) ∧
      (islRuns s islMOTION = true → bits w 63 56 = 0x4D →
        (bits w 1 0 = 1 →
          (∀ r, motBad (motRecords s) = some r → exec (.motApply w) s = .next { s with motion := { s.motion with
            result := .refused, refuseAt := r % 4096 } }) ∧
          (motBad (motRecords s) = none → motApplyWaits s (motRecords s) = true → exec (.motApply w) s = .next { s with motion := { s.motion with
            result := .busy, next := some (motRecords s) } }) ∧
          (motBad (motRecords s) = none → motApplyWaits s (motRecords s) = false → exec (.motApply w) s = .next { s with motion := { s.motion with
            result := .ok, refuseAt := 0, next := none, tabs := motRecords s } })) ∧
        (bits w 1 0 = 2 → ∃ t, exec (.tableInvalidate w) s = .next t ∧ EverythingBut [.motion] s t ∧
          t.motion = { s.motion with axes := t.motion.axes } ∧
          ∀ a, a < 24 → axis t a = { axis s a with reread := (axis s a).reread || (decide (a < 16) && (bits w 35 8).testBit a) }))) ∧
    (islRuns s islMOTION = false ∨ s.motion.next = none → exec .motApplyDeferred s = .next s) ∧
    (∀ m, islRuns s islMOTION = true → s.motion.next = some m →
      (motApplyWaits s m = true → exec .motApplyDeferred s = .next s) ∧
      (motApplyWaits s m = false → exec .motApplyDeferred s = .next { s with motion := { s.motion with
        result := .ok, refuseAt := 0, next := none, tabs := m } }))

/-! ### The door drive (chapter 13) -/

/-- R317 to R324: a table address update, the standstill scale, the chopper's states, the threshold offset of R320, short pulses, and a
change of sign. -/
def Obligations.ChoppersOfADoorAxis : Prop :=
  (∀ (p : DPhase) (i : Rat), (setCurrent i p).iset = i ∧
    (p.iset * i < 0 ∨ (p.iset = 0 ∧ i ≠ 0 ∧ p.neg ≠ decide (i < 0)) → (setCurrent i p).carry = 0 ∧ (setCurrent i p).carried = 0 ∧
      (setCurrent i p).timed = none ∧
      (p.chop = .blank ∨ p.chop = .on ∨ p.chop = .slow → (setCurrent i p).chop = .deadOff) ∧
      (p.chop ≠ .blank → p.chop ≠ .on → p.chop ≠ .slow → (setCurrent i p).chop = p.chop)) ∧
    (0 ≤ p.iset * i → (p.iset ≠ 0 ∨ i = 0 ∨ p.neg = decide (i < 0)) → setCurrent i p = { p with iset := i })) ∧
  ∀ (s : State) (a : Fin 16) (k : DoorAxis), k = door s a.val →
    (∀ (d : Int) (pct : Rat), d = (s.time.uptime : Int) - k.changedAt - 1000000 * (ddN s a.val 8 2 : Nat) → pct = mkRat (ddN s a.val 6 1) 100 →
      (d ≤ 0 → holdScale s a.val = 1) ∧ (100000000 ≤ d → holdScale s a.val = pct) ∧
      (0 < d → d < 100000000 → holdScale s a.val = 1 - (1 - pct) * mkRat d 100000000)) ∧
    (∀ (b : Bool) (p : DPhase) (tau on off q dI : Rat), p = phase s a.val b →
      (on ≤ 0 ∨ off ≤ 0 → adaptOfs s a.val tau on off p = { p with tau := tau }) ∧
      (0 < on → 0 < off → q = 1 - tau * (1 / on + 1 / off) → dI = hystBand s a.val p / q →
        (q ≤ 0 → adaptOfs s a.val tau on off p = { p with tau := tau }) ∧
        (0 < q → adaptOfs s a.val tau on off p = { p with
          tau := tau, sr := dI / on, sf := dI / off
          ofs := p.ofs + ((dI / on - dI / off) * tau / 2 - sigmaMa s a.val p - p.ofs) / 16 }))) ∧
    (∀ (j : Fin 250) (b : Bool) (n m : Nat) (i : Instr), i ∈ [Instr.tableAddressUpdate a j, .comparatorEdge a b b n m, .chopDeadTimeEnd a b n,
        .chopBlankEnd a b b, .chopFastDecayEnd a b, .standstillReduction a] → islRuns s islMOTION = false → exec i s = .next s) ∧
    (islRuns s islMOTION = true →
      (∀ j : Fin 250,
        (ddUsed s a.val = false → exec (.tableAddressUpdate a j) s = .next s) ∧
        (ddUsed s a.val = true → ∀ adr e, adr = (tableAddr s a.val j.val % 4096).toNat → e = (axis s a.val).mstep.readN (4 * adr) 4 →
          exec (.tableAddressUpdate a j) s = .next (formCurrents a.val (modDoor a.val (fun d => { d with
            addr := adr, ta := toSigned 16 (e % 65536), tb := toSigned 16 (e / 65536)
            changedAt := if adr = d.addr then d.changedAt else s.time.uptime }) s))) ∧
        ((axis s a.val).st ≠ .moving → (axis s a.val).st ≠ .homing → (axis s a.val).st ≠ .stopping → (axis s a.val).st ≠ .geared →
          tableAddr s a.val j.val = (axis s a.val).sp)) ∧
      (∃ t, exec (.standstillReduction a) s = .next t ∧ EverythingBut [.door] s t ∧ door t a.val = { k with
        a := setCurrent (currentOf s a.val k.ta) k.a, b := setCurrent (currentOf s a.val k.tb) k.b }) ∧
      (∀ (b : Bool) (p : DPhase), p = phase s a.val b →
        (∀ n, (p.chop = .deadOn → exec (.chopDeadTimeEnd a b n) s = .next (modPhase a.val b (fun p => { p with
            chop := .blank, onAt := n, neg := decide (p.iset < 0), fired := true }) s)) ∧
          (p.chop = .deadOff → exec (.chopDeadTimeEnd a b n) s = .next (modPhase a.val b (fun p => { p with
            chop := if p.neg ≠ decide (p.iset < 0) ∧ p.iset ≠ 0 then .fast else .slow }) s)) ∧
          (p.chop ≠ .deadOn → p.chop ≠ .deadOff → exec (.chopDeadTimeEnd a b n) s = .next s)) ∧
        (∀ above : Bool,
          (p.chop ≠ .blank → exec (.chopBlankEnd a b above) s = .next s) ∧
          (p.chop = .blank → above = false ∨ p.overCnt < 15 → exec (.chopBlankEnd a b above) s = .next (modPhase a.val b (fun p => { p with
            chop := .on, above := above, overCnt := if above then p.overCnt + 1 else 0 }) s)) ∧
          (p.chop = .blank → above = true → 15 ≤ p.overCnt → ∃ t, exec (.chopBlankEnd a b above) s = .next t ∧
            EverythingBut (bellParts ++ [.lift, .motion, .door, .mem]) s t ∧ (door t a.val).bridge = 1 ∧ (door t a.val).energised = false)) ∧
        (p.chop ≠ .fast → exec (.chopFastDecayEnd a b) s = .next s) ∧
        (∀ (dly n : Nat) (above : Bool) (s1 : State), s1 = modPhase a.val b (fun p => { p with above := above }) s →
          (k.energised = false ∨ (p.chop ≠ .on ∧ p.chop ≠ .slow) → exec (.comparatorEdge a b above dly n) s = .next s1) ∧
          (k.energised = true → p.chop = .on →
            (p.timed = none → above = true → 400 ≤ n - p.onAt → exec (.comparatorEdge a b above dly n) s = .next (modPhase a.val b (fun p => { p with
              above := above, chop := .deadOff, offAt := n, timed := none, tau := dly + 6 }) s)) ∧
            (p.timed = none → above = false ∨ n - p.onAt < 400 → exec (.comparatorEdge a b above dly n) s = .next s1) ∧
            (∀ l, p.timed = some l → (((n - p.onAt : Nat) : Rat) < l → exec (.comparatorEdge a b above dly n) s = .next s1) ∧
              (l ≤ ((n - p.onAt : Nat) : Rat) → exec (.comparatorEdge a b above dly n) s = .next (modPhase a.val b (fun p => { p with
                above := above, chop := .deadOff, offAt := n, timed := none, tau := dly + 6 }) s)))) ∧
          (k.energised = true → p.chop = .slow →
            (above = true ∨ (n - p.onAt) * ddN s a.val 12 1 < 1000000 → exec (.comparatorEdge a b above dly n) s = .next s1) ∧
            (above = false → 1000000 ≤ (n - p.onAt) * ddN s a.val 12 1 → ∃ s2, exec (.comparatorEdge a b above dly n) s = .next (turnOn a.val b s2) ∧
              phase s2 a.val b = (if p.fired then adaptOfs s a.val p.tau ((p.offAt - p.onAt : Nat) : Rat) ((n - p.offAt : Nat) : Rat)
                { p with above := false } else { p with above := false }) ∧ EverythingBut [.door] s s2))) ∧
        (p.chop = .fast → exec (.chopFastDecayEnd a b) s = .next (turnOn a.val b (modPhase a.val b (fun p => { p with chop := .slow }) s)))  ∧
        (∃ t, t = turnOn a.val b s ∧ EverythingBut [.door] s t ∧ (tCmd s a.val p = none → phase t a.val b = { p with
            chop := .deadOn, timed := none, carry := 0, carried := 0 }) ∧
          ∀ tc, tCmd s a.val p = some tc →
            (tMin s a.val ≤ tc + p.carry → phase t a.val b = { p with
              chop := .deadOn, timed := if p.carry = 0 then none else some (tc + p.carry), carry := 0, carried := 0 }) ∧
            (tc + p.carry < tMin s a.val →
              ((ddN s a.val 0 1).testBit 1 = true → t = modDoor a.val (fun d => { d with shortCnt := add32 d.shortCnt 1 }) s) ∧
              ((ddN s a.val 0 1).testBit 1 = false → p.carried < 16 → t = modPhase a.val b (fun p => { p with
                carry := tc + p.carry, carried := p.carried + 1 }) s) ∧
              ((ddN s a.val 0 1).testBit 1 = false → 16 ≤ p.carried → phase t a.val b = { p with
                chop := .deadOn, timed := some (tMin s a.val), carry := 0, carried := 0 } ∧ (door t a.val).shortCnt = add32 k.shortCnt 1)))))
/-- R321, R325 to R331 and R334: the sense offsets and OFFSET_CAL, back-EMF samples and the estimate, an obstruction at a servo instant, the
end of a NUDGE pause, a bridge fault, and APPLY. -/
def Obligations.EstimatesAndBridgeFaults : Prop :=
  ∀ (s : State) (a : Fin 16) (k : DoorAxis) (x : Axis), k = door s a.val → x = axis s a.val →
    (∀ (b : Bool) (c : Fin 4096) (n : Nat) (f : Fin 5) (w : Word) (i : Instr), i ∈ [Instr.senseOffsetMeasure a n (-n), .offsetCal w, .bemfSample a b c n,
        .estimate a, .nudgeResume a, .bridgeFault a f b, .ddApply w, .ddApplyDeferred] → islRuns s islMOTION = false → exec i s = .next s) ∧
    (islRuns s islMOTION = true →
      (∀ oa ob : Int,
        (k.energised = true ∨ ddUsed s a.val = false → exec (.senseOffsetMeasure a oa ob) s = .next s) ∧
        (k.energised = false → ddUsed s a.val = true →
          (500 < oa.natAbs ∨ 500 < ob.natAbs → ∃ t, exec (.senseOffsetMeasure a oa ob) s = .next t ∧
            EverythingBut (bellParts ++ [.lift, .motion, .door, .mem]) s t ∧ (door t a.val).bridge = 3 ∧ (door t a.val).energised = false ∧
            (door t a.val).a.sigma = oa ∧ (door t a.val).b.sigma = ob) ∧
          (oa.natAbs ≤ 500 → ob.natAbs ≤ 500 → ∃ t, exec (.senseOffsetMeasure a oa ob) s = .next t ∧ EverythingBut [.door] s t ∧
            (door t a.val).a.sigma = oa ∧ (door t a.val).b.sigma = ob ∧ (door t a.val).cal = false ∧
            ((door t a.val).energised = true ↔ x.st ≠ .disabled ∧ x.st ≠ .faulted ∧ k.bridge = 0 ∧ bridgeMode s = true) ∧
            ((door t a.val).energised = true → (door t a.val).a.chop = .deadOn ∧ (door t a.val).b.chop = .deadOn)))) ∧
      (∀ (b : Bool) (c : Fin 4096) (n : Nat) (p : DPhase), p = phase s a.val b →
        (p.chop ≠ .slow ∨ k.energised = false → exec (.bemfSample a b c n) s = .next s) ∧
        (p.chop = .slow → k.energised = true → ∀ e : Rat,
          e = (mkRat (c.val * 1200) 4096 - 600) * mkRat (ddN s a.val 22 2) 1000 - mkRat (ddN s a.val 16 2) 1000 * p.iset +
            (1000 * ddN s a.val 18 2 : Nat) * p.sf * sgnR p.iset →
          ∃ t, exec (.bemfSample a b c n) s = .next t ∧ EverythingBut [.door] s t ∧ phase t a.val b = { p with bemf := some (n, e) } ∧
            (∀ m y, (phase s a.val (!b)).bemf = some (m, y) → n - m ≤ 20000 → ∀ (r ea eb sg : Rat),
              r = sqrtR ((k.ta * k.ta + k.tb * k.tb : Int) : Rat) → ea = (if b then y else e) → eb = (if b then e else y) → sg = sgnR x.v → r ≠ 0 →
              (door t a.val).zRe = k.zRe + sg * (eb * k.ta - ea * k.tb) / r ∧ (door t a.val).zIm = k.zIm - sg * (ea * k.ta + eb * k.tb) / r ∧
              (door t a.val).n = k.n + 1) ∧
            ((phase s a.val (!b)).bemf = none ∨ (∃ m y, (phase s a.val (!b)).bemf = some (m, y) ∧ 20000 < n - m) →
              (door t a.val).zRe = k.zRe ∧ (door t a.val).n = k.n))) ∧
      (∀ ok : Prop, ok = (4 ≤ k.n ∧ k.vOk = true ∧ ((ddN s a.val 28 4 : Nat) : Rat) ≤ absR x.v) →
        (¬ok → exec (.estimate a) s = .next (modDoor a.val (fun d => { d with zRe := 0, zIm := 0, n := 0, estValid := false }) s)) ∧
        (ok → ∀ (delta : Int) (rho : Rat) (meets : Prop),
          delta = roundR (-(sgnR x.v)) * argDeg k.zRe k.zIm →
          rho = sqrtR (k.zRe * k.zRe + k.zIm * k.zIm) / (mkRat (ddN s a.val 20 2) 4096 * absR x.v * k.n) * 100 →
          meets = (((ddN s a.val 24 2 : Nat) : Int) < delta ∨ rho < (ddN s a.val 26 1 : Nat)) →
          ∃ t, exec (.estimate a) s = .next t ∧ EverythingBut [.door] s t ∧ (door t a.val).estValid = true ∧ (door t a.val).n = 0 ∧
            (door t a.val).delta = delta ∧
            (¬meets → (door t a.val).stall = false ∧ (door t a.val).meets = 0 ∧ (door t a.val).obs = k.obs) ∧
            (meets → k.meets = 0 → (door t a.val).stall = k.stall ∧ (door t a.val).meets = 1) ∧
            (meets → 1 ≤ k.meets → (door t a.val).stall = true ∧ (obsAllowed s a.val = true → (door t a.val).obs = true ∧ (door t a.val).armed = 0) ∧
              (obsAllowed s a.val = false → (door t a.val).obs = k.obs)))) ∧
      (∃ t : State, t = obstruction a.val s ∧ EverythingBut (bellParts ++ [.lift, .motion, .door, .mem]) s t ∧
        (door t a.val).obsCnt = add32 k.obsCnt 1 ∧
        (x.st = .geared → (axis t a.val).x = ddI s a.val 56 8 ∧ (axis t a.val).st = .moving ∧ (axis t a.val).obsDec = true) ∧
        (x.st = .moving → isClosing s a.val x.v = true →
          (k.nudge = true → (axis t a.val).x = x.x ∧ (axis t a.val).st = .stopping ∧ (axis t a.val).after = .stopped ∧ (door t a.val).pausing = true) ∧
          (k.nudge = false → permit s (axCar s a.val) 1 = true → (axis t a.val).x = ddI s a.val 48 8 ∧ (axis t a.val).st = .moving) ∧
          (k.nudge = false → permit s (axCar s a.val) 1 = false → (axis t a.val).x = ddI s a.val 48 8 ∧ (axis t a.val).st = .stopping)) ∧
        (x.st = .moving → isClosing s a.val x.v = false →
          ((ddN s a.val 0 1).testBit 3 = true → (axis t a.val).x = ddI s a.val 56 8 ∧ (axis t a.val).st = .moving) ∧
          ((ddN s a.val 0 1).testBit 3 = false → (axis t a.val).x = x.x ∧ (axis t a.val).st = .stopping))) ∧
      (k.pausing = false ∨ x.st ≠ .stopped → exec (.nudgeResume a) s = .next s) ∧
      (k.pausing = true → x.st = .stopped → exec (.nudgeResume a) s = .next (cmdResume a.val
        { op := 4, flags := 0, vcap := 0, target := 0, req := 0, arg := 0 } (modDoor a.val (fun d => { d with pausing := false }) s))) ∧
      (∀ f : Fin 5,
        exec (.bridgeFault a f false) s = .next (modDoor a.val (fun d => { d with bridgeOn := false }) s) ∧
        ∃ t, exec (.bridgeFault a f true) s = .next t ∧ EverythingBut (bellParts ++ [.lift, .motion, .door, .mem]) s t ∧
          door t a.val = { k with
            energised := false, bridge := f.val + 1, bridgeOn := true, bridgeCnt := add32 k.bridgeCnt 1
            a := { k.a with chop := .idle, timed := none, carry := 0, carried := 0, fired := false, overCnt := 0 }
            b := { k.b with chop := .idle, timed := none, carry := 0, carried := 0, fired := false, overCnt := 0 } } ∧
          (x.st ≠ .disabled → x.st ≠ .faulted → axis t a.val = { x with
            st := .faulted, v := 0, fault := 6, home := none, posValid := false, obsDec := false }) ∧
          (x.st = .disabled ∨ x.st = .faulted → axis t a.val = x)) ∧
      (∀ w : Word,
        (bits w 63 56 ≠ 0x44 ∨ bits w 1 0 ≠ 2 → exec (.offsetCal w) s = .next s) ∧
        (bits w 63 56 ≠ 0x44 ∨ bits w 1 0 ≠ 1 → exec (.ddApply w) s = .next s) ∧
        (bits w 63 56 = 0x44 → bits w 1 0 = 2 →
          ((∃ j, j < 16 ∧ (bits w 23 8).testBit j = true ∧ (axis s j).st ≠ .disabled) → exec (.offsetCal w) s =
            .next { s with door := { s.door with result := .refused } }) ∧
          ((∀ j, j < 16 → (bits w 23 8).testBit j = true → (axis s j).st = .disabled) → ∃ t, exec (.offsetCal w) s = .next t ∧ EverythingBut [.door] s t ∧
            t.door.result = .ok ∧ door t a.val = { k with cal := k.cal || (bits w 23 8).testBit a.val })) ∧
        (bits w 63 56 = 0x44 → bits w 1 0 = 1 → ∀ m bad, m = ddRecords s → bad = (List.range 16).findSome? (ddRecBad s.motion.tabs m) →
          (∀ r, bad = some r → exec (.ddApply w) s = .next { s with door := { s.door with result := .refused, refuseAt := r % 4096 } }) ∧
          (bad = none → ddApplyWaits s m = true → exec (.ddApply w) s = .next { s with door := { s.door with next := some m, result := .busy } }) ∧
          (bad = none → ddApplyWaits s m = false → ∃ t, exec (.ddApply w) s = .next t ∧ EverythingBut [.door] s t ∧
            t.door = { s.door with tabs := m, next := none, result := .ok, refuseAt := 0, doors := t.door.doors }))) ∧
      (s.door.next = none → exec .ddApplyDeferred s = .next s) ∧
      (∀ m, s.door.next = some m →
        (ddApplyWaits s m = true → exec .ddApplyDeferred s = .next s) ∧
        (ddApplyWaits s m = false → ∃ t, exec .ddApplyDeferred s = .next t ∧ EverythingBut [.door] s t ∧
          t.door = { s.door with tabs := m, next := none, result := .ok, refuseAt := 0, doors := t.door.doors })))

/-! ### Kerb (chapter 14) -/

/-- R346, R348, R349 and R351 with Tables 14.5 to 14.7: each instruction in RUN, the values a store leaves for later reads, each timer
type, and that a program word executes as the command it spells. -/
def Obligations.KerbInstructions : Prop :=
  (∀ (k : KerbState) (sp i : Nat) (z : Bool), kWritable sp i = true →
    ∀ sp' i', (operand (storeBit sp i z k) sp' i' = if sp' = sp ∧ i' = i then z else operand k sp' i')) ∧
  (∀ (k : KerbState) (sp i : Nat) (z : Bool), kWritable sp i = false → storeBit sp i z k = k) ∧
  (∀ (typ preset : Nat) (en : Bool) (t u : KTimer), u = timStep typ preset en t → u.last = en ∧
    (typ = 2 → u.elapsed = (if en ∧ t.last then min (t.elapsed + 20) (2 ^ 32 - 1) else 0) ∧ u.done = (en && decide (preset ≤ u.elapsed))) ∧
    (typ = 3 → (en = true → u.elapsed = 0 ∧ u.done = true) ∧
      (en = false → u.elapsed = min (t.elapsed + 20) (2 ^ 32 - 1) ∧ u.done = (t.done && decide (u.elapsed < preset)))) ∧
    (typ = 4 → (t.done = true → u.elapsed = min (t.elapsed + 20) (2 ^ 32 - 1) ∧ u.done = decide (u.elapsed < preset)) ∧
      (t.done = false → en = true → t.last = false → u.elapsed = 0 ∧ u.done = true) ∧
      (t.done = false → en = false ∨ t.last = true → u.elapsed = t.elapsed ∧ u.done = false))) ∧
  ∀ (s : State) (k : KerbState), k = s.kerb →
    (k.run ≠ .run → ∀ (n : Bool) (sp : Fin 16) (x t : Fin 4096) (ti : Fin 256) (e : Fin 512) (c : Fin 128) (car : BitVec 8) (i : Instr),
      i ∈ [Instr.kerbNop, .kerbLd n sp x, .kerbAnd n sp x, .kerbOr n sp x, .kerbXor n sp x, .kerbPush n sp x, .andp, .orp, .kerbSt n sp x, .kerbSet sp x,
        .kerbRst sp x, .tim ti, .edgr e, .edgf e, .ctu c, .ctd c, .cres c, .jmpc t, .jmp t, .cue car x, .frst x, .kerbEnd] →
      exec i s = .next s) ∧
    (k.run = .run →
      exec .kerbNop s = .next { s with kerb := { k with pc := k.pc + 1 } } ∧
      exec .kerbEnd s = .next { s with kerb := { k with pc := 4096 } } ∧
      (∀ (n : Bool) (sp : Fin 16) (x : Fin 4096) (v : Bool), v = (operand k sp.val x.val != n) →
        exec (.kerbLd n sp x) s = .next { s with kerb := { k with pc := k.pc + 1, acc := v } } ∧
        exec (.kerbAnd n sp x) s = .next { s with kerb := { k with pc := k.pc + 1, acc := k.acc && v } } ∧
        exec (.kerbOr n sp x) s = .next { s with kerb := { k with pc := k.pc + 1, acc := k.acc || v } } ∧
        exec (.kerbXor n sp x) s = .next { s with kerb := { k with pc := k.pc + 1, acc := k.acc != v } } ∧
        exec (.kerbPush n sp x) s = .next { s with kerb := { k with pc := k.pc + 1, stack := (k.acc :: k.stack).take 8, acc := v } }) ∧
      (∀ (b : Bool) (l : List Bool), k.stack = b :: l →
        exec .andp s = .next { s with kerb := { k with pc := k.pc + 1, stack := l, acc := b && k.acc } } ∧
        exec .orp s = .next { s with kerb := { k with pc := k.pc + 1, stack := l, acc := b || k.acc } }) ∧
      (k.stack = [] → exec .andp s = .next { s with kerb := { k with pc := k.pc + 1, acc := false } } ∧
        exec .orp s = .next { s with kerb := { k with pc := k.pc + 1 } }) ∧
      (∀ (n : Bool) (sp : Fin 16) (x : Fin 4096),
        exec (.kerbSt n sp x) s = .next { s with kerb := { storeBit sp.val x.val (k.acc != n) k with pc := k.pc + 1 } } ∧
        (k.acc = true → exec (.kerbSet sp x) s = .next { s with kerb := { storeBit sp.val x.val true k with pc := k.pc + 1 } } ∧
          exec (.kerbRst sp x) s = .next { s with kerb := { storeBit sp.val x.val false k with pc := k.pc + 1 } }) ∧
        (k.acc = false → exec (.kerbSet sp x) s = .next { s with kerb := { k with pc := k.pc + 1 } } ∧
          exec (.kerbRst sp x) s = .next { s with kerb := { k with pc := k.pc + 1 } })) ∧
      (∀ i : Fin 256,
        (kDecl k.prog [2, 3, 4] i.val = none → exec (.tim i) s = .next { s with kerb := { k with pc := k.pc + 1 } }) ∧
        (∀ d u, kDecl k.prog [2, 3, 4] i.val = some d → u = timStep (declN k.prog d 12 1) (declN k.prog d 16 4) k.acc k.timers[i] →
          exec (.tim i) s = .next { s with kerb := { k with pc := k.pc + 1, timers := k.timers.set i.val u, acc := u.done } })) ∧
      (∀ (i : Fin 512) (up down : Bool),
        up = (match k.edges[i].last with | none => false | some l => !l && k.acc) →
        down = (match k.edges[i].last with | none => false | some l => l && !k.acc) →
        exec (.edgr i) s = .next { s with kerb := { k with pc := k.pc + 1, edges := k.edges.set i.val ⟨some k.acc, up⟩, acc := up } } ∧
        exec (.edgf i) s = .next { s with kerb := { k with pc := k.pc + 1, edges := k.edges.set i.val ⟨some k.acc, down⟩, acc := down } }) ∧
      (∀ (i : Fin 128) (n : Nat) (done : Nat → Bool), n = k.counts[i] →
        done = (fun v => match kDecl k.prog [6] i.val with | some d => decide (declN k.prog d 16 4 ≤ v) | none => false) →
        (k.acc = false → ∀ c ∈ [Instr.ctu i, .ctd i, .cres i], exec c s = .next { s with kerb := { k with pc := k.pc + 1, acc := done n } }) ∧
        (k.acc = true →
          (n < 2 ^ 32 - 1 → exec (.ctu i) s = .next { s with kerb := { k with pc := k.pc + 1, counts := k.counts.set i.val (n + 1), acc := done (n + 1) } }) ∧
          (n = 2 ^ 32 - 1 → exec (.ctu i) s = .next { s with kerb := { k with pc := k.pc + 1, acc := done n } }) ∧
          exec (.ctd i) s = .next { s with kerb := { k with pc := k.pc + 1, counts := k.counts.set i.val (n - 1), acc := done (n - 1) } } ∧
          exec (.cres i) s = .next { s with kerb := { k with pc := k.pc + 1, counts := k.counts.set i.val 0, acc := done 0 } })) ∧
      (∀ t : Fin 4096, exec (.jmp t) s = .next { s with kerb := { k with pc := t.val } } ∧
        (k.acc = true → exec (.jmpc t) s = .next { s with kerb := { k with pc := t.val } }) ∧
        (k.acc = false → exec (.jmpc t) s = .next { s with kerb := { k with pc := k.pc + 1 } })) ∧
      (∀ (car : BitVec 8) (cue : Fin 4096),
        (k.acc = false → exec (.cue car cue) s = .next { s with kerb := { k with pc := k.pc + 1 } }) ∧
        (k.acc = true → ∃ e, exec (.cue car cue) s = .next { s with kerb := { k with
            pc := k.pc + 1, cueSeq := add32 k.cueSeq 1, cues := k.cues ++ [e] } } ∧ e.length = 32 ∧
          ofLeBytes (e.take 2) = cue.val ∧ ofLeBytes ((e.drop 2).take 1) = 7 ∧ ofLeBytes ((e.drop 3).take 1) = car.toNat ∧
          ofLeBytes ((e.drop 4).take 4) = add32 k.cueSeq 1 ∧
          ofLeBytes ((e.drop 8).take 8) = (if s.time.centreValid then s.time.centre else 0) % 2 ^ 64 ∧
          ofLeBytes ((e.drop 16).take 4) = k.progTag % 2 ^ 32 ∧ ofLeBytes ((e.drop 20).take 4) = k.runEpoch % 2 ^ 32 ∧
          ofLeBytes (e.drop 24) = 0)) ∧
      (∀ (x : Fin 4096) (k1 : KerbState), k1 = { k with pc := k.pc + 1 } →
        (k.acc = false → exec (.frst x) s = .next { s with kerb := k1 }) ∧
        (k.acc = true → x.val < 192 → x.val % 2 = 0 →
          (k.disc.testBit x.val = true → pairOff k.prog (fun n => k.latFilt.getLsbD n) x.val = true → ∃ t, exec (.frst x) s = .next t ∧
            EverythingBut [.kerb, .log, .mem] s t ∧ t.kerb = { k1 with
              disc := setBitN k.disc x.val false, wait := setBitN k.wait x.val (!pairOff k.prog (filtBit k) x.val) } ∧ t.log.seq = s.log.seq + 1) ∧
          (k.disc.testBit x.val = false ∨ pairOff k.prog (fun n => k.latFilt.getLsbD n) x.val = false → exec (.frst x) s = .next { s with kerb := k1 })) ∧
        (k.acc = true → 256 ≤ x.val → x.val < 288 →
          (k.outFault.testBit (x.val - 256) = true → rbOff k (x.val - 256) (k.rb.getLsbD (x.val - 256)) = true → ∃ t, exec (.frst x) s = .next t ∧
            EverythingBut [.kerb, .log, .mem] s t ∧ t.kerb = { k1 with outFault := setBitN k.outFault (x.val - 256) false } ∧
            t.log.seq = s.log.seq + 1) ∧
          (k.outFault.testBit (x.val - 256) = false ∨ rbOff k (x.val - 256) (k.rb.getLsbD (x.val - 256)) = false →
            exec (.frst x) s = .next { s with kerb := k1 })) ∧
        (k.acc = true → 320 ≤ x.val → x.val < 384 →
          (k.tripOff.testBit (x.val - 320) = true → exec (.frst x) s = .next { s with kerb := { k1 with
            tripFrst := setBitN k.tripFrst (x.val - 320) true } }) ∧
          (k.tripOff.testBit (x.val - 320) = false → exec (.frst x) s = .next { s with kerb := k1 })) ∧
        ((x.val < 192 ∧ x.val % 2 = 1) ∨ (192 ≤ x.val ∧ x.val < 256) ∨ (288 ≤ x.val ∧ x.val < 320) ∨ 384 ≤ x.val →
          exec (.frst x) s = .next { s with kerb := k1 })) ∧
      (∀ (n : Bool) (sp : Fin 16) (x : Fin 4096) (car : BitVec 8) (op : Nat) (i : Instr),
        (op, i) ∈ [(1, Instr.kerbLd n sp x), (2, .kerbAnd n sp x), (3, .kerbOr n sp x), (4, .kerbXor n sp x), (5, .kerbPush n sp x), (6, .andp), (7, .orp),
          (8, .kerbSt n sp x), (9, .kerbSet sp x), (10, .kerbRst sp x), (0x18, .jmpc x), (0x19, .jmp x), (0x1A, .cue car x), (0x1B, .frst x),
          (0x3F, .kerbEnd), (0, .kerbNop)] →
        exec i s = .next (kInstr (op * 2 ^ 26 + b2n n * 2 ^ 25 + sp.val * 2 ^ 21 + car.toNat * 2 ^ 13 + x.val) s)) ∧
      (∀ (t : Fin 256) (e : Fin 512) (c : Fin 128) (op j : Nat) (i : Instr),
        (op, j, i) ∈ [(0x10, t.val, Instr.tim t), (0x11, e.val, .edgr e), (0x12, e.val, .edgf e), (0x13, c.val, .ctu c), (0x14, c.val, .ctd c),
          (0x15, c.val, .cres c)] →
        exec i s = .next (kInstr (op * 2 ^ 26 + j) s)))

/-- R338 to R345, R349, R350 and R357: when an output is energised and a permit is 1, what trips a path, logical inputs, the events at
Kerb's balls, and what one scan latches and commits. -/
def Obligations.TripsOutputsAndScans : Prop :=
  ∀ (s : State) (k : KerbState), k = s.kerb →
    (kerbRun s = true ↔ k.run = .run ∧ s.mode.mode ∈ [Mode.night, .service, .inspection, .recall, .update]) ∧
    (∀ n, n < 32 → ((kerbOutputs s).testBit n = true ↔ kerbRun s = true ∧ k.oCom.testBit n = true ∧ k.outFault.testBit n = false ∧
      ∀ j, j < 64 → k.active.testBit j = true → (tripN k.trips j 24 8).testBit n = false)) ∧
    (∀ c p, c < 8 → p < 4 → (permit s c p = true ↔ kerbRun s = true ∧ k.permits.testBit (4 * c + p) = true ∧
      ∀ j, j < 64 → k.active.testBit j = true → (tripN k.trips j 24 8).testBit (32 + 4 * c + p) = false)) ∧
    (∀ (m : Memory) (j f : Nat), f = tripN m j 16 1 →
      (f.testBit 0 = false → tripCond m s j = false) ∧
      (f.testBit 0 = true → f.testBit 1 = false →
        (tripCond m s j = true ↔ ∃ i, i < 8 ∧ tripN m j (2 * i) 2 % 512 ≠ 0x1FF ∧ termVal s (tripN m j (2 * i) 2) = true)) ∧
      (f.testBit 0 = true → f.testBit 1 = true →
        (tripCond m s j = true ↔ ∀ i, i < 8 → tripN m j (2 * i) 2 % 512 ≠ 0x1FF → termVal s (tripN m j (2 * i) 2) = true))) ∧
    (∀ t, (t % 512 < 192 → termVal s t = (k.kin.getLsbD (t % 512) != t.testBit 15)) ∧
      (192 ≤ t % 512 → termVal s t = (decide (0 < (esc s (t % 512 - 256)).trips) != t.testBit 15))) ∧
    (∀ n, n < 192 →
      (pairOf k.prog (n - n % 2) = 0 → logicalIn k n = k.filt.getLsbD n) ∧
      (pairOf k.prog (n - n % 2) ≠ 0 → n % 2 = 1 → logicalIn k n = false) ∧
      (pairOf k.prog n ≠ 0 → n % 2 = 0 → (logicalIn k n = true ↔ k.filt.getLsbD n = true ∧
        k.filt.getLsbD (n + 1) = decide (pairOf k.prog n ≠ 2) ∧ k.disc.testBit n = false ∧ k.wait.testBit n = false))) ∧
    (∀ (kin : BitVec 192) (s1 : State), s1 = { s with kerb := { k with kin := kin } } →
      (k.run ≠ .run → exec (.tripPathTrip kin) s = .next s1) ∧
      (k.run = .run → ∃ t, exec (.tripPathTrip kin) s = .next t ∧ EverythingBut [.kerb, .host, .log, .mem] s t ∧
        (∀ j, t.kerb.active.testBit j = true ↔ k.active.testBit j = true ∨ (j < 64 ∧ tripCond k.trips s1 j = true)) ∧
        (∀ j, t.kerb.latched.testBit j = true ↔ k.latched.testBit j = true ∨
          (j < 64 ∧ tripCond k.trips s1 j = true ∧ (tripN k.trips j 16 1).testBit 2 = true)) ∧
        t.kerb = { k with
          kin := kin, active := t.kerb.active, latched := t.kerb.latched, mirror := t.kerb.mirror, event := t.kerb.event } ∧
        vget t.kerb.mirror 3 0 = BitVec.ofNat 64 t.kerb.active ∧
        (vget k.mirror 3 0 ≠ BitVec.ofNat 64 t.kerb.active → t.host.attnCause.testBit 5 = true ∧ t.kerb.event.testBit 1 = true))) ∧
    (∀ (n : Fin 192) (v : Bool),
      (k.run = .off → ∃ kin, exec (.kinFilterChange n v) s = .next { s with kerb := { k with kin := kin } } ∧
        ∀ i, i < 192 → kin.getLsbD i = if i = n.val then v else k.kin.getLsbD i) ∧
      (k.run ≠ .off → ∃ t, exec (.kinFilterChange n v) s = .next t ∧ EverythingBut [.kerb, .host, .log, .mem] s t ∧
        (∀ i, i < 192 → t.kerb.filt.getLsbD i = (if i = n.val then v else k.filt.getLsbD i) ∧
          t.kerb.kin.getLsbD i = (if i = n.val then v else k.kin.getLsbD i) ∧
          tgetD t.kerb.rises i 0 = tgetD k.rises i 0 + (if i = n.val ∧ v = true ∧ k.filt.getLsbD i = false then 1 else 0)) ∧
        t.kerb = { k with
          kin := t.kerb.kin, filt := t.kerb.filt, rises := t.kerb.rises, wait := t.kerb.wait, active := t.kerb.active
          latched := t.kerb.latched, mirror := t.kerb.mirror, event := t.kerb.event } ∧
        (k.run = .run → ∀ j, t.kerb.active.testBit j = true ↔ k.active.testBit j = true ∨
          (j < 64 ∧ tripCond k.trips { s with kerb := { k with kin := t.kerb.kin } } j = true)))) ∧
    (∀ (i : Fin 96) (differ : Prop), differ = (pairOf k.prog (2 * i.val) ≠ 0 ∧
        (k.filt.getLsbD (2 * i.val) = k.filt.getLsbD (2 * i.val + 1) ↔ pairOf k.prog (2 * i.val) = 2)) →
      (k.run ≠ .run ∨ ¬differ ∨ k.disc.testBit (2 * i.val) = true → exec (.discrepancyLatch i) s = .next s) ∧
      (k.run = .run → differ → k.disc.testBit (2 * i.val) = false → ∃ t, exec (.discrepancyLatch i) s = .next t ∧
        EverythingBut [.kerb, .log, .mem] s t ∧ t.log.seq = s.log.seq + 1 ∧ t.kerb = { k with
          disc := setBitN k.disc (2 * i.val) true, discCnt := satInc 16 k.discCnt, event := setBitN k.event 4 true })) ∧
    (∀ (n : Fin 32) (x f : Bool) (g : Nat) (k1 : KerbState), f = (kerbOutputs s).testBit n.val → g = kp k.prog (832 + 4 * n.val) 1 →
      k1 = { k with outFault := setBitN k.outFault n.val true, outFaultCnt := satInc 16 k.outFaultCnt, event := setBitN k.event 3 true } →
      (f = false ∨ g.testBit 0 = false ∨ x ≠ g.testBit 2 → exec (.readbackFault n x) s =
        .next { s with kerb := { k with rb := BitVec.ofNat 32 (setBitN k.rb.toNat n.val x) } }) ∧
      (f = true → g.testBit 0 = true → x = g.testBit 2 → ∃ t, exec (.readbackFault n x) s = .next t ∧ EverythingBut [.kerb, .log, .mem] s t ∧
        t.kerb = { k1 with rb := BitVec.ofNat 32 (setBitN k.rb.toNat n.val x) } ∧ t.log.seq = s.log.seq + 1) ∧
      (f = false ∨ g.testBit 1 = false ∨ x = true → exec (.outputTestPulse n x) s = .next s) ∧
      (f = true → g.testBit 1 = true → x = false → ∃ t, exec (.outputTestPulse n x) s = .next t ∧ EverythingBut [.kerb, .log, .mem] s t ∧
        t.kerb = k1 ∧ t.log.seq = s.log.seq + 1)) ∧
    (∀ rb : BitVec 32,
      (k.run ≠ .run → exec (.kerbScan rb) s = .next s) ∧
      (k.run = .run → ∃ a l r u t : State, exec (.kerbScan rb) s = .next t ∧ a = tripEval (progExchange (tripExchange s)) ∧
        l = scanLatch rb a ∧ r = kRunProg 4097 l ∧
        EverythingBut [.isl, .host, .log, .consent, .arc, .cores, .kerb, .mem] s u ∧
        (s.consent.kerbProgramNew = false → s.consent.tripPathsNew = false → a = tripEval s) ∧
        (l.kerb.acc = false ∧ l.kerb.pc = 0 ∧ l.kerb.stack = [] ∧ l.kerb.cues = [] ∧ l.kerb.rises = [] ∧ l.kerb.rb = rb ∧
          l.kerb.latFilt = a.kerb.filt ∧ l.kerb.latDisc = a.kerb.disc ∧ l.kerb.latS = statusLines a ∧ l.kerb.flags = a.kerb.flags ∧
          l.kerb.o = a.kerb.o ∧ l.kerb.p = a.kerb.p ∧ l.kerb.c = a.kerb.c ∧
          (∀ n, n < 192 → l.kerb.latLog.testBit n = logicalIn l.kerb n) ∧
          (∀ j, j < 64 → l.kerb.tripOff.testBit j = !tripCond a.kerb.trips a j)) ∧
        (∀ (x : State) (f : Nat), (x.kerb.pc < kInstrs x.kerb.prog → kRunProg (f + 1) x = kRunProg f (kInstr (kWord x.kerb.prog x.kerb.pc) x)) ∧
          (kInstrs x.kerb.prog ≤ x.kerb.pc → kRunProg f x = x)) ∧
        (u.kerb.oCom = r.kerb.o ∧ u.kerb.pCom = r.kerb.p ∧ u.kerb.cCom = r.kerb.c ∧ u.kerb.scanCnt = add32 r.kerb.scanCnt 1 ∧
          u.kerb.cues = [] ∧ u.kerb.cueBuf.length ≤ 16 ∧
          (∀ j, u.kerb.active.testBit j = true ↔ j < 64 ∧ r.kerb.active.testBit j = true ∧
            (r.kerb.tripOff.testBit j = false ∨ ((tripN r.kerb.trips j 16 1).testBit 2 = true ∧ r.kerb.tripFrst.testBit j = false))) ∧
          (∀ c p (H : Nat → Bool), c < 8 → p < 4 → H = (fun i => roleVal r.kerb (kp r.kerb.prog (960 + 16 * c + 2 * i) 2)) →
            (u.kerb.permits.testBit (4 * c + p) = true ↔ r.kerb.p.testBit (4 * c + p) = true ∧
              (kp r.kerb.prog (960 + 16 * c + 12) 1).testBit 0 = true ∧
              (p = 0 → H 0 = true ∧ (H 1 = true ∨ (H 3 = true ∧ H 4 = true))) ∧ (p = 1 → H 2 = true ∧ H 5 = true) ∧
              (p = 2 → (kp r.kerb.prog (960 + 16 * c + 12) 1).testBit 1 = true ∧ H 0 = true ∧ H 3 = true ∧ H 4 = true) ∧
              (p = 3 → H 0 = true ∧ H 3 = true ∧ H 4 = true)))) ∧
        (kerbFaultOut u = false → kerbRecall u = false ∨ kerbRecall s = true → s.mode.mode ≠ .inspection → t.kerb = u.kerb ∧ t.mode = s.mode ∧
          ∀ i, i < 8 → (core t i).holdOverrun = false) ∧
        (kerbFaultOut u = true → kerbRun s = true → t.mode.mode = .safestop ∧ t.mode.entryCause = 0x43 ∧ t.mode.faultCause = 0x43) ∧
        (kerbFaultOut u = false → kerbRecall u = true → kerbRecall s = false →
          (s.mode.mode = .night ∨ s.mode.mode = .service → t.mode.mode = .recall ∧ t.mode.entryCause = 0x30) ∧
          (s.mode.mode = .inspection → t.mode = { s.mode with recallPending := true }))))

/-- R353, R354, R360 and R361: what an exchange keeps of every instance and trip path, and what a Kerb fault and a compare failure do. -/
def Obligations.ExchangesAndFaults : Prop :=
  ∀ (s : State) (k : KerbState), k = s.kerb →
    (s.consent.kerbProgramNew = false ∨ k.run ≠ .run → exec .programExchange s = .next s) ∧
    (s.consent.tripPathsNew = false ∨ k.run ≠ .run → exec .tripPathsExchange s = .next s) ∧
    (s.consent.kerbProgramNew = true → k.run = .run → ∀ m, m = nvmArea s 0x10000 0x10000 → ∃ t, exec .programExchange s = .next t ∧
      EverythingBut [.kerb, .log, .consent, .mem] s t ∧ t.log.seq = s.log.seq + 1 ∧ t.consent = { s.consent with kerbProgramNew := false } ∧
      t.kerb = { k with
        prog := m, progTag := payloadTag m (progLen m), exchCnt := satInc 16 k.exchCnt, event := setBitN k.event 7 true
        flags := t.kerb.flags, timers := t.kerb.timers, edges := t.kerb.edges, counts := t.kerb.counts } ∧
      ((∀ j, j < kDecls m → declOk m j = true) → ∀ j typ x, j < kDecls m → typ = declN m j 12 1 → x = declN m j 14 2 →
        (matchOf k.prog m j = none → (typ = 1 → t.kerb.flags.testBit x = false) ∧
          (2 ≤ typ → typ ≤ 4 → vget t.kerb.timers x ⟨0, false, false⟩ = ⟨0, false, false⟩) ∧
          (typ = 5 → vget t.kerb.edges x ⟨none, false⟩ = ⟨none, false⟩) ∧ (typ = 6 → vget t.kerb.counts x 0 = 0)) ∧
        (∀ i y, matchOf k.prog m j = some i → y = declN k.prog i 14 2 →
          i < kDecls k.prog ∧ declN k.prog i 12 1 = typ ∧ declN k.prog i 0 12 = declN m j 0 12 ∧
          (typ = 1 → t.kerb.flags.testBit x = k.flags.testBit y) ∧
          (2 ≤ typ → typ ≤ 4 → vget t.kerb.timers x ⟨0, false, false⟩ = vget k.timers y ⟨0, false, false⟩) ∧
          (typ = 5 → vget t.kerb.edges x ⟨none, false⟩ = vget k.edges y ⟨none, false⟩) ∧ (typ = 6 → vget t.kerb.counts x 0 = vget k.counts y 0)))) ∧
    (s.consent.tripPathsNew = true → k.run = .run → ∀ m, m = nvmArea s 0x2000 0x1000 → ∃ t, exec .tripPathsExchange s = .next t ∧
      EverythingBut [.kerb, .host, .log, .consent, .mem] s t ∧ t.consent = { s.consent with tripPathsNew := false } ∧
      (∀ j, t.kerb.active.testBit j = true ↔ k.active.testBit j = true ∨ (j < 64 ∧ (tripCond k.trips s j = true ∨ tripCond m s j = true))) ∧
      t.kerb = { k with
        trips := m, tripTag := payloadTag m 2064, exchCnt := satInc 16 k.exchCnt, active := t.kerb.active, latched := t.kerb.latched
        mirror := t.kerb.mirror, event := t.kerb.event }) ∧
    (k.run = .off ∨ k.run = .fault → exec (.kerbFault .supply) s = .next s ∧ exec (.kerbFault .clock) s = .next s ∧
      exec (.kerbFault .ecc) s = .next s ∧ ∀ (c : Fin 160) (u : Fin 4), exec (.compareFailure c u) s = .next s) ∧
    (∃ t, exec (.kerbFault .gone) s = .next t ∧ EverythingBut [.isl, .islRest] s t ∧ isl t islKERB = { isl s islKERB with faulted := false } ∧
      ∀ i, i ≠ islKERB → isl t i = isl s i) ∧
    (k.run = .test ∨ k.run = .run → ∀ (c : Fin 160) (w : Fin 4) (i : Instr) (n : Nat),
      (i, n) ∈ [(Instr.kerbFault .supply, 1), (.kerbFault .clock, 2), (.kerbFault .ecc, 3), (.compareFailure c w, 4)] →
      ∃ u t, exec i s = .next t ∧ t = safestopCause 0x42 u ∧ EverythingBut [.mode, .isl, .islRest, .host, .log, .kerb, .mem] s u ∧
        u.mode = { s.mode with kerbCompare := s.mode.kerbCompare || n == 4 } ∧ (isl u islKERB).faulted = true ∧ (isl u islKERB).latched = true ∧
        u.kerb = { k with
          run := .fault, intFault := n, compare := k.compare || n == 4, permits := 0
          mirror := u.kerb.mirror, event := u.kerb.event } ∧
        kerbOutputs u = 0 ∧ (∀ c p, permit u c p = false) ∧
        (s.mode.mode ∈ [Mode.bringup, .night, .service, .inspection, .recall, .update] → t.mode.mode = .safestop ∧ t.mode.entryCause = 0x42 ∧
          t.mode.faultCause = 0x42) ∧
        (s.mode.mode = .dormant ∨ s.mode.mode = .safestop → t = u))

/-! ### Bandstand (chapter 15) -/

/-- R367, R379, R382 and R386: a START and what becomes of its request, which voice is taken or stolen, and the commands that name a
HANDLE or a cue. -/
def Obligations.StartsAndVoices : Prop :=
  ∀ (s : State),
    (islRuns s islAUDIO = false → ∀ (kind prio note vel car : Fin 256) (id zones hold cue p0 p1 : BitVec 16) (excl : Bool) (t req : BitVec 64)
      (h : BitVec 32) (i : Instr), i ∈ [Instr.start kind prio id note vel zones hold excl t req, .release h req, .kill h req, .bsCue prio cue car t req,
        .setP h p0 p1 req] → exec i s = .next s) ∧
    (islRuns s islAUDIO = true →
      (∀ (kind prio note vel : Fin 256) (id zones hold : BitVec 16) (excl : Bool) (t req : BitVec 64),
        (6 < prio.val ∨ (kind.val ≠ 1 ∧ kind.val ≠ 2) →
          exec (.start kind prio id note vel zones hold excl t req) s = .next (bsEvent 4 .refused 0 req.toNat s)) ∧
        (prio.val ≤ 6 → kind.val = 1 ∨ kind.val = 2 → exec (.start kind prio id note vel zones hold excl t req) s = .next (submit {
          phrase := kind.val == 2, id := id.toNat, note := note.val, vel := vel.val, prio := prio.val, zones := zones.toNat
          start := if t = 0 then none else some t.toNat, hold := hold.toNat, excl := excl, cue := 0xFFFF, car := 0xFF, repeats := 0, gap := 0
          src := .cmd req.toNat } s))) ∧
      (∀ (h : BitVec 32) (p0 p1 : BitVec 16) (req : BitVec 64) (v : Nat) (x : Voice), v = h.toNat % 256 → x = voice s v →
        (x.st = .free ∨ x.count ≠ h.toNat / 256 → ∀ i ∈ [Instr.release h req, .kill h req, .setP h p0 p1 req],
          exec i s = .next (bsEvent 4 .refused h.toNat req.toNat s)) ∧
        (x.st ≠ .free → x.count = h.toNat / 256 → x.next = none →
          (∃ t, exec (.release h req) s = .next t ∧ EverythingBut [.bs, .isl, .host, .arc, .cores, .mem] s t ∧
            (x.st = .active → voice t v = { x with st := .release, gate := false, env := x.env.map envRelease }) ∧
            (x.st = .release ∨ x.st = .ramp → voice t v = x) ∧ (x.st = .pending → voice t v = { Voice.init with count := x.count }) ∧
            ∀ w, w ≠ v → voice t w = voice s w) ∧
          (∃ t, exec (.kill h req) s = .next t ∧ EverythingBut [.bs, .isl, .host, .arc, .cores, .mem] s t ∧
            (x.st = .pending → voice t v = { Voice.init with count := x.count }) ∧
            (x.st ≠ .pending → voice t v = { x with
              rampAt := some (match x.rampAt with | some m => min m s.bs.nextN | none => s.bs.nextN), req := x.req.map (fun r => { r with repeats := 0 }) }) ∧
            ∀ w, w ≠ v → voice t w = voice s w) ∧
          (∃ t, exec (.setP h p0 p1 req) s = .next t ∧ EverythingBut [.bs, .isl, .host, .arc, .cores, .mem] s t ∧
            voice t v = { x with p0 := p0.toInt, p1v := p1.toInt } ∧ ∀ w, w ≠ v → voice t w = voice s w))) ∧
      (∀ (prio car : Fin 256) (cue : BitVec 16) (t req : BitVec 64) (e : Nat), e = 0x10000 + 16 * cue.toNat →
        (6 < prio.val ∨ 4096 ≤ cue.toNat ∨ bsN s e 1 = 0 → exec (.bsCue prio cue car t req) s = .next (bsEvent 4 .refused 0 req.toNat s)) ∧
        (prio.val ≤ 6 → cue.toNat < 4096 → bsN s e 1 ≠ 0 → (bsN s (e + 7) 1).testBit 1 = false →
          exec (.bsCue prio cue car t req) s = .next (submit {
            phrase := bsN s e 1 == 2, id := bsN s (e + 2) 2, note := bsN s (e + 4) 1, vel := bsN s (e + 5) 1, prio := min 6 (bsN s (e + 1) 1)
            zones := if (bsN s (e + 7) 1).testBit 0 && car.val < 8 then bsN s (0x1300 + 2 * car.val) 2 else bsN s (e + 8) 2
            start := some ((if t = 0 then bsNow s else t.toNat) + 1000000 * bsN s (e + 14) 2), hold := if bsN s e 1 = 1 then bsN s (e + 12) 2 else 0
            excl := (bsN s (e + 7) 1).testBit 2, cue := cue.toNat, car := car.val, repeats := bsN s (e + 6) 1, gap := bsN s (e + 10) 2
            src := .cmd req.toNat } s))) ∧
      (∀ (r : StartReq) (ok : Prop), ok = (lowestPrio s.mode.mode ≤ r.prio ∧ (r.phrase = false → (bsN s (0x20000 + 256 * r.id) 1).testBit 0 = true) ∧
          (r.phrase = true → ∃ e, s.bs.dir[r.id]? = some e ∧ (e.format = 1 ∨ e.format = 2))) →
        (¬ok → ∃ t, submit r s = t ∧ EverythingBut [.bs, .isl, .host, .arc, .cores, .mem] s t ∧ t.bs.refuseCnt = satInc 16 s.bs.refuseCnt ∧
          t.bs.voices = s.bs.voices ∧ t.bs.p7 = s.bs.p7) ∧
        (ok → r.excl = false → submit r s = allocReq r s) ∧
        (ok → r.excl = true → isRepeat s r = true → ∃ t, submit r s = t ∧ t.bs.voices = s.bs.voices ∧ t.bs.cueDupCnt = satInc 16 s.bs.cueDupCnt ∧
          t.bs.waiting = s.bs.waiting) ∧
        (ok → r.excl = true → isRepeat s r = false →
          (∃ q, (∃ v, (v, q) ∈ announcing s) ∧ (q.zones &&& r.zones) ≠ 0 ∧ r.prio ≤ q.prio) ∨
            (∃ q, q ∈ s.bs.waiting ∧ (q.zones &&& r.zones) ≠ 0 ∧ r.prio ≤ q.prio) →
          submit r s = { s with bs := { s.bs with waiting := s.bs.waiting ++ [r] } }) ∧
        (ok → r.excl = true → isRepeat s r = false →
          (∀ v q, (v, q) ∈ announcing s → (q.zones &&& r.zones) = 0) → (∀ q, q ∈ s.bs.waiting → (q.zones &&& r.zones) = 0 ∨ q.prio < r.prio) →
          submit r s = allocReq r s)) ∧
      (∀ r : StartReq,
        (∀ v, freeChoice s r = some v → v < voiceCount s.mode.mode ∧ (voice s v).st = .free ∧ reqUnits r ≤ freeUnits s (voiceCore v) ∧
          (∀ w, w < voiceCount s.mode.mode → (voice s w).st = .free → reqUnits r ≤ freeUnits s (voiceCore w) →
            freeUnits s (voiceCore w) < freeUnits s (voiceCore v) ∨ (freeUnits s (voiceCore w) = freeUnits s (voiceCore v) ∧ v ≤ w)) ∧
          ∃ t, allocReq r s = t ∧ EverythingBut [.bs, .isl, .host, .arc, .cores, .mem] s t ∧
            voice t v = { Voice.init with st := .pending, req := some r, count := ((voice s v).count + 1) % 2 ^ 24 } ∧
            ∀ w, w ≠ v → voice t w = voice s w) ∧
        (r.prio < 7 → voiceCount s.mode.mode ≤ ((liveVoices s).filter (fun x => x.2.busy && decide (x.2.prio < 7))).length + 64 → freeChoice s r = none) ∧
        (∀ v, stealChoice s r = some v → (voice s v).st ≠ .free ∧ (voice s v).prio < r.prio ∧ (voice s v).next = none ∧
          (∀ w, w < voiceCount s.mode.mode → (voice s w).st ≠ .free → (voice s w).next = none → (voice s w).prio < r.prio →
            islRuns s (islSC (voiceCore w)) = true →
            reqUnits r ≤ freeUnits s (voiceCore w) + (match (voice s w).req with | some q => reqUnits q | none => 0) →
            candBefore (w, voice s w) (v, voice s v) = false)) ∧
        (∀ v, freeChoice s r = none → stealChoice s r = some v → ∃ t, allocReq r s = t ∧
          EverythingBut [.bs, .isl, .host, .arc, .cores, .mem] s t ∧ t.bs.stealCnt = satInc 16 s.bs.stealCnt ∧
          ((voice s v).st = .pending → voice t v = { Voice.init with st := .pending, req := some r, count := ((voice s v).count + 1) % 2 ^ 24 }) ∧
          ((voice s v).st ≠ .pending → ∃ m, voice t v = { voice s v with
            next := some r, nextP0 := 0, nextP1 := 0, nextHeld := false, stolen := true, count := ((voice s v).count + 1) % 2 ^ 24
            rampAt := some m, req := (voice s v).req.map (fun q => { q with repeats := 0 }) } ∧
            (∀ at_, r.start = some at_ → m ≤ max (sampleAt s at_ - rampLen s) s.bs.nextN)) ∧
          ∀ w, w ≠ v → voice t w = voice s w) ∧
        (freeChoice s r = none → stealChoice s r = none →
          (r.prio < 7 → ∃ t, allocReq r s = t ∧ t.bs.voices = s.bs.voices ∧ t.bs.refuseCnt = satInc 16 s.bs.refuseCnt ∧ t.bs.p7 = s.bs.p7) ∧
          (7 ≤ r.prio → s.bs.p7.length < 16 → allocReq r s = { s with bs := { s.bs with p7 := s.bs.p7 ++ [(r, bsNow s)] } }) ∧
          (7 ≤ r.prio → 16 ≤ s.bs.p7.length → ∃ t, allocReq r s = t ∧ t.bs.voices = s.bs.voices ∧ t.bs.p7 = s.bs.p7 ∧
            t.bs.refuseCnt = satInc 16 s.bs.refuseCnt))))

/-- R368, R379, R385 and R387: how a cue is resolved and when one already started is merged, restarted or discarded, the entries of the
three sources of cues, MIDI messages, and the requests that waited 2 s in the priority-7 FIFO. -/
def Obligations.CuesAndMidi : Prop :=
  ∀ (s : State),
    (islRuns s islAUDIO = false → ∀ (node car prio : Fin 256) (ch : Fin 16) (note vel : Fin 128) (bend : Fin 16384) (seq cue : BitVec 16) (t : BitVec 64)
      (i : Instr), i ∈ [Instr.kerbCueEntry, .liftCue, .audioCue node seq cue car prio t, .noteOn ch note vel, .noteOff ch note,
        .controlChange ch note vel, .programChange ch note, .channelPressure ch note, .pitchBend ch bend, .activeSensing, .midiSensingTimeout,
        .p7FifoTimeout] → exec i s = .next s) ∧
    (∀ (cue car : Nat) (stamp : Option Nat) (seven isLocal : Bool) (src : BsSrc) (e : Nat), e = 0x10000 + 16 * cue →
      (4096 ≤ cue ∨ bsN s e 1 = 0 → ∃ x, resolveCue cue car stamp seven isLocal src s = x ∧
        EverythingBut [.bs, .isl, .host, .arc, .cores, .mem] s x ∧ x.bs.voices = s.bs.voices ∧ x.bs.waiting = s.bs.waiting ∧ x.bs.p7 = s.bs.p7) ∧
      (cue < 4096 → bsN s e 1 ≠ 0 → ∃ (x : State) (p at_ : Nat), p = (if seven then 7 else min 6 (bsN s (e + 1) 1)) ∧
        at_ = stamp.getD (bsNow s) + 1000000 * bsN s (e + 14) 2 ∧
        x = (if (bsN s (e + 7) 1).testBit 1 && isLocal then sendCue cue car p at_ s else s) ∧
        resolveCue cue car stamp seven isLocal src s = submit {
          phrase := bsN s e 1 == 2, id := bsN s (e + 2) 2, note := bsN s (e + 4) 1, vel := bsN s (e + 5) 1, prio := p
          zones := if (bsN s (e + 7) 1).testBit 0 && decide (car < 8) then bsN s (0x1300 + 2 * car) 2 else bsN s (e + 8) 2
          start := some at_, hold := if bsN s e 1 = 1 then bsN s (e + 12) 2 else 0
          excl := (bsN s (e + 7) 1).testBit 2, cue := cue, car := car, repeats := bsN s (e + 6) 1, gap := bsN s (e + 10) 2, src := src } x)) ∧
    (∀ (cue car p at_ : Nat), (s.blv.self = none → sendCue cue car p at_ s = s) ∧
      (s.blv.self ≠ none → ∃ f, sendCue cue car p at_ s = { s with link := { s.link with own := s.link.own ++ [(.audioCue, f)] } })) ∧
    (∀ (k : Option CueSeen) (epoch seq cue car : Nat) (stamp : Option Nat) (seven isLocal : Bool) (src : BsSrc),
      (k = none ∨ (∃ x, k = some x ∧ (x.epoch ≠ epoch ∨ x.seq < seq)) →
        cueEntry k epoch seq cue car stamp seven isLocal src s = resolveCue cue car stamp seven isLocal src s) ∧
      (∀ x, k = some x → x.epoch = epoch → seq ≤ x.seq →
        (x.lost = true → cueEntry k epoch seq cue car stamp seven isLocal src s = resolveCue cue car none seven isLocal src
          { s with bs := { s.bs with replayCnt := satInc 16 s.bs.replayCnt } }) ∧
        (x.lost = false → ∃ t, cueEntry k epoch seq cue car stamp seven isLocal src s = t ∧ t.bs.voices = s.bs.voices ∧ t.bs.waiting = s.bs.waiting ∧
          EverythingBut [.bs, .isl, .host, .arc, .cores] s t ∧
          t.bs.cueDupCnt = if (voice s x.voice).st ≠ .free ∧ (voice s x.voice).count = x.count then satInc 16 s.bs.cueDupCnt else s.bs.cueDupCnt))) ∧
    (islRuns s islAUDIO = true →
      (s.bs.kerbQ = 0 → exec .kerbCueEntry s = .next s) ∧
      (∀ r p x, s.bs.kerbQ ≠ 0 → qDequeue s.bs.kerbQ s = (r, p, x) →
        (r.status ≠ .ok → exec .kerbCueEntry s = .next x) ∧
        (r.status = .ok → ∀ epoch seq at_ y, epoch = le p 20 4 → seq = le p 4 4 → at_ = le p 8 8 →
          y = { x with bs := { x.bs with ackWait := x.bs.ackWait ++ [(epoch, seq, false)] } } →
          exec .kerbCueEntry s = .next (cueEntry y.bs.seenKerb epoch seq (le p 0 2) (le p 3 1) (if at_ = 0 then none else some at_)
            true true (.kerb epoch seq) y))) ∧
      (s.lift.cues = [] → exec .liftCue s = .next s) ∧
      (∀ cue c seq at_ rest, s.lift.cues = (cue, c, seq, at_) :: rest → exec .liftCue s = .next (cueEntry s.bs.seenLift 0 seq cue c
        (if s.time.centreValid then some at_ else none) false true (.lift seq) { s with lift := { s.lift with cues := rest } })) ∧
      (∀ (node car prio : Fin 256) (seq cue : BitVec 16) (at_ : BitVec 64) (e : Nat), e = 0x10000 + 16 * cue.toNat → cue.toNat < 4096 → bsN s e 1 ≠ 0 →
        tget s.bs.seenNode node.val = none → 1000000 * bsN s (e + 14) 2 ≤ at_.toNat → (prio.val = 7 ∨ bsN s (e + 1) 1 ≤ 6) →
        exec (.audioCue node seq cue car prio at_) s = .next (submit {
          phrase := bsN s e 1 == 2, id := bsN s (e + 2) 2, note := bsN s (e + 4) 1, vel := bsN s (e + 5) 1
          prio := if prio.val = 7 then 7 else bsN s (e + 1) 1
          zones := if (bsN s (e + 7) 1).testBit 0 && decide (car.val < 8) then bsN s (0x1300 + 2 * car.val) 2 else bsN s (e + 8) 2
          start := some at_.toNat, hold := if bsN s e 1 = 1 then bsN s (e + 12) 2 else 0
          excl := (bsN s (e + 7) 1).testBit 2, cue := cue.toNat, car := car.val, repeats := bsN s (e + 6) 1, gap := bsN s (e + 10) 2
          src := .node node.val seq.toNat } s)) ∧
      (∀ (node car prio : Fin 256) (seq cue : BitVec 16) (at_ : BitVec 64) (x : CueSeen), tget s.bs.seenNode node.val = some x → x.epoch = 0 →
        seq.toNat ≤ x.seq → x.lost = false → exec (.audioCue node seq cue car prio at_) s = .next (
          if (voice s x.voice).st ≠ .free ∧ (voice s x.voice).count = x.count then { s with bs := { s.bs with cueDupCnt := satInc 16 s.bs.cueDupCnt } } else s)) ∧
      (∀ (ch : Fin 16) (note vel : Fin 128) (b : Nat), b = 0x1200 + 8 * ch.val → vel.val ≠ 0 → exec (.noteOn ch note vel) s = .next (submit {
          phrase := false, id := (bsN s b 1 + (vget s.bs.midi ch.val MidiChan.init).program) % 256
          note := (note.val : Int) + toSigned 8 (bsN s (b + 2) 1), vel := vel.val, prio := min 5 (bsN s (b + 1) 1), zones := bsN s (b + 3) 2
          start := none, hold := 0, excl := false, cue := 0xFFFF, car := 0xFF, repeats := 0, gap := 0, src := .midi ch.val note.val } s)) ∧
      (∀ (ch : Fin 16) (note : Fin 128), ∃ t, exec (.noteOff ch note) s = .next t ∧ exec (.noteOn ch note 0) s = .next t ∧
        EverythingBut [.bs, .isl, .host, .arc, .cores, .mem] s t ∧
        (64 ≤ (vget s.bs.midi ch.val MidiChan.init).cc64 → VoicesMoved (Voice.onMidi (some ch.val) (some note.val))
          (fun x => if x.next ≠ none then { x with nextHeld := true } else { x with held := true }) s t) ∧
        ((vget s.bs.midi ch.val MidiChan.init).cc64 < 64 → VoicesMoved (Voice.onMidi (some ch.val) (some note.val)) Voice.released s t)) ∧
      (∀ (ch : Fin 16) (v : Fin 128) (m : MidiChan), m = vget s.bs.midi ch.val MidiChan.init →
        (∀ (i : Instr) (m' : MidiChan), (i, m') ∈ [(Instr.controlChange ch 1 v, { m with cc1 := v.val }), (.controlChange ch 11 v, { m with cc11 := v.val }),
            (.controlChange ch 16 v, { m with cc16 := v.val }), (.controlChange ch 17 v, { m with cc17 := v.val }), (.programChange ch v, { m with program := v.val }),
            (.channelPressure ch v, { m with pressure := v.val })] →
          exec i s = .next { s with bs := { s.bs with midi := vput s.bs.midi ch.val m' } }) ∧
        (∀ b : Fin 16384, exec (.pitchBend ch b) s = .next { s with bs := { s.bs with midi := vput s.bs.midi ch.val { m with bend := (b.val : Int) - 8192 } } }) ∧
        (64 ≤ v.val → exec (.controlChange ch 64 v) s = .next { s with bs := { s.bs with midi := vput s.bs.midi ch.val { m with cc64 := v.val } } }) ∧
        (v.val < 64 → ∃ t, exec (.controlChange ch 64 v) s = .next t ∧ EverythingBut [.bs, .isl, .host, .arc, .cores, .mem] s t ∧
          t.bs.midi = vput s.bs.midi ch.val { m with cc64 := v.val } ∧
          VoicesMoved (fun x => x.onMidi (some ch.val) none ∧ (if x.next ≠ none then x.nextHeld = true else x.held = true))
            (fun x => ({ x with held := false, nextHeld := false } : Voice).released) s t) ∧
        (∃ t, exec (.controlChange ch 120 v) s = .next t ∧ EverythingBut [.bs, .isl, .host, .arc, .cores, .mem] s t ∧
          VoicesMoved (Voice.onMidi (some ch.val) none) (Voice.ramped s.bs.nextN) s t) ∧
        (∃ t, exec (.controlChange ch 123 v) s = .next t ∧ EverythingBut [.bs, .isl, .host, .arc, .cores, .mem] s t ∧
          VoicesMoved (Voice.onMidi (some ch.val) none) Voice.released s t) ∧
        (∀ n : Fin 128, n.val ∉ [1, 11, 16, 17, 64, 120, 123] → exec (.controlChange ch n v) s = .next s)) ∧
      exec .activeSensing s = .next { s with bs := { s.bs with sensing := true } } ∧
      (s.bs.sensing = false → exec .midiSensingTimeout s = .next s) ∧
      (s.bs.sensing = true → ∃ t, exec .midiSensingTimeout s = .next t ∧ EverythingBut [.bs, .isl, .host, .arc, .cores, .mem] s t ∧
        t.bs.sensing = false ∧ ∀ v, v < 256 → (voice s v).next = none →
          (∀ r c k, (voice s v).st ≠ .free → (voice s v).req = some r → r.src = .midi c k → c < 16 → voice t v = (voice s v).released) ∧
          ((voice s v).st = .free ∨ (∀ r, (voice s v).req = some r → ∀ c k, r.src ≠ .midi c k) → voice t v = voice s v)) ∧
      (∃ t, exec .p7FifoTimeout s = .next t ∧ EverythingBut [.bs, .isl, .host, .arc, .cores, .mem] s t ∧ t.bs.voices = s.bs.voices ∧
        t.bs.p7 = s.bs.p7.filter (fun x => decide (bsNow s < x.2 + 2000000000)) ∧
        (s.bs.refuseCnt < 2 ^ 16 → t.bs.refuseCnt = min 65535 (s.bs.refuseCnt +
          (s.bs.p7.filter (fun x => decide (x.2 + 2000000000 ≤ bsNow s))).length))))

/-- R369, R383 and R388 to R390: a block of 32 samples, the first sample of a voice that starts, a zone's output and ducking, and the
actions of BS_CTL. -/
def Obligations.BlocksAndTables : Prop :=
  ∀ (s : State),
    (∀ (n : Nat) (al : Int) (pg : List (List Int)) (fd : List (Nat × Option (List Byte))) (ms : List Nat),
      (islRuns s islAUDIO = false ∨ s.mode.mode = .dormant → exec (.audioBlock n al pg fd ms) s = .next s) ∧
      (islRuns s islAUDIO = true → s.mode.mode ≠ .dormant → ∃ t, exec (.audioBlock n al pg fd ms) s = .next t ∧
        EverythingBut [.clock, .isl, .islRest, .host, .arc, .cores, .coresRest, .motion, .door, .bs, .fc, .pwm, .link, .mem] s t ∧
        (s.bs.woken = false → t.bs.nextN = n + 32 ∧ t.bs.alignNs = al ∧ t.bs.tabs = s.bs.nextTabs.getD s.bs.tabs ∧ t.bs.nextTabs = none ∧
          t.bs.inval = [] ∧ ∀ z : Nat, z < 16 → ∃ (voices : List (Nat × List (Nat × Rat × Rat))) (x y : State), y = mixZone z voices pg x ∧
          x.bs.tabs = t.bs.tabs ∧ vget t.bs.zones z ZoneSt.init = vget y.bs.zones z ZoneSt.init))) ∧
    (∀ (z : Nat) (voices : List (Nat × List (Nat × Rat × Rat))) (pg : List (List Int)) (t : State) (a b : ZoneSt) (full step : Rat) (r : Nat),
      z < 16 → t = mixZone z voices pg s → a = vget s.bs.zones z ZoneSt.init → b = vget t.bs.zones z ZoneSt.init → r = 0x1000 + 16 * z →
      full = mkRat (bsN s (r + 4) 2) 10 → step = 32 * full * 1000 →
      EverythingBut [.bs] s t ∧ (∀ w, w ≠ z → vget t.bs.zones w ZoneSt.init = vget s.bs.zones w ZoneSt.init) ∧ t.bs.voices = s.bs.voices ∧
      b.out.length = 32 ∧ (∀ p ∈ b.out, -8388608 ≤ p.1 ∧ p.1 ≤ 8388607 ∧ -8388608 ≤ p.2 ∧ p.2 ≤ 8388607) ∧
      ((bsN s r 1).testBit 1 = true ∨ (bsN s r 1).testBit 0 = false ∨ s.mode.mode = .bringup ∨ s.mode.mode = .dormant → ∀ p ∈ b.out, p = (0, 0)) ∧
      (b.ducked = true ↔ (∃ v ∈ voices, 6 ≤ v.1) ∨ ∃ q ∈ pagingRoutes s z, 6 ≤ q.2.1 ∧ loud (pg.getD q.1 []) = true) ∧
      (b.ducked = true → (bsN s r 1).testBit 2 = true → b.duck = min full (a.duck + step / ((max 1 (bsN s (r + 6) 2) * bsFs s : Nat) : Rat))) ∧
      (b.ducked = false ∨ (bsN s r 1).testBit 2 = false → b.duck = max 0 (a.duck - step / ((max 1 (bsN s (r + 8) 2) * bsFs s : Nat) : Rat)))) ∧
    (∀ (v n at_ : Nat) (r : StartReq), v < 256 → (voice s v).req = some r → at_ = (match r.start with | some t => sampleAt s t | none => n) →
      (n + 32 ≤ at_ → startVoice v n s = (none, s)) ∧
      (n ≤ at_ → at_ < n + 32 → ∃ t, startVoice v n s = (some (at_ - n), t) ∧ (voice t v).st = .active ∧ (voice t v).startN = at_ ∧
        (voice t v).req = some r ∧ t.bs.lateCnt = s.bs.lateCnt ∧ ∀ w, w ≠ v → voice t w = voice s w) ∧
      (at_ < n → (n - at_) * 10 ≤ bsFs s → ∃ (t x : State) (y : Voice), startVoice v n s = (some 0, t) ∧ y.st = .active ∧ y.startN = at_ ∧ y.req = some r ∧
        voice t v = advanceVoice x v n (n - at_) y ∧ t.bs.lateCnt = satInc 16 s.bs.lateCnt ∧ ∀ w, w ≠ v → voice t w = voice s w) ∧
      (at_ < n → bsFs s < (n - at_) * 10 → r.prio = 7 → ∃ t, startVoice v n s = (some 0, t) ∧ (voice t v).st = .active ∧ (voice t v).startN = n ∧
        (voice t v).req = some r ∧ t.bs.lateCnt = satInc 16 s.bs.lateCnt ∧ ∀ w, w ≠ v → voice t w = voice s w) ∧
      (at_ < n → bsFs s < (n - at_) * 10 → r.prio ≠ 7 → (voice s v).next = none → ∃ t, startVoice v n s = (none, t) ∧
        voice t v = { Voice.init with count := (voice s v).count } ∧ ∀ w, w ≠ v → voice t w = voice s w)) ∧
    (islRuns s islAUDIO = false → ∀ (w : Word) (dir : List Byte) (i : Instr), i ∈ [Instr.bsApply w, .wtInvalidate w, .stopAll w,
      .phraseReload w dir, .phraseReloadDeferred dir] → exec i s = .next s) ∧
    (islRuns s islAUDIO = true →
      (∀ (w : Word) (dir : List Byte) (i : Instr) (act : Nat), (i, act) ∈ [(Instr.bsApply w, 1), (.wtInvalidate w, 2), (.stopAll w, 3), (.phraseReload w dir, 4)] →
        bits w 63 56 ≠ 0x42 ∨ bits w 2 0 ≠ act → exec i s = .next s) ∧
      (∀ (w : Word) (m : Memory), bits w 63 56 = 0x42 → bits w 2 0 = 1 → m = blockTables bsBase 0x1000 0x40000 s →
        ((∀ x, x < 16 → zoneBad m x = none ∧ midiBad m x = none) → (∀ x, x < 8 → routeBad m x = none) → (∀ x, x < 4096 → cueBad m x = none) →
          (∀ x, x < 256 → patchBad m x = none ∧ wtBad m x = none) → kerbQBad s = false →
          exec (.bsApply w) s = .next { s with bs := { s.bs with result := .ok, refuseAt := 0, nextTabs := some m } }) ∧
        ((∃ x, x < 16 ∧ (zoneBad m x ≠ none ∨ midiBad m x ≠ none)) ∨ (∃ x, x < 8 ∧ routeBad m x ≠ none) ∨ (∃ x, x < 4096 ∧ cueBad m x ≠ none) ∨
          (∃ x, x < 256 ∧ (patchBad m x ≠ none ∨ wtBad m x ≠ none)) ∨ kerbQBad s = true →
          ∃ f, exec (.bsApply w) s = .next { s with bs := { s.bs with result := .refused, refuseAt := f } })) ∧
      (∀ w : Word, bits w 63 56 = 0x42 → bits w 2 0 = 2 → exec (.wtInvalidate w) s = .next { s with bs := { s.bs with
        inval := s.bs.inval ++ [bits w 15 8], result := .ok } }) ∧
      (∀ w : Word, bits w 63 56 = 0x42 → bits w 2 0 = 3 → ∃ t, exec (.stopAll w) s = .next t ∧
        EverythingBut [.bs, .isl, .host, .arc, .cores, .mem] s t ∧ VoicesMoved (fun x => x.st ≠ .free ∧ x.prio ≤ 5) (Voice.ramped s.bs.nextN) s t) ∧
      (∀ (w : Word) (dir : List Byte) (i : Instr), bits w 63 56 = 0x42 → bits w 2 0 = 4 → i = .phraseReload w dir ∨ (i = .phraseReloadDeferred dir ∧ s.bs.reload = true) →
        ((∃ v, v < 256 ∧ (voice s v).st ≠ .free ∧ (voice s v).entry ≠ none) → exec i s = .next { s with bs := { s.bs with reload := true, result := .busy } }) ∧
        ((∀ v, v < 256 → (voice s v).st = .free ∨ (voice s v).entry = none) →
          exec i s = .next { s with bs := { s.bs with dir := parseDir dir, reload := false, result := .ok } })) ∧
      (s.bs.reload = false → ∀ dir, exec (.phraseReloadDeferred dir) s = .next s)) ∧
    (∀ (d : List Byte) (i o : Nat), o = 16 * i → o + 16 ≤ d.length →
      (parseDir d)[i]? = some { offset := le d o 4, length := le d (o + 4) 4, format := le d (o + 8) 1, rate := le d (o + 10) 2, gain := toSigned 16 (le d (o + 12) 2) }) ∧
    (∀ (m : Memory) (i c : Nat), c = 0x10000 + 16 * i → (cueBad m i = none ↔ m.readN c 1 = 0 ∨
      (m.readN c 1 ≤ 2 ∧ m.readN (c + 1) 1 ≤ 7 ∧ m.readN (c + 4) 1 ≤ 127 ∧ m.readN (c + 5) 1 ≤ 127 ∧ m.readN (c + 6) 1 ≤ 15 ∧ m.readN (c + 7) 1 < 8 ∧
        m.readN (c + 14) 2 ≤ 1000 ∧
        (m.readN c 1 = 1 → m.readN (c + 2) 2 ≤ 255 ∧ (m.readN (0x20000 + 256 * m.readN (c + 2) 2) 1).testBit 0 = true) ∧
        (m.readN c 1 = 2 → m.readN (c + 2) 2 ≤ 4095) ∧
        ∀ z, z < 16 → (m.readN (c + 8) 2).testBit z = true → (m.readN (0x1000 + 16 * z) 1).testBit 0 = true)))

/-! ### Forecast (chapter 16) -/

/-- R404, R408, R413 and R415: a stream's input entries, the operations of FC_STREAM_CTL and what a waiting one becomes, notices, and the
update of a head's weights. -/
def Obligations.StreamsAndHeads : Prop :=
  ∀ (s : State),
    (islRuns s islFORECAST = false → ∀ (i : Fin 4096) (k : Fin 16) (src : BitVec 16) (w : Word) (file : Option (List Byte)) (c : Instr),
      c ∈ [Instr.fcInputEntry k, .chunkDue, .batchWriteBack, .create i k src, .delete i, .streamReset i, .headReset i, .freeze i, .thaw i,
        .streamCtlDeferred, .headUpdate, .fcApply w, .modelLoad w, .modelLoadComplete file, .checkpoint w, .checkpointInterval] → exec c s = .next s) ∧
    (islRuns s islFORECAST = true →
      (∀ k : Fin 16, slotRuns s k.val = false → exec (.fcInputEntry k) s = .next s) ∧
      (∀ (k : Fin 16), ∀ r p x, slotRuns s k.val = true → qDequeue (slN s k.val 2 2) s = (r, p, x) →
        (r.status ≠ .ok → exec (.fcInputEntry k) s = .next x) ∧
        (r.status = .ok → ∀ i seq, i = le p 0 2 → seq = le p 4 4 →
          ((fcStream s i = none ∨ ∃ y, fcStream s i = some y ∧ (y.slot ≠ k.val ∨ seq ≤ y.lastSeq)) → ∃ t, exec (.fcInputEntry k) s = .next t ∧
            t.fc.streams = s.fc.streams ∧ t.fc.dupCnt = satInc 16 s.fc.dupCnt) ∧
          (∀ y, fcStream s i = some y → y.slot = k.val → y.lastSeq < seq → ∃ (t : State) (tag : Nat), exec (.fcInputEntry k) s = .next t ∧
            t.fc.dupCnt = s.fc.dupCnt ∧ (∀ j, j ≠ i → fcStream t j = fcStream s j) ∧
            fcStream t i = some { y with pending := y.pending ++ [{
              tag := tag, reset := (le p 2 1).testBit 0, seq := seq, time := le p 8 8
              feat := (List.range 8).map (fun j => if j < le p 3 1 then toSigned 16 (le p (16 + 2 * j) 2) else 0) }] } ∧
            (fcSlot t k.val).ackWait = (fcSlot s k.val).ackWait ++ [(tag, false)]))) ∧
      (s.fc.waiting ≠ none → ∀ (i : Fin 4096) (k : Fin 16) (src : BitVec 16) (c : Instr),
        c ∈ [Instr.create i k src, .delete i, .streamReset i, .headReset i, .freeze i, .thaw i] → exec c s = .next s) ∧
      (s.fc.waiting = none → exec .streamCtlDeferred s = .next s) ∧
      (∀ (i : Fin 4096) (k : Fin 16) (src : BitVec 16) (c : Instr) (x : FcCtlOp),
        (c, x) ∈ [(Instr.create i k src, FcCtlOp.mk 1 k.val src.toNat i.val), (.delete i, .mk 2 0 0 i.val), (.streamReset i, .mk 3 0 0 i.val),
          (.headReset i, .mk 4 0 0 i.val), (.freeze i, .mk 5 0 0 i.val), (.thaw i, .mk 6 0 0 i.val)] →
        (s.fc.waiting = none → inChunk s i.val = true →
          exec c s = .next { s with fc := { s.fc with sResult := .busy, sOp := x.op, sStream := i.val, waiting := some x } }) ∧
        (s.fc.waiting = some x → inChunk s i.val = true → exec .streamCtlDeferred s = .next s) ∧
        (∀ d : Instr, (d = c ∧ s.fc.waiting = none) ∨ (d = .streamCtlDeferred ∧ s.fc.waiting = some x) → inChunk s i.val = false →
          (x.op = 1 → fcStream s i.val ≠ none ∨ (fcSlot s k.val).loaded = false ∨ sourceOk (mdKind (fcFile s k.val)) src.toNat = false ∨
              poolPlace s (ceilDiv (poolBytes (fcFile s k.val)) 64) = none →
            exec d s = .next { s with fc := { s.fc with sResult := .refused, sOp := 1, sStream := i.val, waiting := none } }) ∧
          (x.op = 1 → fcStream s i.val = none → (fcSlot s k.val).loaded = true → sourceOk (mdKind (fcFile s k.val)) src.toNat = true →
            ∀ o f y, poolPlace s (ceilDiv (poolBytes (fcFile s k.val)) 64) = some o → f = fcFile s k.val → y = FcStream.fresh k.val src.toNat o →
            ∃ S, exec d s = .next { s with
                fc := { s.fc with streams := S, sResult := .ok, sOp := 1, sStream := i.val, waiting := none }
                mem := ((s.mem.writeBytes (fcPool + 64 * o) (initState f)).writeBytes (fcHead i.val) (w0Bytes f)).writeBytes (fcEntryAt i.val) (fcEntryBytes y) } ∧
              ∀ j, tget S j = if j = i.val then some y else fcStream s j) ∧
          (x.op ≠ 1 → fcStream s i.val = none →
            exec d s = .next { s with fc := { s.fc with sResult := .refused, sOp := x.op, sStream := i.val, waiting := none } }) ∧
          (∀ y y', fcStream s i.val = some y → (x.op, y') ∈ [(3, { y with reset := true }), (5, { y with frozen := true }), (6, { y with frozen := false })] →
            ∃ S, exec d s = .next { s with
                fc := { s.fc with streams := S, sResult := .ok, sOp := x.op, sStream := i.val, waiting := none }
                mem := s.mem.writeBytes (fcEntryAt i.val) (fcEntryBytes y') } ∧
              ∀ j, tget S j = if j = i.val then some y' else fcStream s j) ∧
          (∀ y, fcStream s i.val = some y → x.op = 4 → exec d s = .next { s with
            fc := { s.fc with sResult := .ok, sOp := 4, sStream := i.val, waiting := none }
            mem := s.mem.writeBytes (fcHead i.val) (w0Bytes (fcFile s y.slot)) }) ∧
          (fcStream s i.val ≠ none → x.op = 2 → ∃ (t : State) (m : Memory), exec d s = .next t ∧ t.fc.sResult = .ok ∧ t.fc.sOp = 2 ∧ t.fc.sStream = i.val ∧
            t.fc.waiting = none ∧ t.mem = m.writeBytes (fcEntryAt i.val) (leBytes 32 0) ∧
            ∀ j, fcStream t j = if j = i.val then none else fcStream s j))) ∧
      (s.fc.headQ = 0 → exec .headUpdate s = .next s) ∧
      (∀ r p x, s.fc.headQ ≠ 0 → qDequeue s.fc.headQ s = (r, p, x) →
        (r.status = .ok → exec .headUpdate s = .next (headUpdate p (qAck s.fc.headQ 1 x).2)) ∧
        (r.status = .abort → exec .headUpdate s = .next (qAck s.fc.headQ 1 x).2) ∧
        (r.status ≠ .ok → r.status ≠ .abort → exec .headUpdate s = .next x))) ∧
    (∀ (typ : Nat) (set : Bool) (stream src time : Nat),
      (s.fc.noticeQ = 0 → fcNotice typ set stream src time s = s) ∧
      (∀ r x, s.fc.noticeQ ≠ 0 → qEnqueue s.fc.noticeQ (leBytes 1 typ ++ leBytes 1 (b2n set) ++ leBytes 2 stream ++ leBytes 4 src ++ leBytes 8 time) s = (r, x) →
        fcNotice typ set stream src time s = if r = .ok then x else { x with fc := { x.fc with noticeLost := true } })) ∧
    (∀ (p : List Byte) (i : Nat), i = le p 0 2 →
      (fcStream s i = none → headUpdate p s = { s with fc := { s.fc with rejectUpd := satInc 16 s.fc.rejectUpd } }) ∧
      (∀ x f lim, fcStream s i = some x → f = fcFile s x.slot → lim = limitN s (mdKind f) →
        ((lim 0 1).testBit 0 = false ∨ x.frozen = true ∨ (slN s x.slot 0 1).testBit 1 = false ∨ (fcSlot s x.slot).loaded = false →
          headUpdate p s = { s with fc := { s.fc with rejectUpd := satInc 16 s.fc.rejectUpd } }) ∧
        ((lim 0 1).testBit 0 = true → x.frozen = false → (slN s x.slot 0 1).testBit 1 = true → (fcSlot s x.slot).loaded = true →
          ((∀ k, k < 4 → vget x.ring k none ≠ some (le p 4 4)) →
            headUpdate p s = { s with fc := { s.fc with staleUpd := satInc 16 s.fc.staleUpd } }) ∧
          (s.mem.wf = true → ∀ k, k < 4 → vget x.ring k none = some (le p 4 4) → (∀ j, j < k → vget x.ring j none ≠ some (le p 4 4)) →
            ∀ (h : Nat) (mu n : Rat) (xs : List Int), h = mdHeadIn f →
              xs = (List.range h).map (fun j => toSigned 16 (s.mem.readN (stateAddr x + mdState f + 2 * h * k + 2 * j) 2)) →
              mu = mkRat (min (le p 8 2) (lim 2 2)) 65536 → n = mkRat (lim 8 2) 256 + sumR (xs.map (fun v => mkRat (v * v) (4096 * 4096))) →
            ∃ (m : Memory) (c : Nat), headUpdate p s = (if c = 0 then { s with mem := m, fc := { s.fc with clampCnt := satTo 16 s.fc.clampCnt } } else
                fcNotice 5 true i x.source x.time (clampRecord i { s with mem := m, fc := { s.fc with clampCnt := satTo 16 (s.fc.clampCnt + c) } })) ∧
              (∀ a, (∀ b, b < 2 * (mdOut f * h) → a ≠ fcHead i + b) → m.read a = s.mem.read a) ∧
              (∀ q, q < mdOut f * h → ∀ (w w0 d0 d v : Int), w = toSigned 16 (s.mem.readN (fcHead i + 2 * q) 2) → w0 = sle f (mdHeadOfs f + 2 * q) 2 →
                d0 = (mu * mkRat (sle p (12 + 2 * (q / h)) 2) 4096 * mkRat (xs.getD (q % h) 0) 4096 / n * 4096 + mkRat 1 2).floor →
                d = clampInt (-(lim 6 2 : Int)) (lim 6 2) d0 → v = clampInt (w0 - (lim 4 2 : Int)) (w0 + (lim 4 2 : Int)) (w + d) →
                toSigned 16 (m.readN (fcHead i + 2 * q) 2) = sat16 v ∧ (c = 0 → d = d0 ∧ sat16 v = w + d))))))

/-- R399 to R402, R405, R406, R411, R412, R418 and R424: curves and the recurrence, chunks and their write-back, the flag rules, APPLY and model
loads, and checkpoints. -/
def Obligations.ChunksAndModels : Prop :=
  ∀ (s : State),
    (∀ (c : List Byte) (x : Int) (k f : Nat), k < 64 → f < 1024 → x = 1024 * (k : Int) - 32768 + f →
      curveFine c x = sle c (8 + 2 * k) 2 + ((sle c (10 + 2 * k) 2 - sle c (8 + 2 * k) 2) * f + 512) / 1024) ∧
    (∀ (c : List Byte) (x : Int) (i : Nat), i < 8 → sle c (144 + 8 * i) 2 ≤ x → (∀ j, i < j → j < 8 → x < sle c (144 + 8 * j) 2) →
      curveCoarse c x = sat16 (sle c (148 + 8 * i) 2 + (sle c (146 + 8 * i) 2 * (x - sle c (144 + 8 * i) 2) + 2048) / 4096)) ∧
    (∀ (f : List Byte) (coarse : Bool) (l : Layer) (x : Int), (l.curve = 15 → applyCurve f coarse l x = x) ∧
      (l.curve ≠ 15 → ∀ c y, c = (f.drop (mdCurveOfs f + 256 * l.curve)).take 256 → y = (if coarse then curveCoarse c x else curveFine c x) →
        -32768 ≤ y → y ≤ 32767 → y - 1 ≤ applyCurve f coarse l x ∧ applyCurve f coarse l x ≤ y + 1)) ∧
    (∀ (f head : List Byte) (coarse : Bool) (feat : List Int) (len t : Nat) (r q : RowSt) (l : Layer), l.op = 4 → l.rows ≤ 64 →
      l.wofs + 4 * l.rows ≤ r.st.length → q = layStep f coarse head feat len t r l →
      q.st.length = r.st.length ∧ ∀ (i : Nat) (h : Int), i < l.rows →
        h = (clampInt 0 4096 (el (vec r.v l.src) i) * sle r.st (l.wofs + 4 * i) 4 + 2048) / 4096 + el (vec r.v l.src2) i * 4096 →
        sat16 ((h + 2048) / 4096) - 1 ≤ el (vec q.v l.dst) i ∧ el (vec q.v l.dst) i ≤ sat16 ((h + 2048) / 4096) + 1 ∧
        (len ≤ 1 → el (vec q.v l.dst) i = sat16 ((h + 2048) / 4096)) ∧
        (-(2 ^ 31 : Int) + 256 ≤ h → h < 2 ^ 31 - 256 → h - 256 ≤ sle q.st (l.wofs + 4 * i) 4 ∧ sle q.st (l.wofs + 4 * i) 4 ≤ h + 256 ∧
          (len ≤ 1 ∨ t + 1 < len → sle q.st (l.wofs + 4 * i) 4 = h))) ∧
    (islRuns s islFORECAST = true →
      (∃ (t : State) (R : List FcBatch), exec .chunkDue s = .next t ∧ t = { s with fc := { s.fc with running := R } } ∧
        (∀ b rest, R = b :: rest → b.coarse ≠ none) ∧
        ∀ k i x, k < 16 → i < 4096 → chunkDue s k = true → fcStream s i = some x → x.slot = k → x.fault = false → x.pending ≠ [] →
          ∃ b, b ∈ R ∧ b.slot = k ∧ b.rows.length ≤ 64 ∧
            (i, x.pending.take (mdChunk (fcFile s k)), s.mem.bytes (fcHead i) (2 * mdOut (fcFile s k) * mdHeadIn (fcFile s k))) ∈ b.rows) ∧
      (s.fc.running = [] → exec .batchWriteBack s = .next s) ∧
      (∀ b rest, s.fc.running = b :: rest → eccIn s (fcModel b.slot) 131072 = false → (b.rows.map (·.1)).Nodup →
        ∃ t, exec .batchWriteBack s = .next t ∧ t.fc.running.map (fun x => (x.slot, x.rows)) = rest.map (fun x => (x.slot, x.rows)) ∧
          (∀ j, (∀ r ∈ b.rows, r.1 ≠ j) → fcStream t j = fcStream s j) ∧
          ∀ r ∈ b.rows, ∀ x e, fcStream s r.1 = some x → r.2.1.getLast? = some e →
            ∃ y, fcStream t r.1 = some y ∧ y.lastSeq = e.seq ∧ y.time = e.time ∧ y.steps = x.steps + r.2.1.length ∧ y.reset = false ∧
              y.pending = x.pending.filter (fun q => r.2.1.all (fun p => q.tag != p.tag)) ∧ y.slot = x.slot ∧ y.source = x.source ∧ y.ofs = x.ofs ∧
              y.frozen = x.frozen ∧ y.fault = x.fault) ∧
      (∀ b rest, s.fc.running = b :: rest → eccIn s (fcModel b.slot) 131072 = true → b.slot < 16 → ∃ t, exec .batchWriteBack s = .next t ∧
        (fcSlot t b.slot).loaded = false ∧ (∀ x ∈ t.fc.running, x.slot ≠ b.slot) ∧
        ∀ j x, fcStream s j = some x → fcStream t j = some (if x.slot = b.slot then { x with fault := true } else x)) ∧
      (∀ (w : Word) (c : Instr) (act : Nat), (c, act) ∈ [(Instr.fcApply w, 1), (.modelLoad w, 2), (.checkpoint w, 3)] →
        bits w 63 56 ≠ 0x46 ∨ bits w 1 0 ≠ act → exec c s = .next s) ∧
      (∀ (w : Word) (m : Memory), bits w 63 56 = 0x46 → bits w 1 0 = 1 →
        m = (s.mem.filter (fun c => fcBase + 0x1000 ≤ c.1 && c.1 < fcBase + 0x1400)).map (fun c => (c.1 - fcBase, c.2)) →
        (∀ k r, k < 16 → slotBad s m k = some r → ∃ f, exec (.fcApply w) s = .next { s with fc := { s.fc with result := .refused, refuseAt := f } }) ∧
        ((∀ k, k < 16 → slotBad s m k = none) → ∃ t, exec (.fcApply w) s = .next t ∧ EverythingBut [.fc, .mem] s t ∧ t.fc.result = .ok ∧ t.fc.refuseAt = 0 ∧
          t.fc.streams = s.fc.streams ∧ ∀ k b old, k < 16 → b = Memory.bytes m (0x1000 + 64 * k) 64 → old = (fcSlot s k).recd →
            (fcSlot t k).recd = putBytes b 0 (leBytes 1 (le b 0 1 % 8)) ∧
            ((fcSlot t k).loaded = true ↔ (fcSlot s k).loaded = true ∧ le old 1 7 = le b 1 7 ∧ (le old 0 1).testBit 2 = (le b 0 1).testBit 2 ∧
              (le b 0 1).testBit 0 = true))) ∧
      (∀ (w : Word) (k : Nat), bits w 63 56 = 0x46 → bits w 1 0 = 2 → k = bits w 11 8 →
        (s.fc.loading ≠ none → exec (.modelLoad w) s = .next { s with fc := { s.fc with result := .busy } }) ∧
        (s.fc.loading = none → (slN s k 0 1).testBit 0 = false → exec (.modelLoad w) s = .next { s with fc := { s.fc with result := .refused, refuseAt := 0 } }) ∧
        (s.fc.loading = none → (slN s k 0 1).testBit 0 = true → exec (.modelLoad w) s = .next { s with fc := { s.fc with loading := some k, result := .busy } })) ∧
      (∀ (file : Option (List Byte)),
        (s.fc.loading = none → exec (.modelLoadComplete file) s = .next s) ∧
        (∀ k, s.fc.loading = some k → k < 16 →
          ((∃ b ∈ s.fc.running, b.slot = k) → exec (.modelLoadComplete file) s = .next s) ∧
          ((∀ b ∈ s.fc.running, b.slot ≠ k) →
            (file = none → exec (.modelLoadComplete file) s = .next { s with fc := { s.fc with loading := none, result := .abort } }) ∧
            (∀ f n, file = some f → modelBad f ((slN s k 0 1).testBit 2) (kindHeld s k (mdKind f)) = some n →
              exec (.modelLoadComplete file) s = .next { s with fc := { s.fc with loading := none, result := .refused, refuseAt := n } }) ∧
            (∀ f old, file = some f → modelBad f ((slN s k 0 1).testBit 2) (kindHeld s k (mdKind f)) = none → old = fcFile s k →
              ∃ t, exec (.modelLoadComplete file) s = .next t ∧ t.fc.loading = none ∧ t.fc.result = .ok ∧ t.fc.refuseAt = 0 ∧ (fcSlot t k).loaded = true ∧
                (mdState old = mdState f → mdOut old = mdOut f → mdHeadIn old = mdHeadIn f → s.mem.readN (fcModel k) 4 = 0x46434D31 →
                  (s.fc.streams.map (·.1)).Nodup →
                  ∀ j x, fcStream s j = some x → fcStream t j = some (if x.slot = k then { x with fault := false } else x)))))) ∧
      (∀ w : Word, bits w 63 56 = 0x46 → bits w 1 0 = 3 →
        exec (.checkpoint w) s = .next { s with fc := { s.fc with ckptJob := some (ckptTake s), result := .busy } }) ∧
      (bit s.fc.ckpt 63 = false → exec .checkpointInterval s = .next s) ∧
      (bit s.fc.ckpt 63 = true → exec .checkpointInterval s = .next { s with fc := { s.fc with ckptJob := some (ckptTake s), result := .busy } })) ∧
    (s.fc.ckptJob = none → exec .checkpointWriteComplete s = .next s) ∧
    (∀ j a b, s.fc.ckptJob = some j → a = (match s.fc.ckptA with | some y => y.1 | none => 0) → b = (match s.fc.ckptB with | some y => y.1 | none => 0) →
      (a ≤ b → exec .checkpointWriteComplete s = .next { s with fc := { s.fc with ckptA := some (b + 1, j), ckptJob := none, result := .ok } }) ∧
      (b < a → exec .checkpointWriteComplete s = .next { s with fc := { s.fc with ckptB := some (a + 1, j), ckptJob := none, result := .ok } })) ∧
    (∀ (i kind : Nat) (e : FcStep) (x : FcStream) (o set clr : Int), fcStream s i = some x → o = el x.out 0 →
      set = toSigned 32 (slN s x.slot 24 4) → clr = toSigned 32 (slN s x.slot 28 4) → clr ≤ set → kind = 3 ∨ kind = 4 →
      ∃ y, fcStream (scoreRule i kind e s) i = some y ∧
        (set ≤ o → y.hold = (if kind = 4 then satInc 8 x.hold else x.hold) ∧
          y.active = (x.active || decide (kind = 3) || decide (slN s x.slot 32 1 ≤ satInc 8 x.hold))) ∧
        (o < clr → y.hold = (if kind = 4 then 0 else x.hold) ∧ y.active = false) ∧
        (clr ≤ o → o < set → y.hold = x.hold ∧ y.active = x.active)) ∧
    (∀ (i time d : Nat) (x : FcStream) (z : Rat), fcStream s i = some x → x.win = some (d, z) →
      ∃ y, fcStream (leakClose i time s) i = some y ∧ y.win = none ∧
        (mkRat (toSigned 32 (slN s x.slot 24 4)) 65536 ≤ z → y.hold = satInc 8 x.hold ∧ y.active = (x.active || decide (slN s x.slot 32 1 ≤ satInc 8 x.hold))) ∧
        (z < mkRat (toSigned 32 (slN s x.slot 28 4)) 65536 → z < mkRat (toSigned 32 (slN s x.slot 24 4)) 65536 → y.hold = 0 ∧ y.active = false) ∧
        (z < mkRat (toSigned 32 (slN s x.slot 24 4)) 65536 → mkRat (toSigned 32 (slN s x.slot 28 4)) 65536 ≤ z → y.hold = x.hold ∧ y.active = x.active)) ∧
    (∀ (f : List Byte) (night same : Bool), modelBad f night same = none →
      96 + mdBody f ≤ f.length ∧ 96 + mdBody f ≤ 131072 ∧ le f 0 4 = 0x46434D31 ∧ le f 4 2 = 1 ∧ shaN ((f.drop 96).take (mdBody f)) = le f 32 32 ∧
      kindShape (mdKind f) (mdIn f) (mdOut f) = true ∧ same = false ∧ laysBad f [] (mdLayerList f) = false ∧
      (∃ l, (mdLayerList f).getLast? = some l ∧ l.op = 7 ∧ l.cols = mdHeadIn f) ∧ ((mdLayerList f).filter (fun l => l.op == 7)).length = 1 ∧
      (mdChunk f = 1 ∨ ∀ l ∈ mdLayerList f, l.op ≠ 5 ∧ l.op ≠ 6))

/-! ### PWM outputs (chapter 17) -/

/-- R425, R426, R428 and R432 to R437: what the load point of a channel does to it, held low, safe, frozen in UPDATE and running. -/
def Obligations.LoadPointsOfAChannel : Prop :=
  (∀ (a : Nat) (f : Nat → Nat), f 0 < 128 → (∀ k, f (k + 1) = (f k + a % 128) % 128) →
    ((List.range 128).map (fun k => a / 128 + (f k + a % 128) / 128)).sum = a) ∧
  (∀ (sum : Nat) (carry : Int) (y : PwmChan), y.Emits sum carry → -1 ≤ carry → carry ≤ 1 → y.applied < 65536 → sum < 128 →
    -1 ≤ y.carry ∧ y.carry ≤ 1 ∧ y.high ≠ 1 ∧ y.high ≠ 511 ∧ y.high ≤ 512) ∧
  ∀ (n : Fin 32) (s : State) (x : PwmChan) (safe now : Nat), x = chan s n.val → safe = vget s.pwm.safe n.val 0 → now = s.time.uptime →
    ∃ (t : State) (y : PwmChan), exec (.loadPoint n) s = .next t ∧ t = { s with pwm := { s.pwm with chans := t.pwm.chans } } ∧ y = chan t n.val ∧
      (∀ m, m ≠ n.val → chan t m = chan s m) ∧
      (pwmHeldLow s = true → y.applied = 0 ∧ y.held = 0 ∧ y.hold = none ∧ y.high = 0 ∧ y.dither = 0 ∧ y.carry = 0 ∧ y.recd = x.recd ∧
        y.newRec = x.newRec ∧ y.fault = x.fault ∧ y.wasSafe = true) ∧
      (pwmHeldLow s = false → ∀ x1 : PwmChan, x1 = (if s.mode.mode = .update then x else x.takeRec safe) →
        y.recd = x1.recd ∧ y.newRec = x1.newRec ∧ y.fault = x1.fault ∧ y.code = x.code ∧
        (s.mode.mode ≠ .update → y.newRec = none ∧ (x.newRec = none → x1 = x) ∧
          ∀ r, x.newRec = some r → y.recd = r ∧ (x.fault = some 3 → y.fault = none) ∧ (x.fault ≠ some 3 → y.fault = x.fault) ∧
            (r = x.recd → x1.hold = x.hold ∧ x1.held = x.held ∧ x1.applied = x.applied) ∧
            (r ≠ x.recd → x1.hold = none ∧ x1.arrivals = [] ∧ x1.applied = safe ∧ x1.held = safe ∧ x1.fresh = true)) ∧
        (pwmSafe s x1 = true ∨ x1.recd.inUse = false → y.applied = safe ∧ y.held = safe ∧ y.hold = none ∧
          y.Emits (if x1.safeIn then x1.dither else 0) (if x1.safeIn then x1.carry else 0)) ∧
        (pwmSafe s x1 = false → x1.recd.inUse = true → s.mode.mode = .update → y.applied = x.applied ∧ y.held = x.held ∧ y.gen = x.gen ∧ y.hold = none ∧
          y.arrivals = x.arrivals ∧ y.target = x.target ∧ y.Emits x.dither x.carry) ∧
        (pwmSafe s x1 = false → x1.recd.inUse = true → s.mode.mode ≠ .update → ∀ x2 : PwmChan, x2 = (if x1.wasSafe then x1.restart safe else x1) →
          (x1.wasSafe = true → x2.applied = safe ∧ x2.held = safe ∧ x2.hold = none ∧ x2.fresh = true ∧ x2.gen = x1.recd.lo ∧ x2.rising = true ∧
            x2.lfsr = x1.recd.seed ∧ x2.ndivCnt = 0) ∧
          y.Emits x2.dither x2.carry ∧
          (x2.recd.slew = 0 → y.applied = y.held) ∧
          (x2.recd.slew ≠ 0 → x2.applied ≤ y.held → y.applied = min y.held (x2.applied + x2.recd.slew)) ∧
          (x2.recd.slew ≠ 0 → y.held < x2.applied → y.applied = max y.held (x2.applied - x2.recd.slew)) ∧
          (x2.recd.source ≠ 3 → y.arrivals = x2.arrivals.filter (fun a => !decide (a.1 + 1000 ≤ now)) ∧
            ∀ l : Option (Nat × Nat), l = (x2.arrivals.filter (fun a => decide (a.1 + 1000 ≤ now))).getLast? →
              (l = none → y.target = x2.target ∧ (x2.hold = none → y.held = x2.held ∧ y.hold = none) ∧
                ∀ h, x2.hold = some h → (h.left ≤ 1 → y.held = h.code ∧ y.hold = none) ∧
                  (1 < h.left → y.held = x2.held ∧ y.hold = some { h with left := h.left - 1 })) ∧
              ∀ u v, l = some (u, v) → y.target = v ∧
                (x2.fresh = true → y.held = v ∧ y.hold = none) ∧
                (x2.fresh = false → v / 4096 = x2.held / 4096 ∨ x2.recd.holdPeriods = 0 → y.held = v ∧ y.hold = none ∧
                  (x2.hold = none → y.cancelCnt = x2.cancelCnt) ∧ (x2.hold ≠ none → y.cancelCnt = satInc 16 x2.cancelCnt)) ∧
                (x2.fresh = false → v / 4096 ≠ x2.held / 4096 → x2.recd.holdPeriods ≠ 0 → y.majorCnt = satInc 16 x2.majorCnt ∧
                  (x2.hold = none → y.held = x2.held ∧ y.hold = some ⟨v, x2.recd.holdPeriods⟩) ∧
                  ∀ h, x2.hold = some h → (h.left ≤ 1 → y.held = v ∧ y.hold = none) ∧ (1 < h.left → y.held = x2.held ∧ y.hold = some ⟨v, h.left - 1⟩))) ∧
          (x2.recd.source = 3 → y.held = y.gen ∧ y.target = y.gen ∧ y.arrivals = x2.arrivals ∧
            (x2.recd.gen = 1 → x2.rising = true → (x2.recd.hi ≤ x2.gen + x2.recd.step → y.gen = x2.recd.hi ∧ y.rising = false) ∧
              (x2.gen + x2.recd.step < x2.recd.hi → y.gen = x2.gen + x2.recd.step ∧ y.rising = true)) ∧
            (x2.recd.gen = 1 → x2.rising = false → (x2.gen ≤ x2.recd.lo + x2.recd.step → y.gen = x2.recd.lo ∧ y.rising = true) ∧
              (x2.recd.lo + x2.recd.step < x2.gen → y.gen = x2.gen - x2.recd.step ∧ y.rising = false)) ∧
            (x2.recd.gen = 2 → y.gen = (if x2.recd.hi < x2.gen + x2.recd.step then x2.recd.lo else x2.gen + x2.recd.step)) ∧
            (x2.recd.gen = 3 → (x2.ndivCnt + 1 < x2.recd.ndiv → y.gen = x2.gen ∧ y.lfsr = x2.lfsr ∧ y.ndivCnt = x2.ndivCnt + 1) ∧
              (x2.recd.ndiv ≤ x2.ndivCnt + 1 → y.ndivCnt = 0 ∧ y.gen = x2.recd.lo + (y.lfsr / 65536) * (x2.recd.hi - x2.recd.lo + 1) / 65536 ∧
                y.lfsr = (if x2.lfsr % 2 = 1 then Nat.xor (x2.lfsr / 2) 0x80200003 else x2.lfsr / 2))))))

/-- R429, R431, R432, R437, R438 and R441: the writes, ticks, strobes and commands of the PWM block. -/
def Obligations.CodeSourcesAndPwmCommands : Prop :=
  ∀ (s : State),
    (∀ (n : Fin 32) (w : Word), ∃ t : State, exec (.pwmCodeWrite n w) s = .next t ∧ t = { s with pwm := { s.pwm with chans := t.pwm.chans } } ∧
      (∀ m, m ≠ n.val → chan t m = chan s m) ∧
      ((chan s n.val).recd.source = 0 → pwmEnters s = true →
        chan t n.val = { chan s n.val with code := bits w 15 0, arrivals := (chan s n.val).arrivals ++ [(s.time.uptime, bits w 15 0)] }) ∧
      ((chan s n.val).recd.source ≠ 0 ∨ pwmEnters s = false → chan t n.val = { chan s n.val with code := bits w 15 0 })) ∧
    (∀ m : BitVec 4, pwmEnters s = false → exec (.strobe m) s = .next s) ∧
    (∀ m : BitVec 4, pwmEnters s = true → ∃ t : State, exec (.strobe m) s = .next t ∧ t = { s with pwm := { s.pwm with chans := t.pwm.chans } } ∧
      ∀ n x, n < 32 → x = chan s n →
        (x.recd.inUse = true ∧ x.recd.source = 2 ∧ m.toNat.testBit x.recd.sel = true → chan t n = { x with arrivals := x.arrivals ++ [(s.time.uptime, x.code)] }) ∧
        (x.recd.inUse = false ∨ x.recd.source ≠ 2 ∨ m.toNat.testBit x.recd.sel = false → chan t n = x)) ∧
    (∀ (g : Fin 4) (low : Nat), (low < 20 → exec (.pwmLoadNEdge g low) s = .next s) ∧
      (20 ≤ low → exec (.pwmLoadNEdge g low) s = exec (.strobe (BitVec.ofNat 4 (2 ^ g.val))) s)) ∧
    (∀ g : Fin 4, pwmEnters s = false ∨ (isl s islIO).fence ≠ none → exec (.timebaseTick g) s = .next s) ∧
    (∀ g : Fin 4, pwmEnters s = true → (isl s islIO).fence = none → exec (.timebaseTick g) s = .next
      (((List.range 32).filter (fun n => (chan s n).recd.inUse && (chan s n).recd.source == 1 && (chan s n).recd.sel == g.val)).foldl
        (fun s n => pwmTickChan n s) s)) ∧
    (∀ n r p y, n < 32 → qDequeue (chan s n).recd.qid s = (r, p, y) →
      (∀ c, c = (if r.status = .ok ∨ r.status = .abort then (qAck (chan s n).recd.qid 1 y).2 else y) →
        ∃ t : State, pwmTickChan n s = t ∧ t = { c with pwm := { c.pwm with chans := t.pwm.chans } } ∧ (∀ m, m ≠ n → chan t m = chan s m) ∧
          (r.status = .ok → bit r.data 59 = false → chan t n =
            { chan s n with emptyRun := 0, arrivals := (chan s n).arrivals ++ [(s.time.uptime, le p 0 2)] }) ∧
          (r.status ≠ .ok ∨ bit r.data 59 = true → (chan t n).underrunCnt = satInc 16 (chan s n).underrunCnt ∧
            (chan t n).target = (chan s n).target ∧ (chan t n).arrivals = (chan s n).arrivals ∧ (chan t n).emptyRun = (chan s n).emptyRun + 1 ∧
            (chan t n).staleCnt = (if r.status = .ok ∨ r.status = .abort then satInc 16 (chan s n).staleCnt else (chan s n).staleCnt) ∧
            ((chan s n).fault ≠ none → (chan t n).fault = (chan s n).fault) ∧
            ((chan s n).fault = none → (chan s n).recd.underrunSafe = true → (chan s n).recd.underrunLimit ≤ (chan s n).emptyRun + 1 →
              (chan t n).fault = some 1) ∧
            ((chan s n).fault = none → (chan s n).recd.underrunSafe = false ∨ (chan s n).emptyRun + 1 < (chan s n).recd.underrunLimit →
              (chan t n).fault = (if r.status = .quarantine then some 2 else none))))) ∧
    (∀ w : Word, pwmTbBad w = false ↔ bits w 63 60 ≤ 8 ∧ (bits w 63 60 = 0 → 1000 ≤ bits w 25 0 ∧ bits w 25 0 ≤ 48000000)) ∧
    (∀ p, pwmRecFail s p = none ↔ le p 0 1 < 4 ∧ ((le p 0 1).testBit 0 = true → PwmRecOk s p)) ∧
    ((∃ g, g < 4 ∧ pwmTbBad (vget s.pwm.tbReg g 0) = true) ∨ (∃ n, n < 32 ∧ pwmRecFail s (pwmRecBytes s n) ≠ none) →
      ∃ o, exec .pwmApply s = .next { s with pwm := { s.pwm with result := .refused, refuseAt := o } }) ∧
    ((∀ g, g < 4 → pwmTbBad (vget s.pwm.tbReg g 0) = false) → (∀ n, n < 32 → pwmRecFail s (pwmRecBytes s n) = none) →
      ∃ t, exec .pwmApply s = .next t ∧ t = { s with pwm := { s.pwm with chans := t.pwm.chans, tb := s.pwm.tbReg, result := .ok, refuseAt := 0 } } ∧
        ∀ n, n < 32 → chan t n = { chan s n with newRec := some (parsePwmRec (pwmRecBytes s n)) }) ∧
    (∀ m : BitVec 32, (∃ n, n < 32 ∧ m.toNat.testBit n = true ∧ pwmCausePresent s (chan s n) = true) →
      exec (.pwmFaultClear m) s = .next { s with pwm := { s.pwm with result := .refused } }) ∧
    (∀ x : PwmChan, pwmCausePresent s x = true ↔ (∃ q, x.fault = some 2 ∧ qGet s x.recd.qid = some q ∧ q.quarantined = true) ∨
      ∃ f, x.fault = some f ∧ f ≠ 1 ∧ f ≠ 2) ∧
    (∀ m : BitVec 32, (∀ n, n < 32 → m.toNat.testBit n = true → pwmCausePresent s (chan s n) = false) →
      ∃ t, exec (.pwmFaultClear m) s = .next t ∧ t = { s with pwm := { s.pwm with chans := t.pwm.chans, result := .ok } } ∧
        ∀ n safe y, n < 32 → safe = vget s.pwm.safe n 0 → y = chan t n →
          (m.toNat.testBit n = true → (chan s n).fault ≠ none → y.fault = none ∧ y.applied = safe ∧ y.held = safe ∧ y.hold = none ∧ y.fresh = true ∧
            y.emptyRun = 0 ∧ y.recd = (chan s n).recd ∧ y.gen = (chan s n).recd.lo ∧ y.rising = true) ∧
          (m.toNat.testBit n = false ∨ (chan s n).fault = none → y = chan s n)) ∧
    (∀ m : BitVec 32, ∃ t, exec (.genSync m) s = .next t ∧ t = { s with pwm := { s.pwm with chans := t.pwm.chans, result := .ok } } ∧
      ∀ n, n < 32 → (m.toNat.testBit n = true → chan t n =
          { chan s n with gen := (chan s n).recd.lo, rising := true, lfsr := (chan s n).recd.seed, ndivCnt := 0 }) ∧
        (m.toNat.testBit n = false → chan t n = chan s n))

/-! ### Boulevard (chapter 18) -/

/-- R446, R448 to R450, R453, R459 and R461: markers and centre time, hop delays, and the KERB frames. -/
def Obligations.MarkersAndKerbFrames : Prop :=
  ∀ (s : State),
    (∀ n : Nat, n < 64 → bit (centreKerb s) n = (s.kerb.cCom.testBit (64 + n) || s.link.kerbBits.any (fun k => bit k.2.2 n))) ∧
    (linkUp s = false → ∀ (r : Ring) (m : Marker) (n : Nat) (f : BlvFrame) (ok : Bool) (i : Instr),
      i ∈ [Instr.markerEmit, .markerReceive r m n, .kerbFrameInsert, .kerbFrameReceive f ok] → exec i s = .next s) ∧
    (isCentre s = false → exec .markerEmit s = .next s) ∧
    (linkUp s = true → isCentre s = true →
      (∀ (c : Nat) (f : BlvFrame), c = s.time.centre / 100000 →
        f = { typ := 0, flags := 1, src := s.blv.centre, dst := 0, port := 0, seq := c % 65536, ackCnt := 0, ackStatus := .ok, nackNode := 0, hops := 0
              payload := leBytes 8 c ++ leBytes 8 (c * 100000) ++ leBytes 4 0 ++ leBytes 3 (if s.time.centreValid then s.time.lineage else 0) ++
                leBytes 1 s.blv.memberVer } →
        exec .markerEmit s = .next { s with link := { s.link with
          outA := some f, outB := some f, cycle := c, corr := 0, lastMarker := s.time.uptime } }) ∧
      (∀ (r : Ring) (m : Marker) (n : Nat), exec (.markerReceive r m n) s = .next { s with link := { s.link with lastMarker := s.time.uptime } }) ∧
      exec .timeValidLoss s = .next s) ∧
    (isCentre s = false → exec .timeValidLoss s = .next { s with
      time := { s.time with centreValid := false }, link := { s.link with goodMarkers := 0 } }) ∧
    (linkUp s = true → isCentre s = false → ∀ (r : Ring) (m : Marker) (n : Nat) (hop at_ : Rat), hop = (if r = .a then s.link.hopA else s.link.hopB) →
      at_ = (m.tTx : Rat) + (m.corr16 : Rat) / 16 + hop → ∃ (t : State) (c : Int),
        exec (.markerReceive r m n) s = .next t ∧ EverythingBut [.time, .host, .blv, .link] s t ∧
        (∀ k : Int, 16 * hop = (k : Rat) → c = m.corr16 + n + k) ∧
        FrameOn r { typ := 0, flags := 1, src := s.blv.centre, dst := 0, port := 0, seq := m.cycle % 65536
                    payload := leBytes 8 m.cycle ++ leBytes 8 m.tTx ++ leBytes 4 (ofSigned 32 c) ++ leBytes 3 m.lineage ++ leBytes 1 m.memberVer
                    ackCnt := if s.blv.self = none then m.ackCnt else (m.ackCnt + 1) % 256
                    ackStatus := .ok, nackNode := 0, hops := m.hops } s t ∧
        t.link.lastMarker = s.time.uptime ∧ t.link.cycle = m.cycle ∧ t.link.corr = (m.corr16 : Rat) / 16 + (n : Rat) / 16 + hop ∧
        (r = .b ∨ m.lineage = 0 → t.time = s.time ∧ t.blv = s.blv ∧ t.host = s.host ∧ t.link.goodMarkers = s.link.goodMarkers) ∧
        (r = .a → m.lineage ≠ 0 →
          (∀ k : Nat, at_ = (k : Rat) → t.time.centre = k % 2 ^ 64) ∧ t.time = { s.time with
            centre := t.time.centre, centreValid := t.time.centreValid, lineage := m.lineage } ∧
          (m.lineage ≠ s.time.lineage → t.time.centreValid = false ∧ t.link.goodMarkers = 0 ∧ t.host.attnCause.testBit attnBoulevard = true ∧
            t.blv = { s.blv with lastStep := t.blv.lastStep } ∧
            ∀ d : Int, at_ - (s.time.centre : Rat) = (d : Rat) → t.blv.lastStep = d) ∧
          (m.lineage = s.time.lineage → t.host = s.host ∧
            (-50 < at_ - (s.time.centre : Rat) → at_ - (s.time.centre : Rat) < 50 → t.link.goodMarkers = min 100 (s.link.goodMarkers + 1) ∧
              (t.time.centreValid = true ↔ s.time.centreValid = true ∨ 99 ≤ s.link.goodMarkers)) ∧
            (at_ - (s.time.centre : Rat) ≤ -50 ∨ 50 ≤ at_ - (s.time.centre : Rat) → t.link.goodMarkers = 0 ∧ t.time.centreValid = s.time.centreValid) ∧
            t.blv = { s.blv with offsetPs := t.blv.offsetPs } ∧
            ∀ d : Int, (at_ - (s.time.centre : Rat)) * 1000 = (d : Rat) → t.blv.offsetPs = d))) ∧
    (∀ (rt ta : Nat),
      exec (.hopDelayMeasure .a rt ta) s = .next { s with link := { s.link with
        hopA := ((rt : Rat) - (ta : Rat)) / 2000 + (sbits s.blv.cfg 63 48 : Rat) / 100 } } ∧
      exec (.hopDelayMeasure .b rt ta) s = .next { s with link := { s.link with
        hopB := ((rt : Rat) - (ta : Rat)) / 2000 + (sbits s.blv.cfg 47 32 : Rat) / 100 } }) ∧
    (s.blv.self = none ∨ s.blv.ring = .down ∨ s.blv.ring = .joining ∨ (s.blv.ring = .wrapped ∧ s.link.cycle % 2 ≠ 0 ∧ s.link.bothWays = 0) →
      exec .kerbFrameInsert s = .next s) ∧
    (∀ a : Nat, linkUp s = true → s.blv.self = some a → s.blv.ring ≠ .down → s.blv.ring ≠ .joining →
      (s.blv.ring = .wrapped → s.link.cycle % 2 = 0 ∨ s.link.bothWays ≠ 0) → ∀ (q : Nat) (f : BlvFrame) (both good : Bool),
        q = (s.link.kerbSeq + 1) % 65536 → both = (s.blv.ring == .healing || decide (1 < s.link.bothWays)) →
        good = (s.link.kerbBack && decide ((if bits s.blv.cfg 24 16 = 0 then nodes s else bits s.blv.cfg 24 16) ≤ s.link.kerbSeen.length + 1)) →
        f = { typ := 1, flags := 1, src := a, dst := 0, port := 0, seq := q, payload := leBytes 8 (s.kerb.cCom / 2 ^ 64 % 2 ^ 64), ackCnt := 0
              ackStatus := .ok, nackNode := 0, hops := 0 } →
        exec .kerbFrameInsert s = .next { s with
          blv := { s.blv with
            goodCycles := if good then min 3 (s.blv.goodCycles + 1) else 0
            ring := if s.link.bothWays = 1 ∧ s.blv.ring = .wrapped then .normal else s.blv.ring }
          link := { s.link with
            outA := some f, outB := if both then some { f with flags := 9 } else s.link.outB
            kerbSeq := q, bothWays := s.link.bothWays - 1, kerbSeen := [], kerbBack := decide (nodes s ≤ 1) } }) ∧
    (linkUp s = true → ∀ f : BlvFrame,
      (∃ t, exec (.kerbFrameReceive f false) s = .next t ∧ EverythingBut [.blv, .link] s t ∧ t.blv = { s.blv with crcCnt := satInc 16 s.blv.crcCnt } ∧
        FrameOn (if f.flags.testBit 3 then .b else .a) f s t ∧ t.link.kerbBits = s.link.kerbBits) ∧
      (s.blv.self = some f.src → exec (.kerbFrameReceive f true) s = .next { s with link := { s.link with
        kerbBack := s.link.kerbBack || (f.seq == s.link.kerbSeq && f.ackCnt + 1 == nodes s) } }) ∧
      (s.blv.self ≠ some f.src → ∃ (t : State) (k : Nat), exec (.kerbFrameReceive f true) s = .next t ∧ EverythingBut [.link] s t ∧
        FrameOn (if f.flags.testBit 3 then .b else .a) { f with ackCnt := k } s t ∧
        (s.blv.self = none → k = f.ackCnt) ∧ (s.blv.self ≠ none → s.blv.ring ≠ .wrapped → k = (f.ackCnt + 1) % 256) ∧
        ((∀ x ∈ s.blv.members, x.addr ≠ f.src) → t.link.kerbBits = s.link.kerbBits ∧ t.link.kerbSeen = s.link.kerbSeen) ∧
        ((∃ x ∈ s.blv.members, x.addr = f.src) → f.src ∈ t.link.kerbSeen ∧
          (∀ w, tget s.link.kerbBits f.src = some (f.seq, w) → t.link.kerbBits = s.link.kerbBits) ∧
          ((∀ w, tget s.link.kerbBits f.src ≠ some (f.seq, w)) →
            ∀ a, tget t.link.kerbBits a = if a = f.src then some (f.seq, BitVec.ofNat 64 (le f.payload 0 8)) else tget s.link.kerbBits a))))

/-- R451 to R453 and R460 to R463: joining, membership records and elections, breaks and the heal, and the commands of BLV_CTL. -/
def Obligations.MembershipAndHeal : Prop :=
  ∀ (s : State),
    (∀ m : Member,
      (linkUp s = false ∨ isCentre s = false ∨ (∃ x ∈ s.blv.members, x.addr = m.addr) → exec (.controlJoin m) s = .next s) ∧
      (linkUp s = true → isCentre s = true → (∀ x ∈ s.blv.members, x.addr ≠ m.addr) → ∀ f : BlvFrame,
        f = { typ := 7, flags := 1, src := s.blv.addr, dst := 0, port := 0, seq := 0, ackCnt := 0, ackStatus := .ok, nackNode := 0, hops := 0
              payload := (s.blv.members ++ [m]).flatMap (fun x => leBytes 1 x.addr ++ leBytes 8 x.dieId ++ leBytes 2 x.groups ++ leBytes 4 x.roleTag) } →
        exec (.controlJoin m) s = .next { s with
          blv := { s.blv with nextMembers := some (s.blv.members ++ [m]), memberVer := (s.blv.memberVer + 1) % 256 }
          link := { s.link with outB := some f } })) ∧
    (∀ (ms : List Member) (prios : List Nat), ∃ t, exec (.membershipEffective ms prios) s = .next t ∧ EverythingBut [.time, .host, .blv, .link] s t ∧
      t.blv.members = ms ∧ t.blv.nextMembers = none ∧ t.host.attnCause.testBit attnBoulevard = true ∧
      (s.blv.nextMembers = none → t.blv.memberVer = (s.blv.memberVer + 1) % 256) ∧ (s.blv.nextMembers ≠ none → t.blv.memberVer = s.blv.memberVer) ∧
      (ms ≠ [] → ∃ c ∈ ms, t.blv.centre = c.addr ∧ ∀ m ∈ ms, (m.timeValid = true → c.timeValid = true) ∧
        (m.timeValid = c.timeValid → m.prio ≤ c.prio ∧ (m.prio = c.prio → c.addr ≤ m.addr))) ∧
      (∀ x, (ms.find? (fun m => m.addr == s.blv.addr)) = x → (x = none → t.blv.self = none ∧ t.blv.dupAddr = false) ∧
        ∀ m, x = some m → (t.blv.dupAddr = true ↔ m.dieId ≠ s.host.dieId) ∧
          (m.dieId = s.host.dieId → s.blv.left = false → t.blv.self = some s.blv.addr) ∧
          (m.dieId ≠ s.host.dieId ∨ s.blv.left = true → t.blv.self = none)) ∧
      (t.blv.self = none → t.blv.ring = .joining ∧ t.blv.roleMismatch = false) ∧
      (t.blv.self ≠ none → (ms.length ≤ 1 → t.blv.ring = .isolated) ∧
        (2 ≤ ms.length → s.blv.ring = .healing ∨ s.blv.ring = .wrapped → t.blv.ring = .wrapped) ∧
        (2 ≤ ms.length → s.blv.ring ≠ .healing → s.blv.ring ≠ .wrapped → t.blv.ring = .normal) ∧
        (t.blv.roleMismatch = true ↔ ∃ c, electCentre ms = some c ∧ c.roleTag ≠ s.link.roleTag)) ∧
      (s.blv.ring = .healing → t.blv.ring = .wrapped → t.blv.healCnt = satInc 16 s.blv.healCnt ∧
        t.link.inFlight = s.link.inFlight.map (fun x => x.map (fun m => { m with onRing := false }))) ∧
      (s.blv.ring ≠ .healing ∨ t.blv.ring ≠ .wrapped → t.blv.healCnt = s.blv.healCnt ∧ t.link.inFlight = s.link.inFlight) ∧
      t.link.kerbBits = s.link.kerbBits.filter (fun k => ms.any (fun m => m.addr == k.1)) ∧
      (∃ d, t.blv.nextDispatcher = some d ∧ t.blv.lapAt = s.time.uptime ∧ t.blv.dispatcher = s.blv.dispatcher ∧
        ∀ (g : Nat) (pr : Nat → Nat), g < 16 → pr = (fun a => if t.blv.self = some t.blv.centre ∧ ms ≠ [] then dispPrio s a else prios.getD a (dispPrio s a)) →
          ((∀ m ∈ ms, m.groups.testBit g = true → pr m.addr = 0) → vget d g none = none) ∧
          ((∃ m ∈ ms, m.groups.testBit g = true ∧ 0 < pr m.addr) → ∃ e ∈ ms, vget d g none = some e.addr ∧ e.groups.testBit g = true ∧ 0 < pr e.addr ∧
            ∀ m ∈ ms, m.groups.testBit g = true → pr m.addr ≤ pr e.addr ∧ (pr m.addr = pr e.addr → e.addr ≤ m.addr))) ∧
      (t.blv.self = some t.blv.centre → ms ≠ [] → (∀ m ∈ ms, m.timeValid = false) →
        t.time = { s.time with centre := 0, centreValid := true, lineage := t.time.lineage } ∧ t.time.lineage ≠ 0 ∧ t.link.lineageKept = t.time.lineage) ∧
      (t.blv.self ≠ some t.blv.centre ∨ ms = [] ∨ (∃ m ∈ ms, m.timeValid = true) → t.time = s.time)) ∧
    (s.blv.nextDispatcher = none → exec .groupDispatcherChange s = .next s) ∧
    (∀ d, s.blv.nextDispatcher = some d →
      (s.time.uptime < s.blv.lapAt + 10000000 → exec .groupDispatcherChange s = .next s) ∧
      (s.blv.lapAt + 10000000 ≤ s.time.uptime →
        exec .groupDispatcherChange s = .next { s with blv := { s.blv with dispatcher := d, nextDispatcher := none } })) ∧
    (linkUp s = false → (∀ (q : Bool) (r : Ring), exec (.breakDetect q) s = .next s ∧ exec (.breakReceive r) s = .next s) ∧ exec .unwrap s = .next s ∧ exec .blvJoin s = .next s) ∧
    (linkUp s = true → ∀ brk : BlvFrame,
      brk = { typ := 7, flags := 1, src := s.blv.addr, dst := 0, port := 0, seq := 0, payload := [], ackCnt := 0, ackStatus := .ok, nackNode := 0, hops := 0 } →
      (∀ q : Bool, (if q then s.blv.wrapP else s.blv.wrapQ) = false → exec (.breakDetect q) s = .next { s with
        blv := { s.blv with ring := .healing, wrapP := s.blv.wrapP || !q, wrapQ := s.blv.wrapQ || q }
        link := { s.link with bothWays := 0, outA := if q then some brk else s.link.outA, outB := if q then s.link.outB else some brk } }) ∧
      (∀ q : Bool, (if q then s.blv.wrapP else s.blv.wrapQ) = true → ∃ t, exec (.breakDetect q) s = .next t ∧ EverythingBut [.time, .host, .blv, .link] s t ∧
        t.host.attnCause.testBit attnBoulevard = true ∧ t.link.outA = s.link.outA ∧ t.link.outB = s.link.outB ∧
        (s.blv.self = none ∨ s.blv.left = false → t.blv.ring = .isolated ∧ t.blv.centre = s.blv.addr ∧ t.blv.wrapP = true ∧ t.blv.wrapQ = true) ∧
        (s.blv.self = none → t.blv.members = [] ∧ t.time = s.time) ∧
        (s.blv.self ≠ none → s.blv.left = false → t.blv.self = some s.blv.addr ∧ ∃ m, t.blv.members = [m] ∧ m.addr = s.blv.addr ∧ m.dieId = s.host.dieId)) ∧
      (∀ r : Ring, exec (.breakReceive r) s = .next { s with blv := { s.blv with ring := .healing }, link := { s.link with bothWays := 0 } }) ∧
      (s.blv.ring ≠ .wrapped → s.blv.ring ≠ .isolated → exec .unwrap s = .next s) ∧
      (s.blv.ring = .wrapped ∨ s.blv.ring = .isolated → ∃ t, exec .unwrap s = .next t ∧ EverythingBut [.host, .blv, .link] s t ∧
        t.blv = { s.blv with wrapP := false, wrapQ := false, ring := if s.blv.self ≠ none ∧ 1 < nodes s then .wrapped else .joining } ∧
        t.link = { s.link with bothWays := if s.blv.self ≠ none ∧ 1 < nodes s then 4 else 0 } ∧
        t.host.attnCause.testBit attnBoulevard = true) ∧
      (∀ me : Member, me = { addr := bits s.blv.cfg 7 0, dieId := s.host.dieId, groups := s.blv.hosted, roleTag := s.link.roleTag
                             timeValid := s.time.centreValid, lineage := s.time.lineage, prio := bits s.blv.cfg 15 8 } →
        exec .blvJoin s = .next { s with
          blv := { s.blv with left := false, dupAddr := false, addr := me.addr, ring := if s.blv.self = none then .joining else s.blv.ring }
          link := { s.link with outA := some { brk with src := me.addr, payload := leBytes 1 me.addr ++ leBytes 8 me.dieId ++ leBytes 2 me.groups ++ leBytes 4 me.roleTag } } })) ∧
    (∃ t, exec .blvLeave s = .next t ∧ EverythingBut [.host, .blv] s t ∧ t.host.attnCause.testBit attnBoulevard = true ∧
      t.blv = { s.blv with left := true, self := none, ring := if s.blv.ring = .down then .down else .joining }) ∧
    (∀ p : Nat, portOk s p = true ↔ zeroBytes (portBytes s p) 3 5 = true ∧ le (portBytes s p) 2 1 ≤ 1 ∧ (le (portBytes s p) 2 1 = 1 → p ≠ 0 ∧ p ≠ 4 ∧
      ∃ q, qGet s (le (portBytes s p) 0 2) = some q ∧ q.cfg.prod = islLINK ∧ q.cfg.entryW = 2 ∧ inGeneral (le (portBytes s p) 8 8) (q.depth * 1024) = true)) ∧
    (∀ q : Nat, txOk s q = true ↔ q = 0 ∨ ∃ x, qGet s q = some x ∧ x.cfg.cons = islLINK ∧ x.cfg.entryW = 2) ∧
    ((∃ p, p < 64 ∧ portOk s p = false) ∨ (∃ k, k < 4 ∧ txOk s (s.blv.txqReg.toNat / 2 ^ (16 * k) % 2 ^ 16) = false) →
      exec .blvApply s = .next { s with blv := { s.blv with refused := true } }) ∧
    ((∀ p, p < 64 → portOk s p = true) → (∀ k, k < 4 → txOk s (s.blv.txqReg.toNat / 2 ^ (16 * k) % 2 ^ 16) = true) →
      ∃ t, exec .blvApply s = .next t ∧ t = { s with blv := { s.blv with ports := t.blv.ports, txq := s.blv.txqReg, refused := false } } ∧
        ∀ p, p < 64 → vget t.blv.ports p { qid := 0, inUse := false, bufBase := 0 } =
          { qid := le (portBytes s p) 0 2, inUse := le (portBytes s p) 2 1 == 1, bufBase := le (portBytes s p) 8 8 })

/-- R448, R454 to R458: passing frames, turns and returned frames, the WARDEN's confirmation and the roll-up. -/
def Obligations.MessagesAndRoles : Prop :=
  ∀ (s : State),
    (∀ (f : BlvFrame), addressed s f = true ↔ f.typ ≤ 1 ∨ f.flags.testBit 0 = true ∨ (f.flags.testBit 1 = false ∧ s.blv.self = some f.dst) ∨
      (f.flags.testBit 1 = true ∧ s.blv.hosted.testBit f.dst = true)) ∧
    (linkUp s = false → ∀ (r : Ring) (f : BlvFrame) (a b c : Bool), exec (.frameAccept r f a b c) s = .next s) ∧
    (linkUp s = true → ∀ (r : Ring) (f : BlvFrame) (first pcrc fcs : Bool) (n : Nat),
      n = min 65535 (s.blv.crcCnt + (if pcrc then 0 else 1) + (if fcs then 0 else 1)) → s.blv.crcCnt < 65536 →
      (s.blv.self = some f.src → exec (.frameAccept r f first pcrc fcs) s = .next { s with blv := { s.blv with crcCnt := n } }) ∧
      (s.blv.self ≠ some f.src → pcrc = false ∨ first = false ∨ s.blv.self = none ∨ addressed s f = false → ∃ t,
        exec (.frameAccept r f first pcrc fcs) s = .next t ∧ EverythingBut [.blv, .link] s t ∧ t.blv = { s.blv with crcCnt := n } ∧ FrameOn r f s t ∧
        t.link.rxSeq = s.link.rxSeq) ∧
      (∀ me, s.blv.self = some me → me ≠ f.src → pcrc = true → first = true → addressed s f = true →
        (f.typ < 3 ∨ f.typ = 7 ∨ f.port = 0 ∨ f.port = 4 ∨
            (∃ l, tget s.link.rxSeq (f.src * 8 + f.typ) = some l ∧ ((f.seq + 65536 - l) % 65536 = 0 ∨ 32768 ≤ (f.seq + 65536 - l) % 65536)) →
          ∃ t, exec (.frameAccept r f first pcrc fcs) s = .next t ∧ EverythingBut [.blv, .link] s t ∧ t.blv = { s.blv with crcCnt := n } ∧
            FrameOn r { f with ackCnt := (f.ackCnt + 1) % 256 } s t ∧ t.link.rxSeq = s.link.rxSeq) ∧
        (3 ≤ f.typ → f.typ ≠ 7 → f.port ≠ 0 → f.port ≠ 4 → f.port < 64 →
          (∀ l, tget s.link.rxSeq (f.src * 8 + f.typ) = some l → 1 ≤ (f.seq + 65536 - l) % 65536 ∧ (f.seq + 65536 - l) % 65536 < 32768) →
          ∀ p : BlvPort, p = vget s.blv.ports f.port { qid := 0, inUse := false, bufBase := 0 } →
          (p.inUse = false ∨ qGet s p.qid = none → ∃ t, exec (.frameAccept r f first pcrc fcs) s = .next t ∧ EverythingBut [.blv, .link] s t ∧
            t.blv = { s.blv with crcCnt := n } ∧ t.link.rxSeq = s.link.rxSeq ∧
            FrameOn r { f with
              ackStatus := if f.ackStatus = .ok ∨ f.ackStatus = .full then .refused else f.ackStatus
              nackNode := if f.ackStatus = .ok then me else f.nackNode } s t) ∧
          (∀ q buf st x, p.inUse = true → qGet s p.qid = some q → buf = p.bufBase + 1024 * q.slot q.resv →
            qEnqueue p.qid (leBytes 1 f.src ++ leBytes 1 f.typ ++ leBytes 1 f.flags ++ leBytes 1 f.port ++ leBytes 2 f.seq ++ leBytes 2 f.payload.length ++
              leBytes 8 s.time.centre ++ leBytes 8 buf ++ leBytes 8 0) { s with blv := { s.blv with crcCnt := n } } = (st, x) →
            ∃ t, exec (.frameAccept r f first pcrc fcs) s = .next t ∧ EverythingBut (bellParts ++ [.blv, .link, .mem]) s t ∧
              t.blv = { s.blv with crcCnt := n } ∧ t.arc = x.arc ∧ t.host = x.host ∧ t.isl = x.isl ∧ t.cores = x.cores ∧
              (st = .ok → t.mem = x.mem.writeBytes buf f.payload ∧ FrameOn r { f with ackCnt := (f.ackCnt + 1) % 256 } s t ∧
                ∀ k, tget t.link.rxSeq k = if k = f.src * 8 + f.typ then some f.seq else tget s.link.rxSeq k) ∧
              (st ≠ .ok → t.mem = x.mem ∧ t.link.rxSeq = s.link.rxSeq ∧ FrameOn r { f with
                ackStatus := if f.ackStatus = .ok then .full else f.ackStatus, nackNode := if f.ackStatus = .ok then me else f.nackNode } s t))))) ∧
    (myTurn s = true ↔ linkUp s = true ∧ s.blv.self ≠ none ∧ (s.blv.ring = .normal ∨ s.blv.ring = .wrapped) ∧ nodes s ≠ 0 ∧
      s.link.cycle % turnPeriod s = ringRank s % turnPeriod s) ∧
    (s.blv.ring = .wrapped → turnPeriod s = (nodes s * 1064 + 5999) / 6000) ∧ (s.blv.ring ≠ .wrapped → turnPeriod s = (nodes s * 1064 + 10999) / 11000) ∧
    (myTurn s = false → exec .turn s = .next s) ∧
    (myTurn s = true → exec .turn s = .next (turnOver [.dispatch, .audioCue, .meter, .bulk] s)) ∧
    turnOver [] s = s ∧
    (∀ (c : BlvClass) (l : List BlvClass) (x : State), x = nextMessage c s →
      (inFlight x c = none → turnOver (c :: l) s = turnOver l x) ∧
      (∀ m, inFlight x c = some m → m.onRing = true → turnOver (c :: l) s = turnOver l x) ∧
      (∀ m, inFlight x c = some m → m.onRing = false → turnOver (c :: l) s = { x with link := { x.link with
        inFlight := vput x.link.inFlight (classIdx c) (some { m with tries := m.tries + 1, onRing := true })
        outB := some (if m.tries = 0 then m.frame else { m.frame with flags := m.frame.flags % 4 + 4 }) } })) ∧
    (∀ (c : BlvClass), (∀ m, inFlight s c = some m → nextMessage c s = s) ∧
      (∀ k, inFlight s c = none → s.link.own.find? (fun p => p.1 == c) = some k → nextMessage c s = { s with link := { s.link with
        own := s.link.own.erase k, txSeq := vmod s.link.txSeq (classIdx c) (fun q => (q + 1) % 65536)
        inFlight := vput s.link.inFlight (classIdx c) (some ⟨{ k.2 with seq := vget s.link.txSeq (classIdx c) 0 }, none, 0, false⟩) } }) ∧
      (∀ r e x, inFlight s c = none → s.link.own.find? (fun p => p.1 == c) = none → qDequeue (txQid s c) s = (r, e, x) →
        (r.status = .ok → nextMessage c s = { x with link := { x.link with
          txSeq := vmod x.link.txSeq (classIdx c) (fun q => (q + 1) % 65536)
          inFlight := vput x.link.inFlight (classIdx c) (some ⟨{
            typ := 3 + classIdx c, flags := le e 2 1 % 4, src := (s.blv.self).getD 0, dst := le e 0 1, port := le e 1 1 % 64
            seq := vget s.link.txSeq (classIdx c) 0, payload := s.mem.bytes (le e 8 8) (le e 4 2), ackCnt := 0, ackStatus := .ok, nackNode := 0
            hops := 0 }, some (txQid s c), 0, false⟩) } }) ∧
        (r.status = .abort → nextMessage c s = (qAck (txQid s c) 1 x).2) ∧
        (r.status ≠ .ok → r.status ≠ .abort → nextMessage c s = x))) ∧
    (∀ (c : BlvClass) (st : Status) (k : BitVec 8),
      (inFlight s c = none → exec (.frameReturn c st k) s = .next s) ∧
      (∀ m, inFlight s c = some m → m.onRing = false → exec (.frameReturn c st k) s = .next s) ∧
      (∀ m (w : Nat) (x : State), inFlight s c = some m → m.onRing = true →
        w = (if m.frame.flags.testBit 0 then nodes s - 1 else if m.frame.flags.testBit 1 then
          (s.blv.members.filter (fun y => y.groups.testBit m.frame.dst && some y.addr != s.blv.self)).length else 1) →
        x = { s with link := { s.link with inFlight := vput s.link.inFlight (classIdx c) none } } →
        (st = .ok → k.toNat = w → (m.qid = none → exec (.frameReturn c st k) s = .next x) ∧
          ∀ q, m.qid = some q → exec (.frameReturn c st k) s = .next (qAck q 1 x).2) ∧
        (st ≠ .ok ∨ k.toNat ≠ w → bits s.blv.cfg 31 28 ≤ m.tries → ∃ t, exec (.frameReturn c st k) s = .next t ∧
          (m.qid = none → t = { x with blv := { s.blv with dropCnt := satInc 16 s.blv.dropCnt } }) ∧
          ∀ q, m.qid = some q → t = { (qAck q 1 x).2 with blv := { s.blv with dropCnt := satInc 16 s.blv.dropCnt } }) ∧
        (st ≠ .ok ∨ k.toNat ≠ w → m.tries < bits s.blv.cfg 31 28 → exec (.frameReturn c st k) s = .next { s with
          link := { s.link with inFlight := vput s.link.inFlight (classIdx c) (some { m with onRing := false }) }
          blv := { s.blv with retryCnt := satInc 16 s.blv.retryCnt } }))) ∧
    (∀ (conc : Bool) (a d o : Nat), o = (if conc then 2 else 0) →
      (roleOf s conc = some (a, d) ↔ s.mem.readN rolesAddr 4 = 0x424C5231 ∧ s.mem.readN (rolesAddr + 9 + o) 1 = 1 ∧
        a = s.mem.readN (rolesAddr + 8 + o) 1 ∧ d = s.mem.readN (rolesAddr + 16 + 4 * o) 8) ∧
      (holdsRole s conc a = true ↔ s.blv.roleMismatch = false ∧ ∃ d m, roleOf s conc = some (a, d) ∧ m ∈ s.blv.members ∧ m.addr = a ∧ m.dieId = d ∧
        m.roleTag = s.link.roleTag)) ∧
    (∀ target : BitVec 8,
      ((∀ a, s.blv.self = some a → holdsRole s false a = false) → exec (.blvConfirm target) s = .next s) ∧
      (∀ a, s.blv.self = some a → holdsRole s false a = true → exec (.blvConfirm target) s = .next { s with link := { s.link with
        own := s.link.own ++ [(.bulk, { typ := 6, flags := 0, src := a, dst := target.toNat, port := 4, seq := vget s.link.txSeq 3 0
                                        payload := leBytes 8 s.link.confirmTag.toNat, ackCnt := 0, ackStatus := .ok, nackNode := 0, hops := 0 })]
        confirmPending := true, confirmTarget := target.toNat } })) ∧
    (∀ (src : BitVec 8) (st : Status) (reason : BitVec 4),
      (s.link.confirmPending = false ∨ s.link.confirmTarget ≠ src.toNat → exec (.wardenReplyReceive src st reason) s = .next s) ∧
      (s.link.confirmPending = true → s.link.confirmTarget = src.toNat → exec (.wardenReplyReceive src st reason) s = .next { s with link := { s.link with
        confirmStatus := st, confirmReason := reason.toNat, confirmPending := false } })) ∧
    (s.blv.self = none ∨ (∀ c d, roleOf s true = some (c, d) → holdsRole s true c = false) → exec .meterRollupSend s = .next s) ∧
    (∀ me c d, s.blv.self = some me → roleOf s true = some (c, d) → holdsRole s true c = true →
      ∀ (pt : Nat → List Byte) (body : Nat → Nat → List Byte) (time : Nat), time = s.time.centre / 60000000000 * 60000000000 →
      pt = (fun p => s.mem.bytes (pointAddr p + 16) 8 ++ s.mem.bytes (pointAddr p + 24) 8 ++ s.mem.bytes (pointAddr p + 92) 4 ++ s.mem.bytes (pointAddr p + 12) 4) →
      body = (fun first count => leBytes 8 time ++ leBytes 1 first ++ leBytes 1 count ++ leBytes 6 0 ++ (List.range count).flatMap (fun i => pt (first + i))) →
      (c ≠ me → exec .meterRollupSend s = .next { s with link := { s.link with own := s.link.own ++ [body 0 40, body 40 40, body 80 40, body 120 8].map (fun b =>
        (BlvClass.meter, { typ := 5, flags := 0, src := me, dst := c, port := 3, seq := vget s.link.txSeq 2 0, payload := b, ackCnt := 0, ackStatus := .ok
                           nackNode := 0, hops := 0 })) } }) ∧
      (c = me → exec .meterRollupSend s = .next ([body 0 40, body 40 40, body 80 40, body 120 8].foldl (fun s b => rollupStore me b s) s))) ∧
    (∀ (src : BitVec 8) (p : List Byte),
      ((∀ a, s.blv.self = some a → holdsRole s true a = false) → exec (.meterRollupReceive src p) s = .next s) ∧
      (∀ a, s.blv.self = some a → holdsRole s true a = true → exec (.meterRollupReceive src p) s = .next (rollupStore src.toNat p s))) ∧
    (s.mem.wf = true → ∀ (node : Nat) (p : List Byte) (t : State), t = rollupStore node p s → 16 + 24 * le p 9 1 ≤ p.length →
      t = { s with mem := t.mem } ∧
      (∀ i, i < le p 9 1 → le p 8 1 + i < 128 → t.mem.bytes (rollupAddr node (le p 8 1 + i)) 32 = leBytes 8 (le p 0 8) ++ ((p.drop (16 + 24 * i)).take 24)) ∧
      (∀ x, (∀ i, i < le p 9 1 → le p 8 1 + i < 128 → x < rollupAddr node (le p 8 1 + i) ∨ rollupAddr node (le p 8 1 + i) + 32 ≤ x) → t.mem.read x = s.mem.read x))

/-! ### The fabric (chapter 19) -/

/-- R474 to R482 and R485: what a fabric read replies and changes, and what a fabric write does in each write class. -/
def Obligations.FabricReadsAndWrites : Prop :=
  (∀ a, placeOf a = (if 0x40000000 ≤ a ∧ a ≤ 0x417FFFFF then .sram (a - 0x40000000)
    else if 0x60000000 ≤ a ∧ a ≤ 0x603FFFFF then (if nvmMapped (a - 0x60000000) then .nvm (a - 0x60000000) else .unmapped)
    else if 0x80000000 ≤ a ∧ a ≤ 0x80DFFFFF then .block ((a - 0x80000000) / 0x100000) ((a - 0x80000000) % 0x100000)
    else if 0x81000000 ≤ a ∧ a ≤ 0x817FFFFF then .core ((a - 0x81000000) / 0x100000) ((a - 0x81000000) % 0x100000)
    else .unmapped)) ∧
  (∀ (s : State) (i : Initiator) (addr : BitVec 40) (a : Nat) (p : Place), a = addr.toNat / 8 * 8 → p = placeOf a → issues i s = true →
    (∀ ok : Word → State, (∀ d, ok d = { s with reply := ⟨.ok, d⟩ }) →
      -- reads (R474, R477 to R482, R485, R486)
      ((∃ n, placeOwner p = some n ∧ (isl s n).st ≠ .on ∧ (isl s n).st ≠ .gated ∧ (isl s n).st ≠ .duty) →
        exec (.fabricRead i addr .clean) s = .next { s with reply := ⟨.retry, 0⟩ } ∧
        ∀ b w, exec (.fabricWrite i addr b w) s = .next (settleSteps { s with reply := ⟨.retry, 0⟩ })) ∧
      (p = .unmapped → exec (.fabricRead i addr .clean) s = .next (ok 0)) ∧
      (placeServed s p = true →
        (∀ o, p = .nvm o → o < 0x1000 → exec (.fabricRead i addr .clean) s = .next (ok 0)) ∧
        (placeMem p = true → (∀ o, p = .nvm o → 0x1000 ≤ o) → (∀ o, p = .sram o → o < 0x395000 ∨ 0x3A0000 ≤ o) →
          (a ∉ s.ecc → exec (.fabricRead i addr .clean) s = .next (ok (s.mem.readW a)) ∧
            (∃ t, exec (.fabricRead i addr .correctable) s = .next t ∧ t.reply = ⟨.ok, s.mem.readW a⟩ ∧ t.mem = s.mem ∧ t.ecc = s.ecc ∧
              (∀ n o, p = .core n o → n < 8 → core t n = { core s n with eccCorr := satInc 16 (core s n).eccCorr } ∧
                (∀ m, m ≠ n → core t m = core s m) ∧ EverythingBut [.cores, .coresRest, .reply] s t) ∧
              ((∀ n o, p ≠ .core n o) → t = ok (s.mem.readW a))) ∧
            ∃ t, exec (.fabricRead i addr .uncorrectable) s = .next t ∧ t = { s with reply := ⟨.abort, 0⟩, ecc := t.ecc } ∧
              ∀ x, x ∈ t.ecc ↔ x = a ∨ x ∈ s.ecc) ∧
          (a ∈ s.ecc → exec (.fabricRead i addr .clean) s = .next { s with reply := ⟨.abort, 0⟩ } ∧
            exec (.fabricRead i addr .correctable) s = .next { s with reply := ⟨.abort, 0⟩ })) ∧
        (∀ b o, p = .block b o → b ∉ [2, 3] →
          (blockReg b o s = none → tableOfs b o = false → exec (.fabricRead i addr .clean) s = .next (ok 0)) ∧
          (blockReg b o s = none → tableOfs b o = true → exec (.fabricRead i addr .clean) s = .next (ok (s.mem.readW a))) ∧
          (∀ w, blockReg b o s = some w → ∃ t, exec (.fabricRead i addr .clean) s = .next t ∧ t.reply = ⟨.ok, w⟩ ∧
            (b ∈ [0, 1, 4, 5, 7, 8, 9] → t = ok w))) ∧
        (∀ o, p = .block 1 o → o < 0x80 → exec (.fabricRead i addr .clean) s = .next (ok (consentRead o s))) ∧
        (∀ o, p = .block 4 o → o ≤ 0xA0 → exec (.fabricRead i addr .clean) s = .next (ok (kerbRead (0x400 + o) s))) ∧
        (∀ k, i = .island k → p = .block 2 8 → exec (.fabricRead i addr .clean) s = .next (ok (BitVec.ofNat 64 (vget s.arc.arcSel k.val 0)))))) ∧
    -- writes (R475, R479 to R481, R485)
    ((∀ n, n < 8 → (core s n).stepReq = false) → placeServed s p = true → ∀ (b : BitVec 8) (w : Word),
      (p = .unmapped ∨ (∃ o, p = .block 4 o) ∨ (∃ o, p = .block 5 o) →
        exec (.fabricWrite i addr b w) s = .next { s with reply := ⟨.ok, 0⟩ }) ∧
      ((∃ o, p = .sram o ∧ 0x520000 ≤ o ∧ o < 0x800000 ∧ i ≠ .imageLoader) ∨ (∃ o, p = .nvm o ∧ o < 0x20000 ∧ i ≠ .consentController) ∨
          (∃ o, p = .nvm o ∧ 0x300000 ≤ o ∧ i ≠ .logWriter) ∨ (∃ o, p = .block 1 o ∧ Machine.Initiator.isCore i = false) ∨
          (∃ n o, p = .core n o ∧ n < 2 ∧ o < 0xA0000 ∧ i ≠ .imageLoader ∧ i ≠ .decimation) ∨
          (∃ o, p = .sram o ∧ ((0x1000000 ≤ o ∧ o < 0x1200000) ∨ (0x1600000 ≤ o ∧ o < 0x1800000)) ∧ i ≠ .island 11) →
        (i = .window → exec (.fabricWrite i addr b w) s = .next { s with reply := ⟨.refused, 0⟩ }) ∧
        (i ≠ .window → ∃ t, exec (.fabricWrite i addr b w) s = .next t ∧ t.reply = ⟨.ok, 0⟩ ∧ t.mem = s.mem ∧ t.ecc = s.ecc ∧
          (∀ n o, p = .core n o → EverythingBut [.cores, .coresRest, .reply] s t ∧ (∀ m, m ≠ n → core t m = core s m) ∧
            core t n = { core s n with writeDrop := satInc 16 (core s n).writeDrop }) ∧
          (∀ o, p = .sram o → 0x1000000 ≤ o → t = { s with reply := ⟨.ok, 0⟩, fc := { s.fc with writeDrop := satInc 8 s.fc.writeDrop } }) ∧
          ((∃ o, p = .sram o ∧ o < 0x1000000) ∨ (∃ o, p = .nvm o) ∨ (∃ o, p = .block 1 o) → t = { s with reply := ⟨.ok, 0⟩ }))) ∧
      ((∃ o, p = .sram o ∧ (o < 0x520000 ∨ (0x800000 ≤ o ∧ o < 0x1000000) ∨ (0x1200000 ≤ o ∧ o < 0x1600000)) ∧ lockedAt s a = false) ∨
          (∃ o, p = .nvm o ∧ 0x20000 ≤ o ∧ o < 0x300000) ∨ (∃ n o, p = .core n o ∧ 2 ≤ n ∧ o < 0xA0000) →
        (b = 0xFF → s.mem.wf = true → ∃ t, exec (.fabricWrite i addr b w) s = .next t ∧ t.reply = ⟨.ok, 0⟩ ∧ t.mem.readW a = w ∧
          (∀ x, x < a ∨ a + 8 ≤ x → t.mem.read x = s.mem.read x) ∧ (∀ x, x ∈ t.ecc ↔ x ∈ s.ecc ∧ x ≠ a) ∧
          EverythingBut [.mem, .ecc, .reply] s t) ∧
        (b ≠ 0xFF → a ∈ s.ecc → exec (.fabricWrite i addr b w) s = .next { s with reply := ⟨.abort, 0⟩ }) ∧
        (b ≠ 0xFF → a ∉ s.ecc → s.mem.wf = true → ∃ t, exec (.fabricWrite i addr b w) s = .next t ∧ t.reply = ⟨.ok, 0⟩ ∧
          (∀ k, k < 8 → bits (t.mem.readW a) (8 * k + 7) (8 * k) =
            if b.getLsbD k then bits w (8 * k + 7) (8 * k) else bits (s.mem.readW a) (8 * k + 7) (8 * k)) ∧
          (∀ x, x < a ∨ a + 8 ≤ x → t.mem.read x = s.mem.read x) ∧ EverythingBut [.mem, .reply] s t)) ∧
      (∀ o, p = .sram o → 0x800000 ≤ o → o < 0x1000000 → lockedAt s a = true →
        exec (.fabricWrite i addr b w) s = .next { s with reply := ⟨.ok, 0⟩, consent := { s.consent with lockHit := true } }) ∧
      (∀ o, p = .block 1 o → o < 0x80 → Machine.Initiator.isCore i = true → b = 0xFF → ∀ st t, consentWrite .fw o w s = (st, t) →
        (∀ n, n < 8 → (core t n).stepReq = false) → exec (.fabricWrite i addr b w) s = .next { t with reply := ⟨st, 0⟩ }) ∧
      (∀ k, i = .island k → p = .block 2 8 → b = 0xFF → exec (.fabricWrite i addr b w) s = .next
        { s with reply := ⟨.ok, 0⟩, arc := { s.arc with arcSel := vput s.arc.arcSel k.val (bits w 13 0) } }) ∧
      (∀ k, i = .island k → p = .block 2 0 → b = 0xFF → ∀ t, t = (reloadWrite (vget s.arc.arcSel k.val 0) false w s).2 →
        (∀ n, n < 8 → (core t n).stepReq = false) → exec (.fabricWrite i addr b w) s = .next { t with reply := ⟨.ok, 0⟩ }))) ∧
  ∀ (s : State) (i : Initiator) (addr : BitVec 40), issues i s = false →
    (∀ e, exec (.fabricRead i addr e) s = .next s) ∧ ∀ b w, exec (.fabricWrite i addr b w) s = .next s

/-! ### Supplies, balls and the test access port (chapter 20) -/

/-- R496, R497, R503 and R504: monitor alarms and rail checks, the PHY polls, TIME_PPS, and the instructions of the TAP. -/
def Obligations.SuppliesBallsAndBoundaryScan : Prop :=
  ∀ (s : State),
    -- monitor alarms (R503)
    (∀ (r : Rail) (lost : Bool), ∃ z : State, z = { s with pkg := { s.pkg with alarms := z.pkg.alarms } } ∧ r ∈ z.pkg.alarms ∧
      (∀ q, q ∈ z.pkg.alarms ↔ q = r ∨ q ∈ s.pkg.alarms) ∧
      (∀ i : Fin 16, (r, i) ∈ [(Rail.vioMtr, 2), (.vioMot, 12), (.vddaMot, 12), (.vioIo, 15), (.vioXspi, 15), (.vioAud, 13), (.vddSds, 14), (.vddhSds, 14)] →
        ∃ t u, exec (.supplyMonitorAlarm r lost) s = .next t ∧ exec (.islandFault i) u = .next t ∧
          isl u i.val = { isl s i.val with supplyAlarm := true } ∧ (∀ j, j ≠ i.val → isl u j = isl s j) ∧ EverythingBut [.isl, .islRest] z u ∧
          (isl t i.val).latched = true ∧ (isl t i.val).supplyAlarm = true) ∧
      (r = .vddaPll → ∃ t, exec (.supplyMonitorAlarm r lost) s = .next t ∧ exec .refclkLoss z = .next t ∧ t.clock.refclkLost = true ∧
        exec .refclkRelock t = .next t) ∧
      (r = .vddKerb → exec (.supplyMonitorAlarm r lost) s = exec (.kerbFault .supply) z ∧
        ∃ t, exec (.supplyMonitorAlarm r lost) s = .next t ∧ (s.kerb.run = .off ∨ s.kerb.run = .fault → t = z)) ∧
      (r = .vddAon ∨ r = .vioAon ∨ r = .vddCore → ∃ t, exec (.supplyMonitorAlarm r lost) s = .next t ∧ t.mode.mode = .bringup ∧ t.mode.step = 1 ∧
        t.mode.warm = false ∧ t.mode.entryCause = (if lost then 0x01 else 0x05) ∧ t.log = s.log ∧
        t.time.rtcValid = (!lost && s.time.rtcValid) ∧ (∀ a, nvmBase ≤ a → a < nvmBase + nvmSize → t.mem.read a = s.mem.read a)) ∧
      (r = .vddSram → ∃ t, exec (.supplyMonitorAlarm r lost) s = .next t ∧ (isl t 0).quiet = (isl s 0).quiet ∧ (isl t 1).quiet = (isl s 1).quiet ∧
        ∀ i, 2 ≤ i → i < 16 → (isl t i).latched = true ∧ ((isl s i).st = .off → (isl t i).st = .off ∧ (isl t i).restarts = (isl s i).restarts) ∧
          ((isl s i).st = .on → (isl s i).faulted = false → (isl s i).fence = none → (isl t i).faulted = true ∧ (isl t i).fence = some .reset ∧
            (isl t i).resetPending = true))) ∧
    (∀ r i, railIsland r = some i → (∀ q, q ∈ s.pkg.alarms → q ≠ r → railIsland q ≠ some i) →
      ∃ t, exec (.supplyAlarmClear r) s = .next t ∧ isl t i = { isl s i with supplyAlarm := false } ∧ (∀ j, j ≠ i → isl t j = isl s j) ∧
        (∀ q, q ∈ t.pkg.alarms ↔ q ∈ s.pkg.alarms ∧ q ≠ r) ∧ EverythingBut [.isl, .islRest, .pkg] s t) ∧
    (∀ r, (railIsland r = none ∧ r ≠ .vddKerb) ∨ (∃ q i, railIsland r = some i ∧ railIsland q = some i ∧ q ≠ r ∧ q ∈ s.pkg.alarms) →
      ∃ t, exec (.supplyAlarmClear r) s = .next t ∧ t = { s with pkg := { s.pkg with alarms := t.pkg.alarms } } ∧
        ∀ q, q ∈ t.pkg.alarms ↔ q ∈ s.pkg.alarms ∧ q ≠ r) ∧
    (∃ t, exec (.supplyAlarmClear .vddKerb) s = .next t ∧ Rail.vddKerb ∉ t.pkg.alarms ∧
      isl t islKERB = { isl s islKERB with faulted := false } ∧ (∀ j, j ≠ islKERB → isl t j = isl s j) ∧ EverythingBut [.isl, .islRest, .pkg] s t) ∧
    -- the rail check (R504)
    (s.mode.mode = .bringup → s.mode.step = 1 →
      exec .railCheckTimeout s = .next { s with pkg := { s.pkg with pwrEn := 0, resetOutN := false, railHold := true } } ∧
      portSilent { s with pkg := { s.pkg with pwrEn := 0, resetOutN := false, railHold := true } } = true ∧
      ∀ x, s.pkg.railHold = true → exec (.bringupStepComplete x) s = .next s) ∧
    (s.mode.mode ≠ .bringup ∨ s.mode.step ≠ 1 → exec .railCheckTimeout s = .next s) ∧
    (s.pkg.railHold = true → s.mode.mode = .bringup → exec .railRetry s = .next { s with pkg := { s.pkg with railHold := false } }) ∧
    (s.pkg.railHold = false ∨ s.mode.mode ≠ .bringup → exec .railRetry s = .next s) ∧
    -- balls (R496)
    (∀ (v : BitVec 16) (y : Bool),
      (s.pkg.blvRstN = true → exec (.mdioPoll false v y) s = .next { s with pkg := { s.pkg with phyP := v.toNat, ledP := y } } ∧
        exec (.mdioPoll true v y) s = .next { s with pkg := { s.pkg with phyQ := v.toNat, ledQ := y } }) ∧
      (s.pkg.blvRstN = false → ∀ q, exec (.mdioPoll q v y) s = .next s)) ∧
    exec .timePps s = .next { s with time := { s.time with pps := true, ppsFall := s.time.uptime + 10000000 } } ∧
    -- boundary scan (R497)
    (tapActive s = false →
      exec .bypass s = .next { s with pkg := { s.pkg with tap := .bypass, tdo := 0, scanDrives := false, scanFloats := false } } ∧
      (∀ c, c = .idcode ∨ c = .tapReset → exec c s = .next { s with pkg := { s.pkg with
        tap := .idcode, tdo := (if s.pkg.revA1 then 0x17256B4B else 0x07256B4B), scanDrives := false, scanFloats := false } }) ∧
      (∀ balls vals, exec (.samplePreload balls vals) s = .next { s with pkg := { s.pkg with
        tap := .samplePreload, tdo := maskOf balls, preload := vals, scanDrives := false, scanFloats := false } }) ∧
      (∀ keys c i, (c, i) ∈ [(Instr.extest keys, TapInstr.extest), (.clamp keys, .clamp), (.highz keys, .highz)] →
        (keys = true → s.mode.mode = .bringup ∨ s.mode.mode = .safestop → exec c s = .next { s with pkg := { s.pkg with
          tap := i, tdo := 0, scanDrives := i == .extest || i == .clamp, scanFloats := i == .highz } }) ∧
        (keys = false ∨ (s.mode.mode ≠ .bringup ∧ s.mode.mode ≠ .safestop) → exec c s = exec .bypass s))) ∧
    (tapActive s = true → ∀ b v k c, c ∈ [Instr.bypass, .idcode, .tapReset, .samplePreload b v, .extest k, .clamp k, .highz k] →
      ((s.pkg.tap, c) ∉ [(TapInstr.extest, Instr.extest k), (.clamp, .clamp k), (.highz, .highz k)] →
        ∃ t, exec c s = .next t ∧ t.mode.mode = .bringup ∧ t.mode.step = 1 ∧ t.mode.warm = false ∧ t.log = s.log ∧
          t.mode.entryCause = Config.tapResetCause.toNat) ∧
      ((s.pkg.tap, c) ∈ [(TapInstr.extest, Instr.extest k), (.clamp, .clamp k), (.highz, .highz k)] → exec c s = .next s))

/-! ### The machine as a whole -/

/-- A step runs the command at the front of the queue on the state with the queue's rest. On an empty queue 1 µs passes for the clocks,
which is the model's choice (log entry 1). -/
def Obligations.StepRunsTheFrontCommand : Prop :=
  (∀ (c : Instr) (rest : List Instr) (s : State), s.pending = c :: rest → step s = exec c { s with pending := rest }) ∧
  ∀ s : State, s.pending = [] → ∃ x : TimeState, step s = .next { s with time := x } ∧ x.uptime = s.time.uptime + 1000 ∧
    x.centre = (s.time.centre + 1000) % 2 ^ 64 ∧ x.centreValid = s.time.centreValid ∧ x.rtcValid = s.time.rtcValid ∧
    (s.time.rtcNs < 999999000 → x.rtcSec = s.time.rtcSec ∧ x.rtcNs = s.time.rtcNs + 1000) ∧
    (999999000 ≤ s.time.rtcNs → x.rtcSec = (s.time.rtcSec + 1) % 2 ^ 32 ∧ x.rtcNs = s.time.rtcNs + 1000 - 1000000000)

/-- R15, R471 and R488: what every register of Table 19.1 with a stated reset value reads after reset; the fields that come from NVM
read 0 until bring-up loads them. -/
def Obligations.ResetRegisterMap : Prop :=
  (∀ (p : Port) (o v : Nat), (o, v) ∈ [(0x000, 0x0E5A725600004301), (0x020, 0), (0x028, 0), (0x040, 0x01000011), (0x048, 1), (0x050, 0), (0x080, 0),
      (0x088, 0x207), (0x090, 0), (0x098, 0), (0x0A0, 0), (0x200, 0x3FFF), (0x208, 0), (0x210, 0x0070000000003FFF), (0x258, 0), (0x2D8, 0),
      (0x2E0, 0), (0x2E8, 0), (0x300, 0), (0x308, 0), (0x310, 0), (0x318, 0), (0x320, 0), (0x328, 0), (0x330, 0), (0x360, 0), (0x368, 0),
      (0x370, 0), (0x380, 0x00000F0000000003), (0x388, 0), (0x390, 0), (0x398, 0), (0x3A0, 2), (0x3A8, 0), (0x3B0, 0), (0x3B8, 0),
      (0x3C0, 0xA03), (0x3C8, 0), (0x3D0, 8), (0x3D8, 0), (0x600, 0), (0x678, 0), (0x680, 0), (0x688, 0x3D)] →
    hostRegRead p o State.reset = BitVec.ofNat 64 v) ∧
  (∀ (p : Port) (i : Fin 4), hostRegRead p (0x100 + 0x10 * i.val) State.reset = 0 ∧ hostRegRead p (0x108 + 0x10 * i.val) State.reset = 0 ∧
    hostRegRead p (0x340 + 8 * i.val) State.reset = 0 ∧ hostRegRead p (0x2A0 + 8 * i.val) State.reset = 0) ∧
  (∀ (p : Port) (i : Fin 8), hostRegRead p (0x218 + 8 * i.val) State.reset = 0 ∧ hostRegRead p (0x260 + 8 * i.val) State.reset = 0) ∧
  (∀ (p : Port) (i : Fin 21), hostRegRead p (0x400 + 8 * i.val) State.reset = 0) ∧
  (∀ (p : Port) (i : Fin 14), hostRegRead p (0x608 + 8 * i.val) State.reset = 0) ∧
  (∀ p : Port, bits (hostRegRead p 0x008 State.reset) 7 0 ∈ [0xA0, 0xA1]) ∧
  State.reset.mode.mode = .bringup ∧ State.reset.mode.step = 1 ∧ State.reset.mode.entryCause = 0x01 ∧ State.reset.kerb.run = .off

/-- Memory after reset is in its canonical form, and no command waits. -/
def Obligations.ResetMemoryCanonical : Prop := State.reset.Inv ∧ State.reset.pending = []

/-- From every state whose memory is canonical, every step answers a next state, takes one command from the queue and leaves memory
canonical. -/
def Obligations.EveryStepKeepsMemoryCanonical : Prop :=
  ∀ s : State, s.Inv → ∃ t : State, step s = .next t ∧ t.Inv ∧ t.pending = s.pending.tail

/-- R337: no bundle, event or debug command of a Signal Core and no fabric access changes anything of Kerb's own: its program, its
instance state, its latches and the values it drives. -/
def Obligations.FirmwareNeverReachesKerb : Prop :=
  ∀ (c : Instr) (s : State), Firmware c → ∃ t : State, exec c s = .next t ∧ t.kerb = s.kerb ∧
    (t.mode.mode = s.mode.mode → kerbOutputs t = kerbOutputs s ∧ ∀ n p, permit t n p = permit s n p)
end

