-- ==== Sys2Proof/Laws/Bits.lean ====
section
/-! SUPPORT. Bits of a number: setting one, the mask of a list, the numbers below a bound whose bits are set, and masks built
over them. -/
set_option linter.all false
set_option Elab.async false
namespace Sys2Proof.Machine

/-- A number split at bit `i` where that bit is clear. -/
theorem split_at_bit (m i : Nat) (h : m.testBit i = false) : ∃ q r, m = 2 ^ (i + 1) * q + r ∧ r < 2 ^ i := by
  refine ⟨m / 2 ^ (i + 1), m % 2 ^ (i + 1), (Nat.div_add_mod m _).symm, ?_⟩
  rcases Nat.lt_or_ge (m % 2 ^ (i + 1)) (2 ^ i) with h1 | h1
  · exact h1
  · exfalso
    have h2 := Nat.mod_lt m (Nat.two_pow_pos (i + 1))
    have h3 : (m % 2 ^ (i + 1)).testBit i = true := by
      have e : m % 2 ^ (i + 1) = 2 ^ i + (m % 2 ^ (i + 1) - 2 ^ i) := by omega
      rw [e, Nat.testBit_two_pow_add_eq, Nat.testBit_lt_two_pow (by rw [Nat.pow_succ] at h2; omega)]; rfl
    rw [Nat.testBit_mod_two_pow, h] at h3
    simp at h3

/-- Adding a power of two whose bit is clear sets that bit alone. -/
theorem testBit_add_pow (m i j : Nat) (h : m.testBit i = false) : (m + 2 ^ i).testBit j = (decide (j = i) || m.testBit j) := by
  obtain ⟨q, r, rfl, hr⟩ := split_at_bit m i h
  have hr1 : r < 2 ^ (i + 1) := by rw [Nat.pow_succ]; omega
  have hr2 : r + 2 ^ i < 2 ^ (i + 1) := by rw [Nat.pow_succ]; omega
  rw [Nat.add_assoc, Nat.testBit_two_pow_mul_add q hr2, Nat.testBit_two_pow_mul_add q hr1]
  by_cases e : j = i
  · subst e
    rw [if_pos (Nat.lt_succ_self _), Nat.add_comm, Nat.testBit_two_pow_add_eq, Nat.testBit_lt_two_pow hr]
    simp
  · rw [decide_eq_false e, Bool.false_or]
    by_cases l : j < i + 1
    · rw [if_pos l, if_pos l, Nat.add_comm, Nat.testBit_two_pow_add_gt (by omega)]
    · rw [if_neg l, if_neg l]

/-- Setting a bit changes that bit alone. -/
theorem setBitN_bit (m i : Nat) (b : Bool) (j : Nat) : (setBitN m i b).testBit j = if j = i then b else m.testBit j := by
  unfold setBitN
  by_cases hb : m.testBit i = b
  · rw [if_pos hb]
    by_cases e : j = i
    · rw [if_pos e, e, hb]
    · rw [if_neg e]
  · rw [if_neg hb]
    cases b with
    | true =>
      have hf : m.testBit i = false := by simpa using hb
      rw [if_pos rfl, testBit_add_pow m i j hf]
      by_cases e : j = i
      · rw [if_pos e, decide_eq_true e, Bool.true_or]
      · rw [if_neg e, decide_eq_false e, Bool.false_or]
    | false =>
      have ht : m.testBit i = true := by simpa using hb
      rw [if_neg (by decide)]
      have hx : (m ^^^ 2 ^ i).testBit i = false := by rw [Nat.testBit_xor, ht, Nat.testBit_two_pow_self]; rfl
      have hs : (m ^^^ 2 ^ i) + 2 ^ i = m := by
        apply Nat.eq_of_testBit_eq
        intro t
        rw [testBit_add_pow _ _ _ hx, Nat.testBit_xor, Nat.testBit_two_pow]
        by_cases e : t = i
        · subst e; simp [ht]
        · rw [decide_eq_false e, decide_eq_false (fun c => e c.symm)]; simp
      have hm : m - 2 ^ i = m ^^^ 2 ^ i := by omega
      rw [hm, Nat.testBit_xor, Nat.testBit_two_pow]
      by_cases e : j = i
      · subst e; rw [if_pos rfl, ht]; simp
      · rw [if_neg e, decide_eq_false (fun c => e c.symm)]; simp

/-- Bit `i` of the mask of a list is its element `i`. -/
theorem maskOf_testBit (l : List Bool) (i : Nat) : (maskOf l).testBit i = (l[i]?).getD false := by
  induction l generalizing i with
  | nil => simp [maskOf]
  | cons b t ih =>
    have e : maskOf (b :: t) = b2n b + 2 * maskOf t := rfl
    have hb : b2n b < 2 := by cases b <;> decide
    rw [e]
    cases i with
    | zero => cases b <;> simp [b2n, Nat.testBit_zero] <;> omega
    | succ i =>
      rw [Nat.testBit_succ, show (b2n b + 2 * maskOf t) / 2 = maskOf t by omega, ih i]
      simp

/-- Bit `i` of the mask of a function over the numbers below `n`. -/
theorem maskOf_range (n : Nat) (f : Nat → Bool) (i : Nat) : (maskOf ((List.range n).map f)).testBit i = (decide (i < n) && f i) := by
  rw [maskOf_testBit, List.getElem?_map]
  by_cases h : i < n
  · rw [List.getElem?_range h, decide_eq_true h]; rfl
  · rw [List.getElem?_eq_none (by simpa using h), decide_eq_false h]; rfl

/-- The numbers below `n` whose bit is set. -/
theorem mem_setBitsBelow (n m i : Nat) : i ∈ setBitsBelow n m ↔ i < n ∧ m.testBit i = true := by
  unfold setBitsBelow
  rw [List.mem_filter, List.mem_range]

/-- Adding distinct powers of two, but for those a condition leaves out. -/
theorem testBit_fold_add (c : Nat → Bool) (j : Nat) : ∀ (l : List Nat) (a : Nat), l.Nodup → (∀ i, i ∈ l → a.testBit i = false) →
    (l.foldl (fun a i => if c i then a else a + 2 ^ i) a).testBit j = (a.testBit j || (decide (j ∈ l) && !c j))
  | [], a, _, _ => by simp
  | i :: t, a, hn, ha => by
    have hi := ha i (by simp)
    have hnt := (List.nodup_cons.mp hn)
    rw [List.foldl_cons, testBit_fold_add c j t _ hnt.2]
    · by_cases hc : c i = true
      · rw [if_pos hc]
        by_cases e : j = i
        · subst e; simp [hc]
        · simp [e]
      · rw [if_neg hc, testBit_add_pow _ _ _ hi]
        by_cases e : j = i
        · subst e; simp [hc, hnt.1]
        · simp [e]
    · intro x hx
      have hxi : x ≠ i := by rintro rfl; exact hnt.1 hx
      split
      · exact ha x (by simp [hx])
      · rw [testBit_add_pow _ _ _ hi, ha x (by simp [hx]), decide_eq_false hxi]; rfl

/-- Each number below the bound stands once among those whose bit is set. -/
theorem setBitsBelow_nodup (n m : Nat) : (setBitsBelow n m).Nodup := by
  unfold setBitsBelow
  exact List.Pairwise.filter _ List.nodup_range

/-- The bits of a mask below a bound, less those a condition leaves out. -/
theorem testBit_kept (n m : Nat) (c : Nat → Bool) (j : Nat) :
    ((setBitsBelow n m).foldl (fun a i => if c i then a else a + 2 ^ i) 0).testBit j = (decide (j < n) && m.testBit j && !c j) := by
  rw [testBit_fold_add c j _ 0 (setBitsBelow_nodup n m) (by intro i _; exact Nat.zero_testBit i), Nat.zero_testBit, Bool.false_or]
  congr 1
  by_cases h : j ∈ setBitsBelow n m
  · have := (mem_setBitsBelow n m j).mp h
    rw [decide_eq_true h, decide_eq_true this.1, this.2]; rfl
  · rw [decide_eq_false h]
    by_cases h1 : j < n
    · by_cases h2 : m.testBit j = true
      · exact absurd ((mem_setBitsBelow n m j).mpr ⟨h1, h2⟩) h
      · rw [Bool.not_eq_true] at h2; rw [h2]; simp
    · rw [decide_eq_false h1]; rfl

/-- The union of masks over a list. -/
theorem testBit_fold_or (f : Nat → Nat) (j : Nat) : ∀ (l : List Nat) (a : Nat),
    (l.foldl (fun a i => a ||| f i) a).testBit j = (a.testBit j || l.any (fun i => (f i).testBit j))
  | [], a => by simp
  | i :: t, a => by rw [List.foldl_cons, testBit_fold_or f j t, Nat.testBit_or, List.any_cons, Bool.or_assoc]

end Sys2Proof.Machine
end

