-- ==== Sys2Proof/Laws/Memory.lean ====
section
/-! SUPPORT. The laws of byte-addressed memory: every operation keeps the canonical form, and a read after a write. -/
set_option linter.all false
set_option Elab.async false
namespace Sys2Proof.Machine

/-! ### The canonical form -/

theorem Memory.wfFrom_weaken {lo lo' : Nat} (hl : lo' ≤ lo) : ∀ {m : Memory}, Memory.wfFrom lo m = true → Memory.wfFrom lo' m = true
  | [], _ => rfl
  | (a, b) :: t, h => by
    simp only [Memory.wfFrom, Bool.and_eq_true, decide_eq_true_eq] at h ⊢
    exact ⟨⟨Nat.le_trans hl h.1.1, h.1.2⟩, h.2⟩

theorem Memory.wfFrom_put (a : Nat) (b : Byte) (hb : (b != memFill) = true) :
    ∀ {lo : Nat} {m : Memory}, lo ≤ a → Memory.wfFrom lo m = true → Memory.wfFrom lo (Memory.put a b m) = true
  | lo, [], hl, _ => by simp [Memory.put, Memory.wfFrom, hl, hb]
  | lo, (k, c) :: t, hl, h => by
    simp only [Memory.wfFrom, Bool.and_eq_true, decide_eq_true_eq] at h
    unfold Memory.put
    split
    · rename_i hlt
      simp only [Memory.wfFrom, Bool.and_eq_true, decide_eq_true_eq]
      exact ⟨⟨hl, hb⟩, ⟨hlt, h.1.2⟩, h.2⟩
    · split
      · rename_i heq
        subst heq
        simp only [Memory.wfFrom, Bool.and_eq_true, decide_eq_true_eq]
        exact ⟨⟨hl, hb⟩, h.2⟩
      · simp only [Memory.wfFrom, Bool.and_eq_true, decide_eq_true_eq]
        exact ⟨h.1, Memory.wfFrom_put a b hb (by omega) h.2⟩

theorem Memory.wfFrom_erase (a : Nat) :
    ∀ {lo : Nat} {m : Memory}, Memory.wfFrom lo m = true → Memory.wfFrom lo (Memory.erase a m) = true
  | _, [], h => h
  | lo, (k, c) :: t, h => by
    have h0 := h
    simp only [Memory.wfFrom, Bool.and_eq_true, decide_eq_true_eq] at h
    unfold Memory.erase
    split
    · exact h0
    · split
      · exact Memory.wfFrom_weaken (by omega) h.2
      · simp only [Memory.wfFrom, Bool.and_eq_true, decide_eq_true_eq]
        exact ⟨h.1, Memory.wfFrom_erase a h.2⟩

theorem Memory.wfFrom_filter (p : Host.Cell → Bool) :
    ∀ {lo : Nat} {m : Memory}, Memory.wfFrom lo m = true → Memory.wfFrom lo (m.filter p) = true
  | _, [], h => h
  | lo, (k, c) :: t, h => by
    simp only [Memory.wfFrom, Bool.and_eq_true, decide_eq_true_eq] at h
    have ht := Memory.wfFrom_filter p h.2
    by_cases hp : p (k, c) = true
    · simp only [List.filter_cons, hp, if_true, Memory.wfFrom, Bool.and_eq_true, decide_eq_true_eq]
      exact ⟨h.1, ht⟩
    · simp only [List.filter_cons, hp]
      exact Memory.wfFrom_weaken (by omega) ht

theorem Memory.write_wf {m : Memory} (a : Nat) (b : Byte) (h : m.wf = true) : (m.write a b).wf = true := by
  unfold Memory.write Memory.wf at *
  split
  · exact Memory.wfFrom_erase a h
  · rename_i hb
    exact Memory.wfFrom_put a b (by simpa using hb) (Nat.zero_le a) h

theorem Memory.writeN_wf : ∀ (n a v : Nat) {m : Memory}, m.wf = true → (m.writeN a n v).wf = true
  | 0, _, _, _, h => h
  | n + 1, a, v, _, h => Memory.writeN_wf n (a + 1) (v / 256) (Memory.write_wf a _ h)

theorem Memory.writeW_wf {m : Memory} (a : Nat) (w : Word) (h : m.wf = true) : (m.writeW a w).wf = true :=
  Memory.writeN_wf 8 a w.toNat h

theorem Memory.writeBytes_wf : ∀ (p : List Byte) (a : Nat) {m : Memory}, m.wf = true → (m.writeBytes a p).wf = true
  | [], _, _, h => h
  | _ :: t, a, _, h => Memory.writeBytes_wf t (a + 1) (Memory.write_wf a _ h)

theorem Memory.filter_wf {m : Memory} (p : Host.Cell → Bool) (h : m.wf = true) : Memory.wf (m.filter p) = true :=
  Memory.wfFrom_filter p h

theorem Memory.clear_wf {m : Memory} (lo hi : Nat) (h : m.wf = true) : (m.clear lo hi).wf = true :=
  Memory.filter_wf _ h

theorem Memory.foldl_wf {α : Type} (f : Memory → α → Memory) (hf : ∀ m x, m.wf = true → (f m x).wf = true) :
    ∀ (l : List α) {m : Memory}, m.wf = true → (l.foldl f m).wf = true
  | [], _, h => h
  | x :: t, _, h => Memory.foldl_wf f hf t (hf _ x h)

theorem Memory.foldl_fst_wf {α β : Type} (f : Memory × β → α → Memory × β)
    (hf : ∀ m x, m.1.wf = true → (f m x).1.wf = true) :
    ∀ (l : List α) {m : Memory × β}, m.1.wf = true → (l.foldl f m).1.wf = true
  | [], _, h => h
  | x :: t, _, h => Memory.foldl_fst_wf f hf t (hf _ x h)

/-! ### A read after a write -/

theorem Memory.read_below {lo : Nat} : ∀ {m : Memory} {a : Nat}, Memory.wfFrom lo m = true → a < lo → m.read a = memFill
  | [], _, _, _ => rfl
  | (k, c) :: t, a, h, ha => by
    simp only [Memory.wfFrom, Bool.and_eq_true, decide_eq_true_eq] at h
    unfold Memory.read
    rw [if_neg (by omega)]
    exact Memory.read_below h.2 (by omega)

theorem Memory.read_put (a x : Nat) (b : Byte) :
    ∀ {m : Memory}, (m.put a b).read x = if x = a then b else m.read x
  | [] => by
    simp only [Memory.put, Memory.read]
    by_cases h : a = x
    · simp [h]
    · simp [h, Ne.symm h]
  | (k, c) :: t => by
    unfold Memory.put
    split
    · simp only [Memory.read]
      by_cases h : a = x
      · simp [h]
      · simp [h, Ne.symm h]
    · split
      · rename_i h
        subst h
        simp only [Memory.read]
        by_cases h : a = x
        · simp [h]
        · simp [h, Ne.symm h]
      · simp only [Memory.read]
        rw [Memory.read_put a x b]
        by_cases h : k = x
        · subst h
          simp only [if_true]
          rw [if_neg (by omega)]
        · simp [h]

theorem Memory.read_erase (a x : Nat) :
    ∀ {lo : Nat} {m : Memory}, Memory.wfFrom lo m = true → (m.erase a).read x = if x = a then memFill else m.read x
  | _, [], _ => by simp [Memory.erase, Memory.read]
  | lo, (k, c) :: t, h => by
    have h0 := h
    simp only [Memory.wfFrom, Bool.and_eq_true, decide_eq_true_eq] at h
    unfold Memory.erase
    split
    · rename_i hlt
      by_cases hx : x = a
      · subst hx
        rw [if_pos rfl]
        exact Memory.read_below (lo := k) (by simpa [Memory.wfFrom] using And.intro (by simpa using h.1.2) h.2) hlt
      · rw [if_neg hx]
    · split
      · rename_i heq
        subst heq
        by_cases hx : x = a
        · subst hx
          rw [if_pos rfl]
          exact Memory.read_below h.2 (Nat.lt_succ_self _)
        · rw [if_neg hx]
          simp [Memory.read, Ne.symm hx]
      · simp only [Memory.read]
        rw [Memory.read_erase a x h.2]
        by_cases hk : k = x
        · subst hk
          simp only [if_true]
          rw [if_neg (by omega)]
        · simp [hk]

/-- A byte reads back as written, and every other byte as before. -/
theorem Memory.read_write {m : Memory} (a x : Nat) (b : Byte) (h : m.wf = true) :
    (m.write a b).read x = if x = a then b else m.read x := by
  unfold Memory.write
  split
  · rename_i hb
    rw [Memory.read_erase a x h, hb]
  · exact Memory.read_put a x b

/-- Bytes outside `[a, a + n)` read as before a store of `n` bytes at `a`. -/
theorem Memory.read_writeN_outside (x : Nat) : ∀ (n a v : Nat) {m : Memory}, m.wf = true → x < a ∨ a + n ≤ x →
    (m.writeN a n v).read x = m.read x
  | 0, _, _, _, _, _ => rfl
  | n + 1, a, v, m, h, hx => by
    unfold Memory.writeN
    rw [Memory.read_writeN_outside x n (a + 1) (v / 256) (Memory.write_wf a _ h) (by omega), Memory.read_write a x _ h,
      if_neg (by omega)]

/-- Bytes outside the stored ones read as before a store of a list of bytes. -/
theorem Memory.read_writeBytes_outside (x : Nat) : ∀ (p : List Byte) (a : Nat) {m : Memory}, m.wf = true →
    x < a ∨ a + p.length ≤ x → (m.writeBytes a p).read x = m.read x
  | [], _, _, _, _ => rfl
  | b :: t, a, m, h, hx => by
    unfold Memory.writeBytes
    rw [Memory.read_writeBytes_outside x t (a + 1) (Memory.write_wf a _ h) (by simp only [List.length_cons] at hx; omega),
      Memory.read_write a x _ h, if_neg (by simp only [List.length_cons] at hx; omega)]

/-- Reading depends only on the bytes read. -/
theorem Memory.readN_congr (m m' : Memory) : ∀ (n a : Nat), (∀ x, a ≤ x → x < a + n → m'.read x = m.read x) →
    m'.readN a n = m.readN a n
  | 0, _, _ => rfl
  | n + 1, a, h => by
    unfold Memory.readN
    rw [h a (Nat.le_refl _) (by omega), Memory.readN_congr m m' n (a + 1) (fun x h1 h2 => h x (by omega) (by omega))]

/-- Bytes read back as written. -/
theorem Memory.readN_writeN : ∀ (n a v : Nat) {m : Memory}, m.wf = true → (m.writeN a n v).readN a n = v % 256 ^ n
  | 0, a, v, m, _ => by simp [Memory.readN, Nat.mod_one]
  | n + 1, a, v, m, h => by
    have h1 := Memory.write_wf a (BitVec.ofNat 8 v) h
    unfold Memory.readN Memory.writeN
    rw [Memory.readN_writeN n (a + 1) (v / 256) h1, Memory.read_writeN_outside a n (a + 1) (v / 256) h1 (by omega),
      Memory.read_write a a _ h, if_pos rfl, BitVec.toNat_ofNat, show (256 : Nat) ^ (n + 1) = 256 * 256 ^ n from Nat.pow_succ', Nat.mod_mul]

/-- A word reads back as written. -/
theorem Memory.readW_writeW {m : Memory} (a : Nat) (w : Word) (h : m.wf = true) : (m.writeW a w).readW a = w := by
  unfold Memory.readW Memory.writeW
  rw [Memory.readN_writeN 8 a w.toNat h]
  apply BitVec.eq_of_toNat_eq
  rw [BitVec.toNat_ofNat]
  have := w.isLt
  omega

/-- A word apart from the one written reads as before. -/
theorem Memory.readW_writeW_ne {m : Memory} (a b : Nat) (w : Word) (h : m.wf = true) (hb : b + 8 ≤ a ∨ a + 8 ≤ b) :
    (m.writeW a w).readW b = m.readW b := by
  unfold Memory.readW
  rw [Memory.readN_congr m (m.writeW a w) 8 b (fun x h1 h2 => Memory.read_writeN_outside x 8 a w.toNat h (by omega))]

/-! ### Lists of bytes -/

theorem leBytes_length : ∀ (n v : Nat), (leBytes n v).length = n
  | 0, _ => rfl
  | n + 1, v => by rw [leBytes, List.length_cons, leBytes_length n]

theorem Memory.read_writeBytes : ∀ (p : List Byte) (a i : Nat), ∀ m : Memory, m.wf = true → (h : i < p.length) → (m.writeBytes a p).read (a + i) = p[i] := by
  intro p
  induction p with
  | nil => intro a i m hm h; exact absurd h (by simp)
  | cons b p ih =>
    intro a i m hm h
    show ((m.write a b).writeBytes (a + 1) p).read (a + i) = _
    cases i with
    | zero =>
      rw [Memory.read_writeBytes_outside _ _ _ (Memory.write_wf a b hm) (Or.inl (by omega))]
      rw [Memory.read_write _ _ _ hm]; simp
    | succ i =>
      have := ih (a + 1) i (m.write a b) (Memory.write_wf a b hm) (by simpa using h)
      rw [show a + (i + 1) = a + 1 + i by omega, this]; simp

theorem Memory.readN_bytes (m : Memory) (a : Nat) : ∀ (n : Nat) (q : List Byte), (∀ i (h : i < q.length), m.read (a + i) = q[i]) → n = q.length → m.readN a n = ofLeBytes q := by
  intro n q
  induction q generalizing a n with
  | nil => intro _ h; subst h; rfl
  | cons b q ih =>
    intro hr h
    subst h
    show (m.read a).toNat + 256 * Memory.readN m (a + 1) q.length = b.toNat + 256 * ofLeBytes q
    have h0 := hr 0 (by simp)
    rw [Nat.add_zero] at h0
    rw [h0, ih (a + 1) q.length (by
      intro i hi
      have := hr (i + 1) (by simpa using hi)
      rw [show a + 1 + i = a + (i + 1) by omega, this]; simp) rfl]
    simp

theorem ofLe_le : ∀ (n v : Nat), ofLeBytes (leBytes n v) = v % 256 ^ n
  | 0, v => by simp [ofLeBytes, leBytes, Nat.mod_one]
  | n + 1, v => by
    rw [leBytes, ofLeBytes, ofLe_le n, BitVec.toNat_ofNat]
    have : 256 ^ (n + 1) = 256 * 256 ^ n := by rw [Nat.pow_succ, Nat.mul_comm]
    rw [this, Nat.mod_mul]

theorem Memory.readN_part (m : Memory) (hm : m.wf = true) (a : Nat) (pre mid post : List Byte) : (m.writeBytes a (pre ++ mid ++ post)).readN (a + pre.length) mid.length = ofLeBytes mid := by
  apply Memory.readN_bytes
  · intro i hi
    rw [Nat.add_assoc, Memory.read_writeBytes (pre ++ mid ++ post) a (pre.length + i) m hm (by simp; omega)]
    rw [List.getElem_append_left (by simp; omega), List.getElem_append_right (by omega)]
    simp
  · rfl

end Sys2Proof.Machine
end

