-- ==== Sys2Proof/Laws/Vec.lean ====
section
/-! SUPPORT. The laws of the fixed tables: what reads back after a change. -/
set_option linter.all false
set_option Elab.async false
namespace Sys2Proof.Machine

theorem vget_vmod {α : Type} {n : Nat} (v : Vector α n) (i j : Nat) (f : α → α) (d : α) :
    vget (vmod v i f) j d = if i = j ∧ i < n then f (vget v j d) else vget v j d := by
  unfold vget vmod
  by_cases hi : i < n
  · by_cases hj : j < n
    · by_cases hij : i = j
      · subst hij
        simp [hi]
      · simp [hi, hj, hij]
    · rw [if_neg (by omega : ¬(i = j ∧ i < n))]
      simp [hi, hj]
  · have : ¬(i = j ∧ i < n) := by omega
    simp [hi, this]

theorem vget_vmod_same {α : Type} {n : Nat} (v : Vector α n) {i : Nat} (f : α → α) (d : α) (h : i < n) :
    vget (vmod v i f) i d = f (vget v i d) := by
  rw [vget_vmod, if_pos ⟨rfl, h⟩]

theorem vget_vmod_other {α : Type} {n : Nat} (v : Vector α n) {i j : Nat} (f : α → α) (d : α) (h : i ≠ j) :
    vget (vmod v i f) j d = vget v j d := by
  rw [vget_vmod, if_neg (fun e => h e.1)]

/-- A change that a view does not see leaves the view of the whole table. -/
theorem vmod_map {α β : Type} {n : Nat} (q : α → β) (v : Vector α n) (i : Nat) (f : α → α) (h : ∀ x, q (f x) = q x) :
    (vmod v i f).map q = v.map q := by
  unfold vmod
  split
  · rename_i hi
    apply Vector.ext
    intro j hj
    simp only [Vector.getElem_map, Vector.getElem_set]
    split
    · rename_i e
      subst e
      exact h _
    · rfl
  · rfl

end Sys2Proof.Machine
end

