-- ==== Sys2Proof/Laws/Only.lean ====
section
/-! SUPPORT. What an operation can touch: `Only k s t` says that `t` has the queue of `s`, that it agrees with `s` on every
part of the state whose bit of `k` is clear, and that its memory is canonical if that of `s` is. One lemma per operation of
the model is stated with it, so that frames and the canonical form of memory follow without unfolding anything. -/
set_option linter.all false
set_option Elab.async false
namespace Sys2Proof.Machine

/-- `t` differs from `s` at most in the parts whose bit is set in `k`; the queue is the same, and memory stays canonical. -/
structure Only (k : Nat) (s t : State) : Prop where
  pending : t.pending = s.pending
  time : k.testBit 0 = false → t.time = s.time
  mode : k.testBit 1 = false → t.mode = s.mode
  clock : k.testBit 2 = false → t.clock = s.clock
  isl : k.testBit 3 = false → t.isl = s.isl
  host : k.testBit 4 = false → t.host = s.host
  log : k.testBit 5 = false → t.log = s.log
  consent : k.testBit 6 = false → t.consent = s.consent
  arc : k.testBit 7 = false → t.arc = s.arc
  cores : k.testBit 8 = false → t.cores = s.cores
  meter : k.testBit 9 = false → t.meter = s.meter
  ldg : k.testBit 10 = false → t.ldg = s.ldg
  lift : k.testBit 11 = false → t.lift = s.lift
  motion : k.testBit 12 = false → t.motion = s.motion
  door : k.testBit 13 = false → t.door = s.door
  kerb : k.testBit 14 = false → t.kerb = s.kerb
  bs : k.testBit 15 = false → t.bs = s.bs
  fc : k.testBit 16 = false → t.fc = s.fc
  pwm : k.testBit 17 = false → t.pwm = s.pwm
  blv : k.testBit 18 = false → t.blv = s.blv
  link : k.testBit 19 = false → t.link = s.link
  pkg : k.testBit 20 = false → t.pkg = s.pkg
  mem : k.testBit 21 = false → t.mem = s.mem
  ecc : k.testBit 22 = false → t.ecc = s.ecc
  reply : k.testBit 23 = false → t.reply = s.reply
  islR : k.testBit 24 = false → t.isl.map Island.quiet = s.isl.map Island.quiet
  hostR : k.testBit 25 = false → t.host.quiet = s.host.quiet
  coresR : k.testBit 26 = false → t.cores.map CoreState.quiet = s.cores.map CoreState.quiet
  memWf : s.mem.wf = true → t.mem.wf = true

/-- `Only`, marking a goal whose second state is built field by field. -/
def OnlyMk (k : Nat) (s t : State) : Prop := Only k s t

theorem Only.refl (k : Nat) (s : State) : Only k s s :=
  ⟨rfl, fun _ => rfl, fun _ => rfl, fun _ => rfl, fun _ => rfl, fun _ => rfl, fun _ => rfl, fun _ => rfl, fun _ => rfl, fun _ => rfl, fun _ => rfl, fun _ => rfl, fun _ => rfl, fun _ => rfl, fun _ => rfl, fun _ => rfl, fun _ => rfl, fun _ => rfl, fun _ => rfl, fun _ => rfl, fun _ => rfl, fun _ => rfl, fun _ => rfl, fun _ => rfl, fun _ => rfl, fun _ => rfl, fun _ => rfl, fun _ => rfl, id⟩

theorem Only.sub {k j i : Nat} (h : k ||| j = j) (hj : j.testBit i = false) : k.testBit i = false := by
  rw [← h, Nat.testBit_or] at hj
  exact (Bool.or_eq_false_iff.mp hj).1

/-- Doing one operation after another. -/
theorem Only.app {k j : Nat} {s x t : State} (hx : Only k x t) (hk : k ||| j = j) (h : Only j s x) : Only j s t where
  pending := hx.pending.trans h.pending
  time := fun hj => (hx.time (Only.sub hk hj)).trans (h.time hj)
  mode := fun hj => (hx.mode (Only.sub hk hj)).trans (h.mode hj)
  clock := fun hj => (hx.clock (Only.sub hk hj)).trans (h.clock hj)
  isl := fun hj => (hx.isl (Only.sub hk hj)).trans (h.isl hj)
  host := fun hj => (hx.host (Only.sub hk hj)).trans (h.host hj)
  log := fun hj => (hx.log (Only.sub hk hj)).trans (h.log hj)
  consent := fun hj => (hx.consent (Only.sub hk hj)).trans (h.consent hj)
  arc := fun hj => (hx.arc (Only.sub hk hj)).trans (h.arc hj)
  cores := fun hj => (hx.cores (Only.sub hk hj)).trans (h.cores hj)
  meter := fun hj => (hx.meter (Only.sub hk hj)).trans (h.meter hj)
  ldg := fun hj => (hx.ldg (Only.sub hk hj)).trans (h.ldg hj)
  lift := fun hj => (hx.lift (Only.sub hk hj)).trans (h.lift hj)
  motion := fun hj => (hx.motion (Only.sub hk hj)).trans (h.motion hj)
  door := fun hj => (hx.door (Only.sub hk hj)).trans (h.door hj)
  kerb := fun hj => (hx.kerb (Only.sub hk hj)).trans (h.kerb hj)
  bs := fun hj => (hx.bs (Only.sub hk hj)).trans (h.bs hj)
  fc := fun hj => (hx.fc (Only.sub hk hj)).trans (h.fc hj)
  pwm := fun hj => (hx.pwm (Only.sub hk hj)).trans (h.pwm hj)
  blv := fun hj => (hx.blv (Only.sub hk hj)).trans (h.blv hj)
  link := fun hj => (hx.link (Only.sub hk hj)).trans (h.link hj)
  pkg := fun hj => (hx.pkg (Only.sub hk hj)).trans (h.pkg hj)
  mem := fun hj => (hx.mem (Only.sub hk hj)).trans (h.mem hj)
  ecc := fun hj => (hx.ecc (Only.sub hk hj)).trans (h.ecc hj)
  reply := fun hj => (hx.reply (Only.sub hk hj)).trans (h.reply hj)
  islR := fun hj => (hx.islR (Only.sub hk hj)).trans (h.islR hj)
  hostR := fun hj => (hx.hostR (Only.sub hk hj)).trans (h.hostR hj)
  coresR := fun hj => (hx.coresR (Only.sub hk hj)).trans (h.coresR hj)
  memWf := fun hm => hx.memWf (h.memWf hm)

theorem Only.mono {k j : Nat} {s t : State} (h : Only k s t) (hk : k ||| j = j) : Only j s t :=
  h.app hk (Only.refl j s)

theorem Only.mk_guard {j : Nat} {s : State} {a0 : List Instr}
    {a1 : TimeState} {a2 : ModeState} {a3 : ClockState} {a4 : Vector Island 16} {a5 : HostState} {a6 : LogState}
    {a7 : ConsentState} {a8 : ArcadeState} {a9 : Vector CoreState 8} {a10 : MeterState} {a11 : LedgerState} {a12 : LiftState}
    {a13 : MotionState} {a14 : DoorState} {a15 : KerbState} {a16 : BsState} {a17 : FcState} {a18 : PwmState}
    {a19 : BlvState} {a20 : BlvLink} {a21 : PkgState} {a22 : Memory} {a23 : List Nat} {a24 : PortReply}
    :
    Only j s (State.mk a0 a1 a2 a3 a4 a5 a6 a7 a8 a9 a10 a11 a12 a13 a14 a15 a16 a17 a18 a19 a20 a21 a22 a23 a24) =
      OnlyMk j s (State.mk a0 a1 a2 a3 a4 a5 a6 a7 a8 a9 a10 a11 a12 a13 a14 a15 a16 a17 a18 a19 a20 a21 a22 a23 a24) := rfl

/-- A state built field by field from `x`, after what led to `x`. -/
theorem Only.of_mk {j : Nat} {s x : State} {a0 : List Instr}
    {a1 : TimeState} {a2 : ModeState} {a3 : ClockState} {a4 : Vector Island 16} {a5 : HostState} {a6 : LogState}
    {a7 : ConsentState} {a8 : ArcadeState} {a9 : Vector CoreState 8} {a10 : MeterState} {a11 : LedgerState} {a12 : LiftState}
    {a13 : MotionState} {a14 : DoorState} {a15 : KerbState} {a16 : BsState} {a17 : FcState} {a18 : PwmState}
    {a19 : BlvState} {a20 : BlvLink} {a21 : PkgState} {a22 : Memory} {a23 : List Nat} {a24 : PortReply}
   
    (p0 : a0 = x.pending) (h : Only j s x)
    (p1 : j.testBit 0 = false → a1 = x.time := by first | exact fun h => absurd h (by decide) | exact fun _ => rfl)
    (p2 : j.testBit 1 = false → a2 = x.mode := by first | exact fun h => absurd h (by decide) | exact fun _ => rfl)
    (p3 : j.testBit 2 = false → a3 = x.clock := by first | exact fun h => absurd h (by decide) | exact fun _ => rfl)
    (p4 : j.testBit 3 = false → a4 = x.isl := by first | exact fun h => absurd h (by decide) | exact fun _ => rfl)
    (p5 : j.testBit 4 = false → a5 = x.host := by first | exact fun h => absurd h (by decide) | exact fun _ => rfl)
    (p6 : j.testBit 5 = false → a6 = x.log := by first | exact fun h => absurd h (by decide) | exact fun _ => rfl)
    (p7 : j.testBit 6 = false → a7 = x.consent := by first | exact fun h => absurd h (by decide) | exact fun _ => rfl)
    (p8 : j.testBit 7 = false → a8 = x.arc := by first | exact fun h => absurd h (by decide) | exact fun _ => rfl)
    (p9 : j.testBit 8 = false → a9 = x.cores := by first | exact fun h => absurd h (by decide) | exact fun _ => rfl)
    (p10 : j.testBit 9 = false → a10 = x.meter := by first | exact fun h => absurd h (by decide) | exact fun _ => rfl)
    (p11 : j.testBit 10 = false → a11 = x.ldg := by first | exact fun h => absurd h (by decide) | exact fun _ => rfl)
    (p12 : j.testBit 11 = false → a12 = x.lift := by first | exact fun h => absurd h (by decide) | exact fun _ => rfl)
    (p13 : j.testBit 12 = false → a13 = x.motion := by first | exact fun h => absurd h (by decide) | exact fun _ => rfl)
    (p14 : j.testBit 13 = false → a14 = x.door := by first | exact fun h => absurd h (by decide) | exact fun _ => rfl)
    (p15 : j.testBit 14 = false → a15 = x.kerb := by first | exact fun h => absurd h (by decide) | exact fun _ => rfl)
    (p16 : j.testBit 15 = false → a16 = x.bs := by first | exact fun h => absurd h (by decide) | exact fun _ => rfl)
    (p17 : j.testBit 16 = false → a17 = x.fc := by first | exact fun h => absurd h (by decide) | exact fun _ => rfl)
    (p18 : j.testBit 17 = false → a18 = x.pwm := by first | exact fun h => absurd h (by decide) | exact fun _ => rfl)
    (p19 : j.testBit 18 = false → a19 = x.blv := by first | exact fun h => absurd h (by decide) | exact fun _ => rfl)
    (p20 : j.testBit 19 = false → a20 = x.link := by first | exact fun h => absurd h (by decide) | exact fun _ => rfl)
    (p21 : j.testBit 20 = false → a21 = x.pkg := by first | exact fun h => absurd h (by decide) | exact fun _ => rfl)
    (p22 : j.testBit 21 = false → a22 = x.mem := by first | exact fun h => absurd h (by decide) | exact fun _ => rfl)
    (p23 : j.testBit 22 = false → a23 = x.ecc := by first | exact fun h => absurd h (by decide) | exact fun _ => rfl)
    (p24 : j.testBit 23 = false → a24 = x.reply := by first | exact fun h => absurd h (by decide) | exact fun _ => rfl)
    (p25 : j.testBit 24 = false → a4.map Island.quiet = x.isl.map Island.quiet := by first | exact fun h => absurd h (by decide) | exact fun _ => rfl)
    (p26 : j.testBit 25 = false → a5.quiet = x.host.quiet := by first | exact fun h => absurd h (by decide) | exact fun _ => rfl)
    (p27 : j.testBit 26 = false → a9.map CoreState.quiet = x.cores.map CoreState.quiet := by first | exact fun h => absurd h (by decide) | exact fun _ => rfl)
    (pm : x.mem.wf = true → a22.wf = true := by exact fun h => h) : OnlyMk j s (State.mk a0 a1 a2 a3 a4 a5 a6 a7 a8 a9 a10 a11 a12 a13 a14 a15 a16 a17 a18 a19 a20 a21 a22 a23 a24) where
  pending := p0.trans h.pending
  time := fun hj => (p1 hj).trans (h.time hj)
  mode := fun hj => (p2 hj).trans (h.mode hj)
  clock := fun hj => (p3 hj).trans (h.clock hj)
  isl := fun hj => (p4 hj).trans (h.isl hj)
  host := fun hj => (p5 hj).trans (h.host hj)
  log := fun hj => (p6 hj).trans (h.log hj)
  consent := fun hj => (p7 hj).trans (h.consent hj)
  arc := fun hj => (p8 hj).trans (h.arc hj)
  cores := fun hj => (p9 hj).trans (h.cores hj)
  meter := fun hj => (p10 hj).trans (h.meter hj)
  ldg := fun hj => (p11 hj).trans (h.ldg hj)
  lift := fun hj => (p12 hj).trans (h.lift hj)
  motion := fun hj => (p13 hj).trans (h.motion hj)
  door := fun hj => (p14 hj).trans (h.door hj)
  kerb := fun hj => (p15 hj).trans (h.kerb hj)
  bs := fun hj => (p16 hj).trans (h.bs hj)
  fc := fun hj => (p17 hj).trans (h.fc hj)
  pwm := fun hj => (p18 hj).trans (h.pwm hj)
  blv := fun hj => (p19 hj).trans (h.blv hj)
  link := fun hj => (p20 hj).trans (h.link hj)
  pkg := fun hj => (p21 hj).trans (h.pkg hj)
  mem := fun hj => (p22 hj).trans (h.mem hj)
  ecc := fun hj => (p23 hj).trans (h.ecc hj)
  reply := fun hj => (p24 hj).trans (h.reply hj)
  islR := fun hj => (p25 hj).trans (h.islR hj)
  hostR := fun hj => (p26 hj).trans (h.hostR hj)
  coresR := fun hj => (p27 hj).trans (h.coresR hj)
  memWf := fun hm => pm (h.memWf hm)

theorem Only.ite {j : Nat} {s a b : State} {c : Prop} [Decidable c] (ha : Only j s a) (hb : Only j s b) :
    Only j s (if c then a else b) := by
  split
  · exact ha
  · exact hb

theorem Only.ite_snd {α : Type} {j : Nat} {s : State} {a b : α × State} {c : Prop} [Decidable c] (ha : Only j s a.2)
    (hb : Only j s b.2) : Only j s (if c then a else b).2 := by
  split
  · exact ha
  · exact hb

theorem Only.ite_fst {α : Type} {j : Nat} {s : State} {a b : State × α} {c : Prop} [Decidable c] (ha : Only j s a.1)
    (hb : Only j s b.1) : Only j s (if c then a else b).1 := by
  split
  · exact ha
  · exact hb

theorem Only.foldl {α : Type} {j : Nat} {s : State} (f : State → α → State) (hf : ∀ x a, Only j s x → Only j s (f x a)) :
    ∀ (l : List α) {x : State}, Only j s x → Only j s (l.foldl f x)
  | [], _, h => h
  | a :: l, x, h => Only.foldl f hf l (hf x a h)

theorem Only.foldl_snd {α β : Type} {j : Nat} {s : State} (f : β × State → α → β × State)
    (hf : ∀ x a, Only j s x.2 → Only j s (f x a).2) :
    ∀ (l : List α) {x : β × State}, Only j s x.2 → Only j s (l.foldl f x).2
  | [], _, h => h
  | a :: l, x, h => Only.foldl_snd f hf l (hf x a h)

theorem Only.foldl_fst {α β : Type} {j : Nat} {s : State} (f : State × β → α → State × β)
    (hf : ∀ x a, Only j s x.1 → Only j s (f x a).1) :
    ∀ (l : List α) {x : State × β}, Only j s x.1 → Only j s (l.foldl f x).1
  | [], _, h => h
  | a :: l, x, h => Only.foldl_fst f hf l (hf x a h)

end Sys2Proof.Machine
end

