-- ==== Sys2Proof/Laws/OnlyOps.lean ====
section
/-! SUPPORT. What each operation of Machine/Ops.lean can touch. -/
set_option linter.all false
set_option Elab.async false
namespace Sys2Proof.Machine
open Sys2Proof

theorem modIsl_only (s : State) (i : Nat) (f : Island → Island) : Only 16777224 s (modIsl s i f) := by
  unfold modIsl
  try dsimp only
  repeat' (first
    | (simp only [↓Only.mk_guard]; with_reducible refine Only.of_mk rfl ?_)
    | with_reducible exact Only.refl _ _
    | with_reducible assumption
    | decide
    | split
    | dsimp only)

theorem setAttn_only (b : Nat) (s : State) : Only 16 s (setAttn b s) := by
  unfold setAttn
  simp only [↓Only.mk_guard]
  exact Only.of_mk rfl (Only.refl _ _) (p26 := fun _ => rfl)

theorem latchIsl_only (i : Nat) (s : State) : Only 16777240 s (latchIsl i s) := by
  unfold latchIsl
  try dsimp only
  repeat' (first
    | with_reducible exact Only.refl _ _
    | with_reducible assumption
    | decide
    | (with_reducible
        first
          | refine Only.ite ?_ ?_ | refine Only.ite_snd ?_ ?_ | refine Only.ite_fst ?_ ?_
          | apply Only.app (modIsl_only ..) | apply Only.app (setAttn_only ..))
    | split
    | dsimp only)

theorem raiseIrq_only (c ch : Nat) (s : State) : Only 256 s (raiseIrq c ch s) := by
  unfold raiseIrq
  simp only [↓Only.mk_guard]
  exact Only.of_mk rfl (Only.refl _ _) (p27 := fun _ => vmod_map _ _ _ _ (fun _ => rfl))

theorem appendLog_only (r : LogRec) (s : State) : Only 2097184 s (appendLog r s) := by
  unfold appendLog
  try dsimp only
  repeat' (first
    | (simp only [↓Only.mk_guard]; with_reducible refine Only.of_mk rfl ?_ (pm := ?_))
    | with_reducible exact Only.refl _ _
    | with_reducible assumption
    | decide
    | (intro h; (repeat' (with_reducible first | exact h | assumption | refine Memory.writeBytes_wf _ _ ?_ | refine Memory.write_wf _ _ ?_ | split | dsimp only)); done)
    | split
    | dsimp only)

theorem replyWith_only (st : Status) (d : Word) (s : State) : Only 8388608 s (replyWith st d s) := by
  unfold replyWith
  try dsimp only
  repeat' (first
    | (simp only [↓Only.mk_guard]; with_reducible refine Only.of_mk rfl ?_)
    | with_reducible exact Only.refl _ _
    | with_reducible assumption
    | decide
    | split
    | dsimp only)

end Sys2Proof.Machine
end

