-- ==== Sys2Proof/Laws/OnlyArcOps.lean ====
section
/-! SUPPORT. What each operation of Machine/ArcOps.lean can touch. -/
set_option linter.all false
set_option Elab.async false
namespace Sys2Proof.Machine
open Sys2Proof

theorem qPut_only (q : Nat) (x : Queue) (s : State) : Only 128 s (qPut q x s) := by
  unfold qPut
  try dsimp only
  repeat' (first
    | (simp only [↓Only.mk_guard]; with_reducible refine Only.of_mk rfl ?_)
    | with_reducible exact Only.refl _ _
    | with_reducible assumption
    | decide
    | split
    | dsimp only)

theorem modIsl_bells_only (i : Nat) (f : Island → Island) (hf : ∀ x, (f x).quiet = x.quiet) (s : State) : Only 8 s (modIsl s i f) := by
  unfold modIsl
  simp only [↓Only.mk_guard]
  exact Only.of_mk rfl (Only.refl _ _) (p25 := fun _ => vmod_map _ _ _ _ hf)

theorem ringBell_only (qid owner chan : Nat) (consumer : Bool) (s : State) : Only 408 s (ringBell qid owner chan consumer s) := by
  unfold ringBell
  refine Only.ite ?_ (Only.ite ?_ (Only.ite ?_ (Only.refl _ _)))
  · refine (setAttn_only _ _).app (by decide) ?_
    refine Only.ite ?_ ?_ <;> exact Only.of_mk rfl (Only.refl _ _)
  · exact (modIsl_bells_only owner _ (by intro x; rfl) s).mono (by decide)
  · exact (raiseIrq_only _ _ s).mono (by decide)

theorem bellC_only (qid : Nat) (s : State) : Only 408 s (bellC qid s) := by
  unfold bellC
  try dsimp only
  repeat' (first
    | with_reducible exact Only.refl _ _
    | with_reducible assumption
    | decide
    | (with_reducible
        first
          | refine Only.ite ?_ ?_ | refine Only.ite_snd ?_ ?_ | refine Only.ite_fst ?_ ?_
          | apply Only.app (qPut_only ..) | apply Only.app (ringBell_only ..))
    | split
    | dsimp only)

theorem bellP_only (qid : Nat) (s : State) : Only 408 s (bellP qid s) := by
  unfold bellP
  try dsimp only
  repeat' (first
    | with_reducible exact Only.refl _ _
    | with_reducible assumption
    | decide
    | (with_reducible
        first
          | refine Only.ite ?_ ?_ | refine Only.ite_snd ?_ ?_ | refine Only.ite_fst ?_ ?_
          | apply Only.app (qPut_only ..) | apply Only.app (ringBell_only ..))
    | split
    | dsimp only)

theorem pushEntry_only (qid : Nat) (q : Queue) (bytes : List Byte) (s : State) : Only 2097560 s (pushEntry qid q bytes s) := by
  unfold pushEntry
  try dsimp only
  repeat' (first
    | (simp only [↓Only.mk_guard]; with_reducible refine Only.of_mk rfl ?_ (pm := ?_))
    | with_reducible exact Only.refl _ _
    | with_reducible assumption
    | decide
    | (with_reducible
        first
          | apply Only.app (bellC_only ..) | apply Only.app (qPut_only ..))
    | (intro h; (repeat' (with_reducible first | exact h | assumption | refine Memory.writeBytes_wf _ _ ?_ | refine Memory.write_wf _ _ ?_ | split | dsimp only)); done)
    | split
    | dsimp only)

theorem postNotice_only (typ count qid : Nat) (s : State) : Only 2097560 s (postNotice typ count qid s) := by
  unfold postNotice
  try dsimp only
  repeat' (first
    | (simp only [↓Only.mk_guard]; with_reducible refine Only.of_mk rfl ?_)
    | with_reducible exact Only.refl _ _
    | with_reducible assumption
    | decide
    | (with_reducible
        first
          | refine Only.ite ?_ ?_ | refine Only.ite_snd ?_ ?_ | refine Only.ite_fst ?_ ?_
          | apply Only.app (pushEntry_only ..))
    | split
    | dsimp only)

theorem noteFull_only (qid : Nat) (s : State) : Only 128 s (noteFull qid s) := by
  unfold noteFull
  try dsimp only
  repeat' (first
    | with_reducible exact Only.refl _ _
    | with_reducible assumption
    | decide
    | (with_reducible
        first
          | refine Only.ite ?_ ?_ | refine Only.ite_snd ?_ ?_ | refine Only.ite_fst ?_ ?_
          | apply Only.app (qPut_only ..))
    | split
    | dsimp only)

theorem qReserve_only (qid : Nat) (s : State) : Only 128 s (qReserve qid s).2 := by
  unfold qReserve
  try dsimp only
  repeat' (first
    | with_reducible exact Only.refl _ _
    | with_reducible assumption
    | decide
    | (with_reducible
        first
          | refine Only.ite ?_ ?_ | refine Only.ite_snd ?_ ?_ | refine Only.ite_fst ?_ ?_
          | apply Only.app (noteFull_only ..) | apply Only.app (qPut_only ..))
    | split
    | dsimp only)

theorem noteProd_only (qid : Nat) (st : Status) (s : State) : Only 128 s (noteProd qid st s) := by
  unfold noteProd
  try dsimp only
  repeat' (first
    | with_reducible exact Only.refl _ _
    | with_reducible assumption
    | decide
    | (with_reducible
        first
          | apply Only.app (qPut_only ..))
    | split
    | dsimp only)

theorem noteCons_only (qid : Nat) (st : Status) (s : State) : Only 128 s (noteCons qid st s) := by
  unfold noteCons
  try dsimp only
  repeat' (first
    | with_reducible exact Only.refl _ _
    | with_reducible assumption
    | decide
    | (with_reducible
        first
          | apply Only.app (qPut_only ..))
    | split
    | dsimp only)

theorem qPublish_only (qid n : Nat) (s : State) : Only 408 s (qPublish qid n s).2 := by
  unfold qPublish
  try dsimp only
  repeat' (first
    | with_reducible exact Only.refl _ _
    | with_reducible assumption
    | decide
    | (with_reducible
        first
          | refine Only.ite ?_ ?_ | refine Only.ite_snd ?_ ?_ | refine Only.ite_fst ?_ ?_
          | apply Only.app (bellC_only ..) | apply Only.app (noteProd_only ..) | apply Only.app (qPut_only ..))
    | split
    | dsimp only)

theorem noteProdFull_only (qid : Nat) (bytes : List Byte) (s : State) : Only 128 s (noteProdFull qid bytes s) := by
  unfold noteProdFull
  try dsimp only
  repeat' (first
    | with_reducible exact Only.refl _ _
    | with_reducible assumption
    | decide
    | (with_reducible
        first
          | refine Only.ite ?_ ?_ | refine Only.ite_snd ?_ ?_ | refine Only.ite_fst ?_ ?_
          | apply Only.app (noteFull_only ..) | apply Only.app (noteProd_only ..))
    | split
    | dsimp only)

theorem qEnqueue_only (qid : Nat) (bytes : List Byte) (s : State) : Only 2097560 s (qEnqueue qid bytes s).2 := by
  unfold qEnqueue
  try dsimp only
  repeat' (first
    | with_reducible exact Only.refl _ _
    | with_reducible assumption
    | decide
    | (with_reducible
        first
          | refine Only.ite ?_ ?_ | refine Only.ite_snd ?_ ?_ | refine Only.ite_fst ?_ ?_
          | apply Only.app (noteProd_only ..) | apply Only.app (noteProdFull_only ..)
          | apply Only.app (pushEntry_only ..))
    | split
    | dsimp only)

theorem qDequeue_only (qid : Nat) (s : State) : Only 408 s (qDequeue qid s).2.2 := by
  unfold qDequeue
  try dsimp only
  repeat' (first
    | with_reducible exact Only.refl _ _
    | with_reducible assumption
    | decide
    | (with_reducible
        first
          | refine Only.ite ?_ ?_ | refine Only.ite_snd ?_ ?_ | refine Only.ite_fst ?_ ?_
          | apply Only.app (bellC_only ..) | apply Only.app (qPut_only ..))
    | split
    | dsimp only)

theorem qAck_only (qid n : Nat) (s : State) : Only 408 s (qAck qid n s).2 := by
  unfold qAck
  try dsimp only
  repeat' (first
    | with_reducible exact Only.refl _ _
    | with_reducible assumption
    | decide
    | (with_reducible
        first
          | refine Only.ite ?_ ?_ | refine Only.ite_snd ?_ ?_ | refine Only.ite_fst ?_ ?_
          | apply Only.app (bellP_only ..) | apply Only.app (noteCons_only ..) | apply Only.app (qPut_only ..))
    | split
    | dsimp only)

theorem qArm_only (qid : Nat) (cons prod : Bool) (s : State) : Only 408 s (qArm qid cons prod s).2 := by
  unfold qArm
  try dsimp only
  repeat' (first
    | with_reducible exact Only.refl _ _
    | with_reducible assumption
    | decide
    | (with_reducible
        first
          | refine Only.ite ?_ ?_ | refine Only.ite_snd ?_ ?_ | refine Only.ite_fst ?_ ?_
          | apply Only.app (bellC_only ..) | apply Only.app (qPut_only ..))
    | split
    | dsimp only)

theorem peekFill_only (s : State) : Only 128 s (peekFill s) := by
  unfold peekFill
  try dsimp only
  repeat' (first
    | (simp only [↓Only.mk_guard]; with_reducible refine Only.of_mk rfl ?_)
    | with_reducible exact Only.refl _ _
    | with_reducible assumption
    | decide
    | (with_reducible
        first
          | refine Only.ite ?_ ?_ | refine Only.ite_snd ?_ ?_ | refine Only.ite_fst ?_ ?_)
    | split
    | dsimp only)

theorem peekDrop_only (q : Nat) (s : State) : Only 128 s (peekDrop q s) := by
  unfold peekDrop
  try dsimp only
  repeat' (first
    | (simp only [↓Only.mk_guard]; with_reducible refine Only.of_mk rfl ?_)
    | with_reducible exact Only.refl _ _
    | with_reducible assumption
    | decide
    | (with_reducible
        first
          | refine Only.ite ?_ ?_ | refine Only.ite_snd ?_ ?_ | refine Only.ite_fst ?_ ?_)
    | split
    | dsimp only)

theorem descWriteBack_only (qid : Nat) (q : Queue) (quar : Bool) (s : State) : Only 2097152 s (descWriteBack qid q quar s) := by
  unfold descWriteBack
  try dsimp only
  repeat' (first
    | (simp only [↓Only.mk_guard]; with_reducible refine Only.of_mk rfl ?_ (pm := ?_))
    | with_reducible exact Only.refl _ _
    | with_reducible assumption
    | decide
    | (intro h; (repeat' (with_reducible first | exact h | assumption | refine Memory.writeN_wf _ _ _ ?_ | refine Memory.write_wf _ _ ?_ | split | dsimp only)); done)
    | split
    | dsimp only)

theorem quarantineQ_only (qid : Nat) (s : State) : Only 2097560 s (quarantineQ qid s) := by
  unfold quarantineQ
  try dsimp only
  repeat' (first
    | (simp only [↓Only.mk_guard]; with_reducible refine Only.of_mk rfl ?_)
    | with_reducible exact Only.refl _ _
    | with_reducible assumption
    | decide
    | (with_reducible
        first
          | refine Only.ite ?_ ?_ | refine Only.ite_snd ?_ ?_ | refine Only.ite_fst ?_ ?_
          | apply Only.app (descWriteBack_only ..) | apply Only.app (peekDrop_only ..)
          | apply Only.app (postNotice_only ..) | apply Only.app (qPut_only ..))
    | split
    | dsimp only)

theorem runAction_only (qid : Nat) (act : LoadAction) (byHost : Bool) (s : State) : Only 2097560 s (runAction qid act byHost s).2 := by
  unfold runAction
  try dsimp only
  repeat' (first
    | (simp only [↓Only.mk_guard]; with_reducible refine Only.of_mk rfl ?_)
    | with_reducible exact Only.refl _ _
    | with_reducible assumption
    | decide
    | (with_reducible
        first
          | refine Only.ite ?_ ?_ | refine Only.ite_snd ?_ ?_ | refine Only.ite_fst ?_ ?_
          | apply Only.app (descWriteBack_only ..) | apply Only.app (qPut_only ..)
          | apply Only.app (quarantineQ_only ..))
    | split
    | dsimp only)

theorem actNow_only (qid : Nat) (act : LoadAction) (byHost : Bool) (s : State) : Only 2097560 s (actNow qid act byHost s) := by
  unfold actNow
  try dsimp only
  repeat' (first
    | (simp only [↓Only.mk_guard]; with_reducible refine Only.of_mk rfl ?_)
    | with_reducible exact Only.refl _ _
    | with_reducible assumption
    | decide
    | (with_reducible
        first
          | apply Only.app (qPut_only ..) | apply Only.app (runAction_only ..))
    | split
    | dsimp only)

theorem startAction_only (qid : Nat) (act : LoadAction) (byHost : Bool) (s : State) : Only 2097560 s (startAction qid act byHost s) := by
  unfold startAction
  try dsimp only
  repeat' (first
    | (simp only [↓Only.mk_guard]; with_reducible refine Only.of_mk rfl ?_)
    | with_reducible exact Only.refl _ _
    | with_reducible assumption
    | decide
    | (with_reducible
        first
          | refine Only.ite ?_ ?_ | refine Only.ite_snd ?_ ?_ | refine Only.ite_fst ?_ ?_
          | apply Only.app (actNow_only ..))
    | split
    | dsimp only)

theorem finishAction_only (qid : Nat) (byHost : Bool) (o : Status) (s : State) : Only 2097560 s (finishAction qid byHost o s) := by
  unfold finishAction
  try dsimp only
  repeat' (first
    | (simp only [↓Only.mk_guard]; with_reducible refine Only.of_mk rfl ?_)
    | with_reducible exact Only.refl _ _
    | with_reducible assumption
    | decide
    | (with_reducible
        first
          | refine Only.ite ?_ ?_ | refine Only.ite_snd ?_ ?_ | refine Only.ite_fst ?_ ?_
          | apply Only.app (bellC_only ..) | apply Only.app (peekFill_only ..) | apply Only.app (postNotice_only ..)
          | apply Only.app (qPut_only ..))
    | split
    | dsimp only)

theorem endAction_only (s : State) : Only 2097560 s (endAction s) := by
  unfold endAction
  try dsimp only
  repeat' (first
    | with_reducible exact Only.refl _ _
    | with_reducible assumption
    | decide
    | (with_reducible
        first
          | refine Only.ite ?_ ?_ | refine Only.ite_snd ?_ ?_ | refine Only.ite_fst ?_ ?_
          | apply Only.app (actNow_only ..) | apply Only.app (finishAction_only ..))
    | split
    | dsimp only)

theorem issueAction_only (qid : Nat) (act : LoadAction) (byHost : Bool) (s : State) : Only 2097560 s (issueAction qid act byHost s).2 := by
  unfold issueAction
  try dsimp only
  repeat' (first
    | with_reducible exact Only.refl _ _
    | with_reducible assumption
    | decide
    | (with_reducible
        first
          | apply Only.app (startAction_only ..))
    | split
    | dsimp only)

theorem hostEnqueue_only (s : State) : Only 128 s (hostEnqueue s).2 := by
  unfold hostEnqueue
  try dsimp only
  repeat' (first
    | (simp only [↓Only.mk_guard]; with_reducible refine Only.of_mk rfl ?_)
    | with_reducible exact Only.refl _ _
    | with_reducible assumption
    | decide
    | (with_reducible
        first
          | refine Only.ite ?_ ?_ | refine Only.ite_snd ?_ ?_ | refine Only.ite_fst ?_ ?_
          | apply Only.app (noteFull_only ..) | apply Only.app (qPut_only ..))
    | split
    | dsimp only)

theorem hostCopyDone_only (s : State) : Only 2097560 s (hostCopyDone s) := by
  unfold hostCopyDone
  try dsimp only
  repeat' (first
    | (simp only [↓Only.mk_guard]; with_reducible refine Only.of_mk rfl ?_ (pm := ?_))
    | with_reducible exact Only.refl _ _
    | with_reducible assumption
    | decide
    | (with_reducible
        first
          | refine Only.ite ?_ ?_ | refine Only.ite_snd ?_ ?_ | refine Only.ite_fst ?_ ?_
          | apply Only.app (bellC_only ..) | apply Only.app (qPut_only ..))
    | (intro h; (repeat' (with_reducible first | exact h | assumption | refine Memory.writeBytes_wf _ _ ?_ | refine Memory.write_wf _ _ ?_ | split | dsimp only)); done)
    | split
    | dsimp only)

theorem hostTake_only (arg : Nat) (s : State) : Only 128 s (hostTake arg s).2 := by
  unfold hostTake
  try dsimp only
  repeat' (first
    | (simp only [↓Only.mk_guard]; with_reducible refine Only.of_mk rfl ?_)
    | with_reducible exact Only.refl _ _
    | with_reducible assumption
    | decide
    | (with_reducible
        first
          | refine Only.ite ?_ ?_ | refine Only.ite_snd ?_ ?_ | refine Only.ite_fst ?_ ?_
          | apply Only.app (qPut_only ..))
    | split
    | dsimp only)

theorem hostAck_only (n : Nat) (s : State) : Only 408 s (hostAck n s).2 := by
  unfold hostAck
  try dsimp only
  repeat' (first
    | with_reducible exact Only.refl _ _
    | with_reducible assumption
    | decide
    | (with_reducible
        first
          | apply Only.app (qAck_only ..))
    | split
    | dsimp only)

theorem hostTakeAck_only (arg : Nat) (s : State) : Only 408 s (hostTakeAck arg s).2 := by
  unfold hostTakeAck
  try dsimp only
  repeat' (first
    | with_reducible exact Only.refl _ _
    | with_reducible assumption
    | decide
    | (with_reducible
        first
          | apply Only.app (hostAck_only ..) | apply Only.app (hostTake_only ..))
    | split
    | dsimp only)

theorem hostArm_only (consumer : Bool) (s : State) : Only 408 s (hostArm consumer s).2 := by
  unfold hostArm
  try dsimp only
  repeat' (first
    | with_reducible exact Only.refl _ _
    | with_reducible assumption
    | decide
    | (with_reducible
        first
          | refine Only.ite ?_ ?_ | refine Only.ite_snd ?_ ?_ | refine Only.ite_fst ?_ ?_
          | apply Only.app (qArm_only ..))
    | split
    | dsimp only)

theorem qSelWrite_only (w : Word) (s : State) : Only 128 s (qSelWrite w s) := by
  unfold qSelWrite
  try dsimp only
  repeat' (first
    | (simp only [↓Only.mk_guard]; with_reducible refine Only.of_mk rfl ?_)
    | with_reducible exact Only.refl _ _
    | with_reducible assumption
    | decide
    | split
    | dsimp only)

theorem rewindConsumer_only (qid : Nat) (s : State) : Only 2097560 s (rewindConsumer qid s) := by
  unfold rewindConsumer
  try dsimp only
  repeat' (first
    | with_reducible exact Only.refl _ _
    | with_reducible assumption
    | decide
    | (with_reducible
        first
          | refine Only.ite ?_ ?_ | refine Only.ite_snd ?_ ?_ | refine Only.ite_fst ?_ ?_
          | apply Only.app (postNotice_only ..) | apply Only.app (qPut_only ..))
    | split
    | dsimp only)

theorem discardProducer_only (qid : Nat) (s : State) : Only 2097560 s (discardProducer qid s) := by
  unfold discardProducer
  try dsimp only
  repeat' (first
    | with_reducible exact Only.refl _ _
    | with_reducible assumption
    | decide
    | (with_reducible
        first
          | refine Only.ite ?_ ?_ | refine Only.ite_snd ?_ ?_ | refine Only.ite_fst ?_ ?_
          | apply Only.app (postNotice_only ..) | apply Only.app (qPut_only ..))
    | split
    | dsimp only)

theorem armOnRelease_only (qid : Nat) (s : State) : Only 408 s (armOnRelease qid s) := by
  unfold armOnRelease
  try dsimp only
  repeat' (first
    | with_reducible exact Only.refl _ _
    | with_reducible assumption
    | decide
    | (with_reducible
        first
          | apply Only.app (bellC_only ..) | apply Only.app (qPut_only ..))
    | split
    | dsimp only)

theorem presentBells_only (i : Nat) (s : State) : Only 408 s (presentBells i s) := by
  unfold presentBells
  refine Only.foldl _ (fun _ _ h => ?_) _ ?_
  · split
    · exact h
    · exact (ringBell_only _ _ _ _ _).app (by decide) h
  · exact (modIsl_bells_only i _ (by intro x; rfl) s).mono (by decide)

theorem releaseSides_only (i : Nat) (recover : Bool) (s : State) : Only 2097560 s (releaseSides i recover s) := by
  unfold releaseSides
  try dsimp only
  repeat' (first
    | with_reducible exact Only.refl _ _
    | with_reducible assumption
    | decide
    | (with_reducible
        first
          | refine Only.ite ?_ ?_ | refine Only.ite_snd ?_ ?_ | refine Only.ite_fst ?_ ?_
          | refine Only.foldl _ (fun _ _ _ => ?_) _ ?_ | refine Only.foldl_snd _ (fun _ _ _ => ?_) _ ?_
          | refine Only.foldl_fst _ (fun _ _ _ => ?_) _ ?_ | apply Only.app (armOnRelease_only ..)
          | apply Only.app (discardProducer_only ..) | apply Only.app (presentBells_only ..)
          | apply Only.app (rewindConsumer_only ..))
    | split
    | dsimp only)

end Sys2Proof.Machine
end

