-- ==== Sys2Proof/Laws/OnlyClockOps.lean ====
section
/-! SUPPORT. What each operation of Machine/ClockOps.lean can touch. -/
set_option linter.all false
set_option Elab.async false
namespace Sys2Proof.Machine
open Sys2Proof

theorem modPll_only (p : Nat) (f : Pll → Pll) (s : State) : Only 4 s (modPll p f s) := by
  unfold modPll
  try dsimp only
  repeat' (first
    | (simp only [↓Only.mk_guard]; with_reducible refine Only.of_mk rfl ?_)
    | with_reducible exact Only.refl _ _
    | with_reducible assumption
    | decide
    | split
    | dsimp only)

theorem startRelock_only (p target : Nat) (s : State) : Only 4 s (startRelock p target s) := by
  unfold startRelock
  try dsimp only
  repeat' (first
    | with_reducible exact Only.refl _ _
    | with_reducible assumption
    | decide
    | (with_reducible
        first
          | refine Only.ite ?_ ?_ | refine Only.ite_snd ?_ ?_ | refine Only.ite_fst ?_ ?_
          | apply Only.app (modPll_only ..))
    | split
    | dsimp only)

theorem startPll_only (p : Nat) (s : State) : Only 4 s (startPll p s) := by
  unfold startPll
  try dsimp only
  repeat' (first
    | with_reducible exact Only.refl _ _
    | with_reducible assumption
    | decide
    | (with_reducible
        first
          | refine Only.ite ?_ ?_ | refine Only.ite_snd ?_ ?_ | refine Only.ite_fst ?_ ?_
          | apply Only.app (modPll_only ..) | apply Only.app (startRelock_only ..))
    | split
    | dsimp only)

theorem stopPll_only (p : Nat) (s : State) : Only 4 s (stopPll p s) := by
  unfold stopPll
  try dsimp only
  repeat' (first
    | with_reducible exact Only.refl _ _
    | with_reducible assumption
    | decide
    | (with_reducible
        first
          | apply Only.app (modPll_only ..))
    | split
    | dsimp only)

theorem lockPll_only (p : Nat) (s : State) : Only 4 s (lockPll p s) := by
  unfold lockPll
  try dsimp only
  repeat' (first
    | with_reducible exact Only.refl _ _
    | with_reducible assumption
    | decide
    | (with_reducible
        first
          | apply Only.app (modPll_only ..))
    | split
    | dsimp only)

theorem pllLock_only (p : Nat) (s : State) : Only 4 s (pllLock p s) := by
  unfold pllLock
  try dsimp only
  repeat' (first
    | with_reducible exact Only.refl _ _
    | with_reducible assumption
    | decide
    | (with_reducible
        first
          | refine Only.ite ?_ ?_ | refine Only.ite_snd ?_ ?_ | refine Only.ite_fst ?_ ?_
          | apply Only.app (modPll_only ..))
    | split
    | dsimp only)

theorem stairStep_only (p : Nat) (s : State) : Only 4 s (stairStep p s) := by
  unfold stairStep
  try dsimp only
  repeat' (first
    | (simp only [↓Only.mk_guard]; with_reducible refine Only.of_mk rfl ?_)
    | with_reducible exact Only.refl _ _
    | with_reducible assumption
    | decide
    | (with_reducible
        first
          | refine Only.ite ?_ ?_ | refine Only.ite_snd ?_ ?_ | refine Only.ite_fst ?_ ?_
          | apply Only.app (modPll_only ..))
    | split
    | dsimp only)

theorem targetWrite_only (mhz : Nat) (s : State) : Only 4 s (targetWrite mhz s) := by
  unfold targetWrite
  try dsimp only
  repeat' (first
    | (simp only [↓Only.mk_guard]; with_reducible refine Only.of_mk rfl ?_)
    | with_reducible exact Only.refl _ _
    | with_reducible assumption
    | decide
    | (with_reducible
        first
          | refine Only.ite ?_ ?_ | refine Only.ite_snd ?_ ?_ | refine Only.ite_fst ?_ ?_
          | apply Only.app (startRelock_only ..))
    | split
    | dsimp only)

theorem familyWrite_only (f : Nat) (s : State) : Only 4 s (familyWrite f s) := by
  unfold familyWrite
  try dsimp only
  repeat' (first
    | (simp only [↓Only.mk_guard]; with_reducible refine Only.of_mk rfl ?_)
    | with_reducible exact Only.refl _ _
    | with_reducible assumption
    | decide
    | (with_reducible
        first
          | refine Only.ite ?_ ?_ | refine Only.ite_snd ?_ ?_ | refine Only.ite_fst ?_ ?_
          | apply Only.app (startRelock_only ..))
    | split
    | dsimp only)

end Sys2Proof.Machine
end

