-- ==== Sys2Proof/Laws/OnlyBlvOps.lean ====
section
/-! SUPPORT. What each operation of Machine/BlvOps.lean can touch. -/
set_option linter.all false
set_option Elab.async false
namespace Sys2Proof.Machine
open Sys2Proof

theorem attnBlv_only (s : State) : Only 16 s (attnBlv s) := by
  unfold attnBlv
  try dsimp only
  repeat' (first
    | with_reducible exact Only.refl _ _
    | with_reducible assumption
    | decide
    | (with_reducible
        first
          | apply Only.app (setAttn_only ..))
    | split
    | dsimp only)

theorem emitFrame_only (r : Ring) (f : BlvFrame) (s : State) : Only 524288 s (emitFrame r f s) := by
  unfold emitFrame
  try dsimp only
  repeat' (first
    | (simp only [↓Only.mk_guard]; with_reducible refine Only.of_mk rfl ?_)
    | with_reducible exact Only.refl _ _
    | with_reducible assumption
    | decide
    | split
    | dsimp only)

theorem publishMembers_only (ms : List Member) (s : State) : Only 786432 s (publishMembers ms s) := by
  unfold publishMembers
  try dsimp only
  repeat' (first
    | (simp only [↓Only.mk_guard]; with_reducible refine Only.of_mk rfl ?_)
    | with_reducible exact Only.refl _ _
    | with_reducible assumption
    | decide
    | (with_reducible
        first
          | apply Only.app (emitFrame_only ..))
    | split
    | dsimp only)

theorem controlJoin_only (m : Member) (s : State) : Only 786432 s (controlJoin m s) := by
  unfold controlJoin
  try dsimp only
  repeat' (first
    | with_reducible exact Only.refl _ _
    | with_reducible assumption
    | decide
    | (with_reducible
        first
          | refine Only.ite ?_ ?_ | refine Only.ite_snd ?_ ?_ | refine Only.ite_fst ?_ ?_
          | apply Only.app (publishMembers_only ..))
    | split
    | dsimp only)

theorem startCentreTime_only (s : State) : Only 524289 s (startCentreTime s) := by
  unfold startCentreTime
  try dsimp only
  repeat' (first
    | (simp only [↓Only.mk_guard]; with_reducible refine Only.of_mk rfl ?_)
    | with_reducible exact Only.refl _ _
    | with_reducible assumption
    | decide
    | split
    | dsimp only)

theorem takeMembers_only (ms : List Member) (s : State) : Only 786448 s (takeMembers ms s) := by
  unfold takeMembers
  try dsimp only
  repeat' (first
    | (simp only [↓Only.mk_guard]; with_reducible refine Only.of_mk rfl ?_)
    | with_reducible exact Only.refl _ _
    | with_reducible assumption
    | decide
    | (with_reducible
        first
          | refine Only.ite ?_ ?_ | refine Only.ite_snd ?_ ?_ | refine Only.ite_fst ?_ ?_
          | apply Only.app (attnBlv_only ..))
    | split
    | dsimp only)

theorem membershipEffective_only (ms : List Member) (prios : List Nat) (s : State) : Only 786449 s (membershipEffective ms prios s) := by
  unfold membershipEffective
  try dsimp only
  repeat' (first
    | (simp only [↓Only.mk_guard]; with_reducible refine Only.of_mk rfl ?_)
    | with_reducible exact Only.refl _ _
    | with_reducible assumption
    | decide
    | (with_reducible
        first
          | refine Only.ite ?_ ?_ | refine Only.ite_snd ?_ ?_ | refine Only.ite_fst ?_ ?_
          | apply Only.app (startCentreTime_only ..) | apply Only.app (takeMembers_only ..))
    | split
    | dsimp only)

theorem groupDispatcherChange_only (s : State) : Only 262144 s (groupDispatcherChange s) := by
  unfold groupDispatcherChange
  try dsimp only
  repeat' (first
    | (simp only [↓Only.mk_guard]; with_reducible refine Only.of_mk rfl ?_)
    | with_reducible exact Only.refl _ _
    | with_reducible assumption
    | decide
    | (with_reducible
        first
          | refine Only.ite ?_ ?_ | refine Only.ite_snd ?_ ?_ | refine Only.ite_fst ?_ ?_)
    | split
    | dsimp only)

theorem markerEmit_only (s : State) : Only 524288 s (markerEmit s) := by
  unfold markerEmit
  try dsimp only
  repeat' (first
    | (simp only [↓Only.mk_guard]; with_reducible refine Only.of_mk rfl ?_)
    | with_reducible exact Only.refl _ _
    | with_reducible assumption
    | decide
    | (with_reducible
        first
          | refine Only.ite ?_ ?_ | refine Only.ite_snd ?_ ?_ | refine Only.ite_fst ?_ ?_
          | apply Only.app (emitFrame_only ..))
    | split
    | dsimp only)

theorem markerSteer_only (m : Marker) (s : State) : Only 786449 s (markerSteer m s) := by
  unfold markerSteer
  try dsimp only
  repeat' (first
    | (simp only [↓Only.mk_guard]; with_reducible refine Only.of_mk rfl ?_)
    | with_reducible exact Only.refl _ _
    | with_reducible assumption
    | decide
    | (with_reducible
        first
          | refine Only.ite ?_ ?_ | refine Only.ite_snd ?_ ?_ | refine Only.ite_fst ?_ ?_
          | apply Only.app (attnBlv_only ..))
    | split
    | dsimp only)

theorem markerReceive_only (r : Ring) (m : Marker) (residence16 : Nat) (s : State) : Only 786449 s (markerReceive r m residence16 s) := by
  unfold markerReceive
  try dsimp only
  repeat' (first
    | (simp only [↓Only.mk_guard]; with_reducible refine Only.of_mk rfl ?_)
    | with_reducible exact Only.refl _ _
    | with_reducible assumption
    | decide
    | (with_reducible
        first
          | refine Only.ite ?_ ?_ | refine Only.ite_snd ?_ ?_ | refine Only.ite_fst ?_ ?_
          | apply Only.app (emitFrame_only ..) | apply Only.app (markerSteer_only ..))
    | split
    | dsimp only)

theorem timeValidLoss_only (s : State) : Only 524289 s (timeValidLoss s) := by
  unfold timeValidLoss
  try dsimp only
  repeat' (first
    | (simp only [↓Only.mk_guard]; with_reducible refine Only.of_mk rfl ?_)
    | with_reducible exact Only.refl _ _
    | with_reducible assumption
    | decide
    | (with_reducible
        first
          | refine Only.ite ?_ ?_ | refine Only.ite_snd ?_ ?_ | refine Only.ite_fst ?_ ?_)
    | split
    | dsimp only)

theorem hopMeasure_only (r : Ring) (roundTripPs turnaroundPs : Nat) (s : State) : Only 524288 s (hopMeasure r roundTripPs turnaroundPs s) := by
  unfold hopMeasure
  try dsimp only
  repeat' (first
    | (simp only [↓Only.mk_guard]; with_reducible refine Only.of_mk rfl ?_)
    | with_reducible exact Only.refl _ _
    | with_reducible assumption
    | decide
    | split
    | dsimp only)

theorem closeCycle_only (s : State) : Only 786432 s (closeCycle s) := by
  unfold closeCycle
  try dsimp only
  repeat' (first
    | (simp only [↓Only.mk_guard]; with_reducible refine Only.of_mk rfl ?_)
    | with_reducible exact Only.refl _ _
    | with_reducible assumption
    | decide
    | (with_reducible
        first
          | refine Only.ite ?_ ?_ | refine Only.ite_snd ?_ ?_ | refine Only.ite_fst ?_ ?_)
    | split
    | dsimp only)

theorem unwrapEnd_only (s : State) : Only 262144 s (unwrapEnd s) := by
  unfold unwrapEnd
  try dsimp only
  repeat' (first
    | (simp only [↓Only.mk_guard]; with_reducible refine Only.of_mk rfl ?_)
    | with_reducible exact Only.refl _ _
    | with_reducible assumption
    | decide
    | (with_reducible
        first
          | refine Only.ite ?_ ?_
          | refine Only.ite_snd ?_ ?_
          | refine Only.ite_fst ?_ ?_)
    | split
    | dsimp only)

theorem kerbInsert_only (s : State) : Only 786432 s (kerbInsert s) := by
  unfold kerbInsert
  try dsimp only
  repeat' (first
    | (simp only [↓Only.mk_guard]; with_reducible refine Only.of_mk rfl ?_)
    | with_reducible exact Only.refl _ _
    | with_reducible assumption
    | decide
    | (with_reducible
        first
          | refine Only.ite ?_ ?_
          | refine Only.ite_snd ?_ ?_
          | refine Only.ite_fst ?_ ?_
          | apply Only.app (unwrapEnd_only ..)
          | apply Only.app (closeCycle_only ..)
          | apply Only.app (emitFrame_only ..))
    | split
    | dsimp only)

theorem kerbForward_only (f : BlvFrame) (s : State) : Only 524288 s (kerbForward f s) := by
  unfold kerbForward
  try dsimp only
  repeat' (first
    | (simp only [↓Only.mk_guard]; with_reducible refine Only.of_mk rfl ?_)
    | with_reducible exact Only.refl _ _
    | with_reducible assumption
    | decide
    | (with_reducible
        first
          | refine Only.ite ?_ ?_
          | refine Only.ite_snd ?_ ?_
          | refine Only.ite_fst ?_ ?_
          | apply Only.app (emitFrame_only ..))
    | split
    | dsimp only)

theorem kerbReceive_only (f : BlvFrame) (pcrcOk : Bool) (s : State) : Only 786432 s (kerbReceive f pcrcOk s) := by
  unfold kerbReceive
  try dsimp only
  repeat' (first
    | (simp only [↓Only.mk_guard]; with_reducible refine Only.of_mk rfl ?_)
    | with_reducible exact Only.refl _ _
    | with_reducible assumption
    | decide
    | (with_reducible
        first
          | refine Only.ite ?_ ?_
          | refine Only.ite_snd ?_ ?_
          | refine Only.ite_fst ?_ ?_
          | apply Only.app (kerbForward_only ..))
    | split
    | dsimp only)

theorem setInFlight_only (c : BlvClass) (m : Option BlvMsg) (s : State) : Only 524288 s (setInFlight c m s) := by
  unfold setInFlight
  try dsimp only
  repeat' (first
    | (simp only [↓Only.mk_guard]; with_reducible refine Only.of_mk rfl ?_)
    | with_reducible exact Only.refl _ _
    | with_reducible assumption
    | decide
    | split
    | dsimp only)

theorem takeSeq_only (c : BlvClass) (s : State) : Only 524288 s (takeSeq c s) := by
  unfold takeSeq
  try dsimp only
  repeat' (first
    | (simp only [↓Only.mk_guard]; with_reducible refine Only.of_mk rfl ?_)
    | with_reducible exact Only.refl _ _
    | with_reducible assumption
    | decide
    | split
    | dsimp only)

theorem nextMessage_only (c : BlvClass) (s : State) : Only 524696 s (nextMessage c s) := by
  unfold nextMessage
  try dsimp only
  repeat' (first
    | (simp only [↓Only.mk_guard]; with_reducible refine Only.of_mk rfl ?_)
    | with_reducible exact Only.refl _ _
    | with_reducible assumption
    | decide
    | (with_reducible
        first
          | apply Only.app (qAck_only ..) | apply Only.app (qDequeue_only ..) | apply Only.app (setInFlight_only ..)
          | apply Only.app (takeSeq_only ..))
    | split
    | dsimp only)

theorem sendClass_only (c : BlvClass) (m : BlvMsg) (s : State) : Only 524288 s (sendClass c m s) := by
  unfold sendClass
  try dsimp only
  repeat' (first
    | with_reducible exact Only.refl _ _
    | with_reducible assumption
    | decide
    | (with_reducible
        first
          | refine Only.ite ?_ ?_ | refine Only.ite_snd ?_ ?_ | refine Only.ite_fst ?_ ?_
          | apply Only.app (emitFrame_only ..) | apply Only.app (setInFlight_only ..))
    | split
    | dsimp only)

theorem turnOver_only : ∀ (l : List BlvClass) (s : State), Only 524696 s (turnOver l s)
  | [], s => Only.refl _ _
  | c :: t, s => by
    unfold turnOver
    dsimp only
    split
    · split
      · exact Only.app (turnOver_only t _) (by decide) (nextMessage_only ..)
      · exact Only.app (sendClass_only ..) (by decide) (nextMessage_only ..)
    · exact Only.app (turnOver_only t _) (by decide) (nextMessage_only ..)

theorem blvTurn_only (s : State) : Only 524696 s (blvTurn s) := by
  unfold blvTurn
  split
  · exact turnOver_only _ _
  · exact Only.refl _ _

theorem endMessage_only (c : BlvClass) (m : BlvMsg) (s : State) : Only 524696 s (endMessage c m s) := by
  unfold endMessage
  try dsimp only
  repeat' (first
    | with_reducible exact Only.refl _ _
    | with_reducible assumption
    | decide
    | (with_reducible
        first
          | apply Only.app (qAck_only ..) | apply Only.app (setInFlight_only ..))
    | split
    | dsimp only)

theorem frameReturn_only (c : BlvClass) (st : Status) (cnt : Nat) (s : State) : Only 786840 s (frameReturn c st cnt s) := by
  unfold frameReturn
  try dsimp only
  repeat' (first
    | (simp only [↓Only.mk_guard]; with_reducible refine Only.of_mk rfl ?_)
    | with_reducible exact Only.refl _ _
    | with_reducible assumption
    | decide
    | (with_reducible
        first
          | refine Only.ite ?_ ?_ | refine Only.ite_snd ?_ ?_ | refine Only.ite_fst ?_ ?_
          | apply Only.app (endMessage_only ..) | apply Only.app (setInFlight_only ..))
    | split
    | dsimp only)

theorem acceptToPort_only (f : BlvFrame) (s : State) : Only 2097560 s (acceptToPort f s).2 := by
  unfold acceptToPort
  try dsimp only
  repeat' (first
    | (simp only [↓Only.mk_guard]; with_reducible refine Only.of_mk rfl ?_ (pm := ?_))
    | with_reducible exact Only.refl _ _
    | with_reducible assumption
    | decide
    | (with_reducible
        first
          | refine Only.ite ?_ ?_ | refine Only.ite_snd ?_ ?_ | refine Only.ite_fst ?_ ?_
          | apply Only.app (qEnqueue_only ..))
    | (intro h; (repeat' (with_reducible first | exact h | assumption | refine Memory.writeBytes_wf _ _ ?_ | refine Memory.write_wf _ _ ?_ | split | dsimp only)); done)
    | split
    | dsimp only)

theorem deliverFrame_only (f : BlvFrame) (s : State) : Only 2621848 s (deliverFrame f s).2 := by
  unfold deliverFrame
  try dsimp only
  repeat' (first
    | (simp only [↓Only.mk_guard]; with_reducible refine Only.of_mk rfl ?_)
    | with_reducible exact Only.refl _ _
    | with_reducible assumption
    | decide
    | (with_reducible
        first
          | refine Only.ite ?_ ?_ | refine Only.ite_snd ?_ ?_ | refine Only.ite_fst ?_ ?_
          | apply Only.app (acceptToPort_only ..))
    | split
    | dsimp only)

theorem frameAccept_only (r : Ring) (f : BlvFrame) (firstPass pcrcOk fcsOk : Bool) (s : State) : Only 2883992 s (frameAccept r f firstPass pcrcOk fcsOk s) := by
  unfold frameAccept
  try dsimp only
  repeat' (first
    | (simp only [↓Only.mk_guard]; with_reducible refine Only.of_mk rfl ?_)
    | with_reducible exact Only.refl _ _
    | with_reducible assumption
    | decide
    | (with_reducible
        first
          | refine Only.ite ?_ ?_ | refine Only.ite_snd ?_ ?_ | refine Only.ite_fst ?_ ?_
          | apply Only.app (deliverFrame_only ..) | apply Only.app (emitFrame_only ..))
    | split
    | dsimp only)

theorem isolate_only (s : State) : Only 786449 s (isolate s) := by
  unfold isolate
  try dsimp only
  repeat' (first
    | (simp only [↓Only.mk_guard]; with_reducible refine Only.of_mk rfl ?_)
    | with_reducible exact Only.refl _ _
    | with_reducible assumption
    | decide
    | (with_reducible
        first
          | refine Only.ite ?_ ?_
          | refine Only.ite_snd ?_ ?_
          | refine Only.ite_fst ?_ ?_
          | apply Only.app (membershipEffective_only ..)
          | apply Only.app (attnBlv_only ..))
    | split
    | dsimp only)

theorem breakDetect_only (portQ : Bool) (s : State) : Only 786449 s (breakDetect portQ s) := by
  unfold breakDetect
  try dsimp only
  repeat' (first
    | (simp only [↓Only.mk_guard]; with_reducible refine Only.of_mk rfl ?_)
    | with_reducible exact Only.refl _ _
    | with_reducible assumption
    | decide
    | (with_reducible
        first
          | refine Only.ite ?_ ?_
          | refine Only.ite_snd ?_ ?_
          | refine Only.ite_fst ?_ ?_
          | apply Only.app (isolate_only ..)
          | apply Only.app (emitFrame_only ..))
    | split
    | dsimp only)

theorem breakReceive_only (s : State) : Only 786432 s (breakReceive s) := by
  unfold breakReceive
  try dsimp only
  repeat' (first
    | (simp only [↓Only.mk_guard]; with_reducible refine Only.of_mk rfl ?_)
    | with_reducible exact Only.refl _ _
    | with_reducible assumption
    | decide
    | (with_reducible
        first
          | refine Only.ite ?_ ?_
          | refine Only.ite_snd ?_ ?_
          | refine Only.ite_fst ?_ ?_)
    | split
    | dsimp only)

theorem unwrap_only (s : State) : Only 786448 s (unwrap s) := by
  unfold unwrap
  try dsimp only
  repeat' (first
    | (simp only [↓Only.mk_guard]; with_reducible refine Only.of_mk rfl ?_)
    | with_reducible exact Only.refl _ _
    | with_reducible assumption
    | decide
    | (with_reducible
        first
          | refine Only.ite ?_ ?_ | refine Only.ite_snd ?_ ?_ | refine Only.ite_fst ?_ ?_
          | apply Only.app (attnBlv_only ..))
    | split
    | dsimp only)

theorem blvApply_only (s : State) : Only 262144 s (blvApply s) := by
  unfold blvApply
  try dsimp only
  repeat' (first
    | (simp only [↓Only.mk_guard]; with_reducible refine Only.of_mk rfl ?_)
    | with_reducible exact Only.refl _ _
    | with_reducible assumption
    | decide
    | (with_reducible
        first
          | refine Only.ite ?_ ?_ | refine Only.ite_snd ?_ ?_ | refine Only.ite_fst ?_ ?_)
    | split
    | dsimp only)

theorem blvLeave_only (s : State) : Only 262160 s (blvLeave s) := by
  unfold blvLeave
  try dsimp only
  repeat' (first
    | (simp only [↓Only.mk_guard]; with_reducible refine Only.of_mk rfl ?_)
    | with_reducible exact Only.refl _ _
    | with_reducible assumption
    | decide
    | (with_reducible
        first
          | refine Only.ite ?_ ?_ | refine Only.ite_snd ?_ ?_ | refine Only.ite_fst ?_ ?_
          | apply Only.app (attnBlv_only ..))
    | split
    | dsimp only)

theorem blvJoin_only (s : State) : Only 786432 s (blvJoin s) := by
  unfold blvJoin
  try dsimp only
  repeat' (first
    | (simp only [↓Only.mk_guard]; with_reducible refine Only.of_mk rfl ?_)
    | with_reducible exact Only.refl _ _
    | with_reducible assumption
    | decide
    | (with_reducible
        first
          | refine Only.ite ?_ ?_ | refine Only.ite_snd ?_ ?_ | refine Only.ite_fst ?_ ?_
          | apply Only.app (emitFrame_only ..))
    | split
    | dsimp only)

theorem blvConfirm_only (target : Nat) (s : State) : Only 524288 s (blvConfirm target s) := by
  unfold blvConfirm
  try dsimp only
  repeat' (first
    | (simp only [↓Only.mk_guard]; with_reducible refine Only.of_mk rfl ?_)
    | with_reducible exact Only.refl _ _
    | with_reducible assumption
    | decide
    | (with_reducible
        first
          | refine Only.ite ?_ ?_ | refine Only.ite_snd ?_ ?_ | refine Only.ite_fst ?_ ?_)
    | split
    | dsimp only)

theorem wardenReply_only (st : Status) (reason : Nat) (s : State) : Only 524288 s (wardenReply st reason s) := by
  unfold wardenReply
  try dsimp only
  repeat' (first
    | (simp only [↓Only.mk_guard]; with_reducible refine Only.of_mk rfl ?_)
    | with_reducible exact Only.refl _ _
    | with_reducible assumption
    | decide
    | split
    | dsimp only)

theorem storeRow_only (node p time : Nat) (pt : List Byte) (s : State) : Only 2097152 s (storeRow node p time pt s) := by
  unfold storeRow
  try dsimp only
  repeat' (first
    | (simp only [↓Only.mk_guard]; with_reducible refine Only.of_mk rfl ?_ (pm := ?_))
    | with_reducible exact Only.refl _ _
    | with_reducible assumption
    | decide
    | (intro h; (repeat' (with_reducible first | exact h | assumption | refine Memory.writeN_wf _ _ _ ?_ | refine Memory.writeBytes_wf _ _ ?_ | refine Memory.write_wf _ _ ?_ | split | dsimp only)); done)
    | split
    | dsimp only)

theorem rollupStore_only (node : Nat) (m : List Byte) (s : State) : Only 2097152 s (rollupStore node m s) := by
  unfold rollupStore
  try dsimp only
  repeat' (first
    | with_reducible exact Only.refl _ _
    | with_reducible assumption
    | decide
    | (with_reducible
        first
          | refine Only.ite ?_ ?_ | refine Only.ite_snd ?_ ?_ | refine Only.ite_fst ?_ ?_
          | refine Only.foldl _ (fun _ _ _ => ?_) _ ?_ | refine Only.foldl_snd _ (fun _ _ _ => ?_) _ ?_
          | refine Only.foldl_fst _ (fun _ _ _ => ?_) _ ?_ | apply Only.app (storeRow_only ..))
    | split
    | dsimp only)

theorem rollupSend_only (s : State) : Only 2621440 s (rollupSend s) := by
  unfold rollupSend
  try dsimp only
  repeat' (first
    | (simp only [↓Only.mk_guard]; with_reducible refine Only.of_mk rfl ?_)
    | with_reducible exact Only.refl _ _
    | with_reducible assumption
    | decide
    | (with_reducible
        first
          | refine Only.ite ?_ ?_ | refine Only.ite_snd ?_ ?_ | refine Only.ite_fst ?_ ?_
          | refine Only.foldl _ (fun _ _ _ => ?_) _ ?_ | refine Only.foldl_snd _ (fun _ _ _ => ?_) _ ?_
          | refine Only.foldl_fst _ (fun _ _ _ => ?_) _ ?_ | apply Only.app (rollupStore_only ..))
    | split
    | dsimp only)

theorem snapReport_only (kind t digest : Nat) (s : State) : Only 524288 s (snapReport kind t digest s) := by
  unfold snapReport
  try dsimp only
  repeat' (first
    | (simp only [↓Only.mk_guard]; with_reducible refine Only.of_mk rfl ?_)
    | with_reducible exact Only.refl _ _
    | with_reducible assumption
    | decide
    | (with_reducible
        first
          | refine Only.ite ?_ ?_
          | refine Only.ite_snd ?_ ?_
          | refine Only.ite_fst ?_ ?_)
    | split
    | dsimp only)

theorem blvReadEffect_only (o : Nat) (s : State) : Only 262144 s (blvReadEffect o s) := by
  unfold blvReadEffect
  try dsimp only
  repeat' (first
    | (simp only [↓Only.mk_guard]; with_reducible refine Only.of_mk rfl ?_)
    | with_reducible exact Only.refl _ _
    | with_reducible assumption
    | decide
    | (with_reducible
        first
          | refine Only.ite ?_ ?_ | refine Only.ite_snd ?_ ?_ | refine Only.ite_fst ?_ ?_)
    | split
    | dsimp only)

theorem blvCtl_only (w : Word) (s : State) : Only 786448 s (blvCtl w s) := by
  unfold blvCtl
  try dsimp only
  repeat' (first
    | with_reducible exact Only.refl _ _
    | with_reducible assumption
    | decide
    | (with_reducible
        first
          | refine Only.ite ?_ ?_ | refine Only.ite_snd ?_ ?_ | refine Only.ite_fst ?_ ?_
          | apply Only.app (blvApply_only ..) | apply Only.app (blvJoin_only ..) | apply Only.app (blvLeave_only ..))
    | split
    | dsimp only)

theorem blvWrite_only (o : Nat) (w : Word) (s : State) : Only 786448 s (blvWrite o w s) := by
  unfold blvWrite
  try dsimp only
  repeat' (first
    | (simp only [↓Only.mk_guard]; with_reducible refine Only.of_mk rfl ?_)
    | with_reducible exact Only.refl _ _
    | with_reducible assumption
    | decide
    | (with_reducible
        first
          | refine Only.ite ?_ ?_ | refine Only.ite_snd ?_ ?_ | refine Only.ite_fst ?_ ?_
          | apply Only.app (blvConfirm_only ..) | apply Only.app (blvCtl_only ..))
    | split
    | dsimp only)

theorem blvReset_only (s : State) : Only 786432 s (blvReset s) := by
  unfold blvReset
  try dsimp only
  repeat' (first
    | (simp only [↓Only.mk_guard]; with_reducible refine Only.of_mk rfl ?_)
    | with_reducible exact Only.refl _ _
    | with_reducible assumption
    | decide
    | (with_reducible
        first
          | refine Only.foldl _ (fun _ _ _ => ?_) _ ?_ | refine Only.foldl_snd _ (fun _ _ _ => ?_) _ ?_
          | refine Only.foldl_fst _ (fun _ _ _ => ?_) _ ?_)
    | split
    | dsimp only)

end Sys2Proof.Machine
end

