-- ==== Sys2Proof/Laws/OnlyMotAcc.lean ====
section
/-! SUPPORT. What each operation of Machine/MotAcc.lean can touch. -/
set_option linter.all false
set_option Elab.async false
namespace Sys2Proof.Machine
open Sys2Proof

theorem modMot_only (f : MotionState → MotionState) (s : State) : Only 4096 s (modMot f s) := by
  unfold modMot
  try dsimp only
  repeat' (first
    | (simp only [↓Only.mk_guard]; with_reducible refine Only.of_mk rfl ?_)
    | with_reducible exact Only.refl _ _
    | with_reducible assumption
    | decide
    | split
    | dsimp only)

theorem modAxis_only (a : Nat) (f : Axis → Axis) (s : State) : Only 4096 s (modAxis a f s) := by
  unfold modAxis
  try dsimp only
  repeat' (first
    | with_reducible exact Only.refl _ _
    | with_reducible assumption
    | decide
    | (with_reducible
        first
          | apply Only.app (modMot_only ..))
    | split
    | dsimp only)

theorem modLift_only (f : LiftState → LiftState) (s : State) : Only 2048 s (modLift f s) := by
  unfold modLift
  try dsimp only
  repeat' (first
    | (simp only [↓Only.mk_guard]; with_reducible refine Only.of_mk rfl ?_)
    | with_reducible exact Only.refl _ _
    | with_reducible assumption
    | decide
    | split
    | dsimp only)

theorem modCar_only (c : Nat) (f : Car → Car) (s : State) : Only 2048 s (modCar c f s) := by
  unfold modCar
  try dsimp only
  repeat' (first
    | with_reducible exact Only.refl _ _
    | with_reducible assumption
    | decide
    | (with_reducible
        first
          | apply Only.app (modLift_only ..))
    | split
    | dsimp only)

theorem modDd_only (f : DoorState → DoorState) (s : State) : Only 8192 s (modDd f s) := by
  unfold modDd
  try dsimp only
  repeat' (first
    | (simp only [↓Only.mk_guard]; with_reducible refine Only.of_mk rfl ?_)
    | with_reducible exact Only.refl _ _
    | with_reducible assumption
    | decide
    | split
    | dsimp only)

theorem modDoor_only (a : Nat) (f : DoorAxis → DoorAxis) (s : State) : Only 8192 s (modDoor a f s) := by
  unfold modDoor
  try dsimp only
  repeat' (first
    | with_reducible exact Only.refl _ _
    | with_reducible assumption
    | decide
    | (with_reducible
        first
          | apply Only.app (modDd_only ..))
    | split
    | dsimp only)

end Sys2Proof.Machine
end

