-- ==== Sys2Proof/Laws/OnlyKerbOps.lean ====
section
/-! SUPPORT. What each operation of Machine/KerbOps.lean can touch. -/
set_option linter.all false
set_option Elab.async false
namespace Sys2Proof.Machine
open Sys2Proof

theorem modKerb_only (f : KerbState → KerbState) (s : State) : Only 16384 s (modKerb f s) := by
  unfold modKerb
  try dsimp only
  repeat' (first
    | (simp only [↓Only.mk_guard]; with_reducible refine Only.of_mk rfl ?_)
    | with_reducible exact Only.refl _ _
    | with_reducible assumption
    | decide
    | split
    | dsimp only)

theorem kEvent_only (b : Nat) (s : State) : Only 16384 s (kEvent b s) := by
  unfold kEvent
  try dsimp only
  repeat' (first
    | with_reducible exact Only.refl _ _
    | with_reducible assumption
    | decide
    | (with_reducible
        first
          | apply Only.app (modKerb_only ..))
    | split
    | dsimp only)

theorem mirrorAttn_only (old : Vector Word 21) (s : State) : Only 16400 s (mirrorAttn old s) := by
  unfold mirrorAttn
  try dsimp only
  repeat' (first
    | with_reducible exact Only.refl _ _
    | with_reducible assumption
    | decide
    | (with_reducible
        first
          | refine Only.ite ?_ ?_ | refine Only.ite_snd ?_ ?_ | refine Only.ite_fst ?_ ?_
          | apply Only.app (kEvent_only ..) | apply Only.app (setAttn_only ..))
    | split
    | dsimp only)

theorem kerbMirror_only (s : State) : Only 16400 s (kerbMirror s) := by
  unfold kerbMirror
  try dsimp only
  repeat' (first
    | with_reducible exact Only.refl _ _
    | with_reducible assumption
    | decide
    | (with_reducible
        first
          | apply Only.app (mirrorAttn_only ..) | apply Only.app (modKerb_only ..))
    | split
    | dsimp only)

theorem mirrorTrip_only (s : State) : Only 16400 s (mirrorTrip s) := by
  unfold mirrorTrip
  try dsimp only
  repeat' (first
    | with_reducible exact Only.refl _ _
    | with_reducible assumption
    | decide
    | (with_reducible
        first
          | apply Only.app (mirrorAttn_only ..) | apply Only.app (modKerb_only ..))
    | split
    | dsimp only)

theorem kerbReadEffect_only (o : Nat) (s : State) : Only 16384 s (kerbReadEffect o s) := by
  unfold kerbReadEffect
  try dsimp only
  repeat' (first
    | with_reducible exact Only.refl _ _
    | with_reducible assumption
    | decide
    | (with_reducible
        first
          | refine Only.ite ?_ ?_ | refine Only.ite_snd ?_ ?_ | refine Only.ite_fst ?_ ?_
          | apply Only.app (modKerb_only ..))
    | split
    | dsimp only)

theorem tripOne_only (k : Nat) (s : State) : Only 2113568 s (tripOne k s) := by
  unfold tripOne
  try dsimp only
  repeat' (first
    | with_reducible exact Only.refl _ _
    | with_reducible assumption
    | decide
    | (with_reducible
        first
          | refine Only.ite ?_ ?_ | refine Only.ite_snd ?_ ?_ | refine Only.ite_fst ?_ ?_
          | apply Only.app (appendLog_only ..) | apply Only.app (modKerb_only ..))
    | split
    | dsimp only)

theorem tripEval_only (s : State) : Only 2113584 s (tripEval s) := by
  unfold tripEval
  try dsimp only
  repeat' (first
    | with_reducible exact Only.refl _ _
    | with_reducible assumption
    | decide
    | (with_reducible
        first
          | refine Only.ite ?_ ?_ | refine Only.ite_snd ?_ ?_ | refine Only.ite_fst ?_ ?_
          | refine Only.foldl _ (fun _ _ _ => ?_) _ ?_ | refine Only.foldl_snd _ (fun _ _ _ => ?_) _ ?_
          | refine Only.foldl_fst _ (fun _ _ _ => ?_) _ ?_ | apply Only.app (mirrorTrip_only ..)
          | apply Only.app (tripOne_only ..))
    | split
    | dsimp only)

theorem tripPathTrip_only (kin : BitVec 192) (s : State) : Only 2113584 s (tripPathTrip kin s) := by
  unfold tripPathTrip
  try dsimp only
  repeat' (first
    | with_reducible exact Only.refl _ _
    | with_reducible assumption
    | decide
    | (with_reducible
        first
          | apply Only.app (modKerb_only ..) | apply Only.app (tripEval_only ..))
    | split
    | dsimp only)

theorem kinFilter_only (n : Nat) (v : Bool) (s : State) : Only 2113584 s (kinFilter n v s) := by
  unfold kinFilter
  try dsimp only
  repeat' (first
    | with_reducible exact Only.refl _ _
    | with_reducible assumption
    | decide
    | (with_reducible
        first
          | refine Only.ite ?_ ?_ | refine Only.ite_snd ?_ ?_ | refine Only.ite_fst ?_ ?_
          | apply Only.app (modKerb_only ..) | apply Only.app (tripEval_only ..))
    | split
    | dsimp only)

theorem discLatch_only (n : Nat) (s : State) : Only 2113568 s (discLatch n s) := by
  unfold discLatch
  try dsimp only
  repeat' (first
    | with_reducible exact Only.refl _ _
    | with_reducible assumption
    | decide
    | (with_reducible
        first
          | refine Only.ite ?_ ?_ | refine Only.ite_snd ?_ ?_ | refine Only.ite_fst ?_ ?_
          | apply Only.app (appendLog_only ..) | apply Only.app (kEvent_only ..) | apply Only.app (modKerb_only ..))
    | split
    | dsimp only)

theorem outFaultLatch_only (n : Nat) (s : State) : Only 2113568 s (outFaultLatch n s) := by
  unfold outFaultLatch
  try dsimp only
  repeat' (first
    | with_reducible exact Only.refl _ _
    | with_reducible assumption
    | decide
    | (with_reducible
        first
          | refine Only.ite ?_ ?_ | refine Only.ite_snd ?_ ?_ | refine Only.ite_fst ?_ ?_
          | apply Only.app (appendLog_only ..) | apply Only.app (kEvent_only ..) | apply Only.app (modKerb_only ..))
    | split
    | dsimp only)

theorem readbackFault_only (n : Nat) (level : Bool) (s : State) : Only 2113568 s (readbackFault n level s) := by
  unfold readbackFault
  try dsimp only
  repeat' (first
    | with_reducible exact Only.refl _ _
    | with_reducible assumption
    | decide
    | (with_reducible
        first
          | refine Only.ite ?_ ?_ | refine Only.ite_snd ?_ ?_ | refine Only.ite_fst ?_ ?_
          | apply Only.app (modKerb_only ..) | apply Only.app (outFaultLatch_only ..))
    | split
    | dsimp only)

theorem outputTest_only (n : Nat) (sawOff : Bool) (s : State) : Only 2113568 s (outputTest n sawOff s) := by
  unfold outputTest
  try dsimp only
  repeat' (first
    | with_reducible exact Only.refl _ _
    | with_reducible assumption
    | decide
    | (with_reducible
        first
          | refine Only.ite ?_ ?_ | refine Only.ite_snd ?_ ?_ | refine Only.ite_fst ?_ ?_
          | apply Only.app (outFaultLatch_only ..))
    | split
    | dsimp only)

theorem kCue_only (carNo cue : Nat) (s : State) : Only 16384 s (kCue carNo cue s) := by
  unfold kCue
  try dsimp only
  repeat' (first
    | with_reducible exact Only.refl _ _
    | with_reducible assumption
    | decide
    | (with_reducible
        first
          | refine Only.ite ?_ ?_ | refine Only.ite_snd ?_ ?_ | refine Only.ite_fst ?_ ?_
          | apply Only.app (modKerb_only ..))
    | split
    | dsimp only)

theorem kFrst_only (i : Nat) (s : State) : Only 2113568 s (kFrst i s) := by
  unfold kFrst
  try dsimp only
  repeat' (first
    | with_reducible exact Only.refl _ _
    | with_reducible assumption
    | decide
    | (with_reducible
        first
          | refine Only.ite ?_ ?_ | refine Only.ite_snd ?_ ?_ | refine Only.ite_fst ?_ ?_
          | apply Only.app (appendLog_only ..) | apply Only.app (modKerb_only ..))
    | split
    | dsimp only)

theorem kInstr_only (w : Nat) (s : State) : Only 2113568 s (kInstr w s) := by
  unfold kInstr
  try dsimp only
  repeat' (first
    | with_reducible exact Only.refl _ _
    | with_reducible assumption
    | decide
    | (with_reducible
        first
          | apply Only.app (kCue_only ..) | apply Only.app (kFrst_only ..) | apply Only.app (modKerb_only ..))
    | split
    | dsimp only)

theorem kRunProg_only  : ∀ (f : Nat) (s : State), Only 2113568 s (kRunProg  f s)
  | 0, s => by
    unfold kRunProg
    exact Only.refl _ _
  | f + 1, s => by
    unfold kRunProg
    try dsimp only
    repeat' (first
      | with_reducible exact Only.refl _ _
      | with_reducible assumption
      | decide
      | (with_reducible
          first
            | refine Only.ite ?_ ?_ | refine Only.ite_snd ?_ ?_ | refine Only.ite_fst ?_ ?_
            | apply Only.app (kInstr_only ..) | apply Only.app (kRunProg_only ..))
      | split
      | dsimp only)

theorem kerbExec_only {j : Nat} {s x : State} {f : State → State} (hf : ∀ y, Only j s y → Only j s (f y))
    (h : Only j s x) : Only j s (kerbExec f x) := by
  unfold kerbExec
  exact Only.ite (hf x h) h

theorem scanLatch_only (rb : BitVec 32) (s : State) : Only 16384 s (scanLatch rb s) := by
  unfold scanLatch
  try dsimp only
  repeat' (first
    | with_reducible exact Only.refl _ _
    | with_reducible assumption
    | decide
    | (with_reducible
        first
          | refine Only.ite ?_ ?_ | refine Only.ite_snd ?_ ?_ | refine Only.ite_fst ?_ ?_
          | refine Only.foldl _ (fun _ _ _ => ?_) _ ?_ | refine Only.foldl_snd _ (fun _ _ _ => ?_) _ ?_
          | refine Only.foldl_fst _ (fun _ _ _ => ?_) _ ?_ | apply Only.app (modKerb_only ..))
    | split
    | dsimp only)

theorem scanCommit_only (s : State) : Only 16384 s (scanCommit s) := by
  unfold scanCommit
  try dsimp only
  repeat' (first
    | with_reducible exact Only.refl _ _
    | with_reducible assumption
    | decide
    | (with_reducible
        first
          | refine Only.ite ?_ ?_ | refine Only.ite_snd ?_ ?_ | refine Only.ite_fst ?_ ?_
          | refine Only.foldl _ (fun _ _ _ => ?_) _ ?_ | refine Only.foldl_snd _ (fun _ _ _ => ?_) _ ?_
          | refine Only.foldl_fst _ (fun _ _ _ => ?_) _ ?_ | apply Only.app (modKerb_only ..))
    | split
    | dsimp only)

theorem cuesLost_only (n : Nat) (s : State) : Only 2113568 s (cuesLost n s) := by
  unfold cuesLost
  try dsimp only
  repeat' (first
    | with_reducible exact Only.refl _ _
    | with_reducible assumption
    | decide
    | (with_reducible
        first
          | refine Only.ite ?_ ?_ | refine Only.ite_snd ?_ ?_ | refine Only.ite_fst ?_ ?_
          | apply Only.app (appendLog_only ..) | apply Only.app (kEvent_only ..) | apply Only.app (modKerb_only ..))
    | split
    | dsimp only)

theorem publishCues_only : ∀ (n : Nat) (l : List (List Byte)) (s : State), Only 2097560 s (publishCues n l s).2
  | 0, _, s => Only.refl _ s
  | _ + 1, [], s => Only.refl _ s
  | f + 1, e :: t, s => by
    unfold publishCues
    dsimp only
    have h := Only.mono (j := 2097560) (qEnqueue_only (kp s.kerb.prog 10 2) e s) (by decide)
    refine Only.ite_snd ?_ h
    exact (publishCues_only f t _).app (by decide) h

theorem scanHouse_only (s : State) : Only 2113976 s (scanHouse s) := by
  unfold scanHouse
  try dsimp only
  repeat' (first
    | with_reducible exact Only.refl _ _
    | with_reducible assumption
    | decide
    | (with_reducible
        first
          | apply Only.app (cuesLost_only ..) | apply Only.app (kerbMirror_only ..) | apply Only.app (modKerb_only ..)
          | apply Only.app (publishCues_only ..))
    | split
    | dsimp only)

theorem tripExchange_only (s : State) : Only 2113648 s (tripExchange s) := by
  unfold tripExchange
  try dsimp only
  repeat' (first
    | (simp only [↓Only.mk_guard]; with_reducible refine Only.of_mk rfl ?_)
    | with_reducible exact Only.refl _ _
    | with_reducible assumption
    | decide
    | (with_reducible
        first
          | refine Only.ite ?_ ?_ | refine Only.ite_snd ?_ ?_ | refine Only.ite_fst ?_ ?_
          | apply Only.app (appendLog_only ..) | apply Only.app (kEvent_only ..) | apply Only.app (modKerb_only ..)
          | apply Only.app (tripEval_only ..))
    | split
    | dsimp only)

theorem progExchange_only (s : State) : Only 2113632 s (progExchange s) := by
  unfold progExchange
  try dsimp only
  repeat' (first
    | (simp only [↓Only.mk_guard]; with_reducible refine Only.of_mk rfl ?_)
    | with_reducible exact Only.refl _ _
    | with_reducible assumption
    | decide
    | (with_reducible
        first
          | refine Only.ite ?_ ?_ | refine Only.ite_snd ?_ ?_ | refine Only.ite_fst ?_ ?_
          | apply Only.app (appendLog_only ..) | apply Only.app (kEvent_only ..) | apply Only.app (modKerb_only ..))
    | split
    | dsimp only)

theorem kerbScan_only (rb : BitVec 32) (s : State) : Only 2114040 s (kerbScan rb s) := by
  unfold kerbScan
  try dsimp only
  repeat' (first
    | with_reducible exact Only.refl _ _
    | with_reducible assumption
    | decide
    | (with_reducible
        first
          | refine Only.ite ?_ ?_ | refine Only.ite_snd ?_ ?_ | refine Only.ite_fst ?_ ?_
          | apply Only.app (kEvent_only ..) | apply Only.app (kRunProg_only ..)
          | apply Only.app (progExchange_only ..) | apply Only.app (scanCommit_only ..)
          | apply Only.app (scanHouse_only ..) | apply Only.app (scanLatch_only ..)
          | apply Only.app (tripEval_only ..) | apply Only.app (tripExchange_only ..))
    | split
    | dsimp only)

theorem kerbState_only (r : KerbRun) (intFault : Nat) (s : State) : Only 2113584 s (kerbState r intFault s) := by
  unfold kerbState
  try dsimp only
  repeat' (first
    | with_reducible exact Only.refl _ _
    | with_reducible assumption
    | decide
    | (with_reducible
        first
          | refine Only.ite ?_ ?_ | refine Only.ite_snd ?_ ?_ | refine Only.ite_fst ?_ ?_
          | apply Only.app (appendLog_only ..) | apply Only.app (kEvent_only ..) | apply Only.app (kerbMirror_only ..)
          | apply Only.app (modKerb_only ..))
    | split
    | dsimp only)

theorem kerbStart_only (s : State) : Only 2113648 s (kerbStart s) := by
  unfold kerbStart
  try dsimp only
  repeat' (first
    | (simp only [↓Only.mk_guard]; with_reducible refine Only.of_mk rfl ?_)
    | with_reducible exact Only.refl _ _
    | with_reducible assumption
    | decide
    | (with_reducible
        first
          | apply Only.app (kerbState_only ..) | apply Only.app (tripEval_only ..))
    | split
    | dsimp only)

theorem kerbTest_only (s : State) : Only 2113584 s (kerbTest s) := by
  unfold kerbTest
  try dsimp only
  repeat' (first
    | with_reducible exact Only.refl _ _
    | with_reducible assumption
    | decide
    | (with_reducible
        first
          | apply Only.app (kerbState_only ..) | apply Only.app (modKerb_only ..))
    | split
    | dsimp only)

theorem kerbTestFail_only (n : Nat) (s : State) : Only 2113584 s (kerbTestFail n s) := by
  unfold kerbTestFail
  try dsimp only
  repeat' (first
    | with_reducible exact Only.refl _ _
    | with_reducible assumption
    | decide
    | (with_reducible
        first
          | apply Only.app (appendLog_only ..) | apply Only.app (kerbState_only ..) | apply Only.app (modKerb_only ..))
    | split
    | dsimp only)

theorem kerbFault_only (intFault : Nat) (s : State) : Only 18890808 s (kerbFault intFault s) := by
  unfold kerbFault
  try dsimp only
  repeat' (first
    | with_reducible exact Only.refl _ _
    | with_reducible assumption
    | decide
    | (with_reducible
        first
          | refine Only.ite ?_ ?_ | refine Only.ite_snd ?_ ?_ | refine Only.ite_fst ?_ ?_
          | apply Only.app (kerbState_only ..) | apply Only.app (latchIsl_only ..) | apply Only.app (modIsl_only ..)
          | apply Only.app (modKerb_only ..))
    | split
    | dsimp only)

theorem kerbFaultGone_only (s : State) : Only 16777224 s (kerbFaultGone s) := by
  unfold kerbFaultGone
  try dsimp only
  repeat' (first
    | with_reducible exact Only.refl _ _
    | with_reducible assumption
    | decide
    | (with_reducible
        first
          | apply Only.app (modIsl_only ..))
    | split
    | dsimp only)

theorem kerbOff_only (s0 : State) : Only 69222704 s0 (kerbOff s0) := by
  unfold kerbOff
  try dsimp only
  repeat' (first
    | (simp only [↓Only.mk_guard]; with_reducible refine Only.of_mk rfl ?_)
    | with_reducible exact Only.refl _ _
    | with_reducible assumption
    | decide
    | (with_reducible
        first
          | apply Only.app (kerbState_only ..))
    | split
    | dsimp only)

end Sys2Proof.Machine
end

