-- ==== Sys2Proof/Laws/OnlyMotionOps.lean ====
section
/-! SUPPORT. What each operation of Machine/MotionOps.lean can touch. -/
set_option linter.all false
set_option Elab.async false
namespace Sys2Proof.Machine
open Sys2Proof

theorem axisEvent_only (q a typ : Nat) (st : Status) (code low req : Nat) (s : State) : Only 2099608 s (axisEvent q a typ st code low req s) := by
  unfold axisEvent
  try dsimp only
  repeat' (first
    | with_reducible exact Only.refl _ _
    | with_reducible assumption
    | decide
    | (with_reducible
        first
          | refine Only.ite ?_ ?_ | refine Only.ite_snd ?_ ?_ | refine Only.ite_fst ?_ ?_
          | apply Only.app (modLift_only ..) | apply Only.app (qEnqueue_only ..))
    | split
    | dsimp only)

theorem motEvent_only (a typ : Nat) (st : Status) (code req : Nat) (s : State) : Only 2099608 s (motEvent a typ st code req s) := by
  unfold motEvent
  try dsimp only
  repeat' (first
    | with_reducible exact Only.refl _ _
    | with_reducible assumption
    | decide
    | (with_reducible
        first
          | apply Only.app (axisEvent_only ..))
    | split
    | dsimp only)

theorem readTables_only (a : Nat) (s : State) : Only 4096 s (readTables a s) := by
  unfold readTables
  try dsimp only
  repeat' (first
    | with_reducible exact Only.refl _ _
    | with_reducible assumption
    | decide
    | (with_reducible
        first
          | refine Only.ite ?_ ?_ | refine Only.ite_snd ?_ ?_ | refine Only.ite_fst ?_ ?_
          | apply Only.app (modAxis_only ..))
    | split
    | dsimp only)

theorem rampStop_only (a : Nat) (after : AxSt) (s : State) : Only 4096 s (rampStop a after s) := by
  unfold rampStop
  try dsimp only
  repeat' (first
    | with_reducible exact Only.refl _ _
    | with_reducible assumption
    | decide
    | (with_reducible
        first
          | refine Only.ite ?_ ?_ | refine Only.ite_snd ?_ ?_ | refine Only.ite_fst ?_ ?_
          | apply Only.app (modAxis_only ..))
    | split
    | dsimp only)

theorem hardStop_only (a : Nat) (after : AxSt) (s : State) : Only 4096 s (hardStop a after s) := by
  unfold hardStop
  try dsimp only
  repeat' (first
    | with_reducible exact Only.refl _ _
    | with_reducible assumption
    | decide
    | (with_reducible
        first
          | apply Only.app (modAxis_only ..))
    | split
    | dsimp only)

theorem faultStop_only (a : Nat) (after : AxSt) (s : State) : Only 4096 s (faultStop a after s) := by
  unfold faultStop
  try dsimp only
  repeat' (first
    | with_reducible exact Only.refl _ _
    | with_reducible assumption
    | decide
    | (with_reducible
        first
          | refine Only.ite ?_ ?_ | refine Only.ite_snd ?_ ?_ | refine Only.ite_fst ?_ ?_
          | apply Only.app (hardStop_only ..) | apply Only.app (rampStop_only ..))
    | split
    | dsimp only)

theorem noteStopped_only (a : Nat) (s : State) : Only 2099608 s (noteStopped a s) := by
  unfold noteStopped
  try dsimp only
  repeat' (first
    | with_reducible exact Only.refl _ _
    | with_reducible assumption
    | decide
    | (with_reducible
        first
          | refine Only.ite ?_ ?_ | refine Only.ite_snd ?_ ?_ | refine Only.ite_fst ?_ ?_
          | apply Only.app (motEvent_only ..))
    | split
    | dsimp only)

theorem axisFault_only (a code : Nat) (s : State) : Only 2103704 s (axisFault a code s) := by
  unfold axisFault
  try dsimp only
  repeat' (first
    | with_reducible exact Only.refl _ _
    | with_reducible assumption
    | decide
    | (with_reducible
        first
          | refine Only.ite ?_ ?_ | refine Only.ite_snd ?_ ?_ | refine Only.ite_fst ?_ ?_
          | apply Only.app (faultStop_only ..) | apply Only.app (hardStop_only ..) | apply Only.app (modAxis_only ..)
          | apply Only.app (motEvent_only ..))
    | split
    | dsimp only)

theorem readTablesChecked_only (a : Nat) (s : State) : Only 2103704 s (readTablesChecked a s) := by
  unfold readTablesChecked
  try dsimp only
  repeat' (first
    | with_reducible exact Only.refl _ _
    | with_reducible assumption
    | decide
    | (with_reducible
        first
          | refine Only.ite ?_ ?_ | refine Only.ite_snd ?_ ?_ | refine Only.ite_fst ?_ ?_
          | apply Only.app (axisFault_only ..) | apply Only.app (modAxis_only ..)
          | apply Only.app (readTables_only ..))
    | split
    | dsimp only)

theorem gearStep_only (a : Nat) (s : State) : Only 2103704 s (gearStep a s) := by
  unfold gearStep
  try dsimp only
  repeat' (first
    | with_reducible exact Only.refl _ _
    | with_reducible assumption
    | decide
    | (with_reducible
        first
          | refine Only.ite ?_ ?_ | refine Only.ite_snd ?_ ?_ | refine Only.ite_fst ?_ ?_
          | apply Only.app (axisFault_only ..) | apply Only.app (modAxis_only ..) | apply Only.app (motEvent_only ..))
    | split
    | dsimp only)

theorem answer_only (a : Nat) (ok : Bool) (req : Nat) (s : State) : Only 2099608 s (answer a ok req s) := by
  unfold answer
  try dsimp only
  repeat' (first
    | with_reducible exact Only.refl _ _
    | with_reducible assumption
    | decide
    | (with_reducible
        first
          | refine Only.ite ?_ ?_ | refine Only.ite_snd ?_ ?_ | refine Only.ite_fst ?_ ?_
          | apply Only.app (motEvent_only ..))
    | split
    | dsimp only)

theorem startMove_only (a : Nat) (x : Int) (s : State) : Only 2103704 s (startMove a x s) := by
  unfold startMove
  try dsimp only
  repeat' (first
    | with_reducible exact Only.refl _ _
    | with_reducible assumption
    | decide
    | (with_reducible
        first
          | refine Only.ite ?_ ?_ | refine Only.ite_snd ?_ ?_ | refine Only.ite_fst ?_ ?_
          | apply Only.app (modAxis_only ..) | apply Only.app (readTablesChecked_only ..))
    | split
    | dsimp only)

theorem cmdMove_only (a : Nat) (rel : Bool) (c : MotCmd) (s : State) : Only 2103704 s (cmdMove a rel c s) := by
  unfold cmdMove
  try dsimp only
  repeat' (first
    | with_reducible exact Only.refl _ _
    | with_reducible assumption
    | decide
    | (with_reducible
        first
          | refine Only.ite ?_ ?_ | refine Only.ite_snd ?_ ?_ | refine Only.ite_fst ?_ ?_
          | apply Only.app (answer_only ..) | apply Only.app (modAxis_only ..) | apply Only.app (startMove_only ..))
    | split
    | dsimp only)

theorem cmdStop_only (a : Nat) (c : MotCmd) (s : State) : Only 2103704 s (cmdStop a c s) := by
  unfold cmdStop
  try dsimp only
  repeat' (first
    | with_reducible exact Only.refl _ _
    | with_reducible assumption
    | decide
    | (with_reducible
        first
          | refine Only.ite ?_ ?_ | refine Only.ite_snd ?_ ?_ | refine Only.ite_fst ?_ ?_
          | apply Only.app (answer_only ..) | apply Only.app (modAxis_only ..) | apply Only.app (noteStopped_only ..)
          | apply Only.app (rampStop_only ..))
    | split
    | dsimp only)

theorem cmdResume_only (a : Nat) (c : MotCmd) (s : State) : Only 2103704 s (cmdResume a c s) := by
  unfold cmdResume
  try dsimp only
  repeat' (first
    | with_reducible exact Only.refl _ _
    | with_reducible assumption
    | decide
    | (with_reducible
        first
          | refine Only.ite ?_ ?_ | refine Only.ite_snd ?_ ?_ | refine Only.ite_fst ?_ ?_
          | apply Only.app (answer_only ..) | apply Only.app (modAxis_only ..))
    | split
    | dsimp only)

theorem cmdHome_only (a : Nat) (stallRef : Bool) (c : MotCmd) (s : State) : Only 2103704 s (cmdHome a stallRef c s) := by
  unfold cmdHome
  try dsimp only
  repeat' (first
    | with_reducible exact Only.refl _ _
    | with_reducible assumption
    | decide
    | (with_reducible
        first
          | refine Only.ite ?_ ?_ | refine Only.ite_snd ?_ ?_ | refine Only.ite_fst ?_ ?_
          | apply Only.app (answer_only ..) | apply Only.app (modAxis_only ..))
    | split
    | dsimp only)

theorem cmdGearOn_only (a : Nat) (c : MotCmd) (s : State) : Only 2103704 s (cmdGearOn a c s) := by
  unfold cmdGearOn
  try dsimp only
  repeat' (first
    | with_reducible exact Only.refl _ _
    | with_reducible assumption
    | decide
    | (with_reducible
        first
          | refine Only.ite ?_ ?_ | refine Only.ite_snd ?_ ?_ | refine Only.ite_fst ?_ ?_
          | apply Only.app (answer_only ..) | apply Only.app (modAxis_only ..)
          | apply Only.app (readTablesChecked_only ..))
    | split
    | dsimp only)

theorem gearLeave_only (a : Nat) (x : Int) (s : State) : Only 4096 s (gearLeave a x s) := by
  unfold gearLeave
  try dsimp only
  repeat' (first
    | with_reducible exact Only.refl _ _
    | with_reducible assumption
    | decide
    | (with_reducible
        first
          | apply Only.app (modAxis_only ..))
    | split
    | dsimp only)

theorem cmdGearOff_only (a : Nat) (c : MotCmd) (s : State) : Only 2103704 s (cmdGearOff a c s) := by
  unfold cmdGearOff
  try dsimp only
  repeat' (first
    | with_reducible exact Only.refl _ _
    | with_reducible assumption
    | decide
    | (with_reducible
        first
          | refine Only.ite ?_ ?_ | refine Only.ite_snd ?_ ?_ | refine Only.ite_fst ?_ ?_
          | apply Only.app (answer_only ..) | apply Only.app (gearLeave_only ..) | apply Only.app (modAxis_only ..))
    | split
    | dsimp only)

theorem cmdEnable_only (a : Nat) (c : MotCmd) (s : State) : Only 2111896 s (cmdEnable a c s) := by
  unfold cmdEnable
  try dsimp only
  repeat' (first
    | with_reducible exact Only.refl _ _
    | with_reducible assumption
    | decide
    | (with_reducible
        first
          | refine Only.ite ?_ ?_ | refine Only.ite_snd ?_ ?_ | refine Only.ite_fst ?_ ?_
          | apply Only.app (answer_only ..) | apply Only.app (modAxis_only ..) | apply Only.app (motEvent_only ..)
          | apply Only.app (readTables_only ..) | apply Only.app (modDoor_only ..))
    | split
    | dsimp only)

theorem cmdDisable_only (a : Nat) (c : MotCmd) (s : State) : Only 2103704 s (cmdDisable a c s) := by
  unfold cmdDisable
  try dsimp only
  repeat' (first
    | with_reducible exact Only.refl _ _
    | with_reducible assumption
    | decide
    | (with_reducible
        first
          | apply Only.app (answer_only ..) | apply Only.app (faultStop_only ..) | apply Only.app (modAxis_only ..))
    | split
    | dsimp only)

theorem cmdFaultClear_only (a : Nat) (c : MotCmd) (s : State) : Only 2103704 s (cmdFaultClear a c s) := by
  unfold cmdFaultClear
  try dsimp only
  repeat' (first
    | with_reducible exact Only.refl _ _
    | with_reducible assumption
    | decide
    | (with_reducible
        first
          | refine Only.ite ?_ ?_ | refine Only.ite_snd ?_ ?_ | refine Only.ite_fst ?_ ?_
          | apply Only.app (answer_only ..) | apply Only.app (modAxis_only ..) | apply Only.app (motEvent_only ..))
    | split
    | dsimp only)

theorem cmdSetPos_only (a : Nat) (c : MotCmd) (s : State) : Only 2103704 s (cmdSetPos a c s) := by
  unfold cmdSetPos
  try dsimp only
  repeat' (first
    | with_reducible exact Only.refl _ _
    | with_reducible assumption
    | decide
    | (with_reducible
        first
          | refine Only.ite ?_ ?_ | refine Only.ite_snd ?_ ?_ | refine Only.ite_fst ?_ ?_
          | apply Only.app (answer_only ..) | apply Only.app (modAxis_only ..) | apply Only.app (motEvent_only ..))
    | split
    | dsimp only)

theorem modEsc_only (c : Nat) (f : EscChan → EscChan) (s : State) : Only 4096 s (modEsc c f s) := by
  unfold modEsc
  try dsimp only
  repeat' (first
    | with_reducible exact Only.refl _ _
    | with_reducible assumption
    | decide
    | (with_reducible
        first
          | apply Only.app (modMot_only ..))
    | split
    | dsimp only)

theorem escLatch_only (c bits : Nat) (s : State) : Only 2120120 s (escLatch c bits s) := by
  unfold escLatch
  try dsimp only
  repeat' (first
    | with_reducible exact Only.refl _ _
    | with_reducible assumption
    | decide
    | (with_reducible
        first
          | refine Only.ite ?_ ?_ | refine Only.ite_snd ?_ ?_ | refine Only.ite_fst ?_ ?_
          | refine Only.foldl _ (fun _ _ _ => ?_) _ ?_ | refine Only.foldl_snd _ (fun _ _ _ => ?_) _ ?_
          | refine Only.foldl_fst _ (fun _ _ _ => ?_) _ ?_ | apply Only.app (modEsc_only ..)
          | apply Only.app (motEvent_only ..) | apply Only.app (tripEval_only ..))
    | split
    | dsimp only)

theorem escPublish_only (c : Nat) (s : State) : Only 2101248 s (escPublish c s) := by
  unfold escPublish
  try dsimp only
  repeat' (first
    | (simp only [↓Only.mk_guard]; with_reducible refine Only.of_mk rfl ?_ (pm := ?_))
    | with_reducible exact Only.refl _ _
    | with_reducible assumption
    | decide
    | (with_reducible
        first
          | apply Only.app (modEsc_only ..))
    | (intro h; (repeat' (with_reducible first | exact h | assumption | refine Memory.writeBytes_wf _ _ ?_ | refine Memory.write_wf _ _ ?_ | split | dsimp only)); done)
    | split
    | dsimp only)

theorem escStep_only (c : Nat) (counts : Int) (l r ms : Nat) (s : State) : Only 2120120 s (escStep c counts l r ms s) := by
  unfold escStep
  try dsimp only
  repeat' (first
    | with_reducible exact Only.refl _ _
    | with_reducible assumption
    | decide
    | (with_reducible
        first
          | refine Only.ite ?_ ?_ | refine Only.ite_snd ?_ ?_ | refine Only.ite_fst ?_ ?_
          | refine Only.foldl _ (fun _ _ _ => ?_) _ ?_ | refine Only.foldl_snd _ (fun _ _ _ => ?_) _ ?_
          | refine Only.foldl_fst _ (fun _ _ _ => ?_) _ ?_ | apply Only.app (escLatch_only ..)
          | apply Only.app (escPublish_only ..) | apply Only.app (modEsc_only ..))
    | split
    | dsimp only)

theorem escClear_only (c req : Nat) (s : State) : Only 2103704 s (escClear c req s) := by
  unfold escClear
  try dsimp only
  repeat' (first
    | with_reducible exact Only.refl _ _
    | with_reducible assumption
    | decide
    | (with_reducible
        first
          | refine Only.ite ?_ ?_ | refine Only.ite_snd ?_ ?_ | refine Only.ite_fst ?_ ?_
          | apply Only.app (answer_only ..) | apply Only.app (modEsc_only ..) | apply Only.app (motEvent_only ..))
    | split
    | dsimp only)

theorem motExec_only (a : Nat) (c : MotCmd) (s : State) : Only 2111896 s (motExec a c s) := by
  unfold motExec
  try dsimp only
  repeat' (first
    | with_reducible exact Only.refl _ _
    | with_reducible assumption
    | decide
    | (with_reducible
        first
          | apply Only.app (answer_only ..) | apply Only.app (cmdDisable_only ..) | apply Only.app (cmdEnable_only ..)
          | apply Only.app (cmdFaultClear_only ..) | apply Only.app (cmdGearOff_only ..)
          | apply Only.app (cmdGearOn_only ..) | apply Only.app (cmdHome_only ..) | apply Only.app (cmdMove_only ..)
          | apply Only.app (cmdResume_only ..) | apply Only.app (cmdSetPos_only ..) | apply Only.app (cmdStop_only ..))
    | split
    | dsimp only)

theorem motRow_only (a : Nat) (c : MotCmd) (s : State) : Only 2111896 s (motRow a c s) := by
  unfold motRow
  try dsimp only
  repeat' (first
    | with_reducible exact Only.refl _ _
    | with_reducible assumption
    | decide
    | (with_reducible
        first
          | refine Only.ite ?_ ?_ | refine Only.ite_snd ?_ ?_ | refine Only.ite_fst ?_ ?_
          | apply Only.app (answer_only ..) | apply Only.app (motExec_only ..))
    | split
    | dsimp only)

theorem motPump_only  : ∀ (f : Nat) (s : State), Only 2103704 s (motPump  f s)
  | 0, s => by
    unfold motPump
    exact Only.refl _ _
  | f + 1, s => by
    unfold motPump
    try dsimp only
    repeat' (first
      | with_reducible exact Only.refl _ _
      | with_reducible assumption
      | decide
      | (with_reducible
          first
            | refine Only.ite ?_ ?_ | refine Only.ite_snd ?_ ?_ | refine Only.ite_fst ?_ ?_
            | apply Only.app (answer_only ..) | apply Only.app (escClear_only ..) | apply Only.app (modAxis_only ..)
            | apply Only.app (motEvent_only ..) | apply Only.app (qAck_only ..) | apply Only.app (qDequeue_only ..)
            | apply Only.app (motPump_only ..))
      | split
      | dsimp only)

theorem frameShift_only (a : Nat) (e : Int) (s : State) : Only 4096 s (frameShift a e s) := by
  unfold frameShift
  try dsimp only
  repeat' (first
    | with_reducible exact Only.refl _ _
    | with_reducible assumption
    | decide
    | (with_reducible
        first
          | apply Only.app (modAxis_only ..))
    | split
    | dsimp only)

theorem advanceUs_only (a : Nat) : ∀ (f : Nat) (s : State), Only 4096 s (advanceUs a f s).1
  | 0, s => by
    unfold advanceUs
    exact Only.refl _ _
  | f + 1, s => by
    unfold advanceUs
    try dsimp only
    repeat' (first
      | with_reducible exact Only.refl _ _
      | with_reducible assumption
      | decide
      | (with_reducible
          first
            | refine Only.ite ?_ ?_ | refine Only.ite_snd ?_ ?_ | refine Only.ite_fst ?_ ?_
            | apply Only.app (modAxis_only ..) | apply Only.app (advanceUs_only ..))
      | split
      | dsimp only)

theorem advance_only (a us : Nat) (s : State) : Only 4096 s (advance a us s).1 := by
  unfold advance
  try dsimp only
  repeat' (first
    | with_reducible exact Only.refl _ _
    | with_reducible assumption
    | decide
    | (with_reducible
        first
          | refine Only.ite ?_ ?_ | refine Only.ite_snd ?_ ?_ | refine Only.ite_fst ?_ ?_
          | apply Only.app (advanceUs_only ..) | apply Only.app (modAxis_only ..))
    | split
    | dsimp only)

theorem advanceObs_only (a us : Nat) (s : State) : Only 4096 s (advanceObs a us s).1 := by
  unfold advanceObs
  try dsimp only
  repeat' (first
    | with_reducible exact Only.refl _ _
    | with_reducible assumption
    | decide
    | (with_reducible
        first
          | refine Only.ite ?_ ?_ | refine Only.ite_snd ?_ ?_ | refine Only.ite_fst ?_ ?_
          | apply Only.app (advance_only ..) | apply Only.app (modAxis_only ..))
    | split
    | dsimp only)

theorem advanceStop_only (a us : Nat) (s : State) : Only 2103704 s (advanceStop a us s) := by
  unfold advanceStop
  try dsimp only
  repeat' (first
    | with_reducible exact Only.refl _ _
    | with_reducible assumption
    | decide
    | (with_reducible
        first
          | refine Only.ite ?_ ?_ | refine Only.ite_snd ?_ ?_ | refine Only.ite_fst ?_ ?_
          | apply Only.app (modAxis_only ..) | apply Only.app (noteStopped_only ..))
    | split
    | dsimp only)

theorem arrive_only (a : Nat) (s : State) : Only 2103704 s (arrive a s) := by
  unfold arrive
  try dsimp only
  repeat' (first
    | with_reducible exact Only.refl _ _
    | with_reducible assumption
    | decide
    | (with_reducible
        first
          | apply Only.app (modAxis_only ..) | apply Only.app (motEvent_only ..)
          | apply Only.app (readTablesChecked_only ..))
    | split
    | dsimp only)

theorem homeRelease_only (a : Nat) (cap : Rat) (s : State) : Only 6144 s (homeRelease a cap s) := by
  unfold homeRelease
  try dsimp only
  repeat' (first
    | with_reducible exact Only.refl _ _
    | with_reducible assumption
    | decide
    | (with_reducible
        first
          | refine Only.ite ?_ ?_ | refine Only.ite_snd ?_ ?_ | refine Only.ite_fst ?_ ?_
          | apply Only.app (frameShift_only ..) | apply Only.app (modAxis_only ..) | apply Only.app (modCar_only ..))
    | split
    | dsimp only)

theorem homeFail_only (a : Nat) (s : State) : Only 2103704 s (homeFail a s) := by
  unfold homeFail
  try dsimp only
  repeat' (first
    | with_reducible exact Only.refl _ _
    | with_reducible assumption
    | decide
    | (with_reducible
        first
          | refine Only.ite ?_ ?_ | refine Only.ite_snd ?_ ?_ | refine Only.ite_fst ?_ ?_
          | apply Only.app (axisFault_only ..))
    | split
    | dsimp only)

theorem homeStep_only (a us : Nat) (s0 : State) : Only 2103704 s0 (homeStep a us s0) := by
  unfold homeStep
  try dsimp only
  repeat' (first
    | with_reducible exact Only.refl _ _
    | with_reducible assumption
    | decide
    | (with_reducible
        first
          | refine Only.ite ?_ ?_ | refine Only.ite_snd ?_ ?_ | refine Only.ite_fst ?_ ?_
          | apply Only.app (advance_only ..) | apply Only.app (homeFail_only ..)
          | apply Only.app (homeRelease_only ..) | apply Only.app (modAxis_only ..)
          | apply Only.app (motEvent_only ..) | apply Only.app (readTablesChecked_only ..))
    | split
    | dsimp only)

theorem limitInput_only (a : Nat) (hi level : Bool) (t : Nat) (s : State) : Only 2103704 s (limitInput a hi level t s) := by
  unfold limitInput
  try dsimp only
  repeat' (first
    | with_reducible exact Only.refl _ _
    | with_reducible assumption
    | decide
    | (with_reducible
        first
          | refine Only.ite ?_ ?_ | refine Only.ite_snd ?_ ?_ | refine Only.ite_fst ?_ ?_
          | apply Only.app (hardStop_only ..) | apply Only.app (homeRelease_only ..)
          | apply Only.app (modAxis_only ..) | apply Only.app (motEvent_only ..)
          | apply Only.app (noteStopped_only ..))
    | split
    | dsimp only)

theorem limitActions_only (a : Nat) (s : State) : Only 2103704 s (limitActions a s) := by
  unfold limitActions
  try dsimp only
  repeat' (first
    | with_reducible exact Only.refl _ _
    | with_reducible assumption
    | decide
    | (with_reducible
        first
          | refine Only.ite ?_ ?_ | refine Only.ite_snd ?_ ?_ | refine Only.ite_fst ?_ ?_
          | apply Only.app (axisFault_only ..) | apply Only.app (hardStop_only ..) | apply Only.app (modAxis_only ..)
          | apply Only.app (motEvent_only ..) | apply Only.app (noteStopped_only ..)
          | apply Only.app (rampStop_only ..))
    | split
    | dsimp only)

theorem permitActions_only (a : Nat) (s : State) : Only 2103704 s (permitActions a s) := by
  unfold permitActions
  try dsimp only
  repeat' (first
    | with_reducible exact Only.refl _ _
    | with_reducible assumption
    | decide
    | (with_reducible
        first
          | refine Only.ite ?_ ?_ | refine Only.ite_snd ?_ ?_ | refine Only.ite_fst ?_ ?_
          | apply Only.app (faultStop_only ..) | apply Only.app (hardStop_only ..) | apply Only.app (modAxis_only ..)
          | apply Only.app (noteStopped_only ..))
    | split
    | dsimp only)

theorem axisPublish_only (a : Nat) (s : State) : Only 69210384 s (axisPublish a s) := by
  unfold axisPublish
  try dsimp only
  repeat' (first
    | (simp only [↓Only.mk_guard]; with_reducible refine Only.of_mk rfl ?_ (pm := ?_))
    | with_reducible exact Only.refl _ _
    | with_reducible assumption
    | decide
    | (with_reducible
        first
          | refine Only.ite ?_ ?_ | refine Only.ite_snd ?_ ?_ | refine Only.ite_fst ?_ ?_
          | apply Only.app (modAxis_only ..))
    | (intro h; (repeat' (with_reducible first | exact h | assumption | refine Memory.writeBytes_wf _ _ ?_ | refine Memory.write_wf _ _ ?_ | split | dsimp only)); done)
    | split
    | dsimp only)

theorem motTake_only (m : Memory) (s : State) : Only 4096 s (motTake m s) := by
  unfold motTake
  try dsimp only
  repeat' (first
    | with_reducible exact Only.refl _ _
    | with_reducible assumption
    | decide
    | (with_reducible
        first
          | apply Only.app (modMot_only ..))
    | split
    | dsimp only)

theorem motApply_only (s : State) : Only 4096 s (motApply s) := by
  unfold motApply
  try dsimp only
  repeat' (first
    | with_reducible exact Only.refl _ _
    | with_reducible assumption
    | decide
    | (with_reducible
        first
          | refine Only.ite ?_ ?_ | refine Only.ite_snd ?_ ?_ | refine Only.ite_fst ?_ ?_
          | apply Only.app (modMot_only ..) | apply Only.app (motTake_only ..))
    | split
    | dsimp only)

theorem motDeferred_only (s : State) : Only 4096 s (motDeferred s) := by
  unfold motDeferred
  try dsimp only
  repeat' (first
    | with_reducible exact Only.refl _ _
    | with_reducible assumption
    | decide
    | (with_reducible
        first
          | refine Only.ite ?_ ?_ | refine Only.ite_snd ?_ ?_ | refine Only.ite_fst ?_ ?_
          | apply Only.app (motTake_only ..))
    | split
    | dsimp only)

theorem tableInvalidate_only (axes : Nat) (s : State) : Only 4096 s (tableInvalidate axes s) := by
  unfold tableInvalidate
  try dsimp only
  repeat' (first
    | with_reducible exact Only.refl _ _
    | with_reducible assumption
    | decide
    | (with_reducible
        first
          | refine Only.foldl _ (fun _ _ _ => ?_) _ ?_ | refine Only.foldl_snd _ (fun _ _ _ => ?_) _ ?_
          | refine Only.foldl_fst _ (fun _ _ _ => ?_) _ ?_ | apply Only.app (modAxis_only ..))
    | split
    | dsimp only)

theorem motCtl_only (w : Word) (s : State) : Only 4096 s (motCtl w s) := by
  unfold motCtl
  try dsimp only
  repeat' (first
    | with_reducible exact Only.refl _ _
    | with_reducible assumption
    | decide
    | (with_reducible
        first
          | refine Only.ite ?_ ?_ | refine Only.ite_snd ?_ ?_ | refine Only.ite_fst ?_ ?_
          | apply Only.app (motApply_only ..) | apply Only.app (tableInvalidate_only ..))
    | split
    | dsimp only)

theorem motWrite_only (o : Nat) (w : Word) (s : State) : Only 4096 s (motWrite o w s) := by
  unfold motWrite
  try dsimp only
  repeat' (first
    | with_reducible exact Only.refl _ _
    | with_reducible assumption
    | decide
    | (with_reducible
        first
          | refine Only.ite ?_ ?_ | refine Only.ite_snd ?_ ?_ | refine Only.ite_fst ?_ ?_
          | apply Only.app (modMot_only ..) | apply Only.app (motCtl_only ..))
    | split
    | dsimp only)

theorem motionHold_only (s : State) : Only 2103704 s (motionHold s) := by
  unfold motionHold
  try dsimp only
  repeat' (first
    | with_reducible exact Only.refl _ _
    | with_reducible assumption
    | decide
    | (with_reducible
        first
          | refine Only.ite ?_ ?_ | refine Only.ite_snd ?_ ?_ | refine Only.ite_fst ?_ ?_
          | refine Only.foldl _ (fun _ _ _ => ?_) _ ?_ | refine Only.foldl_snd _ (fun _ _ _ => ?_) _ ?_
          | refine Only.foldl_fst _ (fun _ _ _ => ?_) _ ?_ | apply Only.app (faultStop_only ..)
          | apply Only.app (modAxis_only ..) | apply Only.app (noteStopped_only ..))
    | split
    | dsimp only)

theorem motionFenced_only (s : State) : Only 4096 s (motionFenced s) := by
  unfold motionFenced
  try dsimp only
  repeat' (first
    | with_reducible exact Only.refl _ _
    | with_reducible assumption
    | decide
    | (with_reducible
        first
          | refine Only.ite ?_ ?_ | refine Only.ite_snd ?_ ?_ | refine Only.ite_fst ?_ ?_
          | apply Only.app (modMot_only ..))
    | split
    | dsimp only)

theorem motionReset_only (s : State) : Only 4096 s (motionReset s) := by
  unfold motionReset
  try dsimp only
  repeat' (first
    | with_reducible exact Only.refl _ _
    | with_reducible assumption
    | decide
    | (with_reducible
        first
          | apply Only.app (modMot_only ..))
    | split
    | dsimp only)

theorem motionStep8_only (s : State) : Only 4096 s (motionStep8 s) := by
  unfold motionStep8
  try dsimp only
  repeat' (first
    | with_reducible exact Only.refl _ _
    | with_reducible assumption
    | decide
    | (with_reducible
        first
          | apply Only.app (modMot_only ..) | apply Only.app (motApply_only ..) | apply Only.app (motionReset_only ..))
    | split
    | dsimp only)

end Sys2Proof.Machine
end

