-- ==== Sys2Proof/Laws/OnlyDoorOps.lean ====
section
/-! SUPPORT. What each operation of Machine/DoorOps.lean can touch. -/
set_option linter.all false
set_option Elab.async false
namespace Sys2Proof.Machine
open Sys2Proof

theorem modPhase_only (a : Nat) (b : Bool) (f : DPhase → DPhase) (s : State) : Only 8192 s (modPhase a b f s) := by
  unfold modPhase
  try dsimp only
  repeat' (first
    | with_reducible exact Only.refl _ _
    | with_reducible assumption
    | decide
    | (with_reducible
        first
          | refine Only.ite ?_ ?_ | refine Only.ite_snd ?_ ?_ | refine Only.ite_fst ?_ ?_
          | apply Only.app (modDoor_only ..))
    | split
    | dsimp only)

theorem formCurrents_only (a : Nat) (s : State) : Only 8192 s (formCurrents a s) := by
  unfold formCurrents
  try dsimp only
  repeat' (first
    | with_reducible exact Only.refl _ _
    | with_reducible assumption
    | decide
    | (with_reducible
        first
          | apply Only.app (modPhase_only ..))
    | split
    | dsimp only)

theorem addressUpdate_only (a j : Nat) (s : State) : Only 8192 s (addressUpdate a j s) := by
  unfold addressUpdate
  try dsimp only
  repeat' (first
    | with_reducible exact Only.refl _ _
    | with_reducible assumption
    | decide
    | (with_reducible
        first
          | refine Only.ite ?_ ?_ | refine Only.ite_snd ?_ ?_ | refine Only.ite_fst ?_ ?_
          | apply Only.app (formCurrents_only ..) | apply Only.app (modDoor_only ..))
    | split
    | dsimp only)

theorem turnOn_only (a : Nat) (b : Bool) (s : State) : Only 8192 s (turnOn a b s) := by
  unfold turnOn
  try dsimp only
  repeat' (first
    | with_reducible exact Only.refl _ _
    | with_reducible assumption
    | decide
    | (with_reducible
        first
          | refine Only.ite ?_ ?_ | refine Only.ite_snd ?_ ?_ | refine Only.ite_fst ?_ ?_
          | apply Only.app (modDoor_only ..) | apply Only.app (modPhase_only ..))
    | split
    | dsimp only)

theorem comparator_only (a : Nat) (b above : Bool) (delay t : Nat) (s : State) : Only 8192 s (comparator a b above delay t s) := by
  unfold comparator
  try dsimp only
  repeat' (first
    | with_reducible exact Only.refl _ _
    | with_reducible assumption
    | decide
    | (with_reducible
        first
          | refine Only.ite ?_ ?_ | refine Only.ite_snd ?_ ?_ | refine Only.ite_fst ?_ ?_
          | apply Only.app (modPhase_only ..) | apply Only.app (turnOn_only ..))
    | split
    | dsimp only)

theorem deadEnd_only (a : Nat) (b : Bool) (t : Nat) (s : State) : Only 8192 s (deadEnd a b t s) := by
  unfold deadEnd
  try dsimp only
  repeat' (first
    | with_reducible exact Only.refl _ _
    | with_reducible assumption
    | decide
    | (with_reducible
        first
          | refine Only.ite ?_ ?_ | refine Only.ite_snd ?_ ?_ | refine Only.ite_fst ?_ ?_
          | apply Only.app (modPhase_only ..))
    | split
    | dsimp only)

theorem fastEnd_only (a : Nat) (b : Bool) (s : State) : Only 8192 s (fastEnd a b s) := by
  unfold fastEnd
  try dsimp only
  repeat' (first
    | with_reducible exact Only.refl _ _
    | with_reducible assumption
    | decide
    | (with_reducible
        first
          | refine Only.ite ?_ ?_ | refine Only.ite_snd ?_ ?_ | refine Only.ite_fst ?_ ?_
          | apply Only.app (modPhase_only ..) | apply Only.app (turnOn_only ..))
    | split
    | dsimp only)

theorem gatesOff_only (a : Nat) (s : State) : Only 8192 s (gatesOff a s) := by
  unfold gatesOff
  try dsimp only
  repeat' (first
    | with_reducible exact Only.refl _ _
    | with_reducible assumption
    | decide
    | (with_reducible
        first
          | apply Only.app (modDoor_only ..))
    | split
    | dsimp only)

theorem bridgeFault_only (a code : Nat) (s : State) : Only 2111896 s (bridgeFault a code s) := by
  unfold bridgeFault
  try dsimp only
  repeat' (first
    | with_reducible exact Only.refl _ _
    | with_reducible assumption
    | decide
    | (with_reducible
        first
          | apply Only.app (axisEvent_only ..) | apply Only.app (axisFault_only ..)
          | apply Only.app (gatesOff_only ..) | apply Only.app (modDoor_only ..))
    | split
    | dsimp only)

theorem bridgeGone_only (a : Nat) (s : State) : Only 8192 s (bridgeGone a s) := by
  unfold bridgeGone
  try dsimp only
  repeat' (first
    | with_reducible exact Only.refl _ _
    | with_reducible assumption
    | decide
    | (with_reducible
        first
          | apply Only.app (modDoor_only ..))
    | split
    | dsimp only)

theorem blankEnd_only (a : Nat) (b above : Bool) (s : State) : Only 2111896 s (blankEnd a b above s) := by
  unfold blankEnd
  try dsimp only
  repeat' (first
    | with_reducible exact Only.refl _ _
    | with_reducible assumption
    | decide
    | (with_reducible
        first
          | refine Only.ite ?_ ?_ | refine Only.ite_snd ?_ ?_ | refine Only.ite_fst ?_ ?_
          | apply Only.app (bridgeFault_only ..) | apply Only.app (modPhase_only ..))
    | split
    | dsimp only)

theorem offsetMeasured_only (a : Nat) (oa ob : Int) (s : State) : Only 2111896 s (offsetMeasured a oa ob s) := by
  unfold offsetMeasured
  try dsimp only
  repeat' (first
    | with_reducible exact Only.refl _ _
    | with_reducible assumption
    | decide
    | (with_reducible
        first
          | refine Only.ite ?_ ?_ | refine Only.ite_snd ?_ ?_ | refine Only.ite_fst ?_ ?_
          | apply Only.app (bridgeFault_only ..) | apply Only.app (modDoor_only ..))
    | split
    | dsimp only)

theorem offsetCal_only (m : Nat) (s : State) : Only 8192 s (offsetCal m s) := by
  unfold offsetCal
  try dsimp only
  repeat' (first
    | with_reducible exact Only.refl _ _
    | with_reducible assumption
    | decide
    | (with_reducible
        first
          | refine Only.ite ?_ ?_ | refine Only.ite_snd ?_ ?_ | refine Only.ite_fst ?_ ?_
          | refine Only.foldl _ (fun _ _ _ => ?_) _ ?_ | refine Only.foldl_snd _ (fun _ _ _ => ?_) _ ?_
          | refine Only.foldl_fst _ (fun _ _ _ => ?_) _ ?_ | apply Only.app (modDd_only ..)
          | apply Only.app (modDoor_only ..))
    | split
    | dsimp only)

theorem bemfSample_only (a : Nat) (b : Bool) (code t : Nat) (s : State) : Only 8192 s (bemfSample a b code t s) := by
  unfold bemfSample
  try dsimp only
  repeat' (first
    | with_reducible exact Only.refl _ _
    | with_reducible assumption
    | decide
    | (with_reducible
        first
          | refine Only.ite ?_ ?_ | refine Only.ite_snd ?_ ?_ | refine Only.ite_fst ?_ ?_
          | apply Only.app (modDoor_only ..) | apply Only.app (modPhase_only ..))
    | split
    | dsimp only)

theorem estimate_only (a : Nat) (s : State) : Only 8192 s (estimate a s) := by
  unfold estimate
  try dsimp only
  repeat' (first
    | with_reducible exact Only.refl _ _
    | with_reducible assumption
    | decide
    | (with_reducible
        first
          | refine Only.ite ?_ ?_ | refine Only.ite_snd ?_ ?_ | refine Only.ite_fst ?_ ?_
          | apply Only.app (modDoor_only ..))
    | split
    | dsimp only)

theorem doorEvent_only (a typ action req : Nat) (s : State) : Only 2099608 s (doorEvent a typ action req s) := by
  unfold doorEvent
  try dsimp only
  repeat' (first
    | with_reducible exact Only.refl _ _
    | with_reducible assumption
    | decide
    | (with_reducible
        first
          | apply Only.app (axisEvent_only ..))
    | split
    | dsimp only)

theorem obsReverse_only (a : Nat) (x : Int) (s : State) : Only 4096 s (obsReverse a x s) := by
  unfold obsReverse
  try dsimp only
  repeat' (first
    | with_reducible exact Only.refl _ _
    | with_reducible assumption
    | decide
    | (with_reducible
        first
          | apply Only.app (modAxis_only ..))
    | split
    | dsimp only)

theorem obsStop_only (a : Nat) (x : Int) (s : State) : Only 4096 s (obsStop a x s) := by
  unfold obsStop
  try dsimp only
  repeat' (first
    | with_reducible exact Only.refl _ _
    | with_reducible assumption
    | decide
    | (with_reducible
        first
          | apply Only.app (modAxis_only ..))
    | split
    | dsimp only)

theorem obstruction_only (a : Nat) (s0 : State) : Only 2111896 s0 (obstruction a s0) := by
  unfold obstruction
  try dsimp only
  repeat' (first
    | with_reducible exact Only.refl _ _
    | with_reducible assumption
    | decide
    | (with_reducible
        first
          | refine Only.ite ?_ ?_ | refine Only.ite_snd ?_ ?_ | refine Only.ite_fst ?_ ?_
          | apply Only.app (doorEvent_only ..) | apply Only.app (gearLeave_only ..) | apply Only.app (modAxis_only ..)
          | apply Only.app (modDoor_only ..) | apply Only.app (obsReverse_only ..) | apply Only.app (obsStop_only ..))
    | split
    | dsimp only)

theorem nudgeResume_only (a : Nat) (s : State) : Only 2111896 s (nudgeResume a s) := by
  unfold nudgeResume
  try dsimp only
  repeat' (first
    | with_reducible exact Only.refl _ _
    | with_reducible assumption
    | decide
    | (with_reducible
        first
          | refine Only.ite ?_ ?_ | refine Only.ite_snd ?_ ?_ | refine Only.ite_fst ?_ ?_
          | apply Only.app (cmdResume_only ..) | apply Only.app (modDoor_only ..))
    | split
    | dsimp only)

theorem nudgeStep_only (a : Nat) (s : State) : Only 2111896 s (nudgeStep a s) := by
  unfold nudgeStep
  try dsimp only
  repeat' (first
    | with_reducible exact Only.refl _ _
    | with_reducible assumption
    | decide
    | (with_reducible
        first
          | refine Only.ite ?_ ?_ | refine Only.ite_snd ?_ ?_ | refine Only.ite_fst ?_ ?_
          | apply Only.app (doorEvent_only ..) | apply Only.app (modAxis_only ..) | apply Only.app (modDoor_only ..))
    | split
    | dsimp only)

theorem doorPublish_only (a : Nat) (s : State) : Only 69214480 s (doorPublish a s) := by
  unfold doorPublish
  try dsimp only
  repeat' (first
    | (simp only [↓Only.mk_guard]; with_reducible refine Only.of_mk rfl ?_ (pm := ?_))
    | with_reducible exact Only.refl _ _
    | with_reducible assumption
    | decide
    | (with_reducible
        first
          | apply Only.app (modDoor_only ..))
    | (intro h; (repeat' (with_reducible first | exact h | assumption | refine Memory.writeBytes_wf _ _ ?_ | refine Memory.write_wf _ _ ?_ | split | dsimp only)); done)
    | split
    | dsimp only)

theorem servoAdvance_only (a : Nat) (s : State) : Only 2103704 s (servoAdvance a s) := by
  unfold servoAdvance
  try dsimp only
  repeat' (first
    | with_reducible exact Only.refl _ _
    | with_reducible assumption
    | decide
    | (with_reducible
        first
          | refine Only.ite ?_ ?_ | refine Only.ite_snd ?_ ?_ | refine Only.ite_fst ?_ ?_
          | apply Only.app (advanceObs_only ..) | apply Only.app (advanceStop_only ..)
          | apply Only.app (arrive_only ..) | apply Only.app (gearStep_only ..) | apply Only.app (homeStep_only ..))
    | split
    | dsimp only)

theorem servoCommands_only (a : Nat) (s : State) : Only 2111896 s (servoCommands a s) := by
  unfold servoCommands
  try dsimp only
  repeat' (first
    | with_reducible exact Only.refl _ _
    | with_reducible assumption
    | decide
    | (with_reducible
        first
          | refine Only.foldl _ (fun _ _ _ => ?_) _ ?_ | refine Only.foldl_snd _ (fun _ _ _ => ?_) _ ?_
          | refine Only.foldl_fst _ (fun _ _ _ => ?_) _ ?_ | apply Only.app (modAxis_only ..)
          | apply Only.app (motExec_only ..))
    | split
    | dsimp only)

theorem servoPoint_only (a : Nat) (s : State) : Only 4096 s (servoPoint a s) := by
  unfold servoPoint
  try dsimp only
  repeat' (first
    | with_reducible exact Only.refl _ _
    | with_reducible assumption
    | decide
    | (with_reducible
        first
          | refine Only.ite ?_ ?_ | refine Only.ite_snd ?_ ?_ | refine Only.ite_fst ?_ ?_
          | apply Only.app (modAxis_only ..))
    | split
    | dsimp only)

theorem axisServo_only (a : Nat) (s : State) : Only 69220760 s (axisServo a s) := by
  unfold axisServo
  try dsimp only
  repeat' (first
    | with_reducible exact Only.refl _ _
    | with_reducible assumption
    | decide
    | (with_reducible
        first
          | refine Only.ite ?_ ?_ | refine Only.ite_snd ?_ ?_ | refine Only.ite_fst ?_ ?_
          | apply Only.app (axisPublish_only ..) | apply Only.app (doorPublish_only ..)
          | apply Only.app (gatesOff_only ..) | apply Only.app (limitActions_only ..)
          | apply Only.app (motPump_only ..) | apply Only.app (nudgeStep_only ..)
          | apply Only.app (obstruction_only ..) | apply Only.app (permitActions_only ..)
          | apply Only.app (readTablesChecked_only ..) | apply Only.app (servoAdvance_only ..)
          | apply Only.app (servoCommands_only ..) | apply Only.app (servoPoint_only ..))
    | split
    | dsimp only)

theorem ddTake_only (m : Memory) (s : State) : Only 8192 s (ddTake m s) := by
  unfold ddTake
  try dsimp only
  repeat' (first
    | with_reducible exact Only.refl _ _
    | with_reducible assumption
    | decide
    | (with_reducible
        first
          | refine Only.ite ?_ ?_ | refine Only.ite_snd ?_ ?_ | refine Only.ite_fst ?_ ?_
          | refine Only.foldl _ (fun _ _ _ => ?_) _ ?_ | refine Only.foldl_snd _ (fun _ _ _ => ?_) _ ?_
          | refine Only.foldl_fst _ (fun _ _ _ => ?_) _ ?_ | apply Only.app (modDd_only ..)
          | apply Only.app (modDoor_only ..))
    | split
    | dsimp only)

theorem ddApply_only (s : State) : Only 8192 s (ddApply s) := by
  unfold ddApply
  try dsimp only
  repeat' (first
    | with_reducible exact Only.refl _ _
    | with_reducible assumption
    | decide
    | (with_reducible
        first
          | refine Only.ite ?_ ?_ | refine Only.ite_snd ?_ ?_ | refine Only.ite_fst ?_ ?_
          | apply Only.app (ddTake_only ..) | apply Only.app (modDd_only ..))
    | split
    | dsimp only)

theorem ddDeferred_only (s : State) : Only 8192 s (ddDeferred s) := by
  unfold ddDeferred
  try dsimp only
  repeat' (first
    | with_reducible exact Only.refl _ _
    | with_reducible assumption
    | decide
    | (with_reducible
        first
          | refine Only.ite ?_ ?_ | refine Only.ite_snd ?_ ?_ | refine Only.ite_fst ?_ ?_
          | apply Only.app (ddTake_only ..))
    | split
    | dsimp only)

theorem ddCtl_only (w : Word) (s : State) : Only 8192 s (ddCtl w s) := by
  unfold ddCtl
  try dsimp only
  repeat' (first
    | with_reducible exact Only.refl _ _
    | with_reducible assumption
    | decide
    | (with_reducible
        first
          | refine Only.ite ?_ ?_ | refine Only.ite_snd ?_ ?_ | refine Only.ite_fst ?_ ?_
          | apply Only.app (ddApply_only ..) | apply Only.app (offsetCal_only ..))
    | split
    | dsimp only)

theorem ddWrite_only (o : Nat) (w : Word) (s : State) : Only 8192 s (ddWrite o w s) := by
  unfold ddWrite
  try dsimp only
  repeat' (first
    | with_reducible exact Only.refl _ _
    | with_reducible assumption
    | decide
    | (with_reducible
        first
          | refine Only.ite ?_ ?_ | refine Only.ite_snd ?_ ?_ | refine Only.ite_fst ?_ ?_
          | apply Only.app (ddCtl_only ..) | apply Only.app (modDd_only ..))
    | split
    | dsimp only)

theorem allGatesOff_only (s : State) : Only 8192 s (allGatesOff s) := by
  unfold allGatesOff
  try dsimp only
  repeat' (first
    | with_reducible exact Only.refl _ _
    | with_reducible assumption
    | decide
    | (with_reducible
        first
          | refine Only.ite ?_ ?_ | refine Only.ite_snd ?_ ?_ | refine Only.ite_fst ?_ ?_
          | refine Only.foldl _ (fun _ _ _ => ?_) _ ?_ | refine Only.foldl_snd _ (fun _ _ _ => ?_) _ ?_
          | refine Only.foldl_fst _ (fun _ _ _ => ?_) _ ?_ | apply Only.app (gatesOff_only ..))
    | split
    | dsimp only)

theorem doorReset_only (s : State) : Only 8192 s (doorReset s) := by
  unfold doorReset
  try dsimp only
  repeat' (first
    | with_reducible exact Only.refl _ _
    | with_reducible assumption
    | decide
    | (with_reducible
        first
          | apply Only.app (modDd_only ..))
    | split
    | dsimp only)

theorem doorStep8_only (s : State) : Only 8192 s (doorStep8 s) := by
  unfold doorStep8
  try dsimp only
  repeat' (first
    | with_reducible exact Only.refl _ _
    | with_reducible assumption
    | decide
    | (with_reducible
        first
          | apply Only.app (ddApply_only ..) | apply Only.app (doorReset_only ..))
    | split
    | dsimp only)

end Sys2Proof.Machine
end

