-- ==== Sys2Proof/Laws/OnlyMeterOps.lean ====
section
/-! SUPPORT. What each operation of Machine/MeterOps.lean can touch. -/
set_option linter.all false
set_option Elab.async false
namespace Sys2Proof.Machine
open Sys2Proof

theorem meterEvent_only (b : Nat) (s : State) : Only 528 s (meterEvent b s) := by
  unfold meterEvent
  try dsimp only
  repeat' (first
    | (simp only [↓Only.mk_guard]; with_reducible refine Only.of_mk rfl ?_)
    | with_reducible exact Only.refl _ _
    | with_reducible assumption
    | decide
    | (with_reducible
        first
          | refine Only.ite ?_ ?_ | refine Only.ite_snd ?_ ?_ | refine Only.ite_fst ?_ ?_
          | apply Only.app (setAttn_only ..))
    | split
    | dsimp only)

theorem modMCore_only (c : Nat) (f : MeterCore → MeterCore) (s : State) : Only 512 s (modMCore c f s) := by
  unfold modMCore
  try dsimp only
  repeat' (first
    | (simp only [↓Only.mk_guard]; with_reducible refine Only.of_mk rfl ?_)
    | with_reducible exact Only.refl _ _
    | with_reducible assumption
    | decide
    | split
    | dsimp only)

theorem modVset_only (c v : Nat) (f : VSetState → VSetState) (s : State) : Only 512 s (modVset c v f s) := by
  unfold modVset
  try dsimp only
  repeat' (first
    | with_reducible exact Only.refl _ _
    | with_reducible assumption
    | decide
    | (with_reducible
        first
          | apply Only.app (modMCore_only ..))
    | split
    | dsimp only)

theorem modPoint_only (p : Nat) (f : PointSt → PointSt) (s : State) : Only 512 s (modPoint p f s) := by
  unfold modPoint
  try dsimp only
  repeat' (first
    | (simp only [↓Only.mk_guard]; with_reducible refine Only.of_mk rfl ?_)
    | with_reducible exact Only.refl _ _
    | with_reducible assumption
    | decide
    | split
    | dsimp only)

theorem ptPut_only (p o n v : Nat) (s : State) : Only 2097152 s (ptPut p o n v s) := by
  unfold ptPut
  try dsimp only
  repeat' (first
    | (simp only [↓Only.mk_guard]; with_reducible refine Only.of_mk rfl ?_ (pm := ?_))
    | with_reducible exact Only.refl _ _
    | with_reducible assumption
    | decide
    | (intro h; (repeat' (with_reducible first | exact h | assumption | refine Memory.writeN_wf _ _ _ ?_ | refine Memory.write_wf _ _ ?_ | split | dsimp only)); done)
    | split
    | dsimp only)

theorem gapRec_only (cause : Nat) (start stop : Int) (pts : List Nat) (s : State) : Only 2097712 s (gapRec cause start stop pts s) := by
  unfold gapRec
  try dsimp only
  repeat' (first
    | (simp only [↓Only.mk_guard]; with_reducible refine Only.of_mk rfl ?_)
    | with_reducible exact Only.refl _ _
    | with_reducible assumption
    | decide
    | (with_reducible
        first
          | apply Only.app (appendLog_only ..) | apply Only.app (meterEvent_only ..))
    | split
    | dsimp only)

theorem decimate_only (s : State) (endTime : Int) (bits : List (List Bool)) : Only 528 s (decimate s endTime bits).2 := by
  unfold decimate
  try dsimp only
  repeat' (first
    | (simp only [↓Only.mk_guard]; with_reducible refine Only.of_mk rfl ?_)
    | with_reducible exact Only.refl _ _
    | with_reducible assumption
    | decide
    | (with_reducible
        first
          | refine Only.ite ?_ ?_ | refine Only.ite_snd ?_ ?_ | refine Only.ite_fst ?_ ?_
          | apply Only.app (meterEvent_only ..))
    | split
    | dsimp only)

theorem finishSecond_only (c p k : Nat) (s : State) : Only 2097664 s (finishSecond c p k s) := by
  unfold finishSecond
  try dsimp only
  repeat' (first
    | with_reducible exact Only.refl _ _
    | with_reducible assumption
    | decide
    | (with_reducible
        first
          | refine Only.ite ?_ ?_ | refine Only.ite_snd ?_ ?_ | refine Only.ite_fst ?_ ?_
          | refine Only.foldl _ (fun _ _ _ => ?_) _ ?_ | refine Only.foldl_snd _ (fun _ _ _ => ?_) _ ?_
          | refine Only.foldl_fst _ (fun _ _ _ => ?_) _ ?_ | apply Only.app (modPoint_only ..)
          | apply Only.app (ptPut_only ..))
    | split
    | dsimp only)

theorem pointCycle_only (c p : Nat) (smps : List Smp) (n' t1 : Rat) (s : State) : Only 2097664 s (pointCycle c p smps n' t1 s) := by
  unfold pointCycle
  try dsimp only
  repeat' (first
    | with_reducible exact Only.refl _ _
    | with_reducible assumption
    | decide
    | (with_reducible
        first
          | refine Only.ite ?_ ?_ | refine Only.ite_snd ?_ ?_ | refine Only.ite_fst ?_ ?_
          | refine Only.foldl _ (fun _ _ _ => ?_) _ ?_ | refine Only.foldl_snd _ (fun _ _ _ => ?_) _ ?_
          | refine Only.foldl_fst _ (fun _ _ _ => ?_) _ ?_ | apply Only.app (finishSecond_only ..)
          | apply Only.app (modPoint_only ..))
    | split
    | dsimp only)

theorem endCycle_only (c v : Nat) (mine : Nat → Bool) (t0 t1 n' : Rat) (crossing : Bool) (s : State) : Only 2097712 s (endCycle c v mine t0 t1 n' crossing s) := by
  unfold endCycle
  try dsimp only
  repeat' (first
    | with_reducible exact Only.refl _ _
    | with_reducible assumption
    | decide
    | (with_reducible
        first
          | refine Only.ite ?_ ?_ | refine Only.ite_snd ?_ ?_ | refine Only.ite_fst ?_ ?_
          | refine Only.foldl _ (fun _ _ _ => ?_) _ ?_ | refine Only.foldl_snd _ (fun _ _ _ => ?_) _ ?_
          | refine Only.foldl_fst _ (fun _ _ _ => ?_) _ ?_ | apply Only.app (appendLog_only ..)
          | apply Only.app (meterEvent_only ..) | apply Only.app (modVset_only ..)
          | apply Only.app (pointCycle_only ..))
    | split
    | dsimp only)

theorem setLoss_only (c v : Nat) (b : Bool) (s : State) : Only 2097712 s (setLoss c v b s) := by
  unfold setLoss
  try dsimp only
  repeat' (first
    | with_reducible exact Only.refl _ _
    | with_reducible assumption
    | decide
    | (with_reducible
        first
          | refine Only.ite ?_ ?_ | refine Only.ite_snd ?_ ?_ | refine Only.ite_fst ?_ ?_
          | apply Only.app (appendLog_only ..) | apply Only.app (meterEvent_only ..)
          | apply Only.app (modVset_only ..))
    | split
    | dsimp only)

theorem judgeCycle_only (c v : Nat) (t0 t1 n' : Rat) (s : State) : Only 2097712 s (judgeCycle c v t0 t1 n' s) := by
  unfold judgeCycle
  try dsimp only
  repeat' (first
    | with_reducible exact Only.refl _ _
    | with_reducible assumption
    | decide
    | (with_reducible
        first
          | refine Only.ite ?_ ?_ | refine Only.ite_snd ?_ ?_ | refine Only.ite_fst ?_ ?_
          | apply Only.app (modVset_only ..) | apply Only.app (setLoss_only ..))
    | split
    | dsimp only)

theorem setSample_only (c v : Nat) (mine : Nat → Bool) (prev : Option Smp) (x : Smp) (s : State) : Only 2097712 s (setSample c v mine prev x s) := by
  unfold setSample
  try dsimp only
  repeat' (first
    | with_reducible exact Only.refl _ _
    | with_reducible assumption
    | decide
    | (with_reducible
        first
          | refine Only.ite ?_ ?_ | refine Only.ite_snd ?_ ?_ | refine Only.ite_fst ?_ ?_
          | apply Only.app (endCycle_only ..) | apply Only.app (judgeCycle_only ..) | apply Only.app (modVset_only ..)
          | apply Only.app (setLoss_only ..))
    | split
    | dsimp only)

theorem publishPoint_only (c p : Nat) (endTime : Int) (s : State) : Only 2097664 s (publishPoint c p endTime s) := by
  unfold publishPoint
  try dsimp only
  repeat' (first
    | with_reducible exact Only.refl _ _
    | with_reducible assumption
    | decide
    | (with_reducible
        first
          | refine Only.foldl _ (fun _ _ _ => ?_) _ ?_ | refine Only.foldl_snd _ (fun _ _ _ => ?_) _ ?_
          | refine Only.foldl_fst _ (fun _ _ _ => ?_) _ ?_ | apply Only.app (modPoint_only ..)
          | apply Only.app (ptPut_only ..))
    | split
    | dsimp only)

theorem trimHist_only (c : Nat) (s : State) : Only 512 s (trimHist c s) := by
  unfold trimHist
  try dsimp only
  repeat' (first
    | with_reducible exact Only.refl _ _
    | with_reducible assumption
    | decide
    | (with_reducible
        first
          | refine Only.ite ?_ ?_ | refine Only.ite_snd ?_ ?_ | refine Only.ite_fst ?_ ?_
          | refine Only.foldl _ (fun _ _ _ => ?_) _ ?_ | refine Only.foldl_snd _ (fun _ _ _ => ?_) _ ?_
          | refine Only.foldl_fst _ (fun _ _ _ => ?_) _ ?_ | apply Only.app (modMCore_only ..))
    | split
    | dsimp only)

theorem blockSample_only (c : Nat) (mine : Nat → Bool) (b : MBlock) (j : Nat) (s : State) : Only 2097712 s (blockSample c mine b j s) := by
  unfold blockSample
  try dsimp only
  repeat' (first
    | with_reducible exact Only.refl _ _
    | with_reducible assumption
    | decide
    | (with_reducible
        first
          | refine Only.foldl _ (fun _ _ _ => ?_) _ ?_ | refine Only.foldl_snd _ (fun _ _ _ => ?_) _ ?_
          | refine Only.foldl_fst _ (fun _ _ _ => ?_) _ ?_ | apply Only.app (modMCore_only ..)
          | apply Only.app (setSample_only ..))
    | split
    | dsimp only)

theorem noteFirst_only (b : MBlock) (s : State) : Only 512 s (noteFirst b s) := by
  unfold noteFirst
  try dsimp only
  repeat' (first
    | (simp only [↓Only.mk_guard]; with_reducible refine Only.of_mk rfl ?_)
    | with_reducible exact Only.refl _ _
    | with_reducible assumption
    | decide
    | split
    | dsimp only)

theorem noteStart_only (b : MBlock) (s : State) : Only 2097712 s (noteStart b s) := by
  unfold noteStart
  try dsimp only
  repeat' (first
    | (simp only [↓Only.mk_guard]; with_reducible refine Only.of_mk rfl ?_)
    | with_reducible exact Only.refl _ _
    | with_reducible assumption
    | decide
    | (with_reducible
        first
          | refine Only.ite ?_ ?_ | refine Only.ite_snd ?_ ?_ | refine Only.ite_fst ?_ ?_
          | apply Only.app (gapRec_only ..))
    | split
    | dsimp only)

theorem processBlock_only (c : Nat) (mine : Nat → Bool) (b : MBlock) (s : State) : Only 2097712 s (processBlock c mine b s) := by
  unfold processBlock
  try dsimp only
  repeat' (first
    | with_reducible exact Only.refl _ _
    | with_reducible assumption
    | decide
    | (with_reducible
        first
          | refine Only.ite ?_ ?_ | refine Only.ite_snd ?_ ?_ | refine Only.ite_fst ?_ ?_
          | refine Only.foldl _ (fun _ _ _ => ?_) _ ?_ | refine Only.foldl_snd _ (fun _ _ _ => ?_) _ ?_
          | refine Only.foldl_fst _ (fun _ _ _ => ?_) _ ?_ | apply Only.app (blockSample_only ..)
          | apply Only.app (noteFirst_only ..) | apply Only.app (noteStart_only ..)
          | apply Only.app (publishPoint_only ..) | apply Only.app (trimHist_only ..))
    | split
    | dsimp only)

theorem meterDeliver_only (c : Nat) (s : State) : Only 2097712 s (meterDeliver c s) := by
  unfold meterDeliver
  try dsimp only
  repeat' (first
    | (simp only [↓Only.mk_guard]; with_reducible refine Only.of_mk rfl ?_)
    | with_reducible exact Only.refl _ _
    | with_reducible assumption
    | decide
    | (with_reducible
        first
          | refine Only.ite ?_ ?_ | refine Only.ite_snd ?_ ?_ | refine Only.ite_fst ?_ ?_
          | refine Only.foldl _ (fun _ _ _ => ?_) _ ?_ | refine Only.foldl_snd _ (fun _ _ _ => ?_) _ ?_
          | refine Only.foldl_fst _ (fun _ _ _ => ?_) _ ?_ | apply Only.app (modMCore_only ..)
          | apply Only.app (processBlock_only ..))
    | split
    | dsimp only)

theorem loseBlock_only (c : Nat) (cause : Nat) (log : Bool) (endTime : Int) (s : State) : Only 2097712 s (loseBlock c cause log endTime s) := by
  unfold loseBlock
  try dsimp only
  repeat' (first
    | with_reducible exact Only.refl _ _
    | with_reducible assumption
    | decide
    | (with_reducible
        first
          | refine Only.ite ?_ ?_ | refine Only.ite_snd ?_ ?_ | refine Only.ite_fst ?_ ?_
          | apply Only.app (gapRec_only ..) | apply Only.app (modMCore_only ..))
    | split
    | dsimp only)

theorem queueBlock_only (c : Nat) (b : MBlock) (s : State) : Only 2097712 s (queueBlock c b s) := by
  unfold queueBlock
  try dsimp only
  repeat' (first
    | (simp only [↓Only.mk_guard]; with_reducible refine Only.of_mk rfl ?_)
    | with_reducible exact Only.refl _ _
    | with_reducible assumption
    | decide
    | (with_reducible
        first
          | refine Only.ite ?_ ?_ | refine Only.ite_snd ?_ ?_ | refine Only.ite_fst ?_ ?_
          | apply Only.app (loseBlock_only ..))
    | split
    | dsimp only)

theorem blockDelivery_only (endTime : Int) (bits : List (List Bool)) (ecc : Bool) (s : State) : Only 2097712 s (blockDelivery endTime bits ecc s) := by
  unfold blockDelivery
  try dsimp only
  repeat' (first
    | with_reducible exact Only.refl _ _
    | with_reducible assumption
    | decide
    | (with_reducible
        first
          | refine Only.ite ?_ ?_ | refine Only.ite_snd ?_ ?_ | refine Only.ite_fst ?_ ?_
          | refine Only.foldl _ (fun _ _ _ => ?_) _ ?_ | refine Only.foldl_snd _ (fun _ _ _ => ?_) _ ?_
          | refine Only.foldl_fst _ (fun _ _ _ => ?_) _ ?_ | apply Only.app (decimate_only ..)
          | apply Only.app (loseBlock_only ..) | apply Only.app (meterDeliver_only ..)
          | apply Only.app (queueBlock_only ..))
    | split
    | dsimp only)

theorem deliveryRetry_only (s : State) : Only 2097712 s (deliveryRetry s) := by
  unfold deliveryRetry
  try dsimp only
  repeat' (first
    | with_reducible exact Only.refl _ _
    | with_reducible assumption
    | decide
    | (with_reducible
        first
          | refine Only.ite ?_ ?_ | refine Only.ite_snd ?_ ?_ | refine Only.ite_fst ?_ ?_
          | apply Only.app (meterDeliver_only ..))
    | split
    | dsimp only)

theorem inputStuck_only (i : Nat) (on : Bool) (s : State) : Only 2097712 s (inputStuck i on s) := by
  unfold inputStuck
  try dsimp only
  repeat' (first
    | (simp only [↓Only.mk_guard]; with_reducible refine Only.of_mk rfl ?_)
    | with_reducible exact Only.refl _ _
    | with_reducible assumption
    | decide
    | (with_reducible
        first
          | refine Only.ite ?_ ?_ | refine Only.ite_snd ?_ ?_ | refine Only.ite_fst ?_ ?_
          | apply Only.app (appendLog_only ..) | apply Only.app (meterEvent_only ..))
    | split
    | dsimp only)

theorem meterRefLoss_only (s : State) : Only 512 s (meterRefLoss s) := by
  unfold meterRefLoss
  try dsimp only
  repeat' (first
    | (simp only [↓Only.mk_guard]; with_reducible refine Only.of_mk rfl ?_)
    | with_reducible exact Only.refl _ _
    | with_reducible assumption
    | decide
    | (with_reducible
        first
          | refine Only.ite ?_ ?_ | refine Only.ite_snd ?_ ?_ | refine Only.ite_fst ?_ ?_)
    | split
    | dsimp only)

theorem meterRefBack_only (s : State) : Only 2097712 s (meterRefBack s) := by
  unfold meterRefBack
  try dsimp only
  repeat' (first
    | (simp only [↓Only.mk_guard]; with_reducible refine Only.of_mk rfl ?_)
    | with_reducible exact Only.refl _ _
    | with_reducible assumption
    | decide
    | (with_reducible
        first
          | apply Only.app (gapRec_only ..))
    | split
    | dsimp only)

theorem restartPoint_only (p : Nat) (s : State) : Only 2097664 s (restartPoint p s) := by
  unfold restartPoint
  try dsimp only
  repeat' (first
    | with_reducible exact Only.refl _ _
    | with_reducible assumption
    | decide
    | (with_reducible
        first
          | refine Only.ite ?_ ?_ | refine Only.ite_snd ?_ ?_ | refine Only.ite_fst ?_ ?_
          | refine Only.foldl _ (fun _ _ _ => ?_) _ ?_ | refine Only.foldl_snd _ (fun _ _ _ => ?_) _ ?_
          | refine Only.foldl_fst _ (fun _ _ _ => ?_) _ ?_ | apply Only.app (modPoint_only ..)
          | apply Only.app (ptPut_only ..))
    | split
    | dsimp only)

theorem sealApplied_only (old : Memory) (s : State) : Only 2097712 s (sealApplied old s) := by
  unfold sealApplied
  try dsimp only
  repeat' (first
    | (simp only [↓Only.mk_guard]; with_reducible refine Only.of_mk rfl ?_)
    | with_reducible exact Only.refl _ _
    | with_reducible assumption
    | decide
    | (with_reducible
        first
          | refine Only.ite ?_ ?_ | refine Only.ite_snd ?_ ?_ | refine Only.ite_fst ?_ ?_
          | refine Only.foldl _ (fun _ _ _ => ?_) _ ?_ | refine Only.foldl_snd _ (fun _ _ _ => ?_) _ ?_
          | refine Only.foldl_fst _ (fun _ _ _ => ?_) _ ?_ | apply Only.app (appendLog_only ..)
          | apply Only.app (meterEvent_only ..) | apply Only.app (restartPoint_only ..))
    | split
    | dsimp only)

theorem harmStart_only (p : Nat) (s : State) : Only 512 s (harmStart p s).2 := by
  unfold harmStart
  try dsimp only
  repeat' (first
    | (simp only [↓Only.mk_guard]; with_reducible refine Only.of_mk rfl ?_)
    | with_reducible exact Only.refl _ _
    | with_reducible assumption
    | decide
    | (with_reducible
        first
          | refine Only.ite ?_ ?_ | refine Only.ite_snd ?_ ?_ | refine Only.ite_fst ?_ ?_
          | apply Only.app (modVset_only ..))
    | split
    | dsimp only)

theorem harmDone_only (s : State) : Only 2097680 s (harmDone s) := by
  unfold harmDone
  try dsimp only
  repeat' (first
    | (simp only [↓Only.mk_guard]; with_reducible refine Only.of_mk rfl ?_ (pm := ?_))
    | with_reducible exact Only.refl _ _
    | with_reducible assumption
    | decide
    | (with_reducible
        first
          | refine Only.ite ?_ ?_ | refine Only.ite_snd ?_ ?_ | refine Only.ite_fst ?_ ?_
          | apply Only.app (meterEvent_only ..))
    | (intro h; (repeat' (with_reducible first | exact h | assumption | refine Memory.writeBytes_wf _ _ ?_ | refine Memory.filter_wf _ ?_ | refine Memory.write_wf _ _ ?_ | split | dsimp only)); done)
    | split
    | dsimp only)

theorem harmAbort_only (s : State) : Only 512 s (harmAbort s) := by
  unfold harmAbort
  try dsimp only
  repeat' (first
    | (simp only [↓Only.mk_guard]; with_reducible refine Only.of_mk rfl ?_)
    | with_reducible exact Only.refl _ _
    | with_reducible assumption
    | decide
    | (with_reducible
        first
          | refine Only.ite ?_ ?_ | refine Only.ite_snd ?_ ?_ | refine Only.ite_fst ?_ ?_)
    | split
    | dsimp only)

theorem quickCopy_only (s : State) : Only 512 s (quickCopy s) := by
  unfold quickCopy
  try dsimp only
  repeat' (first
    | (simp only [↓Only.mk_guard]; with_reducible refine Only.of_mk rfl ?_)
    | with_reducible exact Only.refl _ _
    | with_reducible assumption
    | decide
    | split
    | dsimp only)

theorem mqSelWrite_only (w : Word) (s : State) : Only 512 s (mqSelWrite w s).2 := by
  unfold mqSelWrite
  try dsimp only
  repeat' (first
    | (simp only [↓Only.mk_guard]; with_reducible refine Only.of_mk rfl ?_)
    | with_reducible exact Only.refl _ _
    | with_reducible assumption
    | decide
    | (with_reducible
        first
          | refine Only.ite ?_ ?_ | refine Only.ite_snd ?_ ?_ | refine Only.ite_fst ?_ ?_
          | apply Only.app (quickCopy_only ..))
    | split
    | dsimp only)

theorem quickUpdate_only (s : State) : Only 512 s (quickUpdate s) := by
  unfold quickUpdate
  try dsimp only
  repeat' (first
    | with_reducible exact Only.refl _ _
    | with_reducible assumption
    | decide
    | (with_reducible
        first
          | refine Only.ite ?_ ?_ | refine Only.ite_snd ?_ ?_ | refine Only.ite_fst ?_ ?_
          | apply Only.app (quickCopy_only ..))
    | split
    | dsimp only)

theorem meterWrite_only (o : Nat) (w : Word) (s : State) : Only 512 s (meterWrite o w s).2 := by
  unfold meterWrite
  try dsimp only
  repeat' (first
    | (simp only [↓Only.mk_guard]; with_reducible refine Only.of_mk rfl ?_)
    | with_reducible exact Only.refl _ _
    | with_reducible assumption
    | decide
    | (with_reducible
        first
          | refine Only.ite ?_ ?_ | refine Only.ite_snd ?_ ?_ | refine Only.ite_fst ?_ ?_
          | apply Only.app (harmStart_only ..) | apply Only.app (mqSelWrite_only ..))
    | split
    | dsimp only)

theorem meterReset_only (s : State) : Only 512 s (meterReset s) := by
  unfold meterReset
  try dsimp only
  repeat' (first
    | (simp only [↓Only.mk_guard]; with_reducible refine Only.of_mk rfl ?_)
    | with_reducible exact Only.refl _ _
    | with_reducible assumption
    | decide
    | split
    | dsimp only)

theorem meterCoreReset_only (c : Nat) (s : State) : Only 512 s (meterCoreReset c s) := by
  unfold meterCoreReset
  try dsimp only
  repeat' (first
    | (simp only [↓Only.mk_guard]; with_reducible refine Only.of_mk rfl ?_)
    | with_reducible exact Only.refl _ _
    | with_reducible assumption
    | decide
    | (with_reducible
        first
          | refine Only.ite ?_ ?_ | refine Only.ite_snd ?_ ?_ | refine Only.ite_fst ?_ ?_
          | apply Only.app (modMCore_only ..))
    | split
    | dsimp only)

theorem meterStart_only (s : State) : Only 512 s (meterStart s) := by
  unfold meterStart
  try dsimp only
  repeat' (first
    | (simp only [↓Only.mk_guard]; with_reducible refine Only.of_mk rfl ?_)
    | with_reducible exact Only.refl _ _
    | with_reducible assumption
    | decide
    | (with_reducible
        first
          | refine Only.ite ?_ ?_ | refine Only.ite_snd ?_ ?_ | refine Only.ite_fst ?_ ?_)
    | split
    | dsimp only)

theorem meterDormant_only (s : State) : Only 512 s (meterDormant s) := by
  unfold meterDormant
  try dsimp only
  repeat' (first
    | (simp only [↓Only.mk_guard]; with_reducible refine Only.of_mk rfl ?_)
    | with_reducible exact Only.refl _ _
    | with_reducible assumption
    | decide
    | split
    | dsimp only)

end Sys2Proof.Machine
end

