-- ==== Sys2Proof/Laws/OnlyLedgerOps.lean ====
section
/-! SUPPORT. What each operation of Machine/LedgerOps.lean can touch. -/
set_option linter.all false
set_option Elab.async false
namespace Sys2Proof.Machine
open Sys2Proof

theorem modLdg_only (f : LedgerState → LedgerState) (s : State) : Only 1024 s (modLdg f s) := by
  unfold modLdg
  try dsimp only
  repeat' (first
    | (simp only [↓Only.mk_guard]; with_reducible refine Only.of_mk rfl ?_)
    | with_reducible exact Only.refl _ _
    | with_reducible assumption
    | decide
    | split
    | dsimp only)

theorem ldgPut_only (i o n v : Nat) (s : State) : Only 2097152 s (ldgPut i o n v s) := by
  unfold ldgPut
  try dsimp only
  repeat' (first
    | (simp only [↓Only.mk_guard]; with_reducible refine Only.of_mk rfl ?_ (pm := ?_))
    | with_reducible exact Only.refl _ _
    | with_reducible assumption
    | decide
    | (intro h; (repeat' (with_reducible first | exact h | assumption | refine Memory.writeN_wf _ _ _ ?_ | refine Memory.write_wf _ _ ?_ | split | dsimp only)); done)
    | split
    | dsimp only)

theorem ldgFlag_only (i b : Nat) (s : State) : Only 2097152 s (ldgFlag i b s) := by
  unfold ldgFlag
  try dsimp only
  repeat' (first
    | with_reducible exact Only.refl _ _
    | with_reducible assumption
    | decide
    | (with_reducible
        first
          | apply Only.app (ldgPut_only ..))
    | split
    | dsimp only)

theorem ldgAdd_only (i o v : Nat) (s : State) : Only 2097152 s (ldgAdd i o v s) := by
  unfold ldgAdd
  try dsimp only
  repeat' (first
    | with_reducible exact Only.refl _ _
    | with_reducible assumption
    | decide
    | (with_reducible
        first
          | refine Only.ite ?_ ?_ | refine Only.ite_snd ?_ ?_ | refine Only.ite_fst ?_ ?_
          | apply Only.app (ldgPut_only ..))
    | split
    | dsimp only)

theorem ldgNotice_only (typ kind idx x : Nat) (s : State) : Only 2098584 s (ldgNotice typ kind idx x s) := by
  unfold ldgNotice
  try dsimp only
  repeat' (first
    | with_reducible exact Only.refl _ _
    | with_reducible assumption
    | decide
    | (with_reducible
        first
          | refine Only.ite ?_ ?_ | refine Only.ite_snd ?_ ?_ | refine Only.ite_fst ?_ ?_
          | apply Only.app (modLdg_only ..) | apply Only.app (qEnqueue_only ..))
    | split
    | dsimp only)

theorem modPulse_only (k : Nat) (f : PulseChan → PulseChan) (s : State) : Only 1024 s (modPulse k f s) := by
  unfold modPulse
  try dsimp only
  repeat' (first
    | with_reducible exact Only.refl _ _
    | with_reducible assumption
    | decide
    | (with_reducible
        first
          | apply Only.app (modLdg_only ..))
    | split
    | dsimp only)

theorem pulseEdge_only (k : Nat) (bHigh : Bool) (t : Nat) (s : State) : Only 1024 s (pulseEdge k bHigh t s) := by
  unfold pulseEdge
  try dsimp only
  repeat' (first
    | with_reducible exact Only.refl _ _
    | with_reducible assumption
    | decide
    | (with_reducible
        first
          | refine Only.ite ?_ ?_ | refine Only.ite_snd ?_ ?_ | refine Only.ite_fst ?_ ?_
          | apply Only.app (modPulse_only ..))
    | split
    | dsimp only)

theorem pulseGate_only (k : Nat) (s : State) : Only 1024 s (pulseGate k s) := by
  unfold pulseGate
  try dsimp only
  repeat' (first
    | with_reducible exact Only.refl _ _
    | with_reducible assumption
    | decide
    | (with_reducible
        first
          | refine Only.ite ?_ ?_ | refine Only.ite_snd ?_ ?_ | refine Only.ite_fst ?_ ?_
          | apply Only.app (modPulse_only ..))
    | split
    | dsimp only)

theorem pulseCredit_only (k : Nat) (s : State) : Only 2098208 s (pulseCredit k s) := by
  unfold pulseCredit
  try dsimp only
  repeat' (first
    | with_reducible exact Only.refl _ _
    | with_reducible assumption
    | decide
    | (with_reducible
        first
          | refine Only.ite ?_ ?_ | refine Only.ite_snd ?_ ?_ | refine Only.ite_fst ?_ ?_
          | apply Only.app (appendLog_only ..) | apply Only.app (ldgAdd_only ..) | apply Only.app (ldgFlag_only ..)
          | apply Only.app (modPulse_only ..))
    | split
    | dsimp only)

theorem pulseSecond_only (s : State) : Only 2098208 s (pulseSecond s) := by
  unfold pulseSecond
  try dsimp only
  repeat' (first
    | with_reducible exact Only.refl _ _
    | with_reducible assumption
    | decide
    | (with_reducible
        first
          | refine Only.ite ?_ ?_ | refine Only.ite_snd ?_ ?_ | refine Only.ite_fst ?_ ?_
          | refine Only.foldl _ (fun _ _ _ => ?_) _ ?_ | refine Only.foldl_snd _ (fun _ _ _ => ?_) _ ?_
          | refine Only.foldl_fst _ (fun _ _ _ => ?_) _ ?_ | apply Only.app (pulseCredit_only ..))
    | split
    | dsimp only)

theorem creditSource_only (i j : Nat) (s : State) : Only 2098176 s (creditSource i j s) := by
  unfold creditSource
  try dsimp only
  repeat' (first
    | with_reducible exact Only.refl _ _
    | with_reducible assumption
    | decide
    | (with_reducible
        first
          | refine Only.ite ?_ ?_ | refine Only.ite_snd ?_ ?_ | refine Only.ite_fst ?_ ?_
          | apply Only.app (ldgAdd_only ..) | apply Only.app (ldgFlag_only ..) | apply Only.app (modLdg_only ..))
    | split
    | dsimp only)

theorem ledgerSecond_only (s : State) : Only 2098688 s (ledgerSecond s) := by
  unfold ledgerSecond
  try dsimp only
  repeat' (first
    | (simp only [↓Only.mk_guard]; with_reducible refine Only.of_mk rfl ?_)
    | with_reducible exact Only.refl _ _
    | with_reducible assumption
    | decide
    | (with_reducible
        first
          | refine Only.ite ?_ ?_ | refine Only.ite_snd ?_ ?_ | refine Only.ite_fst ?_ ?_
          | refine Only.foldl _ (fun _ _ _ => ?_) _ ?_ | refine Only.foldl_snd _ (fun _ _ _ => ?_) _ ?_
          | refine Only.foldl_fst _ (fun _ _ _ => ?_) _ ?_ | apply Only.app (creditSource_only ..)
          | apply Only.app (modLdg_only ..))
    | split
    | dsimp only)

theorem ledgerCommit_only (s : State) : Only 2097152 s (ledgerCommit s) := by
  unfold ledgerCommit
  try dsimp only
  repeat' (first
    | (simp only [↓Only.mk_guard]; with_reducible refine Only.of_mk rfl ?_ (pm := ?_))
    | with_reducible exact Only.refl _ _
    | with_reducible assumption
    | decide
    | (with_reducible
        first
          | refine Only.ite ?_ ?_ | refine Only.ite_snd ?_ ?_ | refine Only.ite_fst ?_ ?_
          | refine Only.foldl _ (fun _ _ _ => ?_) _ ?_ | refine Only.foldl_snd _ (fun _ _ _ => ?_) _ ?_
          | refine Only.foldl_fst _ (fun _ _ _ => ?_) _ ?_)
    | (intro h; (repeat' (with_reducible first | exact h | assumption | refine Memory.writeBytes_wf _ _ ?_ | refine Memory.write_wf _ _ ?_ | refine Memory.foldl_wf _ (fun _ _ _ => ?_) _ ?_ | refine Memory.foldl_fst_wf _ (fun _ _ _ => ?_) _ ?_ | split | dsimp only)); done)
    | split
    | dsimp only)

theorem demandEnd_only (s : State) : Only 2098176 s (demandEnd s) := by
  unfold demandEnd
  try dsimp only
  repeat' (first
    | with_reducible exact Only.refl _ _
    | with_reducible assumption
    | decide
    | (with_reducible
        first
          | refine Only.ite ?_ ?_ | refine Only.ite_snd ?_ ?_ | refine Only.ite_fst ?_ ?_
          | refine Only.foldl _ (fun _ _ _ => ?_) _ ?_ | refine Only.foldl_snd _ (fun _ _ _ => ?_) _ ?_
          | refine Only.foldl_fst _ (fun _ _ _ => ?_) _ ?_ | apply Only.app (ldgPut_only ..)
          | apply Only.app (modLdg_only ..))
    | split
    | dsimp only)

theorem takeSnap_only (kind : Nat) (s : State) : Only 2098176 s (takeSnap kind s) := by
  unfold takeSnap
  try dsimp only
  repeat' (first
    | (simp only [↓Only.mk_guard]; with_reducible refine Only.of_mk rfl ?_ (pm := ?_))
    | with_reducible exact Only.refl _ _
    | with_reducible assumption
    | decide
    | (with_reducible
        first
          | refine Only.ite ?_ ?_ | refine Only.ite_snd ?_ ?_ | refine Only.ite_fst ?_ ?_
          | apply Only.app (ledgerCommit_only ..) | apply Only.app (modLdg_only ..))
    | (intro h; (repeat' (with_reducible first | exact h | assumption | refine Memory.write_wf _ _ ?_ | split | dsimp only)); done)
    | split
    | dsimp only)

theorem newPeriod_only (s : State) : Only 2097152 s (newPeriod s) := by
  unfold newPeriod
  try dsimp only
  repeat' (first
    | with_reducible exact Only.refl _ _
    | with_reducible assumption
    | decide
    | (with_reducible
        first
          | refine Only.foldl _ (fun _ _ _ => ?_) _ ?_ | refine Only.foldl_snd _ (fun _ _ _ => ?_) _ ?_
          | refine Only.foldl_fst _ (fun _ _ _ => ?_) _ ?_ | apply Only.app (ldgPut_only ..))
    | split
    | dsimp only)

theorem dailySnap_only (s : State) : Only 2098176 s (dailySnap s) := by
  unfold dailySnap
  try dsimp only
  repeat' (first
    | with_reducible exact Only.refl _ _
    | with_reducible assumption
    | decide
    | (with_reducible
        first
          | refine Only.ite ?_ ?_ | refine Only.ite_snd ?_ ?_ | refine Only.ite_fst ?_ ?_
          | apply Only.app (modLdg_only ..) | apply Only.app (newPeriod_only ..) | apply Only.app (takeSnap_only ..))
    | split
    | dsimp only)

theorem interimSnap_only (s : State) : Only 2098176 s (interimSnap s) := by
  unfold interimSnap
  try dsimp only
  repeat' (first
    | with_reducible exact Only.refl _ _
    | with_reducible assumption
    | decide
    | (with_reducible
        first
          | refine Only.ite ?_ ?_ | refine Only.ite_snd ?_ ?_ | refine Only.ite_fst ?_ ?_
          | apply Only.app (modLdg_only ..) | apply Only.app (takeSnap_only ..))
    | split
    | dsimp only)

theorem snapDone_only (s : State) : Only 6817208 s (snapDone s) := by
  unfold snapDone
  try dsimp only
  repeat' (first
    | (simp only [↓Only.mk_guard]; with_reducible refine Only.of_mk rfl ?_ (pm := ?_))
    | with_reducible exact Only.refl _ _
    | with_reducible assumption
    | decide
    | (with_reducible
        first
          | refine Only.foldl _ (fun _ _ _ => ?_) _ ?_ | refine Only.foldl_snd _ (fun _ _ _ => ?_) _ ?_
          | refine Only.foldl_fst _ (fun _ _ _ => ?_) _ ?_ | apply Only.app (appendLog_only ..)
          | apply Only.app (ldgNotice_only ..) | apply Only.app (snapReport_only ..) | apply Only.app (modLdg_only ..))
    | (intro h; (repeat' (with_reducible first | exact h | assumption | refine Memory.writeBytes_wf _ _ ?_ | refine Memory.filter_wf _ ?_ | refine Memory.clear_wf _ _ ?_ | refine Memory.write_wf _ _ ?_ | refine Memory.foldl_wf _ (fun _ _ _ => ?_) _ ?_ | refine Memory.foldl_fst_wf _ (fun _ _ _ => ?_) _ ?_ | split | dsimp only)); done)
    | split
    | dsimp only)

theorem snapDormant_only (s : State) : Only 6817208 s (snapDormant s) := by
  unfold snapDormant
  try dsimp only
  repeat' (first
    | with_reducible exact Only.refl _ _
    | with_reducible assumption
    | decide
    | (with_reducible
        first
          | refine Only.foldl _ (fun _ _ _ => ?_) _ ?_ | refine Only.foldl_snd _ (fun _ _ _ => ?_) _ ?_
          | refine Only.foldl_fst _ (fun _ _ _ => ?_) _ ?_ | apply Only.app (snapDone_only ..)
          | apply Only.app (takeSnap_only ..))
    | split
    | dsimp only)

theorem ldgApply_only (s : State) : Only 1024 s (ldgApply s) := by
  unfold ldgApply
  try dsimp only
  repeat' (first
    | with_reducible exact Only.refl _ _
    | with_reducible assumption
    | decide
    | (with_reducible
        first
          | apply Only.app (modLdg_only ..))
    | split
    | dsimp only)

theorem mapLedgers_only (s : State) : Only 2097152 s (mapLedgers s) := by
  unfold mapLedgers
  try dsimp only
  repeat' (first
    | with_reducible exact Only.refl _ _
    | with_reducible assumption
    | decide
    | (with_reducible
        first
          | refine Only.ite ?_ ?_ | refine Only.ite_snd ?_ ?_ | refine Only.ite_fst ?_ ?_
          | refine Only.foldl _ (fun _ _ _ => ?_) _ ?_ | refine Only.foldl_snd _ (fun _ _ _ => ?_) _ ?_
          | refine Only.foldl_fst _ (fun _ _ _ => ?_) _ ?_ | apply Only.app (ldgPut_only ..))
    | split
    | dsimp only)

theorem ldgTakeEffect_only (s : State) : Only 2098208 s (ldgTakeEffect s) := by
  unfold ldgTakeEffect
  try dsimp only
  repeat' (first
    | with_reducible exact Only.refl _ _
    | with_reducible assumption
    | decide
    | (with_reducible
        first
          | refine Only.ite ?_ ?_ | refine Only.ite_snd ?_ ?_ | refine Only.ite_fst ?_ ?_
          | apply Only.app (appendLog_only ..) | apply Only.app (mapLedgers_only ..) | apply Only.app (modLdg_only ..))
    | split
    | dsimp only)

theorem spiFault_only (k : Nat) (b : Bool) (s : State) : Only 2098616 s (spiFault k b s) := by
  unfold spiFault
  try dsimp only
  repeat' (first
    | with_reducible exact Only.refl _ _
    | with_reducible assumption
    | decide
    | (with_reducible
        first
          | refine Only.ite ?_ ?_ | refine Only.ite_snd ?_ ?_ | refine Only.ite_fst ?_ ?_
          | apply Only.app (appendLog_only ..) | apply Only.app (ldgNotice_only ..) | apply Only.app (modLdg_only ..))
    | split
    | dsimp only)

theorem spiRun_only (k : Nat) (reply : List Byte) (s : State) : Only 2098616 s (spiRun k reply s) := by
  unfold spiRun
  try dsimp only
  repeat' (first
    | with_reducible exact Only.refl _ _
    | with_reducible assumption
    | decide
    | (with_reducible
        first
          | refine Only.ite ?_ ?_ | refine Only.ite_snd ?_ ?_ | refine Only.ite_fst ?_ ?_
          | refine Only.foldl _ (fun _ _ _ => ?_) _ ?_ | refine Only.foldl_snd _ (fun _ _ _ => ?_) _ ?_
          | refine Only.foldl_fst _ (fun _ _ _ => ?_) _ ?_ | apply Only.app (modLdg_only ..)
          | apply Only.app (spiFault_only ..))
    | split
    | dsimp only)

theorem spiScan_only (replies : List (List Byte)) (s : State) : Only 2098616 s (spiScan replies s) := by
  unfold spiScan
  try dsimp only
  repeat' (first
    | with_reducible exact Only.refl _ _
    | with_reducible assumption
    | decide
    | (with_reducible
        first
          | refine Only.ite ?_ ?_ | refine Only.ite_snd ?_ ?_ | refine Only.ite_fst ?_ ?_
          | refine Only.foldl _ (fun _ _ _ => ?_) _ ?_ | refine Only.foldl_snd _ (fun _ _ _ => ?_) _ ?_
          | refine Only.foldl_fst _ (fun _ _ _ => ?_) _ ?_ | apply Only.app (modLdg_only ..)
          | apply Only.app (spiRun_only ..))
    | split
    | dsimp only)

theorem heatFault_only (k i : Nat) (b : Bool) (s : State) : Only 2098616 s (heatFault k i b s) := by
  unfold heatFault
  try dsimp only
  repeat' (first
    | with_reducible exact Only.refl _ _
    | with_reducible assumption
    | decide
    | (with_reducible
        first
          | refine Only.ite ?_ ?_ | refine Only.ite_snd ?_ ?_ | refine Only.ite_fst ?_ ?_
          | apply Only.app (appendLog_only ..) | apply Only.app (ldgFlag_only ..) | apply Only.app (ldgNotice_only ..)
          | apply Only.app (modLdg_only ..))
    | split
    | dsimp only)

theorem heatCalc_only (k : Nat) (s : State) : Only 2098616 s (heatCalc k s) := by
  unfold heatCalc
  try dsimp only
  repeat' (first
    | with_reducible exact Only.refl _ _
    | with_reducible assumption
    | decide
    | (with_reducible
        first
          | refine Only.ite ?_ ?_ | refine Only.ite_snd ?_ ?_ | refine Only.ite_fst ?_ ?_
          | apply Only.app (heatFault_only ..) | apply Only.app (ldgAdd_only ..) | apply Only.app (modLdg_only ..))
    | split
    | dsimp only)

theorem heatSecond_only (s : State) : Only 2098616 s (heatSecond s) := by
  unfold heatSecond
  try dsimp only
  repeat' (first
    | with_reducible exact Only.refl _ _
    | with_reducible assumption
    | decide
    | (with_reducible
        first
          | refine Only.ite ?_ ?_ | refine Only.ite_snd ?_ ?_ | refine Only.ite_fst ?_ ?_
          | refine Only.foldl _ (fun _ _ _ => ?_) _ ?_ | refine Only.foldl_snd _ (fun _ _ _ => ?_) _ ?_
          | refine Only.foldl_fst _ (fun _ _ _ => ?_) _ ?_ | apply Only.app (heatCalc_only ..)
          | apply Only.app (modLdg_only ..))
    | split
    | dsimp only)

theorem modMaster_only (m : Nat) (f : MbusMaster → MbusMaster) (s : State) : Only 1024 s (modMaster m f s) := by
  unfold modMaster
  try dsimp only
  repeat' (first
    | with_reducible exact Only.refl _ _
    | with_reducible assumption
    | decide
    | (with_reducible
        first
          | apply Only.app (modLdg_only ..))
    | split
    | dsimp only)

theorem modSlave_only (k : Nat) (f : MbusSlave → MbusSlave) (s : State) : Only 1024 s (modSlave k f s) := by
  unfold modSlave
  try dsimp only
  repeat' (first
    | with_reducible exact Only.refl _ _
    | with_reducible assumption
    | decide
    | (with_reducible
        first
          | apply Only.app (modLdg_only ..))
    | split
    | dsimp only)

theorem mbusSend_only (m : Nat) (s : State) : Only 1024 s (mbusSend m s) := by
  unfold mbusSend
  try dsimp only
  repeat' (first
    | with_reducible exact Only.refl _ _
    | with_reducible assumption
    | decide
    | (with_reducible
        first
          | apply Only.app (modMaster_only ..))
    | split
    | dsimp only)

theorem mbusStage_only (m : Nat) (st : MbusStage) (s : State) : Only 1024 s (mbusStage m st s) := by
  unfold mbusStage
  try dsimp only
  repeat' (first
    | with_reducible exact Only.refl _ _
    | with_reducible assumption
    | decide
    | (with_reducible
        first
          | apply Only.app (mbusSend_only ..) | apply Only.app (modMaster_only ..))
    | split
    | dsimp only)

theorem mbusNext_only (m : Nat) (s : State) : Only 1024 s (mbusNext m s) := by
  unfold mbusNext
  try dsimp only
  repeat' (first
    | with_reducible exact Only.refl _ _
    | with_reducible assumption
    | decide
    | (with_reducible
        first
          | apply Only.app (mbusStage_only ..) | apply Only.app (modMaster_only ..))
    | split
    | dsimp only)

theorem roundStart_only (m : Nat) (s : State) : Only 1024 s (roundStart m s) := by
  unfold roundStart
  try dsimp only
  repeat' (first
    | with_reducible exact Only.refl _ _
    | with_reducible assumption
    | decide
    | (with_reducible
        first
          | apply Only.app (mbusNext_only ..) | apply Only.app (modMaster_only ..))
    | split
    | dsimp only)

theorem roundLate_only (m : Nat) (s : State) : Only 1024 s (roundLate m s) := by
  unfold roundLate
  try dsimp only
  repeat' (first
    | with_reducible exact Only.refl _ _
    | with_reducible assumption
    | decide
    | (with_reducible
        first
          | refine Only.ite ?_ ?_ | refine Only.ite_snd ?_ ?_ | refine Only.ite_fst ?_ ?_
          | apply Only.app (roundStart_only ..))
    | split
    | dsimp only)

theorem pollRound_only (m : Nat) (s : State) : Only 1024 s (pollRound m s) := by
  unfold pollRound
  try dsimp only
  repeat' (first
    | with_reducible exact Only.refl _ _
    | with_reducible assumption
    | decide
    | (with_reducible
        first
          | refine Only.ite ?_ ?_ | refine Only.ite_snd ?_ ?_ | refine Only.ite_fst ?_ ?_
          | apply Only.app (modMaster_only ..) | apply Only.app (roundStart_only ..))
    | split
    | dsimp only)

theorem pollFailed_only (m k : Nat) (s : State) : Only 2098616 s (pollFailed m k s) := by
  unfold pollFailed
  try dsimp only
  repeat' (first
    | with_reducible exact Only.refl _ _
    | with_reducible assumption
    | decide
    | (with_reducible
        first
          | refine Only.ite ?_ ?_ | refine Only.ite_snd ?_ ?_ | refine Only.ite_fst ?_ ?_
          | apply Only.app (appendLog_only ..) | apply Only.app (ldgFlag_only ..) | apply Only.app (ldgNotice_only ..)
          | apply Only.app (mbusNext_only ..) | apply Only.app (modSlave_only ..) | apply Only.app (roundLate_only ..))
    | split
    | dsimp only)

theorem replyTimeout_only (m : Nat) (s : State) : Only 2098616 s (replyTimeout m s) := by
  unfold replyTimeout
  try dsimp only
  repeat' (first
    | with_reducible exact Only.refl _ _
    | with_reducible assumption
    | decide
    | (with_reducible
        first
          | refine Only.ite ?_ ?_ | refine Only.ite_snd ?_ ?_ | refine Only.ite_fst ?_ ?_
          | apply Only.app (mbusSend_only ..) | apply Only.app (modMaster_only ..)
          | apply Only.app (pollFailed_only ..))
    | split
    | dsimp only)

theorem creditReading_only (k : Nat) (water : Bool) (x : Int) (s : State) : Only 2098208 s (creditReading k water x s).1 := by
  unfold creditReading
  try dsimp only
  repeat' (first
    | with_reducible exact Only.refl _ _
    | with_reducible assumption
    | decide
    | (with_reducible
        first
          | refine Only.ite ?_ ?_ | refine Only.ite_snd ?_ ?_ | refine Only.ite_fst ?_ ?_
          | apply Only.app (appendLog_only ..) | apply Only.app (ldgAdd_only ..) | apply Only.app (ldgFlag_only ..)
          | apply Only.app (modSlave_only ..))
    | split
    | dsimp only)

theorem pollOk_only (m k : Nat) (v : MbusVals) (s : State) : Only 2098208 s (pollOk m k v s).1 := by
  unfold pollOk
  try dsimp only
  repeat' (first
    | (simp only [↓Only.mk_guard]; with_reducible refine Only.of_mk rfl ?_)
    | with_reducible exact Only.refl _ _
    | with_reducible assumption
    | decide
    | (with_reducible
        first
          | refine Only.ite ?_ ?_ | refine Only.ite_snd ?_ ?_ | refine Only.ite_fst ?_ ?_
          | apply Only.app (appendLog_only ..) | apply Only.app (creditReading_only ..)
          | apply Only.app (mbusNext_only ..) | apply Only.app (modMaster_only ..) | apply Only.app (modSlave_only ..)
          | apply Only.app (roundLate_only ..))
    | split
    | dsimp only)

theorem mbusReply_only (m : Nat) (f : List Byte) (s : State) : Only 2098616 s (mbusReply m f s).1 := by
  unfold mbusReply
  try dsimp only
  repeat' (first
    | with_reducible exact Only.refl _ _
    | with_reducible assumption
    | decide
    | (with_reducible
        first
          | refine Only.ite ?_ ?_ | refine Only.ite_snd ?_ ?_ | refine Only.ite_fst ?_ ?_
          | apply Only.app (mbusStage_only ..) | apply Only.app (modMaster_only ..)
          | apply Only.app (modSlave_only ..) | apply Only.app (pollFailed_only ..) | apply Only.app (pollOk_only ..))
    | split
    | dsimp only)

theorem mbusCfg_only (m : Nat) (w : Word) (s : State) : Only 1024 s (mbusCfg m w s) := by
  unfold mbusCfg
  try dsimp only
  repeat' (first
    | with_reducible exact Only.refl _ _
    | with_reducible assumption
    | decide
    | (with_reducible
        first
          | refine Only.ite ?_ ?_ | refine Only.ite_snd ?_ ?_ | refine Only.ite_fst ?_ ?_
          | apply Only.app (modMaster_only ..))
    | split
    | dsimp only)

theorem searchDone_only (m : Nat) (found : List Word) (s : State) : Only 2098616 s (searchDone m found s) := by
  unfold searchDone
  try dsimp only
  repeat' (first
    | with_reducible exact Only.refl _ _
    | with_reducible assumption
    | decide
    | (with_reducible
        first
          | refine Only.ite ?_ ?_ | refine Only.ite_snd ?_ ?_ | refine Only.ite_fst ?_ ?_
          | refine Only.foldl _ (fun _ _ _ => ?_) _ ?_ | refine Only.foldl_snd _ (fun _ _ _ => ?_) _ ?_
          | refine Only.foldl_fst _ (fun _ _ _ => ?_) _ ?_ | apply Only.app (appendLog_only ..)
          | apply Only.app (ldgNotice_only ..) | apply Only.app (modMaster_only ..)
          | apply Only.app (roundLate_only ..))
    | split
    | dsimp only)

theorem ldgReadEffect_only (o : Nat) (s : State) : Only 1024 s (ldgReadEffect o s) := by
  unfold ldgReadEffect
  try dsimp only
  repeat' (first
    | with_reducible exact Only.refl _ _
    | with_reducible assumption
    | decide
    | (with_reducible
        first
          | refine Only.ite ?_ ?_ | refine Only.ite_snd ?_ ?_ | refine Only.ite_fst ?_ ?_
          | apply Only.app (modMaster_only ..))
    | split
    | dsimp only)

theorem ldgCtl_only (w : Word) (s : State) : Only 2098176 s (ldgCtl w s) := by
  unfold ldgCtl
  try dsimp only
  repeat' (first
    | with_reducible exact Only.refl _ _
    | with_reducible assumption
    | decide
    | (with_reducible
        first
          | refine Only.ite ?_ ?_ | refine Only.ite_snd ?_ ?_ | refine Only.ite_fst ?_ ?_
          | apply Only.app (interimSnap_only ..) | apply Only.app (ldgApply_only ..))
    | split
    | dsimp only)

theorem ldgWrite_only (o : Nat) (w : Word) (s : State) : Only 2098176 s (ldgWrite o w s) := by
  unfold ldgWrite
  try dsimp only
  repeat' (first
    | with_reducible exact Only.refl _ _
    | with_reducible assumption
    | decide
    | (with_reducible
        first
          | refine Only.ite ?_ ?_ | refine Only.ite_snd ?_ ?_ | refine Only.ite_fst ?_ ?_
          | apply Only.app (ldgCtl_only ..) | apply Only.app (mbusCfg_only ..) | apply Only.app (modLdg_only ..))
    | split
    | dsimp only)

theorem ldgNightReset_only (s : State) : Only 1024 s (ldgNightReset s) := by
  unfold ldgNightReset
  try dsimp only
  repeat' (first
    | with_reducible exact Only.refl _ _
    | with_reducible assumption
    | decide
    | (with_reducible
        first
          | apply Only.app (modLdg_only ..))
    | split
    | dsimp only)

theorem ldgIoReset_only (s : State) : Only 1024 s (ldgIoReset s) := by
  unfold ldgIoReset
  try dsimp only
  repeat' (first
    | with_reducible exact Only.refl _ _
    | with_reducible assumption
    | decide
    | (with_reducible
        first
          | apply Only.app (modLdg_only ..))
    | split
    | dsimp only)

theorem ldgLoad_only (i : Nat) (s : State) : Only 2097184 s (ldgLoad i s) := by
  unfold ldgLoad
  try dsimp only
  repeat' (first
    | (simp only [↓Only.mk_guard]; with_reducible refine Only.of_mk rfl ?_ (pm := ?_))
    | with_reducible exact Only.refl _ _
    | with_reducible assumption
    | decide
    | (with_reducible
        first
          | refine Only.ite ?_ ?_ | refine Only.ite_snd ?_ ?_ | refine Only.ite_fst ?_ ?_
          | apply Only.app (appendLog_only ..) | apply Only.app (ldgFlag_only ..))
    | (intro h; (repeat' (with_reducible first | exact h | assumption | refine Memory.writeBytes_wf _ _ ?_ | refine Memory.write_wf _ _ ?_ | split | dsimp only)); done)
    | split
    | dsimp only)

theorem ldgStep8_only (warm : Bool) (s : State) : Only 2098208 s (ldgStep8 warm s) := by
  unfold ldgStep8
  try dsimp only
  repeat' (first
    | with_reducible exact Only.refl _ _
    | with_reducible assumption
    | decide
    | (with_reducible
        first
          | refine Only.ite ?_ ?_ | refine Only.ite_snd ?_ ?_ | refine Only.ite_fst ?_ ?_
          | refine Only.foldl _ (fun _ _ _ => ?_) _ ?_ | refine Only.foldl_snd _ (fun _ _ _ => ?_) _ ?_
          | refine Only.foldl_fst _ (fun _ _ _ => ?_) _ ?_ | apply Only.app (ldgApply_only ..)
          | apply Only.app (ldgLoad_only ..) | apply Only.app (ldgTakeEffect_only ..)
          | apply Only.app (modLdg_only ..))
    | split
    | dsimp only)

theorem ldgDormant_only (s : State) : Only 1024 s (ldgDormant s) := by
  unfold ldgDormant
  try dsimp only
  repeat' (first
    | with_reducible exact Only.refl _ _
    | with_reducible assumption
    | decide
    | (with_reducible
        first
          | apply Only.app (modLdg_only ..))
    | split
    | dsimp only)

end Sys2Proof.Machine
end

