-- ==== Sys2Proof/Laws/OnlyLiftOps.lean ====
section
/-! SUPPORT. What each operation of Machine/LiftOps.lean can touch. -/
set_option linter.all false
set_option Elab.async false
namespace Sys2Proof.Machine
open Sys2Proof

theorem modGrp_only (g : Nat) (f : Group → Group) (s : State) : Only 2048 s (modGrp g f s) := by
  unfold modGrp
  try dsimp only
  repeat' (first
    | with_reducible exact Only.refl _ _
    | with_reducible assumption
    | decide
    | (with_reducible
        first
          | apply Only.app (modLift_only ..))
    | split
    | dsimp only)

theorem liftEvent_only (c cause : Nat) (st : Status) (req : Nat) (s : State) : Only 2097560 s (liftEvent c cause st req s) := by
  unfold liftEvent
  try dsimp only
  repeat' (first
    | with_reducible exact Only.refl _ _
    | with_reducible assumption
    | decide
    | (with_reducible
        first
          | apply Only.app (qEnqueue_only ..))
    | split
    | dsimp only)

theorem liftCue_only (c k : Nat) (s : State) : Only 2048 s (liftCue c k s) := by
  unfold liftCue
  try dsimp only
  repeat' (first
    | with_reducible exact Only.refl _ _
    | with_reducible assumption
    | decide
    | (with_reducible
        first
          | apply Only.app (modLift_only ..))
    | split
    | dsimp only)

theorem addCall_only (c : Nat) (x : StopCall) (s : State) : Only 2048 s (addCall c x s) := by
  unfold addCall
  try dsimp only
  repeat' (first
    | with_reducible exact Only.refl _ _
    | with_reducible assumption
    | decide
    | (with_reducible
        first
          | refine Only.ite ?_ ?_ | refine Only.ite_snd ?_ ?_ | refine Only.ite_fst ?_ ?_
          | apply Only.app (modCar_only ..))
    | split
    | dsimp only)

theorem sendDispatch_only (g msg size : Nat) (dst : Option Nat) (recs : List (List Byte)) (s : State) : Only 524288 s (sendDispatch g msg size dst recs s) := by
  unfold sendDispatch
  try dsimp only
  repeat' (first
    | (simp only [↓Only.mk_guard]; with_reducible refine Only.of_mk rfl ?_)
    | with_reducible exact Only.refl _ _
    | with_reducible assumption
    | decide
    | (with_reducible
        first
          | refine Only.ite ?_ ?_ | refine Only.ite_snd ?_ ?_ | refine Only.ite_fst ?_ ?_)
    | split
    | dsimp only)

theorem sendBatches_only  : ∀ (f : Nat) (n : Nat) (g : Nat) (msg : Nat) (size : Nat) (dst : Option Nat) (recs : List (List Byte)) (s : State), Only 524288 s (sendBatches  f n g msg size dst recs s)
  | 0, _, _, _, _, _, _, s => by
    unfold sendBatches
    exact Only.refl _ _
  | f + 1, n, g, msg, size, dst, recs, s => by
    unfold sendBatches
    try dsimp only
    repeat' (first
      | with_reducible exact Only.refl _ _
      | with_reducible assumption
      | decide
      | (with_reducible
          first
            | refine Only.ite ?_ ?_ | refine Only.ite_snd ?_ ?_ | refine Only.ite_fst ?_ ?_
            | apply Only.app (sendDispatch_only ..) | apply Only.app (sendBatches_only ..))
      | split
      | dsimp only)

theorem countDemand_only (g j k : Nat) (s : State) : Only 2048 s (countDemand g j k s) := by
  unfold countDemand
  try dsimp only
  repeat' (first
    | with_reducible exact Only.refl _ _
    | with_reducible assumption
    | decide
    | (with_reducible
        first
          | apply Only.app (modGrp_only ..))
    | split
    | dsimp only)

theorem giveCall_only (c id : Nat) (x : StopCall) (s : State) : Only 2048 s (giveCall c id x s) := by
  unfold giveCall
  try dsimp only
  repeat' (first
    | with_reducible exact Only.refl _ _
    | with_reducible assumption
    | decide
    | (with_reducible
        first
          | refine Only.ite ?_ ?_ | refine Only.ite_snd ?_ ?_ | refine Only.ite_fst ?_ ?_
          | apply Only.app (addCall_only ..) | apply Only.app (modGrp_only ..))
    | split
    | dsimp only)

theorem reopen_only (c : Nat) (s : State) : Only 2048 s (reopen c s) := by
  unfold reopen
  try dsimp only
  repeat' (first
    | (simp only [↓Only.mk_guard]; with_reducible refine Only.of_mk rfl ?_)
    | with_reducible exact Only.refl _ _
    | with_reducible assumption
    | decide
    | (with_reducible
        first
          | refine Only.ite ?_ ?_ | refine Only.ite_snd ?_ ?_ | refine Only.ite_fst ?_ ?_
          | apply Only.app (modCar_only ..))
    | split
    | dsimp only)

theorem registerCall_only (g : Nat) (isDest : Bool) (origin destDir side pass : Nat) (s : State) : Only 526336 s (registerCall g isDest origin destDir side pass s).2 := by
  unfold registerCall
  try dsimp only
  repeat' (first
    | with_reducible exact Only.refl _ _
    | with_reducible assumption
    | decide
    | (with_reducible
        first
          | refine Only.ite ?_ ?_ | refine Only.ite_snd ?_ ?_ | refine Only.ite_fst ?_ ?_
          | apply Only.app (countDemand_only ..) | apply Only.app (giveCall_only ..) | apply Only.app (modGrp_only ..)
          | apply Only.app (modLift_only ..) | apply Only.app (reopen_only ..) | apply Only.app (sendDispatch_only ..))
    | split
    | dsimp only)

theorem registerCarCall_only (c j side : Nat) (s : State) : Only 2048 s (registerCarCall c j side s).2 := by
  unfold registerCarCall
  try dsimp only
  repeat' (first
    | with_reducible exact Only.refl _ _
    | with_reducible assumption
    | decide
    | (with_reducible
        first
          | refine Only.ite ?_ ?_ | refine Only.ite_snd ?_ ?_ | refine Only.ite_fst ?_ ?_
          | apply Only.app (addCall_only ..) | apply Only.app (reopen_only ..))
    | split
    | dsimp only)

theorem sourceCall_only {j src : Nat} {seq : Option Nat} {s x : State} {f : State → Bool × State} (hj : 2048 ||| j = j)
    (hf : ∀ y, Only j s y → Only j s (f y).2) (h : Only j s x) : Only j s (sourceCall src seq f x).2 := by
  unfold sourceCall
  split
  · exact hf _ h
  · refine Only.ite_snd h (hf _ ?_)
    exact (modLift_only _ _).app hj h

theorem takeReport_only (g : Nat) (r : CarReport) (s : State) : Only 2048 s (takeReport g r s) := by
  unfold takeReport
  try dsimp only
  repeat' (first
    | with_reducible exact Only.refl _ _
    | with_reducible assumption
    | decide
    | (with_reducible
        first
          | refine Only.ite ?_ ?_ | refine Only.ite_snd ?_ ?_ | refine Only.ite_fst ?_ ?_
          | refine Only.foldl _ (fun _ _ _ => ?_) _ ?_ | refine Only.foldl_snd _ (fun _ _ _ => ?_) _ ?_
          | refine Only.foldl_fst _ (fun _ _ _ => ?_) _ ?_ | apply Only.app (countDemand_only ..)
          | apply Only.app (modGrp_only ..))
    | split
    | dsimp only)

theorem receiveAssign_only (c : Nat) (a : Assignment) (x : Option StopCall) (s : State) : Only 2048 s (receiveAssign c a x s) := by
  unfold receiveAssign
  try dsimp only
  repeat' (first
    | with_reducible exact Only.refl _ _
    | with_reducible assumption
    | decide
    | (with_reducible
        first
          | refine Only.ite ?_ ?_ | refine Only.ite_snd ?_ ?_ | refine Only.ite_fst ?_ ?_
          | apply Only.app (addCall_only ..) | apply Only.app (modCar_only ..) | apply Only.app (reopen_only ..))
    | split
    | dsimp only)

theorem dropCall_only (g id : Nat) (keep : Option Nat) (s : State) : Only 2048 s (dropCall g id keep s) := by
  unfold dropCall
  try dsimp only
  repeat' (first
    | with_reducible exact Only.refl _ _
    | with_reducible assumption
    | decide
    | (with_reducible
        first
          | refine Only.ite ?_ ?_ | refine Only.ite_snd ?_ ?_ | refine Only.ite_fst ?_ ?_
          | refine Only.foldl _ (fun _ _ _ => ?_) _ ?_ | refine Only.foldl_snd _ (fun _ _ _ => ?_) _ ?_
          | refine Only.foldl_fst _ (fun _ _ _ => ?_) _ ?_ | apply Only.app (modCar_only ..))
    | split
    | dsimp only)

theorem applyAssign_only (g : Nat) (a : Assignment) (s : State) : Only 2048 s (applyAssign g a s) := by
  unfold applyAssign
  try dsimp only
  repeat' (first
    | with_reducible exact Only.refl _ _
    | with_reducible assumption
    | decide
    | (with_reducible
        first
          | refine Only.ite ?_ ?_ | refine Only.ite_snd ?_ ?_ | refine Only.ite_fst ?_ ?_
          | apply Only.app (dropCall_only ..) | apply Only.app (receiveAssign_only ..))
    | split
    | dsimp only)

theorem cycleSample_only (s : State) : Only 526336 s (cycleSample s) := by
  unfold cycleSample
  try dsimp only
  repeat' (first
    | with_reducible exact Only.refl _ _
    | with_reducible assumption
    | decide
    | (with_reducible
        first
          | refine Only.ite ?_ ?_ | refine Only.ite_snd ?_ ?_ | refine Only.ite_fst ?_ ?_
          | refine Only.foldl _ (fun _ _ _ => ?_) _ ?_ | refine Only.foldl_snd _ (fun _ _ _ => ?_) _ ?_
          | refine Only.foldl_fst _ (fun _ _ _ => ?_) _ ?_ | apply Only.app (modCar_only ..)
          | apply Only.app (modGrp_only ..) | apply Only.app (sendBatches_only ..)
          | apply Only.app (takeReport_only ..))
    | split
    | dsimp only)

theorem publishCounts_only (g : Nat) (s : State) : Only 526336 s (publishCounts g s) := by
  unfold publishCounts
  try dsimp only
  repeat' (first
    | with_reducible exact Only.refl _ _
    | with_reducible assumption
    | decide
    | (with_reducible
        first
          | refine Only.ite ?_ ?_ | refine Only.ite_snd ?_ ?_ | refine Only.ite_fst ?_ ?_
          | apply Only.app (modGrp_only ..) | apply Only.app (sendDispatch_only ..))
    | split
    | dsimp only)

theorem cycleDecide_only (s : State) : Only 526336 s (cycleDecide s) := by
  unfold cycleDecide
  try dsimp only
  repeat' (first
    | with_reducible exact Only.refl _ _
    | with_reducible assumption
    | decide
    | (with_reducible
        first
          | refine Only.ite ?_ ?_ | refine Only.ite_snd ?_ ?_ | refine Only.ite_fst ?_ ?_
          | refine Only.foldl _ (fun _ _ _ => ?_) _ ?_ | refine Only.foldl_snd _ (fun _ _ _ => ?_) _ ?_
          | refine Only.foldl_fst _ (fun _ _ _ => ?_) _ ?_ | apply Only.app (applyAssign_only ..)
          | apply Only.app (modGrp_only ..) | apply Only.app (publishCounts_only ..)
          | apply Only.app (sendBatches_only ..))
    | split
    | dsimp only)

theorem dispatchCycle_only (decide' : Bool) (s : State) : Only 526336 s (dispatchCycle decide' s) := by
  unfold dispatchCycle
  try dsimp only
  repeat' (first
    | with_reducible exact Only.refl _ _
    | with_reducible assumption
    | decide
    | (with_reducible
        first
          | refine Only.ite ?_ ?_ | refine Only.ite_snd ?_ ?_ | refine Only.ite_fst ?_ ?_
          | apply Only.app (cycleDecide_only ..) | apply Only.app (cycleSample_only ..))
    | split
    | dsimp only)

theorem islandFallback_only (g : Nat) (s : State) : Only 2048 s (islandFallback g s) := by
  unfold islandFallback
  try dsimp only
  repeat' (first
    | with_reducible exact Only.refl _ _
    | with_reducible assumption
    | decide
    | (with_reducible
        first
          | refine Only.ite ?_ ?_ | refine Only.ite_snd ?_ ?_ | refine Only.ite_fst ?_ ?_
          | apply Only.app (modGrp_only ..))
    | split
    | dsimp only)

theorem recvReport_only (p : List Byte) (s : State) : Only 2048 s (recvReport p s) := by
  unfold recvReport
  try dsimp only
  repeat' (first
    | with_reducible exact Only.refl _ _
    | with_reducible assumption
    | decide
    | (with_reducible
        first
          | refine Only.ite ?_ ?_ | refine Only.ite_snd ?_ ?_ | refine Only.ite_fst ?_ ?_
          | refine Only.foldl _ (fun _ _ _ => ?_) _ ?_ | refine Only.foldl_snd _ (fun _ _ _ => ?_) _ ?_
          | refine Only.foldl_fst _ (fun _ _ _ => ?_) _ ?_ | apply Only.app (takeReport_only ..))
    | split
    | dsimp only)

theorem recvCall_only (p : List Byte) (s : State) : Only 2048 s (recvCall p s) := by
  unfold recvCall
  try dsimp only
  repeat' (first
    | with_reducible exact Only.refl _ _
    | with_reducible assumption
    | decide
    | (with_reducible
        first
          | refine Only.ite ?_ ?_ | refine Only.ite_snd ?_ ?_ | refine Only.ite_fst ?_ ?_
          | refine Only.foldl _ (fun _ _ _ => ?_) _ ?_ | refine Only.foldl_snd _ (fun _ _ _ => ?_) _ ?_
          | refine Only.foldl_fst _ (fun _ _ _ => ?_) _ ?_ | apply Only.app (countDemand_only ..)
          | apply Only.app (modGrp_only ..) | apply Only.app (modLift_only ..))
    | split
    | dsimp only)

theorem recvAssign_only (p : List Byte) (s : State) : Only 2048 s (recvAssign p s) := by
  unfold recvAssign
  try dsimp only
  repeat' (first
    | with_reducible exact Only.refl _ _
    | with_reducible assumption
    | decide
    | (with_reducible
        first
          | refine Only.ite ?_ ?_ | refine Only.ite_snd ?_ ?_ | refine Only.ite_fst ?_ ?_
          | refine Only.foldl _ (fun _ _ _ => ?_) _ ?_ | refine Only.foldl_snd _ (fun _ _ _ => ?_) _ ?_
          | refine Only.foldl_fst _ (fun _ _ _ => ?_) _ ?_ | apply Only.app (applyAssign_only ..)
          | apply Only.app (modGrp_only ..))
    | split
    | dsimp only)

theorem recvClear_only (p : List Byte) (s : State) : Only 2048 s (recvClear p s) := by
  unfold recvClear
  try dsimp only
  repeat' (first
    | with_reducible exact Only.refl _ _
    | with_reducible assumption
    | decide
    | (with_reducible
        first
          | refine Only.foldl _ (fun _ _ _ => ?_) _ ?_ | refine Only.foldl_snd _ (fun _ _ _ => ?_) _ ?_
          | refine Only.foldl_fst _ (fun _ _ _ => ?_) _ ?_ | apply Only.app (modGrp_only ..))
    | split
    | dsimp only)

theorem recvCounts_only (p : List Byte) (s : State) : Only 2048 s (recvCounts p s) := by
  unfold recvCounts
  try dsimp only
  repeat' (first
    | with_reducible exact Only.refl _ _
    | with_reducible assumption
    | decide
    | (with_reducible
        first
          | apply Only.app (modGrp_only ..))
    | split
    | dsimp only)

theorem clearCall_only (g id : Nat) (s : State) : Only 526336 s (clearCall g id s) := by
  unfold clearCall
  try dsimp only
  repeat' (first
    | with_reducible exact Only.refl _ _
    | with_reducible assumption
    | decide
    | (with_reducible
        first
          | refine Only.ite ?_ ?_ | refine Only.ite_snd ?_ ?_ | refine Only.ite_fst ?_ ?_
          | apply Only.app (modGrp_only ..) | apply Only.app (sendDispatch_only ..))
    | split
    | dsimp only)

end Sys2Proof.Machine
end

