-- ==== Sys2Proof/Laws/OnlyBsOps.lean ====
section
/-! SUPPORT. What each operation of Machine/BsOps.lean can touch. -/
set_option linter.all false
set_option Elab.async false
namespace Sys2Proof.Machine
open Sys2Proof

theorem modBs_only (f : BsState → BsState) (s : State) : Only 32768 s (modBs f s) := by
  unfold modBs
  try dsimp only
  repeat' (first
    | (simp only [↓Only.mk_guard]; with_reducible refine Only.of_mk rfl ?_)
    | with_reducible exact Only.refl _ _
    | with_reducible assumption
    | decide
    | split
    | dsimp only)

theorem modVoice_only (v : Nat) (f : Voice → Voice) (s : State) : Only 32768 s (modVoice v f s) := by
  unfold modVoice
  try dsimp only
  repeat' (first
    | with_reducible exact Only.refl _ _
    | with_reducible assumption
    | decide
    | (with_reducible
        first
          | apply Only.app (modBs_only ..))
    | split
    | dsimp only)

theorem bsEvent_only (typ : Nat) (st : Status) (handle req : Nat) (s : State) : Only 2097560 s (bsEvent typ st handle req s) := by
  unfold bsEvent
  try dsimp only
  repeat' (first
    | with_reducible exact Only.refl _ _
    | with_reducible assumption
    | decide
    | (with_reducible
        first
          | refine Only.ite ?_ ?_ | refine Only.ite_snd ?_ ?_ | refine Only.ite_fst ?_ ?_
          | apply Only.app (qEnqueue_only ..))
    | split
    | dsimp only)

theorem ackLead_only  : ∀ (f : Nat) (s : State), Only 33176 s (ackLead  f s)
  | 0, s => by
    unfold ackLead
    exact Only.refl _ _
  | f + 1, s => by
    unfold ackLead
    try dsimp only
    repeat' (first
      | with_reducible exact Only.refl _ _
      | with_reducible assumption
      | decide
      | (with_reducible
          first
            | apply Only.app (modBs_only ..) | apply Only.app (qAck_only ..) | apply Only.app (ackLead_only ..))
      | split
      | dsimp only)

theorem cueDone_only (src : BsSrc) (s : State) : Only 33176 s (cueDone src s) := by
  unfold cueDone
  try dsimp only
  repeat' (first
    | with_reducible exact Only.refl _ _
    | with_reducible assumption
    | decide
    | (with_reducible
        first
          | refine Only.ite ?_ ?_ | refine Only.ite_snd ?_ ?_ | refine Only.ite_fst ?_ ?_
          | apply Only.app (ackLead_only ..) | apply Only.app (modBs_only ..))
    | split
    | dsimp only)

theorem discardReq_only (r : StartReq) (st : Status) (s : State) : Only 2130328 s (discardReq r st s) := by
  unfold discardReq
  try dsimp only
  repeat' (first
    | with_reducible exact Only.refl _ _
    | with_reducible assumption
    | decide
    | (with_reducible
        first
          | apply Only.app (bsEvent_only ..) | apply Only.app (cueDone_only ..))
    | split
    | dsimp only)

theorem countRefuse_only (s : State) : Only 32768 s (countRefuse s) := by
  unfold countRefuse
  try dsimp only
  repeat' (first
    | with_reducible exact Only.refl _ _
    | with_reducible assumption
    | decide
    | (with_reducible
        first
          | apply Only.app (modBs_only ..))
    | split
    | dsimp only)

theorem freeVoice_only (v : Nat) (s : State) : Only 32768 s (freeVoice v s) := by
  unfold freeVoice
  try dsimp only
  repeat' (first
    | with_reducible exact Only.refl _ _
    | with_reducible assumption
    | decide
    | (with_reducible
        first
          | apply Only.app (modVoice_only ..))
    | split
    | dsimp only)

theorem endEvent_only (typ : Nat) (st : Status) (h : Nat) (r : StartReq) (s : State) : Only 2130328 s (endEvent typ st h r s) := by
  unfold endEvent
  try dsimp only
  repeat' (first
    | (simp only [↓Only.mk_guard]; with_reducible refine Only.of_mk rfl ?_)
    | with_reducible exact Only.refl _ _
    | with_reducible assumption
    | decide
    | (with_reducible
        first
          | refine Only.ite ?_ ?_
          | refine Only.ite_snd ?_ ?_
          | refine Only.ite_fst ?_ ?_
          | apply Only.app (bsEvent_only ..))
    | split
    | dsimp only)

theorem endVoice_only (v : Nat) (st : Status) (s : State) : Only 2130328 s (endVoice v st s) := by
  unfold endVoice
  try dsimp only
  repeat' (first
    | (simp only [↓Only.mk_guard]; with_reducible refine Only.of_mk rfl ?_)
    | with_reducible exact Only.refl _ _
    | with_reducible assumption
    | decide
    | (with_reducible
        first
          | refine Only.ite ?_ ?_
          | refine Only.ite_snd ?_ ?_
          | refine Only.ite_fst ?_ ?_
          | apply Only.app (freeVoice_only ..)
          | apply Only.app (endEvent_only ..))
    | split
    | dsimp only)

theorem dropNext_only (v : Nat) (st : Status) (s : State) : Only 2130328 s (dropNext v st s) := by
  unfold dropNext
  try dsimp only
  repeat' (first
    | (simp only [↓Only.mk_guard]; with_reducible refine Only.of_mk rfl ?_)
    | with_reducible exact Only.refl _ _
    | with_reducible assumption
    | decide
    | (with_reducible
        first
          | refine Only.ite ?_ ?_
          | refine Only.ite_snd ?_ ?_
          | refine Only.ite_fst ?_ ?_
          | apply Only.app (cueDone_only ..)
          | apply Only.app (endEvent_only ..)
          | apply Only.app (modVoice_only ..))
    | split
    | dsimp only)

theorem rampVoice_only (v n : Nat) (s : State) : Only 2130328 s (rampVoice v n s) := by
  unfold rampVoice
  try dsimp only
  repeat' (first
    | (simp only [↓Only.mk_guard]; with_reducible refine Only.of_mk rfl ?_)
    | with_reducible exact Only.refl _ _
    | with_reducible assumption
    | decide
    | (with_reducible
        first
          | refine Only.ite ?_ ?_
          | refine Only.ite_snd ?_ ?_
          | refine Only.ite_fst ?_ ?_
          | apply Only.app (dropNext_only ..)
          | apply Only.app (endVoice_only ..)
          | apply Only.app (modVoice_only ..))
    | split
    | dsimp only)

theorem placeIn_only (v : Nat) (r : StartReq) (s : State) : Only 32768 s (placeIn v r s) := by
  unfold placeIn
  try dsimp only
  repeat' (first
    | with_reducible exact Only.refl _ _
    | with_reducible assumption
    | decide
    | (with_reducible
        first
          | apply Only.app (modVoice_only ..))
    | split
    | dsimp only)

theorem stealFor_only (v : Nat) (r : StartReq) (s : State) : Only 2130328 s (stealFor v r s) := by
  unfold stealFor
  try dsimp only
  repeat' (first
    | (simp only [↓Only.mk_guard]; with_reducible refine Only.of_mk rfl ?_)
    | with_reducible exact Only.refl _ _
    | with_reducible assumption
    | decide
    | (with_reducible
        first
          | refine Only.ite ?_ ?_
          | refine Only.ite_snd ?_ ?_
          | refine Only.ite_fst ?_ ?_
          | apply Only.app (placeIn_only ..)
          | apply Only.app (endEvent_only ..)
          | apply Only.app (modVoice_only ..)
          | apply Only.app (modBs_only ..)
          | apply Only.app (rampVoice_only ..))
    | split
    | dsimp only)

theorem noteSeen_only (r : StartReq) (v : Nat) (s : State) : Only 32768 s (noteSeen r v s) := by
  unfold noteSeen
  try dsimp only
  repeat' (first
    | with_reducible exact Only.refl _ _
    | with_reducible assumption
    | decide
    | (with_reducible
        first
          | apply Only.app (modBs_only ..))
    | split
    | dsimp only)

theorem noteStarted_only (r : StartReq) (v : Nat) (s : State) : Only 2130328 s (noteStarted r v s) := by
  unfold noteStarted
  try dsimp only
  repeat' (first
    | with_reducible exact Only.refl _ _
    | with_reducible assumption
    | decide
    | (with_reducible
        first
          | refine Only.ite ?_ ?_ | refine Only.ite_snd ?_ ?_ | refine Only.ite_fst ?_ ?_
          | apply Only.app (bsEvent_only ..) | apply Only.app (noteSeen_only ..))
    | split
    | dsimp only)

theorem allocReq_only (r : StartReq) (s : State) : Only 2130328 s (allocReq r s) := by
  unfold allocReq
  try dsimp only
  repeat' (first
    | with_reducible exact Only.refl _ _
    | with_reducible assumption
    | decide
    | (with_reducible
        first
          | refine Only.ite ?_ ?_ | refine Only.ite_snd ?_ ?_ | refine Only.ite_fst ?_ ?_
          | apply Only.app (countRefuse_only ..) | apply Only.app (discardReq_only ..)
          | apply Only.app (modBs_only ..) | apply Only.app (noteStarted_only ..) | apply Only.app (placeIn_only ..)
          | apply Only.app (stealFor_only ..))
    | split
    | dsimp only)

theorem drainP7_only  : ∀ (f : Nat) (s : State), Only 2130328 s (drainP7  f s)
  | 0, s => by
    unfold drainP7
    exact Only.refl _ _
  | f + 1, s => by
    unfold drainP7
    try dsimp only
    repeat' (first
      | with_reducible exact Only.refl _ _
      | with_reducible assumption
      | decide
      | (with_reducible
          first
            | apply Only.app (modBs_only ..) | apply Only.app (noteStarted_only ..) | apply Only.app (placeIn_only ..)
            | apply Only.app (drainP7_only ..))
      | split
      | dsimp only)

theorem p7Timeout_only (s : State) : Only 2130328 s (p7Timeout s) := by
  unfold p7Timeout
  try dsimp only
  repeat' (first
    | with_reducible exact Only.refl _ _
    | with_reducible assumption
    | decide
    | (with_reducible
        first
          | refine Only.foldl _ (fun _ _ _ => ?_) _ ?_ | refine Only.foldl_snd _ (fun _ _ _ => ?_) _ ?_
          | refine Only.foldl_fst _ (fun _ _ _ => ?_) _ ?_ | apply Only.app (countRefuse_only ..)
          | apply Only.app (discardReq_only ..) | apply Only.app (modBs_only ..))
    | split
    | dsimp only)

theorem startOver_only (r : StartReq) (s : State) : Only 2130328 s (startOver r s) := by
  unfold startOver
  try dsimp only
  repeat' (first
    | with_reducible exact Only.refl _ _
    | with_reducible assumption
    | decide
    | (with_reducible
        first
          | refine Only.foldl _ (fun _ _ _ => ?_) _ ?_ | refine Only.foldl_snd _ (fun _ _ _ => ?_) _ ?_
          | refine Only.foldl_fst _ (fun _ _ _ => ?_) _ ?_ | apply Only.app (allocReq_only ..)
          | apply Only.app (rampVoice_only ..))
    | split
    | dsimp only)

theorem submit_only (r : StartReq) (s : State) : Only 2130328 s (submit r s) := by
  unfold submit
  try dsimp only
  repeat' (first
    | with_reducible exact Only.refl _ _
    | with_reducible assumption
    | decide
    | (with_reducible
        first
          | refine Only.ite ?_ ?_ | refine Only.ite_snd ?_ ?_ | refine Only.ite_fst ?_ ?_
          | apply Only.app (allocReq_only ..) | apply Only.app (countRefuse_only ..)
          | apply Only.app (cueDone_only ..) | apply Only.app (discardReq_only ..) | apply Only.app (modBs_only ..)
          | apply Only.app (startOver_only ..))
    | split
    | dsimp only)

theorem startWaiting_only (s : State) : Only 2130328 s (startWaiting s) := by
  unfold startWaiting
  try dsimp only
  repeat' (first
    | with_reducible exact Only.refl _ _
    | with_reducible assumption
    | decide
    | (with_reducible
        first
          | refine Only.ite ?_ ?_ | refine Only.ite_snd ?_ ?_ | refine Only.ite_fst ?_ ?_
          | refine Only.foldl _ (fun _ _ _ => ?_) _ ?_ | refine Only.foldl_snd _ (fun _ _ _ => ?_) _ ?_
          | refine Only.foldl_fst _ (fun _ _ _ => ?_) _ ?_ | apply Only.app (allocReq_only ..)
          | apply Only.app (modBs_only ..))
    | split
    | dsimp only)

theorem sendCue_only (cue car prio t : Nat) (s : State) : Only 524288 s (sendCue cue car prio t s) := by
  unfold sendCue
  try dsimp only
  repeat' (first
    | (simp only [↓Only.mk_guard]; with_reducible refine Only.of_mk rfl ?_)
    | with_reducible exact Only.refl _ _
    | with_reducible assumption
    | decide
    | (with_reducible
        first
          | refine Only.ite ?_ ?_ | refine Only.ite_snd ?_ ?_ | refine Only.ite_fst ?_ ?_)
    | split
    | dsimp only)

theorem resolveCue_only (cue car : Nat) (stamp : Option Nat) (seven isLocal : Bool) (src : BsSrc) (s : State) : Only 2654616 s (resolveCue cue car stamp seven isLocal src s) := by
  unfold resolveCue
  try dsimp only
  repeat' (first
    | with_reducible exact Only.refl _ _
    | with_reducible assumption
    | decide
    | (with_reducible
        first
          | refine Only.ite ?_ ?_ | refine Only.ite_snd ?_ ?_ | refine Only.ite_fst ?_ ?_
          | apply Only.app (bsEvent_only ..) | apply Only.app (cueDone_only ..) | apply Only.app (sendCue_only ..)
          | apply Only.app (submit_only ..))
    | split
    | dsimp only)

theorem cueEntry_only (k : Option CueSeen) (epoch seq cue car : Nat) (stamp : Option Nat) (seven isLocal : Bool) (src : BsSrc) (s : State) : Only 2654616 s (cueEntry k epoch seq cue car stamp seven isLocal src s) := by
  unfold cueEntry
  try dsimp only
  repeat' (first
    | with_reducible exact Only.refl _ _
    | with_reducible assumption
    | decide
    | (with_reducible
        first
          | apply Only.app (cueDone_only ..) | apply Only.app (modBs_only ..) | apply Only.app (resolveCue_only ..))
    | split
    | dsimp only)

theorem kerbCueEntry_only (s : State) : Only 2654616 s (kerbCueEntry s) := by
  unfold kerbCueEntry
  try dsimp only
  repeat' (first
    | with_reducible exact Only.refl _ _
    | with_reducible assumption
    | decide
    | (with_reducible
        first
          | refine Only.ite ?_ ?_ | refine Only.ite_snd ?_ ?_ | refine Only.ite_fst ?_ ?_
          | apply Only.app (cueEntry_only ..) | apply Only.app (modBs_only ..) | apply Only.app (qDequeue_only ..))
    | split
    | dsimp only)

theorem liftCueEntry_only (s : State) : Only 2656664 s (liftCueEntry s) := by
  unfold liftCueEntry
  try dsimp only
  repeat' (first
    | with_reducible exact Only.refl _ _
    | with_reducible assumption
    | decide
    | (with_reducible
        first
          | refine Only.ite ?_ ?_ | refine Only.ite_snd ?_ ?_ | refine Only.ite_fst ?_ ?_
          | apply Only.app (cueEntry_only ..) | apply Only.app (modLift_only ..))
    | split
    | dsimp only)

theorem releaseAt_only (v : Nat) (s : State) : Only 2130328 s (releaseAt v s) := by
  unfold releaseAt
  try dsimp only
  repeat' (first
    | (simp only [↓Only.mk_guard]; with_reducible refine Only.of_mk rfl ?_)
    | with_reducible exact Only.refl _ _
    | with_reducible assumption
    | decide
    | (with_reducible
        first
          | refine Only.ite ?_ ?_
          | refine Only.ite_snd ?_ ?_
          | refine Only.ite_fst ?_ ?_
          | apply Only.app (dropNext_only ..)
          | apply Only.app (endVoice_only ..)
          | apply Only.app (cueDone_only ..)
          | apply Only.app (modVoice_only ..))
    | split
    | dsimp only)

theorem beginVoice_only (v n : Nat) (r : StartReq) (s : State) : Only 32768 s (beginVoice v n r s) := by
  unfold beginVoice
  try dsimp only
  repeat' (first
    | with_reducible exact Only.refl _ _
    | with_reducible assumption
    | decide
    | (with_reducible
        first
          | refine Only.ite ?_ ?_ | refine Only.ite_snd ?_ ?_ | refine Only.ite_fst ?_ ?_
          | apply Only.app (modVoice_only ..))
    | split
    | dsimp only)

end Sys2Proof.Machine
end

