-- ==== Sys2Proof/Laws/OnlyBsMix.lean ====
section
/-! SUPPORT. What each operation of Machine/BsMix.lean can touch. -/
set_option linter.all false
set_option Elab.async false
namespace Sys2Proof.Machine
open Sys2Proof

theorem playEnds_only (v n : Nat) (s : State) : Only 2130328 s (playEnds v n s) := by
  unfold playEnds
  try dsimp only
  repeat' (first
    | with_reducible exact Only.refl _ _
    | with_reducible assumption
    | decide
    | (with_reducible
        first
          | refine Only.ite ?_ ?_ | refine Only.ite_snd ?_ ?_ | refine Only.ite_fst ?_ ?_
          | apply Only.app (endVoice_only ..) | apply Only.app (freeVoice_only ..) | apply Only.app (modVoice_only ..))
    | split
    | dsimp only)

theorem phraseFails_only (v : Nat) (s : State) : Only 2130328 s (phraseFails v s) := by
  unfold phraseFails
  try dsimp only
  repeat' (first
    | with_reducible exact Only.refl _ _
    | with_reducible assumption
    | decide
    | (with_reducible
        first
          | refine Only.ite ?_ ?_ | refine Only.ite_snd ?_ ?_ | refine Only.ite_fst ?_ ?_
          | apply Only.app (endVoice_only ..) | apply Only.app (freeVoice_only ..) | apply Only.app (modBs_only ..)
          | apply Only.app (modVoice_only ..))
    | split
    | dsimp only)

theorem startVoice_only (v n : Nat) (s : State) : Only 2130328 s (startVoice v n s).2 := by
  unfold startVoice
  try dsimp only
  repeat' (first
    | with_reducible exact Only.refl _ _
    | with_reducible assumption
    | decide
    | (with_reducible
        first
          | refine Only.ite ?_ ?_ | refine Only.ite_snd ?_ ?_ | refine Only.ite_fst ?_ ?_
          | apply Only.app (beginVoice_only ..) | apply Only.app (bsEvent_only ..) | apply Only.app (cueDone_only ..)
          | apply Only.app (endVoice_only ..) | apply Only.app (modBs_only ..) | apply Only.app (modVoice_only ..))
    | split
    | dsimp only)

theorem voiceBlock_only (v n : Nat) (feed : Option PhraseFeed) (s : State) : Only 2130328 s (voiceBlock v n feed s).2 := by
  unfold voiceBlock
  try dsimp only
  repeat' (first
    | with_reducible exact Only.refl _ _
    | with_reducible assumption
    | decide
    | (with_reducible
        first
          | refine Only.ite ?_ ?_ | refine Only.ite_snd ?_ ?_ | refine Only.ite_fst ?_ ?_
          | apply Only.app (endVoice_only ..) | apply Only.app (modBs_only ..) | apply Only.app (modVoice_only ..)
          | apply Only.app (phraseFails_only ..) | apply Only.app (playEnds_only ..)
          | apply Only.app (startVoice_only ..))
    | split
    | dsimp only)

theorem mixZone_only (z : Nat) (voices : List (Nat × List (Nat × Rat × Rat))) (paging : List (List Int)) (s : State) : Only 32768 s (mixZone z voices paging s) := by
  unfold mixZone
  try dsimp only
  repeat' (first
    | with_reducible exact Only.refl _ _
    | with_reducible assumption
    | decide
    | (with_reducible
        first
          | refine Only.ite ?_ ?_ | refine Only.ite_snd ?_ ?_ | refine Only.ite_fst ?_ ?_
          | refine Only.foldl _ (fun _ _ _ => ?_) _ ?_ | refine Only.foldl_snd _ (fun _ _ _ => ?_) _ ?_
          | refine Only.foldl_fst _ (fun _ _ _ => ?_) _ ?_ | apply Only.app (modBs_only ..))
    | split
    | dsimp only)

theorem shedCore_only (core : Nat) : ∀ (f : Nat) (s : State), Only 2130328 s (shedCore core f s)
  | 0, s => by
    unfold shedCore
    exact Only.refl _ _
  | f + 1, s => by
    unfold shedCore
    try dsimp only
    repeat' (first
      | with_reducible exact Only.refl _ _
      | with_reducible assumption
      | decide
      | (with_reducible
          first
            | refine Only.ite ?_ ?_ | refine Only.ite_snd ?_ ?_ | refine Only.ite_fst ?_ ?_
            | refine Only.foldl _ (fun _ _ _ => ?_) _ ?_ | refine Only.foldl_snd _ (fun _ _ _ => ?_) _ ?_
            | refine Only.foldl_fst _ (fun _ _ _ => ?_) _ ?_ | apply Only.app (modBs_only ..)
            | apply Only.app (rampVoice_only ..) | apply Only.app (shedCore_only ..))
      | split
      | dsimp only)

theorem markLost_only (v : Nat) (s : State) : Only 32768 s (markLost v s) := by
  unfold markLost
  try dsimp only
  repeat' (first
    | with_reducible exact Only.refl _ _
    | with_reducible assumption
    | decide
    | (with_reducible
        first
          | refine Only.ite ?_ ?_ | refine Only.ite_snd ?_ ?_ | refine Only.ite_fst ?_ ?_
          | apply Only.app (modBs_only ..))
    | split
    | dsimp only)

theorem loseVoice_only (v : Nat) (s : State) : Only 2130328 s (loseVoice v s) := by
  unfold loseVoice
  try dsimp only
  repeat' (first
    | with_reducible exact Only.refl _ _
    | with_reducible assumption
    | decide
    | (with_reducible
        first
          | refine Only.ite ?_ ?_ | refine Only.ite_snd ?_ ?_ | refine Only.ite_fst ?_ ?_
          | apply Only.app (allocReq_only ..) | apply Only.app (endVoice_only ..) | apply Only.app (markLost_only ..)
          | apply Only.app (modBs_only ..) | apply Only.app (modVoice_only ..) | apply Only.app (dropNext_only ..)
          | apply Only.app (releaseAt_only ..))
    | split
    | dsimp only)

theorem loseCore_only (core : Nat) (s : State) : Only 2130328 s (loseCore core s) := by
  unfold loseCore
  try dsimp only
  repeat' (first
    | with_reducible exact Only.refl _ _
    | with_reducible assumption
    | decide
    | (with_reducible
        first
          | refine Only.ite ?_ ?_ | refine Only.ite_snd ?_ ?_ | refine Only.ite_fst ?_ ?_
          | refine Only.foldl _ (fun _ _ _ => ?_) _ ?_ | refine Only.foldl_snd _ (fun _ _ _ => ?_) _ ?_
          | refine Only.foldl_fst _ (fun _ _ _ => ?_) _ ?_ | apply Only.app (loseVoice_only ..))
    | split
    | dsimp only)

theorem bsMode_only (m : Mode) (s : State) : Only 2130328 s (bsMode m s) := by
  unfold bsMode
  try dsimp only
  repeat' (first
    | with_reducible exact Only.refl _ _
    | with_reducible assumption
    | decide
    | (with_reducible
        first
          | refine Only.ite ?_ ?_ | refine Only.ite_snd ?_ ?_ | refine Only.ite_fst ?_ ?_
          | refine Only.foldl _ (fun _ _ _ => ?_) _ ?_ | refine Only.foldl_snd _ (fun _ _ _ => ?_) _ ?_
          | refine Only.foldl_fst _ (fun _ _ _ => ?_) _ ?_ | apply Only.app (discardReq_only ..)
          | apply Only.app (loseVoice_only ..) | apply Only.app (modBs_only ..) | apply Only.app (modVoice_only ..) | apply Only.app (dropNext_only ..)
          | apply Only.app (releaseAt_only ..)
          | apply Only.app (rampVoice_only ..))
    | split
    | dsimp only)

theorem answerHandle_only {j op hd req : Nat} {s x : State} {f : Nat → State → State} (hj : 2097560 ||| j = j)
    (hf : ∀ v y, Only j s y → Only j s (f v y)) (h : Only j s x) : Only j s (answerHandle op hd req f x) := by
  have e : ∀ a b c d y, Only j s y → Only j s (bsEvent a b c d y) := fun a b c d y hy => (bsEvent_only a b c d y).app hj hy
  unfold answerHandle
  split
  · exact hf _ _ (e _ _ _ _ _ h)
  · exact e _ _ _ _ _ h

theorem cmdStart_only (kind prio id note vel zones hold : Nat) (excl : Bool) (t req : Nat) (s : State) : Only 2130328 s (cmdStart kind prio id note vel zones hold excl t req s) := by
  unfold cmdStart
  try dsimp only
  repeat' (first
    | with_reducible exact Only.refl _ _
    | with_reducible assumption
    | decide
    | (with_reducible
        first
          | refine Only.ite ?_ ?_ | refine Only.ite_snd ?_ ?_ | refine Only.ite_fst ?_ ?_
          | apply Only.app (bsEvent_only ..) | apply Only.app (submit_only ..))
    | split
    | dsimp only)

theorem cmdRelease_only (h req : Nat) (s : State) : Only 2130328 s (cmdRelease h req s) := by
  unfold cmdRelease
  try dsimp only
  repeat' (first
    | with_reducible exact Only.refl _ _
    | with_reducible assumption
    | decide
    | (with_reducible
        first
          | refine answerHandle_only (by decide) (fun _ _ _ => ?_) ?_ | apply Only.app (modVoice_only ..) | apply Only.app (dropNext_only ..)
          | apply Only.app (releaseAt_only ..))
    | split
    | dsimp only)

theorem cmdKill_only (h req : Nat) (s : State) : Only 2130328 s (cmdKill h req s) := by
  unfold cmdKill
  try dsimp only
  repeat' (first
    | with_reducible exact Only.refl _ _
    | with_reducible assumption
    | decide
    | (with_reducible
        first
          | refine answerHandle_only (by decide) (fun _ _ _ => ?_) ?_ | apply Only.app (rampVoice_only ..))
    | split
    | dsimp only)

theorem cmdCue_only (prio cue car t req : Nat) (s : State) : Only 2654616 s (cmdCue prio cue car t req s) := by
  unfold cmdCue
  try dsimp only
  repeat' (first
    | with_reducible exact Only.refl _ _
    | with_reducible assumption
    | decide
    | (with_reducible
        first
          | refine Only.ite ?_ ?_ | refine Only.ite_snd ?_ ?_ | refine Only.ite_fst ?_ ?_
          | apply Only.app (bsEvent_only ..) | apply Only.app (resolveCue_only ..))
    | split
    | dsimp only)

theorem cmdSetP_only (h : Nat) (p0 p1 : Int) (req : Nat) (s : State) : Only 2130328 s (cmdSetP h p0 p1 req s) := by
  unfold cmdSetP
  try dsimp only
  repeat' (first
    | with_reducible exact Only.refl _ _
    | with_reducible assumption
    | decide
    | (with_reducible
        first
          | refine answerHandle_only (by decide) (fun _ _ _ => ?_) ?_ | apply Only.app (modVoice_only ..))
    | split
    | dsimp only)

theorem bsEntry_only (p : List Byte) (s : State) : Only 2654616 s (bsEntry p s) := by
  unfold bsEntry
  try dsimp only
  repeat' (first
    | with_reducible exact Only.refl _ _
    | with_reducible assumption
    | decide
    | (with_reducible
        first
          | refine Only.ite ?_ ?_ | refine Only.ite_snd ?_ ?_ | refine Only.ite_fst ?_ ?_
          | apply Only.app (bsEvent_only ..) | apply Only.app (cmdCue_only ..) | apply Only.app (cmdKill_only ..)
          | apply Only.app (cmdRelease_only ..) | apply Only.app (cmdSetP_only ..) | apply Only.app (cmdStart_only ..))
    | split
    | dsimp only)

theorem bsPump_only (n : Nat) : ∀ (f : Nat) (s : State), Only 2654616 s (bsPump n f s)
  | 0, s => by
    unfold bsPump
    exact Only.refl _ _
  | f + 1, s => by
    unfold bsPump
    try dsimp only
    repeat' (first
      | with_reducible exact Only.refl _ _
      | with_reducible assumption
      | decide
      | (with_reducible
          first
            | refine Only.ite ?_ ?_ | refine Only.ite_snd ?_ ?_ | refine Only.ite_fst ?_ ?_
            | apply Only.app (bsEntry_only ..) | apply Only.app (bsEvent_only ..) | apply Only.app (modBs_only ..)
            | apply Only.app (qAck_only ..) | apply Only.app (qDequeue_only ..) | apply Only.app (bsPump_only ..))
      | split
      | dsimp only)

theorem bsPublish_only (s : State) : Only 69206288 s (bsPublish s) := by
  unfold bsPublish
  try dsimp only
  repeat' (first
    | (simp only [↓Only.mk_guard]; with_reducible refine Only.of_mk rfl ?_ (pm := ?_))
    | with_reducible exact Only.refl _ _
    | with_reducible assumption
    | decide
    | (with_reducible
        first
          | refine Only.ite ?_ ?_ | refine Only.ite_snd ?_ ?_ | refine Only.ite_fst ?_ ?_
          | refine Only.foldl _ (fun _ _ _ => ?_) _ ?_ | refine Only.foldl_snd _ (fun _ _ _ => ?_) _ ?_
          | refine Only.foldl_fst _ (fun _ _ _ => ?_) _ ?_)
    | (intro h; (repeat' (with_reducible first | exact h | assumption | refine Memory.writeBytes_wf _ _ ?_ | refine Memory.write_wf _ _ ?_ | refine Memory.foldl_wf _ (fun _ _ _ => ?_) _ ?_ | refine Memory.foldl_fst_wf _ (fun _ _ _ => ?_) _ ?_ | split | dsimp only)); done)
    | split
    | dsimp only)

theorem bsBoundary_only (s : State) : Only 32768 s (bsBoundary s) := by
  unfold bsBoundary
  try dsimp only
  repeat' (first
    | with_reducible exact Only.refl _ _
    | with_reducible assumption
    | decide
    | (with_reducible
        first
          | refine Only.ite ?_ ?_ | refine Only.ite_snd ?_ ?_ | refine Only.ite_fst ?_ ?_
          | apply Only.app (modBs_only ..))
    | split
    | dsimp only)

theorem bsRest_only (s : State) : Only 32768 s (bsRest s) := by
  unfold bsRest
  try dsimp only
  repeat' (first
    | with_reducible exact Only.refl _ _
    | with_reducible assumption
    | decide
    | (with_reducible
        first
          | refine Only.ite ?_ ?_ | refine Only.ite_snd ?_ ?_ | refine Only.ite_fst ?_ ?_
          | apply Only.app (modBs_only ..))
    | split
    | dsimp only)

theorem audioBlock_only (n : Nat) (align : Int) (paging : List (List Int)) (feeds : List (Nat × PhraseFeed)) (miss : List Nat) (s : State) : Only 69763480 s (audioBlock n align paging feeds miss s) := by
  unfold audioBlock
  try dsimp only
  repeat' (first
    | with_reducible exact Only.refl _ _
    | with_reducible assumption
    | decide
    | (with_reducible
        first
          | refine Only.ite ?_ ?_ | refine Only.ite_snd ?_ ?_ | refine Only.ite_fst ?_ ?_
          | refine Only.foldl _ (fun _ _ _ => ?_) _ ?_ | refine Only.foldl_snd _ (fun _ _ _ => ?_) _ ?_
          | refine Only.foldl_fst _ (fun _ _ _ => ?_) _ ?_ | apply Only.app (bsBoundary_only ..)
          | apply Only.app (bsPublish_only ..) | apply Only.app (bsPump_only ..) | apply Only.app (bsRest_only ..)
          | apply Only.app (drainP7_only ..) | apply Only.app (mixZone_only ..) | apply Only.app (modBs_only ..)
          | apply Only.app (shedCore_only ..) | apply Only.app (startWaiting_only ..)
          | apply Only.app (voiceBlock_only ..))
    | split
    | dsimp only)

theorem modMidi_only (ch : Nat) (f : MidiChan → MidiChan) (s : State) : Only 32768 s (modMidi ch f s) := by
  unfold modMidi
  try dsimp only
  repeat' (first
    | with_reducible exact Only.refl _ _
    | with_reducible assumption
    | decide
    | (with_reducible
        first
          | apply Only.app (modBs_only ..))
    | split
    | dsimp only)

theorem noteOff_only (ch note : Nat) (s : State) : Only 2130328 s (noteOff ch note s) := by
  unfold noteOff
  try dsimp only
  repeat' (first
    | with_reducible exact Only.refl _ _
    | with_reducible assumption
    | decide
    | (with_reducible
        first
          | refine Only.ite ?_ ?_ | refine Only.ite_snd ?_ ?_ | refine Only.ite_fst ?_ ?_
          | refine Only.foldl _ (fun _ _ _ => ?_) _ ?_ | refine Only.foldl_snd _ (fun _ _ _ => ?_) _ ?_
          | refine Only.foldl_fst _ (fun _ _ _ => ?_) _ ?_ | apply Only.app (modVoice_only ..) | apply Only.app (dropNext_only ..)
          | apply Only.app (releaseAt_only ..))
    | split
    | dsimp only)

theorem noteOn_only (ch note vel : Nat) (s : State) : Only 2130328 s (noteOn ch note vel s) := by
  unfold noteOn
  try dsimp only
  repeat' (first
    | with_reducible exact Only.refl _ _
    | with_reducible assumption
    | decide
    | (with_reducible
        first
          | refine Only.ite ?_ ?_ | refine Only.ite_snd ?_ ?_ | refine Only.ite_fst ?_ ?_
          | apply Only.app (noteOff_only ..) | apply Only.app (submit_only ..))
    | split
    | dsimp only)

theorem controlChange_only (ch cc v : Nat) (s : State) : Only 2130328 s (controlChange ch cc v s) := by
  unfold controlChange
  try dsimp only
  repeat' (first
    | with_reducible exact Only.refl _ _
    | with_reducible assumption
    | decide
    | (with_reducible
        first
          | refine Only.ite ?_ ?_ | refine Only.ite_snd ?_ ?_ | refine Only.ite_fst ?_ ?_
          | refine Only.foldl _ (fun _ _ _ => ?_) _ ?_ | refine Only.foldl_snd _ (fun _ _ _ => ?_) _ ?_
          | refine Only.foldl_fst _ (fun _ _ _ => ?_) _ ?_ | apply Only.app (modMidi_only ..)
          | apply Only.app (modVoice_only ..) | apply Only.app (dropNext_only ..)
          | apply Only.app (releaseAt_only ..) | apply Only.app (rampVoice_only ..))
    | split
    | dsimp only)

theorem sensingTimeout_only (s : State) : Only 2130328 s (sensingTimeout s) := by
  unfold sensingTimeout
  try dsimp only
  repeat' (first
    | with_reducible exact Only.refl _ _
    | with_reducible assumption
    | decide
    | (with_reducible
        first
          | refine Only.ite ?_ ?_ | refine Only.ite_snd ?_ ?_ | refine Only.ite_fst ?_ ?_
          | refine Only.foldl _ (fun _ _ _ => ?_) _ ?_ | refine Only.foldl_snd _ (fun _ _ _ => ?_) _ ?_
          | refine Only.foldl_fst _ (fun _ _ _ => ?_) _ ?_ | apply Only.app (modBs_only ..)
          | apply Only.app (modVoice_only ..) | apply Only.app (dropNext_only ..)
          | apply Only.app (releaseAt_only ..))
    | split
    | dsimp only)

theorem bsApply_only (s : State) : Only 32768 s (bsApply s) := by
  unfold bsApply
  try dsimp only
  repeat' (first
    | with_reducible exact Only.refl _ _
    | with_reducible assumption
    | decide
    | (with_reducible
        first
          | apply Only.app (modBs_only ..))
    | split
    | dsimp only)

theorem stopAll_only (s : State) : Only 2130328 s (stopAll s) := by
  unfold stopAll
  try dsimp only
  repeat' (first
    | with_reducible exact Only.refl _ _
    | with_reducible assumption
    | decide
    | (with_reducible
        first
          | refine Only.ite ?_ ?_ | refine Only.ite_snd ?_ ?_ | refine Only.ite_fst ?_ ?_
          | refine Only.foldl _ (fun _ _ _ => ?_) _ ?_ | refine Only.foldl_snd _ (fun _ _ _ => ?_) _ ?_
          | refine Only.foldl_fst _ (fun _ _ _ => ?_) _ ?_ | apply Only.app (modBs_only ..)
          | apply Only.app (rampVoice_only ..))
    | split
    | dsimp only)

theorem phraseReload_only (dir : List Byte) (s : State) : Only 32768 s (phraseReload dir s) := by
  unfold phraseReload
  try dsimp only
  repeat' (first
    | with_reducible exact Only.refl _ _
    | with_reducible assumption
    | decide
    | (with_reducible
        first
          | refine Only.ite ?_ ?_ | refine Only.ite_snd ?_ ?_ | refine Only.ite_fst ?_ ?_
          | apply Only.app (modBs_only ..))
    | split
    | dsimp only)

theorem phraseDeferred_only (dir : List Byte) (s : State) : Only 32768 s (phraseDeferred dir s) := by
  unfold phraseDeferred
  try dsimp only
  repeat' (first
    | with_reducible exact Only.refl _ _
    | with_reducible assumption
    | decide
    | (with_reducible
        first
          | refine Only.ite ?_ ?_ | refine Only.ite_snd ?_ ?_ | refine Only.ite_fst ?_ ?_
          | apply Only.app (phraseReload_only ..))
    | split
    | dsimp only)

theorem bsReadEffect_only (o : Nat) (s : State) : Only 32768 s (bsReadEffect o s) := by
  unfold bsReadEffect
  try dsimp only
  repeat' (first
    | with_reducible exact Only.refl _ _
    | with_reducible assumption
    | decide
    | (with_reducible
        first
          | refine Only.ite ?_ ?_ | refine Only.ite_snd ?_ ?_ | refine Only.ite_fst ?_ ?_
          | apply Only.app (modBs_only ..))
    | split
    | dsimp only)

theorem bsCtl_only (w : Word) (dir : List Byte) (s : State) : Only 2130328 s (bsCtl w dir s) := by
  unfold bsCtl
  try dsimp only
  repeat' (first
    | with_reducible exact Only.refl _ _
    | with_reducible assumption
    | decide
    | (with_reducible
        first
          | refine Only.ite ?_ ?_ | refine Only.ite_snd ?_ ?_ | refine Only.ite_fst ?_ ?_
          | apply Only.app (bsApply_only ..) | apply Only.app (modBs_only ..) | apply Only.app (phraseReload_only ..)
          | apply Only.app (stopAll_only ..))
    | split
    | dsimp only)

theorem bsWrite_only (o : Nat) (w : Word) (s : State) : Only 2130328 s (bsWrite o w s) := by
  unfold bsWrite
  try dsimp only
  repeat' (first
    | with_reducible exact Only.refl _ _
    | with_reducible assumption
    | decide
    | (with_reducible
        first
          | refine Only.ite ?_ ?_ | refine Only.ite_snd ?_ ?_ | refine Only.ite_fst ?_ ?_
          | apply Only.app (bsCtl_only ..) | apply Only.app (modBs_only ..))
    | split
    | dsimp only)

theorem bsReset_only (s : State) : Only 32768 s (bsReset s) := by
  unfold bsReset
  try dsimp only
  repeat' (first
    | with_reducible exact Only.refl _ _
    | with_reducible assumption
    | decide
    | (with_reducible
        first
          | apply Only.app (modBs_only ..))
    | split
    | dsimp only)

theorem bsStep8_only (dir : List Byte) (s : State) : Only 32768 s (bsStep8 dir s) := by
  unfold bsStep8
  try dsimp only
  repeat' (first
    | with_reducible exact Only.refl _ _
    | with_reducible assumption
    | decide
    | (with_reducible
        first
          | apply Only.app (bsApply_only ..) | apply Only.app (modBs_only ..))
    | split
    | dsimp only)

end Sys2Proof.Machine
end

