-- ==== Sys2Proof/Laws/OnlyCarOps.lean ====
section
/-! SUPPORT. What each operation of Machine/CarOps.lean can touch. -/
set_option linter.all false
set_option Elab.async false
namespace Sys2Proof.Machine
open Sys2Proof

theorem sendAxis_only (a op flags vcap : Nat) (target arg : Int) (s : State) : Only 4096 s (sendAxis a op flags vcap target arg s) := by
  unfold sendAxis
  try dsimp only
  repeat' (first
    | with_reducible exact Only.refl _ _
    | with_reducible assumption
    | decide
    | (with_reducible
        first
          | apply Only.app (modAxis_only ..))
    | split
    | dsimp only)

theorem carMove_only (c : Nat) (x : Int) (cap : Nat) (s : State) : Only 4096 s (carMove c x cap s) := by
  unfold carMove
  try dsimp only
  repeat' (first
    | with_reducible exact Only.refl _ _
    | with_reducible assumption
    | decide
    | (with_reducible
        first
          | apply Only.app (sendAxis_only ..))
    | split
    | dsimp only)

theorem startRun_only (c : Nat) (k : RunKind) (x : Int) (cap : Nat) (s : State) : Only 6144 s (startRun c k x cap s) := by
  unfold startRun
  try dsimp only
  repeat' (first
    | with_reducible exact Only.refl _ _
    | with_reducible assumption
    | decide
    | (with_reducible
        first
          | refine Only.ite ?_ ?_ | refine Only.ite_snd ?_ ?_ | refine Only.ite_fst ?_ ?_
          | apply Only.app (carMove_only ..) | apply Only.app (modCar_only ..))
    | split
    | dsimp only)

theorem doorsTo_only (c sides : Nat) (opening : Bool) (s : State) : Only 4096 s (doorsTo c sides opening s) := by
  unfold doorsTo
  try dsimp only
  repeat' (first
    | with_reducible exact Only.refl _ _
    | with_reducible assumption
    | decide
    | (with_reducible
        first
          | refine Only.ite ?_ ?_ | refine Only.ite_snd ?_ ?_ | refine Only.ite_fst ?_ ?_
          | refine Only.foldl _ (fun _ _ _ => ?_) _ ?_ | refine Only.foldl_snd _ (fun _ _ _ => ?_) _ ?_
          | refine Only.foldl_fst _ (fun _ _ _ => ?_) _ ?_ | apply Only.app (sendAxis_only ..))
    | split
    | dsimp only)

theorem tripEnergy_only (c : Nat) (s : State) : Only 2048 s (tripEnergy c s) := by
  unfold tripEnergy
  try dsimp only
  repeat' (first
    | with_reducible exact Only.refl _ _
    | with_reducible assumption
    | decide
    | (with_reducible
        first
          | refine Only.ite ?_ ?_ | refine Only.ite_snd ?_ ?_ | refine Only.ite_fst ?_ ?_
          | apply Only.app (modCar_only ..))
    | split
    | dsimp only)

theorem releaseCalls_only (c : Nat) (s : State) : Only 2048 s (releaseCalls c s) := by
  unfold releaseCalls
  try dsimp only
  repeat' (first
    | with_reducible exact Only.refl _ _
    | with_reducible assumption
    | decide
    | (with_reducible
        first
          | refine Only.ite ?_ ?_ | refine Only.ite_snd ?_ ?_ | refine Only.ite_fst ?_ ?_
          | apply Only.app (modCar_only ..) | apply Only.app (modGrp_only ..))
    | split
    | dsimp only)

theorem carFault_only (c code : Nat) (s : State) : Only 2103704 s (carFault c code s) := by
  unfold carFault
  try dsimp only
  repeat' (first
    | with_reducible exact Only.refl _ _
    | with_reducible assumption
    | decide
    | (with_reducible
        first
          | refine Only.ite ?_ ?_ | refine Only.ite_snd ?_ ?_ | refine Only.ite_fst ?_ ?_
          | apply Only.app (faultStop_only ..) | apply Only.app (liftEvent_only ..) | apply Only.app (modAxis_only ..)
          | apply Only.app (modCar_only ..) | apply Only.app (releaseCalls_only ..))
    | split
    | dsimp only)

theorem ssiRead_only (c : Nat) (r : SsiRead) (s : State) : Only 2048 s (ssiRead c r s).2 := by
  unfold ssiRead
  try dsimp only
  repeat' (first
    | with_reducible exact Only.refl _ _
    | with_reducible assumption
    | decide
    | (with_reducible
        first
          | refine Only.ite ?_ ?_ | refine Only.ite_snd ?_ ?_ | refine Only.ite_fst ?_ ?_
          | apply Only.app (modCar_only ..))
    | split
    | dsimp only)

theorem shiftFrame_only (c : Nat) (e : Int) (s : State) : Only 6144 s (shiftFrame c e s) := by
  unfold shiftFrame
  try dsimp only
  repeat' (first
    | with_reducible exact Only.refl _ _
    | with_reducible assumption
    | decide
    | (with_reducible
        first
          | refine Only.ite ?_ ?_ | refine Only.ite_snd ?_ ?_ | refine Only.ite_fst ?_ ?_
          | apply Only.app (frameShift_only ..) | apply Only.app (modCar_only ..))
    | split
    | dsimp only)

theorem positionStep_only (c us : Nat) (inc : Int) (both : Bool) (ssi : SsiRead) (ageNs : Nat) (s : State) : Only 2103704 s (positionStep c us inc both ssi ageNs s) := by
  unfold positionStep
  try dsimp only
  repeat' (first
    | with_reducible exact Only.refl _ _
    | with_reducible assumption
    | decide
    | (with_reducible
        first
          | refine Only.ite ?_ ?_ | refine Only.ite_snd ?_ ?_ | refine Only.ite_fst ?_ ?_
          | apply Only.app (carFault_only ..) | apply Only.app (carMove_only ..) | apply Only.app (modCar_only ..)
          | apply Only.app (shiftFrame_only ..) | apply Only.app (ssiRead_only ..))
    | split
    | dsimp only)

theorem dzEdge_only (c : Nat) (rising : Bool) (t : Nat) (s : State) : Only 2103704 s (dzEdge c rising t s) := by
  unfold dzEdge
  try dsimp only
  repeat' (first
    | with_reducible exact Only.refl _ _
    | with_reducible assumption
    | decide
    | (with_reducible
        first
          | refine Only.ite ?_ ?_ | refine Only.ite_snd ?_ ?_ | refine Only.ite_fst ?_ ?_
          | refine Only.foldl _ (fun _ _ _ => ?_) _ ?_ | refine Only.foldl_snd _ (fun _ _ _ => ?_) _ ?_
          | refine Only.foldl_fst _ (fun _ _ _ => ?_) _ ?_ | apply Only.app (carFault_only ..)
          | apply Only.app (modCar_only ..))
    | split
    | dsimp only)

theorem loadFloor_only (c : Nat) (s : State) : Only 2103704 s (loadFloor c s) := by
  unfold loadFloor
  try dsimp only
  repeat' (first
    | with_reducible exact Only.refl _ _
    | with_reducible assumption
    | decide
    | (with_reducible
        first
          | refine Only.ite ?_ ?_ | refine Only.ite_snd ?_ ?_ | refine Only.ite_fst ?_ ?_
          | apply Only.app (carFault_only ..) | apply Only.app (modCar_only ..))
    | split
    | dsimp only)

theorem floorFromNvm_only (c : Nat) (s : State) : Only 2097152 s (floorFromNvm c s) := by
  unfold floorFromNvm
  try dsimp only
  repeat' (first
    | (simp only [↓Only.mk_guard]; with_reducible refine Only.of_mk rfl ?_ (pm := ?_))
    | with_reducible exact Only.refl _ _
    | with_reducible assumption
    | decide
    | (intro h; (repeat' (with_reducible first | exact h | assumption | refine Memory.writeBytes_wf _ _ ?_ | refine Memory.clear_wf _ _ ?_ | refine Memory.write_wf _ _ ?_ | split | dsimp only)); done)
    | split
    | dsimp only)

theorem floorReload_only (c : Nat) (s : State) : Only 2103704 s (floorReload c s) := by
  unfold floorReload
  try dsimp only
  repeat' (first
    | (simp only [↓Only.mk_guard]; with_reducible refine Only.of_mk rfl ?_ (pm := ?_))
    | with_reducible exact Only.refl _ _
    | with_reducible assumption
    | decide
    | (with_reducible
        first
          | refine Only.foldl _ (fun _ _ _ => ?_) _ ?_ | refine Only.foldl_snd _ (fun _ _ _ => ?_) _ ?_
          | refine Only.foldl_fst _ (fun _ _ _ => ?_) _ ?_ | apply Only.app (loadFloor_only ..))
    | (intro h; (repeat' (with_reducible first | exact h | assumption | refine Memory.writeN_wf _ _ _ ?_ | refine Memory.writeBytes_wf _ _ ?_ | refine Memory.clear_wf _ _ ?_ | refine Memory.write_wf _ _ ?_ | refine Memory.foldl_wf _ (fun _ _ _ => ?_) _ ?_ | refine Memory.foldl_fst_wf _ (fun _ _ _ => ?_) _ ?_ | split | dsimp only)); done)
    | split
    | dsimp only)

theorem reloadCars_only (m : Nat) (s : State) : Only 2103704 s (reloadCars m s) := by
  unfold reloadCars
  try dsimp only
  repeat' (first
    | with_reducible exact Only.refl _ _
    | with_reducible assumption
    | decide
    | (with_reducible
        first
          | refine Only.ite ?_ ?_ | refine Only.ite_snd ?_ ?_ | refine Only.ite_fst ?_ ?_
          | refine Only.foldl _ (fun _ _ _ => ?_) _ ?_ | refine Only.foldl_snd _ (fun _ _ _ => ?_) _ ?_
          | refine Only.foldl_fst _ (fun _ _ _ => ?_) _ ?_ | apply Only.app (floorReload_only ..)
          | apply Only.app (modCar_only ..) | apply Only.app (modLift_only ..))
    | split
    | dsimp only)

theorem energyReset_only (m : Nat) (s : State) : Only 2048 s (energyReset m s) := by
  unfold energyReset
  try dsimp only
  repeat' (first
    | with_reducible exact Only.refl _ _
    | with_reducible assumption
    | decide
    | (with_reducible
        first
          | refine Only.foldl _ (fun _ _ _ => ?_) _ ?_ | refine Only.foldl_snd _ (fun _ _ _ => ?_) _ ?_
          | refine Only.foldl_fst _ (fun _ _ _ => ?_) _ ?_ | apply Only.app (modCar_only ..)
          | apply Only.app (modLift_only ..))
    | split
    | dsimp only)

theorem learnEnd_only (c : Nat) (ok : Bool) (s : State) : Only 2099608 s (learnEnd c ok s) := by
  unfold learnEnd
  try dsimp only
  repeat' (first
    | with_reducible exact Only.refl _ _
    | with_reducible assumption
    | decide
    | (with_reducible
        first
          | refine Only.ite ?_ ?_ | refine Only.ite_snd ?_ ?_ | refine Only.ite_fst ?_ ?_
          | apply Only.app (liftEvent_only ..) | apply Only.app (modCar_only ..))
    | split
    | dsimp only)

theorem learnComplete_only (c : Nat) (s : State) : Only 2103704 s (learnComplete c s) := by
  unfold learnComplete
  try dsimp only
  repeat' (first
    | (simp only [↓Only.mk_guard]; with_reducible refine Only.of_mk rfl ?_ (pm := ?_))
    | with_reducible exact Only.refl _ _
    | with_reducible assumption
    | decide
    | (with_reducible
        first
          | refine Only.ite ?_ ?_ | refine Only.ite_snd ?_ ?_ | refine Only.ite_fst ?_ ?_
          | apply Only.app (learnEnd_only ..) | apply Only.app (liftEvent_only ..) | apply Only.app (modCar_only ..)
          | apply Only.app (shiftFrame_only ..) | apply Only.app (startRun_only ..))
    | (intro h; (repeat' (with_reducible first | exact h | assumption | refine Memory.writeBytes_wf _ _ ?_ | refine Memory.clear_wf _ _ ?_ | refine Memory.write_wf _ _ ?_ | split | dsimp only)); done)
    | split
    | dsimp only)

theorem learnStart_only (c req : Nat) (s : State) : Only 6144 s (learnStart c req s).2 := by
  unfold learnStart
  try dsimp only
  repeat' (first
    | with_reducible exact Only.refl _ _
    | with_reducible assumption
    | decide
    | (with_reducible
        first
          | refine Only.ite ?_ ?_ | refine Only.ite_snd ?_ ?_ | refine Only.ite_fst ?_ ?_
          | apply Only.app (modCar_only ..) | apply Only.app (sendAxis_only ..))
    | split
    | dsimp only)

theorem correctStart_only (c : Nat) (s : State) : Only 6144 s (correctStart c s).2 := by
  unfold correctStart
  try dsimp only
  repeat' (first
    | with_reducible exact Only.refl _ _
    | with_reducible assumption
    | decide
    | (with_reducible
        first
          | refine Only.ite ?_ ?_ | refine Only.ite_snd ?_ ?_ | refine Only.ite_fst ?_ ?_
          | apply Only.app (modCar_only ..) | apply Only.app (sendAxis_only ..))
    | split
    | dsimp only)

theorem learnStep_only (c : Nat) (s : State) : Only 6144 s (learnStep c s) := by
  unfold learnStep
  try dsimp only
  repeat' (first
    | with_reducible exact Only.refl _ _
    | with_reducible assumption
    | decide
    | (with_reducible
        first
          | refine Only.ite ?_ ?_ | refine Only.ite_snd ?_ ?_ | refine Only.ite_fst ?_ ?_
          | apply Only.app (carMove_only ..) | apply Only.app (modCar_only ..) | apply Only.app (sendAxis_only ..))
    | split
    | dsimp only)

theorem permitFall_only (c p : Nat) (s : State) : Only 2103704 s (permitFall c p s) := by
  unfold permitFall
  try dsimp only
  repeat' (first
    | with_reducible exact Only.refl _ _
    | with_reducible assumption
    | decide
    | (with_reducible
        first
          | refine Only.ite ?_ ?_ | refine Only.ite_snd ?_ ?_ | refine Only.ite_fst ?_ ?_
          | refine Only.foldl _ (fun _ _ _ => ?_) _ ?_ | refine Only.foldl_snd _ (fun _ _ _ => ?_) _ ?_
          | refine Only.foldl_fst _ (fun _ _ _ => ?_) _ ?_ | apply Only.app (modCar_only ..)
          | apply Only.app (permitActions_only ..))
    | split
    | dsimp only)

theorem permitRise_only (c p : Nat) (s : State) : Only 6144 s (permitRise c p s) := by
  unfold permitRise
  try dsimp only
  repeat' (first
    | with_reducible exact Only.refl _ _
    | with_reducible assumption
    | decide
    | (with_reducible
        first
          | refine Only.ite ?_ ?_ | refine Only.ite_snd ?_ ?_ | refine Only.ite_fst ?_ ?_
          | refine Only.foldl _ (fun _ _ _ => ?_) _ ?_ | refine Only.foldl_snd _ (fun _ _ _ => ?_) _ ?_
          | refine Only.foldl_fst _ (fun _ _ _ => ?_) _ ?_ | apply Only.app (modCar_only ..)
          | apply Only.app (sendAxis_only ..))
    | split
    | dsimp only)

theorem clearStop_only (c j : Nat) (s : State) : Only 526336 s (clearStop c j s) := by
  unfold clearStop
  try dsimp only
  repeat' (first
    | with_reducible exact Only.refl _ _
    | with_reducible assumption
    | decide
    | (with_reducible
        first
          | refine Only.foldl _ (fun _ _ _ => ?_) _ ?_ | refine Only.foldl_snd _ (fun _ _ _ => ?_) _ ?_
          | refine Only.foldl_fst _ (fun _ _ _ => ?_) _ ?_ | apply Only.app (addCall_only ..)
          | apply Only.app (clearCall_only ..) | apply Only.app (modCar_only ..))
    | split
    | dsimp only)

theorem beginOpen_only (c j sides : Nat) (s : State) : Only 538624 s (beginOpen c j sides s) := by
  unfold beginOpen
  try dsimp only
  repeat' (first
    | (simp only [↓Only.mk_guard]; with_reducible refine Only.of_mk rfl ?_)
    | with_reducible exact Only.refl _ _
    | with_reducible assumption
    | decide
    | (with_reducible
        first
          | apply Only.app (clearStop_only ..) | apply Only.app (doorsTo_only ..) | apply Only.app (modCar_only ..))
    | split
    | dsimp only)

theorem enterParked_only (c : Nat) (s : State) : Only 2111896 s (enterParked c s) := by
  unfold enterParked
  try dsimp only
  repeat' (first
    | (simp only [↓Only.mk_guard]; with_reducible refine Only.of_mk rfl ?_)
    | with_reducible exact Only.refl _ _
    | with_reducible assumption
    | decide
    | (with_reducible
        first
          | refine Only.ite ?_ ?_ | refine Only.ite_snd ?_ ?_ | refine Only.ite_fst ?_ ?_
          | apply Only.app (floorFromNvm_only ..) | apply Only.app (floorReload_only ..)
          | apply Only.app (liftCue_only ..) | apply Only.app (liftEvent_only ..) | apply Only.app (loadFloor_only ..)
          | apply Only.app (modCar_only ..) | apply Only.app (releaseCalls_only ..))
    | split
    | dsimp only)

theorem beginTrip_only (c j : Nat) (s : State) : Only 6144 s (beginTrip c j s) := by
  unfold beginTrip
  try dsimp only
  repeat' (first
    | with_reducible exact Only.refl _ _
    | with_reducible assumption
    | decide
    | (with_reducible
        first
          | refine Only.ite ?_ ?_ | refine Only.ite_snd ?_ ?_ | refine Only.ite_fst ?_ ?_
          | apply Only.app (modCar_only ..) | apply Only.app (startRun_only ..))
    | split
    | dsimp only)

theorem stepParked_only (c us : Nat) (s : State) : Only 2636184 s (stepParked c us s) := by
  unfold stepParked
  try dsimp only
  repeat' (first
    | with_reducible exact Only.refl _ _
    | with_reducible assumption
    | decide
    | (with_reducible
        first
          | refine Only.ite ?_ ?_ | refine Only.ite_snd ?_ ?_ | refine Only.ite_fst ?_ ?_
          | apply Only.app (beginOpen_only ..) | apply Only.app (beginTrip_only ..)
          | apply Only.app (enterParked_only ..) | apply Only.app (floorFromNvm_only ..)
          | apply Only.app (loadFloor_only ..) | apply Only.app (modCar_only ..))
    | split
    | dsimp only)

theorem advStep_only (c : Nat) (s : State) : Only 530432 s (advStep c s) := by
  unfold advStep
  try dsimp only
  repeat' (first
    | with_reducible exact Only.refl _ _
    | with_reducible assumption
    | decide
    | (with_reducible
        first
          | refine Only.ite ?_ ?_ | refine Only.ite_snd ?_ ?_ | refine Only.ite_fst ?_ ?_
          | refine Only.foldl _ (fun _ _ _ => ?_) _ ?_ | refine Only.foldl_snd _ (fun _ _ _ => ?_) _ ?_
          | refine Only.foldl_fst _ (fun _ _ _ => ?_) _ ?_ | apply Only.app (clearStop_only ..)
          | apply Only.app (modCar_only ..) | apply Only.app (sendAxis_only ..))
    | split
    | dsimp only)

theorem arriveAt_only (c j : Nat) (s : State) : Only 2636184 s (arriveAt c j s) := by
  unfold arriveAt
  try dsimp only
  repeat' (first
    | (simp only [↓Only.mk_guard]; with_reducible refine Only.of_mk rfl ?_)
    | with_reducible exact Only.refl _ _
    | with_reducible assumption
    | decide
    | (with_reducible
        first
          | refine Only.ite ?_ ?_ | refine Only.ite_snd ?_ ?_ | refine Only.ite_fst ?_ ?_
          | refine Only.foldl _ (fun _ _ _ => ?_) _ ?_ | refine Only.foldl_snd _ (fun _ _ _ => ?_) _ ?_
          | refine Only.foldl_fst _ (fun _ _ _ => ?_) _ ?_ | apply Only.app (beginOpen_only ..)
          | apply Only.app (enterParked_only ..) | apply Only.app (liftCue_only ..) | apply Only.app (modCar_only ..)
          | apply Only.app (sendAxis_only ..))
    | split
    | dsimp only)

theorem stepRunning_only (c us : Nat) (s : State) : Only 2636184 s (stepRunning c us s) := by
  unfold stepRunning
  try dsimp only
  repeat' (first
    | with_reducible exact Only.refl _ _
    | with_reducible assumption
    | decide
    | (with_reducible
        first
          | refine Only.ite ?_ ?_ | refine Only.ite_snd ?_ ?_ | refine Only.ite_fst ?_ ?_
          | apply Only.app (advStep_only ..) | apply Only.app (arriveAt_only ..) | apply Only.app (carFault_only ..)
          | apply Only.app (carMove_only ..) | apply Only.app (enterParked_only ..) | apply Only.app (modCar_only ..))
    | split
    | dsimp only)

theorem relevel_only (c : Nat) (s : State) : Only 4096 s (relevel c s) := by
  unfold relevel
  try dsimp only
  repeat' (first
    | with_reducible exact Only.refl _ _
    | with_reducible assumption
    | decide
    | (with_reducible
        first
          | refine Only.ite ?_ ?_ | refine Only.ite_snd ?_ ?_ | refine Only.ite_fst ?_ ?_
          | apply Only.app (sendAxis_only ..))
    | split
    | dsimp only)

theorem stepDoors_only (c us : Nat) (s : State) : Only 2636184 s (stepDoors c us s) := by
  unfold stepDoors
  try dsimp only
  repeat' (first
    | (simp only [↓Only.mk_guard]; with_reducible refine Only.of_mk rfl ?_)
    | with_reducible exact Only.refl _ _
    | with_reducible assumption
    | decide
    | (with_reducible
        first
          | refine Only.ite ?_ ?_ | refine Only.ite_snd ?_ ?_ | refine Only.ite_fst ?_ ?_
          | refine Only.foldl _ (fun _ _ _ => ?_) _ ?_ | refine Only.foldl_snd _ (fun _ _ _ => ?_) _ ?_
          | refine Only.foldl_fst _ (fun _ _ _ => ?_) _ ?_ | apply Only.app (beginTrip_only ..)
          | apply Only.app (clearStop_only ..) | apply Only.app (doorsTo_only ..)
          | apply Only.app (enterParked_only ..) | apply Only.app (modCar_only ..) | apply Only.app (relevel_only ..)
          | apply Only.app (sendAxis_only ..))
    | split
    | dsimp only)

theorem stepHeld_only (c : Nat) (s : State) : Only 6144 s (stepHeld c s) := by
  unfold stepHeld
  try dsimp only
  repeat' (first
    | with_reducible exact Only.refl _ _
    | with_reducible assumption
    | decide
    | (with_reducible
        first
          | refine Only.ite ?_ ?_ | refine Only.ite_snd ?_ ?_ | refine Only.ite_fst ?_ ?_
          | apply Only.app (modCar_only ..) | apply Only.app (permitRise_only ..))
    | split
    | dsimp only)

theorem recallStart_only (c : Nat) (s : State) : Only 6144 s (recallStart c s) := by
  unfold recallStart
  try dsimp only
  repeat' (first
    | with_reducible exact Only.refl _ _
    | with_reducible assumption
    | decide
    | (with_reducible
        first
          | refine Only.ite ?_ ?_ | refine Only.ite_snd ?_ ?_ | refine Only.ite_fst ?_ ?_
          | apply Only.app (doorsTo_only ..) | apply Only.app (modCar_only ..) | apply Only.app (sendAxis_only ..)
          | apply Only.app (startRun_only ..))
    | split
    | dsimp only)

theorem stepRecall_only (c : Nat) (s : State) : Only 14336 s (stepRecall c s) := by
  unfold stepRecall
  try dsimp only
  repeat' (first
    | (simp only [↓Only.mk_guard]; with_reducible refine Only.of_mk rfl ?_)
    | with_reducible exact Only.refl _ _
    | with_reducible assumption
    | decide
    | (with_reducible
        first
          | refine Only.ite ?_ ?_ | refine Only.ite_snd ?_ ?_ | refine Only.ite_fst ?_ ?_
          | apply Only.app (doorsTo_only ..) | apply Only.app (modCar_only ..) | apply Only.app (sendAxis_only ..)
          | apply Only.app (startRun_only ..))
    | split
    | dsimp only)

theorem inspectStart_only (c : Nat) (s : State) : Only 6144 s (inspectStart c s) := by
  unfold inspectStart
  try dsimp only
  repeat' (first
    | with_reducible exact Only.refl _ _
    | with_reducible assumption
    | decide
    | (with_reducible
        first
          | refine Only.ite ?_ ?_ | refine Only.ite_snd ?_ ?_ | refine Only.ite_fst ?_ ?_
          | apply Only.app (modCar_only ..) | apply Only.app (releaseCalls_only ..)
          | apply Only.app (sendAxis_only ..))
    | split
    | dsimp only)

theorem inspectMove_only (c dir : Nat) (s : State) : Only 6144 s (inspectMove c dir s) := by
  unfold inspectMove
  try dsimp only
  repeat' (first
    | with_reducible exact Only.refl _ _
    | with_reducible assumption
    | decide
    | (with_reducible
        first
          | refine Only.ite ?_ ?_ | refine Only.ite_snd ?_ ?_ | refine Only.ite_fst ?_ ?_
          | apply Only.app (carMove_only ..) | apply Only.app (modCar_only ..) | apply Only.app (rampStop_only ..)
          | apply Only.app (sendAxis_only ..))
    | split
    | dsimp only)

theorem stepInspection_only (c : Nat) (s : State) : Only 6144 s (stepInspection c s) := by
  unfold stepInspection
  try dsimp only
  repeat' (first
    | with_reducible exact Only.refl _ _
    | with_reducible assumption
    | decide
    | (with_reducible
        first
          | refine Only.ite ?_ ?_ | refine Only.ite_snd ?_ ?_ | refine Only.ite_fst ?_ ?_
          | apply Only.app (inspectMove_only ..) | apply Only.app (modCar_only ..))
    | split
    | dsimp only)

theorem carPrepare_only (c : Nat) (s : State) : Only 4096 s (carPrepare c s) := by
  unfold carPrepare
  try dsimp only
  repeat' (first
    | with_reducible exact Only.refl _ _
    | with_reducible assumption
    | decide
    | (with_reducible
        first
          | refine Only.ite ?_ ?_ | refine Only.ite_snd ?_ ?_ | refine Only.ite_fst ?_ ?_
          | refine Only.foldl _ (fun _ _ _ => ?_) _ ?_ | refine Only.foldl_snd _ (fun _ _ _ => ?_) _ ?_
          | refine Only.foldl_fst _ (fun _ _ _ => ?_) _ ?_ | apply Only.app (sendAxis_only ..))
    | split
    | dsimp only)

theorem carEvents_only (c : Nat) (s : State) : Only 2103704 s (carEvents c s) := by
  unfold carEvents
  try dsimp only
  repeat' (first
    | with_reducible exact Only.refl _ _
    | with_reducible assumption
    | decide
    | (with_reducible
        first
          | refine Only.ite ?_ ?_ | refine Only.ite_snd ?_ ?_ | refine Only.ite_fst ?_ ?_
          | refine Only.foldl _ (fun _ _ _ => ?_) _ ?_ | refine Only.foldl_snd _ (fun _ _ _ => ?_) _ ?_
          | refine Only.foldl_fst _ (fun _ _ _ => ?_) _ ?_ | apply Only.app (carFault_only ..)
          | apply Only.app (modLift_only ..))
    | split
    | dsimp only)

theorem carMode_only (c : Nat) (s : State) : Only 2111896 s (carMode c s) := by
  unfold carMode
  try dsimp only
  repeat' (first
    | (simp only [↓Only.mk_guard]; with_reducible refine Only.of_mk rfl ?_)
    | with_reducible exact Only.refl _ _
    | with_reducible assumption
    | decide
    | (with_reducible
        first
          | refine Only.ite ?_ ?_ | refine Only.ite_snd ?_ ?_ | refine Only.ite_fst ?_ ?_
          | apply Only.app (doorsTo_only ..) | apply Only.app (enterParked_only ..)
          | apply Only.app (inspectStart_only ..) | apply Only.app (liftEvent_only ..)
          | apply Only.app (modCar_only ..) | apply Only.app (recallStart_only ..))
    | split
    | dsimp only)

theorem stepFault_only (c : Nat) (s : State) : Only 6144 s (stepFault c s) := by
  unfold stepFault
  try dsimp only
  repeat' (first
    | with_reducible exact Only.refl _ _
    | with_reducible assumption
    | decide
    | (with_reducible
        first
          | refine Only.ite ?_ ?_ | refine Only.ite_snd ?_ ?_ | refine Only.ite_fst ?_ ?_
          | apply Only.app (doorsTo_only ..) | apply Only.app (modCar_only ..))
    | split
    | dsimp only)

theorem setPointStep_only (c us : Nat) (s : State) : Only 2103704 s (setPointStep c us s) := by
  unfold setPointStep
  try dsimp only
  repeat' (first
    | with_reducible exact Only.refl _ _
    | with_reducible assumption
    | decide
    | (with_reducible
        first
          | refine Only.ite ?_ ?_ | refine Only.ite_snd ?_ ?_ | refine Only.ite_fst ?_ ?_
          | apply Only.app (carFault_only ..) | apply Only.app (modCar_only ..) | apply Only.app (qEnqueue_only ..))
    | split
    | dsimp only)

theorem carPublish_only (c : Nat) (s : State) : Only 69208336 s (carPublish c s) := by
  unfold carPublish
  try dsimp only
  repeat' (first
    | (simp only [↓Only.mk_guard]; with_reducible refine Only.of_mk rfl ?_ (pm := ?_))
    | with_reducible exact Only.refl _ _
    | with_reducible assumption
    | decide
    | (with_reducible
        first
          | apply Only.app (modCar_only ..))
    | (intro h; (repeat' (with_reducible first | exact h | assumption | refine Memory.writeBytes_wf _ _ ?_ | refine Memory.write_wf _ _ ?_ | split | dsimp only)); done)
    | split
    | dsimp only)

theorem carStep_only (c us : Nat) (s : State) : Only 2636184 s (carStep c us s) := by
  unfold carStep
  try dsimp only
  repeat' (first
    | with_reducible exact Only.refl _ _
    | with_reducible assumption
    | decide
    | (with_reducible
        first
          | apply Only.app (learnStep_only ..) | apply Only.app (stepDoors_only ..)
          | apply Only.app (stepFault_only ..) | apply Only.app (stepHeld_only ..)
          | apply Only.app (stepInspection_only ..) | apply Only.app (stepParked_only ..)
          | apply Only.app (stepRecall_only ..) | apply Only.app (stepRunning_only ..))
    | split
    | dsimp only)

theorem outOfService_only (c : Nat) (s : State) : Only 2099608 s (outOfService c s).2 := by
  unfold outOfService
  try dsimp only
  repeat' (first
    | with_reducible exact Only.refl _ _
    | with_reducible assumption
    | decide
    | (with_reducible
        first
          | refine Only.ite ?_ ?_ | refine Only.ite_snd ?_ ?_ | refine Only.ite_fst ?_ ?_
          | apply Only.app (liftCue_only ..) | apply Only.app (liftEvent_only ..) | apply Only.app (modCar_only ..)
          | apply Only.app (modGrp_only ..) | apply Only.app (releaseCalls_only ..))
    | split
    | dsimp only)

theorem inService_only (c : Nat) (s : State) : Only 2111896 s (inService c s).2 := by
  unfold inService
  try dsimp only
  repeat' (first
    | with_reducible exact Only.refl _ _
    | with_reducible assumption
    | decide
    | (with_reducible
        first
          | refine Only.ite ?_ ?_ | refine Only.ite_snd ?_ ?_ | refine Only.ite_fst ?_ ?_
          | apply Only.app (enterParked_only ..) | apply Only.app (modCar_only ..))
    | split
    | dsimp only)

theorem testRun_only (c j : Nat) (s : State) : Only 6144 s (testRun c j s).2 := by
  unfold testRun
  try dsimp only
  repeat' (first
    | with_reducible exact Only.refl _ _
    | with_reducible assumption
    | decide
    | (with_reducible
        first
          | refine Only.ite ?_ ?_ | refine Only.ite_snd ?_ ?_ | refine Only.ite_fst ?_ ?_
          | apply Only.app (sendAxis_only ..) | apply Only.app (startRun_only ..))
    | split
    | dsimp only)

theorem inspMove_only (c dir : Nat) (s : State) : Only 6144 s (inspMove c dir s).2 := by
  unfold inspMove
  try dsimp only
  repeat' (first
    | with_reducible exact Only.refl _ _
    | with_reducible assumption
    | decide
    | (with_reducible
        first
          | refine Only.ite ?_ ?_ | refine Only.ite_snd ?_ ?_ | refine Only.ite_fst ?_ ?_
          | apply Only.app (inspectMove_only ..))
    | split
    | dsimp only)

theorem liftCmd_only (x : LiftCmd) (s : State) : Only 2636184 s (liftCmd x s) := by
  unfold liftCmd
  try dsimp only
  repeat' (first
    | with_reducible exact Only.refl _ _
    | with_reducible assumption
    | decide
    | (with_reducible
        first
          | refine Only.ite ?_ ?_ | refine Only.ite_snd ?_ ?_ | refine Only.ite_fst ?_ ?_
          | apply Only.app (correctStart_only ..) | apply Only.app (inService_only ..)
          | apply Only.app (inspMove_only ..) | apply Only.app (learnStart_only ..)
          | apply Only.app (liftEvent_only ..) | apply Only.app (outOfService_only ..)
          | apply Only.app (registerCall_only ..) | apply Only.app (registerCarCall_only ..)
          | apply Only.app (testRun_only ..))
    | split
    | dsimp only)

theorem liftRow_only (x : LiftCmd) (s : State) : Only 2636184 s (liftRow x s) := by
  unfold liftRow
  try dsimp only
  repeat' (first
    | with_reducible exact Only.refl _ _
    | with_reducible assumption
    | decide
    | (with_reducible
        first
          | refine Only.ite ?_ ?_ | refine Only.ite_snd ?_ ?_ | refine Only.ite_fst ?_ ?_
          | apply Only.app (liftCmd_only ..))
    | split
    | dsimp only)

theorem liftPump_only  : ∀ (f : Nat) (s : State), Only 2636184 s (liftPump  f s)
  | 0, s => by
    unfold liftPump
    exact Only.refl _ _
  | f + 1, s => by
    unfold liftPump
    try dsimp only
    repeat' (first
      | with_reducible exact Only.refl _ _
      | with_reducible assumption
      | decide
      | (with_reducible
          first
            | refine Only.ite ?_ ?_ | refine Only.ite_snd ?_ ?_ | refine Only.ite_fst ?_ ?_
            | apply Only.app (liftCmd_only ..) | apply Only.app (liftEvent_only ..) | apply Only.app (qAck_only ..)
            | apply Only.app (qDequeue_only ..) | apply Only.app (liftPump_only ..))
      | split
      | dsimp only)

theorem carServo_only (c : Nat) (inc : Int) (both : Bool) (ssi : SsiRead) (ageNs : Nat) (s : State) : Only 69745048 s (carServo c inc both ssi ageNs s) := by
  unfold carServo
  try dsimp only
  repeat' (first
    | with_reducible exact Only.refl _ _
    | with_reducible assumption
    | decide
    | (with_reducible
        first
          | refine Only.ite ?_ ?_ | refine Only.ite_snd ?_ ?_ | refine Only.ite_fst ?_ ?_
          | apply Only.app (carEvents_only ..) | apply Only.app (carMode_only ..)
          | apply Only.app (carPrepare_only ..) | apply Only.app (carPublish_only ..)
          | apply Only.app (carStep_only ..) | apply Only.app (liftPump_only ..)
          | apply Only.app (positionStep_only ..) | apply Only.app (setPointStep_only ..))
    | split
    | dsimp only)

theorem tripTimeout_only (c : Nat) (s : State) : Only 2103704 s (tripTimeout c s) := by
  unfold tripTimeout
  try dsimp only
  repeat' (first
    | with_reducible exact Only.refl _ _
    | with_reducible assumption
    | decide
    | (with_reducible
        first
          | refine Only.ite ?_ ?_ | refine Only.ite_snd ?_ ?_ | refine Only.ite_fst ?_ ?_
          | apply Only.app (carFault_only ..))
    | split
    | dsimp only)

theorem drivePdo_only (c : Nat) (pdo : Option (Bool × Option Nat)) (s : State) : Only 2103704 s (drivePdo c pdo s) := by
  unfold drivePdo
  try dsimp only
  repeat' (first
    | with_reducible exact Only.refl _ _
    | with_reducible assumption
    | decide
    | (with_reducible
        first
          | refine Only.ite ?_ ?_ | refine Only.ite_snd ?_ ?_ | refine Only.ite_fst ?_ ?_
          | apply Only.app (carFault_only ..) | apply Only.app (modCar_only ..))
    | split
    | dsimp only)

theorem liftTake_only (m : Memory) (s : State) : Only 264192 s (liftTake m s) := by
  unfold liftTake
  try dsimp only
  repeat' (first
    | (simp only [↓Only.mk_guard]; with_reducible refine Only.of_mk rfl ?_)
    | with_reducible exact Only.refl _ _
    | with_reducible assumption
    | decide
    | (with_reducible
        first
          | apply Only.app (modLift_only ..))
    | split
    | dsimp only)

theorem liftApply_only (s : State) : Only 264192 s (liftApply s) := by
  unfold liftApply
  try dsimp only
  repeat' (first
    | with_reducible exact Only.refl _ _
    | with_reducible assumption
    | decide
    | (with_reducible
        first
          | refine Only.ite ?_ ?_ | refine Only.ite_snd ?_ ?_ | refine Only.ite_fst ?_ ?_
          | apply Only.app (liftTake_only ..) | apply Only.app (modLift_only ..))
    | split
    | dsimp only)

theorem liftDeferred_only (s : State) : Only 2365848 s (liftDeferred s) := by
  unfold liftDeferred
  try dsimp only
  repeat' (first
    | with_reducible exact Only.refl _ _
    | with_reducible assumption
    | decide
    | (with_reducible
        first
          | refine Only.ite ?_ ?_ | refine Only.ite_snd ?_ ?_ | refine Only.ite_fst ?_ ?_
          | refine Only.foldl _ (fun _ _ _ => ?_) _ ?_ | refine Only.foldl_snd _ (fun _ _ _ => ?_) _ ?_
          | refine Only.foldl_fst _ (fun _ _ _ => ?_) _ ?_ | apply Only.app (floorReload_only ..)
          | apply Only.app (liftTake_only ..) | apply Only.app (modLift_only ..))
    | split
    | dsimp only)

theorem liftCtl_only (w : Word) (s : State) : Only 2365848 s (liftCtl w s) := by
  unfold liftCtl
  try dsimp only
  repeat' (first
    | with_reducible exact Only.refl _ _
    | with_reducible assumption
    | decide
    | (with_reducible
        first
          | refine Only.ite ?_ ?_ | refine Only.ite_snd ?_ ?_ | refine Only.ite_fst ?_ ?_
          | apply Only.app (energyReset_only ..) | apply Only.app (liftApply_only ..)
          | apply Only.app (reloadCars_only ..))
    | split
    | dsimp only)

theorem liftWrite_only (o : Nat) (w : Word) (s : State) : Only 2365848 s (liftWrite o w s) := by
  unfold liftWrite
  try dsimp only
  repeat' (first
    | with_reducible exact Only.refl _ _
    | with_reducible assumption
    | decide
    | (with_reducible
        first
          | refine Only.ite ?_ ?_ | refine Only.ite_snd ?_ ?_ | refine Only.ite_fst ?_ ?_
          | apply Only.app (liftCtl_only ..) | apply Only.app (modLift_only ..))
    | split
    | dsimp only)

theorem liftSafestop_only (s : State) : Only 2048 s (liftSafestop s) := by
  unfold liftSafestop
  try dsimp only
  repeat' (first
    | with_reducible exact Only.refl _ _
    | with_reducible assumption
    | decide
    | (with_reducible
        first
          | refine Only.ite ?_ ?_ | refine Only.ite_snd ?_ ?_ | refine Only.ite_fst ?_ ?_
          | refine Only.foldl _ (fun _ _ _ => ?_) _ ?_ | refine Only.foldl_snd _ (fun _ _ _ => ?_) _ ?_
          | refine Only.foldl_fst _ (fun _ _ _ => ?_) _ ?_ | apply Only.app (modCar_only ..)
          | apply Only.app (releaseCalls_only ..))
    | split
    | dsimp only)

theorem liftRecall_only (s : State) : Only 2099608 s (liftRecall s) := by
  unfold liftRecall
  try dsimp only
  repeat' (first
    | with_reducible exact Only.refl _ _
    | with_reducible assumption
    | decide
    | (with_reducible
        first
          | refine Only.ite ?_ ?_ | refine Only.ite_snd ?_ ?_ | refine Only.ite_fst ?_ ?_
          | refine Only.foldl _ (fun _ _ _ => ?_) _ ?_ | refine Only.foldl_snd _ (fun _ _ _ => ?_) _ ?_
          | refine Only.foldl_fst _ (fun _ _ _ => ?_) _ ?_ | apply Only.app (learnEnd_only ..)
          | apply Only.app (modCar_only ..) | apply Only.app (modGrp_only ..))
    | split
    | dsimp only)

theorem liftReset_only (s : State) : Only 2048 s (liftReset s) := by
  unfold liftReset
  try dsimp only
  repeat' (first
    | with_reducible exact Only.refl _ _
    | with_reducible assumption
    | decide
    | (with_reducible
        first
          | apply Only.app (modLift_only ..))
    | split
    | dsimp only)

theorem carStart_only (warm : Bool) (c : Nat) (s : State) : Only 2111896 s (carStart warm c s) := by
  unfold carStart
  try dsimp only
  repeat' (first
    | with_reducible exact Only.refl _ _
    | with_reducible assumption
    | decide
    | (with_reducible
        first
          | refine Only.ite ?_ ?_ | refine Only.ite_snd ?_ ?_ | refine Only.ite_fst ?_ ?_
          | apply Only.app (enterParked_only ..) | apply Only.app (floorFromNvm_only ..)
          | apply Only.app (loadFloor_only ..) | apply Only.app (modCar_only ..))
    | split
    | dsimp only)

theorem liftStep8_only (warm : Bool) (s : State) : Only 2374040 s (liftStep8 warm s) := by
  unfold liftStep8
  try dsimp only
  repeat' (first
    | with_reducible exact Only.refl _ _
    | with_reducible assumption
    | decide
    | (with_reducible
        first
          | refine Only.ite ?_ ?_ | refine Only.ite_snd ?_ ?_ | refine Only.ite_fst ?_ ?_
          | refine Only.foldl _ (fun _ _ _ => ?_) _ ?_ | refine Only.foldl_snd _ (fun _ _ _ => ?_) _ ?_
          | refine Only.foldl_fst _ (fun _ _ _ => ?_) _ ?_ | apply Only.app (carStart_only ..)
          | apply Only.app (liftApply_only ..) | apply Only.app (modLift_only ..))
    | split
    | dsimp only)

end Sys2Proof.Machine
end

