-- ==== Sys2Proof/Laws/OnlyPwmOps.lean ====
section
/-! SUPPORT. What each operation of Machine/PwmOps.lean can touch. -/
set_option linter.all false
set_option Elab.async false
namespace Sys2Proof.Machine
open Sys2Proof

theorem modChan_only (n : Nat) (f : PwmChan → PwmChan) (s : State) : Only 131072 s (modChan n f s) := by
  unfold modChan
  try dsimp only
  repeat' (first
    | (simp only [↓Only.mk_guard]; with_reducible refine Only.of_mk rfl ?_)
    | with_reducible exact Only.refl _ _
    | with_reducible assumption
    | decide
    | split
    | dsimp only)

theorem pwmTake_only (s : State) : Only 131072 s (pwmTake s) := by
  unfold pwmTake
  try dsimp only
  repeat' (first
    | (simp only [↓Only.mk_guard]; with_reducible refine Only.of_mk rfl ?_)
    | with_reducible exact Only.refl _ _
    | with_reducible assumption
    | decide
    | (with_reducible
        first
          | refine Only.foldl _ (fun _ _ _ => ?_) _ ?_ | refine Only.foldl_snd _ (fun _ _ _ => ?_) _ ?_
          | refine Only.foldl_fst _ (fun _ _ _ => ?_) _ ?_)
    | split
    | dsimp only)

theorem pwmApply_only (s : State) : Only 131072 s (pwmApply s) := by
  unfold pwmApply
  try dsimp only
  repeat' (first
    | (simp only [↓Only.mk_guard]; with_reducible refine Only.of_mk rfl ?_)
    | with_reducible exact Only.refl _ _
    | with_reducible assumption
    | decide
    | (with_reducible
        first
          | apply Only.app (pwmTake_only ..))
    | split
    | dsimp only)

theorem pwmLoadPoint_only (n : Nat) (s : State) : Only 131072 s (pwmLoadPoint n s) := by
  unfold pwmLoadPoint
  try dsimp only
  repeat' (first
    | with_reducible exact Only.refl _ _
    | with_reducible assumption
    | decide
    | (with_reducible
        first
          | refine Only.ite ?_ ?_ | refine Only.ite_snd ?_ ?_ | refine Only.ite_fst ?_ ?_
          | apply Only.app (modChan_only ..))
    | split
    | dsimp only)

theorem pwmArrive_only (n code : Nat) (s : State) : Only 131072 s (pwmArrive n code s) := by
  unfold pwmArrive
  try dsimp only
  repeat' (first
    | with_reducible exact Only.refl _ _
    | with_reducible assumption
    | decide
    | (with_reducible
        first
          | apply Only.app (modChan_only ..))
    | split
    | dsimp only)

theorem pwmCodeWrite_only (n : Nat) (w : Word) (s : State) : Only 131072 s (pwmCodeWrite n w s) := by
  unfold pwmCodeWrite
  try dsimp only
  repeat' (first
    | with_reducible exact Only.refl _ _
    | with_reducible assumption
    | decide
    | (with_reducible
        first
          | refine Only.ite ?_ ?_ | refine Only.ite_snd ?_ ?_ | refine Only.ite_fst ?_ ?_
          | apply Only.app (modChan_only ..) | apply Only.app (pwmArrive_only ..))
    | split
    | dsimp only)

theorem pwmStrobe_only (groups : Nat) (s : State) : Only 67240208 s (pwmStrobe groups s) := by
  unfold pwmStrobe
  try dsimp only
  repeat' (first
    | with_reducible exact Only.refl _ _
    | with_reducible assumption
    | decide
    | (with_reducible
        first
          | refine Only.ite ?_ ?_ | refine Only.ite_snd ?_ ?_ | refine Only.ite_fst ?_ ?_
          | refine Only.foldl _ (fun _ _ _ => ?_) _ ?_ | refine Only.foldl_snd _ (fun _ _ _ => ?_) _ ?_
          | refine Only.foldl_fst _ (fun _ _ _ => ?_) _ ?_ | apply Only.app (pwmArrive_only ..))
    | split
    | dsimp only)

theorem pwmFault_only (n cause : Nat) (s : State) : Only 131072 s (pwmFault n cause s) := by
  unfold pwmFault
  try dsimp only
  repeat' (first
    | with_reducible exact Only.refl _ _
    | with_reducible assumption
    | decide
    | (with_reducible
        first
          | refine Only.ite ?_ ?_ | refine Only.ite_snd ?_ ?_ | refine Only.ite_fst ?_ ?_
          | apply Only.app (modChan_only ..))
    | split
    | dsimp only)

theorem pwmEmptyTick_only (n : Nat) (s : State) : Only 131072 s (pwmEmptyTick n s) := by
  unfold pwmEmptyTick
  try dsimp only
  repeat' (first
    | with_reducible exact Only.refl _ _
    | with_reducible assumption
    | decide
    | (with_reducible
        first
          | refine Only.ite ?_ ?_ | refine Only.ite_snd ?_ ?_ | refine Only.ite_fst ?_ ?_
          | apply Only.app (modChan_only ..) | apply Only.app (pwmFault_only ..))
    | split
    | dsimp only)

theorem pwmTickChan_only (n : Nat) (s : State) : Only 131480 s (pwmTickChan n s) := by
  unfold pwmTickChan
  try dsimp only
  repeat' (first
    | with_reducible exact Only.refl _ _
    | with_reducible assumption
    | decide
    | (with_reducible
        first
          | refine Only.ite ?_ ?_ | refine Only.ite_snd ?_ ?_ | refine Only.ite_fst ?_ ?_
          | apply Only.app (modChan_only ..) | apply Only.app (pwmArrive_only ..)
          | apply Only.app (pwmEmptyTick_only ..) | apply Only.app (pwmFault_only ..) | apply Only.app (qAck_only ..)
          | apply Only.app (qDequeue_only ..))
    | split
    | dsimp only)

theorem pwmTick_only (g : Nat) (s : State) : Only 131480 s (pwmTick g s) := by
  unfold pwmTick
  try dsimp only
  repeat' (first
    | with_reducible exact Only.refl _ _
    | with_reducible assumption
    | decide
    | (with_reducible
        first
          | refine Only.ite ?_ ?_ | refine Only.ite_snd ?_ ?_ | refine Only.ite_fst ?_ ?_
          | refine Only.foldl _ (fun _ _ _ => ?_) _ ?_ | refine Only.foldl_snd _ (fun _ _ _ => ?_) _ ?_
          | refine Only.foldl_fst _ (fun _ _ _ => ?_) _ ?_ | apply Only.app (pwmTickChan_only ..))
    | split
    | dsimp only)

theorem pwmFaultClear_only (m : Nat) (s : State) : Only 131072 s (pwmFaultClear m s) := by
  unfold pwmFaultClear
  try dsimp only
  repeat' (first
    | (simp only [↓Only.mk_guard]; with_reducible refine Only.of_mk rfl ?_)
    | with_reducible exact Only.refl _ _
    | with_reducible assumption
    | decide
    | (with_reducible
        first
          | refine Only.ite ?_ ?_ | refine Only.ite_snd ?_ ?_ | refine Only.ite_fst ?_ ?_
          | refine Only.foldl _ (fun _ _ _ => ?_) _ ?_ | refine Only.foldl_snd _ (fun _ _ _ => ?_) _ ?_
          | refine Only.foldl_fst _ (fun _ _ _ => ?_) _ ?_ | apply Only.app (modChan_only ..))
    | split
    | dsimp only)

theorem pwmGenSync_only (m : Nat) (s : State) : Only 131072 s (pwmGenSync m s) := by
  unfold pwmGenSync
  try dsimp only
  repeat' (first
    | (simp only [↓Only.mk_guard]; with_reducible refine Only.of_mk rfl ?_)
    | with_reducible exact Only.refl _ _
    | with_reducible assumption
    | decide
    | (with_reducible
        first
          | refine Only.foldl _ (fun _ _ _ => ?_) _ ?_ | refine Only.foldl_snd _ (fun _ _ _ => ?_) _ ?_
          | refine Only.foldl_fst _ (fun _ _ _ => ?_) _ ?_ | apply Only.app (modChan_only ..))
    | split
    | dsimp only)

theorem pwmReadEffect_only (o : Nat) (s : State) : Only 131072 s (pwmReadEffect o s) := by
  unfold pwmReadEffect
  try dsimp only
  repeat' (first
    | with_reducible exact Only.refl _ _
    | with_reducible assumption
    | decide
    | (with_reducible
        first
          | refine Only.ite ?_ ?_ | refine Only.ite_snd ?_ ?_ | refine Only.ite_fst ?_ ?_
          | apply Only.app (modChan_only ..))
    | split
    | dsimp only)

theorem pwmCtl_only (w : Word) (s : State) : Only 67240208 s (pwmCtl w s) := by
  unfold pwmCtl
  try dsimp only
  repeat' (first
    | with_reducible exact Only.refl _ _
    | with_reducible assumption
    | decide
    | (with_reducible
        first
          | refine Only.ite ?_ ?_ | refine Only.ite_snd ?_ ?_ | refine Only.ite_fst ?_ ?_
          | apply Only.app (pwmApply_only ..) | apply Only.app (pwmFaultClear_only ..)
          | apply Only.app (pwmGenSync_only ..) | apply Only.app (pwmStrobe_only ..))
    | split
    | dsimp only)

theorem pwmWrite_only (o : Nat) (w : Word) (s : State) : Only 67240208 s (pwmWrite o w s) := by
  unfold pwmWrite
  try dsimp only
  repeat' (first
    | (simp only [↓Only.mk_guard]; with_reducible refine Only.of_mk rfl ?_)
    | with_reducible exact Only.refl _ _
    | with_reducible assumption
    | decide
    | (with_reducible
        first
          | refine Only.ite ?_ ?_ | refine Only.ite_snd ?_ ?_ | refine Only.ite_fst ?_ ?_
          | apply Only.app (pwmCodeWrite_only ..) | apply Only.app (pwmCtl_only ..))
    | split
    | dsimp only)

theorem pwmLoadSafe_only (s : State) : Only 131072 s (pwmLoadSafe s) := by
  unfold pwmLoadSafe
  try dsimp only
  repeat' (first
    | (simp only [↓Only.mk_guard]; with_reducible refine Only.of_mk rfl ?_)
    | with_reducible exact Only.refl _ _
    | with_reducible assumption
    | decide
    | split
    | dsimp only)

theorem pwmRestartAll_only (s : State) : Only 131072 s (pwmRestartAll s) := by
  unfold pwmRestartAll
  try dsimp only
  repeat' (first
    | with_reducible exact Only.refl _ _
    | with_reducible assumption
    | decide
    | (with_reducible
        first
          | refine Only.foldl _ (fun _ _ _ => ?_) _ ?_ | refine Only.foldl_snd _ (fun _ _ _ => ?_) _ ?_
          | refine Only.foldl_fst _ (fun _ _ _ => ?_) _ ?_ | apply Only.app (modChan_only ..))
    | split
    | dsimp only)

theorem pwmEnterUpdate_only (s : State) : Only 131072 s (pwmEnterUpdate s) := by
  unfold pwmEnterUpdate
  try dsimp only
  repeat' (first
    | with_reducible exact Only.refl _ _
    | with_reducible assumption
    | decide
    | (with_reducible
        first
          | refine Only.foldl _ (fun _ _ _ => ?_) _ ?_ | refine Only.foldl_snd _ (fun _ _ _ => ?_) _ ?_
          | refine Only.foldl_fst _ (fun _ _ _ => ?_) _ ?_ | apply Only.app (modChan_only ..))
    | split
    | dsimp only)

theorem pwmEnterSafe_only (s : State) : Only 131072 s (pwmEnterSafe s) := by
  unfold pwmEnterSafe
  try dsimp only
  repeat' (first
    | with_reducible exact Only.refl _ _
    | with_reducible assumption
    | decide
    | (with_reducible
        first
          | refine Only.foldl _ (fun _ _ _ => ?_) _ ?_ | refine Only.foldl_snd _ (fun _ _ _ => ?_) _ ?_
          | refine Only.foldl_fst _ (fun _ _ _ => ?_) _ ?_ | apply Only.app (modChan_only ..))
    | split
    | dsimp only)

end Sys2Proof.Machine
end

