-- ==== Sys2Proof/Laws/OnlyConsentOps.lean ====
section
/-! SUPPORT. What each operation of Machine/ConsentOps.lean can touch. -/
set_option linter.all false
set_option Elab.async false
namespace Sys2Proof.Machine
open Sys2Proof

theorem modScope_only (k : Nat) (f : ScopeState → ScopeState) (s : State) : Only 80 s (modScope k f s) := by
  unfold modScope
  try dsimp only
  repeat' (first
    | (simp only [↓Only.mk_guard]; with_reducible refine Only.of_mk rfl ?_)
    | with_reducible exact Only.refl _ _
    | with_reducible assumption
    | decide
    | (with_reducible
        first
          | apply Only.app (setAttn_only ..))
    | split
    | dsimp only)

theorem settleMismatch_only (s : State) : Only 64 s (settleMismatch s) := by
  unfold settleMismatch
  try dsimp only
  repeat' (first
    | (simp only [↓Only.mk_guard]; with_reducible refine Only.of_mk rfl ?_)
    | with_reducible exact Only.refl _ _
    | with_reducible assumption
    | decide
    | (with_reducible
        first
          | refine Only.ite ?_ ?_ | refine Only.ite_snd ?_ ?_ | refine Only.ite_fst ?_ ?_)
    | split
    | dsimp only)

theorem endProposal_only (k reason : Nat) (s : State) : Only 2097264 s (endProposal k reason s) := by
  unfold endProposal
  try dsimp only
  repeat' (first
    | with_reducible exact Only.refl _ _
    | with_reducible assumption
    | decide
    | (with_reducible
        first
          | apply Only.app (appendLog_only ..) | apply Only.app (modScope_only ..)
          | apply Only.app (settleMismatch_only ..))
    | split
    | dsimp only)

theorem consentMode_only (m : Mode) (s : State) : Only 2097264 s (consentMode m s) := by
  unfold consentMode
  try dsimp only
  repeat' (first
    | with_reducible exact Only.refl _ _
    | with_reducible assumption
    | decide
    | (with_reducible
        first
          | refine Only.ite ?_ ?_ | refine Only.ite_snd ?_ ?_ | refine Only.ite_fst ?_ ?_
          | refine Only.foldl _ (fun _ _ _ => ?_) _ ?_ | refine Only.foldl_snd _ (fun _ _ _ => ?_) _ ?_
          | refine Only.foldl_fst _ (fun _ _ _ => ?_) _ ?_ | apply Only.app (endProposal_only ..))
    | split
    | dsimp only)

theorem refuseWith_only (reason : Nat) (s : State) : Only 64 s (refuseWith reason s).2 := by
  unfold refuseWith
  try dsimp only
  repeat' (first
    | (simp only [↓Only.mk_guard]; with_reducible refine Only.of_mk rfl ?_)
    | with_reducible exact Only.refl _ _
    | with_reducible assumption
    | decide
    | split
    | dsimp only)

theorem spendDigest_only (ch : Channel) (s : State) : Only 64 s (spendDigest ch s) := by
  unfold spendDigest
  try dsimp only
  repeat' (first
    | (simp only [↓Only.mk_guard]; with_reducible refine Only.of_mk rfl ?_)
    | with_reducible exact Only.refl _ _
    | with_reducible assumption
    | decide
    | (with_reducible
        first
          | refine Only.ite ?_ ?_ | refine Only.ite_snd ?_ ?_ | refine Only.ite_fst ?_ ?_)
    | split
    | dsimp only)

theorem propose_only (ch : Channel) (w : Word) (s : State) : Only 2097264 s (propose ch w s).2 := by
  unfold propose
  try dsimp only
  repeat' (first
    | with_reducible exact Only.refl _ _
    | with_reducible assumption
    | decide
    | (with_reducible
        first
          | refine Only.ite ?_ ?_ | refine Only.ite_snd ?_ ?_ | refine Only.ite_fst ?_ ?_
          | apply Only.app (endProposal_only ..) | apply Only.app (modScope_only ..)
          | apply Only.app (refuseWith_only ..) | apply Only.app (spendDigest_only ..))
    | split
    | dsimp only)

theorem withdraw_only (ch : Channel) (w : Word) (s : State) : Only 2097264 s (withdraw ch w s).2 := by
  unfold withdraw
  try dsimp only
  repeat' (first
    | with_reducible exact Only.refl _ _
    | with_reducible assumption
    | decide
    | (with_reducible
        first
          | refine Only.ite ?_ ?_ | refine Only.ite_snd ?_ ?_ | refine Only.ite_fst ?_ ?_
          | apply Only.app (endProposal_only ..) | apply Only.app (refuseWith_only ..)
          | apply Only.app (spendDigest_only ..))
    | split
    | dsimp only)

theorem tooManyTags_only (s : State) : Only 2097264 s (tooManyTags s) := by
  unfold tooManyTags
  try dsimp only
  repeat' (first
    | with_reducible exact Only.refl _ _
    | with_reducible assumption
    | decide
    | (with_reducible
        first
          | refine Only.ite ?_ ?_ | refine Only.ite_snd ?_ ?_ | refine Only.ite_fst ?_ ?_
          | refine Only.foldl _ (fun _ _ _ => ?_) _ ?_ | refine Only.foldl_snd _ (fun _ _ _ => ?_) _ ?_
          | refine Only.foldl_fst _ (fun _ _ _ => ?_) _ ?_ | apply Only.app (endProposal_only ..))
    | split
    | dsimp only)

theorem confirm_only (ch : Channel) (tag : Word) (s : State) : Only 2097264 s (confirm ch tag s).2 := by
  unfold confirm
  try dsimp only
  repeat' (first
    | (simp only [↓Only.mk_guard]; with_reducible refine Only.of_mk rfl ?_)
    | with_reducible exact Only.refl _ _
    | with_reducible assumption
    | decide
    | (with_reducible
        first
          | refine Only.ite ?_ ?_ | refine Only.ite_snd ?_ ?_ | refine Only.ite_fst ?_ ?_
          | apply Only.app (modScope_only ..) | apply Only.app (refuseWith_only ..)
          | apply Only.app (settleMismatch_only ..) | apply Only.app (tooManyTags_only ..))
    | split
    | dsimp only)

theorem hashingDone_only (k : Nat) (s : State) : Only 2097264 s (hashingDone k s) := by
  unfold hashingDone
  try dsimp only
  repeat' (first
    | with_reducible exact Only.refl _ _
    | with_reducible assumption
    | decide
    | (with_reducible
        first
          | refine Only.ite ?_ ?_ | refine Only.ite_snd ?_ ?_ | refine Only.ite_fst ?_ ?_
          | apply Only.app (endProposal_only ..) | apply Only.app (modScope_only ..))
    | split
    | dsimp only)

theorem windowExpiry_only (k : Nat) (s : State) : Only 2097264 s (windowExpiry k s) := by
  unfold windowExpiry
  try dsimp only
  repeat' (first
    | with_reducible exact Only.refl _ _
    | with_reducible assumption
    | decide
    | (with_reducible
        first
          | refine Only.ite ?_ ?_ | refine Only.ite_snd ?_ ?_ | refine Only.ite_fst ?_ ?_
          | apply Only.app (endProposal_only ..))
    | split
    | dsimp only)

theorem logLost_only (s : State) : Only 2097248 s (logLost s) := by
  unfold logLost
  try dsimp only
  repeat' (first
    | (simp only [↓Only.mk_guard]; with_reducible refine Only.of_mk rfl ?_)
    | with_reducible exact Only.refl _ _
    | with_reducible assumption
    | decide
    | (with_reducible
        first
          | refine Only.foldl _ (fun _ _ _ => ?_) _ ?_ | refine Only.foldl_snd _ (fun _ _ _ => ?_) _ ?_
          | refine Only.foldl_fst _ (fun _ _ _ => ?_) _ ?_ | apply Only.app (appendLog_only ..))
    | split
    | dsimp only)

theorem consentReadEffect_only (o : Nat) (s : State) : Only 64 s (consentReadEffect o s) := by
  unfold consentReadEffect
  try dsimp only
  repeat' (first
    | (simp only [↓Only.mk_guard]; with_reducible refine Only.of_mk rfl ?_)
    | with_reducible exact Only.refl _ _
    | with_reducible assumption
    | decide
    | (with_reducible
        first
          | refine Only.ite ?_ ?_ | refine Only.ite_snd ?_ ?_ | refine Only.ite_fst ?_ ?_)
    | split
    | dsimp only)

theorem digestWrite_only (ch : Channel) (n : Nat) (w : Word) (s : State) : Only 64 s (digestWrite ch n w s) := by
  unfold digestWrite
  try dsimp only
  repeat' (first
    | (simp only [↓Only.mk_guard]; with_reducible refine Only.of_mk rfl ?_)
    | with_reducible exact Only.refl _ _
    | with_reducible assumption
    | decide
    | split
    | dsimp only)

theorem consentWrite_only (ch : Channel) (o : Nat) (w : Word) (s : State) : Only 2097264 s (consentWrite ch o w s).2 := by
  unfold consentWrite
  try dsimp only
  repeat' (first
    | (simp only [↓Only.mk_guard]; with_reducible refine Only.of_mk rfl ?_)
    | with_reducible exact Only.refl _ _
    | with_reducible assumption
    | decide
    | (with_reducible
        first
          | refine Only.ite ?_ ?_ | refine Only.ite_snd ?_ ?_ | refine Only.ite_fst ?_ ?_
          | apply Only.app (confirm_only ..) | apply Only.app (digestWrite_only ..) | apply Only.app (propose_only ..)
          | apply Only.app (withdraw_only ..))
    | split
    | dsimp only)

end Sys2Proof.Machine
end

