-- ==== Sys2Proof/Laws/OnlyCoreOps.lean ====
section
/-! SUPPORT. What each operation of Machine/CoreOps.lean can touch. -/
set_option linter.all false
set_option Elab.async false
namespace Sys2Proof.Machine
open Sys2Proof

theorem modCore_only (n : Nat) (f : CoreState → CoreState) (s : State) : Only 67109120 s (modCore n f s) := by
  unfold modCore
  try dsimp only
  repeat' (first
    | (simp only [↓Only.mk_guard]; with_reducible refine Only.of_mk rfl ?_)
    | with_reducible exact Only.refl _ _
    | with_reducible assumption
    | decide
    | split
    | dsimp only)

theorem writeFrame_only (n sp : Nat) (ws : List Word) (s : State) : Only 6291456 s (writeFrame n sp ws s) := by
  unfold writeFrame
  try dsimp only
  repeat' (first
    | (simp only [↓Only.mk_guard]; with_reducible refine Only.of_mk rfl ?_ (pm := ?_))
    | with_reducible exact Only.refl _ _
    | with_reducible assumption
    | decide
    | (with_reducible
        first
          | refine Only.foldl _ (fun _ _ _ => ?_) _ ?_ | refine Only.foldl_snd _ (fun _ _ _ => ?_) _ ?_
          | refine Only.foldl_fst _ (fun _ _ _ => ?_) _ ?_)
    | (intro h; (repeat' (with_reducible first | exact h | assumption | refine Memory.writeW_wf _ _ ?_ | refine Memory.filter_wf _ ?_ | refine Memory.write_wf _ _ ?_ | refine Memory.foldl_wf _ (fun _ _ _ => ?_) _ ?_ | refine Memory.foldl_fst_wf _ (fun _ _ _ => ?_) _ ?_ | split | dsimp only)); done)
    | split
    | dsimp only)

theorem doubleFault_only (n vec fcause spc : Nat) (s : State) : Only 67109136 s (doubleFault n vec fcause spc s) := by
  unfold doubleFault
  try dsimp only
  repeat' (first
    | with_reducible exact Only.refl _ _
    | with_reducible assumption
    | decide
    | (with_reducible
        first
          | apply Only.app (modCore_only ..) | apply Only.app (setAttn_only ..))
    | split
    | dsimp only)

theorem stackFault_only (n vec fcause spc : Nat) (s : State) : Only 67109136 s (stackFault n vec fcause spc s) := by
  unfold stackFault
  try dsimp only
  repeat' (first
    | with_reducible exact Only.refl _ _
    | with_reducible assumption
    | decide
    | (with_reducible
        first
          | refine Only.ite ?_ ?_ | refine Only.ite_snd ?_ ?_ | refine Only.ite_fst ?_ ?_
          | apply Only.app (doubleFault_only ..) | apply Only.app (modCore_only ..))
    | split
    | dsimp only)

theorem stackEntry_only (n vec rpc : Nat) (faddr : Word) (s : State) : Only 73400592 s (stackEntry n vec rpc faddr s).2 := by
  unfold stackEntry
  try dsimp only
  repeat' (first
    | with_reducible exact Only.refl _ _
    | with_reducible assumption
    | decide
    | (with_reducible
        first
          | refine Only.ite ?_ ?_ | refine Only.ite_snd ?_ ?_ | refine Only.ite_fst ?_ ?_
          | apply Only.app (modCore_only ..) | apply Only.app (stackFault_only ..)
          | apply Only.app (writeFrame_only ..))
    | split
    | dsimp only)

theorem enterFast_only (n c : Nat) (s : State) : Only 67109120 s (enterFast n c s) := by
  unfold enterFast
  try dsimp only
  repeat' (first
    | with_reducible exact Only.refl _ _
    | with_reducible assumption
    | decide
    | (with_reducible
        first
          | apply Only.app (modCore_only ..))
    | split
    | dsimp only)

theorem enterHeld_only (n c : Nat) (s : State) : Only 73400592 s (enterHeld n c s) := by
  unfold enterHeld
  try dsimp only
  repeat' (first
    | with_reducible exact Only.refl _ _
    | with_reducible assumption
    | decide
    | (with_reducible
        first
          | refine Only.ite ?_ ?_ | refine Only.ite_snd ?_ ?_ | refine Only.ite_fst ?_ ?_
          | apply Only.app (modCore_only ..) | apply Only.app (stackEntry_only ..))
    | split
    | dsimp only)

theorem enterException_only (n vec rpc : Nat) (faddr : Word) (s : State) : Only 73400592 s (enterException n vec rpc faddr s) := by
  unfold enterException
  try dsimp only
  repeat' (first
    | with_reducible exact Only.refl _ _
    | with_reducible assumption
    | decide
    | (with_reducible
        first
          | apply Only.app (stackEntry_only ..))
    | split
    | dsimp only)

theorem finishReti_only (n pc : Nat) (s : State) : Only 67109136 s (finishReti n pc s) := by
  unfold finishReti
  try dsimp only
  repeat' (first
    | with_reducible exact Only.refl _ _
    | with_reducible assumption
    | decide
    | (with_reducible
        first
          | refine Only.ite ?_ ?_ | refine Only.ite_snd ?_ ?_ | refine Only.ite_fst ?_ ?_
          | apply Only.app (modCore_only ..) | apply Only.app (stackFault_only ..))
    | split
    | dsimp only)

theorem afterBundle_only (n : Nat) (s : State) : Only 67109136 s (afterBundle n s) := by
  unfold afterBundle
  try dsimp only
  repeat' (first
    | with_reducible exact Only.refl _ _
    | with_reducible assumption
    | decide
    | (with_reducible
        first
          | refine Only.ite ?_ ?_ | refine Only.ite_snd ?_ ?_ | refine Only.ite_fst ?_ ?_
          | apply Only.app (finishReti_only ..) | apply Only.app (modCore_only ..))
    | split
    | dsimp only)

theorem ctlWrite_only (n key cmd : Nat) (s : State) : Only 67109136 s (ctlWrite n key cmd s) := by
  unfold ctlWrite
  try dsimp only
  repeat' (first
    | with_reducible exact Only.refl _ _
    | with_reducible assumption
    | decide
    | (with_reducible
        first
          | refine Only.ite ?_ ?_ | refine Only.ite_snd ?_ ?_ | refine Only.ite_fst ?_ ?_
          | apply Only.app (doubleFault_only ..) | apply Only.app (modCore_only ..))
    | split
    | dsimp only)

theorem coreRegReadEffect_only (n o : Nat) (s : State) : Only 67109120 s (coreRegReadEffect n o s) := by
  unfold coreRegReadEffect
  try dsimp only
  repeat' (first
    | with_reducible exact Only.refl _ _
    | with_reducible assumption
    | decide
    | (with_reducible
        first
          | apply Only.app (modCore_only ..))
    | split
    | dsimp only)

theorem dropWrite_only (n : Nat) (s : State) : Only 67109120 s (dropWrite n s) := by
  unfold dropWrite
  try dsimp only
  repeat' (first
    | with_reducible exact Only.refl _ _
    | with_reducible assumption
    | decide
    | (with_reducible
        first
          | apply Only.app (modCore_only ..))
    | split
    | dsimp only)

theorem debugReg_only (n : Nat) (f : CoreState → CoreState) (s : State) : Only 67109120 s (debugReg n f s) := by
  unfold debugReg
  try dsimp only
  repeat' (first
    | with_reducible exact Only.refl _ _
    | with_reducible assumption
    | decide
    | (with_reducible
        first
          | refine Only.ite ?_ ?_ | refine Only.ite_snd ?_ ?_ | refine Only.ite_fst ?_ ?_
          | apply Only.app (dropWrite_only ..) | apply Only.app (modCore_only ..))
    | split
    | dsimp only)

theorem wdogWrite_only (n : Nat) (w : Word) (s : State) : Only 83886344 s (wdogWrite n w s) := by
  unfold wdogWrite
  try dsimp only
  repeat' (first
    | with_reducible exact Only.refl _ _
    | with_reducible assumption
    | decide
    | (with_reducible
        first
          | refine Only.ite ?_ ?_ | refine Only.ite_snd ?_ ?_ | refine Only.ite_fst ?_ ?_
          | apply Only.app (modCore_only ..) | apply Only.app (modIsl_only ..))
    | split
    | dsimp only)

theorem coreRegWrite_only (n o : Nat) (w : Word) (s : State) : Only 83886360 s (coreRegWrite n o w s) := by
  unfold coreRegWrite
  try dsimp only
  repeat' (first
    | with_reducible exact Only.refl _ _
    | with_reducible assumption
    | decide
    | (with_reducible
        first
          | refine Only.ite ?_ ?_ | refine Only.ite_snd ?_ ?_ | refine Only.ite_fst ?_ ?_
          | apply Only.app (ctlWrite_only ..) | apply Only.app (debugReg_only ..) | apply Only.app (modCore_only ..)
          | apply Only.app (wdogWrite_only ..))
    | split
    | dsimp only)

end Sys2Proof.Machine
end

