-- ==== Sys2Proof/Laws/OnlyCoreLoad.lean ====
section
/-! SUPPORT. What each operation of Machine/CoreLoad.lean can touch. -/
set_option linter.all false
set_option Elab.async false
namespace Sys2Proof.Machine
open Sys2Proof

theorem storeImage_only (p : Nat × Image) (s : State) : Only 6291456 s (storeImage p s) := by
  unfold storeImage
  try dsimp only
  repeat' (first
    | (simp only [↓Only.mk_guard]; with_reducible refine Only.of_mk rfl ?_ (pm := ?_))
    | with_reducible exact Only.refl _ _
    | with_reducible assumption
    | decide
    | (intro h; (repeat' (with_reducible first | exact h | assumption | refine Memory.writeBytes_wf _ _ ?_ | refine Memory.filter_wf _ ?_ | refine Memory.write_wf _ _ ?_ | split | dsimp only)); done)
    | split
    | dsimp only)

theorem storeImages_only (s : State) : Only 6291520 s (storeImages s) := by
  unfold storeImages
  try dsimp only
  repeat' (first
    | (simp only [↓Only.mk_guard]; with_reducible refine Only.of_mk rfl ?_)
    | with_reducible exact Only.refl _ _
    | with_reducible assumption
    | decide
    | (with_reducible
        first
          | refine Only.foldl _ (fun _ _ _ => ?_) _ ?_ | refine Only.foldl_snd _ (fun _ _ _ => ?_) _ ?_
          | refine Only.foldl_fst _ (fun _ _ _ => ?_) _ ?_ | apply Only.app (storeImage_only ..))
    | split
    | dsimp only)

theorem readableImage_only {x : Nat × Nat × Nat} {s t : State} (h : readableImage x s = some t) : Only 6291456 s t := by
  unfold readableImage at h
  dsimp only at h
  split at h
  · cases h
    exact Only.refl _ _
  · split at h
    · split at h
      · cases h
        exact Only.mono (storeImage_only _ _) (by decide)
      · cases h
    · cases h

theorem loadSections_only (n : Nat) (l : List Section) (s : State) : Only 2097152 s (loadSections n l s) := by
  unfold loadSections
  try dsimp only
  repeat' (first
    | (simp only [↓Only.mk_guard]; with_reducible refine Only.of_mk rfl ?_ (pm := ?_))
    | with_reducible exact Only.refl _ _
    | with_reducible assumption
    | decide
    | (with_reducible
        first
          | refine Only.foldl _ (fun _ _ _ => ?_) _ ?_ | refine Only.foldl_snd _ (fun _ _ _ => ?_) _ ?_
          | refine Only.foldl_fst _ (fun _ _ _ => ?_) _ ?_)
    | (intro h; (repeat' (with_reducible first | exact h | assumption | refine Memory.writeBytes_wf _ _ ?_ | refine Memory.write_wf _ _ ?_ | refine Memory.foldl_wf _ (fun _ _ _ => ?_) _ ?_ | refine Memory.foldl_fst_wf _ (fun _ _ _ => ?_) _ ?_ | split | dsimp only)); done)
    | split
    | dsimp only)

theorem loadCore_only (n : Nat) (s : State) : Only 6291456 s (loadCore n s).2 := by
  unfold loadCore
  try dsimp only
  repeat' (first
    | (simp only [↓Only.mk_guard]; with_reducible refine Only.of_mk rfl ?_ (pm := ?_))
    | with_reducible exact Only.refl _ _
    | with_reducible assumption
    | decide
    | (with_reducible
        first
          | refine Only.ite ?_ ?_ | refine Only.ite_snd ?_ ?_ | refine Only.ite_fst ?_ ?_
          | refine Only.foldl _ (fun _ _ _ => ?_) _ ?_ | refine Only.foldl_snd _ (fun _ _ _ => ?_) _ ?_
          | refine Only.foldl_fst _ (fun _ _ _ => ?_) _ ?_ | apply Only.app (loadSections_only ..)
          | apply Only.app (readableImage_only (by assumption)))
    | (intro h; (repeat' (with_reducible first | exact h | assumption | refine Memory.filter_wf _ ?_ | refine Memory.clear_wf _ _ ?_ | refine Memory.foldl_wf _ (fun _ _ _ => ?_) _ ?_ | refine Memory.foldl_fst_wf _ (fun _ _ _ => ?_) _ ?_ | split | dsimp only)); done)
    | split
    | dsimp only)

theorem coreStart_only (n : Nat) (s : State) : Only 90177816 s (coreStart n s).2 := by
  unfold coreStart
  try dsimp only
  repeat' (first
    | with_reducible exact Only.refl _ _
    | with_reducible assumption
    | decide
    | (with_reducible
        first
          | refine Only.ite ?_ ?_ | refine Only.ite_snd ?_ ?_ | refine Only.ite_fst ?_ ?_
          | apply Only.app (latchIsl_only ..) | apply Only.app (loadCore_only ..) | apply Only.app (modCore_only ..)
          | apply Only.app (modIsl_only ..))
    | split
    | dsimp only)

theorem coreReset_only (n : Nat) (s : State) : Only 90177816 s (coreReset n s) := by
  unfold coreReset
  try dsimp only
  repeat' (first
    | with_reducible exact Only.refl _ _
    | with_reducible assumption
    | decide
    | (with_reducible
        first
          | refine Only.ite ?_ ?_ | refine Only.ite_snd ?_ ?_ | refine Only.ite_fst ?_ ?_
          | apply Only.app (coreStart_only ..) | apply Only.app (modCore_only ..))
    | split
    | dsimp only)

end Sys2Proof.Machine
end

