-- ==== Sys2Proof/Laws/OnlyFcOps.lean ====
section
/-! SUPPORT. What each operation of Machine/FcOps.lean can touch. -/
set_option linter.all false
set_option Elab.async false
namespace Sys2Proof.Machine
open Sys2Proof

theorem modFc_only (f : FcState → FcState) (s : State) : Only 65536 s (modFc f s) := by
  unfold modFc
  try dsimp only
  repeat' (first
    | (simp only [↓Only.mk_guard]; with_reducible refine Only.of_mk rfl ?_)
    | with_reducible exact Only.refl _ _
    | with_reducible assumption
    | decide
    | split
    | dsimp only)

theorem modSlot_only (k : Nat) (f : FcSlot → FcSlot) (s : State) : Only 65536 s (modSlot k f s) := by
  unfold modSlot
  try dsimp only
  repeat' (first
    | with_reducible exact Only.refl _ _
    | with_reducible assumption
    | decide
    | (with_reducible
        first
          | apply Only.app (modFc_only ..))
    | split
    | dsimp only)

theorem modStream_only (i : Nat) (f : FcStream → FcStream) (s : State) : Only 65536 s (modStream i f s) := by
  unfold modStream
  try dsimp only
  repeat' (first
    | with_reducible exact Only.refl _ _
    | with_reducible assumption
    | decide
    | (with_reducible
        first
          | refine Only.ite ?_ ?_ | refine Only.ite_snd ?_ ?_ | refine Only.ite_fst ?_ ?_
          | apply Only.app (modFc_only ..))
    | split
    | dsimp only)

theorem putEntry_only (i : Nat) (s : State) : Only 2097152 s (putEntry i s) := by
  unfold putEntry
  try dsimp only
  repeat' (first
    | (simp only [↓Only.mk_guard]; with_reducible refine Only.of_mk rfl ?_ (pm := ?_))
    | with_reducible exact Only.refl _ _
    | with_reducible assumption
    | decide
    | (intro h; (repeat' (with_reducible first | exact h | assumption | refine Memory.writeBytes_wf _ _ ?_ | refine Memory.write_wf _ _ ?_ | split | dsimp only)); done)
    | split
    | dsimp only)

theorem fcNotice_only (typ : Nat) (set : Bool) (stream source time : Nat) (s : State) : Only 2163096 s (fcNotice typ set stream source time s) := by
  unfold fcNotice
  try dsimp only
  repeat' (first
    | with_reducible exact Only.refl _ _
    | with_reducible assumption
    | decide
    | (with_reducible
        first
          | refine Only.ite ?_ ?_ | refine Only.ite_snd ?_ ?_ | refine Only.ite_fst ?_ ?_
          | apply Only.app (modFc_only ..) | apply Only.app (qEnqueue_only ..))
    | split
    | dsimp only)

theorem flagChange_only (i kind : Nat) (set : Bool) (v : Int) (time : Nat) (s : State) : Only 2163128 s (flagChange i kind set v time s) := by
  unfold flagChange
  try dsimp only
  repeat' (first
    | with_reducible exact Only.refl _ _
    | with_reducible assumption
    | decide
    | (with_reducible
        first
          | apply Only.app (appendLog_only ..) | apply Only.app (fcNotice_only ..)
          | apply Only.app (modStream_only ..))
    | split
    | dsimp only)

theorem fcAckLead_only (k : Nat) : ∀ (f : Nat) (s : State), Only 65944 s (fcAckLead k f s)
  | 0, s => by
    unfold fcAckLead
    exact Only.refl _ _
  | f + 1, s => by
    unfold fcAckLead
    try dsimp only
    repeat' (first
      | with_reducible exact Only.refl _ _
      | with_reducible assumption
      | decide
      | (with_reducible
          first
            | apply Only.app (modSlot_only ..) | apply Only.app (qAck_only ..) | apply Only.app (fcAckLead_only ..))
      | split
      | dsimp only)

theorem fcDone_only (k : Nat) (tags : List Nat) (s : State) : Only 65944 s (fcDone k tags s) := by
  unfold fcDone
  try dsimp only
  repeat' (first
    | with_reducible exact Only.refl _ _
    | with_reducible assumption
    | decide
    | (with_reducible
        first
          | refine Only.ite ?_ ?_ | refine Only.ite_snd ?_ ?_ | refine Only.ite_fst ?_ ?_
          | apply Only.app (fcAckLead_only ..) | apply Only.app (modSlot_only ..))
    | split
    | dsimp only)

theorem fcInput_only (k : Nat) (s : State) : Only 2163096 s (fcInput k s) := by
  unfold fcInput
  try dsimp only
  repeat' (first
    | (simp only [↓Only.mk_guard]; with_reducible refine Only.of_mk rfl ?_)
    | with_reducible exact Only.refl _ _
    | with_reducible assumption
    | decide
    | (with_reducible
        first
          | refine Only.ite ?_ ?_ | refine Only.ite_snd ?_ ?_ | refine Only.ite_fst ?_ ?_
          | apply Only.app (fcDone_only ..) | apply Only.app (modFc_only ..) | apply Only.app (modSlot_only ..)
          | apply Only.app (modStream_only ..) | apply Only.app (putEntry_only ..) | apply Only.app (qDequeue_only ..))
    | split
    | dsimp only)

theorem startHead_only (s : State) : Only 65536 s (startHead s) := by
  unfold startHead
  try dsimp only
  repeat' (first
    | with_reducible exact Only.refl _ _
    | with_reducible assumption
    | decide
    | (with_reducible
        first
          | refine Only.ite ?_ ?_ | refine Only.ite_snd ?_ ?_ | refine Only.ite_fst ?_ ?_
          | apply Only.app (modFc_only ..))
    | split
    | dsimp only)

theorem chunksDue_only (s : State) : Only 65536 s (chunksDue s) := by
  unfold chunksDue
  try dsimp only
  repeat' (first
    | with_reducible exact Only.refl _ _
    | with_reducible assumption
    | decide
    | (with_reducible
        first
          | refine Only.ite ?_ ?_ | refine Only.ite_snd ?_ ?_ | refine Only.ite_fst ?_ ?_
          | refine Only.foldl _ (fun _ _ _ => ?_) _ ?_ | refine Only.foldl_snd _ (fun _ _ _ => ?_) _ ?_
          | refine Only.foldl_fst _ (fun _ _ _ => ?_) _ ?_ | apply Only.app (modFc_only ..)
          | apply Only.app (startHead_only ..))
    | split
    | dsimp only)

theorem putOut_only (a seq flags time : Nat) (out : List Int) (s : State) : Only 2097152 s (putOut a seq flags time out s) := by
  unfold putOut
  try dsimp only
  repeat' (first
    | (simp only [↓Only.mk_guard]; with_reducible refine Only.of_mk rfl ?_ (pm := ?_))
    | with_reducible exact Only.refl _ _
    | with_reducible assumption
    | decide
    | (intro h; (repeat' (with_reducible first | exact h | assumption | refine Memory.writeBytes_wf _ _ ?_ | refine Memory.write_wf _ _ ?_ | split | dsimp only)); done)
    | split
    | dsimp only)

theorem leakClose_only (i time : Nat) (s : State) : Only 2163128 s (leakClose i time s) := by
  unfold leakClose
  try dsimp only
  repeat' (first
    | with_reducible exact Only.refl _ _
    | with_reducible assumption
    | decide
    | (with_reducible
        first
          | refine Only.ite ?_ ?_ | refine Only.ite_snd ?_ ?_ | refine Only.ite_fst ?_ ?_
          | apply Only.app (flagChange_only ..) | apply Only.app (modStream_only ..))
    | split
    | dsimp only)

theorem leakRule_only (i : Nat) (e : FcStep) (s : State) : Only 2163128 s (leakRule i e s) := by
  unfold leakRule
  try dsimp only
  repeat' (first
    | with_reducible exact Only.refl _ _
    | with_reducible assumption
    | decide
    | (with_reducible
        first
          | refine Only.ite ?_ ?_ | refine Only.ite_snd ?_ ?_ | refine Only.ite_fst ?_ ?_
          | apply Only.app (leakClose_only ..) | apply Only.app (modStream_only ..))
    | split
    | dsimp only)

theorem scoreRule_only (i kind : Nat) (e : FcStep) (s : State) : Only 2163128 s (scoreRule i kind e s) := by
  unfold scoreRule
  try dsimp only
  repeat' (first
    | with_reducible exact Only.refl _ _
    | with_reducible assumption
    | decide
    | (with_reducible
        first
          | refine Only.ite ?_ ?_ | refine Only.ite_snd ?_ ?_ | refine Only.ite_fst ?_ ?_
          | apply Only.app (flagChange_only ..) | apply Only.app (modStream_only ..))
    | split
    | dsimp only)

theorem publishStep_only (i kind : Nat) (y : List Int) (e : FcStep) (s : State) : Only 2163128 s (publishStep i kind y e s) := by
  unfold publishStep
  try dsimp only
  repeat' (first
    | with_reducible exact Only.refl _ _
    | with_reducible assumption
    | decide
    | (with_reducible
        first
          | refine Only.ite ?_ ?_ | refine Only.ite_snd ?_ ?_ | refine Only.ite_fst ?_ ?_
          | apply Only.app (leakRule_only ..) | apply Only.app (modStream_only ..) | apply Only.app (putOut_only ..)
          | apply Only.app (scoreRule_only ..))
    | split
    | dsimp only)

theorem adaptStep_only (i : Nat) (f : List Byte) (r : RowSt) (e : FcStep) (s : State) : Only 2163096 s (adaptStep i f r e s) := by
  unfold adaptStep
  try dsimp only
  repeat' (first
    | (simp only [↓Only.mk_guard]; with_reducible refine Only.of_mk rfl ?_ (pm := ?_))
    | with_reducible exact Only.refl _ _
    | with_reducible assumption
    | decide
    | (with_reducible
        first
          | refine Only.ite ?_ ?_ | refine Only.ite_snd ?_ ?_ | refine Only.ite_fst ?_ ?_
          | apply Only.app (modStream_only ..) | apply Only.app (qEnqueue_only ..))
    | (intro h; (repeat' (with_reducible first | exact h | assumption | refine Memory.writeBytes_wf _ _ ?_ | refine Memory.write_wf _ _ ?_ | split | dsimp only)); done)
    | split
    | dsimp only)

theorem runRow_only (coarse : Bool) (i : Nat) (steps : List FcStep) (head : List Byte) (s : State) : Only 6357433 s (runRow coarse i steps head s) := by
  unfold runRow
  try dsimp only
  repeat' (first
    | (simp only [↓Only.mk_guard]; with_reducible refine Only.of_mk rfl ?_ (pm := ?_))
    | with_reducible exact Only.refl _ _
    | with_reducible assumption
    | decide
    | (with_reducible
        first
          | refine Only.ite ?_ ?_ | refine Only.ite_snd ?_ ?_ | refine Only.ite_fst ?_ ?_
          | refine Only.foldl _ (fun _ _ _ => ?_) _ ?_ | refine Only.foldl_snd _ (fun _ _ _ => ?_) _ ?_
          | refine Only.foldl_fst _ (fun _ _ _ => ?_) _ ?_ | apply Only.app (adaptStep_only ..)
          | apply Only.app (modFc_only ..) | apply Only.app (modStream_only ..) | apply Only.app (publishStep_only ..)
          | apply Only.app (putEntry_only ..))
    | (intro h; (repeat' (with_reducible first | exact h | assumption | refine Memory.writeBytes_wf _ _ ?_ | refine Memory.filter_wf _ ?_ | refine Memory.write_wf _ _ ?_ | refine Memory.foldl_wf _ (fun _ _ _ => ?_) _ ?_ | refine Memory.foldl_fst_wf _ (fun _ _ _ => ?_) _ ?_ | split | dsimp only)); done)
    | split
    | dsimp only)

theorem modelLost_only (k : Nat) (s : State) : Only 2163096 s (modelLost k s) := by
  unfold modelLost
  try dsimp only
  repeat' (first
    | with_reducible exact Only.refl _ _
    | with_reducible assumption
    | decide
    | (with_reducible
        first
          | refine Only.ite ?_ ?_ | refine Only.ite_snd ?_ ?_ | refine Only.ite_fst ?_ ?_
          | apply Only.app (fcNotice_only ..) | apply Only.app (modFc_only ..) | apply Only.app (modSlot_only ..))
    | split
    | dsimp only)

theorem seedStream_only (i : Nat) (s : State) : Only 2097152 s (seedStream i s) := by
  unfold seedStream
  try dsimp only
  repeat' (first
    | (simp only [↓Only.mk_guard]; with_reducible refine Only.of_mk rfl ?_ (pm := ?_))
    | with_reducible exact Only.refl _ _
    | with_reducible assumption
    | decide
    | (intro h; (repeat' (with_reducible first | exact h | assumption | refine Memory.writeBytes_wf _ _ ?_ | refine Memory.write_wf _ _ ?_ | split | dsimp only)); done)
    | split
    | dsimp only)

theorem fcCreate_only (i k src : Nat) (s : State) : Only 2162688 s (fcCreate i k src s).2 := by
  unfold fcCreate
  try dsimp only
  repeat' (first
    | with_reducible exact Only.refl _ _
    | with_reducible assumption
    | decide
    | (with_reducible
        first
          | refine Only.ite ?_ ?_ | refine Only.ite_snd ?_ ?_ | refine Only.ite_fst ?_ ?_
          | apply Only.app (modFc_only ..) | apply Only.app (putEntry_only ..) | apply Only.app (seedStream_only ..))
    | split
    | dsimp only)

theorem fcCtlApply_only (x : FcCtlOp) (s : State) : Only 2163096 s (fcCtlApply x s).2 := by
  unfold fcCtlApply
  try dsimp only
  repeat' (first
    | (simp only [↓Only.mk_guard]; with_reducible refine Only.of_mk rfl ?_ (pm := ?_))
    | with_reducible exact Only.refl _ _
    | with_reducible assumption
    | decide
    | (with_reducible
        first
          | refine Only.ite ?_ ?_ | refine Only.ite_snd ?_ ?_ | refine Only.ite_fst ?_ ?_
          | apply Only.app (fcCreate_only ..) | apply Only.app (fcDone_only ..) | apply Only.app (modFc_only ..)
          | apply Only.app (modStream_only ..) | apply Only.app (putEntry_only ..))
    | (intro h; (repeat' (with_reducible first | exact h | assumption | refine Memory.writeBytes_wf _ _ ?_ | refine Memory.write_wf _ _ ?_ | split | dsimp only)); done)
    | split
    | dsimp only)

theorem fcCtlRun_only (x : FcCtlOp) (s : State) : Only 2163096 s (fcCtlRun x s) := by
  unfold fcCtlRun
  try dsimp only
  repeat' (first
    | with_reducible exact Only.refl _ _
    | with_reducible assumption
    | decide
    | (with_reducible
        first
          | refine Only.ite ?_ ?_ | refine Only.ite_snd ?_ ?_ | refine Only.ite_fst ?_ ?_
          | apply Only.app (fcCtlApply_only ..) | apply Only.app (modFc_only ..))
    | split
    | dsimp only)

theorem fcStreamCtl_only (w : Word) (s : State) : Only 2163096 s (fcStreamCtl w s) := by
  unfold fcStreamCtl
  try dsimp only
  repeat' (first
    | with_reducible exact Only.refl _ _
    | with_reducible assumption
    | decide
    | (with_reducible
        first
          | refine Only.ite ?_ ?_ | refine Only.ite_snd ?_ ?_ | refine Only.ite_fst ?_ ?_
          | apply Only.app (fcCtlRun_only ..))
    | split
    | dsimp only)

theorem fcCtlDeferred_only (s : State) : Only 2163096 s (fcCtlDeferred s) := by
  unfold fcCtlDeferred
  try dsimp only
  repeat' (first
    | with_reducible exact Only.refl _ _
    | with_reducible assumption
    | decide
    | (with_reducible
        first
          | refine Only.ite ?_ ?_ | refine Only.ite_snd ?_ ?_ | refine Only.ite_fst ?_ ?_
          | apply Only.app (fcCtlRun_only ..))
    | split
    | dsimp only)

theorem batchEnd_only (s : State) : Only 6357433 s (batchEnd s) := by
  unfold batchEnd
  try dsimp only
  repeat' (first
    | with_reducible exact Only.refl _ _
    | with_reducible assumption
    | decide
    | (with_reducible
        first
          | refine Only.ite ?_ ?_ | refine Only.ite_snd ?_ ?_ | refine Only.ite_fst ?_ ?_
          | refine Only.foldl _ (fun _ _ _ => ?_) _ ?_ | refine Only.foldl_snd _ (fun _ _ _ => ?_) _ ?_
          | refine Only.foldl_fst _ (fun _ _ _ => ?_) _ ?_ | apply Only.app (fcDone_only ..)
          | apply Only.app (modFc_only ..) | apply Only.app (modelLost_only ..) | apply Only.app (runRow_only ..)
          | apply Only.app (startHead_only ..))
    | split
    | dsimp only)

theorem clampRecord_only (i : Nat) (s : State) : Only 2162720 s (clampRecord i s) := by
  unfold clampRecord
  try dsimp only
  repeat' (first
    | with_reducible exact Only.refl _ _
    | with_reducible assumption
    | decide
    | (with_reducible
        first
          | refine Only.ite ?_ ?_ | refine Only.ite_snd ?_ ?_ | refine Only.ite_fst ?_ ?_
          | refine Only.foldl _ (fun _ _ _ => ?_) _ ?_ | refine Only.foldl_snd _ (fun _ _ _ => ?_) _ ?_
          | refine Only.foldl_fst _ (fun _ _ _ => ?_) _ ?_ | apply Only.app (appendLog_only ..)
          | apply Only.app (modFc_only ..))
    | split
    | dsimp only)

theorem headUpdate_only (p : List Byte) (s : State) : Only 2163128 s (headUpdate p s) := by
  unfold headUpdate
  try dsimp only
  repeat' (first
    | (simp only [↓Only.mk_guard]; with_reducible refine Only.of_mk rfl ?_ (pm := ?_))
    | with_reducible exact Only.refl _ _
    | with_reducible assumption
    | decide
    | (with_reducible
        first
          | refine Only.ite ?_ ?_ | refine Only.ite_snd ?_ ?_ | refine Only.ite_fst ?_ ?_
          | refine Only.foldl _ (fun _ _ _ => ?_) _ ?_ | refine Only.foldl_snd _ (fun _ _ _ => ?_) _ ?_
          | refine Only.foldl_fst _ (fun _ _ _ => ?_) _ ?_ | apply Only.app (clampRecord_only ..)
          | apply Only.app (fcNotice_only ..) | apply Only.app (modFc_only ..))
    | (intro h; (repeat' (with_reducible first | exact h | assumption | refine Memory.writeN_wf _ _ _ ?_ | refine Memory.write_wf _ _ ?_ | refine Memory.foldl_wf _ (fun _ _ _ => ?_) _ ?_ | refine Memory.foldl_fst_wf _ (fun _ _ _ => ?_) _ ?_ | split | dsimp only)); done)
    | split
    | dsimp only)

theorem headEntry_only (s : State) : Only 2163128 s (headEntry s) := by
  unfold headEntry
  try dsimp only
  repeat' (first
    | with_reducible exact Only.refl _ _
    | with_reducible assumption
    | decide
    | (with_reducible
        first
          | refine Only.ite ?_ ?_ | refine Only.ite_snd ?_ ?_ | refine Only.ite_fst ?_ ?_
          | apply Only.app (headUpdate_only ..) | apply Only.app (qAck_only ..) | apply Only.app (qDequeue_only ..))
    | split
    | dsimp only)

theorem putSlotRec_only (k : Nat) (s : State) : Only 2097152 s (putSlotRec k s) := by
  unfold putSlotRec
  try dsimp only
  repeat' (first
    | (simp only [↓Only.mk_guard]; with_reducible refine Only.of_mk rfl ?_ (pm := ?_))
    | with_reducible exact Only.refl _ _
    | with_reducible assumption
    | decide
    | (intro h; (repeat' (with_reducible first | exact h | assumption | refine Memory.writeBytes_wf _ _ ?_ | refine Memory.write_wf _ _ ?_ | split | dsimp only)); done)
    | split
    | dsimp only)

theorem unloadSlot_only (k : Nat) (s : State) : Only 2162688 s (unloadSlot k s) := by
  unfold unloadSlot
  try dsimp only
  repeat' (first
    | with_reducible exact Only.refl _ _
    | with_reducible assumption
    | decide
    | (with_reducible
        first
          | apply Only.app (modFc_only ..) | apply Only.app (modSlot_only ..) | apply Only.app (putSlotRec_only ..))
    | split
    | dsimp only)

theorem fcApply_only (s : State) : Only 2162688 s (fcApply s) := by
  unfold fcApply
  try dsimp only
  repeat' (first
    | with_reducible exact Only.refl _ _
    | with_reducible assumption
    | decide
    | (with_reducible
        first
          | refine Only.ite ?_ ?_ | refine Only.ite_snd ?_ ?_ | refine Only.ite_fst ?_ ?_
          | refine Only.foldl _ (fun _ _ _ => ?_) _ ?_ | refine Only.foldl_snd _ (fun _ _ _ => ?_) _ ?_
          | refine Only.foldl_fst _ (fun _ _ _ => ?_) _ ?_ | apply Only.app (modFc_only ..)
          | apply Only.app (modSlot_only ..) | apply Only.app (putSlotRec_only ..)
          | apply Only.app (unloadSlot_only ..))
    | split
    | dsimp only)

theorem modelLoad_only (k : Nat) (s : State) : Only 65536 s (modelLoad k s) := by
  unfold modelLoad
  try dsimp only
  repeat' (first
    | with_reducible exact Only.refl _ _
    | with_reducible assumption
    | decide
    | (with_reducible
        first
          | refine Only.ite ?_ ?_ | refine Only.ite_snd ?_ ?_ | refine Only.ite_fst ?_ ?_
          | apply Only.app (modFc_only ..))
    | split
    | dsimp only)

theorem modelTake_only (k : Nat) (f : List Byte) (s : State) : Only 6357432 s (modelTake k f s) := by
  unfold modelTake
  try dsimp only
  repeat' (first
    | (simp only [↓Only.mk_guard]; with_reducible refine Only.of_mk rfl ?_ (pm := ?_))
    | with_reducible exact Only.refl _ _
    | with_reducible assumption
    | decide
    | (with_reducible
        first
          | refine Only.ite ?_ ?_ | refine Only.ite_snd ?_ ?_ | refine Only.ite_fst ?_ ?_
          | refine Only.foldl _ (fun _ _ _ => ?_) _ ?_ | refine Only.foldl_snd _ (fun _ _ _ => ?_) _ ?_
          | refine Only.foldl_fst _ (fun _ _ _ => ?_) _ ?_ | apply Only.app (appendLog_only ..)
          | apply Only.app (fcNotice_only ..) | apply Only.app (modFc_only ..) | apply Only.app (modSlot_only ..)
          | apply Only.app (modStream_only ..) | apply Only.app (putEntry_only ..)
          | apply Only.app (putSlotRec_only ..) | apply Only.app (seedStream_only ..))
    | (intro h; (repeat' (with_reducible first | exact h | assumption | refine Memory.writeBytes_wf _ _ ?_ | refine Memory.filter_wf _ ?_ | refine Memory.clear_wf _ _ ?_ | refine Memory.write_wf _ _ ?_ | refine Memory.foldl_wf _ (fun _ _ _ => ?_) _ ?_ | refine Memory.foldl_fst_wf _ (fun _ _ _ => ?_) _ ?_ | split | dsimp only)); done)
    | split
    | dsimp only)

theorem modelLoaded_only (file : Option (List Byte)) (s : State) : Only 6357432 s (modelLoaded file s) := by
  unfold modelLoaded
  try dsimp only
  repeat' (first
    | with_reducible exact Only.refl _ _
    | with_reducible assumption
    | decide
    | (with_reducible
        first
          | refine Only.ite ?_ ?_ | refine Only.ite_snd ?_ ?_ | refine Only.ite_fst ?_ ?_
          | apply Only.app (modFc_only ..) | apply Only.app (modelTake_only ..))
    | split
    | dsimp only)

theorem ckptStart_only (s : State) : Only 65536 s (ckptStart s) := by
  unfold ckptStart
  try dsimp only
  repeat' (first
    | with_reducible exact Only.refl _ _
    | with_reducible assumption
    | decide
    | (with_reducible
        first
          | apply Only.app (modFc_only ..))
    | split
    | dsimp only)

theorem ckptInterval_only (s : State) : Only 65536 s (ckptInterval s) := by
  unfold ckptInterval
  try dsimp only
  repeat' (first
    | with_reducible exact Only.refl _ _
    | with_reducible assumption
    | decide
    | (with_reducible
        first
          | refine Only.ite ?_ ?_ | refine Only.ite_snd ?_ ?_ | refine Only.ite_fst ?_ ?_
          | apply Only.app (ckptStart_only ..))
    | split
    | dsimp only)

theorem ckptDone_only (s : State) : Only 65536 s (ckptDone s) := by
  unfold ckptDone
  try dsimp only
  repeat' (first
    | with_reducible exact Only.refl _ _
    | with_reducible assumption
    | decide
    | (with_reducible
        first
          | refine Only.ite ?_ ?_ | refine Only.ite_snd ?_ ?_ | refine Only.ite_fst ?_ ?_
          | apply Only.app (modFc_only ..))
    | split
    | dsimp only)

theorem ckptRestore_only (s : State) : Only 2162688 s (ckptRestore s) := by
  unfold ckptRestore
  try dsimp only
  repeat' (first
    | (simp only [↓Only.mk_guard]; with_reducible refine Only.of_mk rfl ?_ (pm := ?_))
    | with_reducible exact Only.refl _ _
    | with_reducible assumption
    | decide
    | (with_reducible
        first
          | refine Only.ite ?_ ?_ | refine Only.ite_snd ?_ ?_ | refine Only.ite_fst ?_ ?_
          | refine Only.foldl _ (fun _ _ _ => ?_) _ ?_ | refine Only.foldl_snd _ (fun _ _ _ => ?_) _ ?_
          | refine Only.foldl_fst _ (fun _ _ _ => ?_) _ ?_ | apply Only.app (modStream_only ..)
          | apply Only.app (putEntry_only ..))
    | (intro h; (repeat' (with_reducible first | exact h | assumption | refine Memory.writeBytes_wf _ _ ?_ | refine Memory.write_wf _ _ ?_ | refine Memory.foldl_wf _ (fun _ _ _ => ?_) _ ?_ | refine Memory.foldl_fst_wf _ (fun _ _ _ => ?_) _ ?_ | split | dsimp only)); done)
    | split
    | dsimp only)

theorem fcFeed_only (i : Nat) (feat : List Int) (s : State) : Only 2163096 s (fcFeed i feat s) := by
  unfold fcFeed
  try dsimp only
  repeat' (first
    | with_reducible exact Only.refl _ _
    | with_reducible assumption
    | decide
    | (with_reducible
        first
          | refine Only.ite ?_ ?_ | refine Only.ite_snd ?_ ?_ | refine Only.ite_fst ?_ ?_
          | apply Only.app (modStream_only ..) | apply Only.app (qEnqueue_only ..))
    | split
    | dsimp only)

theorem feedLeak_only (src inc since : Nat) (s : State) : Only 2163096 s (feedLeak src inc since s) := by
  unfold feedLeak
  try dsimp only
  repeat' (first
    | with_reducible exact Only.refl _ _
    | with_reducible assumption
    | decide
    | (with_reducible
        first
          | refine Only.ite ?_ ?_ | refine Only.ite_snd ?_ ?_ | refine Only.ite_fst ?_ ?_
          | refine Only.foldl _ (fun _ _ _ => ?_) _ ?_ | refine Only.foldl_snd _ (fun _ _ _ => ?_) _ ?_
          | refine Only.foldl_fst _ (fun _ _ _ => ?_) _ ?_ | apply Only.app (fcFeed_only ..))
    | split
    | dsimp only)

theorem feedPulses_only (s : State) : Only 2163096 s (feedPulses s) := by
  unfold feedPulses
  try dsimp only
  repeat' (first
    | with_reducible exact Only.refl _ _
    | with_reducible assumption
    | decide
    | (with_reducible
        first
          | refine Only.ite ?_ ?_ | refine Only.ite_snd ?_ ?_ | refine Only.ite_fst ?_ ?_
          | refine Only.foldl _ (fun _ _ _ => ?_) _ ?_ | refine Only.foldl_snd _ (fun _ _ _ => ?_) _ ?_
          | refine Only.foldl_fst _ (fun _ _ _ => ?_) _ ?_ | apply Only.app (feedLeak_only ..)
          | apply Only.app (modFc_only ..))
    | split
    | dsimp only)

theorem feedDemand_only (g : Nat) (s : State) : Only 2163096 s (feedDemand g s) := by
  unfold feedDemand
  try dsimp only
  repeat' (first
    | with_reducible exact Only.refl _ _
    | with_reducible assumption
    | decide
    | (with_reducible
        first
          | refine Only.foldl _ (fun _ _ _ => ?_) _ ?_ | refine Only.foldl_snd _ (fun _ _ _ => ?_) _ ?_
          | refine Only.foldl_fst _ (fun _ _ _ => ?_) _ ?_ | apply Only.app (fcFeed_only ..))
    | split
    | dsimp only)

theorem fcReadEffect_only (o : Nat) (s : State) : Only 65536 s (fcReadEffect o s) := by
  unfold fcReadEffect
  try dsimp only
  repeat' (first
    | with_reducible exact Only.refl _ _
    | with_reducible assumption
    | decide
    | (with_reducible
        first
          | refine Only.ite ?_ ?_ | refine Only.ite_snd ?_ ?_ | refine Only.ite_fst ?_ ?_
          | apply Only.app (modFc_only ..))
    | split
    | dsimp only)

theorem fcCtl_only (w : Word) (s : State) : Only 2162688 s (fcCtl w s) := by
  unfold fcCtl
  try dsimp only
  repeat' (first
    | with_reducible exact Only.refl _ _
    | with_reducible assumption
    | decide
    | (with_reducible
        first
          | refine Only.ite ?_ ?_ | refine Only.ite_snd ?_ ?_ | refine Only.ite_fst ?_ ?_
          | apply Only.app (ckptStart_only ..) | apply Only.app (fcApply_only ..) | apply Only.app (modelLoad_only ..))
    | split
    | dsimp only)

theorem fcWrite_only (o : Nat) (w : Word) (s : State) : Only 2163096 s (fcWrite o w s) := by
  unfold fcWrite
  try dsimp only
  repeat' (first
    | with_reducible exact Only.refl _ _
    | with_reducible assumption
    | decide
    | (with_reducible
        first
          | refine Only.ite ?_ ?_ | refine Only.ite_snd ?_ ?_ | refine Only.ite_fst ?_ ?_
          | apply Only.app (fcCtl_only ..) | apply Only.app (fcStreamCtl_only ..) | apply Only.app (modFc_only ..))
    | split
    | dsimp only)

theorem fcDropWrite_only (s : State) : Only 65536 s (fcDropWrite s) := by
  unfold fcDropWrite
  try dsimp only
  repeat' (first
    | with_reducible exact Only.refl _ _
    | with_reducible assumption
    | decide
    | (with_reducible
        first
          | apply Only.app (modFc_only ..))
    | split
    | dsimp only)

theorem fcFenced_only (s : State) : Only 65536 s (fcFenced s) := by
  unfold fcFenced
  try dsimp only
  repeat' (first
    | (simp only [↓Only.mk_guard]; with_reducible refine Only.of_mk rfl ?_)
    | with_reducible exact Only.refl _ _
    | with_reducible assumption
    | decide
    | (with_reducible
        first
          | apply Only.app (modFc_only ..))
    | split
    | dsimp only)

theorem fcReset_only (s : State) : Only 65536 s (fcReset s) := by
  unfold fcReset
  try dsimp only
  repeat' (first
    | (simp only [↓Only.mk_guard]; with_reducible refine Only.of_mk rfl ?_)
    | with_reducible exact Only.refl _ _
    | with_reducible assumption
    | decide
    | (with_reducible
        first
          | apply Only.app (modFc_only ..))
    | split
    | dsimp only)

theorem fcStep8_only (warm : Bool) (files : List (Nat × Option (List Byte))) (streams : List (Nat × Nat × Nat)) (s : State) : Only 6357432 s (fcStep8 warm files streams s) := by
  unfold fcStep8
  try dsimp only
  repeat' (first
    | with_reducible exact Only.refl _ _
    | with_reducible assumption
    | decide
    | (with_reducible
        first
          | refine Only.ite ?_ ?_ | refine Only.ite_snd ?_ ?_ | refine Only.ite_fst ?_ ?_
          | refine Only.foldl _ (fun _ _ _ => ?_) _ ?_ | refine Only.foldl_snd _ (fun _ _ _ => ?_) _ ?_
          | refine Only.foldl_fst _ (fun _ _ _ => ?_) _ ?_ | apply Only.app (ckptRestore_only ..)
          | apply Only.app (fcApply_only ..) | apply Only.app (fcCreate_only ..) | apply Only.app (modFc_only ..)
          | apply Only.app (modelLoad_only ..) | apply Only.app (modelLoaded_only ..))
    | split
    | dsimp only)

theorem fcDormant_only (s : State) : Only 65536 s (fcDormant s) := by
  unfold fcDormant
  try dsimp only
  repeat' (first
    | with_reducible exact Only.refl _ _
    | with_reducible assumption
    | decide
    | (with_reducible
        first
          | refine Only.ite ?_ ?_ | refine Only.ite_snd ?_ ?_ | refine Only.ite_fst ?_ ?_
          | apply Only.app (ckptDone_only ..) | apply Only.app (ckptStart_only ..) | apply Only.app (modFc_only ..))
    | split
    | dsimp only)

end Sys2Proof.Machine
end

