-- ==== Sys2Proof/Laws/OnlyHooks.lean ====
section
/-! SUPPORT. What each operation of Machine/Hooks.lean can touch. -/
set_option linter.all false
set_option Elab.async false
namespace Sys2Proof.Machine
open Sys2Proof

theorem keepWakeCall_only (s : State) : Only 2 s (keepWakeCall s) := by
  unfold keepWakeCall
  try dsimp only
  repeat' (first
    | (simp only [↓Only.mk_guard]; with_reducible refine Only.of_mk rfl ?_)
    | with_reducible exact Only.refl _ _
    | with_reducible assumption
    | decide
    | split
    | dsimp only)

theorem coreAbort_only (i : Nat) (s : State) : Only 67109120 s (coreAbort i s) := by
  unfold coreAbort
  try dsimp only
  repeat' (first
    | with_reducible exact Only.refl _ _
    | with_reducible assumption
    | decide
    | (with_reducible
        first
          | refine Only.ite ?_ ?_ | refine Only.ite_snd ?_ ?_ | refine Only.ite_fst ?_ ?_
          | apply Only.app (modCore_only ..))
    | split
    | dsimp only)

theorem kerbSupplyAlarm_only (s : State) : Only 85999928 s (kerbSupplyAlarm s) := by
  unfold kerbSupplyAlarm
  try dsimp only
  repeat' (first
    | with_reducible exact Only.refl _ _
    | with_reducible assumption
    | decide
    | (with_reducible
        first
          | apply Only.app (kerbFault_only ..))
    | split
    | dsimp only)

theorem kerbSupplyClear_only (s : State) : Only 16777224 s (kerbSupplyClear s) := by
  unfold kerbSupplyClear
  try dsimp only
  repeat' (first
    | with_reducible exact Only.refl _ _
    | with_reducible assumption
    | decide
    | (with_reducible
        first
          | apply Only.app (kerbFaultGone_only ..))
    | split
    | dsimp only)

theorem engineReset_only (i : Nat) (s : State) : Only 91209496 s (engineReset i s) := by
  unfold engineReset
  try dsimp only
  repeat' (first
    | with_reducible exact Only.refl _ _
    | with_reducible assumption
    | decide
    | (with_reducible
        first
          | refine Only.ite ?_ ?_ | refine Only.ite_snd ?_ ?_ | refine Only.ite_fst ?_ ?_
          | apply Only.app (blvReset_only ..) | apply Only.app (bsReset_only ..) | apply Only.app (coreReset_only ..)
          | apply Only.app (doorReset_only ..) | apply Only.app (fcReset_only ..)
          | apply Only.app (ldgIoReset_only ..) | apply Only.app (ldgNightReset_only ..)
          | apply Only.app (liftReset_only ..) | apply Only.app (meterCoreReset_only ..)
          | apply Only.app (meterReset_only ..) | apply Only.app (motionReset_only ..)
          | apply Only.app (pwmRestartAll_only ..))
    | split
    | dsimp only)

theorem engineFenced_only (i : Nat) (s : State) : Only 2339224 s (engineFenced i s) := by
  unfold engineFenced
  try dsimp only
  repeat' (first
    | with_reducible exact Only.refl _ _
    | with_reducible assumption
    | decide
    | (with_reducible
        first
          | refine Only.ite ?_ ?_ | refine Only.ite_snd ?_ ?_ | refine Only.ite_fst ?_ ?_
          | refine Only.foldl _ (fun _ _ _ => ?_) _ ?_ | refine Only.foldl_snd _ (fun _ _ _ => ?_) _ ?_
          | refine Only.foldl_fst _ (fun _ _ _ => ?_) _ ?_ | apply Only.app (fcFenced_only ..)
          | apply Only.app (gatesOff_only ..) | apply Only.app (loseCore_only ..)
          | apply Only.app (motionFenced_only ..) | apply Only.app (pwmEnterSafe_only ..))
    | split
    | dsimp only)

theorem axesHold_only (s : State) : Only 2111896 s (axesHold s) := by
  unfold axesHold
  try dsimp only
  repeat' (first
    | with_reducible exact Only.refl _ _
    | with_reducible assumption
    | decide
    | (with_reducible
        first
          | apply Only.app (allGatesOff_only ..) | apply Only.app (motionHold_only ..))
    | split
    | dsimp only)

theorem engineMode_only (m : Mode) (s0 : State) : Only 69468088 s0 (engineMode m s0) := by
  unfold engineMode
  try dsimp only
  repeat' (first
    | with_reducible exact Only.refl _ _
    | with_reducible assumption
    | decide
    | (with_reducible
        first
          | refine Only.ite ?_ ?_ | refine Only.ite_snd ?_ ?_ | refine Only.ite_fst ?_ ?_
          | apply Only.app (axesHold_only ..) | apply Only.app (bsMode_only ..) | apply Only.app (doorReset_only ..)
          | apply Only.app (fcDormant_only ..) | apply Only.app (harmAbort_only ..) | apply Only.app (kerbOff_only ..)
          | apply Only.app (kerbTest_only ..) | apply Only.app (ldgDormant_only ..)
          | apply Only.app (liftRecall_only ..) | apply Only.app (liftReset_only ..)
          | apply Only.app (liftSafestop_only ..) | apply Only.app (meterDormant_only ..)
          | apply Only.app (motionReset_only ..) | apply Only.app (pwmEnterSafe_only ..)
          | apply Only.app (pwmEnterUpdate_only ..))
    | split
    | dsimp only)

theorem engineStep4_only (s : State) : Only 131072 s (engineStep4 s) := by
  unfold engineStep4
  try dsimp only
  repeat' (first
    | with_reducible exact Only.refl _ _
    | with_reducible assumption
    | decide
    | (with_reducible
        first
          | apply Only.app (pwmEnterSafe_only ..) | apply Only.app (pwmLoadSafe_only ..))
    | split
    | dsimp only)

theorem engineStep8_only (s : State) : Only 2506680 s (engineStep8 s) := by
  unfold engineStep8
  try dsimp only
  repeat' (first
    | (simp only [↓Only.mk_guard]; with_reducible refine Only.of_mk rfl ?_)
    | with_reducible exact Only.refl _ _
    | with_reducible assumption
    | decide
    | (with_reducible
        first
          | apply Only.app (doorStep8_only ..) | apply Only.app (ldgStep8_only ..)
          | apply Only.app (liftStep8_only ..) | apply Only.app (meterStart_only ..)
          | apply Only.app (motionStep8_only ..) | apply Only.app (pwmApply_only ..))
    | split
    | dsimp only)

theorem engineStep9_only (s : State) : Only 786432 s (engineStep9 s) := by
  unfold engineStep9
  try dsimp only
  repeat' (first
    | with_reducible exact Only.refl _ _
    | with_reducible assumption
    | decide
    | (with_reducible
        first
          | apply Only.app (blvJoin_only ..))
    | split
    | dsimp only)

theorem dormantSnapshot_only (s : State) : Only 6817208 s (dormantSnapshot s) := by
  unfold dormantSnapshot
  try dsimp only
  repeat' (first
    | with_reducible exact Only.refl _ _
    | with_reducible assumption
    | decide
    | (with_reducible
        first
          | apply Only.app (snapDormant_only ..))
    | split
    | dsimp only)

end Sys2Proof.Machine
end

