-- ==== Sys2Proof/Laws/OnlyIslOps.lean ====
section
/-! SUPPORT. What each operation of Machine/IslOps.lean can touch. -/
set_option linter.all false
set_option Elab.async false
namespace Sys2Proof.Machine
open Sys2Proof

theorem startIslClock_only (i : Nat) (s : State) : Only 4 s (startIslClock i s) := by
  unfold startIslClock
  try dsimp only
  repeat' (first
    | with_reducible exact Only.refl _ _
    | with_reducible assumption
    | decide
    | (with_reducible
        first
          | apply Only.app (startPll_only ..))
    | split
    | dsimp only)

theorem stopIdlePlls_only (s : State) : Only 4 s (stopIdlePlls s) := by
  unfold stopIdlePlls
  try dsimp only
  repeat' (first
    | with_reducible exact Only.refl _ _
    | with_reducible assumption
    | decide
    | (with_reducible
        first
          | refine Only.ite ?_ ?_ | refine Only.ite_snd ?_ ?_ | refine Only.ite_fst ?_ ?_
          | apply Only.app (stopPll_only ..))
    | split
    | dsimp only)

theorem fenceIsl_only (i : Nat) (c : FenceCause) (s : State) : Only 19116440 s (fenceIsl i c s) := by
  unfold fenceIsl
  try dsimp only
  repeat' (first
    | with_reducible exact Only.refl _ _
    | with_reducible assumption
    | decide
    | (with_reducible
        first
          | refine Only.ite ?_ ?_ | refine Only.ite_snd ?_ ?_ | refine Only.ite_fst ?_ ?_
          | apply Only.app (engineFenced_only ..) | apply Only.app (modIsl_only ..))
    | split
    | dsimp only)

theorem finishPowerDown_only (i : Nat) (s : State) : Only 16777228 s (finishPowerDown i s) := by
  unfold finishPowerDown
  try dsimp only
  repeat' (first
    | with_reducible exact Only.refl _ _
    | with_reducible assumption
    | decide
    | (with_reducible
        first
          | refine Only.ite ?_ ?_ | refine Only.ite_snd ?_ ?_ | refine Only.ite_fst ?_ ?_
          | apply Only.app (modIsl_only ..) | apply Only.app (stopIdlePlls_only ..))
    | split
    | dsimp only)

theorem drainFence_only (i : Nat) (s : State) : Only 16777228 s (drainFence i s) := by
  unfold drainFence
  try dsimp only
  repeat' (first
    | with_reducible exact Only.refl _ _
    | with_reducible assumption
    | decide
    | (with_reducible
        first
          | refine Only.ite ?_ ?_ | refine Only.ite_snd ?_ ?_ | refine Only.ite_fst ?_ ?_
          | apply Only.app (finishPowerDown_only ..) | apply Only.app (modIsl_only ..))
    | split
    | dsimp only)

theorem islReload_only (i : Nat) (s : State) : Only 91209496 s (islReload i s) := by
  unfold islReload
  try dsimp only
  repeat' (first
    | with_reducible exact Only.refl _ _
    | with_reducible assumption
    | decide
    | (with_reducible
        first
          | refine Only.ite ?_ ?_ | refine Only.ite_snd ?_ ?_ | refine Only.ite_fst ?_ ?_
          | apply Only.app (engineReset_only ..) | apply Only.app (modIsl_only ..))
    | split
    | dsimp only)

theorem islOn_only (i : Nat) (s : State) : Only 18874776 s (islOn i s) := by
  unfold islOn
  try dsimp only
  repeat' (first
    | with_reducible exact Only.refl _ _
    | with_reducible assumption
    | decide
    | (with_reducible
        first
          | refine Only.ite ?_ ?_ | refine Only.ite_snd ?_ ?_ | refine Only.ite_fst ?_ ?_
          | apply Only.app (modIsl_only ..) | apply Only.app (releaseSides_only ..))
    | split
    | dsimp only)

theorem releaseIsl_only (i : Nat) (s : State) : Only 91209628 s (releaseIsl i s) := by
  unfold releaseIsl
  try dsimp only
  repeat' (first
    | with_reducible exact Only.refl _ _
    | with_reducible assumption
    | decide
    | (with_reducible
        first
          | refine Only.ite ?_ ?_ | refine Only.ite_snd ?_ ?_ | refine Only.ite_fst ?_ ?_
          | apply Only.app (islOn_only ..) | apply Only.app (islReload_only ..) | apply Only.app (modIsl_only ..)
          | apply Only.app (startIslClock_only ..) | apply Only.app (stopIdlePlls_only ..))
    | split
    | dsimp only)

theorem steerIsl_only (i : Nat) (s : State) : Only 19116440 s (steerIsl i s) := by
  unfold steerIsl
  try dsimp only
  repeat' (first
    | with_reducible exact Only.refl _ _
    | with_reducible assumption
    | decide
    | (with_reducible
        first
          | refine Only.ite ?_ ?_ | refine Only.ite_snd ?_ ?_ | refine Only.ite_fst ?_ ?_
          | apply Only.app (fenceIsl_only ..) | apply Only.app (modIsl_only ..))
    | split
    | dsimp only)

theorem steerIslands_only (s : State) : Only 19116444 s (steerIslands s) := by
  unfold steerIslands
  try dsimp only
  repeat' (first
    | with_reducible exact Only.refl _ _
    | with_reducible assumption
    | decide
    | (with_reducible
        first
          | refine Only.foldl _ (fun _ _ _ => ?_) _ ?_ | refine Only.foldl_snd _ (fun _ _ _ => ?_) _ ?_
          | refine Only.foldl_fst _ (fun _ _ _ => ?_) _ ?_ | apply Only.app (steerIsl_only ..)
          | apply Only.app (stopIdlePlls_only ..))
    | split
    | dsimp only)

theorem gapRecord_only (i : Nat) (s : State) : Only 2097184 s (gapRecord i s) := by
  unfold gapRecord
  try dsimp only
  repeat' (first
    | with_reducible exact Only.refl _ _
    | with_reducible assumption
    | decide
    | (with_reducible
        first
          | refine Only.ite ?_ ?_ | refine Only.ite_snd ?_ ?_ | refine Only.ite_fst ?_ ?_
          | apply Only.app (appendLog_only ..))
    | split
    | dsimp only)

theorem islandFault_only (i : Nat) (s : State) : Only 19116472 s (islandFault i s) := by
  unfold islandFault
  try dsimp only
  repeat' (first
    | with_reducible exact Only.refl _ _
    | with_reducible assumption
    | decide
    | (with_reducible
        first
          | refine Only.ite ?_ ?_ | refine Only.ite_snd ?_ ?_ | refine Only.ite_fst ?_ ?_
          | apply Only.app (fenceIsl_only ..) | apply Only.app (gapRecord_only ..) | apply Only.app (latchIsl_only ..)
          | apply Only.app (modIsl_only ..))
    | split
    | dsimp only)

theorem pllTrip_only (p : Nat) (s : State) : Only 19116476 s (pllTrip p s) := by
  unfold pllTrip
  try dsimp only
  repeat' (first
    | with_reducible exact Only.refl _ _
    | with_reducible assumption
    | decide
    | (with_reducible
        first
          | refine Only.ite ?_ ?_ | refine Only.ite_snd ?_ ?_ | refine Only.ite_fst ?_ ?_
          | refine Only.foldl _ (fun _ _ _ => ?_) _ ?_ | refine Only.foldl_snd _ (fun _ _ _ => ?_) _ ?_
          | refine Only.foldl_fst _ (fun _ _ _ => ?_) _ ?_ | apply Only.app (islandFault_only ..)
          | apply Only.app (modIsl_only ..) | apply Only.app (modPll_only ..) | apply Only.app (setAttn_only ..)
          | apply Only.app (startRelock_only ..))
    | split
    | dsimp only)

theorem monTrip_only (p : Nat) (s : State) : Only 19116476 s (monTrip p s) := by
  unfold monTrip
  try dsimp only
  repeat' (first
    | (simp only [↓Only.mk_guard]; with_reducible refine Only.of_mk rfl ?_)
    | with_reducible exact Only.refl _ _
    | with_reducible assumption
    | decide
    | (with_reducible
        first
          | refine Only.ite ?_ ?_ | refine Only.ite_snd ?_ ?_ | refine Only.ite_fst ?_ ?_
          | apply Only.app (pllTrip_only ..))
    | split
    | dsimp only)

theorem lockLoss_only (p : Nat) (s : State) : Only 19116476 s (lockLoss p s) := by
  unfold lockLoss
  try dsimp only
  repeat' (first
    | (simp only [↓Only.mk_guard]; with_reducible refine Only.of_mk rfl ?_)
    | with_reducible exact Only.refl _ _
    | with_reducible assumption
    | decide
    | (with_reducible
        first
          | refine Only.ite ?_ ?_ | refine Only.ite_snd ?_ ?_ | refine Only.ite_fst ?_ ?_
          | apply Only.app (pllTrip_only ..))
    | split
    | dsimp only)

theorem lockSearchTimeout_only (p : Nat) (s : State) : Only 19116476 s (lockSearchTimeout p s) := by
  unfold lockSearchTimeout
  try dsimp only
  repeat' (first
    | (simp only [↓Only.mk_guard]; with_reducible refine Only.of_mk rfl ?_)
    | with_reducible exact Only.refl _ _
    | with_reducible assumption
    | decide
    | (with_reducible
        first
          | refine Only.ite ?_ ?_ | refine Only.ite_snd ?_ ?_ | refine Only.ite_fst ?_ ?_
          | apply Only.app (pllTrip_only ..))
    | split
    | dsimp only)

theorem markRefLost_only (b : Bool) (s : State) : Only 16777224 s (markRefLost b s) := by
  unfold markRefLost
  try dsimp only
  repeat' (first
    | with_reducible exact Only.refl _ _
    | with_reducible assumption
    | decide
    | (with_reducible
        first
          | refine Only.foldl _ (fun _ _ _ => ?_) _ ?_ | refine Only.foldl_snd _ (fun _ _ _ => ?_) _ ?_
          | refine Only.foldl_fst _ (fun _ _ _ => ?_) _ ?_ | apply Only.app (modIsl_only ..))
    | split
    | dsimp only)

theorem refclkLoss_only (s : State) : Only 16777756 s (refclkLoss s) := by
  unfold refclkLoss
  try dsimp only
  repeat' (first
    | (simp only [↓Only.mk_guard]; with_reducible refine Only.of_mk rfl ?_)
    | with_reducible exact Only.refl _ _
    | with_reducible assumption
    | decide
    | (with_reducible
        first
          | refine Only.ite ?_ ?_ | refine Only.ite_snd ?_ ?_ | refine Only.ite_fst ?_ ?_
          | refine Only.foldl _ (fun _ _ _ => ?_) _ ?_ | refine Only.foldl_snd _ (fun _ _ _ => ?_) _ ?_
          | refine Only.foldl_fst _ (fun _ _ _ => ?_) _ ?_ | apply Only.app (markRefLost_only ..)
          | apply Only.app (meterRefLoss_only ..) | apply Only.app (modPll_only ..) | apply Only.app (setAttn_only ..))
    | split
    | dsimp only)

theorem refclkRelock_only (s : State) : Only 18874940 s (refclkRelock s) := by
  unfold refclkRelock
  try dsimp only
  repeat' (first
    | (simp only [↓Only.mk_guard]; with_reducible refine Only.of_mk rfl ?_)
    | with_reducible exact Only.refl _ _
    | with_reducible assumption
    | decide
    | (with_reducible
        first
          | refine Only.ite ?_ ?_ | refine Only.ite_snd ?_ ?_ | refine Only.ite_fst ?_ ?_
          | refine Only.foldl _ (fun _ _ _ => ?_) _ ?_ | refine Only.foldl_snd _ (fun _ _ _ => ?_) _ ?_
          | refine Only.foldl_fst _ (fun _ _ _ => ?_) _ ?_ | apply Only.app (markRefLost_only ..)
          | apply Only.app (meterRefBack_only ..) | apply Only.app (startRelock_only ..))
    | split
    | dsimp only)

theorem fabricTimeout_only (initiator target : Nat) (s : State) : Only 92274968 s (fabricTimeout initiator target s) := by
  unfold fabricTimeout
  try dsimp only
  repeat' (first
    | with_reducible exact Only.refl _ _
    | with_reducible assumption
    | decide
    | (with_reducible
        first
          | apply Only.app (coreAbort_only ..) | apply Only.app (latchIsl_only ..)
          | apply Only.app (replyWith_only ..) | apply Only.app (setAttn_only ..))
    | split
    | dsimp only)

theorem burstStart_only (i : Nat) (s : State) : Only 91209628 s (burstStart i s) := by
  unfold burstStart
  try dsimp only
  repeat' (first
    | with_reducible exact Only.refl _ _
    | with_reducible assumption
    | decide
    | (with_reducible
        first
          | refine Only.ite ?_ ?_ | refine Only.ite_snd ?_ ?_ | refine Only.ite_fst ?_ ?_
          | apply Only.app (islReload_only ..) | apply Only.app (modIsl_only ..)
          | apply Only.app (releaseSides_only ..) | apply Only.app (startIslClock_only ..))
    | split
    | dsimp only)

theorem burstEnd_only (i : Nat) (s : State) : Only 16777228 s (burstEnd i s) := by
  unfold burstEnd
  try dsimp only
  repeat' (first
    | with_reducible exact Only.refl _ _
    | with_reducible assumption
    | decide
    | (with_reducible
        first
          | refine Only.ite ?_ ?_ | refine Only.ite_snd ?_ ?_ | refine Only.ite_fst ?_ ?_
          | apply Only.app (modIsl_only ..) | apply Only.app (stopIdlePlls_only ..))
    | split
    | dsimp only)

theorem dutyTick_only (s : State) : Only 91209628 s (dutyTick s) := by
  unfold dutyTick
  try dsimp only
  repeat' (first
    | (simp only [↓Only.mk_guard]; with_reducible refine Only.of_mk rfl ?_)
    | with_reducible exact Only.refl _ _
    | with_reducible assumption
    | decide
    | (with_reducible
        first
          | refine Only.ite ?_ ?_ | refine Only.ite_snd ?_ ?_ | refine Only.ite_fst ?_ ?_
          | apply Only.app (burstStart_only ..) | apply Only.app (raiseIrq_only ..))
    | split
    | dsimp only)

theorem islCtl_only (key m act : Nat) (s : State) : Only 91209628 s (islCtl key m act s).2 := by
  unfold islCtl
  try dsimp only
  repeat' (first
    | with_reducible exact Only.refl _ _
    | with_reducible assumption
    | decide
    | (with_reducible
        first
          | refine Only.ite ?_ ?_ | refine Only.ite_snd ?_ ?_ | refine Only.ite_fst ?_ ?_
          | refine Only.foldl _ (fun _ _ _ => ?_) _ ?_ | refine Only.foldl_snd _ (fun _ _ _ => ?_) _ ?_
          | refine Only.foldl_fst _ (fun _ _ _ => ?_) _ ?_ | apply Only.app (fenceIsl_only ..)
          | apply Only.app (islOn_only ..) | apply Only.app (islReload_only ..) | apply Only.app (modIsl_only ..)
          | apply Only.app (startIslClock_only ..))
    | split
    | dsimp only)

end Sys2Proof.Machine
end

