-- ==== Sys2Proof/Laws/OnlyModeOps.lean ====
section
/-! SUPPORT. What each operation of Machine/ModeOps.lean can touch. -/
set_option linter.all false
set_option Elab.async false
namespace Sys2Proof.Machine
open Sys2Proof

theorem cancelLater_only (m : Mode) (s : State) : Only 2 s (cancelLater m s) := by
  unfold cancelLater
  try dsimp only
  repeat' (first
    | (simp only [↓Only.mk_guard]; with_reducible refine Only.of_mk rfl ?_)
    | with_reducible exact Only.refl _ _
    | with_reducible assumption
    | decide
    | (with_reducible
        first
          | refine Only.ite ?_ ?_ | refine Only.ite_snd ?_ ?_ | refine Only.ite_fst ?_ ?_)
    | split
    | dsimp only)

theorem retargetCore_only (s : State) : Only 4 s (retargetCore s) := by
  unfold retargetCore
  try dsimp only
  repeat' (first
    | with_reducible exact Only.refl _ _
    | with_reducible assumption
    | decide
    | (with_reducible
        first
          | refine Only.ite ?_ ?_ | refine Only.ite_snd ?_ ?_ | refine Only.ite_fst ?_ ?_
          | apply Only.app (startRelock_only ..))
    | split
    | dsimp only)

theorem modePlls_only (s : State) : Only 4 s (modePlls s) := by
  unfold modePlls
  try dsimp only
  repeat' (first
    | with_reducible exact Only.refl _ _
    | with_reducible assumption
    | decide
    | (with_reducible
        first
          | refine Only.ite ?_ ?_ | refine Only.ite_snd ?_ ?_ | refine Only.ite_fst ?_ ?_
          | apply Only.app (startPll_only ..))
    | split
    | dsimp only)

theorem enterMode_only (m : Mode) (cause : Nat) (s : State) : Only 86245374 s (enterMode m cause s) := by
  unfold enterMode
  try dsimp only
  repeat' (first
    | (simp only [↓Only.mk_guard]; with_reducible refine Only.of_mk rfl ?_)
    | with_reducible exact Only.refl _ _
    | with_reducible assumption
    | decide
    | (with_reducible
        first
          | apply Only.app (cancelLater_only ..) | apply Only.app (consentMode_only ..)
          | apply Only.app (engineMode_only ..) | apply Only.app (modePlls_only ..)
          | apply Only.app (retargetCore_only ..) | apply Only.app (setAttn_only ..)
          | apply Only.app (steerIslands_only ..))
    | split
    | dsimp only)

theorem enterSafestop_only (cause : Nat) (s : State) : Only 86245374 s (enterSafestop cause s) := by
  unfold enterSafestop
  try dsimp only
  repeat' (first
    | (simp only [↓Only.mk_guard]; with_reducible refine Only.of_mk rfl ?_)
    | with_reducible exact Only.refl _ _
    | with_reducible assumption
    | decide
    | (with_reducible
        first
          | apply Only.app (appendLog_only ..) | apply Only.app (enterMode_only ..))
    | split
    | dsimp only)

theorem safestopCause_only (cause : Nat) (s : State) : Only 86245374 s (safestopCause cause s) := by
  unfold safestopCause
  try dsimp only
  repeat' (first
    | (simp only [↓Only.mk_guard]; with_reducible refine Only.of_mk rfl ?_)
    | with_reducible exact Only.refl _ _
    | with_reducible assumption
    | decide
    | (with_reducible
        first
          | apply Only.app (enterSafestop_only ..))
    | split
    | dsimp only)

theorem deviceReset_only (cause : Nat) (s : State) : Only 134217727 s (deviceReset cause s) where
  pending := rfl
  time := fun h => absurd h (by decide)
  mode := fun h => absurd h (by decide)
  clock := fun h => absurd h (by decide)
  isl := fun h => absurd h (by decide)
  host := fun h => absurd h (by decide)
  log := fun h => absurd h (by decide)
  consent := fun h => absurd h (by decide)
  arc := fun h => absurd h (by decide)
  cores := fun h => absurd h (by decide)
  meter := fun h => absurd h (by decide)
  ldg := fun h => absurd h (by decide)
  lift := fun h => absurd h (by decide)
  motion := fun h => absurd h (by decide)
  door := fun h => absurd h (by decide)
  kerb := fun h => absurd h (by decide)
  bs := fun h => absurd h (by decide)
  fc := fun h => absurd h (by decide)
  pwm := fun h => absurd h (by decide)
  blv := fun h => absurd h (by decide)
  link := fun h => absurd h (by decide)
  pkg := fun h => absurd h (by decide)
  mem := fun h => absurd h (by decide)
  ecc := fun h => absurd h (by decide)
  reply := fun h => absurd h (by decide)
  islR := fun h => absurd h (by decide)
  hostR := fun h => absurd h (by decide)
  coresR := fun h => absurd h (by decide)
  memWf := fun h => Memory.filter_wf _ h

theorem powerOn_only (s : State) : Only 134217727 s (powerOn s) := by
  unfold powerOn
  try dsimp only
  repeat' (first
    | (simp only [↓Only.mk_guard]; with_reducible refine Only.of_mk rfl ?_ (pm := ?_))
    | with_reducible exact Only.refl _ _
    | with_reducible assumption
    | decide
    | (with_reducible
        first
          | apply Only.app (deviceReset_only ..))
    | (intro h; (repeat' (with_reducible first | exact h | assumption | refine Memory.filter_wf _ ?_ | split | dsimp only)); done)
    | split
    | dsimp only)

theorem enterDormant_only (cause : Nat) (s : State) : Only 92012542 s (enterDormant cause s) := by
  unfold enterDormant
  try dsimp only
  repeat' (first
    | (simp only [↓Only.mk_guard]; with_reducible refine Only.of_mk rfl ?_ (pm := ?_))
    | with_reducible exact Only.refl _ _
    | with_reducible assumption
    | decide
    | (with_reducible
        first
          | refine Only.ite ?_ ?_ | refine Only.ite_snd ?_ ?_ | refine Only.ite_fst ?_ ?_
          | apply Only.app (appendLog_only ..) | apply Only.app (cancelLater_only ..)
          | apply Only.app (consentMode_only ..) | apply Only.app (dormantSnapshot_only ..)
          | apply Only.app (engineMode_only ..) | apply Only.app (setAttn_only ..))
    | (intro h; (repeat' (with_reducible first | exact h | assumption | refine Memory.filter_wf _ ?_ | split | dsimp only)); done)
    | split
    | dsimp only)

theorem startBringup_only (warm : Bool) (cause : Nat) (s : State) : Only 69468154 s (startBringup warm cause s) := by
  unfold startBringup
  try dsimp only
  repeat' (first
    | (simp only [↓Only.mk_guard]; with_reducible refine Only.of_mk rfl ?_)
    | with_reducible exact Only.refl _ _
    | with_reducible assumption
    | decide
    | (with_reducible
        first
          | refine Only.ite ?_ ?_ | refine Only.ite_snd ?_ ?_ | refine Only.ite_fst ?_ ?_
          | apply Only.app (cancelLater_only ..) | apply Only.app (consentMode_only ..)
          | apply Only.app (engineMode_only ..))
    | split
    | dsimp only)

theorem wakeDormant_only (s : State) : Only 91226106 s (wakeDormant s) := by
  unfold wakeDormant
  try dsimp only
  repeat' (first
    | with_reducible exact Only.refl _ _
    | with_reducible assumption
    | decide
    | (with_reducible
        first
          | refine Only.ite ?_ ?_ | refine Only.ite_snd ?_ ?_ | refine Only.ite_fst ?_ ?_
          | refine Only.foldl _ (fun _ _ _ => ?_) _ ?_ | refine Only.foldl_snd _ (fun _ _ _ => ?_) _ ?_
          | refine Only.foldl_fst _ (fun _ _ _ => ?_) _ ?_ | apply Only.app (engineReset_only ..)
          | apply Only.app (startBringup_only ..))
    | split
    | dsimp only)

theorem takeTransition_only (t : Mode) (cause : Nat) (s : State) : Only 92012542 s (takeTransition t cause s) := by
  unfold takeTransition
  try dsimp only
  repeat' (first
    | (simp only [↓Only.mk_guard]; with_reducible refine Only.of_mk rfl ?_)
    | with_reducible exact Only.refl _ _
    | with_reducible assumption
    | decide
    | (with_reducible
        first
          | refine Only.ite ?_ ?_ | refine Only.ite_snd ?_ ?_ | refine Only.ite_fst ?_ ?_
          | apply Only.app (enterDormant_only ..) | apply Only.app (enterMode_only ..)
          | apply Only.app (enterSafestop_only ..) | apply Only.app (startBringup_only ..))
    | split
    | dsimp only)

theorem noteReq_only (src : ReqSource) (r : Status) (s : State) : Only 2 s (noteReq src r s) := by
  unfold noteReq
  try dsimp only
  repeat' (first
    | (simp only [↓Only.mk_guard]; with_reducible refine Only.of_mk rfl ?_)
    | with_reducible exact Only.refl _ _
    | with_reducible assumption
    | decide
    | split
    | dsimp only)

theorem modeRequest_only (src : ReqSource) (t : Mode) (s : State) : Only 92274686 s (modeRequest src t s).2 := by
  unfold modeRequest
  try dsimp only
  repeat' (first
    | (simp only [↓Only.mk_guard]; with_reducible refine Only.of_mk rfl ?_)
    | with_reducible exact Only.refl _ _
    | with_reducible assumption
    | decide
    | (with_reducible
        first
          | refine Only.ite ?_ ?_ | refine Only.ite_snd ?_ ?_ | refine Only.ite_fst ?_ ?_
          | apply Only.app (noteReq_only ..) | apply Only.app (takeTransition_only ..)
          | apply Only.app (wakeDormant_only ..))
    | split
    | dsimp only)

theorem cancelReq_only (s : State) : Only 2 s (cancelReq s) := by
  unfold cancelReq
  try dsimp only
  repeat' (first
    | (simp only [↓Only.mk_guard]; with_reducible refine Only.of_mk rfl ?_)
    | with_reducible exact Only.refl _ _
    | with_reducible assumption
    | decide
    | split
    | dsimp only)

theorem deferredEntry_only (s : State) : Only 92012542 s (deferredEntry s) := by
  unfold deferredEntry
  try dsimp only
  repeat' (first
    | (simp only [↓Only.mk_guard]; with_reducible refine Only.of_mk rfl ?_)
    | with_reducible exact Only.refl _ _
    | with_reducible assumption
    | decide
    | (with_reducible
        first
          | refine Only.ite ?_ ?_ | refine Only.ite_snd ?_ ?_ | refine Only.ite_fst ?_ ?_
          | apply Only.app (takeTransition_only ..))
    | split
    | dsimp only)

theorem deferredTimeout_only (s : State) : Only 2 s (deferredTimeout s) := by
  unfold deferredTimeout
  try dsimp only
  repeat' (first
    | with_reducible exact Only.refl _ _
    | with_reducible assumption
    | decide
    | (with_reducible
        first
          | refine Only.ite ?_ ?_ | refine Only.ite_snd ?_ ?_ | refine Only.ite_fst ?_ ?_
          | apply Only.app (cancelReq_only ..))
    | split
    | dsimp only)

theorem wakeNight_only (cause : Nat) (s : State) : Only 86245374 s (wakeNight cause s) := by
  unfold wakeNight
  try dsimp only
  repeat' (first
    | with_reducible exact Only.refl _ _
    | with_reducible assumption
    | decide
    | (with_reducible
        first
          | refine Only.ite ?_ ?_ | refine Only.ite_snd ?_ ?_ | refine Only.ite_fst ?_ ?_
          | apply Only.app (enterMode_only ..))
    | split
    | dsimp only)

theorem recallSignal_only (s : State) : Only 86245374 s (recallSignal s) := by
  unfold recallSignal
  try dsimp only
  repeat' (first
    | (simp only [↓Only.mk_guard]; with_reducible refine Only.of_mk rfl ?_)
    | with_reducible exact Only.refl _ _
    | with_reducible assumption
    | decide
    | (with_reducible
        first
          | refine Only.ite ?_ ?_ | refine Only.ite_snd ?_ ?_ | refine Only.ite_fst ?_ ?_
          | apply Only.app (enterMode_only ..) | apply Only.app (startBringup_only ..))
    | split
    | dsimp only)

theorem nightStart_only (s : State) : Only 92274686 s (nightStart s) := by
  unfold nightStart
  try dsimp only
  repeat' (first
    | with_reducible exact Only.refl _ _
    | with_reducible assumption
    | decide
    | (with_reducible
        first
          | refine Only.ite ?_ ?_ | refine Only.ite_snd ?_ ?_ | refine Only.ite_fst ?_ ?_
          | apply Only.app (modeRequest_only ..))
    | split
    | dsimp only)

theorem nightEnd_only (s : State) : Only 86245374 s (nightEnd s) := by
  unfold nightEnd
  try dsimp only
  repeat' (first
    | with_reducible exact Only.refl _ _
    | with_reducible assumption
    | decide
    | (with_reducible
        first
          | refine Only.ite ?_ ?_ | refine Only.ite_snd ?_ ?_ | refine Only.ite_fst ?_ ?_
          | apply Only.app (cancelReq_only ..) | apply Only.app (wakeNight_only ..))
    | split
    | dsimp only)

theorem modeWrite_only (o : Nat) (w : Word) (s : State) : Only 2 s (modeWrite o w s) := by
  unfold modeWrite
  try dsimp only
  repeat' (first
    | (simp only [↓Only.mk_guard]; with_reducible refine Only.of_mk rfl ?_)
    | with_reducible exact Only.refl _ _
    | with_reducible assumption
    | decide
    | (with_reducible
        first
          | refine Only.ite ?_ ?_ | refine Only.ite_snd ?_ ?_ | refine Only.ite_fst ?_ ?_)
    | split
    | dsimp only)

theorem rtcWrite_only (sec : Nat) (s : State) : Only 1 s (rtcWrite sec s) := by
  unfold rtcWrite
  try dsimp only
  repeat' (first
    | (simp only [↓Only.mk_guard]; with_reducible refine Only.of_mk rfl ?_)
    | with_reducible exact Only.refl _ _
    | with_reducible assumption
    | decide
    | split
    | dsimp only)

theorem rtcLocalWrite_only (w : Word) (s : State) : Only 1 s (rtcLocalWrite w s) := by
  unfold rtcLocalWrite
  try dsimp only
  repeat' (first
    | (simp only [↓Only.mk_guard]; with_reducible refine Only.of_mk rfl ?_)
    | with_reducible exact Only.refl _ _
    | with_reducible assumption
    | decide
    | split
    | dsimp only)

end Sys2Proof.Machine
end

