-- ==== Sys2Proof/Laws/OnlyHostGate.lean ====
section
/-! SUPPORT. What each operation of Machine/HostGate.lean can touch. -/
set_option linter.all false
set_option Elab.async false
namespace Sys2Proof.Machine
open Sys2Proof

theorem hostStatus_only (st : Status) (s : State) : Only 33554448 s (hostStatus st s) := by
  unfold hostStatus
  try dsimp only
  repeat' (first
    | (simp only [↓Only.mk_guard]; with_reducible refine Only.of_mk rfl ?_)
    | with_reducible exact Only.refl _ _
    | with_reducible assumption
    | decide
    | split
    | dsimp only)

theorem hostWrite_only {j o : Nat} {s x : State} {f : State → Status × State} (hj : 124780538 ||| j = j)
    (hf : ∀ y, Only j s y → Only j s (f y).2) (h : Only j s x) : Only j s (hostWrite o f x) := by
  have w : ∀ y, Only j s y → Only j s (wakeDormant y) := fun y hy => (Only.mono (wakeDormant_only y) (by decide)).app hj hy
  have t : ∀ st y, Only j s y → Only j s (hostStatus st y) := fun st y hy => (Only.mono (hostStatus_only st y) (by decide)).app hj hy
  unfold hostWrite
  split
  · exact w _ (t _ _ h)
  · exact t _ _ h
  · exact t _ _ (hf _ h)

theorem hostWriteOk_only {j o : Nat} {s x : State} {f : State → State} (hj : 124780538 ||| j = j)
    (hf : ∀ y, Only j s y → Only j s (f y)) (h : Only j s x) : Only j s (hostWriteOk o f x) :=
  hostWrite_only hj hf h

end Sys2Proof.Machine
end

