-- ==== Sys2Proof/Laws/OnlyArcade.lean ====
section
/-! SUPPORT. What each operation of Machine/Arcade.lean can touch. -/
set_option linter.all false
set_option Elab.async false
namespace Sys2Proof.Machine
open Sys2Proof

theorem portReply_only (r : PortReply) (s : State) : Only 128 s (portReply r s) := by
  unfold portReply
  try dsimp only
  repeat' (first
    | (simp only [↓Only.mk_guard]; with_reducible refine Only.of_mk rfl ?_)
    | with_reducible exact Only.refl _ _
    | with_reducible assumption
    | decide
    | split
    | dsimp only)

theorem portWrite_only (r : Status × State) : Only 128 r.2 (portWrite r) := by
  unfold portWrite
  exact portReply_only _ _

theorem loadVia_only (src : LoadSrc) (act : LoadAction) (s : State) : Only 124780538 s (loadVia src act s) := by
  unfold loadVia
  try dsimp only
  repeat' (first
    | with_reducible exact Only.refl _ _
    | with_reducible assumption
    | decide
    | (with_reducible
        first
          | refine hostWrite_only (by decide) (fun _ _ => ?_) ?_ | apply Only.app (issueAction_only ..)
          | apply Only.app (portWrite_only ..))
    | split
    | dsimp only)

theorem execReserve_only (q : Fin 16384) (s : State) :
    ∃ s', execReserve q s = .next s' ∧ Only 128 s s' := by
  refine ⟨_, rfl, ?_⟩
  try dsimp only
  repeat' (first
    | with_reducible exact Only.refl _ _
    | with_reducible assumption
    | decide
    | (with_reducible
        first
          | apply Only.app (portReply_only ..) | apply Only.app (qReserve_only ..))
    | split
    | dsimp only)

theorem execPublish_only (q : Fin 16384) (n : BitVec 16) (s : State) :
    ∃ s', execPublish q n s = .next s' ∧ Only 408 s s' := by
  refine ⟨_, rfl, ?_⟩
  try dsimp only
  repeat' (first
    | with_reducible exact Only.refl _ _
    | with_reducible assumption
    | decide
    | (with_reducible
        first
          | apply Only.app (portWrite_only ..) | apply Only.app (qPublish_only ..))
    | split
    | dsimp only)

theorem execEnqueue_only (q : Fin 16384) (w : Word) (s : State) :
    ∃ s', execEnqueue q w s = .next s' ∧ Only 2097560 s s' := by
  refine ⟨_, rfl, ?_⟩
  try dsimp only
  repeat' (first
    | with_reducible exact Only.refl _ _
    | with_reducible assumption
    | decide
    | (with_reducible
        first
          | apply Only.app (portWrite_only ..) | apply Only.app (qEnqueue_only ..))
    | split
    | dsimp only)

theorem execDequeue_only (q : Fin 16384) (s : State) :
    ∃ s', execDequeue q s = .next s' ∧ Only 408 s s' := by
  refine ⟨_, rfl, ?_⟩
  try dsimp only
  repeat' (first
    | with_reducible exact Only.refl _ _
    | with_reducible assumption
    | decide
    | (with_reducible
        first
          | apply Only.app (portReply_only ..) | apply Only.app (qDequeue_only ..))
    | split
    | dsimp only)

theorem execAck_only (q : Fin 16384) (n : BitVec 16) (s : State) :
    ∃ s', execAck q n s = .next s' ∧ Only 408 s s' := by
  refine ⟨_, rfl, ?_⟩
  try dsimp only
  repeat' (first
    | with_reducible exact Only.refl _ _
    | with_reducible assumption
    | decide
    | (with_reducible
        first
          | apply Only.app (portWrite_only ..) | apply Only.app (qAck_only ..))
    | split
    | dsimp only)

theorem execArm_only (q : Fin 16384) (cons prod : Bool) (s : State) :
    ∃ s', execArm q cons prod s = .next s' ∧ Only 408 s s' := by
  refine ⟨_, rfl, ?_⟩
  try dsimp only
  repeat' (first
    | with_reducible exact Only.refl _ _
    | with_reducible assumption
    | decide
    | (with_reducible
        first
          | apply Only.app (portWrite_only ..) | apply Only.app (qArm_only ..))
    | split
    | dsimp only)

theorem execStatus_only (q : Fin 16384) (s : State) :
    ∃ s', execStatus q s = .next s' ∧ Only 128 s s' := by
  refine ⟨_, rfl, ?_⟩
  try dsimp only
  repeat' (first
    | with_reducible exact Only.refl _ _
    | with_reducible assumption
    | decide
    | (with_reducible
        first
          | apply Only.app (portReply_only ..))
    | split
    | dsimp only)

theorem execHostEnqueue_only (s : State) :
    ∃ s', execHostEnqueue s = .next s' ∧ Only 124780538 s s' := by
  refine ⟨_, rfl, ?_⟩
  try dsimp only
  repeat' (first
    | with_reducible exact Only.refl _ _
    | with_reducible assumption
    | decide
    | (with_reducible
        first
          | apply Only.app (hostEnqueue_only ..) | refine hostWrite_only (by decide) (fun _ _ => ?_) ?_)
    | split
    | dsimp only)

theorem execHostEnqueueCopyComplete_only (s : State) :
    ∃ s', execHostEnqueueCopyComplete s = .next s' ∧ Only 2097560 s s' := by
  refine ⟨_, rfl, ?_⟩
  try dsimp only
  repeat' (first
    | with_reducible exact Only.refl _ _
    | with_reducible assumption
    | decide
    | (with_reducible
        first
          | apply Only.app (hostCopyDone_only ..))
    | split
    | dsimp only)

theorem execTake_only (arg : BitVec 16) (s : State) :
    ∃ s', execTake arg s = .next s' ∧ Only 124780538 s s' := by
  refine ⟨_, rfl, ?_⟩
  try dsimp only
  repeat' (first
    | with_reducible exact Only.refl _ _
    | with_reducible assumption
    | decide
    | (with_reducible
        first
          | apply Only.app (hostTake_only ..) | refine hostWrite_only (by decide) (fun _ _ => ?_) ?_)
    | split
    | dsimp only)

theorem execHostAck_only (n : BitVec 16) (s : State) :
    ∃ s', execHostAck n s = .next s' ∧ Only 124780538 s s' := by
  refine ⟨_, rfl, ?_⟩
  try dsimp only
  repeat' (first
    | with_reducible exact Only.refl _ _
    | with_reducible assumption
    | decide
    | (with_reducible
        first
          | apply Only.app (hostAck_only ..) | refine hostWrite_only (by decide) (fun _ _ => ?_) ?_)
    | split
    | dsimp only)

theorem execTakeAck_only (arg : BitVec 16) (s : State) :
    ∃ s', execTakeAck arg s = .next s' ∧ Only 124780538 s s' := by
  refine ⟨_, rfl, ?_⟩
  try dsimp only
  repeat' (first
    | with_reducible exact Only.refl _ _
    | with_reducible assumption
    | decide
    | (with_reducible
        first
          | apply Only.app (hostTakeAck_only ..) | refine hostWrite_only (by decide) (fun _ _ => ?_) ?_)
    | split
    | dsimp only)

theorem execArmConsumer_only (s : State) :
    ∃ s', execArmConsumer s = .next s' ∧ Only 124780538 s s' := by
  refine ⟨_, rfl, ?_⟩
  try dsimp only
  repeat' (first
    | with_reducible exact Only.refl _ _
    | with_reducible assumption
    | decide
    | (with_reducible
        first
          | apply Only.app (hostArm_only ..) | refine hostWrite_only (by decide) (fun _ _ => ?_) ?_)
    | split
    | dsimp only)

theorem execArmProducer_only (s : State) :
    ∃ s', execArmProducer s = .next s' ∧ Only 124780538 s s' := by
  refine ⟨_, rfl, ?_⟩
  try dsimp only
  repeat' (first
    | with_reducible exact Only.refl _ _
    | with_reducible assumption
    | decide
    | (with_reducible
        first
          | apply Only.app (hostArm_only ..) | refine hostWrite_only (by decide) (fun _ _ => ?_) ?_)
    | split
    | dsimp only)

theorem execQSelWrite_only (w : Word) (s : State) :
    ∃ s', execQSelWrite w s = .next s' ∧ Only 124780538 s s' := by
  refine ⟨_, rfl, ?_⟩
  try dsimp only
  repeat' (first
    | with_reducible exact Only.refl _ _
    | with_reducible assumption
    | decide
    | (with_reducible
        first
          | refine hostWriteOk_only (by decide) (fun _ _ => ?_) ?_ | apply Only.app (qSelWrite_only ..))
    | split
    | dsimp only)

theorem execQPeekFill_only (s : State) :
    ∃ s', execQPeekFill s = .next s' ∧ Only 128 s s' := by
  refine ⟨_, rfl, ?_⟩
  try dsimp only
  repeat' (first
    | with_reducible exact Only.refl _ _
    | with_reducible assumption
    | decide
    | (with_reducible
        first
          | refine Only.ite ?_ ?_ | refine Only.ite_snd ?_ ?_ | refine Only.ite_fst ?_ ?_
          | apply Only.app (peekFill_only ..))
    | split
    | dsimp only)

theorem execLoad_only (src : LoadSrc) (s : State) :
    ∃ s', execLoad src s = .next s' ∧ Only 124780538 s s' := by
  refine ⟨_, rfl, ?_⟩
  try dsimp only
  repeat' (first
    | with_reducible exact Only.refl _ _
    | with_reducible assumption
    | decide
    | (with_reducible
        first
          | apply Only.app (loadVia_only ..))
    | split
    | dsimp only)

theorem execConfig_only (src : LoadSrc) (s : State) :
    ∃ s', execConfig src s = .next s' ∧ Only 124780538 s s' := by
  refine ⟨_, rfl, ?_⟩
  try dsimp only
  repeat' (first
    | with_reducible exact Only.refl _ _
    | with_reducible assumption
    | decide
    | (with_reducible
        first
          | apply Only.app (loadVia_only ..))
    | split
    | dsimp only)

theorem execReinit_only (src : LoadSrc) (s : State) :
    ∃ s', execReinit src s = .next s' ∧ Only 124780538 s s' := by
  refine ⟨_, rfl, ?_⟩
  try dsimp only
  repeat' (first
    | with_reducible exact Only.refl _ _
    | with_reducible assumption
    | decide
    | (with_reducible
        first
          | apply Only.app (loadVia_only ..))
    | split
    | dsimp only)

theorem execQueueDisable_only (src : LoadSrc) (s : State) :
    ∃ s', execQueueDisable src s = .next s' ∧ Only 124780538 s s' := by
  refine ⟨_, rfl, ?_⟩
  try dsimp only
  repeat' (first
    | with_reducible exact Only.refl _ _
    | with_reducible assumption
    | decide
    | (with_reducible
        first
          | apply Only.app (loadVia_only ..))
    | split
    | dsimp only)

theorem execRewind_only (src : LoadSrc) (s : State) :
    ∃ s', execRewind src s = .next s' ∧ Only 124780538 s s' := by
  refine ⟨_, rfl, ?_⟩
  try dsimp only
  repeat' (first
    | with_reducible exact Only.refl _ _
    | with_reducible assumption
    | decide
    | (with_reducible
        first
          | apply Only.app (loadVia_only ..))
    | split
    | dsimp only)

theorem execClearStats_only (src : LoadSrc) (s : State) :
    ∃ s', execClearStats src s = .next s' ∧ Only 124780538 s s' := by
  refine ⟨_, rfl, ?_⟩
  try dsimp only
  repeat' (first
    | with_reducible exact Only.refl _ _
    | with_reducible assumption
    | decide
    | (with_reducible
        first
          | apply Only.app (loadVia_only ..))
    | split
    | dsimp only)

theorem execLoadActionComplete_only (s : State) :
    ∃ s', execLoadActionComplete s = .next s' ∧ Only 2097560 s s' := by
  refine ⟨_, rfl, ?_⟩
  try dsimp only
  repeat' (first
    | with_reducible exact Only.refl _ _
    | with_reducible assumption
    | decide
    | (with_reducible
        first
          | apply Only.app (endAction_only ..))
    | split
    | dsimp only)

theorem execQuarantine_only (q : Fin 16384) (s : State) :
    ∃ s', execQuarantine q s = .next s' ∧ Only 2097560 s s' := by
  refine ⟨_, rfl, ?_⟩
  try dsimp only
  repeat' (first
    | with_reducible exact Only.refl _ _
    | with_reducible assumption
    | decide
    | (with_reducible
        first
          | apply Only.app (quarantineQ_only ..))
    | split
    | dsimp only)

end Sys2Proof.Machine
end

