-- ==== Sys2Proof/Laws/OnlyBandstand.lean ====
section
/-! SUPPORT. What each operation of Machine/Bandstand.lean can touch. -/
set_option linter.all false
set_option Elab.async false
namespace Sys2Proof.Machine
open Sys2Proof

theorem audioTurn_only (n : Nat) (align : Int) (paging : List (List Int)) (feeds : List (Nat × Option (List Byte))) (miss : List Nat) (s : State) : Only 86749596 s (audioTurn n align paging feeds miss s) := by
  unfold audioTurn
  try dsimp only
  repeat' (first
    | with_reducible exact Only.refl _ _
    | with_reducible assumption
    | decide
    | (with_reducible
        first
          | refine Only.ite ?_ ?_ | refine Only.ite_snd ?_ ?_ | refine Only.ite_fst ?_ ?_
          | apply Only.app (audioBlock_only ..) | apply Only.app (steerIslands_only ..))
    | split
    | dsimp only)

theorem onAudio_only {j : Nat} {s x : State} {f : State → State} (hf : ∀ y, Only j s y → Only j s (f y))
    (h : Only j s x) : Only j s (onAudio f x) := by
  unfold onAudio
  exact Only.ite (hf x h) h

theorem execAudioBlock_only (first : Nat) (alignNs : Int) (paging : List (List Int)) (feeds : List (Nat × Option (List Byte))) (missed : List Nat) (s : State) :
    ∃ s', execAudioBlock first alignNs paging feeds missed s = .next s' ∧ Only 86749596 s s' := by
  refine ⟨_, rfl, ?_⟩
  try dsimp only
  repeat' (first
    | with_reducible exact Only.refl _ _
    | with_reducible assumption
    | decide
    | (with_reducible
        first
          | apply Only.app (audioTurn_only ..))
    | split
    | dsimp only)

theorem execKerbCueEntry_only (s : State) :
    ∃ s', execKerbCueEntry s = .next s' ∧ Only 2654616 s s' := by
  refine ⟨_, rfl, ?_⟩
  try dsimp only
  repeat' (first
    | with_reducible exact Only.refl _ _
    | with_reducible assumption
    | decide
    | (with_reducible
        first
          | apply Only.app (kerbCueEntry_only ..) | refine onAudio_only (fun _ _ => ?_) ?_)
    | split
    | dsimp only)

theorem execLiftCue_only (s : State) :
    ∃ s', execLiftCue s = .next s' ∧ Only 2656664 s s' := by
  refine ⟨_, rfl, ?_⟩
  try dsimp only
  repeat' (first
    | with_reducible exact Only.refl _ _
    | with_reducible assumption
    | decide
    | (with_reducible
        first
          | apply Only.app (liftCueEntry_only ..) | refine onAudio_only (fun _ _ => ?_) ?_)
    | split
    | dsimp only)

theorem execStart_only (kind prio : Fin 256) (id : BitVec 16) (note vel : Fin 256) (zones hold : BitVec 16) (excl : Bool) (t req : BitVec 64) (s : State) :
    ∃ s', execStart kind prio id note vel zones hold excl t req s = .next s' ∧ Only 2130328 s s' := by
  refine ⟨_, rfl, ?_⟩
  try dsimp only
  repeat' (first
    | with_reducible exact Only.refl _ _
    | with_reducible assumption
    | decide
    | (with_reducible
        first
          | apply Only.app (cmdStart_only ..) | refine onAudio_only (fun _ _ => ?_) ?_)
    | split
    | dsimp only)

theorem execRelease_only (handle : BitVec 32) (req : BitVec 64) (s : State) :
    ∃ s', execRelease handle req s = .next s' ∧ Only 2130328 s s' := by
  refine ⟨_, rfl, ?_⟩
  try dsimp only
  repeat' (first
    | with_reducible exact Only.refl _ _
    | with_reducible assumption
    | decide
    | (with_reducible
        first
          | apply Only.app (cmdRelease_only ..) | refine onAudio_only (fun _ _ => ?_) ?_)
    | split
    | dsimp only)

theorem execKill_only (handle : BitVec 32) (req : BitVec 64) (s : State) :
    ∃ s', execKill handle req s = .next s' ∧ Only 2130328 s s' := by
  refine ⟨_, rfl, ?_⟩
  try dsimp only
  repeat' (first
    | with_reducible exact Only.refl _ _
    | with_reducible assumption
    | decide
    | (with_reducible
        first
          | apply Only.app (cmdKill_only ..) | refine onAudio_only (fun _ _ => ?_) ?_)
    | split
    | dsimp only)

theorem execBsCue_only (prio : Fin 256) (cue : BitVec 16) (car : Fin 256) (t req : BitVec 64) (s : State) :
    ∃ s', execBsCue prio cue car t req s = .next s' ∧ Only 2654616 s s' := by
  refine ⟨_, rfl, ?_⟩
  try dsimp only
  repeat' (first
    | with_reducible exact Only.refl _ _
    | with_reducible assumption
    | decide
    | (with_reducible
        first
          | apply Only.app (cmdCue_only ..) | refine onAudio_only (fun _ _ => ?_) ?_)
    | split
    | dsimp only)

theorem execSetP_only (handle : BitVec 32) (p0 p1 : BitVec 16) (req : BitVec 64) (s : State) :
    ∃ s', execSetP handle p0 p1 req s = .next s' ∧ Only 2130328 s s' := by
  refine ⟨_, rfl, ?_⟩
  try dsimp only
  repeat' (first
    | with_reducible exact Only.refl _ _
    | with_reducible assumption
    | decide
    | (with_reducible
        first
          | apply Only.app (cmdSetP_only ..) | refine onAudio_only (fun _ _ => ?_) ?_)
    | split
    | dsimp only)

theorem execAudioCue_only (node : Fin 256) (seq : BitVec 16) (cue : BitVec 16) (car prio : Fin 256) (t : BitVec 64) (s : State) :
    ∃ s', execAudioCue node seq cue car prio t s = .next s' ∧ Only 2654616 s s' := by
  refine ⟨_, rfl, ?_⟩
  try dsimp only
  repeat' (first
    | with_reducible exact Only.refl _ _
    | with_reducible assumption
    | decide
    | (with_reducible
        first
          | apply Only.app (cueEntry_only ..) | refine onAudio_only (fun _ _ => ?_) ?_)
    | split
    | dsimp only)

theorem execNoteOn_only (ch : Fin 16) (note vel : Fin 128) (s : State) :
    ∃ s', execNoteOn ch note vel s = .next s' ∧ Only 2130328 s s' := by
  refine ⟨_, rfl, ?_⟩
  try dsimp only
  repeat' (first
    | with_reducible exact Only.refl _ _
    | with_reducible assumption
    | decide
    | (with_reducible
        first
          | apply Only.app (noteOn_only ..) | refine onAudio_only (fun _ _ => ?_) ?_)
    | split
    | dsimp only)

theorem execNoteOff_only (ch : Fin 16) (note : Fin 128) (s : State) :
    ∃ s', execNoteOff ch note s = .next s' ∧ Only 2130328 s s' := by
  refine ⟨_, rfl, ?_⟩
  try dsimp only
  repeat' (first
    | with_reducible exact Only.refl _ _
    | with_reducible assumption
    | decide
    | (with_reducible
        first
          | apply Only.app (noteOff_only ..) | refine onAudio_only (fun _ _ => ?_) ?_)
    | split
    | dsimp only)

theorem execControlChange_only (ch : Fin 16) (cc v : Fin 128) (s : State) :
    ∃ s', execControlChange ch cc v s = .next s' ∧ Only 2130328 s s' := by
  refine ⟨_, rfl, ?_⟩
  try dsimp only
  repeat' (first
    | with_reducible exact Only.refl _ _
    | with_reducible assumption
    | decide
    | (with_reducible
        first
          | apply Only.app (controlChange_only ..) | refine onAudio_only (fun _ _ => ?_) ?_)
    | split
    | dsimp only)

theorem execProgramChange_only (ch : Fin 16) (program : Fin 128) (s : State) :
    ∃ s', execProgramChange ch program s = .next s' ∧ Only 32768 s s' := by
  refine ⟨_, rfl, ?_⟩
  try dsimp only
  repeat' (first
    | with_reducible exact Only.refl _ _
    | with_reducible assumption
    | decide
    | (with_reducible
        first
          | apply Only.app (modMidi_only ..) | refine onAudio_only (fun _ _ => ?_) ?_)
    | split
    | dsimp only)

theorem execChannelPressure_only (ch : Fin 16) (v : Fin 128) (s : State) :
    ∃ s', execChannelPressure ch v s = .next s' ∧ Only 32768 s s' := by
  refine ⟨_, rfl, ?_⟩
  try dsimp only
  repeat' (first
    | with_reducible exact Only.refl _ _
    | with_reducible assumption
    | decide
    | (with_reducible
        first
          | apply Only.app (modMidi_only ..) | refine onAudio_only (fun _ _ => ?_) ?_)
    | split
    | dsimp only)

theorem execPitchBend_only (ch : Fin 16) (v : Fin 16384) (s : State) :
    ∃ s', execPitchBend ch v s = .next s' ∧ Only 32768 s s' := by
  refine ⟨_, rfl, ?_⟩
  try dsimp only
  repeat' (first
    | with_reducible exact Only.refl _ _
    | with_reducible assumption
    | decide
    | (with_reducible
        first
          | apply Only.app (modMidi_only ..) | refine onAudio_only (fun _ _ => ?_) ?_)
    | split
    | dsimp only)

theorem execActiveSensing_only (s : State) :
    ∃ s', execActiveSensing s = .next s' ∧ Only 32768 s s' := by
  refine ⟨_, rfl, ?_⟩
  try dsimp only
  repeat' (first
    | with_reducible exact Only.refl _ _
    | with_reducible assumption
    | decide
    | (with_reducible
        first
          | apply Only.app (modBs_only ..) | refine onAudio_only (fun _ _ => ?_) ?_)
    | split
    | dsimp only)

theorem execMidiSensingTimeout_only (s : State) :
    ∃ s', execMidiSensingTimeout s = .next s' ∧ Only 2130328 s s' := by
  refine ⟨_, rfl, ?_⟩
  try dsimp only
  repeat' (first
    | with_reducible exact Only.refl _ _
    | with_reducible assumption
    | decide
    | (with_reducible
        first
          | refine onAudio_only (fun _ _ => ?_) ?_ | apply Only.app (sensingTimeout_only ..))
    | split
    | dsimp only)

theorem execP7FifoTimeout_only (s : State) :
    ∃ s', execP7FifoTimeout s = .next s' ∧ Only 2130328 s s' := by
  refine ⟨_, rfl, ?_⟩
  try dsimp only
  repeat' (first
    | with_reducible exact Only.refl _ _
    | with_reducible assumption
    | decide
    | (with_reducible
        first
          | refine onAudio_only (fun _ _ => ?_) ?_ | apply Only.app (p7Timeout_only ..))
    | split
    | dsimp only)

theorem execBsApply_only (w : Word) (s : State) :
    ∃ s', execBsApply w s = .next s' ∧ Only 2130328 s s' := by
  refine ⟨_, rfl, ?_⟩
  try dsimp only
  repeat' (first
    | with_reducible exact Only.refl _ _
    | with_reducible assumption
    | decide
    | (with_reducible
        first
          | refine Only.ite ?_ ?_ | refine Only.ite_snd ?_ ?_ | refine Only.ite_fst ?_ ?_
          | apply Only.app (bsCtl_only ..) | refine onAudio_only (fun _ _ => ?_) ?_)
    | split
    | dsimp only)

theorem execWtInvalidate_only (w : Word) (s : State) :
    ∃ s', execWtInvalidate w s = .next s' ∧ Only 2130328 s s' := by
  refine ⟨_, rfl, ?_⟩
  try dsimp only
  repeat' (first
    | with_reducible exact Only.refl _ _
    | with_reducible assumption
    | decide
    | (with_reducible
        first
          | refine Only.ite ?_ ?_ | refine Only.ite_snd ?_ ?_ | refine Only.ite_fst ?_ ?_
          | apply Only.app (bsCtl_only ..) | refine onAudio_only (fun _ _ => ?_) ?_)
    | split
    | dsimp only)

theorem execStopAll_only (w : Word) (s : State) :
    ∃ s', execStopAll w s = .next s' ∧ Only 2130328 s s' := by
  refine ⟨_, rfl, ?_⟩
  try dsimp only
  repeat' (first
    | with_reducible exact Only.refl _ _
    | with_reducible assumption
    | decide
    | (with_reducible
        first
          | refine Only.ite ?_ ?_ | refine Only.ite_snd ?_ ?_ | refine Only.ite_fst ?_ ?_
          | apply Only.app (bsCtl_only ..) | refine onAudio_only (fun _ _ => ?_) ?_)
    | split
    | dsimp only)

theorem execPhraseReload_only (w : Word) (dir : List Byte) (s : State) :
    ∃ s', execPhraseReload w dir s = .next s' ∧ Only 2130328 s s' := by
  refine ⟨_, rfl, ?_⟩
  try dsimp only
  repeat' (first
    | with_reducible exact Only.refl _ _
    | with_reducible assumption
    | decide
    | (with_reducible
        first
          | refine Only.ite ?_ ?_ | refine Only.ite_snd ?_ ?_ | refine Only.ite_fst ?_ ?_
          | apply Only.app (bsCtl_only ..) | refine onAudio_only (fun _ _ => ?_) ?_)
    | split
    | dsimp only)

theorem execPhraseReloadDeferred_only (dir : List Byte) (s : State) :
    ∃ s', execPhraseReloadDeferred dir s = .next s' ∧ Only 32768 s s' := by
  refine ⟨_, rfl, ?_⟩
  try dsimp only
  repeat' (first
    | with_reducible exact Only.refl _ _
    | with_reducible assumption
    | decide
    | (with_reducible
        first
          | refine onAudio_only (fun _ _ => ?_) ?_ | apply Only.app (phraseDeferred_only ..))
    | split
    | dsimp only)

end Sys2Proof.Machine
end

