-- ==== Sys2Proof/Laws/OnlyBoulevard.lean ====
section
/-! SUPPORT. What each operation of Machine/Boulevard.lean can touch. -/
set_option linter.all false
set_option Elab.async false
namespace Sys2Proof.Machine
open Sys2Proof

theorem execMarkerEmit_only (s : State) :
    ∃ s', execMarkerEmit s = .next s' ∧ Only 524288 s s' := by
  refine ⟨_, rfl, ?_⟩
  try dsimp only
  repeat' (first
    | with_reducible exact Only.refl _ _
    | with_reducible assumption
    | decide
    | (with_reducible
        first
          | apply Only.app (markerEmit_only ..))
    | split
    | dsimp only)

theorem execMarkerReceive_only (r : Ring) (m : Marker) (residence16 : Nat) (s : State) :
    ∃ s', execMarkerReceive r m residence16 s = .next s' ∧ Only 786449 s s' := by
  refine ⟨_, rfl, ?_⟩
  try dsimp only
  repeat' (first
    | with_reducible exact Only.refl _ _
    | with_reducible assumption
    | decide
    | (with_reducible
        first
          | apply Only.app (markerReceive_only ..))
    | split
    | dsimp only)

theorem execKerbFrameInsert_only (s : State) :
    ∃ s', execKerbFrameInsert s = .next s' ∧ Only 786432 s s' := by
  refine ⟨_, rfl, ?_⟩
  try dsimp only
  repeat' (first
    | with_reducible exact Only.refl _ _
    | with_reducible assumption
    | decide
    | (with_reducible
        first
          | apply Only.app (kerbInsert_only ..))
    | split
    | dsimp only)

theorem execKerbFrameReceive_only (f : BlvFrame) (pcrcOk : Bool) (s : State) :
    ∃ s', execKerbFrameReceive f pcrcOk s = .next s' ∧ Only 786432 s s' := by
  refine ⟨_, rfl, ?_⟩
  try dsimp only
  repeat' (first
    | with_reducible exact Only.refl _ _
    | with_reducible assumption
    | decide
    | (with_reducible
        first
          | apply Only.app (kerbReceive_only ..))
    | split
    | dsimp only)

theorem execFrameAccept_only (r : Ring) (f : BlvFrame) (firstPass pcrcOk fcsOk : Bool) (s : State) :
    ∃ s', execFrameAccept r f firstPass pcrcOk fcsOk s = .next s' ∧ Only 2883992 s s' := by
  refine ⟨_, rfl, ?_⟩
  try dsimp only
  repeat' (first
    | with_reducible exact Only.refl _ _
    | with_reducible assumption
    | decide
    | (with_reducible
        first
          | apply Only.app (frameAccept_only ..))
    | split
    | dsimp only)

theorem execHopDelayMeasure_only (r : Ring) (roundTripPs turnaroundPs : Nat) (s : State) :
    ∃ s', execHopDelayMeasure r roundTripPs turnaroundPs s = .next s' ∧ Only 524288 s s' := by
  refine ⟨_, rfl, ?_⟩
  try dsimp only
  repeat' (first
    | with_reducible exact Only.refl _ _
    | with_reducible assumption
    | decide
    | (with_reducible
        first
          | apply Only.app (hopMeasure_only ..))
    | split
    | dsimp only)

theorem execControlJoin_only (m : Member) (s : State) :
    ∃ s', execControlJoin m s = .next s' ∧ Only 786432 s s' := by
  refine ⟨_, rfl, ?_⟩
  try dsimp only
  repeat' (first
    | with_reducible exact Only.refl _ _
    | with_reducible assumption
    | decide
    | (with_reducible
        first
          | apply Only.app (controlJoin_only ..))
    | split
    | dsimp only)

theorem execMembershipEffective_only (members : List Member) (prios : List Nat) (s : State) :
    ∃ s', execMembershipEffective members prios s = .next s' ∧ Only 786449 s s' := by
  refine ⟨_, rfl, ?_⟩
  try dsimp only
  repeat' (first
    | with_reducible exact Only.refl _ _
    | with_reducible assumption
    | decide
    | (with_reducible
        first
          | apply Only.app (membershipEffective_only ..))
    | split
    | dsimp only)

theorem execGroupDispatcherChange_only (s : State) :
    ∃ s', execGroupDispatcherChange s = .next s' ∧ Only 262144 s s' := by
  refine ⟨_, rfl, ?_⟩
  try dsimp only
  repeat' (first
    | with_reducible exact Only.refl _ _
    | with_reducible assumption
    | decide
    | (with_reducible
        first
          | apply Only.app (groupDispatcherChange_only ..))
    | split
    | dsimp only)

theorem execTurn_only (s : State) :
    ∃ s', execTurn s = .next s' ∧ Only 524696 s s' := by
  refine ⟨_, rfl, ?_⟩
  try dsimp only
  repeat' (first
    | with_reducible exact Only.refl _ _
    | with_reducible assumption
    | decide
    | (with_reducible
        first
          | apply Only.app (blvTurn_only ..))
    | split
    | dsimp only)

theorem execFrameReturn_only (c : BlvClass) (ackStatus : Status) (ackCnt : BitVec 8) (s : State) :
    ∃ s', execFrameReturn c ackStatus ackCnt s = .next s' ∧ Only 786840 s s' := by
  refine ⟨_, rfl, ?_⟩
  try dsimp only
  repeat' (first
    | with_reducible exact Only.refl _ _
    | with_reducible assumption
    | decide
    | (with_reducible
        first
          | apply Only.app (frameReturn_only ..))
    | split
    | dsimp only)

theorem execBreakDetect_only (portQ : Bool) (s : State) :
    ∃ s', execBreakDetect portQ s = .next s' ∧ Only 786449 s s' := by
  refine ⟨_, rfl, ?_⟩
  try dsimp only
  repeat' (first
    | with_reducible exact Only.refl _ _
    | with_reducible assumption
    | decide
    | (with_reducible
        first
          | apply Only.app (breakDetect_only ..))
    | split
    | dsimp only)

theorem execBreakReceive_only (r : Ring) (s : State) :
    ∃ s', execBreakReceive r s = .next s' ∧ Only 786432 s s' := by
  refine ⟨_, rfl, ?_⟩
  try dsimp only
  repeat' (first
    | with_reducible exact Only.refl _ _
    | with_reducible assumption
    | decide
    | (with_reducible
        first
          | apply Only.app (breakReceive_only ..))
    | split
    | dsimp only)

theorem execUnwrap_only (s : State) :
    ∃ s', execUnwrap s = .next s' ∧ Only 786449 s s' := by
  refine ⟨_, rfl, ?_⟩
  try dsimp only
  repeat' (first
    | with_reducible exact Only.refl _ _
    | with_reducible assumption
    | decide
    | (with_reducible
        first
          | apply Only.app (unwrap_only ..))
    | split
    | dsimp only)

theorem execBlvApply_only (s : State) :
    ∃ s', execBlvApply s = .next s' ∧ Only 262144 s s' := by
  refine ⟨_, rfl, ?_⟩
  try dsimp only
  repeat' (first
    | with_reducible exact Only.refl _ _
    | with_reducible assumption
    | decide
    | (with_reducible
        first
          | apply Only.app (blvApply_only ..))
    | split
    | dsimp only)

theorem execBlvLeave_only (s : State) :
    ∃ s', execBlvLeave s = .next s' ∧ Only 262160 s s' := by
  refine ⟨_, rfl, ?_⟩
  try dsimp only
  repeat' (first
    | with_reducible exact Only.refl _ _
    | with_reducible assumption
    | decide
    | (with_reducible
        first
          | apply Only.app (blvLeave_only ..))
    | split
    | dsimp only)

theorem execBlvJoin_only (s : State) :
    ∃ s', execBlvJoin s = .next s' ∧ Only 786432 s s' := by
  refine ⟨_, rfl, ?_⟩
  try dsimp only
  repeat' (first
    | with_reducible exact Only.refl _ _
    | with_reducible assumption
    | decide
    | (with_reducible
        first
          | apply Only.app (blvJoin_only ..))
    | split
    | dsimp only)

theorem execBlvConfirm_only (target : BitVec 8) (s : State) :
    ∃ s', execBlvConfirm target s = .next s' ∧ Only 524288 s s' := by
  refine ⟨_, rfl, ?_⟩
  try dsimp only
  repeat' (first
    | with_reducible exact Only.refl _ _
    | with_reducible assumption
    | decide
    | (with_reducible
        first
          | apply Only.app (blvConfirm_only ..))
    | split
    | dsimp only)

theorem execWardenReplyReceive_only (src : BitVec 8) (status : Status) (reason : BitVec 4) (s : State) :
    ∃ s', execWardenReplyReceive src status reason s = .next s' ∧ Only 524288 s s' := by
  refine ⟨_, rfl, ?_⟩
  try dsimp only
  repeat' (first
    | with_reducible exact Only.refl _ _
    | with_reducible assumption
    | decide
    | (with_reducible
        first
          | refine Only.ite ?_ ?_ | refine Only.ite_snd ?_ ?_ | refine Only.ite_fst ?_ ?_
          | apply Only.app (wardenReply_only ..))
    | split
    | dsimp only)

theorem execMeterRollupSend_only (s : State) :
    ∃ s', execMeterRollupSend s = .next s' ∧ Only 2621440 s s' := by
  refine ⟨_, rfl, ?_⟩
  try dsimp only
  repeat' (first
    | with_reducible exact Only.refl _ _
    | with_reducible assumption
    | decide
    | (with_reducible
        first
          | apply Only.app (rollupSend_only ..))
    | split
    | dsimp only)

theorem execMeterRollupReceive_only (src : BitVec 8) (payload : List Byte) (s : State) :
    ∃ s', execMeterRollupReceive src payload s = .next s' ∧ Only 2097152 s s' := by
  refine ⟨_, rfl, ?_⟩
  try dsimp only
  repeat' (first
    | with_reducible exact Only.refl _ _
    | with_reducible assumption
    | decide
    | (with_reducible
        first
          | refine Only.ite ?_ ?_ | refine Only.ite_snd ?_ ?_ | refine Only.ite_fst ?_ ?_
          | apply Only.app (rollupStore_only ..))
    | split
    | dsimp only)

theorem execTimeValidLoss_only (s : State) :
    ∃ s', execTimeValidLoss s = .next s' ∧ Only 524289 s s' := by
  refine ⟨_, rfl, ?_⟩
  try dsimp only
  repeat' (first
    | with_reducible exact Only.refl _ _
    | with_reducible assumption
    | decide
    | (with_reducible
        first
          | apply Only.app (timeValidLoss_only ..))
    | split
    | dsimp only)

end Sys2Proof.Machine
end

