-- ==== Sys2Proof/Laws/OnlyFabric.lean ====
section
/-! SUPPORT. What each operation of Machine/Fabric.lean can touch. -/
set_option linter.all false
set_option Elab.async false
namespace Sys2Proof.Machine
open Sys2Proof

theorem countDrop_only (p : Place) (s : State) : Only 67174656 s (countDrop p s) := by
  unfold countDrop
  try dsimp only
  repeat' (first
    | with_reducible exact Only.refl _ _
    | with_reducible assumption
    | decide
    | (with_reducible
        first
          | refine Only.ite ?_ ?_ | refine Only.ite_snd ?_ ?_ | refine Only.ite_fst ?_ ?_
          | apply Only.app (dropWrite_only ..) | apply Only.app (fcDropWrite_only ..))
    | split
    | dsimp only)

theorem apertureRead_only (o : Nat) (s : State) : Only 408 s (apertureRead o s).2 := by
  unfold apertureRead
  try dsimp only
  repeat' (first
    | with_reducible exact Only.refl _ _
    | with_reducible assumption
    | decide
    | (with_reducible
        first
          | apply Only.app (qDequeue_only ..) | apply Only.app (qReserve_only ..))
    | split
    | dsimp only)

theorem apertureWrite_only (o : Nat) (w : Word) (s : State) : Only 2097560 s (apertureWrite o w s).2 := by
  unfold apertureWrite
  try dsimp only
  repeat' (first
    | with_reducible exact Only.refl _ _
    | with_reducible assumption
    | decide
    | (with_reducible
        first
          | apply Only.app (qAck_only ..) | apply Only.app (qArm_only ..) | apply Only.app (qEnqueue_only ..)
          | apply Only.app (qPublish_only ..))
    | split
    | dsimp only)

theorem reloadWrite_only (qid : Nat) (byHost : Bool) (w : Word) (s : State) : Only 2097560 s (reloadWrite qid byHost w s).2 := by
  unfold reloadWrite
  try dsimp only
  repeat' (first
    | (simp only [↓Only.mk_guard]; with_reducible refine Only.of_mk rfl ?_)
    | with_reducible exact Only.refl _ _
    | with_reducible assumption
    | decide
    | (with_reducible
        first
          | refine Only.ite ?_ ?_ | refine Only.ite_snd ?_ ?_ | refine Only.ite_fst ?_ ?_
          | apply Only.app (issueAction_only ..) | apply Only.app (postNotice_only ..))
    | split
    | dsimp only)

theorem arcCtlWrite_only (i : Initiator) (o : Nat) (w : Word) (s : State) : Only 2097560 s (arcCtlWrite i o w s) := by
  unfold arcCtlWrite
  try dsimp only
  repeat' (first
    | (simp only [↓Only.mk_guard]; with_reducible refine Only.of_mk rfl ?_)
    | with_reducible exact Only.refl _ _
    | with_reducible assumption
    | decide
    | (with_reducible
        first
          | refine Only.ite ?_ ?_ | refine Only.ite_snd ?_ ?_ | refine Only.ite_fst ?_ ?_
          | apply Only.app (reloadWrite_only ..))
    | split
    | dsimp only)

theorem blockReadEffect_only (b o : Nat) (s : State) : Only 492544 s (blockReadEffect b o s) := by
  unfold blockReadEffect
  try dsimp only
  repeat' (first
    | with_reducible exact Only.refl _ _
    | with_reducible assumption
    | decide
    | (with_reducible
        first
          | apply Only.app (blvReadEffect_only ..) | apply Only.app (bsReadEffect_only ..)
          | apply Only.app (fcReadEffect_only ..) | apply Only.app (ldgReadEffect_only ..)
          | apply Only.app (pwmReadEffect_only ..))
    | split
    | dsimp only)

theorem blockRead_only (i : Initiator) (b o : Nat) (s : State) : Only 492952 s (blockRead i b o s).2 := by
  unfold blockRead
  try dsimp only
  repeat' (first
    | with_reducible exact Only.refl _ _
    | with_reducible assumption
    | decide
    | (with_reducible
        first
          | refine Only.ite ?_ ?_ | refine Only.ite_snd ?_ ?_ | refine Only.ite_fst ?_ ?_
          | apply Only.app (apertureRead_only ..) | apply Only.app (blockReadEffect_only ..))
    | split
    | dsimp only)

theorem blockRegWrite_only (i : Initiator) (b o : Nat) (w : Word) (s : State) : Only 70237690 s (blockRegWrite i b o w s).2 := by
  unfold blockRegWrite
  try dsimp only
  repeat' (first
    | with_reducible exact Only.refl _ _
    | with_reducible assumption
    | decide
    | (with_reducible
        first
          | refine Only.ite ?_ ?_ | refine Only.ite_snd ?_ ?_ | refine Only.ite_fst ?_ ?_
          | apply Only.app (apertureWrite_only ..) | apply Only.app (arcCtlWrite_only ..)
          | apply Only.app (blvWrite_only ..) | apply Only.app (bsWrite_only ..)
          | apply Only.app (consentWrite_only ..) | apply Only.app (ddWrite_only ..)
          | apply Only.app (fcWrite_only ..) | apply Only.app (ldgWrite_only ..) | apply Only.app (liftWrite_only ..)
          | apply Only.app (modeWrite_only ..) | apply Only.app (motWrite_only ..) | apply Only.app (pwmWrite_only ..))
    | split
    | dsimp only)

theorem memWrite_only (a strobe : Nat) (w : Word) (s : State) : Only 6291456 s (memWrite a strobe w s).2 := by
  unfold memWrite
  try dsimp only
  repeat' (first
    | (simp only [↓Only.mk_guard]; with_reducible refine Only.of_mk rfl ?_ (pm := ?_))
    | with_reducible exact Only.refl _ _
    | with_reducible assumption
    | decide
    | (with_reducible
        first
          | refine Only.ite ?_ ?_ | refine Only.ite_snd ?_ ?_ | refine Only.ite_fst ?_ ?_)
    | (intro h; (repeat' (with_reducible first | exact h | assumption | refine Memory.writeW_wf _ _ ?_ | refine Memory.filter_wf _ ?_ | refine Memory.write_wf _ _ ?_ | split | dsimp only)); done)
    | split
    | dsimp only)

theorem fabRead_only (i : Initiator) (addr : Nat) (s : State) : Only 67601816 s (fabRead i addr s).2 := by
  unfold fabRead
  try dsimp only
  repeat' (first
    | with_reducible exact Only.refl _ _
    | with_reducible assumption
    | decide
    | (with_reducible
        first
          | refine Only.ite ?_ ?_ | refine Only.ite_snd ?_ ?_ | refine Only.ite_fst ?_ ?_
          | apply Only.app (blockRead_only ..) | apply Only.app (coreRegReadEffect_only ..))
    | split
    | dsimp only)

theorem servedWrite_only (i : Initiator) (p : Place) (a strobe : Nat) (w : Word) (s : State) : Only 91209210 s (servedWrite i p a strobe w s).2 := by
  unfold servedWrite
  try dsimp only
  repeat' (first
    | (simp only [↓Only.mk_guard]; with_reducible refine Only.of_mk rfl ?_)
    | with_reducible exact Only.refl _ _
    | with_reducible assumption
    | decide
    | (with_reducible
        first
          | refine Only.ite ?_ ?_ | refine Only.ite_snd ?_ ?_ | refine Only.ite_fst ?_ ?_
          | apply Only.app (blockRegWrite_only ..) | apply Only.app (coreRegWrite_only ..)
          | apply Only.app (memWrite_only ..))
    | split
    | dsimp only)

theorem fabWrite_only (i : Initiator) (addr strobe : Nat) (w : Word) (s : State) : Only 91209210 s (fabWrite i addr strobe w s).2 := by
  unfold fabWrite
  try dsimp only
  repeat' (first
    | with_reducible exact Only.refl _ _
    | with_reducible assumption
    | decide
    | (with_reducible
        first
          | refine Only.ite ?_ ?_ | refine Only.ite_snd ?_ ?_ | refine Only.ite_fst ?_ ?_
          | apply Only.app (countDrop_only ..) | apply Only.app (servedWrite_only ..))
    | split
    | dsimp only)

theorem eccNote_only (e : EccEvent) (addr : Nat) (s : State) : Only 71303424 s (eccNote e addr s) := by
  unfold eccNote
  try dsimp only
  repeat' (first
    | (simp only [↓Only.mk_guard]; with_reducible refine Only.of_mk rfl ?_)
    | with_reducible exact Only.refl _ _
    | with_reducible assumption
    | decide
    | (with_reducible
        first
          | refine Only.ite ?_ ?_ | refine Only.ite_snd ?_ ?_ | refine Only.ite_fst ?_ ?_
          | apply Only.app (modCore_only ..))
    | split
    | dsimp only)

end Sys2Proof.Machine
end

