-- ==== Sys2Proof/Laws/OnlyBringup.lean ====
section
/-! SUPPORT. What each operation of Machine/Bringup.lean can touch. -/
set_option linter.all false
set_option Elab.async false
namespace Sys2Proof.Machine
open Sys2Proof

theorem bringIsl_only (i : Nat) (s : State) : Only 91209496 s (bringIsl i s) := by
  unfold bringIsl
  try dsimp only
  repeat' (first
    | with_reducible exact Only.refl _ _
    | with_reducible assumption
    | decide
    | (with_reducible
        first
          | refine Only.ite ?_ ?_ | refine Only.ite_snd ?_ ?_ | refine Only.ite_fst ?_ ?_
          | apply Only.app (engineReset_only ..) | apply Only.app (modIsl_only ..))
    | split
    | dsimp only)

theorem loadQueues_only (s : State) : Only 2097560 s (loadQueues s).2 := by
  unfold loadQueues
  try dsimp only
  repeat' (first
    | (simp only [↓Only.mk_guard]; with_reducible refine Only.of_mk rfl ?_)
    | with_reducible exact Only.refl _ _
    | with_reducible assumption
    | decide
    | (with_reducible
        first
          | refine Only.ite ?_ ?_ | refine Only.ite_snd ?_ ?_ | refine Only.ite_fst ?_ ?_
          | refine Only.foldl _ (fun _ _ _ => ?_) _ ?_ | refine Only.foldl_snd _ (fun _ _ _ => ?_) _ ?_
          | refine Only.foldl_fst _ (fun _ _ _ => ?_) _ ?_ | apply Only.app (runAction_only ..))
    | split
    | dsimp only)

theorem loadNvmRegs_only (s : State) : Only 7 s (loadNvmRegs s) := by
  unfold loadNvmRegs
  try dsimp only
  repeat' (first
    | (simp only [↓Only.mk_guard]; with_reducible refine Only.of_mk rfl ?_)
    | with_reducible exact Only.refl _ _
    | with_reducible assumption
    | decide
    | split
    | dsimp only)

theorem bringupDone_only (s : State) : Only 86245374 s (bringupDone s) := by
  unfold bringupDone
  try dsimp only
  repeat' (first
    | (simp only [↓Only.mk_guard]; with_reducible refine Only.of_mk rfl ?_)
    | with_reducible exact Only.refl _ _
    | with_reducible assumption
    | decide
    | (with_reducible
        first
          | refine Only.ite ?_ ?_ | refine Only.ite_snd ?_ ?_ | refine Only.ite_fst ?_ ?_
          | apply Only.app (appendLog_only ..) | apply Only.app (enterMode_only ..))
    | split
    | dsimp only)

theorem bringupFail_only (code islands : Nat) (s : State) : Only 86245374 s (bringupFail code islands s) := by
  unfold bringupFail
  try dsimp only
  repeat' (first
    | (simp only [↓Only.mk_guard]; with_reducible refine Only.of_mk rfl ?_)
    | with_reducible exact Only.refl _ _
    | with_reducible assumption
    | decide
    | (with_reducible
        first
          | refine Only.ite ?_ ?_ | refine Only.ite_snd ?_ ?_ | refine Only.ite_fst ?_ ?_
          | refine Only.foldl _ (fun _ _ _ => ?_) _ ?_ | refine Only.foldl_snd _ (fun _ _ _ => ?_) _ ?_
          | refine Only.foldl_fst _ (fun _ _ _ => ?_) _ ?_ | apply Only.app (enterSafestop_only ..)
          | apply Only.app (modIsl_only ..))
    | split
    | dsimp only)

theorem step4_only (corrected : Bool) (s : State) : Only 2228322 s (step4 corrected s).2 := by
  unfold step4
  try dsimp only
  repeat' (first
    | (simp only [↓Only.mk_guard]; with_reducible refine Only.of_mk rfl ?_)
    | with_reducible exact Only.refl _ _
    | with_reducible assumption
    | decide
    | (with_reducible
        first
          | refine Only.ite ?_ ?_ | refine Only.ite_snd ?_ ?_ | refine Only.ite_fst ?_ ?_
          | apply Only.app (engineStep4_only ..) | apply Only.app (logLost_only ..))
    | split
    | dsimp only)

theorem step5_only (s : State) : Only 6291520 s (step5 s).2 := by
  unfold step5
  try dsimp only
  repeat' (first
    | (simp only [↓Only.mk_guard]; with_reducible refine Only.of_mk rfl ?_)
    | with_reducible exact Only.refl _ _
    | with_reducible assumption
    | decide
    | (with_reducible
        first
          | refine Only.ite ?_ ?_ | refine Only.ite_snd ?_ ?_ | refine Only.ite_fst ?_ ?_
          | apply Only.app (storeImages_only ..))
    | split
    | dsimp only)

theorem startCores_only (l : List Nat) (s : State) : Only 90177816 s (startCores l s).2 := by
  unfold startCores
  try dsimp only
  repeat' (first
    | with_reducible exact Only.refl _ _
    | with_reducible assumption
    | decide
    | (with_reducible
        first
          | refine Only.ite ?_ ?_ | refine Only.ite_snd ?_ ?_ | refine Only.ite_fst ?_ ?_
          | refine Only.foldl _ (fun _ _ _ => ?_) _ ?_ | refine Only.foldl_snd _ (fun _ _ _ => ?_) _ ?_
          | refine Only.foldl_fst _ (fun _ _ _ => ?_) _ ?_ | apply Only.app (coreStart_only ..))
    | split
    | dsimp only)

theorem step8_only (x : BringIn) (s : State) : Only 91209727 s (step8 x s).2 := by
  unfold step8
  try dsimp only
  repeat' (first
    | with_reducible exact Only.refl _ _
    | with_reducible assumption
    | decide
    | (with_reducible
        first
          | refine Only.ite ?_ ?_ | refine Only.ite_snd ?_ ?_ | refine Only.ite_fst ?_ ?_
          | refine Only.foldl _ (fun _ _ _ => ?_) _ ?_ | refine Only.foldl_snd _ (fun _ _ _ => ?_) _ ?_
          | refine Only.foldl_fst _ (fun _ _ _ => ?_) _ ?_ | apply Only.app (bsStep8_only ..)
          | apply Only.app (engineStep8_only ..) | apply Only.app (fabWrite_only ..)
          | apply Only.app (fcStep8_only ..) | apply Only.app (loadNvmRegs_only ..)
          | apply Only.app (loadQueues_only ..) | apply Only.app (startCores_only ..))
    | split
    | dsimp only)

theorem step9_only (s : State) : Only 90964248 s (step9 s).2 := by
  unfold step9
  try dsimp only
  repeat' (first
    | with_reducible exact Only.refl _ _
    | with_reducible assumption
    | decide
    | (with_reducible
        first
          | apply Only.app (engineStep9_only ..) | apply Only.app (startCores_only ..))
    | split
    | dsimp only)

theorem stepEffect_only (x : BringIn) (s : State) : Only 92274687 s (stepEffect x s).2 := by
  unfold stepEffect
  try dsimp only
  repeat' (first
    | (simp only [↓Only.mk_guard]; with_reducible refine Only.of_mk rfl ?_)
    | with_reducible exact Only.refl _ _
    | with_reducible assumption
    | decide
    | (with_reducible
        first
          | refine Only.ite ?_ ?_ | refine Only.ite_snd ?_ ?_ | refine Only.ite_fst ?_ ?_
          | refine Only.foldl _ (fun _ _ _ => ?_) _ ?_ | refine Only.foldl_snd _ (fun _ _ _ => ?_) _ ?_
          | refine Only.foldl_fst _ (fun _ _ _ => ?_) _ ?_ | apply Only.app (bringIsl_only ..)
          | apply Only.app (kerbStart_only ..) | apply Only.app (kerbTest_only ..) | apply Only.app (lockPll_only ..)
          | apply Only.app (step4_only ..) | apply Only.app (step5_only ..) | apply Only.app (step8_only ..)
          | apply Only.app (step9_only ..))
    | split
    | dsimp only)

theorem releaseTested_only (s : State) : Only 18874776 s (releaseTested s) := by
  unfold releaseTested
  try dsimp only
  repeat' (first
    | with_reducible exact Only.refl _ _
    | with_reducible assumption
    | decide
    | (with_reducible
        first
          | refine Only.ite ?_ ?_ | refine Only.ite_snd ?_ ?_ | refine Only.ite_fst ?_ ?_
          | refine Only.foldl _ (fun _ _ _ => ?_) _ ?_ | refine Only.foldl_snd _ (fun _ _ _ => ?_) _ ?_
          | refine Only.foldl_fst _ (fun _ _ _ => ?_) _ ?_ | apply Only.app (islOn_only ..))
    | split
    | dsimp only)

theorem stepComplete_only (x : BringIn) (s : State) : Only 92274687 s (stepComplete x s) := by
  unfold stepComplete
  try dsimp only
  repeat' (first
    | (simp only [↓Only.mk_guard]; with_reducible refine Only.of_mk rfl ?_)
    | with_reducible exact Only.refl _ _
    | with_reducible assumption
    | decide
    | (with_reducible
        first
          | refine Only.ite ?_ ?_ | refine Only.ite_snd ?_ ?_ | refine Only.ite_fst ?_ ?_
          | apply Only.app (bringupDone_only ..) | apply Only.app (bringupFail_only ..)
          | apply Only.app (kerbTestFail_only ..) | apply Only.app (releaseTested_only ..)
          | apply Only.app (stepEffect_only ..))
    | split
    | dsimp only)

theorem execBringupStepComplete_only (x : BringIn) (s : State) :
    ∃ s', execBringupStepComplete x s = .next s' ∧ Only 92274687 s s' := by
  refine ⟨_, rfl, ?_⟩
  try dsimp only
  repeat' (first
    | with_reducible exact Only.refl _ _
    | with_reducible assumption
    | decide
    | (with_reducible
        first
          | apply Only.app (stepComplete_only ..))
    | split
    | dsimp only)

end Sys2Proof.Machine
end

