-- ==== Sys2Proof/Laws/OnlyClocks.lean ====
section
/-! SUPPORT. What each operation of Machine/Clocks.lean can touch. -/
set_option linter.all false
set_option Elab.async false
namespace Sys2Proof.Machine
open Sys2Proof

theorem anyIslandFault_only (i : Nat) (s : State) : Only 134217727 s (anyIslandFault i s) := by
  unfold anyIslandFault
  try dsimp only
  repeat' (first
    | with_reducible exact Only.refl _ _
    | with_reducible assumption
    | decide
    | (with_reducible
        first
          | refine Only.ite ?_ ?_ | refine Only.ite_snd ?_ ?_ | refine Only.ite_fst ?_ ?_
          | apply Only.app (deviceReset_only ..) | apply Only.app (islandFault_only ..)
          | apply Only.app (latchIsl_only ..) | apply Only.app (safestopCause_only ..))
    | split
    | dsimp only)

theorem execTargetMhzWrite_only (mhz : BitVec 16) (s : State) :
    ∃ s', execTargetMhzWrite mhz s = .next s' ∧ Only 124780542 s s' := by
  refine ⟨_, rfl, ?_⟩
  try dsimp only
  repeat' (first
    | with_reducible exact Only.refl _ _
    | with_reducible assumption
    | decide
    | (with_reducible
        first
          | refine hostWriteOk_only (by decide) (fun _ _ => ?_) ?_ | apply Only.app (targetWrite_only ..))
    | split
    | dsimp only)

theorem execFamilyWrite_only (family : Fin 2) (s : State) :
    ∃ s', execFamilyWrite family s = .next s' ∧ Only 124780542 s s' := by
  refine ⟨_, rfl, ?_⟩
  try dsimp only
  repeat' (first
    | with_reducible exact Only.refl _ _
    | with_reducible assumption
    | decide
    | (with_reducible
        first
          | apply Only.app (familyWrite_only ..) | refine hostWriteOk_only (by decide) (fun _ _ => ?_) ?_)
    | split
    | dsimp only)

theorem execPllLock_only (p : Fin 5) (s : State) :
    ∃ s', execPllLock p s = .next s' ∧ Only 4 s s' := by
  refine ⟨_, rfl, ?_⟩
  try dsimp only
  repeat' (first
    | with_reducible exact Only.refl _ _
    | with_reducible assumption
    | decide
    | (with_reducible
        first
          | apply Only.app (pllLock_only ..))
    | split
    | dsimp only)

theorem execRelockStairStep_only (p : Fin 5) (s : State) :
    ∃ s', execRelockStairStep p s = .next s' ∧ Only 4 s s' := by
  refine ⟨_, rfl, ?_⟩
  try dsimp only
  repeat' (first
    | with_reducible exact Only.refl _ _
    | with_reducible assumption
    | decide
    | (with_reducible
        first
          | apply Only.app (stairStep_only ..))
    | split
    | dsimp only)

theorem execMonTrip_only (p : Fin 5) (s : State) :
    ∃ s', execMonTrip p s = .next s' ∧ Only 19116476 s s' := by
  refine ⟨_, rfl, ?_⟩
  try dsimp only
  repeat' (first
    | with_reducible exact Only.refl _ _
    | with_reducible assumption
    | decide
    | (with_reducible
        first
          | apply Only.app (monTrip_only ..))
    | split
    | dsimp only)

theorem execLockLoss_only (p : Fin 5) (s : State) :
    ∃ s', execLockLoss p s = .next s' ∧ Only 19116476 s s' := by
  refine ⟨_, rfl, ?_⟩
  try dsimp only
  repeat' (first
    | with_reducible exact Only.refl _ _
    | with_reducible assumption
    | decide
    | (with_reducible
        first
          | apply Only.app (lockLoss_only ..))
    | split
    | dsimp only)

theorem execLockSearchTimeout_only (p : Fin 5) (s : State) :
    ∃ s', execLockSearchTimeout p s = .next s' ∧ Only 19116476 s s' := by
  refine ⟨_, rfl, ?_⟩
  try dsimp only
  repeat' (first
    | with_reducible exact Only.refl _ _
    | with_reducible assumption
    | decide
    | (with_reducible
        first
          | apply Only.app (lockSearchTimeout_only ..))
    | split
    | dsimp only)

theorem execAonDutyTick_only (s : State) :
    ∃ s', execAonDutyTick s = .next s' ∧ Only 91209628 s s' := by
  refine ⟨_, rfl, ?_⟩
  try dsimp only
  repeat' (first
    | with_reducible exact Only.refl _ _
    | with_reducible assumption
    | decide
    | (with_reducible
        first
          | refine Only.ite ?_ ?_ | refine Only.ite_snd ?_ ?_ | refine Only.ite_fst ?_ ?_
          | apply Only.app (dutyTick_only ..))
    | split
    | dsimp only)

theorem execFenceDrainTimeout_only (i : Fin 16) (s : State) :
    ∃ s', execFenceDrainTimeout i s = .next s' ∧ Only 16777228 s s' := by
  refine ⟨_, rfl, ?_⟩
  try dsimp only
  repeat' (first
    | with_reducible exact Only.refl _ _
    | with_reducible assumption
    | decide
    | (with_reducible
        first
          | apply Only.app (drainFence_only ..))
    | split
    | dsimp only)

theorem execFenceRelease_only (i : Fin 16) (s : State) :
    ∃ s', execFenceRelease i s = .next s' ∧ Only 91209628 s s' := by
  refine ⟨_, rfl, ?_⟩
  try dsimp only
  repeat' (first
    | with_reducible exact Only.refl _ _
    | with_reducible assumption
    | decide
    | (with_reducible
        first
          | apply Only.app (releaseIsl_only ..))
    | split
    | dsimp only)

theorem execFabricTimeout_only (initiator target : Fin 16) (s : State) :
    ∃ s', execFabricTimeout initiator target s = .next s' ∧ Only 92274968 s s' := by
  refine ⟨_, rfl, ?_⟩
  try dsimp only
  repeat' (first
    | with_reducible exact Only.refl _ _
    | with_reducible assumption
    | decide
    | (with_reducible
        first
          | apply Only.app (fabricTimeout_only ..))
    | split
    | dsimp only)

theorem execIslCtlRestart_only (key : BitVec 8) (islands : BitVec 16) (s : State) :
    ∃ s', execIslCtlRestart key islands s = .next s' ∧ Only 124780542 s s' := by
  refine ⟨_, rfl, ?_⟩
  try dsimp only
  repeat' (first
    | with_reducible exact Only.refl _ _
    | with_reducible assumption
    | decide
    | (with_reducible
        first
          | refine hostWrite_only (by decide) (fun _ _ => ?_) ?_ | apply Only.app (islCtl_only ..))
    | split
    | dsimp only)

theorem execIslCtlHold_only (key : BitVec 8) (islands : BitVec 16) (s : State) :
    ∃ s', execIslCtlHold key islands s = .next s' ∧ Only 124780542 s s' := by
  refine ⟨_, rfl, ?_⟩
  try dsimp only
  repeat' (first
    | with_reducible exact Only.refl _ _
    | with_reducible assumption
    | decide
    | (with_reducible
        first
          | refine hostWrite_only (by decide) (fun _ _ => ?_) ?_ | apply Only.app (islCtl_only ..))
    | split
    | dsimp only)

theorem execIslCtlRelease_only (key : BitVec 8) (islands : BitVec 16) (s : State) :
    ∃ s', execIslCtlRelease key islands s = .next s' ∧ Only 124780542 s s' := by
  refine ⟨_, rfl, ?_⟩
  try dsimp only
  repeat' (first
    | with_reducible exact Only.refl _ _
    | with_reducible assumption
    | decide
    | (with_reducible
        first
          | refine hostWrite_only (by decide) (fun _ _ => ?_) ?_ | apply Only.app (islCtl_only ..))
    | split
    | dsimp only)

theorem execIslandFault_only (i : Fin 16) (s : State) :
    ∃ s', execIslandFault i s = .next s' ∧ Only 134217727 s s' := by
  refine ⟨_, rfl, ?_⟩
  try dsimp only
  repeat' (first
    | with_reducible exact Only.refl _ _
    | with_reducible assumption
    | decide
    | (with_reducible
        first
          | apply Only.app (anyIslandFault_only ..))
    | split
    | dsimp only)

theorem execRefclkLoss_only (s : State) :
    ∃ s', execRefclkLoss s = .next s' ∧ Only 16777756 s s' := by
  refine ⟨_, rfl, ?_⟩
  try dsimp only
  repeat' (first
    | with_reducible exact Only.refl _ _
    | with_reducible assumption
    | decide
    | (with_reducible
        first
          | apply Only.app (refclkLoss_only ..))
    | split
    | dsimp only)

theorem execRefclkRelock_only (s : State) :
    ∃ s', execRefclkRelock s = .next s' ∧ Only 18874940 s s' := by
  refine ⟨_, rfl, ?_⟩
  try dsimp only
  repeat' (first
    | with_reducible exact Only.refl _ _
    | with_reducible assumption
    | decide
    | (with_reducible
        first
          | apply Only.app (refclkRelock_only ..))
    | split
    | dsimp only)

theorem execIslandWatchdogExpiry_only (i : Fin 16) (s : State) :
    ∃ s', execIslandWatchdogExpiry i s = .next s' ∧ Only 19116472 s s' := by
  refine ⟨_, rfl, ?_⟩
  try dsimp only
  repeat' (first
    | with_reducible exact Only.refl _ _
    | with_reducible assumption
    | decide
    | (with_reducible
        first
          | refine Only.ite ?_ ?_ | refine Only.ite_snd ?_ ?_ | refine Only.ite_fst ?_ ?_
          | apply Only.app (islandFault_only ..))
    | split
    | dsimp only)

theorem execAonWatchdogExpiry_only (s : State) :
    ∃ s', execAonWatchdogExpiry s = .next s' ∧ Only 134217727 s s' := by
  refine ⟨_, rfl, ?_⟩
  try dsimp only
  repeat' (first
    | with_reducible exact Only.refl _ _
    | with_reducible assumption
    | decide
    | (with_reducible
        first
          | apply Only.app (deviceReset_only ..))
    | split
    | dsimp only)

end Sys2Proof.Machine
end

