-- ==== Sys2Proof/Laws/OnlyCommit.lean ====
section
/-! SUPPORT. What each operation of Machine/Commit.lean can touch. -/
set_option linter.all false
set_option Elab.async false
namespace Sys2Proof.Machine
open Sys2Proof

theorem storeScope_only (k : Nat) (p : List Byte) (s : State) : Only 6291456 s (storeScope k p s) := by
  unfold storeScope
  try dsimp only
  repeat' (first
    | (simp only [↓Only.mk_guard]; with_reducible refine Only.of_mk rfl ?_ (pm := ?_))
    | with_reducible exact Only.refl _ _
    | with_reducible assumption
    | decide
    | (intro h; (repeat' (with_reducible first | exact h | assumption | refine Memory.writeBytes_wf _ _ ?_ | refine Memory.filter_wf _ ?_ | refine Memory.clear_wf _ _ ?_ | refine Memory.write_wf _ _ ?_ | split | dsimp only)); done)
    | split
    | dsimp only)

theorem commitFirmware_only (p : List Byte) (l : List Image) (s : State) : Only 64 s (commitFirmware p l s) := by
  unfold commitFirmware
  try dsimp only
  repeat' (first
    | (simp only [↓Only.mk_guard]; with_reducible refine Only.of_mk rfl ?_)
    | with_reducible exact Only.refl _ _
    | with_reducible assumption
    | decide
    | (with_reducible
        first
          | refine Only.foldl _ (fun _ _ _ => ?_) _ ?_ | refine Only.foldl_snd _ (fun _ _ _ => ?_) _ ?_
          | refine Only.foldl_fst _ (fun _ _ _ => ?_) _ ?_)
    | split
    | dsimp only)

theorem commitConfig_only (p : List Byte) (s : State) : Only 64 s (commitConfig p s) := by
  unfold commitConfig
  try dsimp only
  repeat' (first
    | (simp only [↓Only.mk_guard]; with_reducible refine Only.of_mk rfl ?_)
    | with_reducible exact Only.refl _ _
    | with_reducible assumption
    | decide
    | split
    | dsimp only)

theorem commitContent_only (k : Nat) (x : ScopeState) (p : List Byte) (s : State) : Only 6946880 s (commitContent k x p s) := by
  unfold commitContent
  try dsimp only
  repeat' (first
    | (simp only [↓Only.mk_guard]; with_reducible refine Only.of_mk rfl ?_)
    | with_reducible exact Only.refl _ _
    | with_reducible assumption
    | decide
    | (with_reducible
        first
          | apply Only.app (commitConfig_only ..) | apply Only.app (commitFirmware_only ..)
          | apply Only.app (pwmLoadSafe_only ..) | apply Only.app (storeScope_only ..))
    | split
    | dsimp only)

theorem reanchor_only (s : State) : Only 2097184 s (reanchor s) := by
  unfold reanchor
  try dsimp only
  repeat' (first
    | (simp only [↓Only.mk_guard]; with_reducible refine Only.of_mk rfl ?_)
    | with_reducible exact Only.refl _ _
    | with_reducible assumption
    | decide
    | (with_reducible
        first
          | apply Only.app (appendLog_only ..))
    | split
    | dsimp only)

theorem afterCommit_only (firmware : Bool) (s : State) : Only 69468154 s (afterCommit firmware s) := by
  unfold afterCommit
  try dsimp only
  repeat' (first
    | (simp only [↓Only.mk_guard]; with_reducible refine Only.of_mk rfl ?_)
    | with_reducible exact Only.refl _ _
    | with_reducible assumption
    | decide
    | (with_reducible
        first
          | refine Only.ite ?_ ?_ | refine Only.ite_snd ?_ ?_ | refine Only.ite_fst ?_ ?_
          | apply Only.app (startBringup_only ..))
    | split
    | dsimp only)

theorem commitPoint_only (k : Nat) (flashOk : Bool) (s : State) : Only 74186746 s (commitPoint k flashOk s) := by
  unfold commitPoint
  try dsimp only
  repeat' (first
    | with_reducible exact Only.refl _ _
    | with_reducible assumption
    | decide
    | (with_reducible
        first
          | refine Only.ite ?_ ?_ | refine Only.ite_snd ?_ ?_ | refine Only.ite_fst ?_ ?_
          | refine Only.foldl _ (fun _ _ _ => ?_) _ ?_ | refine Only.foldl_snd _ (fun _ _ _ => ?_) _ ?_
          | refine Only.foldl_fst _ (fun _ _ _ => ?_) _ ?_ | apply Only.app (afterCommit_only ..)
          | apply Only.app (appendLog_only ..) | apply Only.app (commitContent_only ..)
          | apply Only.app (endProposal_only ..) | apply Only.app (modScope_only ..)
          | apply Only.app (reanchor_only ..) | apply Only.app (sealApplied_only ..)
          | apply Only.app (settleMismatch_only ..))
    | split
    | dsimp only)

theorem wardenAnswer_only (src : Nat) (st : Status) (s : State) : Only 524288 s (wardenAnswer src st s) := by
  unfold wardenAnswer
  try dsimp only
  repeat' (first
    | (simp only [↓Only.mk_guard]; with_reducible refine Only.of_mk rfl ?_)
    | with_reducible exact Only.refl _ _
    | with_reducible assumption
    | decide
    | (with_reducible
        first
          | refine Only.ite ?_ ?_ | refine Only.ite_snd ?_ ?_ | refine Only.ite_fst ?_ ?_)
    | split
    | dsimp only)

theorem wardenConfirm_only (src : Nat) (tag : Word) (s : State) : Only 2621552 s (wardenConfirm src tag s) := by
  unfold wardenConfirm
  try dsimp only
  repeat' (first
    | with_reducible exact Only.refl _ _
    | with_reducible assumption
    | decide
    | (with_reducible
        first
          | refine Only.ite ?_ ?_ | refine Only.ite_snd ?_ ?_ | refine Only.ite_fst ?_ ?_
          | apply Only.app (confirm_only ..) | apply Only.app (refuseWith_only ..)
          | apply Only.app (wardenAnswer_only ..))
    | split
    | dsimp only)

theorem overChannel_only {j o : Nat} {ch : Channel} {s x : State} {f : State → Status × State} (hj : 133169146 ||| j = j)
    (hf : ∀ y, Only j s y → Only j s (f y).2) (h : Only j s x) : Only j s (overChannel ch o f x) := by
  have hw : 124780538 ||| j = j := by rw [← hj, ← Nat.or_assoc]; rfl
  have r : ∀ st y, Only j s y → Only j s (replyWith st 0 y) := fun st y hy => (Only.mono (replyWith_only st 0 y) (by decide)).app hj hy
  unfold overChannel
  split
  · exact hostWrite_only hw hf h
  · exact hostWrite_only hw hf h
  · exact hf _ h
  · exact r _ _ (hf _ h)

end Sys2Proof.Machine
end

