-- ==== Sys2Proof/Laws/OnlyConsent.lean ====
section
/-! SUPPORT. What each operation of Machine/Consent.lean can touch. -/
set_option linter.all false
set_option Elab.async false
namespace Sys2Proof.Machine
open Sys2Proof

theorem execConsentPropose_only (ch : Channel) (w : Word) (s : State) :
    ∃ s', execConsentPropose ch w s = .next s' ∧ Only 133169146 s s' := by
  refine ⟨_, rfl, ?_⟩
  try dsimp only
  repeat' (first
    | with_reducible exact Only.refl _ _
    | with_reducible assumption
    | decide
    | (with_reducible
        first
          | refine overChannel_only (by decide) (fun _ _ => ?_) ?_ | apply Only.app (propose_only ..))
    | split
    | dsimp only)

theorem execConsentWithdraw_only (ch : Channel) (w : Word) (s : State) :
    ∃ s', execConsentWithdraw ch w s = .next s' ∧ Only 133169146 s s' := by
  refine ⟨_, rfl, ?_⟩
  try dsimp only
  repeat' (first
    | with_reducible exact Only.refl _ _
    | with_reducible assumption
    | decide
    | (with_reducible
        first
          | refine overChannel_only (by decide) (fun _ _ => ?_) ?_ | apply Only.app (withdraw_only ..))
    | split
    | dsimp only)

theorem execHashingComplete_only (scope : Fin 8) (s : State) :
    ∃ s', execHashingComplete scope s = .next s' ∧ Only 2097264 s s' := by
  refine ⟨_, rfl, ?_⟩
  try dsimp only
  repeat' (first
    | with_reducible exact Only.refl _ _
    | with_reducible assumption
    | decide
    | (with_reducible
        first
          | apply Only.app (hashingDone_only ..))
    | split
    | dsimp only)

theorem execConsentConfirm_only (ch : Channel) (tag : Word) (s : State) :
    ∃ s', execConsentConfirm ch tag s = .next s' ∧ Only 133169146 s s' := by
  refine ⟨_, rfl, ?_⟩
  try dsimp only
  repeat' (first
    | with_reducible exact Only.refl _ _
    | with_reducible assumption
    | decide
    | (with_reducible
        first
          | apply Only.app (confirm_only ..) | refine overChannel_only (by decide) (fun _ _ => ?_) ?_)
    | split
    | dsimp only)

theorem execConsentWindowExpiry_only (scope : Fin 8) (s : State) :
    ∃ s', execConsentWindowExpiry scope s = .next s' ∧ Only 2097264 s s' := by
  refine ⟨_, rfl, ?_⟩
  try dsimp only
  repeat' (first
    | with_reducible exact Only.refl _ _
    | with_reducible assumption
    | decide
    | (with_reducible
        first
          | apply Only.app (windowExpiry_only ..))
    | split
    | dsimp only)

theorem execCommitPoint_only (scope : Fin 8) (flashOk : Bool) (s : State) :
    ∃ s', execCommitPoint scope flashOk s = .next s' ∧ Only 74186746 s s' := by
  refine ⟨_, rfl, ?_⟩
  try dsimp only
  repeat' (first
    | with_reducible exact Only.refl _ _
    | with_reducible assumption
    | decide
    | (with_reducible
        first
          | apply Only.app (commitPoint_only ..))
    | split
    | dsimp only)

theorem execWardenConfirmReceive_only (src : BitVec 8) (tag : Word) (s : State) :
    ∃ s', execWardenConfirmReceive src tag s = .next s' ∧ Only 2621552 s s' := by
  refine ⟨_, rfl, ?_⟩
  try dsimp only
  repeat' (first
    | with_reducible exact Only.refl _ _
    | with_reducible assumption
    | decide
    | (with_reducible
        first
          | apply Only.app (wardenConfirm_only ..))
    | split
    | dsimp only)

end Sys2Proof.Machine
end

