-- ==== Sys2Proof/Laws/OnlyDoor.lean ====
section
/-! SUPPORT. What each operation of Machine/Door.lean can touch. -/
set_option linter.all false
set_option Elab.async false
namespace Sys2Proof.Machine
open Sys2Proof

theorem execTableAddressUpdate_only (a : Fin 16) (j : Fin 250) (s : State) :
    ∃ s', execTableAddressUpdate a j s = .next s' ∧ Only 8192 s s' := by
  refine ⟨_, rfl, ?_⟩
  try dsimp only
  repeat' (first
    | with_reducible exact Only.refl _ _
    | with_reducible assumption
    | decide
    | (with_reducible
        first
          | refine Only.ite ?_ ?_ | refine Only.ite_snd ?_ ?_ | refine Only.ite_fst ?_ ?_
          | apply Only.app (addressUpdate_only ..))
    | split
    | dsimp only)

theorem execComparatorEdge_only (a : Fin 16) (phaseB above : Bool) (delayNs atNs : Nat) (s : State) :
    ∃ s', execComparatorEdge a phaseB above delayNs atNs s = .next s' ∧ Only 8192 s s' := by
  refine ⟨_, rfl, ?_⟩
  try dsimp only
  repeat' (first
    | with_reducible exact Only.refl _ _
    | with_reducible assumption
    | decide
    | (with_reducible
        first
          | refine Only.ite ?_ ?_ | refine Only.ite_snd ?_ ?_ | refine Only.ite_fst ?_ ?_
          | apply Only.app (comparator_only ..))
    | split
    | dsimp only)

theorem execChopDeadTimeEnd_only (a : Fin 16) (phaseB : Bool) (atNs : Nat) (s : State) :
    ∃ s', execChopDeadTimeEnd a phaseB atNs s = .next s' ∧ Only 8192 s s' := by
  refine ⟨_, rfl, ?_⟩
  try dsimp only
  repeat' (first
    | with_reducible exact Only.refl _ _
    | with_reducible assumption
    | decide
    | (with_reducible
        first
          | refine Only.ite ?_ ?_ | refine Only.ite_snd ?_ ?_ | refine Only.ite_fst ?_ ?_
          | apply Only.app (deadEnd_only ..))
    | split
    | dsimp only)

theorem execChopBlankEnd_only (a : Fin 16) (phaseB above : Bool) (s : State) :
    ∃ s', execChopBlankEnd a phaseB above s = .next s' ∧ Only 2111896 s s' := by
  refine ⟨_, rfl, ?_⟩
  try dsimp only
  repeat' (first
    | with_reducible exact Only.refl _ _
    | with_reducible assumption
    | decide
    | (with_reducible
        first
          | refine Only.ite ?_ ?_ | refine Only.ite_snd ?_ ?_ | refine Only.ite_fst ?_ ?_
          | apply Only.app (blankEnd_only ..))
    | split
    | dsimp only)

theorem execChopFastDecayEnd_only (a : Fin 16) (phaseB : Bool) (s : State) :
    ∃ s', execChopFastDecayEnd a phaseB s = .next s' ∧ Only 8192 s s' := by
  refine ⟨_, rfl, ?_⟩
  try dsimp only
  repeat' (first
    | with_reducible exact Only.refl _ _
    | with_reducible assumption
    | decide
    | (with_reducible
        first
          | refine Only.ite ?_ ?_ | refine Only.ite_snd ?_ ?_ | refine Only.ite_fst ?_ ?_
          | apply Only.app (fastEnd_only ..))
    | split
    | dsimp only)

theorem execSenseOffsetMeasure_only (a : Fin 16) (ofsA ofsB : Int) (s : State) :
    ∃ s', execSenseOffsetMeasure a ofsA ofsB s = .next s' ∧ Only 2111896 s s' := by
  refine ⟨_, rfl, ?_⟩
  try dsimp only
  repeat' (first
    | with_reducible exact Only.refl _ _
    | with_reducible assumption
    | decide
    | (with_reducible
        first
          | apply Only.app (offsetMeasured_only ..))
    | split
    | dsimp only)

theorem execOffsetCal_only (w : Word) (s : State) :
    ∃ s', execOffsetCal w s = .next s' ∧ Only 8192 s s' := by
  refine ⟨_, rfl, ?_⟩
  try dsimp only
  repeat' (first
    | with_reducible exact Only.refl _ _
    | with_reducible assumption
    | decide
    | (with_reducible
        first
          | refine Only.ite ?_ ?_ | refine Only.ite_snd ?_ ?_ | refine Only.ite_fst ?_ ?_
          | apply Only.app (ddCtl_only ..))
    | split
    | dsimp only)

theorem execStandstillReduction_only (a : Fin 16) (s : State) :
    ∃ s', execStandstillReduction a s = .next s' ∧ Only 8192 s s' := by
  refine ⟨_, rfl, ?_⟩
  try dsimp only
  repeat' (first
    | with_reducible exact Only.refl _ _
    | with_reducible assumption
    | decide
    | (with_reducible
        first
          | refine Only.ite ?_ ?_ | refine Only.ite_snd ?_ ?_ | refine Only.ite_fst ?_ ?_
          | apply Only.app (formCurrents_only ..))
    | split
    | dsimp only)

theorem execBemfSample_only (a : Fin 16) (phaseB : Bool) (code : Fin 4096) (atNs : Nat) (s : State) :
    ∃ s', execBemfSample a phaseB code atNs s = .next s' ∧ Only 8192 s s' := by
  refine ⟨_, rfl, ?_⟩
  try dsimp only
  repeat' (first
    | with_reducible exact Only.refl _ _
    | with_reducible assumption
    | decide
    | (with_reducible
        first
          | refine Only.ite ?_ ?_ | refine Only.ite_snd ?_ ?_ | refine Only.ite_fst ?_ ?_
          | apply Only.app (bemfSample_only ..))
    | split
    | dsimp only)

theorem execEstimate_only (a : Fin 16) (s : State) :
    ∃ s', execEstimate a s = .next s' ∧ Only 8192 s s' := by
  refine ⟨_, rfl, ?_⟩
  try dsimp only
  repeat' (first
    | with_reducible exact Only.refl _ _
    | with_reducible assumption
    | decide
    | (with_reducible
        first
          | refine Only.ite ?_ ?_ | refine Only.ite_snd ?_ ?_ | refine Only.ite_fst ?_ ?_
          | apply Only.app (estimate_only ..))
    | split
    | dsimp only)

theorem execNudgeResume_only (a : Fin 16) (s : State) :
    ∃ s', execNudgeResume a s = .next s' ∧ Only 2111896 s s' := by
  refine ⟨_, rfl, ?_⟩
  try dsimp only
  repeat' (first
    | with_reducible exact Only.refl _ _
    | with_reducible assumption
    | decide
    | (with_reducible
        first
          | refine Only.ite ?_ ?_ | refine Only.ite_snd ?_ ?_ | refine Only.ite_fst ?_ ?_
          | apply Only.app (nudgeResume_only ..))
    | split
    | dsimp only)

theorem execBridgeFault_only (a : Fin 16) (code : Fin 5) (present : Bool) (s : State) :
    ∃ s', execBridgeFault a code present s = .next s' ∧ Only 2111896 s s' := by
  refine ⟨_, rfl, ?_⟩
  try dsimp only
  repeat' (first
    | with_reducible exact Only.refl _ _
    | with_reducible assumption
    | decide
    | (with_reducible
        first
          | refine Only.ite ?_ ?_ | refine Only.ite_snd ?_ ?_ | refine Only.ite_fst ?_ ?_
          | apply Only.app (bridgeFault_only ..) | apply Only.app (bridgeGone_only ..))
    | split
    | dsimp only)

theorem execDdApply_only (w : Word) (s : State) :
    ∃ s', execDdApply w s = .next s' ∧ Only 8192 s s' := by
  refine ⟨_, rfl, ?_⟩
  try dsimp only
  repeat' (first
    | with_reducible exact Only.refl _ _
    | with_reducible assumption
    | decide
    | (with_reducible
        first
          | refine Only.ite ?_ ?_ | refine Only.ite_snd ?_ ?_ | refine Only.ite_fst ?_ ?_
          | apply Only.app (ddCtl_only ..))
    | split
    | dsimp only)

theorem execDdApplyDeferred_only (s : State) :
    ∃ s', execDdApplyDeferred s = .next s' ∧ Only 8192 s s' := by
  refine ⟨_, rfl, ?_⟩
  try dsimp only
  repeat' (first
    | with_reducible exact Only.refl _ _
    | with_reducible assumption
    | decide
    | (with_reducible
        first
          | refine Only.ite ?_ ?_ | refine Only.ite_snd ?_ ?_ | refine Only.ite_fst ?_ ?_
          | apply Only.app (ddDeferred_only ..))
    | split
    | dsimp only)

end Sys2Proof.Machine
end

