-- ==== Sys2Proof/Laws/OnlyForecast.lean ====
section
/-! SUPPORT. What each operation of Machine/Forecast.lean can touch. -/
set_option linter.all false
set_option Elab.async false
namespace Sys2Proof.Machine
open Sys2Proof

theorem streamOp_only (op : Nat) (i : Fin 4096) (slot : Fin 16) (source : BitVec 16) (s : State) : Only 2163096 s (streamOp op i slot source s) := by
  unfold streamOp
  try dsimp only
  repeat' (first
    | with_reducible exact Only.refl _ _
    | with_reducible assumption
    | decide
    | (with_reducible
        first
          | apply Only.app (fcStreamCtl_only ..))
    | split
    | dsimp only)

theorem execFcInputEntry_only (slot : Fin 16) (s : State) :
    ∃ s', execFcInputEntry slot s = .next s' ∧ Only 2163096 s s' := by
  refine ⟨_, rfl, ?_⟩
  try dsimp only
  repeat' (first
    | with_reducible exact Only.refl _ _
    | with_reducible assumption
    | decide
    | (with_reducible
        first
          | apply Only.app (fcInput_only ..))
    | split
    | dsimp only)

theorem execChunkDue_only (s : State) :
    ∃ s', execChunkDue s = .next s' ∧ Only 65536 s s' := by
  refine ⟨_, rfl, ?_⟩
  try dsimp only
  repeat' (first
    | with_reducible exact Only.refl _ _
    | with_reducible assumption
    | decide
    | (with_reducible
        first
          | apply Only.app (chunksDue_only ..))
    | split
    | dsimp only)

theorem execBatchWriteBack_only (s : State) :
    ∃ s', execBatchWriteBack s = .next s' ∧ Only 6357433 s s' := by
  refine ⟨_, rfl, ?_⟩
  try dsimp only
  repeat' (first
    | with_reducible exact Only.refl _ _
    | with_reducible assumption
    | decide
    | (with_reducible
        first
          | apply Only.app (batchEnd_only ..))
    | split
    | dsimp only)

theorem execCreate_only (stream : Fin 4096) (slot : Fin 16) (source : BitVec 16) (s : State) :
    ∃ s', execCreate stream slot source s = .next s' ∧ Only 2163096 s s' := by
  refine ⟨_, rfl, ?_⟩
  try dsimp only
  repeat' (first
    | with_reducible exact Only.refl _ _
    | with_reducible assumption
    | decide
    | (with_reducible
        first
          | apply Only.app (streamOp_only ..))
    | split
    | dsimp only)

theorem execDelete_only (stream : Fin 4096) (s : State) :
    ∃ s', execDelete stream s = .next s' ∧ Only 2163096 s s' := by
  refine ⟨_, rfl, ?_⟩
  try dsimp only
  repeat' (first
    | with_reducible exact Only.refl _ _
    | with_reducible assumption
    | decide
    | (with_reducible
        first
          | apply Only.app (streamOp_only ..))
    | split
    | dsimp only)

theorem execStreamReset_only (stream : Fin 4096) (s : State) :
    ∃ s', execStreamReset stream s = .next s' ∧ Only 2163096 s s' := by
  refine ⟨_, rfl, ?_⟩
  try dsimp only
  repeat' (first
    | with_reducible exact Only.refl _ _
    | with_reducible assumption
    | decide
    | (with_reducible
        first
          | apply Only.app (streamOp_only ..))
    | split
    | dsimp only)

theorem execHeadReset_only (stream : Fin 4096) (s : State) :
    ∃ s', execHeadReset stream s = .next s' ∧ Only 2163096 s s' := by
  refine ⟨_, rfl, ?_⟩
  try dsimp only
  repeat' (first
    | with_reducible exact Only.refl _ _
    | with_reducible assumption
    | decide
    | (with_reducible
        first
          | apply Only.app (streamOp_only ..))
    | split
    | dsimp only)

theorem execFreeze_only (stream : Fin 4096) (s : State) :
    ∃ s', execFreeze stream s = .next s' ∧ Only 2163096 s s' := by
  refine ⟨_, rfl, ?_⟩
  try dsimp only
  repeat' (first
    | with_reducible exact Only.refl _ _
    | with_reducible assumption
    | decide
    | (with_reducible
        first
          | apply Only.app (streamOp_only ..))
    | split
    | dsimp only)

theorem execThaw_only (stream : Fin 4096) (s : State) :
    ∃ s', execThaw stream s = .next s' ∧ Only 2163096 s s' := by
  refine ⟨_, rfl, ?_⟩
  try dsimp only
  repeat' (first
    | with_reducible exact Only.refl _ _
    | with_reducible assumption
    | decide
    | (with_reducible
        first
          | apply Only.app (streamOp_only ..))
    | split
    | dsimp only)

theorem execStreamCtlDeferred_only (s : State) :
    ∃ s', execStreamCtlDeferred s = .next s' ∧ Only 2163096 s s' := by
  refine ⟨_, rfl, ?_⟩
  try dsimp only
  repeat' (first
    | with_reducible exact Only.refl _ _
    | with_reducible assumption
    | decide
    | (with_reducible
        first
          | refine Only.ite ?_ ?_ | refine Only.ite_snd ?_ ?_ | refine Only.ite_fst ?_ ?_
          | apply Only.app (fcCtlDeferred_only ..))
    | split
    | dsimp only)

theorem execHeadUpdate_only (s : State) :
    ∃ s', execHeadUpdate s = .next s' ∧ Only 2163128 s s' := by
  refine ⟨_, rfl, ?_⟩
  try dsimp only
  repeat' (first
    | with_reducible exact Only.refl _ _
    | with_reducible assumption
    | decide
    | (with_reducible
        first
          | apply Only.app (headEntry_only ..))
    | split
    | dsimp only)

theorem execFcApply_only (w : Word) (s : State) :
    ∃ s', execFcApply w s = .next s' ∧ Only 2162688 s s' := by
  refine ⟨_, rfl, ?_⟩
  try dsimp only
  repeat' (first
    | with_reducible exact Only.refl _ _
    | with_reducible assumption
    | decide
    | (with_reducible
        first
          | refine Only.ite ?_ ?_ | refine Only.ite_snd ?_ ?_ | refine Only.ite_fst ?_ ?_
          | apply Only.app (fcCtl_only ..))
    | split
    | dsimp only)

theorem execModelLoad_only (w : Word) (s : State) :
    ∃ s', execModelLoad w s = .next s' ∧ Only 2162688 s s' := by
  refine ⟨_, rfl, ?_⟩
  try dsimp only
  repeat' (first
    | with_reducible exact Only.refl _ _
    | with_reducible assumption
    | decide
    | (with_reducible
        first
          | refine Only.ite ?_ ?_ | refine Only.ite_snd ?_ ?_ | refine Only.ite_fst ?_ ?_
          | apply Only.app (fcCtl_only ..))
    | split
    | dsimp only)

theorem execModelLoadComplete_only (file : Option (List Byte)) (s : State) :
    ∃ s', execModelLoadComplete file s = .next s' ∧ Only 6357432 s s' := by
  refine ⟨_, rfl, ?_⟩
  try dsimp only
  repeat' (first
    | with_reducible exact Only.refl _ _
    | with_reducible assumption
    | decide
    | (with_reducible
        first
          | refine Only.ite ?_ ?_ | refine Only.ite_snd ?_ ?_ | refine Only.ite_fst ?_ ?_
          | apply Only.app (modelLoaded_only ..))
    | split
    | dsimp only)

theorem execCheckpoint_only (w : Word) (s : State) :
    ∃ s', execCheckpoint w s = .next s' ∧ Only 2162688 s s' := by
  refine ⟨_, rfl, ?_⟩
  try dsimp only
  repeat' (first
    | with_reducible exact Only.refl _ _
    | with_reducible assumption
    | decide
    | (with_reducible
        first
          | refine Only.ite ?_ ?_ | refine Only.ite_snd ?_ ?_ | refine Only.ite_fst ?_ ?_
          | apply Only.app (fcCtl_only ..))
    | split
    | dsimp only)

theorem execCheckpointInterval_only (s : State) :
    ∃ s', execCheckpointInterval s = .next s' ∧ Only 65536 s s' := by
  refine ⟨_, rfl, ?_⟩
  try dsimp only
  repeat' (first
    | with_reducible exact Only.refl _ _
    | with_reducible assumption
    | decide
    | (with_reducible
        first
          | refine Only.ite ?_ ?_ | refine Only.ite_snd ?_ ?_ | refine Only.ite_fst ?_ ?_
          | apply Only.app (ckptInterval_only ..))
    | split
    | dsimp only)

theorem execCheckpointWriteComplete_only (s : State) :
    ∃ s', execCheckpointWriteComplete s = .next s' ∧ Only 65536 s s' := by
  refine ⟨_, rfl, ?_⟩
  try dsimp only
  repeat' (first
    | with_reducible exact Only.refl _ _
    | with_reducible assumption
    | decide
    | (with_reducible
        first
          | apply Only.app (ckptDone_only ..))
    | split
    | dsimp only)

end Sys2Proof.Machine
end

