-- ==== Sys2Proof/Laws/OnlyKerb.lean ====
section
/-! SUPPORT. What each operation of Machine/Kerb.lean can touch. -/
set_option linter.all false
set_option Elab.async false
namespace Sys2Proof.Machine
open Sys2Proof

theorem takeKerbFault_only (intFault : Nat) (s : State) : Only 86245374 s (takeKerbFault intFault s) := by
  unfold takeKerbFault
  try dsimp only
  repeat' (first
    | with_reducible exact Only.refl _ _
    | with_reducible assumption
    | decide
    | (with_reducible
        first
          | refine Only.ite ?_ ?_ | refine Only.ite_snd ?_ ?_ | refine Only.ite_fst ?_ ?_
          | apply Only.app (kerbFault_only ..) | apply Only.app (safestopCause_only ..))
    | split
    | dsimp only)

theorem compareFailure_only (cycle unit : Nat) (s : State) : Only 86245374 s (compareFailure cycle unit s) := by
  unfold compareFailure
  try dsimp only
  repeat' (first
    | (simp only [↓Only.mk_guard]; with_reducible refine Only.of_mk rfl ?_)
    | with_reducible exact Only.refl _ _
    | with_reducible assumption
    | decide
    | (with_reducible
        first
          | refine Only.ite ?_ ?_ | refine Only.ite_snd ?_ ?_ | refine Only.ite_fst ?_ ?_
          | apply Only.app (appendLog_only ..) | apply Only.app (takeKerbFault_only ..))
    | split
    | dsimp only)

theorem wakeAudio_only (s : State) : Only 19116444 s (wakeAudio s) := by
  unfold wakeAudio
  try dsimp only
  repeat' (first
    | with_reducible exact Only.refl _ _
    | with_reducible assumption
    | decide
    | (with_reducible
        first
          | refine Only.ite ?_ ?_ | refine Only.ite_snd ?_ ?_ | refine Only.ite_fst ?_ ?_
          | apply Only.app (modBs_only ..) | apply Only.app (steerIslands_only ..))
    | split
    | dsimp only)

theorem scanEffects_only (old s : State) : Only 86245374 s (scanEffects old s) := by
  unfold scanEffects
  try dsimp only
  repeat' (first
    | (simp only [↓Only.mk_guard]; with_reducible refine Only.of_mk rfl ?_)
    | with_reducible exact Only.refl _ _
    | with_reducible assumption
    | decide
    | (with_reducible
        first
          | refine Only.ite ?_ ?_ | refine Only.ite_snd ?_ ?_ | refine Only.ite_fst ?_ ?_
          | apply Only.app (recallSignal_only ..) | apply Only.app (safestopCause_only ..)
          | apply Only.app (wakeAudio_only ..))
    | split
    | dsimp only)

theorem execTripPathTrip_only (kin : BitVec 192) (s : State) :
    ∃ s', execTripPathTrip kin s = .next s' ∧ Only 2113584 s s' := by
  refine ⟨_, rfl, ?_⟩
  try dsimp only
  repeat' (first
    | with_reducible exact Only.refl _ _
    | with_reducible assumption
    | decide
    | (with_reducible
        first
          | apply Only.app (tripPathTrip_only ..))
    | split
    | dsimp only)

theorem execKinFilterChange_only (n : Fin 192) (v : Bool) (s : State) :
    ∃ s', execKinFilterChange n v s = .next s' ∧ Only 2113584 s s' := by
  refine ⟨_, rfl, ?_⟩
  try dsimp only
  repeat' (first
    | with_reducible exact Only.refl _ _
    | with_reducible assumption
    | decide
    | (with_reducible
        first
          | apply Only.app (kinFilter_only ..))
    | split
    | dsimp only)

theorem execDiscrepancyLatch_only (k : Fin 96) (s : State) :
    ∃ s', execDiscrepancyLatch k s = .next s' ∧ Only 2113568 s s' := by
  refine ⟨_, rfl, ?_⟩
  try dsimp only
  repeat' (first
    | with_reducible exact Only.refl _ _
    | with_reducible assumption
    | decide
    | (with_reducible
        first
          | apply Only.app (discLatch_only ..))
    | split
    | dsimp only)

theorem execKerbScan_only (rb : BitVec 32) (s : State) :
    ∃ s', execKerbScan rb s = .next s' ∧ Only 86245374 s s' := by
  refine ⟨_, rfl, ?_⟩
  try dsimp only
  repeat' (first
    | with_reducible exact Only.refl _ _
    | with_reducible assumption
    | decide
    | (with_reducible
        first
          | apply Only.app (kerbScan_only ..) | apply Only.app (scanEffects_only ..))
    | split
    | dsimp only)

theorem execKerbNop_only (s : State) :
    ∃ s', execKerbNop s = .next s' ∧ Only 16384 s s' := by
  refine ⟨_, rfl, ?_⟩
  try dsimp only
  repeat' (first
    | with_reducible exact Only.refl _ _
    | with_reducible assumption
    | decide
    | (with_reducible
        first
          | refine kerbExec_only (fun _ _ => ?_) ?_ | apply Only.app (modKerb_only ..))
    | split
    | dsimp only)

theorem execKerbLd_only (n : Bool) (space : Fin 16) (i : Fin 4096) (s : State) :
    ∃ s', execKerbLd n space i s = .next s' ∧ Only 16384 s s' := by
  refine ⟨_, rfl, ?_⟩
  try dsimp only
  repeat' (first
    | with_reducible exact Only.refl _ _
    | with_reducible assumption
    | decide
    | (with_reducible
        first
          | refine kerbExec_only (fun _ _ => ?_) ?_ | apply Only.app (modKerb_only ..))
    | split
    | dsimp only)

theorem execKerbAnd_only (n : Bool) (space : Fin 16) (i : Fin 4096) (s : State) :
    ∃ s', execKerbAnd n space i s = .next s' ∧ Only 16384 s s' := by
  refine ⟨_, rfl, ?_⟩
  try dsimp only
  repeat' (first
    | with_reducible exact Only.refl _ _
    | with_reducible assumption
    | decide
    | (with_reducible
        first
          | refine kerbExec_only (fun _ _ => ?_) ?_ | apply Only.app (modKerb_only ..))
    | split
    | dsimp only)

theorem execKerbOr_only (n : Bool) (space : Fin 16) (i : Fin 4096) (s : State) :
    ∃ s', execKerbOr n space i s = .next s' ∧ Only 16384 s s' := by
  refine ⟨_, rfl, ?_⟩
  try dsimp only
  repeat' (first
    | with_reducible exact Only.refl _ _
    | with_reducible assumption
    | decide
    | (with_reducible
        first
          | refine kerbExec_only (fun _ _ => ?_) ?_ | apply Only.app (modKerb_only ..))
    | split
    | dsimp only)

theorem execKerbXor_only (n : Bool) (space : Fin 16) (i : Fin 4096) (s : State) :
    ∃ s', execKerbXor n space i s = .next s' ∧ Only 16384 s s' := by
  refine ⟨_, rfl, ?_⟩
  try dsimp only
  repeat' (first
    | with_reducible exact Only.refl _ _
    | with_reducible assumption
    | decide
    | (with_reducible
        first
          | refine kerbExec_only (fun _ _ => ?_) ?_ | apply Only.app (modKerb_only ..))
    | split
    | dsimp only)

theorem execKerbPush_only (n : Bool) (space : Fin 16) (i : Fin 4096) (s : State) :
    ∃ s', execKerbPush n space i s = .next s' ∧ Only 16384 s s' := by
  refine ⟨_, rfl, ?_⟩
  try dsimp only
  repeat' (first
    | with_reducible exact Only.refl _ _
    | with_reducible assumption
    | decide
    | (with_reducible
        first
          | refine kerbExec_only (fun _ _ => ?_) ?_ | apply Only.app (modKerb_only ..))
    | split
    | dsimp only)

theorem execAndp_only (s : State) :
    ∃ s', execAndp s = .next s' ∧ Only 16384 s s' := by
  refine ⟨_, rfl, ?_⟩
  try dsimp only
  repeat' (first
    | with_reducible exact Only.refl _ _
    | with_reducible assumption
    | decide
    | (with_reducible
        first
          | refine kerbExec_only (fun _ _ => ?_) ?_ | apply Only.app (modKerb_only ..))
    | split
    | dsimp only)

theorem execOrp_only (s : State) :
    ∃ s', execOrp s = .next s' ∧ Only 16384 s s' := by
  refine ⟨_, rfl, ?_⟩
  try dsimp only
  repeat' (first
    | with_reducible exact Only.refl _ _
    | with_reducible assumption
    | decide
    | (with_reducible
        first
          | refine kerbExec_only (fun _ _ => ?_) ?_ | apply Only.app (modKerb_only ..))
    | split
    | dsimp only)

theorem execKerbSt_only (n : Bool) (space : Fin 16) (i : Fin 4096) (s : State) :
    ∃ s', execKerbSt n space i s = .next s' ∧ Only 16384 s s' := by
  refine ⟨_, rfl, ?_⟩
  try dsimp only
  repeat' (first
    | with_reducible exact Only.refl _ _
    | with_reducible assumption
    | decide
    | (with_reducible
        first
          | refine kerbExec_only (fun _ _ => ?_) ?_ | apply Only.app (modKerb_only ..))
    | split
    | dsimp only)

theorem execKerbSet_only (space : Fin 16) (i : Fin 4096) (s : State) :
    ∃ s', execKerbSet space i s = .next s' ∧ Only 16384 s s' := by
  refine ⟨_, rfl, ?_⟩
  try dsimp only
  repeat' (first
    | with_reducible exact Only.refl _ _
    | with_reducible assumption
    | decide
    | (with_reducible
        first
          | refine kerbExec_only (fun _ _ => ?_) ?_ | apply Only.app (modKerb_only ..))
    | split
    | dsimp only)

theorem execKerbRst_only (space : Fin 16) (i : Fin 4096) (s : State) :
    ∃ s', execKerbRst space i s = .next s' ∧ Only 16384 s s' := by
  refine ⟨_, rfl, ?_⟩
  try dsimp only
  repeat' (first
    | with_reducible exact Only.refl _ _
    | with_reducible assumption
    | decide
    | (with_reducible
        first
          | refine kerbExec_only (fun _ _ => ?_) ?_ | apply Only.app (modKerb_only ..))
    | split
    | dsimp only)

theorem execTim_only (i : Fin 256) (s : State) :
    ∃ s', execTim i s = .next s' ∧ Only 16384 s s' := by
  refine ⟨_, rfl, ?_⟩
  try dsimp only
  repeat' (first
    | with_reducible exact Only.refl _ _
    | with_reducible assumption
    | decide
    | (with_reducible
        first
          | refine kerbExec_only (fun _ _ => ?_) ?_ | apply Only.app (modKerb_only ..))
    | split
    | dsimp only)

theorem execEdgr_only (i : Fin 512) (s : State) :
    ∃ s', execEdgr i s = .next s' ∧ Only 16384 s s' := by
  refine ⟨_, rfl, ?_⟩
  try dsimp only
  repeat' (first
    | with_reducible exact Only.refl _ _
    | with_reducible assumption
    | decide
    | (with_reducible
        first
          | refine kerbExec_only (fun _ _ => ?_) ?_ | apply Only.app (modKerb_only ..))
    | split
    | dsimp only)

theorem execEdgf_only (i : Fin 512) (s : State) :
    ∃ s', execEdgf i s = .next s' ∧ Only 16384 s s' := by
  refine ⟨_, rfl, ?_⟩
  try dsimp only
  repeat' (first
    | with_reducible exact Only.refl _ _
    | with_reducible assumption
    | decide
    | (with_reducible
        first
          | refine kerbExec_only (fun _ _ => ?_) ?_ | apply Only.app (modKerb_only ..))
    | split
    | dsimp only)

theorem execCtu_only (i : Fin 128) (s : State) :
    ∃ s', execCtu i s = .next s' ∧ Only 16384 s s' := by
  refine ⟨_, rfl, ?_⟩
  try dsimp only
  repeat' (first
    | with_reducible exact Only.refl _ _
    | with_reducible assumption
    | decide
    | (with_reducible
        first
          | refine kerbExec_only (fun _ _ => ?_) ?_ | apply Only.app (modKerb_only ..))
    | split
    | dsimp only)

theorem execCtd_only (i : Fin 128) (s : State) :
    ∃ s', execCtd i s = .next s' ∧ Only 16384 s s' := by
  refine ⟨_, rfl, ?_⟩
  try dsimp only
  repeat' (first
    | with_reducible exact Only.refl _ _
    | with_reducible assumption
    | decide
    | (with_reducible
        first
          | refine kerbExec_only (fun _ _ => ?_) ?_ | apply Only.app (modKerb_only ..))
    | split
    | dsimp only)

theorem execCres_only (i : Fin 128) (s : State) :
    ∃ s', execCres i s = .next s' ∧ Only 16384 s s' := by
  refine ⟨_, rfl, ?_⟩
  try dsimp only
  repeat' (first
    | with_reducible exact Only.refl _ _
    | with_reducible assumption
    | decide
    | (with_reducible
        first
          | refine kerbExec_only (fun _ _ => ?_) ?_ | apply Only.app (modKerb_only ..))
    | split
    | dsimp only)

theorem execJmpc_only (t : Fin 4096) (s : State) :
    ∃ s', execJmpc t s = .next s' ∧ Only 16384 s s' := by
  refine ⟨_, rfl, ?_⟩
  try dsimp only
  repeat' (first
    | with_reducible exact Only.refl _ _
    | with_reducible assumption
    | decide
    | (with_reducible
        first
          | refine kerbExec_only (fun _ _ => ?_) ?_ | apply Only.app (modKerb_only ..))
    | split
    | dsimp only)

theorem execJmp_only (t : Fin 4096) (s : State) :
    ∃ s', execJmp t s = .next s' ∧ Only 16384 s s' := by
  refine ⟨_, rfl, ?_⟩
  try dsimp only
  repeat' (first
    | with_reducible exact Only.refl _ _
    | with_reducible assumption
    | decide
    | (with_reducible
        first
          | refine kerbExec_only (fun _ _ => ?_) ?_ | apply Only.app (modKerb_only ..))
    | split
    | dsimp only)

theorem execCue_only (car : BitVec 8) (cue : Fin 4096) (s : State) :
    ∃ s', execCue car cue s = .next s' ∧ Only 16384 s s' := by
  refine ⟨_, rfl, ?_⟩
  try dsimp only
  repeat' (first
    | with_reducible exact Only.refl _ _
    | with_reducible assumption
    | decide
    | (with_reducible
        first
          | apply Only.app (kCue_only ..) | refine kerbExec_only (fun _ _ => ?_) ?_)
    | split
    | dsimp only)

theorem execFrst_only (i : Fin 4096) (s : State) :
    ∃ s', execFrst i s = .next s' ∧ Only 2113568 s s' := by
  refine ⟨_, rfl, ?_⟩
  try dsimp only
  repeat' (first
    | with_reducible exact Only.refl _ _
    | with_reducible assumption
    | decide
    | (with_reducible
        first
          | apply Only.app (kFrst_only ..) | refine kerbExec_only (fun _ _ => ?_) ?_)
    | split
    | dsimp only)

theorem execKerbEnd_only (s : State) :
    ∃ s', execKerbEnd s = .next s' ∧ Only 16384 s s' := by
  refine ⟨_, rfl, ?_⟩
  try dsimp only
  repeat' (first
    | with_reducible exact Only.refl _ _
    | with_reducible assumption
    | decide
    | (with_reducible
        first
          | refine kerbExec_only (fun _ _ => ?_) ?_ | apply Only.app (modKerb_only ..))
    | split
    | dsimp only)

theorem execReadbackFault_only (n : Fin 32) (level : Bool) (s : State) :
    ∃ s', execReadbackFault n level s = .next s' ∧ Only 2113568 s s' := by
  refine ⟨_, rfl, ?_⟩
  try dsimp only
  repeat' (first
    | with_reducible exact Only.refl _ _
    | with_reducible assumption
    | decide
    | (with_reducible
        first
          | apply Only.app (readbackFault_only ..))
    | split
    | dsimp only)

theorem execOutputTestPulse_only (n : Fin 32) (sawOff : Bool) (s : State) :
    ∃ s', execOutputTestPulse n sawOff s = .next s' ∧ Only 2113568 s s' := by
  refine ⟨_, rfl, ?_⟩
  try dsimp only
  repeat' (first
    | with_reducible exact Only.refl _ _
    | with_reducible assumption
    | decide
    | (with_reducible
        first
          | apply Only.app (outputTest_only ..))
    | split
    | dsimp only)

theorem execProgramExchange_only (s : State) :
    ∃ s', execProgramExchange s = .next s' ∧ Only 2113632 s s' := by
  refine ⟨_, rfl, ?_⟩
  try dsimp only
  repeat' (first
    | with_reducible exact Only.refl _ _
    | with_reducible assumption
    | decide
    | (with_reducible
        first
          | apply Only.app (progExchange_only ..))
    | split
    | dsimp only)

theorem execTripPathsExchange_only (s : State) :
    ∃ s', execTripPathsExchange s = .next s' ∧ Only 2113648 s s' := by
  refine ⟨_, rfl, ?_⟩
  try dsimp only
  repeat' (first
    | with_reducible exact Only.refl _ _
    | with_reducible assumption
    | decide
    | (with_reducible
        first
          | apply Only.app (tripExchange_only ..))
    | split
    | dsimp only)

theorem execKerbFault_only (c : KerbCause) (s : State) :
    ∃ s', execKerbFault c s = .next s' ∧ Only 86245374 s s' := by
  refine ⟨_, rfl, ?_⟩
  try dsimp only
  repeat' (first
    | with_reducible exact Only.refl _ _
    | with_reducible assumption
    | decide
    | (with_reducible
        first
          | apply Only.app (kerbFaultGone_only ..) | apply Only.app (takeKerbFault_only ..))
    | split
    | dsimp only)

theorem execCompareFailure_only (cycle : Fin 160) (unit : Fin 4) (s : State) :
    ∃ s', execCompareFailure cycle unit s = .next s' ∧ Only 86245374 s s' := by
  refine ⟨_, rfl, ?_⟩
  try dsimp only
  repeat' (first
    | with_reducible exact Only.refl _ _
    | with_reducible assumption
    | decide
    | (with_reducible
        first
          | apply Only.app (compareFailure_only ..))
    | split
    | dsimp only)

end Sys2Proof.Machine
end

