-- ==== Sys2Proof/Laws/OnlyLedger.lean ====
section
/-! SUPPORT. What each operation of Machine/Ledger.lean can touch. -/
set_option linter.all false
set_option Elab.async false
namespace Sys2Proof.Machine
open Sys2Proof

theorem execPulseEdge_only (k : Fin 64) (bHigh : Bool) (t : Nat) (s : State) :
    ∃ s', execPulseEdge k bHigh t s = .next s' ∧ Only 1024 s s' := by
  refine ⟨_, rfl, ?_⟩
  try dsimp only
  repeat' (first
    | with_reducible exact Only.refl _ _
    | with_reducible assumption
    | decide
    | (with_reducible
        first
          | apply Only.app (pulseEdge_only ..))
    | split
    | dsimp only)

theorem execPulseFreqGate_only (k : Fin 64) (s : State) :
    ∃ s', execPulseFreqGate k s = .next s' ∧ Only 1024 s s' := by
  refine ⟨_, rfl, ?_⟩
  try dsimp only
  repeat' (first
    | with_reducible exact Only.refl _ _
    | with_reducible assumption
    | decide
    | (with_reducible
        first
          | apply Only.app (pulseGate_only ..))
    | split
    | dsimp only)

theorem execPulseSecondCredit_only (s : State) :
    ∃ s', execPulseSecondCredit s = .next s' ∧ Only 2098208 s s' := by
  refine ⟨_, rfl, ?_⟩
  try dsimp only
  repeat' (first
    | with_reducible exact Only.refl _ _
    | with_reducible assumption
    | decide
    | (with_reducible
        first
          | apply Only.app (pulseSecond_only ..))
    | split
    | dsimp only)

theorem execLedgerSecondCredit_only (s : State) :
    ∃ s', execLedgerSecondCredit s = .next s' ∧ Only 2098688 s s' := by
  refine ⟨_, rfl, ?_⟩
  try dsimp only
  repeat' (first
    | with_reducible exact Only.refl _ _
    | with_reducible assumption
    | decide
    | (with_reducible
        first
          | apply Only.app (ledgerSecond_only ..))
    | split
    | dsimp only)

theorem execHeatSecond_only (s : State) :
    ∃ s', execHeatSecond s = .next s' ∧ Only 2098616 s s' := by
  refine ⟨_, rfl, ?_⟩
  try dsimp only
  repeat' (first
    | with_reducible exact Only.refl _ _
    | with_reducible assumption
    | decide
    | (with_reducible
        first
          | apply Only.app (heatSecond_only ..))
    | split
    | dsimp only)

theorem execMbusPollRound_only (m : Fin 2) (s : State) :
    ∃ s', execMbusPollRound m s = .next s' ∧ Only 2164120 s s' := by
  refine ⟨_, rfl, ?_⟩
  try dsimp only
  repeat' (first
    | with_reducible exact Only.refl _ _
    | with_reducible assumption
    | decide
    | (with_reducible
        first
          | refine Only.ite ?_ ?_ | refine Only.ite_snd ?_ ?_ | refine Only.ite_fst ?_ ?_
          | apply Only.app (feedPulses_only ..) | apply Only.app (pollRound_only ..))
    | split
    | dsimp only)

theorem replyAndFeed_only (m : Nat) (frame : List Byte) (s : State) : Only 2164152 s (replyAndFeed m frame s) := by
  unfold replyAndFeed
  try dsimp only
  repeat' (first
    | with_reducible exact Only.refl _ _
    | with_reducible assumption
    | decide
    | (with_reducible
        first
          | apply Only.app (feedLeak_only ..) | apply Only.app (mbusReply_only ..))
    | split
    | dsimp only)

theorem execMbusReply_only (m : Fin 2) (frame : List Byte) (s : State) :
    ∃ s', execMbusReply m frame s = .next s' ∧ Only 2164152 s s' := by
  refine ⟨_, rfl, ?_⟩
  try dsimp only
  repeat' (first
    | with_reducible exact Only.refl _ _
    | with_reducible assumption
    | decide
    | (with_reducible
        first
          | apply Only.app (replyAndFeed_only ..))
    | split
    | dsimp only)

theorem execMbusReplyTimeout_only (m : Fin 2) (s : State) :
    ∃ s', execMbusReplyTimeout m s = .next s' ∧ Only 2098616 s s' := by
  refine ⟨_, rfl, ?_⟩
  try dsimp only
  repeat' (first
    | with_reducible exact Only.refl _ _
    | with_reducible assumption
    | decide
    | (with_reducible
        first
          | apply Only.app (replyTimeout_only ..))
    | split
    | dsimp only)

theorem execSecondarySearch_only (m : Fin 2) (w : Word) (s : State) :
    ∃ s', execSecondarySearch m w s = .next s' ∧ Only 1024 s s' := by
  refine ⟨_, rfl, ?_⟩
  try dsimp only
  repeat' (first
    | with_reducible exact Only.refl _ _
    | with_reducible assumption
    | decide
    | (with_reducible
        first
          | apply Only.app (mbusCfg_only ..))
    | split
    | dsimp only)

theorem execSecondarySearchDone_only (m : Fin 2) (found : List Word) (s : State) :
    ∃ s', execSecondarySearchDone m found s = .next s' ∧ Only 2098616 s s' := by
  refine ⟨_, rfl, ?_⟩
  try dsimp only
  repeat' (first
    | with_reducible exact Only.refl _ _
    | with_reducible assumption
    | decide
    | (with_reducible
        first
          | apply Only.app (searchDone_only ..))
    | split
    | dsimp only)

theorem execSpiScan_only (replies : List (List Byte)) (s : State) :
    ∃ s', execSpiScan replies s = .next s' ∧ Only 2098616 s s' := by
  refine ⟨_, rfl, ?_⟩
  try dsimp only
  repeat' (first
    | with_reducible exact Only.refl _ _
    | with_reducible assumption
    | decide
    | (with_reducible
        first
          | apply Only.app (spiScan_only ..))
    | split
    | dsimp only)

theorem execLedgerNvmCommit_only (s : State) :
    ∃ s', execLedgerNvmCommit s = .next s' ∧ Only 2097152 s s' := by
  refine ⟨_, rfl, ?_⟩
  try dsimp only
  repeat' (first
    | with_reducible exact Only.refl _ _
    | with_reducible assumption
    | decide
    | (with_reducible
        first
          | apply Only.app (ledgerCommit_only ..))
    | split
    | dsimp only)

theorem execDemandIntervalEnd_only (s : State) :
    ∃ s', execDemandIntervalEnd s = .next s' ∧ Only 2098176 s s' := by
  refine ⟨_, rfl, ?_⟩
  try dsimp only
  repeat' (first
    | with_reducible exact Only.refl _ _
    | with_reducible assumption
    | decide
    | (with_reducible
        first
          | apply Only.app (demandEnd_only ..))
    | split
    | dsimp only)

theorem execDailySnapshot_only (s : State) :
    ∃ s', execDailySnapshot s = .next s' ∧ Only 2098176 s s' := by
  refine ⟨_, rfl, ?_⟩
  try dsimp only
  repeat' (first
    | with_reducible exact Only.refl _ _
    | with_reducible assumption
    | decide
    | (with_reducible
        first
          | apply Only.app (dailySnap_only ..))
    | split
    | dsimp only)

theorem execInterimSnapshot_only (w : Word) (s : State) :
    ∃ s', execInterimSnapshot w s = .next s' ∧ Only 2098176 s s' := by
  refine ⟨_, rfl, ?_⟩
  try dsimp only
  repeat' (first
    | with_reducible exact Only.refl _ _
    | with_reducible assumption
    | decide
    | (with_reducible
        first
          | refine Only.ite ?_ ?_ | refine Only.ite_snd ?_ ?_ | refine Only.ite_fst ?_ ?_
          | apply Only.app (interimSnap_only ..))
    | split
    | dsimp only)

theorem execSnapshotWriteComplete_only (s : State) :
    ∃ s', execSnapshotWriteComplete s = .next s' ∧ Only 6817208 s s' := by
  refine ⟨_, rfl, ?_⟩
  try dsimp only
  repeat' (first
    | with_reducible exact Only.refl _ _
    | with_reducible assumption
    | decide
    | (with_reducible
        first
          | apply Only.app (snapDone_only ..))
    | split
    | dsimp only)

theorem execLdgApply_only (w : Word) (s : State) :
    ∃ s', execLdgApply w s = .next s' ∧ Only 1024 s s' := by
  refine ⟨_, rfl, ?_⟩
  try dsimp only
  repeat' (first
    | with_reducible exact Only.refl _ _
    | with_reducible assumption
    | decide
    | (with_reducible
        first
          | refine Only.ite ?_ ?_ | refine Only.ite_snd ?_ ?_ | refine Only.ite_fst ?_ ?_
          | apply Only.app (ldgApply_only ..))
    | split
    | dsimp only)

theorem execLdgApplyTakeEffect_only (s : State) :
    ∃ s', execLdgApplyTakeEffect s = .next s' ∧ Only 2098208 s s' := by
  refine ⟨_, rfl, ?_⟩
  try dsimp only
  repeat' (first
    | with_reducible exact Only.refl _ _
    | with_reducible assumption
    | decide
    | (with_reducible
        first
          | apply Only.app (ldgTakeEffect_only ..))
    | split
    | dsimp only)

end Sys2Proof.Machine
end

