-- ==== Sys2Proof/Laws/OnlyLift.lean ====
section
/-! SUPPORT. What each operation of Machine/Lift.lean can touch. -/
set_option linter.all false
set_option Elab.async false
namespace Sys2Proof.Machine
open Sys2Proof

theorem wakeForCall_only (r : Bool × State) : Only 86245374 r.2 (wakeForCall r) := by
  unfold wakeForCall
  exact Only.ite (wakeNight_only _ _) (Only.refl _ _)

theorem callAt_only (call : LiftCall) (s : State) : Only 526336 s (callAt call s).2 := by
  unfold callAt
  try dsimp only
  repeat' (first
    | with_reducible exact Only.refl _ _
    | with_reducible assumption
    | decide
    | (with_reducible
        first
          | refine Only.ite ?_ ?_ | refine Only.ite_snd ?_ ?_ | refine Only.ite_fst ?_ ?_
          | apply Only.app (registerCall_only ..) | apply Only.app (registerCarCall_only ..))
    | split
    | dsimp only)

theorem countsHeard_only (payload : List Byte) (s : State) : Only 2165144 s (countsHeard payload s) := by
  unfold countsHeard
  try dsimp only
  repeat' (first
    | with_reducible exact Only.refl _ _
    | with_reducible assumption
    | decide
    | (with_reducible
        first
          | apply Only.app (feedDemand_only ..) | apply Only.app (recvCounts_only ..))
    | split
    | dsimp only)

theorem cycleAndFeed_only (cutOff : Bool) (s : State) : Only 2689432 s (cycleAndFeed cutOff s) := by
  unfold cycleAndFeed
  try dsimp only
  repeat' (first
    | with_reducible exact Only.refl _ _
    | with_reducible assumption
    | decide
    | (with_reducible
        first
          | refine Only.ite ?_ ?_ | refine Only.ite_snd ?_ ?_ | refine Only.ite_fst ?_ ?_
          | refine Only.foldl _ (fun _ _ _ => ?_) _ ?_ | refine Only.foldl_snd _ (fun _ _ _ => ?_) _ ?_
          | refine Only.foldl_fst _ (fun _ _ _ => ?_) _ ?_ | apply Only.app (dispatchCycle_only ..)
          | apply Only.app (feedDemand_only ..))
    | split
    | dsimp only)

theorem execCarServoInstant_only (c : Fin 8) (inc : Int) (bothEdges : Bool) (ssi : SsiRead) (ageNs : Nat) (s : State) :
    ∃ s', execCarServoInstant c inc bothEdges ssi ageNs s = .next s' ∧ Only 69745048 s s' := by
  refine ⟨_, rfl, ?_⟩
  try dsimp only
  repeat' (first
    | with_reducible exact Only.refl _ _
    | with_reducible assumption
    | decide
    | (with_reducible
        first
          | apply Only.app (carServo_only ..))
    | split
    | dsimp only)

theorem execDzEdge_only (c : Fin 8) (rising : Bool) (sinceServoNs : Nat) (s : State) :
    ∃ s', execDzEdge c rising sinceServoNs s = .next s' ∧ Only 2103704 s s' := by
  refine ⟨_, rfl, ?_⟩
  try dsimp only
  repeat' (first
    | with_reducible exact Only.refl _ _
    | with_reducible assumption
    | decide
    | (with_reducible
        first
          | apply Only.app (dzEdge_only ..))
    | split
    | dsimp only)

theorem execLearnRunComplete_only (c : Fin 8) (s : State) :
    ∃ s', execLearnRunComplete c s = .next s' ∧ Only 2103704 s s' := by
  refine ⟨_, rfl, ?_⟩
  try dsimp only
  repeat' (first
    | with_reducible exact Only.refl _ _
    | with_reducible assumption
    | decide
    | (with_reducible
        first
          | refine Only.ite ?_ ?_ | refine Only.ite_snd ?_ ?_ | refine Only.ite_fst ?_ ?_
          | apply Only.app (learnComplete_only ..))
    | split
    | dsimp only)

theorem execCallRegistration_only (source : Nat) (seq : Option Nat) (call : LiftCall) (s : State) :
    ∃ s', execCallRegistration source seq call s = .next s' ∧ Only 86769662 s s' := by
  refine ⟨_, rfl, ?_⟩
  try dsimp only
  repeat' (first
    | with_reducible exact Only.refl _ _
    | with_reducible assumption
    | decide
    | (with_reducible
        first
          | apply Only.app (callAt_only ..) | refine sourceCall_only (by decide) (fun _ _ => ?_) ?_
          | apply Only.app (wakeForCall_only ..))
    | split
    | dsimp only)

theorem execDispatchCycle_only (cutOff : Bool) (s : State) :
    ∃ s', execDispatchCycle cutOff s = .next s' ∧ Only 2689432 s s' := by
  refine ⟨_, rfl, ?_⟩
  try dsimp only
  repeat' (first
    | with_reducible exact Only.refl _ _
    | with_reducible assumption
    | decide
    | (with_reducible
        first
          | apply Only.app (cycleAndFeed_only ..))
    | split
    | dsimp only)

theorem execAssignmentReceived_only (c : Fin 8) (id : BitVec 32) (landing : Fin 128) (park : Bool) (s : State) :
    ∃ s', execAssignmentReceived c id landing park s = .next s' ∧ Only 2048 s s' := by
  refine ⟨_, rfl, ?_⟩
  try dsimp only
  repeat' (first
    | with_reducible exact Only.refl _ _
    | with_reducible assumption
    | decide
    | (with_reducible
        first
          | refine Only.ite ?_ ?_ | refine Only.ite_snd ?_ ?_ | refine Only.ite_fst ?_ ?_
          | apply Only.app (receiveAssign_only ..))
    | split
    | dsimp only)

theorem execTripEnergyRead_only (c : Fin 8) (s : State) :
    ∃ s', execTripEnergyRead c s = .next s' ∧ Only 2048 s s' := by
  refine ⟨_, rfl, ?_⟩
  try dsimp only
  repeat' (first
    | with_reducible exact Only.refl _ _
    | with_reducible assumption
    | decide
    | (with_reducible
        first
          | refine Only.ite ?_ ?_ | refine Only.ite_snd ?_ ?_ | refine Only.ite_fst ?_ ?_
          | apply Only.app (tripEnergy_only ..))
    | split
    | dsimp only)

theorem execTripTimeout_only (c : Fin 8) (s : State) :
    ∃ s', execTripTimeout c s = .next s' ∧ Only 2103704 s s' := by
  refine ⟨_, rfl, ?_⟩
  try dsimp only
  repeat' (first
    | with_reducible exact Only.refl _ _
    | with_reducible assumption
    | decide
    | (with_reducible
        first
          | apply Only.app (tripTimeout_only ..))
    | split
    | dsimp only)

theorem execDriveStatusPdo_only (c : Fin 8) (pdo : Option (Bool × Option Nat)) (s : State) :
    ∃ s', execDriveStatusPdo c pdo s = .next s' ∧ Only 2103704 s s' := by
  refine ⟨_, rfl, ?_⟩
  try dsimp only
  repeat' (first
    | with_reducible exact Only.refl _ _
    | with_reducible assumption
    | decide
    | (with_reducible
        first
          | apply Only.app (drivePdo_only ..))
    | split
    | dsimp only)

theorem execIslandDispatchFallback_only (g : Fin 16) (s : State) :
    ∃ s', execIslandDispatchFallback g s = .next s' ∧ Only 2048 s s' := by
  refine ⟨_, rfl, ?_⟩
  try dsimp only
  repeat' (first
    | with_reducible exact Only.refl _ _
    | with_reducible assumption
    | decide
    | (with_reducible
        first
          | refine Only.ite ?_ ?_ | refine Only.ite_snd ?_ ?_ | refine Only.ite_fst ?_ ?_
          | apply Only.app (islandFallback_only ..))
    | split
    | dsimp only)

theorem execCarReport_only (payload : List Byte) (s : State) :
    ∃ s', execCarReport payload s = .next s' ∧ Only 2048 s s' := by
  refine ⟨_, rfl, ?_⟩
  try dsimp only
  repeat' (first
    | with_reducible exact Only.refl _ _
    | with_reducible assumption
    | decide
    | (with_reducible
        first
          | refine Only.ite ?_ ?_ | refine Only.ite_snd ?_ ?_ | refine Only.ite_fst ?_ ?_
          | apply Only.app (recvReport_only ..))
    | split
    | dsimp only)

theorem execDispatchCall_only (payload : List Byte) (s : State) :
    ∃ s', execDispatchCall payload s = .next s' ∧ Only 2048 s s' := by
  refine ⟨_, rfl, ?_⟩
  try dsimp only
  repeat' (first
    | with_reducible exact Only.refl _ _
    | with_reducible assumption
    | decide
    | (with_reducible
        first
          | refine Only.ite ?_ ?_ | refine Only.ite_snd ?_ ?_ | refine Only.ite_fst ?_ ?_
          | apply Only.app (recvCall_only ..))
    | split
    | dsimp only)

theorem execAssign_only (payload : List Byte) (s : State) :
    ∃ s', execAssign payload s = .next s' ∧ Only 2048 s s' := by
  refine ⟨_, rfl, ?_⟩
  try dsimp only
  repeat' (first
    | with_reducible exact Only.refl _ _
    | with_reducible assumption
    | decide
    | (with_reducible
        first
          | refine Only.ite ?_ ?_ | refine Only.ite_snd ?_ ?_ | refine Only.ite_fst ?_ ?_
          | apply Only.app (recvAssign_only ..))
    | split
    | dsimp only)

theorem execCallClear_only (payload : List Byte) (s : State) :
    ∃ s', execCallClear payload s = .next s' ∧ Only 2048 s s' := by
  refine ⟨_, rfl, ?_⟩
  try dsimp only
  repeat' (first
    | with_reducible exact Only.refl _ _
    | with_reducible assumption
    | decide
    | (with_reducible
        first
          | refine Only.ite ?_ ?_ | refine Only.ite_snd ?_ ?_ | refine Only.ite_fst ?_ ?_
          | apply Only.app (recvClear_only ..))
    | split
    | dsimp only)

theorem execDemandCounts_only (payload : List Byte) (s : State) :
    ∃ s', execDemandCounts payload s = .next s' ∧ Only 2165144 s s' := by
  refine ⟨_, rfl, ?_⟩
  try dsimp only
  repeat' (first
    | with_reducible exact Only.refl _ _
    | with_reducible assumption
    | decide
    | (with_reducible
        first
          | apply Only.app (countsHeard_only ..))
    | split
    | dsimp only)

theorem execCarCall_only (c : Fin 8) (landing : Fin 65536) (side : Fin 256) (req : BitVec 64) (s : State) :
    ∃ s', execCarCall c landing side req s = .next s' ∧ Only 2636184 s s' := by
  refine ⟨_, rfl, ?_⟩
  try dsimp only
  repeat' (first
    | with_reducible exact Only.refl _ _
    | with_reducible assumption
    | decide
    | (with_reducible
        first
          | apply Only.app (liftRow_only ..))
    | split
    | dsimp only)

theorem execHallCall_only (c : Fin 8) (landing : Fin 65536) (side dir : Fin 256) (req : BitVec 64) (s : State) :
    ∃ s', execHallCall c landing side dir req s = .next s' ∧ Only 2636184 s s' := by
  refine ⟨_, rfl, ?_⟩
  try dsimp only
  repeat' (first
    | with_reducible exact Only.refl _ _
    | with_reducible assumption
    | decide
    | (with_reducible
        first
          | apply Only.app (liftRow_only ..))
    | split
    | dsimp only)

theorem execOutOfService_only (c : Fin 8) (req : BitVec 64) (s : State) :
    ∃ s', execOutOfService c req s = .next s' ∧ Only 2636184 s s' := by
  refine ⟨_, rfl, ?_⟩
  try dsimp only
  repeat' (first
    | with_reducible exact Only.refl _ _
    | with_reducible assumption
    | decide
    | (with_reducible
        first
          | apply Only.app (liftRow_only ..))
    | split
    | dsimp only)

theorem execInService_only (c : Fin 8) (req : BitVec 64) (s : State) :
    ∃ s', execInService c req s = .next s' ∧ Only 2636184 s s' := by
  refine ⟨_, rfl, ?_⟩
  try dsimp only
  repeat' (first
    | with_reducible exact Only.refl _ _
    | with_reducible assumption
    | decide
    | (with_reducible
        first
          | apply Only.app (liftRow_only ..))
    | split
    | dsimp only)

theorem execLearnRun_only (c : Fin 8) (req : BitVec 64) (s : State) :
    ∃ s', execLearnRun c req s = .next s' ∧ Only 2636184 s s' := by
  refine ⟨_, rfl, ?_⟩
  try dsimp only
  repeat' (first
    | with_reducible exact Only.refl _ _
    | with_reducible assumption
    | decide
    | (with_reducible
        first
          | apply Only.app (liftRow_only ..))
    | split
    | dsimp only)

theorem execCorrectionRun_only (c : Fin 8) (req : BitVec 64) (s : State) :
    ∃ s', execCorrectionRun c req s = .next s' ∧ Only 2636184 s s' := by
  refine ⟨_, rfl, ?_⟩
  try dsimp only
  repeat' (first
    | with_reducible exact Only.refl _ _
    | with_reducible assumption
    | decide
    | (with_reducible
        first
          | apply Only.app (liftRow_only ..))
    | split
    | dsimp only)

theorem execTestRun_only (c : Fin 8) (landing : Fin 65536) (req : BitVec 64) (s : State) :
    ∃ s', execTestRun c landing req s = .next s' ∧ Only 2636184 s s' := by
  refine ⟨_, rfl, ?_⟩
  try dsimp only
  repeat' (first
    | with_reducible exact Only.refl _ _
    | with_reducible assumption
    | decide
    | (with_reducible
        first
          | apply Only.app (liftRow_only ..))
    | split
    | dsimp only)

theorem execInspMove_only (c : Fin 8) (dir : Fin 256) (req : BitVec 64) (s : State) :
    ∃ s', execInspMove c dir req s = .next s' ∧ Only 2636184 s s' := by
  refine ⟨_, rfl, ?_⟩
  try dsimp only
  repeat' (first
    | with_reducible exact Only.refl _ _
    | with_reducible assumption
    | decide
    | (with_reducible
        first
          | apply Only.app (liftRow_only ..))
    | split
    | dsimp only)

theorem execLiftApply_only (w : Word) (s : State) :
    ∃ s', execLiftApply w s = .next s' ∧ Only 2365848 s s' := by
  refine ⟨_, rfl, ?_⟩
  try dsimp only
  repeat' (first
    | with_reducible exact Only.refl _ _
    | with_reducible assumption
    | decide
    | (with_reducible
        first
          | refine Only.ite ?_ ?_ | refine Only.ite_snd ?_ ?_ | refine Only.ite_fst ?_ ?_
          | apply Only.app (liftCtl_only ..))
    | split
    | dsimp only)

theorem execFloorReload_only (w : Word) (s : State) :
    ∃ s', execFloorReload w s = .next s' ∧ Only 2365848 s s' := by
  refine ⟨_, rfl, ?_⟩
  try dsimp only
  repeat' (first
    | with_reducible exact Only.refl _ _
    | with_reducible assumption
    | decide
    | (with_reducible
        first
          | refine Only.ite ?_ ?_ | refine Only.ite_snd ?_ ?_ | refine Only.ite_fst ?_ ?_
          | apply Only.app (liftCtl_only ..))
    | split
    | dsimp only)

theorem execEnergyReset_only (w : Word) (s : State) :
    ∃ s', execEnergyReset w s = .next s' ∧ Only 2365848 s s' := by
  refine ⟨_, rfl, ?_⟩
  try dsimp only
  repeat' (first
    | with_reducible exact Only.refl _ _
    | with_reducible assumption
    | decide
    | (with_reducible
        first
          | refine Only.ite ?_ ?_ | refine Only.ite_snd ?_ ?_ | refine Only.ite_fst ?_ ?_
          | apply Only.app (liftCtl_only ..))
    | split
    | dsimp only)

theorem execLiftDeferredAction_only (s : State) :
    ∃ s', execLiftDeferredAction s = .next s' ∧ Only 2365848 s s' := by
  refine ⟨_, rfl, ?_⟩
  try dsimp only
  repeat' (first
    | with_reducible exact Only.refl _ _
    | with_reducible assumption
    | decide
    | (with_reducible
        first
          | refine Only.ite ?_ ?_ | refine Only.ite_snd ?_ ?_ | refine Only.ite_fst ?_ ?_
          | apply Only.app (liftDeferred_only ..))
    | split
    | dsimp only)

theorem execPermitFall_only (c : Fin 8) (p : Fin 4) (s : State) :
    ∃ s', execPermitFall c p s = .next s' ∧ Only 2103704 s s' := by
  refine ⟨_, rfl, ?_⟩
  try dsimp only
  repeat' (first
    | with_reducible exact Only.refl _ _
    | with_reducible assumption
    | decide
    | (with_reducible
        first
          | apply Only.app (permitFall_only ..))
    | split
    | dsimp only)

theorem execPermitRise_only (c : Fin 8) (p : Fin 4) (s : State) :
    ∃ s', execPermitRise c p s = .next s' ∧ Only 6144 s s' := by
  refine ⟨_, rfl, ?_⟩
  try dsimp only
  repeat' (first
    | with_reducible exact Only.refl _ _
    | with_reducible assumption
    | decide
    | (with_reducible
        first
          | apply Only.app (permitRise_only ..))
    | split
    | dsimp only)

end Sys2Proof.Machine
end

