-- ==== Sys2Proof/Laws/OnlyMeter.lean ====
section
/-! SUPPORT. What each operation of Machine/Meter.lean can touch. -/
set_option linter.all false
set_option Elab.async false
namespace Sys2Proof.Machine
open Sys2Proof

theorem execBlockDelivery_only (endTime : Nat) (inputBits : List (List Bool)) (ecc : Bool) (s : State) :
    ∃ s', execBlockDelivery endTime inputBits ecc s = .next s' ∧ Only 2097712 s s' := by
  refine ⟨_, rfl, ?_⟩
  try dsimp only
  repeat' (first
    | with_reducible exact Only.refl _ _
    | with_reducible assumption
    | decide
    | (with_reducible
        first
          | apply Only.app (blockDelivery_only ..))
    | split
    | dsimp only)

theorem execBlockDeliveryRetry_only (s : State) :
    ∃ s', execBlockDeliveryRetry s = .next s' ∧ Only 2097712 s s' := by
  refine ⟨_, rfl, ?_⟩
  try dsimp only
  repeat' (first
    | with_reducible exact Only.refl _ _
    | with_reducible assumption
    | decide
    | (with_reducible
        first
          | apply Only.app (deliveryRetry_only ..))
    | split
    | dsimp only)

theorem execInputStuck_only (i : Fin 160) (s : State) :
    ∃ s', execInputStuck i s = .next s' ∧ Only 2097712 s s' := by
  refine ⟨_, rfl, ?_⟩
  try dsimp only
  repeat' (first
    | with_reducible exact Only.refl _ _
    | with_reducible assumption
    | decide
    | (with_reducible
        first
          | apply Only.app (inputStuck_only ..))
    | split
    | dsimp only)

theorem execMqSelWrite_only (w : Word) (s : State) :
    ∃ s', execMqSelWrite w s = .next s' ∧ Only 124780538 s s' := by
  refine ⟨_, rfl, ?_⟩
  try dsimp only
  repeat' (first
    | with_reducible exact Only.refl _ _
    | with_reducible assumption
    | decide
    | (with_reducible
        first
          | refine hostWrite_only (by decide) (fun _ _ => ?_) ?_ | apply Only.app (mqSelWrite_only ..))
    | split
    | dsimp only)

theorem execQuickViewUpdate_only (s : State) :
    ∃ s', execQuickViewUpdate s = .next s' ∧ Only 512 s s' := by
  refine ⟨_, rfl, ?_⟩
  try dsimp only
  repeat' (first
    | with_reducible exact Only.refl _ _
    | with_reducible assumption
    | decide
    | (with_reducible
        first
          | apply Only.app (quickUpdate_only ..))
    | split
    | dsimp only)

theorem execHarmonicsStart_only (w : Word) (s : State) :
    ∃ s', execHarmonicsStart w s = .next s' ∧ Only 124780538 s s' := by
  refine ⟨_, rfl, ?_⟩
  try dsimp only
  repeat' (first
    | with_reducible exact Only.refl _ _
    | with_reducible assumption
    | decide
    | (with_reducible
        first
          | refine Only.ite ?_ ?_ | refine Only.ite_snd ?_ ?_ | refine Only.ite_fst ?_ ?_
          | apply Only.app (harmStart_only ..) | refine hostWrite_only (by decide) (fun _ _ => ?_) ?_)
    | split
    | dsimp only)

theorem execHarmonicsDone_only (s : State) :
    ∃ s', execHarmonicsDone s = .next s' ∧ Only 2097680 s s' := by
  refine ⟨_, rfl, ?_⟩
  try dsimp only
  repeat' (first
    | with_reducible exact Only.refl _ _
    | with_reducible assumption
    | decide
    | (with_reducible
        first
          | apply Only.app (harmDone_only ..))
    | split
    | dsimp only)

theorem execStuckInputEnd_only (i : Fin 160) (s : State) :
    ∃ s', execStuckInputEnd i s = .next s' ∧ Only 2097712 s s' := by
  refine ⟨_, rfl, ?_⟩
  try dsimp only
  repeat' (first
    | with_reducible exact Only.refl _ _
    | with_reducible assumption
    | decide
    | (with_reducible
        first
          | apply Only.app (inputStuck_only ..))
    | split
    | dsimp only)

end Sys2Proof.Machine
end

