-- ==== Sys2Proof/Laws/OnlyModes.lean ====
section
/-! SUPPORT. What each operation of Machine/Modes.lean can touch. -/
set_option linter.all false
set_option Elab.async false
namespace Sys2Proof.Machine
open Sys2Proof

theorem keyedRequest_only {j key : Nat} {src : ReqSource} {s x : State} {f : State → Status × State} (hj : 124780538 ||| j = j)
    (hf : ∀ y, Only j s y → Only j s (f y).2) (h : Only j s x) : Only j s (keyedRequest src key f x) := by
  unfold keyedRequest
  split
  · exact hostWrite_only hj (fun y hy => Only.ite_snd (hf y hy) hy) h
  · exact hostWrite_only hj (fun y hy => Only.ite_snd (hf y hy) hy) h
  · exact Only.ite (hf _ h) h
  · exact Only.ite (hf _ h) h

theorem execModeRequest_only (src : ReqSource) (key target : Nat) (s : State) :
    ∃ s', execModeRequest src key target s = .next s' ∧ Only 125829118 s s' := by
  refine ⟨_, rfl, ?_⟩
  try dsimp only
  repeat' (first
    | with_reducible exact Only.refl _ _
    | with_reducible assumption
    | decide
    | (with_reducible
        first
          | refine keyedRequest_only (by decide) (fun _ _ => ?_) ?_ | apply Only.app (modeRequest_only ..))
    | split
    | dsimp only)

theorem execModeReqCancel_only (src : ReqSource) (key : Nat) (s : State) :
    ∃ s', execModeReqCancel src key s = .next s' ∧ Only 124780538 s s' := by
  refine ⟨_, rfl, ?_⟩
  try dsimp only
  repeat' (first
    | with_reducible exact Only.refl _ _
    | with_reducible assumption
    | decide
    | (with_reducible
        first
          | apply Only.app (cancelReq_only ..) | refine keyedRequest_only (by decide) (fun _ _ => ?_) ?_)
    | split
    | dsimp only)

theorem execSafestopCause_only (c : SafestopCause) (s : State) :
    ∃ s', execSafestopCause c s = .next s' ∧ Only 92274686 s s' := by
  refine ⟨_, rfl, ?_⟩
  try dsimp only
  repeat' (first
    | with_reducible exact Only.refl _ _
    | with_reducible assumption
    | decide
    | (with_reducible
        first
          | apply Only.app (kerbFault_only ..) | apply Only.app (modeRequest_only ..)
          | apply Only.app (safestopCause_only ..))
    | split
    | dsimp only)

theorem execRecallTrigger_only (src : RecallSrc) (s : State) :
    ∃ s', execRecallTrigger src s = .next s' ∧ Only 92274686 s s' := by
  refine ⟨_, rfl, ?_⟩
  try dsimp only
  repeat' (first
    | with_reducible exact Only.refl _ _
    | with_reducible assumption
    | decide
    | (with_reducible
        first
          | apply Only.app (modeRequest_only ..) | apply Only.app (recallSignal_only ..))
    | split
    | dsimp only)

theorem execWakeEvent_only (k : WakeKind) (s : State) :
    ∃ s', execWakeEvent k s = .next s' ∧ Only 92274686 s s' := by
  refine ⟨_, rfl, ?_⟩
  try dsimp only
  repeat' (first
    | with_reducible exact Only.refl _ _
    | with_reducible assumption
    | decide
    | (with_reducible
        first
          | apply Only.app (keepWakeCall_only ..) | apply Only.app (modeRequest_only ..)
          | apply Only.app (wakeNight_only ..))
    | split
    | dsimp only)

theorem execDeferredRequestEntry_only (s : State) :
    ∃ s', execDeferredRequestEntry s = .next s' ∧ Only 92012542 s s' := by
  refine ⟨_, rfl, ?_⟩
  try dsimp only
  repeat' (first
    | with_reducible exact Only.refl _ _
    | with_reducible assumption
    | decide
    | (with_reducible
        first
          | apply Only.app (deferredEntry_only ..))
    | split
    | dsimp only)

theorem execDeferredRequestTimeout_only (s : State) :
    ∃ s', execDeferredRequestTimeout s = .next s' ∧ Only 2 s s' := by
  refine ⟨_, rfl, ?_⟩
  try dsimp only
  repeat' (first
    | with_reducible exact Only.refl _ _
    | with_reducible assumption
    | decide
    | (with_reducible
        first
          | apply Only.app (deferredTimeout_only ..))
    | split
    | dsimp only)

theorem execScheduleNightStart_only (s : State) :
    ∃ s', execScheduleNightStart s = .next s' ∧ Only 92274686 s s' := by
  refine ⟨_, rfl, ?_⟩
  try dsimp only
  repeat' (first
    | with_reducible exact Only.refl _ _
    | with_reducible assumption
    | decide
    | (with_reducible
        first
          | apply Only.app (nightStart_only ..))
    | split
    | dsimp only)

theorem execScheduleNightEnd_only (s : State) :
    ∃ s', execScheduleNightEnd s = .next s' ∧ Only 86245374 s s' := by
  refine ⟨_, rfl, ?_⟩
  try dsimp only
  repeat' (first
    | with_reducible exact Only.refl _ _
    | with_reducible assumption
    | decide
    | (with_reducible
        first
          | apply Only.app (nightEnd_only ..))
    | split
    | dsimp only)

theorem execPowerOnReset_only (s : State) :
    ∃ s', execPowerOnReset s = .next s' ∧ Only 134217727 s s' := by
  refine ⟨_, rfl, ?_⟩
  try dsimp only
  repeat' (first
    | with_reducible exact Only.refl _ _
    | with_reducible assumption
    | decide
    | (with_reducible
        first
          | apply Only.app (powerOn_only ..))
    | split
    | dsimp only)

theorem execResetN_only (s : State) :
    ∃ s', execResetN s = .next s' ∧ Only 134217727 s s' := by
  refine ⟨_, rfl, ?_⟩
  try dsimp only
  repeat' (first
    | with_reducible exact Only.refl _ _
    | with_reducible assumption
    | decide
    | (with_reducible
        first
          | apply Only.app (deviceReset_only ..))
    | split
    | dsimp only)

theorem execSupplyLoss_only (s : State) :
    ∃ s', execSupplyLoss s = .next s' ∧ Only 134217727 s s' := by
  refine ⟨_, rfl, ?_⟩
  try dsimp only
  repeat' (first
    | (simp only [↓Only.mk_guard]; with_reducible refine Only.of_mk rfl ?_)
    | with_reducible exact Only.refl _ _
    | with_reducible assumption
    | decide
    | (with_reducible
        first
          | apply Only.app (powerOn_only ..))
    | split
    | dsimp only)

theorem execWakeAfterDormantEntry_only (s : State) :
    ∃ s', execWakeAfterDormantEntry s = .next s' ∧ Only 91226106 s s' := by
  refine ⟨_, rfl, ?_⟩
  try dsimp only
  repeat' (first
    | with_reducible exact Only.refl _ _
    | with_reducible assumption
    | decide
    | (with_reducible
        first
          | apply Only.app (wakeDormant_only ..))
    | split
    | dsimp only)

theorem execWakeNEdge_only (pin : Fin 2) (s : State) :
    ∃ s', execWakeNEdge pin s = .next s' ∧ Only 91226106 s s' := by
  refine ⟨_, rfl, ?_⟩
  try dsimp only
  repeat' (first
    | with_reducible exact Only.refl _ _
    | with_reducible assumption
    | decide
    | (with_reducible
        first
          | apply Only.app (wakeDormant_only ..))
    | split
    | dsimp only)

theorem execRtcTimeWrite_only (w : Word) (s : State) :
    ∃ s', execRtcTimeWrite w s = .next s' ∧ Only 124780539 s s' := by
  refine ⟨_, rfl, ?_⟩
  try dsimp only
  repeat' (first
    | with_reducible exact Only.refl _ _
    | with_reducible assumption
    | decide
    | (with_reducible
        first
          | refine hostWriteOk_only (by decide) (fun _ _ => ?_) ?_ | apply Only.app (rtcWrite_only ..))
    | split
    | dsimp only)

theorem execRtcMinuteSync_only (s : State) :
    ∃ s', execRtcMinuteSync s = .next s' ∧ Only 1 s s' := by
  refine ⟨_, rfl, ?_⟩
  try dsimp only
  repeat' (first
    | with_reducible exact Only.refl _ _
    | with_reducible assumption
    | decide
    | (with_reducible
        first
          | refine Only.ite ?_ ?_ | refine Only.ite_snd ?_ ?_ | refine Only.ite_fst ?_ ?_
          | apply Only.app (rtcWrite_only ..))
    | split
    | dsimp only)

end Sys2Proof.Machine
end

