-- ==== Sys2Proof/Laws/OnlyMotion.lean ====
section
/-! SUPPORT. What each operation of Machine/Motion.lean can touch. -/
set_option linter.all false
set_option Elab.async false
namespace Sys2Proof.Machine
open Sys2Proof

theorem axisInstant_only (a : Nat) (s : State) : Only 69220760 s (axisInstant a s) := by
  unfold axisInstant
  try dsimp only
  repeat' (first
    | with_reducible exact Only.refl _ _
    | with_reducible assumption
    | decide
    | (with_reducible
        first
          | refine Only.ite ?_ ?_ | refine Only.ite_snd ?_ ?_ | refine Only.ite_fst ?_ ?_
          | apply Only.app (axisServo_only ..) | apply Only.app (liftCue_only ..))
    | split
    | dsimp only)

theorem execMoveAbs_only (a : Fin 28) (flags : Fin 256) (vcap : BitVec 32) (target req : BitVec 64) (s : State) :
    ∃ s', execMoveAbs a flags vcap target req s = .next s' ∧ Only 2111896 s s' := by
  refine ⟨_, rfl, ?_⟩
  try dsimp only
  repeat' (first
    | with_reducible exact Only.refl _ _
    | with_reducible assumption
    | decide
    | (with_reducible
        first
          | apply Only.app (motRow_only ..))
    | split
    | dsimp only)

theorem execMoveRel_only (a : Fin 28) (flags : Fin 256) (vcap : BitVec 32) (target req : BitVec 64) (s : State) :
    ∃ s', execMoveRel a flags vcap target req s = .next s' ∧ Only 2111896 s s' := by
  refine ⟨_, rfl, ?_⟩
  try dsimp only
  repeat' (first
    | with_reducible exact Only.refl _ _
    | with_reducible assumption
    | decide
    | (with_reducible
        first
          | apply Only.app (motRow_only ..))
    | split
    | dsimp only)

theorem execStop_only (a : Fin 28) (req : BitVec 64) (s : State) :
    ∃ s', execStop a req s = .next s' ∧ Only 2111896 s s' := by
  refine ⟨_, rfl, ?_⟩
  try dsimp only
  repeat' (first
    | with_reducible exact Only.refl _ _
    | with_reducible assumption
    | decide
    | (with_reducible
        first
          | apply Only.app (motRow_only ..))
    | split
    | dsimp only)

theorem execResume_only (a : Fin 28) (req : BitVec 64) (s : State) :
    ∃ s', execResume a req s = .next s' ∧ Only 2111896 s s' := by
  refine ⟨_, rfl, ?_⟩
  try dsimp only
  repeat' (first
    | with_reducible exact Only.refl _ _
    | with_reducible assumption
    | decide
    | (with_reducible
        first
          | apply Only.app (motRow_only ..))
    | split
    | dsimp only)

theorem execHome_only (a : Fin 28) (vcap : BitVec 32) (arg req : BitVec 64) (s : State) :
    ∃ s', execHome a vcap arg req s = .next s' ∧ Only 2111896 s s' := by
  refine ⟨_, rfl, ?_⟩
  try dsimp only
  repeat' (first
    | with_reducible exact Only.refl _ _
    | with_reducible assumption
    | decide
    | (with_reducible
        first
          | apply Only.app (motRow_only ..))
    | split
    | dsimp only)

theorem execGearOn_only (a : Fin 28) (flags : Fin 256) (arg req : BitVec 64) (s : State) :
    ∃ s', execGearOn a flags arg req s = .next s' ∧ Only 2111896 s s' := by
  refine ⟨_, rfl, ?_⟩
  try dsimp only
  repeat' (first
    | with_reducible exact Only.refl _ _
    | with_reducible assumption
    | decide
    | (with_reducible
        first
          | apply Only.app (motRow_only ..))
    | split
    | dsimp only)

theorem execGearOff_only (a : Fin 28) (flags : Fin 256) (vcap : BitVec 32) (target req : BitVec 64) (s : State) :
    ∃ s', execGearOff a flags vcap target req s = .next s' ∧ Only 2111896 s s' := by
  refine ⟨_, rfl, ?_⟩
  try dsimp only
  repeat' (first
    | with_reducible exact Only.refl _ _
    | with_reducible assumption
    | decide
    | (with_reducible
        first
          | apply Only.app (motRow_only ..))
    | split
    | dsimp only)

theorem execEnable_only (a : Fin 28) (req : BitVec 64) (s : State) :
    ∃ s', execEnable a req s = .next s' ∧ Only 2111896 s s' := by
  refine ⟨_, rfl, ?_⟩
  try dsimp only
  repeat' (first
    | with_reducible exact Only.refl _ _
    | with_reducible assumption
    | decide
    | (with_reducible
        first
          | apply Only.app (motRow_only ..))
    | split
    | dsimp only)

theorem execDisable_only (a : Fin 28) (req : BitVec 64) (s : State) :
    ∃ s', execDisable a req s = .next s' ∧ Only 2111896 s s' := by
  refine ⟨_, rfl, ?_⟩
  try dsimp only
  repeat' (first
    | with_reducible exact Only.refl _ _
    | with_reducible assumption
    | decide
    | (with_reducible
        first
          | apply Only.app (motRow_only ..))
    | split
    | dsimp only)

theorem execFaultClear_only (a : Fin 28) (req : BitVec 64) (s : State) :
    ∃ s', execFaultClear a req s = .next s' ∧ Only 2111896 s s' := by
  refine ⟨_, rfl, ?_⟩
  try dsimp only
  repeat' (first
    | with_reducible exact Only.refl _ _
    | with_reducible assumption
    | decide
    | (with_reducible
        first
          | apply Only.app (motRow_only ..))
    | split
    | dsimp only)

theorem execSetPos_only (a : Fin 28) (arg req : BitVec 64) (s : State) :
    ∃ s', execSetPos a arg req s = .next s' ∧ Only 2111896 s s' := by
  refine ⟨_, rfl, ?_⟩
  try dsimp only
  repeat' (first
    | with_reducible exact Only.refl _ _
    | with_reducible assumption
    | decide
    | (with_reducible
        first
          | apply Only.app (motRow_only ..))
    | split
    | dsimp only)

theorem execEscClear_only (c : Fin 4) (req : BitVec 64) (s : State) :
    ∃ s', execEscClear c req s = .next s' ∧ Only 2103704 s s' := by
  refine ⟨_, rfl, ?_⟩
  try dsimp only
  repeat' (first
    | with_reducible exact Only.refl _ _
    | with_reducible assumption
    | decide
    | (with_reducible
        first
          | refine Only.ite ?_ ?_ | refine Only.ite_snd ?_ ?_ | refine Only.ite_fst ?_ ?_
          | apply Only.app (escClear_only ..))
    | split
    | dsimp only)

theorem execAxisServoInstant_only (a : Fin 24) (s : State) :
    ∃ s', execAxisServoInstant a s = .next s' ∧ Only 69220760 s s' := by
  refine ⟨_, rfl, ?_⟩
  try dsimp only
  repeat' (first
    | with_reducible exact Only.refl _ _
    | with_reducible assumption
    | decide
    | (with_reducible
        first
          | apply Only.app (axisInstant_only ..))
    | split
    | dsimp only)

theorem execHomingTimeout_only (a : Fin 24) (s : State) :
    ∃ s', execHomingTimeout a s = .next s' ∧ Only 2103704 s s' := by
  refine ⟨_, rfl, ?_⟩
  try dsimp only
  repeat' (first
    | with_reducible exact Only.refl _ _
    | with_reducible assumption
    | decide
    | (with_reducible
        first
          | refine Only.ite ?_ ?_ | refine Only.ite_snd ?_ ?_ | refine Only.ite_fst ?_ ?_
          | apply Only.app (homeFail_only ..))
    | split
    | dsimp only)

theorem execLimitInputActive_only (a : Fin 24) (hi level : Bool) (sinceServoNs : Nat) (s : State) :
    ∃ s', execLimitInputActive a hi level sinceServoNs s = .next s' ∧ Only 2103704 s s' := by
  refine ⟨_, rfl, ?_⟩
  try dsimp only
  repeat' (first
    | with_reducible exact Only.refl _ _
    | with_reducible assumption
    | decide
    | (with_reducible
        first
          | refine Only.ite ?_ ?_ | refine Only.ite_snd ?_ ?_ | refine Only.ite_fst ?_ ?_
          | apply Only.app (limitInput_only ..))
    | split
    | dsimp only)

theorem execEscalatorEvaluation_only (c : Fin 4) (counts : Int) (left right : Nat) (ms : Nat) (s : State) :
    ∃ s', execEscalatorEvaluation c counts left right ms s = .next s' ∧ Only 2120120 s s' := by
  refine ⟨_, rfl, ?_⟩
  try dsimp only
  repeat' (first
    | with_reducible exact Only.refl _ _
    | with_reducible assumption
    | decide
    | (with_reducible
        first
          | apply Only.app (escStep_only ..))
    | split
    | dsimp only)

theorem execMotApply_only (w : Word) (s : State) :
    ∃ s', execMotApply w s = .next s' ∧ Only 4096 s s' := by
  refine ⟨_, rfl, ?_⟩
  try dsimp only
  repeat' (first
    | with_reducible exact Only.refl _ _
    | with_reducible assumption
    | decide
    | (with_reducible
        first
          | refine Only.ite ?_ ?_ | refine Only.ite_snd ?_ ?_ | refine Only.ite_fst ?_ ?_
          | apply Only.app (motCtl_only ..))
    | split
    | dsimp only)

theorem execMotApplyDeferred_only (s : State) :
    ∃ s', execMotApplyDeferred s = .next s' ∧ Only 4096 s s' := by
  refine ⟨_, rfl, ?_⟩
  try dsimp only
  repeat' (first
    | with_reducible exact Only.refl _ _
    | with_reducible assumption
    | decide
    | (with_reducible
        first
          | refine Only.ite ?_ ?_ | refine Only.ite_snd ?_ ?_ | refine Only.ite_fst ?_ ?_
          | apply Only.app (motDeferred_only ..))
    | split
    | dsimp only)

theorem execTableInvalidate_only (w : Word) (s : State) :
    ∃ s', execTableInvalidate w s = .next s' ∧ Only 4096 s s' := by
  refine ⟨_, rfl, ?_⟩
  try dsimp only
  repeat' (first
    | with_reducible exact Only.refl _ _
    | with_reducible assumption
    | decide
    | (with_reducible
        first
          | refine Only.ite ?_ ?_ | refine Only.ite_snd ?_ ?_ | refine Only.ite_fst ?_ ?_
          | apply Only.app (motCtl_only ..))
    | split
    | dsimp only)

end Sys2Proof.Machine
end

