-- ==== Sys2Proof/Laws/OnlyPackage.lean ====
section
/-! SUPPORT. What each operation of Machine/Package.lean can touch. -/
set_option linter.all false
set_option Elab.async false
namespace Sys2Proof.Machine
open Sys2Proof

theorem noteAlarm_only (r : Rail) (s : State) : Only 1048576 s (noteAlarm r s) := by
  unfold noteAlarm
  try dsimp only
  repeat' (first
    | (simp only [↓Only.mk_guard]; with_reducible refine Only.of_mk rfl ?_)
    | with_reducible exact Only.refl _ _
    | with_reducible assumption
    | decide
    | (with_reducible
        first
          | refine Only.ite ?_ ?_ | refine Only.ite_snd ?_ ?_ | refine Only.ite_fst ?_ ?_)
    | split
    | dsimp only)

theorem supplyAlarm_only (r : Rail) (aonLost : Bool) (s : State) : Only 134217727 s (supplyAlarm r aonLost s) := by
  unfold supplyAlarm
  try dsimp only
  repeat' (first
    | (simp only [↓Only.mk_guard]; with_reducible refine Only.of_mk rfl ?_)
    | with_reducible exact Only.refl _ _
    | with_reducible assumption
    | decide
    | (with_reducible
        first
          | refine Only.ite ?_ ?_ | refine Only.ite_snd ?_ ?_ | refine Only.ite_fst ?_ ?_
          | refine Only.foldl _ (fun _ _ _ => ?_) _ ?_ | refine Only.foldl_snd _ (fun _ _ _ => ?_) _ ?_
          | refine Only.foldl_fst _ (fun _ _ _ => ?_) _ ?_ | apply Only.app (deviceReset_only ..)
          | apply Only.app (islandFault_only ..) | apply Only.app (kerbSupplyAlarm_only ..)
          | apply Only.app (modIsl_only ..) | apply Only.app (noteAlarm_only ..) | apply Only.app (powerOn_only ..)
          | apply Only.app (refclkLoss_only ..) | apply Only.app (safestopCause_only ..))
    | split
    | dsimp only)

theorem supplyClear_only (r : Rail) (s : State) : Only 17825800 s (supplyClear r s) := by
  unfold supplyClear
  try dsimp only
  repeat' (first
    | (simp only [↓Only.mk_guard]; with_reducible refine Only.of_mk rfl ?_)
    | with_reducible exact Only.refl _ _
    | with_reducible assumption
    | decide
    | (with_reducible
        first
          | refine Only.ite ?_ ?_ | refine Only.ite_snd ?_ ?_ | refine Only.ite_fst ?_ ?_
          | apply Only.app (kerbSupplyClear_only ..) | apply Only.app (modIsl_only ..))
    | split
    | dsimp only)

theorem railTimeout_only (s : State) : Only 1048576 s (railTimeout s) := by
  unfold railTimeout
  try dsimp only
  repeat' (first
    | (simp only [↓Only.mk_guard]; with_reducible refine Only.of_mk rfl ?_)
    | with_reducible exact Only.refl _ _
    | with_reducible assumption
    | decide
    | (with_reducible
        first
          | refine Only.ite ?_ ?_ | refine Only.ite_snd ?_ ?_ | refine Only.ite_fst ?_ ?_)
    | split
    | dsimp only)

theorem railRetry_only (s : State) : Only 1048576 s (railRetry s) := by
  unfold railRetry
  try dsimp only
  repeat' (first
    | (simp only [↓Only.mk_guard]; with_reducible refine Only.of_mk rfl ?_)
    | with_reducible exact Only.refl _ _
    | with_reducible assumption
    | decide
    | (with_reducible
        first
          | refine Only.ite ?_ ?_ | refine Only.ite_snd ?_ ?_ | refine Only.ite_fst ?_ ?_)
    | split
    | dsimp only)

theorem mdioPoll_only (portQ : Bool) (status : BitVec 16) (sync : Bool) (s : State) : Only 1048576 s (mdioPoll portQ status sync s) := by
  unfold mdioPoll
  try dsimp only
  repeat' (first
    | (simp only [↓Only.mk_guard]; with_reducible refine Only.of_mk rfl ?_)
    | with_reducible exact Only.refl _ _
    | with_reducible assumption
    | decide
    | (with_reducible
        first
          | refine Only.ite ?_ ?_ | refine Only.ite_snd ?_ ?_ | refine Only.ite_fst ?_ ?_)
    | split
    | dsimp only)

theorem timePps_only (s : State) : Only 1 s (timePps s) := by
  unfold timePps
  try dsimp only
  repeat' (first
    | (simp only [↓Only.mk_guard]; with_reducible refine Only.of_mk rfl ?_)
    | with_reducible exact Only.refl _ _
    | with_reducible assumption
    | decide
    | split
    | dsimp only)

theorem tapLeave_only (s : State) : Only 134217727 s (tapLeave s) := by
  unfold tapLeave
  try dsimp only
  repeat' (first
    | with_reducible exact Only.refl _ _
    | with_reducible assumption
    | decide
    | (with_reducible
        first
          | refine Only.ite ?_ ?_ | refine Only.ite_snd ?_ ?_ | refine Only.ite_fst ?_ ?_
          | apply Only.app (deviceReset_only ..))
    | split
    | dsimp only)

theorem tapLoad_only (i : TapInstr) (tdo : Nat) (s : State) : Only 1048576 s (tapLoad i tdo s) := by
  unfold tapLoad
  try dsimp only
  repeat' (first
    | (simp only [↓Only.mk_guard]; with_reducible refine Only.of_mk rfl ?_)
    | with_reducible exact Only.refl _ _
    | with_reducible assumption
    | decide
    | split
    | dsimp only)

theorem tapScan_only (i : TapInstr) (keys : Bool) (s : State) : Only 134217727 s (tapScan i keys s) := by
  unfold tapScan
  try dsimp only
  repeat' (first
    | with_reducible exact Only.refl _ _
    | with_reducible assumption
    | decide
    | (with_reducible
        first
          | refine Only.ite ?_ ?_ | refine Only.ite_snd ?_ ?_ | refine Only.ite_fst ?_ ?_
          | apply Only.app (tapLeave_only ..) | apply Only.app (tapLoad_only ..))
    | split
    | dsimp only)

theorem execBypass_only (s : State) :
    ∃ s', execBypass s = .next s' ∧ Only 134217727 s s' := by
  refine ⟨_, rfl, ?_⟩
  try dsimp only
  repeat' (first
    | with_reducible exact Only.refl _ _
    | with_reducible assumption
    | decide
    | (with_reducible
        first
          | apply Only.app (tapLeave_only ..) | apply Only.app (tapLoad_only ..))
    | split
    | dsimp only)

theorem execIdcode_only (s : State) :
    ∃ s', execIdcode s = .next s' ∧ Only 134217727 s s' := by
  refine ⟨_, rfl, ?_⟩
  try dsimp only
  repeat' (first
    | with_reducible exact Only.refl _ _
    | with_reducible assumption
    | decide
    | (with_reducible
        first
          | apply Only.app (tapLeave_only ..) | apply Only.app (tapLoad_only ..))
    | split
    | dsimp only)

theorem execSamplePreload_only (balls : List Bool) (shiftIn : List Bool) (s : State) :
    ∃ s', execSamplePreload balls shiftIn s = .next s' ∧ Only 134217727 s s' := by
  refine ⟨_, rfl, ?_⟩
  try dsimp only
  repeat' (first
    | (simp only [↓Only.mk_guard]; with_reducible refine Only.of_mk rfl ?_)
    | with_reducible exact Only.refl _ _
    | with_reducible assumption
    | decide
    | (with_reducible
        first
          | apply Only.app (tapLeave_only ..) | apply Only.app (tapLoad_only ..))
    | split
    | dsimp only)

theorem execExtest_only (keys : Bool) (s : State) :
    ∃ s', execExtest keys s = .next s' ∧ Only 134217727 s s' := by
  refine ⟨_, rfl, ?_⟩
  try dsimp only
  repeat' (first
    | with_reducible exact Only.refl _ _
    | with_reducible assumption
    | decide
    | (with_reducible
        first
          | apply Only.app (tapScan_only ..))
    | split
    | dsimp only)

theorem execClamp_only (keys : Bool) (s : State) :
    ∃ s', execClamp keys s = .next s' ∧ Only 134217727 s s' := by
  refine ⟨_, rfl, ?_⟩
  try dsimp only
  repeat' (first
    | with_reducible exact Only.refl _ _
    | with_reducible assumption
    | decide
    | (with_reducible
        first
          | apply Only.app (tapScan_only ..))
    | split
    | dsimp only)

theorem execHighz_only (keys : Bool) (s : State) :
    ∃ s', execHighz keys s = .next s' ∧ Only 134217727 s s' := by
  refine ⟨_, rfl, ?_⟩
  try dsimp only
  repeat' (first
    | with_reducible exact Only.refl _ _
    | with_reducible assumption
    | decide
    | (with_reducible
        first
          | apply Only.app (tapScan_only ..))
    | split
    | dsimp only)

theorem execSupplyMonitorAlarm_only (r : Rail) (aonLost : Bool) (s : State) :
    ∃ s', execSupplyMonitorAlarm r aonLost s = .next s' ∧ Only 134217727 s s' := by
  refine ⟨_, rfl, ?_⟩
  try dsimp only
  repeat' (first
    | with_reducible exact Only.refl _ _
    | with_reducible assumption
    | decide
    | (with_reducible
        first
          | apply Only.app (supplyAlarm_only ..))
    | split
    | dsimp only)

theorem execRailCheckTimeout_only (s : State) :
    ∃ s', execRailCheckTimeout s = .next s' ∧ Only 1048576 s s' := by
  refine ⟨_, rfl, ?_⟩
  try dsimp only
  repeat' (first
    | with_reducible exact Only.refl _ _
    | with_reducible assumption
    | decide
    | (with_reducible
        first
          | apply Only.app (railTimeout_only ..))
    | split
    | dsimp only)

theorem execRailRetry_only (s : State) :
    ∃ s', execRailRetry s = .next s' ∧ Only 1048576 s s' := by
  refine ⟨_, rfl, ?_⟩
  try dsimp only
  repeat' (first
    | with_reducible exact Only.refl _ _
    | with_reducible assumption
    | decide
    | (with_reducible
        first
          | apply Only.app (railRetry_only ..))
    | split
    | dsimp only)

theorem execMdioPoll_only (portQ : Bool) (status : BitVec 16) (sync : Bool) (s : State) :
    ∃ s', execMdioPoll portQ status sync s = .next s' ∧ Only 1048576 s s' := by
  refine ⟨_, rfl, ?_⟩
  try dsimp only
  repeat' (first
    | with_reducible exact Only.refl _ _
    | with_reducible assumption
    | decide
    | (with_reducible
        first
          | apply Only.app (mdioPoll_only ..))
    | split
    | dsimp only)

theorem execTimePps_only (s : State) :
    ∃ s', execTimePps s = .next s' ∧ Only 1 s s' := by
  refine ⟨_, rfl, ?_⟩
  try dsimp only
  repeat' (first
    | with_reducible exact Only.refl _ _
    | with_reducible assumption
    | decide
    | (with_reducible
        first
          | apply Only.app (timePps_only ..))
    | split
    | dsimp only)

theorem execSupplyAlarmClear_only (r : Rail) (s : State) :
    ∃ s', execSupplyAlarmClear r s = .next s' ∧ Only 17825800 s s' := by
  refine ⟨_, rfl, ?_⟩
  try dsimp only
  repeat' (first
    | with_reducible exact Only.refl _ _
    | with_reducible assumption
    | decide
    | (with_reducible
        first
          | apply Only.app (supplyClear_only ..))
    | split
    | dsimp only)

theorem execTapReset_only (s : State) :
    ∃ s', execTapReset s = .next s' ∧ Only 134217727 s s' := by
  refine ⟨_, rfl, ?_⟩
  try dsimp only
  repeat' (first
    | with_reducible exact Only.refl _ _
    | with_reducible assumption
    | decide
    | (with_reducible
        first
          | apply Only.app (tapLeave_only ..) | apply Only.app (tapLoad_only ..))
    | split
    | dsimp only)

end Sys2Proof.Machine
end

