-- ==== Sys2Proof/Laws/OnlyCoreIsa.lean ====
section
/-! SUPPORT. What each operation of Machine/CoreIsa.lean can touch. -/
set_option linter.all false
set_option Elab.async false
namespace Sys2Proof.Machine
open Sys2Proof

theorem takeIrq_only {n : Nat} {s t : State} (h : takeIrq n s = some t) : Only 73400592 s t := by
  unfold takeIrq at h
  dsimp only at h
  split at h
  · cases h
    exact Only.mono (enterFast_only _ _ _) (by decide)
  · cases h
    exact Only.mono (enterHeld_only _ _ _) (by decide)
  · cases h

theorem takeIrq_getD_only (n : Nat) (s : State) : Only 73400592 s ((takeIrq n s).getD s) := by
  cases h : takeIrq n s with
  | none => exact Only.refl _ _
  | some t => exact takeIrq_only h

theorem drainPosted_only (n : Nat) (s : State) : Only 91209210 s (drainPosted n s) := by
  unfold drainPosted
  try dsimp only
  repeat' (first
    | with_reducible exact Only.refl _ _
    | with_reducible assumption
    | decide
    | (with_reducible
        first
          | refine Only.ite ?_ ?_ | refine Only.ite_snd ?_ ?_ | refine Only.ite_fst ?_ ?_
          | refine Only.foldl _ (fun _ _ _ => ?_) _ ?_ | refine Only.foldl_snd _ (fun _ _ _ => ?_) _ ?_
          | refine Only.foldl_fst _ (fun _ _ _ => ?_) _ ?_ | apply Only.app (fabWrite_only ..)
          | apply Only.app (modCore_only ..))
    | split
    | dsimp only)

theorem loadOne_only (n : Nat) (p : Loads) (x : Access) : Only 91209210 p.st (loadOne n p x).st := by
  unfold loadOne
  have d : ∀ y, Only 91209210 p.st y → Only 91209210 p.st (drainPosted n y) := fun y hy => (drainPosted_only n y).app (by decide) hy
  have f : ∀ a y, Only 91209210 p.st y → Only 91209210 p.st (fabRead (coreIni n) a y).2 := fun a y hy => (fabRead_only _ a y).app (by decide) hy
  have m : ∀ g y, Only 91209210 p.st y → Only 91209210 p.st (modCore n g y) := fun g y hy => (modCore_only n g y).app (by decide) hy
  have e := d p.st (Only.refl _ _)
  dsimp only
  repeat' split
  all_goals first
    | exact Only.refl _ _
    | exact e
    | exact m _ _ (f _ _ e)

theorem loads_only {j n : Nat} {s : State} (hj : 91209210 ||| j = j) :
    ∀ (l : List Access) {p : Loads}, Only j s p.st → Only j s (l.foldl (loadOne n) p).st
  | [], _, h => h
  | x :: l, p, h => loads_only hj l ((loadOne_only n p x).app hj h)

theorem coreStore_only (n : Nat) (x : Access) (w : Word) (s : State) : Only 73400576 s (coreStore n x w s) := by
  unfold coreStore
  try dsimp only
  repeat' (first
    | (simp only [↓Only.mk_guard]; with_reducible refine Only.of_mk rfl ?_ (pm := ?_))
    | with_reducible exact Only.refl _ _
    | with_reducible assumption
    | decide
    | (with_reducible
        first
          | refine Only.ite ?_ ?_ | refine Only.ite_snd ?_ ?_ | refine Only.ite_fst ?_ ?_
          | apply Only.app (modCore_only ..))
    | (intro h; (repeat' (with_reducible first | exact h | assumption | refine Memory.writeN_wf _ _ _ ?_ | refine Memory.filter_wf _ ?_ | refine Memory.write_wf _ _ ?_ | split | dsimp only)); done)
    | split
    | dsimp only)

theorem finishSlots_only (n : Nat) (op dst sa sb md : Nat) (mv : Moves) (vals : List Word) (s : State) : Only 73400576 s (finishSlots n op dst sa sb md mv vals s) := by
  unfold finishSlots
  try dsimp only
  repeat' (first
    | with_reducible exact Only.refl _ _
    | with_reducible assumption
    | decide
    | (with_reducible
        first
          | refine Only.ite ?_ ?_ | refine Only.ite_snd ?_ ?_ | refine Only.ite_fst ?_ ?_
          | apply Only.app (coreStore_only ..) | apply Only.app (modCore_only ..))
    | split
    | dsimp only)

theorem endBundle_only (n : Nat) (b : Bundle) (s : State) : Only 91209210 s (endBundle n b s) := by
  unfold endBundle
  try dsimp only
  repeat' (first
    | with_reducible exact Only.refl _ _
    | with_reducible assumption
    | decide
    | (with_reducible
        first
          | refine Only.ite ?_ ?_ | refine Only.ite_snd ?_ ?_ | refine Only.ite_fst ?_ ?_
          | apply Only.app (afterBundle_only ..) | apply Only.app (drainPosted_only ..)
          | apply Only.app (enterException_only ..) | apply Only.app (modCore_only ..))
    | split
    | dsimp only)

theorem stallWith_only (n : Nat) (b : Bundle) (got : List Word) (s : State) : Only 67109120 s (stallWith n b got s) := by
  unfold stallWith
  try dsimp only
  repeat' (first
    | with_reducible exact Only.refl _ _
    | with_reducible assumption
    | decide
    | (with_reducible
        first
          | apply Only.app (modCore_only ..))
    | split
    | dsimp only)

theorem runBundle_only (n : Nat) (b : Bundle) (got : List Word) (s : State) : Only 91209210 s (runBundle n b got s) := by
  unfold runBundle
  try dsimp only
  repeat' (first
    | with_reducible exact Only.refl _ _
    | with_reducible assumption
    | decide
    | (with_reducible
        first
          | refine Only.ite ?_ ?_ | refine Only.ite_snd ?_ ?_ | refine Only.ite_fst ?_ ?_
          | refine Only.foldl _ (fun _ _ _ => ?_) _ ?_ | refine Only.foldl_snd _ (fun _ _ _ => ?_) _ ?_
          | refine Only.foldl_fst _ (fun _ _ _ => ?_) _ ?_ | apply Only.app (drainPosted_only ..)
          | apply Only.app (endBundle_only ..) | apply Only.app (finishSlots_only ..)
          | apply Only.app (islandFault_only ..) | refine loads_only (by decide) _ ?_
          | apply Only.app (stallWith_only ..))
    | split
    | dsimp only)

theorem resumeStall_only (n : Nat) (s : State) : Only 91209210 s (resumeStall n s) := by
  unfold resumeStall
  try dsimp only
  repeat' (first
    | with_reducible exact Only.refl _ _
    | with_reducible assumption
    | decide
    | (with_reducible
        first
          | refine Only.ite ?_ ?_ | refine Only.ite_snd ?_ ?_ | refine Only.ite_fst ?_ ?_
          | apply Only.app (drainPosted_only ..) | apply Only.app (modCore_only ..)
          | apply Only.app (runBundle_only ..))
    | split
    | dsimp only)

theorem resumeAborted_only (n : Nat) (s : State) : Only 91209210 s (resumeAborted n s) := by
  unfold resumeAborted
  try dsimp only
  repeat' (first
    | with_reducible exact Only.refl _ _
    | with_reducible assumption
    | decide
    | (with_reducible
        first
          | refine Only.ite ?_ ?_ | refine Only.ite_snd ?_ ?_ | refine Only.ite_fst ?_ ?_
          | apply Only.app (resumeStall_only ..))
    | split
    | dsimp only)

theorem issueBundle_only (n : Nat) (b : Bundle) (s : State) : Only 91209210 s (issueBundle n b s) := by
  unfold issueBundle
  try dsimp only
  repeat' (first
    | with_reducible exact Only.refl _ _
    | with_reducible assumption
    | decide
    | (with_reducible
        first
          | refine Only.ite ?_ ?_ | refine Only.ite_snd ?_ ?_ | refine Only.ite_fst ?_ ?_
          | apply Only.app (enterException_only ..) | apply Only.app (modCore_only ..)
          | apply Only.app (resumeAborted_only ..) | apply Only.app (runBundle_only ..)
          | apply Only.app (takeIrq_getD_only ..) | apply Only.app (takeIrq_only (by assumption)))
    | split
    | dsimp only)

theorem stepCore_only (n : Nat) (s : State) : Only 91209210 s (stepCore n s) := by
  unfold stepCore
  try dsimp only
  repeat' (first
    | with_reducible exact Only.refl _ _
    | with_reducible assumption
    | decide
    | (with_reducible
        first
          | refine Only.ite ?_ ?_ | refine Only.ite_snd ?_ ?_ | refine Only.ite_fst ?_ ?_
          | apply Only.app (islandFault_only ..) | apply Only.app (issueBundle_only ..)
          | apply Only.app (modCore_only ..))
    | split
    | dsimp only)

theorem settleSteps_only (s : State) : Only 91209210 s (settleSteps s) := by
  unfold settleSteps
  try dsimp only
  repeat' (first
    | with_reducible exact Only.refl _ _
    | with_reducible assumption
    | decide
    | (with_reducible
        first
          | refine Only.foldl _ (fun _ _ _ => ?_) _ ?_ | refine Only.foldl_snd _ (fun _ _ _ => ?_) _ ?_
          | refine Only.foldl_fst _ (fun _ _ _ => ?_) _ ?_ | apply Only.app (stepCore_only ..))
    | split
    | dsimp only)

theorem coreRegVia_only (n o : Nat) (w : Word) (s : State) : Only 99597818 s (coreRegVia n o w s) := by
  unfold coreRegVia
  try dsimp only
  repeat' (first
    | with_reducible exact Only.refl _ _
    | with_reducible assumption
    | decide
    | (with_reducible
        first
          | apply Only.app (fabWrite_only ..) | apply Only.app (replyWith_only ..)
          | apply Only.app (settleSteps_only ..))
    | split
    | dsimp only)

theorem ctlVia_only (n key cmd : Nat) (s : State) : Only 99597818 s (ctlVia n key cmd s) := by
  unfold ctlVia
  try dsimp only
  repeat' (first
    | with_reducible exact Only.refl _ _
    | with_reducible assumption
    | decide
    | (with_reducible
        first
          | apply Only.app (coreRegVia_only ..))
    | split
    | dsimp only)

theorem dbgVia_only (n : Nat) (w : Option Word) (s : State) : Only 99597818 s (dbgVia n w s) := by
  unfold dbgVia
  try dsimp only
  repeat' (first
    | with_reducible exact Only.refl _ _
    | with_reducible assumption
    | decide
    | (with_reducible
        first
          | apply Only.app (coreRegVia_only ..) | apply Only.app (fabRead_only ..)
          | apply Only.app (replyWith_only ..))
    | split
    | dsimp only)

theorem fastAtBoundary_only (n : Nat) (s : State) : Only 67109120 s (fastAtBoundary n s) := by
  unfold fastAtBoundary
  try dsimp only
  repeat' (first
    | with_reducible exact Only.refl _ _
    | with_reducible assumption
    | decide
    | (with_reducible
        first
          | refine Only.ite ?_ ?_ | refine Only.ite_snd ?_ ?_ | refine Only.ite_fst ?_ ?_
          | apply Only.app (enterFast_only ..))
    | split
    | dsimp only)

theorem heldAtBoundary_only (n : Nat) (s : State) : Only 73400592 s (heldAtBoundary n s) := by
  unfold heldAtBoundary
  try dsimp only
  repeat' (first
    | with_reducible exact Only.refl _ _
    | with_reducible assumption
    | decide
    | (with_reducible
        first
          | refine Only.ite ?_ ?_ | refine Only.ite_snd ?_ ?_ | refine Only.ite_fst ?_ ?_
          | apply Only.app (enterHeld_only ..))
    | split
    | dsimp only)

theorem waitWake_only (n : Nat) (s : State) : Only 73400592 s (waitWake n s) := by
  unfold waitWake
  try dsimp only
  repeat' (first
    | with_reducible exact Only.refl _ _
    | with_reducible assumption
    | decide
    | (with_reducible
        first
          | refine Only.ite ?_ ?_ | refine Only.ite_snd ?_ ?_ | refine Only.ite_fst ?_ ?_
          | apply Only.app (modCore_only ..) | apply Only.app (takeIrq_getD_only ..)
          | apply Only.app (takeIrq_only (by assumption)))
    | split
    | dsimp only)

theorem bkptAtBoundary_only (n : Nat) (s : State) : Only 67109120 s (bkptAtBoundary n s) := by
  unfold bkptAtBoundary
  try dsimp only
  repeat' (first
    | with_reducible exact Only.refl _ _
    | with_reducible assumption
    | decide
    | (with_reducible
        first
          | refine Only.ite ?_ ?_ | refine Only.ite_snd ?_ ?_ | refine Only.ite_fst ?_ ?_
          | apply Only.app (modCore_only ..))
    | split
    | dsimp only)

theorem postedAbort_only (n : Nat) (s : State) : Only 67109120 s (postedAbort n s) := by
  unfold postedAbort
  try dsimp only
  repeat' (first
    | with_reducible exact Only.refl _ _
    | with_reducible assumption
    | decide
    | (with_reducible
        first
          | refine Only.ite ?_ ?_ | refine Only.ite_snd ?_ ?_ | refine Only.ite_fst ?_ ?_
          | apply Only.app (modCore_only ..))
    | split
    | dsimp only)

theorem coreBundle_only (n : Nat) (b : Bundle) (s : State) : Only 91209210 s (coreBundle n b s) := by
  unfold coreBundle
  try dsimp only
  repeat' (first
    | with_reducible exact Only.refl _ _
    | with_reducible assumption
    | decide
    | (with_reducible
        first
          | apply Only.app (issueBundle_only ..) | apply Only.app (settleSteps_only ..))
    | split
    | dsimp only)

end Sys2Proof.Machine
end

