-- ==== Sys2Proof/Laws/OnlyRegMap.lean ====
section
/-! SUPPORT. What each operation of Machine/RegMap.lean can touch. -/
set_option linter.all false
set_option Elab.async false
namespace Sys2Proof.Machine
open Sys2Proof

theorem modHost_only (f : HostState → HostState) (s : State) : Only 33554448 s (modHost f s) := by
  unfold modHost
  try dsimp only
  repeat' (first
    | (simp only [↓Only.mk_guard]; with_reducible refine Only.of_mk rfl ?_)
    | with_reducible exact Only.refl _ _
    | with_reducible assumption
    | decide
    | split
    | dsimp only)

theorem modWin_only (n : Nat) (f : Win → Win) (s : State) : Only 33554448 s (modWin n f s) := by
  unfold modWin
  try dsimp only
  repeat' (first
    | with_reducible exact Only.refl _ _
    | with_reducible assumption
    | decide
    | (with_reducible
        first
          | apply Only.app (modHost_only ..))
    | split
    | dsimp only)

theorem winAddrWrite_only (n : Nat) (w : Word) (s : State) : Only 33554448 s (winAddrWrite n w s) := by
  unfold winAddrWrite
  try dsimp only
  repeat' (first
    | with_reducible exact Only.refl _ _
    | with_reducible assumption
    | decide
    | (with_reducible
        first
          | apply Only.app (modWin_only ..))
    | split
    | dsimp only)

theorem winBad_only (st : Status) (s : State) : Only 16 s (winBad st s) := by
  unfold winBad
  try dsimp only
  repeat' (first
    | with_reducible exact Only.refl _ _
    | with_reducible assumption
    | decide
    | (with_reducible
        first
          | refine Only.ite ?_ ?_ | refine Only.ite_snd ?_ ?_ | refine Only.ite_fst ?_ ?_
          | apply Only.app (setAttn_only ..))
    | split
    | dsimp only)

theorem winPrefetch_only (n : Nat) (s : State) : Only 101156248 s (winPrefetch n s) := by
  unfold winPrefetch
  try dsimp only
  repeat' (first
    | with_reducible exact Only.refl _ _
    | with_reducible assumption
    | decide
    | (with_reducible
        first
          | refine Only.ite ?_ ?_ | refine Only.ite_snd ?_ ?_ | refine Only.ite_fst ?_ ?_
          | apply Only.app (fabRead_only ..) | apply Only.app (modWin_only ..) | apply Only.app (winBad_only ..))
    | split
    | dsimp only)

theorem winPosted_only (n : Nat) (s : State) : Only 124763642 s (winPosted n s) := by
  unfold winPosted
  try dsimp only
  repeat' (first
    | with_reducible exact Only.refl _ _
    | with_reducible assumption
    | decide
    | (with_reducible
        first
          | refine Only.ite ?_ ?_ | refine Only.ite_snd ?_ ?_ | refine Only.ite_fst ?_ ?_
          | apply Only.app (fabWrite_only ..) | apply Only.app (modWin_only ..) | apply Only.app (winBad_only ..))
    | split
    | dsimp only)

theorem winReissue_only (n : Nat) (s : State) : Only 124763642 s (winReissue n s) := by
  unfold winReissue
  try dsimp only
  repeat' (first
    | with_reducible exact Only.refl _ _
    | with_reducible assumption
    | decide
    | (with_reducible
        first
          | refine Only.ite ?_ ?_ | refine Only.ite_snd ?_ ?_ | refine Only.ite_fst ?_ ?_
          | apply Only.app (winPosted_only ..) | apply Only.app (winPrefetch_only ..))
    | split
    | dsimp only)

theorem winTimeout_only (n : Nat) (s : State) : Only 33554448 s (winTimeout n s) := by
  unfold winTimeout
  try dsimp only
  repeat' (first
    | with_reducible exact Only.refl _ _
    | with_reducible assumption
    | decide
    | (with_reducible
        first
          | refine Only.ite ?_ ?_ | refine Only.ite_snd ?_ ?_ | refine Only.ite_fst ?_ ?_
          | apply Only.app (modWin_only ..) | apply Only.app (winBad_only ..))
    | split
    | dsimp only)

theorem winSpeculate_only (n : Nat) (s : State) : Only 67601816 s (winSpeculate n s) := by
  unfold winSpeculate
  try dsimp only
  repeat' (first
    | with_reducible exact Only.refl _ _
    | with_reducible assumption
    | decide
    | (with_reducible
        first
          | refine Only.ite ?_ ?_ | refine Only.ite_snd ?_ ?_ | refine Only.ite_fst ?_ ?_
          | apply Only.app (fabRead_only ..))
    | split
    | dsimp only)

theorem winReadEffect_only (n : Nat) (committed : Bool) (s : State) : Only 101156248 s (winReadEffect n committed s) := by
  unfold winReadEffect
  try dsimp only
  repeat' (first
    | with_reducible exact Only.refl _ _
    | with_reducible assumption
    | decide
    | (with_reducible
        first
          | refine Only.ite ?_ ?_ | refine Only.ite_snd ?_ ?_ | refine Only.ite_fst ?_ ?_
          | apply Only.app (modWin_only ..) | apply Only.app (winSpeculate_only ..))
    | split
    | dsimp only)

theorem winDataWrite_only (n : Nat) (w : Word) (s : State) : Only 33554448 s (winDataWrite n w s).2 := by
  unfold winDataWrite
  try dsimp only
  repeat' (first
    | with_reducible exact Only.refl _ _
    | with_reducible assumption
    | decide
    | (with_reducible
        first
          | refine Only.ite ?_ ?_ | refine Only.ite_snd ?_ ?_ | refine Only.ite_fst ?_ ?_
          | apply Only.app (modWin_only ..))
    | split
    | dsimp only)

theorem attnClear_only (w : Word) (s : State) : Only 33554448 s (attnClear w s) := by
  unfold attnClear
  try dsimp only
  repeat' (first
    | with_reducible exact Only.refl _ _
    | with_reducible assumption
    | decide
    | (with_reducible
        first
          | refine Only.ite ?_ ?_ | refine Only.ite_snd ?_ ?_ | refine Only.ite_fst ?_ ?_
          | apply Only.app (modHost_only ..) | apply Only.app (setAttn_only ..))
    | split
    | dsimp only)

theorem latchClear_only (w : Word) (s : State) : Only 16777224 s (latchClear w s) := by
  unfold latchClear
  try dsimp only
  repeat' (first
    | with_reducible exact Only.refl _ _
    | with_reducible assumption
    | decide
    | (with_reducible
        first
          | refine Only.foldl _ (fun _ _ _ => ?_) _ ?_ | refine Only.foldl_snd _ (fun _ _ _ => ?_) _ ?_
          | refine Only.foldl_fst _ (fun _ _ _ => ?_) _ ?_ | apply Only.app (modIsl_only ..))
    | split
    | dsimp only)

theorem clkEventClear_only (w : Word) (s : State) : Only 4 s (clkEventClear w s) := by
  unfold clkEventClear
  try dsimp only
  repeat' (first
    | (simp only [↓Only.mk_guard]; with_reducible refine Only.of_mk rfl ?_)
    | with_reducible exact Only.refl _ _
    | with_reducible assumption
    | decide
    | split
    | dsimp only)

theorem doorbell_only (w : Word) (s : State) : Only 408 s (doorbell w s).2 := by
  unfold doorbell
  try dsimp only
  repeat' (first
    | with_reducible exact Only.refl _ _
    | with_reducible assumption
    | decide
    | (with_reducible
        first
          | apply Only.app (hostAck_only ..) | apply Only.app (hostArm_only ..) | apply Only.app (hostEnqueue_only ..)
          | apply Only.app (hostTake_only ..) | apply Only.app (hostTakeAck_only ..))
    | split
    | dsimp only)

theorem queueWrite_only (o : Nat) (w : Word) (s : State) : Only 2097560 s (queueWrite o w s).2 := by
  unfold queueWrite
  try dsimp only
  repeat' (first
    | (simp only [↓Only.mk_guard]; with_reducible refine Only.of_mk rfl ?_)
    | with_reducible exact Only.refl _ _
    | with_reducible assumption
    | decide
    | (with_reducible
        first
          | refine Only.ite ?_ ?_ | refine Only.ite_snd ?_ ?_ | refine Only.ite_fst ?_ ?_
          | apply Only.app (doorbell_only ..) | apply Only.app (qSelWrite_only ..)
          | apply Only.app (reloadWrite_only ..))
    | split
    | dsimp only)

theorem clockWrite_only (o : Nat) (w : Word) (s : State) : Only 91209628 s (clockWrite o w s).2 := by
  unfold clockWrite
  try dsimp only
  repeat' (first
    | (simp only [↓Only.mk_guard]; with_reducible refine Only.of_mk rfl ?_)
    | with_reducible exact Only.refl _ _
    | with_reducible assumption
    | decide
    | (with_reducible
        first
          | apply Only.app (clkEventClear_only ..) | apply Only.app (familyWrite_only ..)
          | apply Only.app (islCtl_only ..) | apply Only.app (targetWrite_only ..))
    | split
    | dsimp only)

theorem hostRegEffect_only (p : Port) (o : Nat) (committed : Bool) (s : State) : Only 101172696 s (hostRegEffect p o committed s) := by
  unfold hostRegEffect
  try dsimp only
  repeat' (first
    | with_reducible exact Only.refl _ _
    | with_reducible assumption
    | decide
    | (with_reducible
        first
          | refine Only.ite ?_ ?_ | refine Only.ite_snd ?_ ?_ | refine Only.ite_fst ?_ ?_
          | apply Only.app (consentReadEffect_only ..) | apply Only.app (kerbReadEffect_only ..)
          | apply Only.app (modHost_only ..) | apply Only.app (winReadEffect_only ..))
    | split
    | dsimp only)

theorem modeReqWrite_only (p : Port) (w : Word) (s : State) : Only 92274686 s (modeReqWrite p w s).2 := by
  unfold modeReqWrite
  try dsimp only
  repeat' (first
    | with_reducible exact Only.refl _ _
    | with_reducible assumption
    | decide
    | (with_reducible
        first
          | refine Only.ite ?_ ?_ | refine Only.ite_snd ?_ ?_ | refine Only.ite_fst ?_ ?_
          | apply Only.app (cancelReq_only ..) | apply Only.app (modeRequest_only ..))
    | split
    | dsimp only)

theorem hostRegWrite_only (p : Port) (o : Nat) (w : Word) (s : State) : Only 125829119 s (hostRegWrite p o w s).2 := by
  unfold hostRegWrite
  try dsimp only
  repeat' (first
    | with_reducible exact Only.refl _ _
    | with_reducible assumption
    | decide
    | (with_reducible
        first
          | refine Only.ite ?_ ?_ | refine Only.ite_snd ?_ ?_ | refine Only.ite_fst ?_ ?_
          | apply Only.app (attnClear_only ..) | apply Only.app (clockWrite_only ..)
          | apply Only.app (consentWrite_only ..) | apply Only.app (latchClear_only ..)
          | apply Only.app (meterWrite_only ..) | apply Only.app (modHost_only ..)
          | apply Only.app (modeReqWrite_only ..) | apply Only.app (queueWrite_only ..)
          | apply Only.app (rtcLocalWrite_only ..) | apply Only.app (rtcWrite_only ..)
          | apply Only.app (winAddrWrite_only ..) | apply Only.app (winDataWrite_only ..))
    | split
    | dsimp only)

end Sys2Proof.Machine
end

