-- ==== Sys2Proof/Laws/OnlyHostPort.lean ====
section
/-! SUPPORT. What each operation of Machine/HostPort.lean can touch. -/
set_option linter.all false
set_option Elab.async false
namespace Sys2Proof.Machine
open Sys2Proof

theorem frameWord_only (opc addr : Nat) (st : Status) (d : Word) (attn crcOn : Bool) (s : State) : Only 33554448 s (frameWord opc addr st d attn crcOn s) := by
  unfold frameWord
  try dsimp only
  repeat' (first
    | with_reducible exact Only.refl _ _
    | with_reducible assumption
    | decide
    | (with_reducible
        first
          | refine Only.ite ?_ ?_ | refine Only.ite_snd ?_ ?_ | refine Only.ite_fst ?_ ?_
          | apply Only.app (modHost_only ..))
    | split
    | dsimp only)

theorem frameStart_only (s : State) : Only 33554448 s (frameStart s) := by
  unfold frameStart
  try dsimp only
  repeat' (first
    | with_reducible exact Only.refl _ _
    | with_reducible assumption
    | decide
    | (with_reducible
        first
          | apply Only.app (modHost_only ..))
    | split
    | dsimp only)

theorem countErr_only (f : HostState → HostState) (s : State) : Only 33554448 s (countErr f s) := by
  unfold countErr
  try dsimp only
  repeat' (first
    | with_reducible exact Only.refl _ _
    | with_reducible assumption
    | decide
    | (with_reducible
        first
          | apply Only.app (modHost_only ..) | apply Only.app (setAttn_only ..))
    | split
    | dsimp only)

theorem countCrc_only (p : Port) (s : State) : Only 33554448 s (countCrc p s) := by
  unfold countCrc
  try dsimp only
  repeat' (first
    | with_reducible exact Only.refl _ _
    | with_reducible assumption
    | decide
    | (with_reducible
        first
          | apply Only.app (countErr_only ..))
    | split
    | dsimp only)

theorem readWordBad_only (p : Port) (opc addr : Nat) (crcOn : Bool) (s : State) : Only 33554448 s (readWordBad p opc addr crcOn s) := by
  unfold readWordBad
  try dsimp only
  repeat' (first
    | with_reducible exact Only.refl _ _
    | with_reducible assumption
    | decide
    | (with_reducible
        first
          | apply Only.app (countCrc_only ..) | apply Only.app (frameWord_only ..))
    | split
    | dsimp only)

theorem readWord_only (p : Port) (opc addr : Nat) (crcOn committed copyBad : Bool) (s : State) : Only 101172696 s (readWord p opc addr crcOn committed copyBad s) := by
  unfold readWord
  try dsimp only
  repeat' (first
    | with_reducible exact Only.refl _ _
    | with_reducible assumption
    | decide
    | (with_reducible
        first
          | refine Only.ite ?_ ?_ | refine Only.ite_snd ?_ ?_ | refine Only.ite_fst ?_ ?_
          | apply Only.app (frameWord_only ..) | apply Only.app (hostRegEffect_only ..))
    | split
    | dsimp only)

theorem writeOut_only (p : Port) (keys : Bool) (addr : Nat) (w : Word) (s : State) : Only 125829119 s (writeOut p keys addr w s).2 := by
  unfold writeOut
  try dsimp only
  repeat' (first
    | with_reducible exact Only.refl _ _
    | with_reducible assumption
    | decide
    | (with_reducible
        first
          | refine Only.ite ?_ ?_ | refine Only.ite_snd ?_ ?_ | refine Only.ite_fst ?_ ?_
          | apply Only.app (hostRegWrite_only ..))
    | split
    | dsimp only)

theorem writeWord_only (p : Port) (keys : Bool) (opc addr : Nat) (crcOn : Bool) (w : Word) (crc : Nat) (s : State) : Only 125829119 s (writeWord p keys opc addr crcOn w crc s) := by
  unfold writeWord
  try dsimp only
  repeat' (first
    | with_reducible exact Only.refl _ _
    | with_reducible assumption
    | decide
    | (with_reducible
        first
          | refine Only.ite ?_ ?_ | refine Only.ite_snd ?_ ?_ | refine Only.ite_fst ?_ ?_
          | apply Only.app (countCrc_only ..) | apply Only.app (frameWord_only ..) | apply Only.app (writeOut_only ..))
    | split
    | dsimp only)

theorem frameOf_only {j : Nat} {s x : State} {f : State → State} (hj : 124780538 ||| j = j)
    (hf : ∀ y, Only j s y → Only j s (f y)) (h : Only j s x) : Only j s (frameOf f x) := by
  have w : ∀ y, Only j s y → Only j s (wakeDormant y) := fun y hy => (Only.mono (wakeDormant_only y) (by decide)).app hj hy
  have t : ∀ y, Only j s y → Only j s (frameStart y) := fun y hy => (Only.mono (frameStart_only y) (by decide)).app hj hy
  unfold frameOf
  exact Only.ite (t _ h) (Only.ite (w _ (hf _ (t _ h))) (hf _ (t _ h)))

theorem readFrame_only (p : Port) (opc addr stepBy words crc : Nat) (committed : Bool) (bad : List Nat) (s : State) : Only 101172696 s (readFrame p opc addr stepBy words crc committed bad s) := by
  unfold readFrame
  try dsimp only
  repeat' (first
    | with_reducible exact Only.refl _ _
    | with_reducible assumption
    | decide
    | (with_reducible
        first
          | refine Only.ite ?_ ?_ | refine Only.ite_snd ?_ ?_ | refine Only.ite_fst ?_ ?_
          | refine Only.foldl _ (fun _ _ _ => ?_) _ ?_ | refine Only.foldl_snd _ (fun _ _ _ => ?_) _ ?_
          | refine Only.foldl_fst _ (fun _ _ _ => ?_) _ ?_ | apply Only.app (readWord_only ..)
          | apply Only.app (readWordBad_only ..))
    | split
    | dsimp only)

theorem writeFrameOf_only (p : Port) (keys : Bool) (opc addr stepBy : Nat) (l : List (Word × BitVec 8)) (s : State) : Only 125829119 s (writeFrameOf p keys opc addr stepBy l s) := by
  unfold writeFrameOf
  try dsimp only
  repeat' (first
    | with_reducible exact Only.refl _ _
    | with_reducible assumption
    | decide
    | (with_reducible
        first
          | refine Only.foldl _ (fun _ _ _ => ?_) _ ?_ | refine Only.foldl_snd _ (fun _ _ _ => ?_) _ ?_
          | refine Only.foldl_fst _ (fun _ _ _ => ?_) _ ?_ | apply Only.app (writeWord_only ..))
    | split
    | dsimp only)

theorem unlistedFrame_only (p : Port) (opc addr crc : Nat) (s : State) : Only 33554448 s (unlistedFrame p opc addr crc s) := by
  unfold unlistedFrame
  try dsimp only
  repeat' (first
    | with_reducible exact Only.refl _ _
    | with_reducible assumption
    | decide
    | (with_reducible
        first
          | refine Only.ite ?_ ?_ | refine Only.ite_snd ?_ ?_ | refine Only.ite_fst ?_ ?_
          | apply Only.app (countCrc_only ..) | apply Only.app (countErr_only ..) | apply Only.app (frameWord_only ..))
    | split
    | dsimp only)

theorem truncatedFrame_only (p : Port) (s : State) : Only 33554448 s (truncatedFrame p s) := by
  unfold truncatedFrame
  try dsimp only
  repeat' (first
    | with_reducible exact Only.refl _ _
    | with_reducible assumption
    | decide
    | (with_reducible
        first
          | apply Only.app (countErr_only ..))
    | split
    | dsimp only)

theorem regWriteOver_only (p : Port) (o : Nat) (w : Word) (s : State) : Only 125829119 s (regWriteOver p o w s) := by
  unfold regWriteOver
  try dsimp only
  repeat' (first
    | with_reducible exact Only.refl _ _
    | with_reducible assumption
    | decide
    | (with_reducible
        first
          | refine Only.ite ?_ ?_ | refine Only.ite_snd ?_ ?_ | refine Only.ite_fst ?_ ?_
          | apply Only.app (hostRegWrite_only ..) | refine hostWrite_only (by decide) (fun _ _ => ?_) ?_)
    | split
    | dsimp only)

theorem winDataReadOver_only (n : Nat) (committed : Bool) (s : State) : Only 133169146 s (winDataReadOver n committed s) := by
  unfold winDataReadOver
  try dsimp only
  repeat' (first
    | with_reducible exact Only.refl _ _
    | with_reducible assumption
    | decide
    | (with_reducible
        first
          | refine Only.ite ?_ ?_ | refine Only.ite_snd ?_ ?_ | refine Only.ite_fst ?_ ?_
          | apply Only.app (hostRegEffect_only ..) | apply Only.app (hostStatus_only ..)
          | apply Only.app (replyWith_only ..) | apply Only.app (wakeDormant_only ..))
    | split
    | dsimp only)

end Sys2Proof.Machine
end

