-- ==== Sys2Proof/Laws/OnlyPorts.lean ====
section
/-! SUPPORT. What each operation of Machine/Ports.lean can touch. -/
set_option linter.all false
set_option Elab.async false
namespace Sys2Proof.Machine
open Sys2Proof

theorem execRead_only (p : Port) (addr : BitVec 16) (crc : BitVec 8) (committed copyBad : Bool) (s : State) :
    ∃ s', execRead p addr crc committed copyBad s = .next s' ∧ Only 124780538 s s' := by
  refine ⟨_, rfl, ?_⟩
  try dsimp only
  repeat' (first
    | with_reducible exact Only.refl _ _
    | with_reducible assumption
    | decide
    | (with_reducible
        first
          | refine Only.ite ?_ ?_ | refine Only.ite_snd ?_ ?_ | refine Only.ite_fst ?_ ?_
          | refine frameOf_only (by decide) (fun _ _ => ?_) ?_ | apply Only.app (readFrame_only ..))
    | split
    | dsimp only)

theorem execReadBurst_only (p : Port) (addr : BitVec 16) (crc : BitVec 8) (words : Nat) (copyBad : List Nat) (s : State) :
    ∃ s', execReadBurst p addr crc words copyBad s = .next s' ∧ Only 124780538 s s' := by
  refine ⟨_, rfl, ?_⟩
  try dsimp only
  repeat' (first
    | with_reducible exact Only.refl _ _
    | with_reducible assumption
    | decide
    | (with_reducible
        first
          | refine frameOf_only (by decide) (fun _ _ => ?_) ?_ | apply Only.app (readFrame_only ..))
    | split
    | dsimp only)

theorem execReadRepeat_only (p : Port) (addr : BitVec 16) (crc : BitVec 8) (words : Nat) (copyBad : List Nat) (s : State) :
    ∃ s', execReadRepeat p addr crc words copyBad s = .next s' ∧ Only 124780538 s s' := by
  refine ⟨_, rfl, ?_⟩
  try dsimp only
  repeat' (first
    | with_reducible exact Only.refl _ _
    | with_reducible assumption
    | decide
    | (with_reducible
        first
          | refine frameOf_only (by decide) (fun _ _ => ?_) ?_ | apply Only.app (readFrame_only ..))
    | split
    | dsimp only)

theorem execWrite_only (p : Port) (keys : Bool) (addr : BitVec 16) (data : Word) (crc : BitVec 8) (s : State) :
    ∃ s', execWrite p keys addr data crc s = .next s' ∧ Only 125829119 s s' := by
  refine ⟨_, rfl, ?_⟩
  try dsimp only
  repeat' (first
    | with_reducible exact Only.refl _ _
    | with_reducible assumption
    | decide
    | (with_reducible
        first
          | refine frameOf_only (by decide) (fun _ _ => ?_) ?_ | apply Only.app (writeFrameOf_only ..))
    | split
    | dsimp only)

theorem execWriteBurst_only (p : Port) (keys : Bool) (addr : BitVec 16) (words : List (Word × BitVec 8)) (s : State) :
    ∃ s', execWriteBurst p keys addr words s = .next s' ∧ Only 125829119 s s' := by
  refine ⟨_, rfl, ?_⟩
  try dsimp only
  repeat' (first
    | with_reducible exact Only.refl _ _
    | with_reducible assumption
    | decide
    | (with_reducible
        first
          | refine frameOf_only (by decide) (fun _ _ => ?_) ?_ | apply Only.app (writeFrameOf_only ..))
    | split
    | dsimp only)

theorem execWriteRepeat_only (p : Port) (keys : Bool) (addr : BitVec 16) (words : List (Word × BitVec 8)) (s : State) :
    ∃ s', execWriteRepeat p keys addr words s = .next s' ∧ Only 125829119 s s' := by
  refine ⟨_, rfl, ?_⟩
  try dsimp only
  repeat' (first
    | with_reducible exact Only.refl _ _
    | with_reducible assumption
    | decide
    | (with_reducible
        first
          | refine frameOf_only (by decide) (fun _ _ => ?_) ?_ | apply Only.app (writeFrameOf_only ..))
    | split
    | dsimp only)

theorem execUnlistedOpcode_only (p : Port) (opcode : BitVec 8) (addr : BitVec 16) (crc : BitVec 8) (s : State) :
    ∃ s', execUnlistedOpcode p opcode addr crc s = .next s' ∧ Only 124780538 s s' := by
  refine ⟨_, rfl, ?_⟩
  try dsimp only
  repeat' (first
    | with_reducible exact Only.refl _ _
    | with_reducible assumption
    | decide
    | (with_reducible
        first
          | refine Only.ite ?_ ?_ | refine Only.ite_snd ?_ ?_ | refine Only.ite_fst ?_ ?_
          | refine frameOf_only (by decide) (fun _ _ => ?_) ?_ | apply Only.app (unlistedFrame_only ..))
    | split
    | dsimp only)

theorem execFrameTruncated_only (p : Port) (s : State) :
    ∃ s', execFrameTruncated p s = .next s' ∧ Only 124780538 s s' := by
  refine ⟨_, rfl, ?_⟩
  try dsimp only
  repeat' (first
    | with_reducible exact Only.refl _ _
    | with_reducible assumption
    | decide
    | (with_reducible
        first
          | refine frameOf_only (by decide) (fun _ _ => ?_) ?_ | apply Only.app (truncatedFrame_only ..))
    | split
    | dsimp only)

theorem execHpCfgWrite_only (p : Port) (w : Word) (s : State) :
    ∃ s', execHpCfgWrite p w s = .next s' ∧ Only 125829119 s s' := by
  refine ⟨_, rfl, ?_⟩
  try dsimp only
  repeat' (first
    | with_reducible exact Only.refl _ _
    | with_reducible assumption
    | decide
    | (with_reducible
        first
          | apply Only.app (regWriteOver_only ..))
    | split
    | dsimp only)

theorem execWinAddrWrite_only (n : Fin 4) (w : Word) (s : State) :
    ∃ s', execWinAddrWrite n w s = .next s' ∧ Only 125829119 s s' := by
  refine ⟨_, rfl, ?_⟩
  try dsimp only
  repeat' (first
    | with_reducible exact Only.refl _ _
    | with_reducible assumption
    | decide
    | (with_reducible
        first
          | apply Only.app (regWriteOver_only ..))
    | split
    | dsimp only)

theorem execWinDataRead_only (n : Fin 4) (committed : Bool) (s : State) :
    ∃ s', execWinDataRead n committed s = .next s' ∧ Only 133169146 s s' := by
  refine ⟨_, rfl, ?_⟩
  try dsimp only
  repeat' (first
    | with_reducible exact Only.refl _ _
    | with_reducible assumption
    | decide
    | (with_reducible
        first
          | apply Only.app (winDataReadOver_only ..))
    | split
    | dsimp only)

theorem execWinDataWrite_only (n : Fin 4) (w : Word) (s : State) :
    ∃ s', execWinDataWrite n w s = .next s' ∧ Only 125829119 s s' := by
  refine ⟨_, rfl, ?_⟩
  try dsimp only
  repeat' (first
    | with_reducible exact Only.refl _ _
    | with_reducible assumption
    | decide
    | (with_reducible
        first
          | apply Only.app (regWriteOver_only ..))
    | split
    | dsimp only)

theorem execWinPrefetchComplete_only (n : Fin 4) (s : State) :
    ∃ s', execWinPrefetchComplete n s = .next s' ∧ Only 101156248 s s' := by
  refine ⟨_, rfl, ?_⟩
  try dsimp only
  repeat' (first
    | with_reducible exact Only.refl _ _
    | with_reducible assumption
    | decide
    | (with_reducible
        first
          | apply Only.app (winPrefetch_only ..))
    | split
    | dsimp only)

theorem execWinPostedWriteComplete_only (n : Fin 4) (s : State) :
    ∃ s', execWinPostedWriteComplete n s = .next s' ∧ Only 124763642 s s' := by
  refine ⟨_, rfl, ?_⟩
  try dsimp only
  repeat' (first
    | with_reducible exact Only.refl _ _
    | with_reducible assumption
    | decide
    | (with_reducible
        first
          | apply Only.app (settleSteps_only ..) | apply Only.app (winPosted_only ..))
    | split
    | dsimp only)

theorem execWinRetryReissue_only (n : Fin 4) (s : State) :
    ∃ s', execWinRetryReissue n s = .next s' ∧ Only 124763642 s s' := by
  refine ⟨_, rfl, ?_⟩
  try dsimp only
  repeat' (first
    | with_reducible exact Only.refl _ _
    | with_reducible assumption
    | decide
    | (with_reducible
        first
          | apply Only.app (settleSteps_only ..) | apply Only.app (winReissue_only ..))
    | split
    | dsimp only)

theorem execWinRequestTimeout_only (n : Fin 4) (s : State) :
    ∃ s', execWinRequestTimeout n s = .next s' ∧ Only 33554448 s s' := by
  refine ⟨_, rfl, ?_⟩
  try dsimp only
  repeat' (first
    | with_reducible exact Only.refl _ _
    | with_reducible assumption
    | decide
    | (with_reducible
        first
          | apply Only.app (winTimeout_only ..))
    | split
    | dsimp only)

theorem execRegisterWrite_only (p : Port) (off : BitVec 12) (w : Word) (s : State) :
    ∃ s', execRegisterWrite p off w s = .next s' ∧ Only 125829119 s s' := by
  refine ⟨_, rfl, ?_⟩
  try dsimp only
  repeat' (first
    | with_reducible exact Only.refl _ _
    | with_reducible assumption
    | decide
    | (with_reducible
        first
          | apply Only.app (regWriteOver_only ..))
    | split
    | dsimp only)

end Sys2Proof.Machine
end

