-- ==== Sys2Proof/Laws/OnlyPwm.lean ====
section
/-! SUPPORT. What each operation of Machine/Pwm.lean can touch. -/
set_option linter.all false
set_option Elab.async false
namespace Sys2Proof.Machine
open Sys2Proof

theorem execLoadPoint_only (n : Fin 32) (s : State) :
    ∃ s', execLoadPoint n s = .next s' ∧ Only 131072 s s' := by
  refine ⟨_, rfl, ?_⟩
  try dsimp only
  repeat' (first
    | with_reducible exact Only.refl _ _
    | with_reducible assumption
    | decide
    | (with_reducible
        first
          | apply Only.app (pwmLoadPoint_only ..))
    | split
    | dsimp only)

theorem execPwmCodeWrite_only (n : Fin 32) (w : Word) (s : State) :
    ∃ s', execPwmCodeWrite n w s = .next s' ∧ Only 131072 s s' := by
  refine ⟨_, rfl, ?_⟩
  try dsimp only
  repeat' (first
    | with_reducible exact Only.refl _ _
    | with_reducible assumption
    | decide
    | (with_reducible
        first
          | apply Only.app (pwmCodeWrite_only ..))
    | split
    | dsimp only)

theorem execTimebaseTick_only (g : Fin 4) (s : State) :
    ∃ s', execTimebaseTick g s = .next s' ∧ Only 131480 s s' := by
  refine ⟨_, rfl, ?_⟩
  try dsimp only
  repeat' (first
    | with_reducible exact Only.refl _ _
    | with_reducible assumption
    | decide
    | (with_reducible
        first
          | apply Only.app (pwmTick_only ..))
    | split
    | dsimp only)

theorem execPwmLoadNEdge_only (g : Fin 4) (lowNs : Nat) (s : State) :
    ∃ s', execPwmLoadNEdge g lowNs s = .next s' ∧ Only 67240208 s s' := by
  refine ⟨_, rfl, ?_⟩
  try dsimp only
  repeat' (first
    | with_reducible exact Only.refl _ _
    | with_reducible assumption
    | decide
    | (with_reducible
        first
          | refine Only.ite ?_ ?_ | refine Only.ite_snd ?_ ?_ | refine Only.ite_fst ?_ ?_
          | apply Only.app (pwmStrobe_only ..))
    | split
    | dsimp only)

theorem execStrobe_only (groups : BitVec 4) (s : State) :
    ∃ s', execStrobe groups s = .next s' ∧ Only 67240208 s s' := by
  refine ⟨_, rfl, ?_⟩
  try dsimp only
  repeat' (first
    | with_reducible exact Only.refl _ _
    | with_reducible assumption
    | decide
    | (with_reducible
        first
          | apply Only.app (pwmStrobe_only ..))
    | split
    | dsimp only)

theorem execPwmApply_only (s : State) :
    ∃ s', execPwmApply s = .next s' ∧ Only 131072 s s' := by
  refine ⟨_, rfl, ?_⟩
  try dsimp only
  repeat' (first
    | with_reducible exact Only.refl _ _
    | with_reducible assumption
    | decide
    | (with_reducible
        first
          | apply Only.app (pwmApply_only ..))
    | split
    | dsimp only)

theorem execPwmFaultClear_only (channels : BitVec 32) (s : State) :
    ∃ s', execPwmFaultClear channels s = .next s' ∧ Only 131072 s s' := by
  refine ⟨_, rfl, ?_⟩
  try dsimp only
  repeat' (first
    | with_reducible exact Only.refl _ _
    | with_reducible assumption
    | decide
    | (with_reducible
        first
          | apply Only.app (pwmFaultClear_only ..))
    | split
    | dsimp only)

theorem execGenSync_only (channels : BitVec 32) (s : State) :
    ∃ s', execGenSync channels s = .next s' ∧ Only 131072 s s' := by
  refine ⟨_, rfl, ?_⟩
  try dsimp only
  repeat' (first
    | with_reducible exact Only.refl _ _
    | with_reducible assumption
    | decide
    | (with_reducible
        first
          | apply Only.app (pwmGenSync_only ..))
    | split
    | dsimp only)

end Sys2Proof.Machine
end

