-- ==== Sys2Proof/Laws/OnlySignalCore.lean ====
section
/-! SUPPORT. What each operation of Machine/SignalCore.lean can touch. -/
set_option linter.all false
set_option Elab.async false
namespace Sys2Proof.Machine
open Sys2Proof

theorem fabReadCmd_only (i : Initiator) (a : Nat) (e : EccEvent) (s : State) : Only 80184728 s (fabReadCmd i a e s) := by
  unfold fabReadCmd
  try dsimp only
  repeat' (first
    | with_reducible exact Only.refl _ _
    | with_reducible assumption
    | decide
    | (with_reducible
        first
          | refine Only.ite ?_ ?_ | refine Only.ite_snd ?_ ?_ | refine Only.ite_fst ?_ ?_
          | apply Only.app (eccNote_only ..) | apply Only.app (fabRead_only ..) | apply Only.app (replyWith_only ..))
    | split
    | dsimp only)

theorem fabWriteCmd_only (i : Initiator) (a strobe : Nat) (w : Word) (s : State) : Only 99597818 s (fabWriteCmd i a strobe w s) := by
  unfold fabWriteCmd
  try dsimp only
  repeat' (first
    | with_reducible exact Only.refl _ _
    | with_reducible assumption
    | decide
    | (with_reducible
        first
          | refine Only.ite ?_ ?_ | refine Only.ite_snd ?_ ?_ | refine Only.ite_fst ?_ ?_
          | apply Only.app (fabWrite_only ..) | apply Only.app (replyWith_only ..)
          | apply Only.app (settleSteps_only ..))
    | split
    | dsimp only)

theorem execCmac_only (c : Fin 8) (an : Fin 4) (da db : Fin 16) (mv : Moves) (s : State) :
    ∃ s', execCmac c an da db mv s = .next s' ∧ Only 91209210 s s' := by
  refine ⟨_, rfl, ?_⟩
  try dsimp only
  repeat' (first
    | with_reducible exact Only.refl _ _
    | with_reducible assumption
    | decide
    | (with_reducible
        first
          | apply Only.app (coreBundle_only ..))
    | split
    | dsimp only)

theorem execCmsu_only (c : Fin 8) (an : Fin 4) (da db : Fin 16) (mv : Moves) (s : State) :
    ∃ s', execCmsu c an da db mv s = .next s' ∧ Only 91209210 s s' := by
  refine ⟨_, rfl, ?_⟩
  try dsimp only
  repeat' (first
    | with_reducible exact Only.refl _ _
    | with_reducible assumption
    | decide
    | (with_reducible
        first
          | apply Only.app (coreBundle_only ..))
    | split
    | dsimp only)

theorem execCmacj_only (c : Fin 8) (an : Fin 4) (da db : Fin 16) (mv : Moves) (s : State) :
    ∃ s', execCmacj c an da db mv s = .next s' ∧ Only 91209210 s s' := by
  refine ⟨_, rfl, ?_⟩
  try dsimp only
  repeat' (first
    | with_reducible exact Only.refl _ _
    | with_reducible assumption
    | decide
    | (with_reducible
        first
          | apply Only.app (coreBundle_only ..))
    | split
    | dsimp only)

theorem execCmul_only (c : Fin 8) (an : Fin 4) (da db : Fin 16) (mv : Moves) (s : State) :
    ∃ s', execCmul c an da db mv s = .next s' ∧ Only 91209210 s s' := by
  refine ⟨_, rfl, ?_⟩
  try dsimp only
  repeat' (first
    | with_reducible exact Only.refl _ _
    | with_reducible assumption
    | decide
    | (with_reducible
        first
          | apply Only.app (coreBundle_only ..))
    | split
    | dsimp only)

theorem execFtap_only (c : Fin 8) (an : Fin 4) (da db : Fin 16) (mv : Moves) (s : State) :
    ∃ s', execFtap c an da db mv s = .next s' ∧ Only 91209210 s s' := by
  refine ⟨_, rfl, ?_⟩
  try dsimp only
  repeat' (first
    | with_reducible exact Only.refl _ _
    | with_reducible assumption
    | decide
    | (with_reducible
        first
          | apply Only.app (coreBundle_only ..))
    | split
    | dsimp only)

theorem execRmac2_only (c : Fin 8) (an : Fin 4) (da db : Fin 16) (mv : Moves) (s : State) :
    ∃ s', execRmac2 c an da db mv s = .next s' ∧ Only 91209210 s s' := by
  refine ⟨_, rfl, ?_⟩
  try dsimp only
  repeat' (first
    | with_reducible exact Only.refl _ _
    | with_reducible assumption
    | decide
    | (with_reducible
        first
          | apply Only.app (coreBundle_only ..))
    | split
    | dsimp only)

theorem execRmsu2_only (c : Fin 8) (an : Fin 4) (da db : Fin 16) (mv : Moves) (s : State) :
    ∃ s', execRmsu2 c an da db mv s = .next s' ∧ Only 91209210 s s' := by
  refine ⟨_, rfl, ?_⟩
  try dsimp only
  repeat' (first
    | with_reducible exact Only.refl _ _
    | with_reducible assumption
    | decide
    | (with_reducible
        first
          | apply Only.app (coreBundle_only ..))
    | split
    | dsimp only)

theorem execRmul2_only (c : Fin 8) (an : Fin 4) (da db : Fin 16) (mv : Moves) (s : State) :
    ∃ s', execRmul2 c an da db mv s = .next s' ∧ Only 91209210 s s' := by
  refine ⟨_, rfl, ?_⟩
  try dsimp only
  repeat' (first
    | with_reducible exact Only.refl _ _
    | with_reducible assumption
    | decide
    | (with_reducible
        first
          | apply Only.app (coreBundle_only ..))
    | split
    | dsimp only)

theorem execFtapr_only (c : Fin 8) (an : Fin 4) (da db : Fin 16) (mv : Moves) (s : State) :
    ∃ s', execFtapr c an da db mv s = .next s' ∧ Only 91209210 s s' := by
  refine ⟨_, rfl, ?_⟩
  try dsimp only
  repeat' (first
    | with_reducible exact Only.refl _ _
    | with_reducible assumption
    | decide
    | (with_reducible
        first
          | apply Only.app (coreBundle_only ..))
    | split
    | dsimp only)

theorem execClra_only (c : Fin 8) (an : Fin 4) (mv : Moves) (s : State) :
    ∃ s', execClra c an mv s = .next s' ∧ Only 91209210 s s' := by
  refine ⟨_, rfl, ?_⟩
  try dsimp only
  repeat' (first
    | with_reducible exact Only.refl _ _
    | with_reducible assumption
    | decide
    | (with_reducible
        first
          | apply Only.app (coreBundle_only ..))
    | split
    | dsimp only)

theorem execMova_only (c : Fin 8) (an : Fin 4) (da : Fin 16) (mv : Moves) (s : State) :
    ∃ s', execMova c an da mv s = .next s' ∧ Only 91209210 s s' := by
  refine ⟨_, rfl, ?_⟩
  try dsimp only
  repeat' (first
    | with_reducible exact Only.refl _ _
    | with_reducible assumption
    | decide
    | (with_reducible
        first
          | apply Only.app (coreBundle_only ..))
    | split
    | dsimp only)

theorem execAdda_only (c : Fin 8) (an am : Fin 4) (mv : Moves) (s : State) :
    ∃ s', execAdda c an am mv s = .next s' ∧ Only 91209210 s s' := by
  refine ⟨_, rfl, ?_⟩
  try dsimp only
  repeat' (first
    | with_reducible exact Only.refl _ _
    | with_reducible assumption
    | decide
    | (with_reducible
        first
          | apply Only.app (coreBundle_only ..))
    | split
    | dsimp only)

theorem execSuba_only (c : Fin 8) (an am : Fin 4) (mv : Moves) (s : State) :
    ∃ s', execSuba c an am mv s = .next s' ∧ Only 91209210 s s' := by
  refine ⟨_, rfl, ?_⟩
  try dsimp only
  repeat' (first
    | with_reducible exact Only.refl _ _
    | with_reducible assumption
    | decide
    | (with_reducible
        first
          | apply Only.app (coreBundle_only ..))
    | split
    | dsimp only)

theorem execShra_only (c : Fin 8) (an : Fin 4) (sb : Fin 16) (md : BitVec 8) (mv : Moves) (s : State) :
    ∃ s', execShra c an sb md mv s = .next s' ∧ Only 91209210 s s' := by
  refine ⟨_, rfl, ?_⟩
  try dsimp only
  repeat' (first
    | with_reducible exact Only.refl _ _
    | with_reducible assumption
    | decide
    | (with_reducible
        first
          | apply Only.app (coreBundle_only ..))
    | split
    | dsimp only)

theorem execShla_only (c : Fin 8) (an : Fin 4) (sb : Fin 16) (md : BitVec 8) (mv : Moves) (s : State) :
    ∃ s', execShla c an sb md mv s = .next s' ∧ Only 91209210 s s' := by
  refine ⟨_, rfl, ?_⟩
  try dsimp only
  repeat' (first
    | with_reducible exact Only.refl _ _
    | with_reducible assumption
    | decide
    | (with_reducible
        first
          | apply Only.app (coreBundle_only ..))
    | split
    | dsimp only)

theorem execMovd_only (c : Fin 8) (dd : Fin 16) (an : Fin 4) (mv : Moves) (s : State) :
    ∃ s', execMovd c dd an mv s = .next s' ∧ Only 91209210 s s' := by
  refine ⟨_, rfl, ?_⟩
  try dsimp only
  repeat' (first
    | with_reducible exact Only.refl _ _
    | with_reducible assumption
    | decide
    | (with_reducible
        first
          | apply Only.app (coreBundle_only ..))
    | split
    | dsimp only)

theorem execMovdl_only (c : Fin 8) (dd : Fin 16) (an : Fin 4) (mv : Moves) (s : State) :
    ∃ s', execMovdl c dd an mv s = .next s' ∧ Only 91209210 s s' := by
  refine ⟨_, rfl, ?_⟩
  try dsimp only
  repeat' (first
    | with_reducible exact Only.refl _ _
    | with_reducible assumption
    | decide
    | (with_reducible
        first
          | apply Only.app (coreBundle_only ..))
    | split
    | dsimp only)

theorem execMovdi_only (c : Fin 8) (dd : Fin 16) (an : Fin 4) (mv : Moves) (s : State) :
    ∃ s', execMovdi c dd an mv s = .next s' ∧ Only 91209210 s s' := by
  refine ⟨_, rfl, ?_⟩
  try dsimp only
  repeat' (first
    | with_reducible exact Only.refl _ _
    | with_reducible assumption
    | decide
    | (with_reducible
        first
          | apply Only.app (coreBundle_only ..))
    | split
    | dsimp only)

theorem execAdd_only (c : Fin 8) (dd da db : Fin 16) (mv : Moves) (s : State) :
    ∃ s', execAdd c dd da db mv s = .next s' ∧ Only 91209210 s s' := by
  refine ⟨_, rfl, ?_⟩
  try dsimp only
  repeat' (first
    | with_reducible exact Only.refl _ _
    | with_reducible assumption
    | decide
    | (with_reducible
        first
          | apply Only.app (coreBundle_only ..))
    | split
    | dsimp only)

theorem execSub_only (c : Fin 8) (dd da db : Fin 16) (mv : Moves) (s : State) :
    ∃ s', execSub c dd da db mv s = .next s' ∧ Only 91209210 s s' := by
  refine ⟨_, rfl, ?_⟩
  try dsimp only
  repeat' (first
    | with_reducible exact Only.refl _ _
    | with_reducible assumption
    | decide
    | (with_reducible
        first
          | apply Only.app (coreBundle_only ..))
    | split
    | dsimp only)

theorem execScAnd_only (c : Fin 8) (dd da db : Fin 16) (mv : Moves) (s : State) :
    ∃ s', execScAnd c dd da db mv s = .next s' ∧ Only 91209210 s s' := by
  refine ⟨_, rfl, ?_⟩
  try dsimp only
  repeat' (first
    | with_reducible exact Only.refl _ _
    | with_reducible assumption
    | decide
    | (with_reducible
        first
          | apply Only.app (coreBundle_only ..))
    | split
    | dsimp only)

theorem execScOr_only (c : Fin 8) (dd da db : Fin 16) (mv : Moves) (s : State) :
    ∃ s', execScOr c dd da db mv s = .next s' ∧ Only 91209210 s s' := by
  refine ⟨_, rfl, ?_⟩
  try dsimp only
  repeat' (first
    | with_reducible exact Only.refl _ _
    | with_reducible assumption
    | decide
    | (with_reducible
        first
          | apply Only.app (coreBundle_only ..))
    | split
    | dsimp only)

theorem execXor_only (c : Fin 8) (dd da db : Fin 16) (mv : Moves) (s : State) :
    ∃ s', execXor c dd da db mv s = .next s' ∧ Only 91209210 s s' := by
  refine ⟨_, rfl, ?_⟩
  try dsimp only
  repeat' (first
    | with_reducible exact Only.refl _ _
    | with_reducible assumption
    | decide
    | (with_reducible
        first
          | apply Only.app (coreBundle_only ..))
    | split
    | dsimp only)

theorem execShl_only (c : Fin 8) (dd da sb : Fin 16) (md : BitVec 8) (mv : Moves) (s : State) :
    ∃ s', execShl c dd da sb md mv s = .next s' ∧ Only 91209210 s s' := by
  refine ⟨_, rfl, ?_⟩
  try dsimp only
  repeat' (first
    | with_reducible exact Only.refl _ _
    | with_reducible assumption
    | decide
    | (with_reducible
        first
          | apply Only.app (coreBundle_only ..))
    | split
    | dsimp only)

theorem execShr_only (c : Fin 8) (dd da sb : Fin 16) (md : BitVec 8) (mv : Moves) (s : State) :
    ∃ s', execShr c dd da sb md mv s = .next s' ∧ Only 91209210 s s' := by
  refine ⟨_, rfl, ?_⟩
  try dsimp only
  repeat' (first
    | with_reducible exact Only.refl _ _
    | with_reducible assumption
    | decide
    | (with_reducible
        first
          | apply Only.app (coreBundle_only ..))
    | split
    | dsimp only)

theorem execSar_only (c : Fin 8) (dd da sb : Fin 16) (md : BitVec 8) (mv : Moves) (s : State) :
    ∃ s', execSar c dd da sb md mv s = .next s' ∧ Only 91209210 s s' := by
  refine ⟨_, rfl, ?_⟩
  try dsimp only
  repeat' (first
    | with_reducible exact Only.refl _ _
    | with_reducible assumption
    | decide
    | (with_reducible
        first
          | apply Only.app (coreBundle_only ..))
    | split
    | dsimp only)

theorem execCmp_only (c : Fin 8) (da db : Fin 16) (mv : Moves) (s : State) :
    ∃ s', execCmp c da db mv s = .next s' ∧ Only 91209210 s s' := by
  refine ⟨_, rfl, ?_⟩
  try dsimp only
  repeat' (first
    | with_reducible exact Only.refl _ _
    | with_reducible assumption
    | decide
    | (with_reducible
        first
          | apply Only.app (coreBundle_only ..))
    | split
    | dsimp only)

theorem execMov_only (c : Fin 8) (dd da : Fin 16) (mv : Moves) (s : State) :
    ∃ s', execMov c dd da mv s = .next s' ∧ Only 91209210 s s' := by
  refine ⟨_, rfl, ?_⟩
  try dsimp only
  repeat' (first
    | with_reducible exact Only.refl _ _
    | with_reducible assumption
    | decide
    | (with_reducible
        first
          | apply Only.app (coreBundle_only ..))
    | split
    | dsimp only)

theorem execAdds2_only (c : Fin 8) (dd da db : Fin 16) (mv : Moves) (s : State) :
    ∃ s', execAdds2 c dd da db mv s = .next s' ∧ Only 91209210 s s' := by
  refine ⟨_, rfl, ?_⟩
  try dsimp only
  repeat' (first
    | with_reducible exact Only.refl _ _
    | with_reducible assumption
    | decide
    | (with_reducible
        first
          | apply Only.app (coreBundle_only ..))
    | split
    | dsimp only)

theorem execSubs2_only (c : Fin 8) (dd da db : Fin 16) (mv : Moves) (s : State) :
    ∃ s', execSubs2 c dd da db mv s = .next s' ∧ Only 91209210 s s' := by
  refine ⟨_, rfl, ?_⟩
  try dsimp only
  repeat' (first
    | with_reducible exact Only.refl _ _
    | with_reducible assumption
    | decide
    | (with_reducible
        first
          | apply Only.app (coreBundle_only ..))
    | split
    | dsimp only)

theorem execNeg2_only (c : Fin 8) (dd da : Fin 16) (mv : Moves) (s : State) :
    ∃ s', execNeg2 c dd da mv s = .next s' ∧ Only 91209210 s s' := by
  refine ⟨_, rfl, ?_⟩
  try dsimp only
  repeat' (first
    | with_reducible exact Only.refl _ _
    | with_reducible assumption
    | decide
    | (with_reducible
        first
          | apply Only.app (coreBundle_only ..))
    | split
    | dsimp only)

theorem execConj_only (c : Fin 8) (dd da : Fin 16) (mv : Moves) (s : State) :
    ∃ s', execConj c dd da mv s = .next s' ∧ Only 91209210 s s' := by
  refine ⟨_, rfl, ?_⟩
  try dsimp only
  repeat' (first
    | with_reducible exact Only.refl _ _
    | with_reducible assumption
    | decide
    | (with_reducible
        first
          | apply Only.app (coreBundle_only ..))
    | split
    | dsimp only)

theorem execSwap_only (c : Fin 8) (dd da : Fin 16) (mv : Moves) (s : State) :
    ∃ s', execSwap c dd da mv s = .next s' ∧ Only 91209210 s s' := by
  refine ⟨_, rfl, ?_⟩
  try dsimp only
  repeat' (first
    | with_reducible exact Only.refl _ _
    | with_reducible assumption
    | decide
    | (with_reducible
        first
          | apply Only.app (coreBundle_only ..))
    | split
    | dsimp only)

theorem execAbs2_only (c : Fin 8) (dd da : Fin 16) (mv : Moves) (s : State) :
    ∃ s', execAbs2 c dd da mv s = .next s' ∧ Only 91209210 s s' := by
  refine ⟨_, rfl, ?_⟩
  try dsimp only
  repeat' (first
    | with_reducible exact Only.refl _ _
    | with_reducible assumption
    | decide
    | (with_reducible
        first
          | apply Only.app (coreBundle_only ..))
    | split
    | dsimp only)

theorem execMuli_only (c : Fin 8) (dd da db : Fin 16) (mv : Moves) (s : State) :
    ∃ s', execMuli c dd da db mv s = .next s' ∧ Only 91209210 s s' := by
  refine ⟨_, rfl, ?_⟩
  try dsimp only
  repeat' (first
    | with_reducible exact Only.refl _ _
    | with_reducible assumption
    | decide
    | (with_reducible
        first
          | apply Only.app (coreBundle_only ..))
    | split
    | dsimp only)

theorem execMaxi_only (c : Fin 8) (dd da : Fin 16) (abs : Bool) (mv : Moves) (s : State) :
    ∃ s', execMaxi c dd da abs mv s = .next s' ∧ Only 91209210 s s' := by
  refine ⟨_, rfl, ?_⟩
  try dsimp only
  repeat' (first
    | with_reducible exact Only.refl _ _
    | with_reducible assumption
    | decide
    | (with_reducible
        first
          | apply Only.app (coreBundle_only ..))
    | split
    | dsimp only)

theorem execMini_only (c : Fin 8) (dd da : Fin 16) (abs : Bool) (mv : Moves) (s : State) :
    ∃ s', execMini c dd da abs mv s = .next s' ∧ Only 91209210 s s' := by
  refine ⟨_, rfl, ?_⟩
  try dsimp only
  repeat' (first
    | with_reducible exact Only.refl _ _
    | with_reducible assumption
    | decide
    | (with_reducible
        first
          | apply Only.app (coreBundle_only ..))
    | split
    | dsimp only)

theorem execNop_only (c : Fin 8) (ctl : Bool) (mv : Moves) (s : State) :
    ∃ s', execNop c ctl mv s = .next s' ∧ Only 91209210 s s' := by
  refine ⟨_, rfl, ?_⟩
  try dsimp only
  repeat' (first
    | with_reducible exact Only.refl _ _
    | with_reducible assumption
    | decide
    | (with_reducible
        first
          | refine Only.ite ?_ ?_ | refine Only.ite_snd ?_ ?_ | refine Only.ite_fst ?_ ?_
          | apply Only.app (coreBundle_only ..))
    | split
    | dsimp only)

theorem execLd_only (c : Fin 8) (y : Bool) (m : MoveSlot) (s : State) :
    ∃ s', execLd c y m s = .next s' ∧ Only 91209210 s s' := by
  refine ⟨_, rfl, ?_⟩
  try dsimp only
  repeat' (first
    | with_reducible exact Only.refl _ _
    | with_reducible assumption
    | decide
    | (with_reducible
        first
          | apply Only.app (coreBundle_only ..))
    | split
    | dsimp only)

theorem execLdh_only (c : Fin 8) (y : Bool) (m : MoveSlot) (s : State) :
    ∃ s', execLdh c y m s = .next s' ∧ Only 91209210 s s' := by
  refine ⟨_, rfl, ?_⟩
  try dsimp only
  repeat' (first
    | with_reducible exact Only.refl _ _
    | with_reducible assumption
    | decide
    | (with_reducible
        first
          | apply Only.app (coreBundle_only ..))
    | split
    | dsimp only)

theorem execSt_only (c : Fin 8) (m : MoveSlot) (s : State) :
    ∃ s', execSt c m s = .next s' ∧ Only 91209210 s s' := by
  refine ⟨_, rfl, ?_⟩
  try dsimp only
  repeat' (first
    | with_reducible exact Only.refl _ _
    | with_reducible assumption
    | decide
    | (with_reducible
        first
          | apply Only.app (coreBundle_only ..))
    | split
    | dsimp only)

theorem execSta_only (c : Fin 8) (m : MoveSlot) (s : State) :
    ∃ s', execSta c m s = .next s' ∧ Only 91209210 s s' := by
  refine ⟨_, rfl, ?_⟩
  try dsimp only
  repeat' (first
    | with_reducible exact Only.refl _ _
    | with_reducible assumption
    | decide
    | (with_reducible
        first
          | apply Only.app (coreBundle_only ..))
    | split
    | dsimp only)

theorem execStl_only (c : Fin 8) (m : MoveSlot) (s : State) :
    ∃ s', execStl c m s = .next s' ∧ Only 91209210 s s' := by
  refine ⟨_, rfl, ?_⟩
  try dsimp only
  repeat' (first
    | with_reducible exact Only.refl _ _
    | with_reducible assumption
    | decide
    | (with_reducible
        first
          | apply Only.app (coreBundle_only ..))
    | split
    | dsimp only)

theorem execBr_only (c : Fin 8) (cond : Fin 16) (ofs : BitVec 24) (s : State) :
    ∃ s', execBr c cond ofs s = .next s' ∧ Only 91209210 s s' := by
  refine ⟨_, rfl, ?_⟩
  try dsimp only
  repeat' (first
    | with_reducible exact Only.refl _ _
    | with_reducible assumption
    | decide
    | (with_reducible
        first
          | apply Only.app (coreBundle_only ..))
    | split
    | dsimp only)

theorem execBrd_only (c : Fin 8) (cond dd : Fin 16) (s : State) :
    ∃ s', execBrd c cond dd s = .next s' ∧ Only 91209210 s s' := by
  refine ⟨_, rfl, ?_⟩
  try dsimp only
  repeat' (first
    | with_reducible exact Only.refl _ _
    | with_reducible assumption
    | decide
    | (with_reducible
        first
          | apply Only.app (coreBundle_only ..))
    | split
    | dsimp only)

theorem execCall_only (c : Fin 8) (ofs : BitVec 24) (s : State) :
    ∃ s', execCall c ofs s = .next s' ∧ Only 91209210 s s' := by
  refine ⟨_, rfl, ?_⟩
  try dsimp only
  repeat' (first
    | with_reducible exact Only.refl _ _
    | with_reducible assumption
    | decide
    | (with_reducible
        first
          | apply Only.app (coreBundle_only ..))
    | split
    | dsimp only)

theorem execRet_only (c : Fin 8) (s : State) :
    ∃ s', execRet c s = .next s' ∧ Only 91209210 s s' := by
  refine ⟨_, rfl, ?_⟩
  try dsimp only
  repeat' (first
    | with_reducible exact Only.refl _ _
    | with_reducible assumption
    | decide
    | (with_reducible
        first
          | apply Only.app (coreBundle_only ..))
    | split
    | dsimp only)

theorem execReti_only (c : Fin 8) (s : State) :
    ∃ s', execReti c s = .next s' ∧ Only 91209210 s s' := by
  refine ⟨_, rfl, ?_⟩
  try dsimp only
  repeat' (first
    | with_reducible exact Only.refl _ _
    | with_reducible assumption
    | decide
    | (with_reducible
        first
          | apply Only.app (coreBundle_only ..))
    | split
    | dsimp only)

theorem execRets_only (c : Fin 8) (s : State) :
    ∃ s', execRets c s = .next s' ∧ Only 91209210 s s' := by
  refine ⟨_, rfl, ?_⟩
  try dsimp only
  repeat' (first
    | with_reducible exact Only.refl _ _
    | with_reducible assumption
    | decide
    | (with_reducible
        first
          | apply Only.app (coreBundle_only ..))
    | split
    | dsimp only)

theorem execRep_only (c : Fin 8) (yld reg : Bool) (count : BitVec 24) (lenM1 : BitVec 16) (s : State) :
    ∃ s', execRep c yld reg count lenM1 s = .next s' ∧ Only 91209210 s s' := by
  refine ⟨_, rfl, ?_⟩
  try dsimp only
  repeat' (first
    | with_reducible exact Only.refl _ _
    | with_reducible assumption
    | decide
    | (with_reducible
        first
          | apply Only.app (coreBundle_only ..))
    | split
    | dsimp only)

theorem execLdi_only (c : Fin 8) (dd : Fin 16) (part : Fin 4) (imm : BitVec 32) (s : State) :
    ∃ s', execLdi c dd part imm s = .next s' ∧ Only 91209210 s s' := by
  refine ⟨_, rfl, ?_⟩
  try dsimp only
  repeat' (first
    | with_reducible exact Only.refl _ _
    | with_reducible assumption
    | decide
    | (with_reducible
        first
          | apply Only.app (coreBundle_only ..))
    | split
    | dsimp only)

theorem execMovar_only (c : Fin 8) (fromSpecial : Bool) (dd : Fin 16) (code : Fin 64) (s : State) :
    ∃ s', execMovar c fromSpecial dd code s = .next s' ∧ Only 91209210 s s' := by
  refine ⟨_, rfl, ?_⟩
  try dsimp only
  repeat' (first
    | with_reducible exact Only.refl _ _
    | with_reducible assumption
    | decide
    | (with_reducible
        first
          | apply Only.app (coreBundle_only ..))
    | split
    | dsimp only)

theorem execWait_only (c : Fin 8) (s : State) :
    ∃ s', execWait c s = .next s' ∧ Only 91209210 s s' := by
  refine ⟨_, rfl, ?_⟩
  try dsimp only
  repeat' (first
    | with_reducible exact Only.refl _ _
    | with_reducible assumption
    | decide
    | (with_reducible
        first
          | apply Only.app (coreBundle_only ..))
    | split
    | dsimp only)

theorem execHalt_only (c : Fin 8) (s : State) :
    ∃ s', execHalt c s = .next s' ∧ Only 91209210 s s' := by
  refine ⟨_, rfl, ?_⟩
  try dsimp only
  repeat' (first
    | with_reducible exact Only.refl _ _
    | with_reducible assumption
    | decide
    | (with_reducible
        first
          | apply Only.app (coreBundle_only ..))
    | split
    | dsimp only)

theorem execTrap_only (c : Fin 8) (num : BitVec 8) (s : State) :
    ∃ s', execTrap c num s = .next s' ∧ Only 91209210 s s' := by
  refine ⟨_, rfl, ?_⟩
  try dsimp only
  repeat' (first
    | with_reducible exact Only.refl _ _
    | with_reducible assumption
    | decide
    | (with_reducible
        first
          | apply Only.app (coreBundle_only ..))
    | split
    | dsimp only)

theorem execSync_only (c : Fin 8) (s : State) :
    ∃ s', execSync c s = .next s' ∧ Only 91209210 s s' := by
  refine ⟨_, rfl, ?_⟩
  try dsimp only
  repeat' (first
    | with_reducible exact Only.refl _ _
    | with_reducible assumption
    | decide
    | (with_reducible
        first
          | apply Only.app (coreBundle_only ..))
    | split
    | dsimp only)

theorem execIcinv_only (c : Fin 8) (s : State) :
    ∃ s', execIcinv c s = .next s' ∧ Only 91209210 s s' := by
  refine ⟨_, rfl, ?_⟩
  try dsimp only
  repeat' (first
    | with_reducible exact Only.refl _ _
    | with_reducible assumption
    | decide
    | (with_reducible
        first
          | apply Only.app (coreBundle_only ..))
    | split
    | dsimp only)

theorem execBusAbort_only (c : Fin 8) (s : State) :
    ∃ s', execBusAbort c s = .next s' ∧ Only 67109120 s s' := by
  refine ⟨_, rfl, ?_⟩
  try dsimp only
  repeat' (first
    | with_reducible exact Only.refl _ _
    | with_reducible assumption
    | decide
    | (with_reducible
        first
          | apply Only.app (postedAbort_only ..))
    | split
    | dsimp only)

theorem execCoreFabricRetry_only (c : Fin 8) (s : State) :
    ∃ s', execCoreFabricRetry c s = .next s' ∧ Only 91209210 s s' := by
  refine ⟨_, rfl, ?_⟩
  try dsimp only
  repeat' (first
    | with_reducible exact Only.refl _ _
    | with_reducible assumption
    | decide
    | (with_reducible
        first
          | apply Only.app (resumeStall_only ..) | apply Only.app (settleSteps_only ..))
    | split
    | dsimp only)

theorem execFastInterruptEntry_only (c : Fin 8) (s : State) :
    ∃ s', execFastInterruptEntry c s = .next s' ∧ Only 67109120 s s' := by
  refine ⟨_, rfl, ?_⟩
  try dsimp only
  repeat' (first
    | with_reducible exact Only.refl _ _
    | with_reducible assumption
    | decide
    | (with_reducible
        first
          | apply Only.app (fastAtBoundary_only ..))
    | split
    | dsimp only)

theorem execHeldInterruptEntry_only (c : Fin 8) (s : State) :
    ∃ s', execHeldInterruptEntry c s = .next s' ∧ Only 73400592 s s' := by
  refine ⟨_, rfl, ?_⟩
  try dsimp only
  repeat' (first
    | with_reducible exact Only.refl _ _
    | with_reducible assumption
    | decide
    | (with_reducible
        first
          | apply Only.app (heldAtBoundary_only ..))
    | split
    | dsimp only)

theorem execHoldOverrun_only (c : Fin 8) (s : State) :
    ∃ s', execHoldOverrun c s = .next s' ∧ Only 67109120 s s' := by
  refine ⟨_, rfl, ?_⟩
  try dsimp only
  repeat' (first
    | with_reducible exact Only.refl _ _
    | with_reducible assumption
    | decide
    | (with_reducible
        first
          | apply Only.app (modCore_only ..))
    | split
    | dsimp only)

theorem execWaitWake_only (c : Fin 8) (s : State) :
    ∃ s', execWaitWake c s = .next s' ∧ Only 73400592 s s' := by
  refine ⟨_, rfl, ?_⟩
  try dsimp only
  repeat' (first
    | with_reducible exact Only.refl _ _
    | with_reducible assumption
    | decide
    | (with_reducible
        first
          | apply Only.app (waitWake_only ..))
    | split
    | dsimp only)

theorem execBreakpointMatch_only (c : Fin 8) (s : State) :
    ∃ s', execBreakpointMatch c s = .next s' ∧ Only 67109120 s s' := by
  refine ⟨_, rfl, ?_⟩
  try dsimp only
  repeat' (first
    | with_reducible exact Only.refl _ _
    | with_reducible assumption
    | decide
    | (with_reducible
        first
          | apply Only.app (bkptAtBoundary_only ..))
    | split
    | dsimp only)

theorem execScIrqRaise_only (c : Fin 8) (w : Word) (s : State) :
    ∃ s', execScIrqRaise c w s = .next s' ∧ Only 99597818 s s' := by
  refine ⟨_, rfl, ?_⟩
  try dsimp only
  repeat' (first
    | with_reducible exact Only.refl _ _
    | with_reducible assumption
    | decide
    | (with_reducible
        first
          | apply Only.app (coreRegVia_only ..))
    | split
    | dsimp only)

theorem execScCtlHalt_only (c : Fin 8) (key : BitVec 8) (s : State) :
    ∃ s', execScCtlHalt c key s = .next s' ∧ Only 99597818 s s' := by
  refine ⟨_, rfl, ?_⟩
  try dsimp only
  repeat' (first
    | with_reducible exact Only.refl _ _
    | with_reducible assumption
    | decide
    | (with_reducible
        first
          | apply Only.app (ctlVia_only ..))
    | split
    | dsimp only)

theorem execScCtlRun_only (c : Fin 8) (key : BitVec 8) (s : State) :
    ∃ s', execScCtlRun c key s = .next s' ∧ Only 99597818 s s' := by
  refine ⟨_, rfl, ?_⟩
  try dsimp only
  repeat' (first
    | with_reducible exact Only.refl _ _
    | with_reducible assumption
    | decide
    | (with_reducible
        first
          | apply Only.app (ctlVia_only ..))
    | split
    | dsimp only)

theorem execScCtlStep_only (c : Fin 8) (key : BitVec 8) (s : State) :
    ∃ s', execScCtlStep c key s = .next s' ∧ Only 99597818 s s' := by
  refine ⟨_, rfl, ?_⟩
  try dsimp only
  repeat' (first
    | with_reducible exact Only.refl _ _
    | with_reducible assumption
    | decide
    | (with_reducible
        first
          | apply Only.app (ctlVia_only ..))
    | split
    | dsimp only)

theorem execScCtlRestart_only (c : Fin 8) (key : BitVec 8) (s : State) :
    ∃ s', execScCtlRestart c key s = .next s' ∧ Only 99597818 s s' := by
  refine ⟨_, rfl, ?_⟩
  try dsimp only
  repeat' (first
    | with_reducible exact Only.refl _ _
    | with_reducible assumption
    | decide
    | (with_reducible
        first
          | apply Only.app (ctlVia_only ..))
    | split
    | dsimp only)

theorem execScDbgDataAccess_only (c : Fin 8) (w : Option Word) (s : State) :
    ∃ s', execScDbgDataAccess c w s = .next s' ∧ Only 99597818 s s' := by
  refine ⟨_, rfl, ?_⟩
  try dsimp only
  repeat' (first
    | with_reducible exact Only.refl _ _
    | with_reducible assumption
    | decide
    | (with_reducible
        first
          | apply Only.app (dbgVia_only ..))
    | split
    | dsimp only)

theorem execScWdogService_only (c : Fin 8) (w : Word) (s : State) :
    ∃ s', execScWdogService c w s = .next s' ∧ Only 99597818 s s' := by
  refine ⟨_, rfl, ?_⟩
  try dsimp only
  repeat' (first
    | with_reducible exact Only.refl _ _
    | with_reducible assumption
    | decide
    | (with_reducible
        first
          | apply Only.app (coreRegVia_only ..))
    | split
    | dsimp only)

theorem execFabricRead_only (init : Initiator) (addr : BitVec 40) (ecc : EccEvent) (s : State) :
    ∃ s', execFabricRead init addr ecc s = .next s' ∧ Only 80184728 s s' := by
  refine ⟨_, rfl, ?_⟩
  try dsimp only
  repeat' (first
    | with_reducible exact Only.refl _ _
    | with_reducible assumption
    | decide
    | (with_reducible
        first
          | apply Only.app (fabReadCmd_only ..))
    | split
    | dsimp only)

theorem execFabricWrite_only (init : Initiator) (addr : BitVec 40) (strobe : BitVec 8) (data : Word) (s : State) :
    ∃ s', execFabricWrite init addr strobe data s = .next s' ∧ Only 99597818 s s' := by
  refine ⟨_, rfl, ?_⟩
  try dsimp only
  repeat' (first
    | with_reducible exact Only.refl _ _
    | with_reducible assumption
    | decide
    | (with_reducible
        first
          | apply Only.app (fabWriteCmd_only ..))
    | split
    | dsimp only)

end Sys2Proof.Machine
end

