-- ==== Sys2Proof/Laws/Exec.lean ====
section
/-! SUPPORT. What holds of every command: it answers a next state, leaves the queue of commands alone and keeps memory
canonical; and how a frame follows from the law `Only` of an operation. -/
set_option linter.all false
set_option Elab.async false
namespace Sys2Proof.Machine
open Sys2Proof

/-- The bit of `Only`'s mask that stands for a part. -/
def Part.bit (p : Part) : Nat :=
  match p with
  | .islRest => 24 | .hostRest => 25 | .coresRest => 26
  | .time => 0 | .mode => 1 | .clock => 2 | .isl => 3 | .host => 4 | .log => 5 | .consent => 6 | .arc => 7 | .cores => 8
  | .meter => 9 | .ldg => 10 | .lift => 11 | .motion => 12 | .door => 13 | .kerb => 14 | .bs => 15 | .fc => 16 | .pwm => 17
  | .blv => 18 | .link => 19 | .pkg => 20 | .mem => 21 | .ecc => 22 | .reply => 23

theorem Only.same {k : Nat} {s t : State} (h : Only k s t) (p : Part) (hp : k.testBit p.bit = false) : p.Same s t := by
  cases p
  · exact h.islR hp
  · exact h.hostR hp
  · exact h.coresR hp
  · exact h.time hp
  · exact h.mode hp
  · exact h.clock hp
  · exact h.isl hp
  · exact h.host hp
  · exact h.log hp
  · exact h.consent hp
  · exact h.arc hp
  · exact h.cores hp
  · exact h.meter hp
  · exact h.ldg hp
  · exact h.lift hp
  · exact h.motion hp
  · exact h.door hp
  · exact h.kerb hp
  · exact h.bs hp
  · exact h.fc hp
  · exact h.pwm hp
  · exact h.blv hp
  · exact h.link hp
  · exact h.pkg hp
  · exact h.mem hp
  · exact h.ecc hp
  · exact h.reply hp

/-- A frame from the law of an operation: every part whose bit is set must be listed. -/
theorem Only.everythingBut {k : Nat} {s t : State} (h : Only k s t) (ps : List Part)
    (hp : ∀ p : Part, p ∉ ps → k.testBit p.bit = false := by intro p; cases p <;> decide) : EverythingBut ps s t :=
  ⟨h.pending, fun p hn => h.same p (hp p hn)⟩

theorem EverythingBut.refl (ps : List Part) (s : State) : EverythingBut ps s s :=
  (Only.refl 0 s).everythingBut ps (by intro p _; exact Nat.zero_testBit p.bit)

theorem Only.step_of {k : Nat} {o : Host.Outcome State Fault Refusal} {s : State}
    (h : ∃ t, o = .next t ∧ Only k s t) (hk : k ||| 134217727 = 134217727) :
    ∃ t, o = .next t ∧ Only 134217727 s t := by
  obtain ⟨t, h1, h2⟩ := h
  exact ⟨t, h1, h2.mono hk⟩

/-- Every command answers a next state with the same queue and, if memory was canonical, canonical memory. -/
theorem exec_keeps (c : Instr) (s : State) : ∃ t, exec c s = .next t ∧ Only 134217727 s t := by
  cases c with
  | modeRequest src key target => exact Only.step_of (execModeRequest_only src key target s) rfl
  | modeReqCancel src key => exact Only.step_of (execModeReqCancel_only src key s) rfl
  | wakeEvent k => exact Only.step_of (execWakeEvent_only k s) rfl
  | recallTrigger src => exact Only.step_of (execRecallTrigger_only src s) rfl
  | safestopCause c => exact Only.step_of (execSafestopCause_only c s) rfl
  | deferredRequestEntry => exact Only.step_of (execDeferredRequestEntry_only s) rfl
  | deferredRequestTimeout => exact Only.step_of (execDeferredRequestTimeout_only s) rfl
  | scheduleNightStart => exact Only.step_of (execScheduleNightStart_only s) rfl
  | scheduleNightEnd => exact Only.step_of (execScheduleNightEnd_only s) rfl
  | powerOnReset => exact Only.step_of (execPowerOnReset_only s) rfl
  | resetN => exact Only.step_of (execResetN_only s) rfl
  | supplyLoss => exact Only.step_of (execSupplyLoss_only s) rfl
  | bringupStepComplete x => exact Only.step_of (execBringupStepComplete_only x s) rfl
  | wakeAfterDormantEntry => exact Only.step_of (execWakeAfterDormantEntry_only s) rfl
  | wakeNEdge pin => exact Only.step_of (execWakeNEdge_only pin s) rfl
  | rtcTimeWrite w => exact Only.step_of (execRtcTimeWrite_only w s) rfl
  | rtcMinuteSync => exact Only.step_of (execRtcMinuteSync_only s) rfl
  | targetMhzWrite mhz => exact Only.step_of (execTargetMhzWrite_only mhz s) rfl
  | familyWrite family => exact Only.step_of (execFamilyWrite_only family s) rfl
  | pllLock p => exact Only.step_of (execPllLock_only p s) rfl
  | relockStairStep p => exact Only.step_of (execRelockStairStep_only p s) rfl
  | monTrip p => exact Only.step_of (execMonTrip_only p s) rfl
  | lockLoss p => exact Only.step_of (execLockLoss_only p s) rfl
  | lockSearchTimeout p => exact Only.step_of (execLockSearchTimeout_only p s) rfl
  | aonDutyTick => exact Only.step_of (execAonDutyTick_only s) rfl
  | fenceDrainTimeout island => exact Only.step_of (execFenceDrainTimeout_only island s) rfl
  | fenceRelease island => exact Only.step_of (execFenceRelease_only island s) rfl
  | fabricTimeout initiator target => exact Only.step_of (execFabricTimeout_only initiator target s) rfl
  | islCtlRestart key islands => exact Only.step_of (execIslCtlRestart_only key islands s) rfl
  | islCtlHold key islands => exact Only.step_of (execIslCtlHold_only key islands s) rfl
  | islCtlRelease key islands => exact Only.step_of (execIslCtlRelease_only key islands s) rfl
  | islandFault island => exact Only.step_of (execIslandFault_only island s) rfl
  | refclkLoss => exact Only.step_of (execRefclkLoss_only s) rfl
  | refclkRelock => exact Only.step_of (execRefclkRelock_only s) rfl
  | islandWatchdogExpiry island => exact Only.step_of (execIslandWatchdogExpiry_only island s) rfl
  | aonWatchdogExpiry => exact Only.step_of (execAonWatchdogExpiry_only s) rfl
  | scWdogService c w => exact Only.step_of (execScWdogService_only c w s) rfl
  | read p addr crc committed copyBad => exact Only.step_of (execRead_only p addr crc committed copyBad s) rfl
  | readBurst p addr crc words copyBad => exact Only.step_of (execReadBurst_only p addr crc words copyBad s) rfl
  | readRepeat p addr crc words copyBad => exact Only.step_of (execReadRepeat_only p addr crc words copyBad s) rfl
  | write p keys addr data crc => exact Only.step_of (execWrite_only p keys addr data crc s) rfl
  | writeBurst p keys addr words => exact Only.step_of (execWriteBurst_only p keys addr words s) rfl
  | writeRepeat p keys addr words => exact Only.step_of (execWriteRepeat_only p keys addr words s) rfl
  | unlistedOpcode p opcode addr crc => exact Only.step_of (execUnlistedOpcode_only p opcode addr crc s) rfl
  | frameTruncated p => exact Only.step_of (execFrameTruncated_only p s) rfl
  | hpCfgWrite p w => exact Only.step_of (execHpCfgWrite_only p w s) rfl
  | winAddrWrite n w => exact Only.step_of (execWinAddrWrite_only n w s) rfl
  | winDataRead n committed => exact Only.step_of (execWinDataRead_only n committed s) rfl
  | winDataWrite n w => exact Only.step_of (execWinDataWrite_only n w s) rfl
  | winPrefetchComplete n => exact Only.step_of (execWinPrefetchComplete_only n s) rfl
  | winPostedWriteComplete n => exact Only.step_of (execWinPostedWriteComplete_only n s) rfl
  | winRetryReissue n => exact Only.step_of (execWinRetryReissue_only n s) rfl
  | winRequestTimeout n => exact Only.step_of (execWinRequestTimeout_only n s) rfl
  | registerWrite p off w => exact Only.step_of (execRegisterWrite_only p off w s) rfl
  | consentPropose ch w => exact Only.step_of (execConsentPropose_only ch w s) rfl
  | consentWithdraw ch w => exact Only.step_of (execConsentWithdraw_only ch w s) rfl
  | hashingComplete scope => exact Only.step_of (execHashingComplete_only scope s) rfl
  | consentConfirm ch tag => exact Only.step_of (execConsentConfirm_only ch tag s) rfl
  | consentWindowExpiry scope => exact Only.step_of (execConsentWindowExpiry_only scope s) rfl
  | commitPoint scope flashOk => exact Only.step_of (execCommitPoint_only scope flashOk s) rfl
  | reserve q => exact Only.step_of (execReserve_only q s) rfl
  | publish q n => exact Only.step_of (execPublish_only q n s) rfl
  | enqueue q w => exact Only.step_of (execEnqueue_only q w s) rfl
  | dequeue q => exact Only.step_of (execDequeue_only q s) rfl
  | ack q n => exact Only.step_of (execAck_only q n s) rfl
  | arm q cons prod => exact Only.step_of (execArm_only q cons prod s) rfl
  | status q => exact Only.step_of (execStatus_only q s) rfl
  | hostEnqueue => exact Only.step_of (execHostEnqueue_only s) rfl
  | hostEnqueueCopyComplete => exact Only.step_of (execHostEnqueueCopyComplete_only s) rfl
  | take arg => exact Only.step_of (execTake_only arg s) rfl
  | hostAck n => exact Only.step_of (execHostAck_only n s) rfl
  | takeAck arg => exact Only.step_of (execTakeAck_only arg s) rfl
  | armConsumer => exact Only.step_of (execArmConsumer_only s) rfl
  | armProducer => exact Only.step_of (execArmProducer_only s) rfl
  | qSelWrite w => exact Only.step_of (execQSelWrite_only w s) rfl
  | qPeekFill => exact Only.step_of (execQPeekFill_only s) rfl
  | load src => exact Only.step_of (execLoad_only src s) rfl
  | config src => exact Only.step_of (execConfig_only src s) rfl
  | reinit src => exact Only.step_of (execReinit_only src s) rfl
  | queueDisable src => exact Only.step_of (execQueueDisable_only src s) rfl
  | rewind src => exact Only.step_of (execRewind_only src s) rfl
  | clearStats src => exact Only.step_of (execClearStats_only src s) rfl
  | loadActionComplete => exact Only.step_of (execLoadActionComplete_only s) rfl
  | quarantine q => exact Only.step_of (execQuarantine_only q s) rfl
  | cmac c an da db mv => exact Only.step_of (execCmac_only c an da db mv s) rfl
  | cmsu c an da db mv => exact Only.step_of (execCmsu_only c an da db mv s) rfl
  | cmacj c an da db mv => exact Only.step_of (execCmacj_only c an da db mv s) rfl
  | cmul c an da db mv => exact Only.step_of (execCmul_only c an da db mv s) rfl
  | ftap c an da db mv => exact Only.step_of (execFtap_only c an da db mv s) rfl
  | rmac2 c an da db mv => exact Only.step_of (execRmac2_only c an da db mv s) rfl
  | rmsu2 c an da db mv => exact Only.step_of (execRmsu2_only c an da db mv s) rfl
  | rmul2 c an da db mv => exact Only.step_of (execRmul2_only c an da db mv s) rfl
  | ftapr c an da db mv => exact Only.step_of (execFtapr_only c an da db mv s) rfl
  | clra c an mv => exact Only.step_of (execClra_only c an mv s) rfl
  | mova c an da mv => exact Only.step_of (execMova_only c an da mv s) rfl
  | adda c an am mv => exact Only.step_of (execAdda_only c an am mv s) rfl
  | suba c an am mv => exact Only.step_of (execSuba_only c an am mv s) rfl
  | shra c an sb md mv => exact Only.step_of (execShra_only c an sb md mv s) rfl
  | shla c an sb md mv => exact Only.step_of (execShla_only c an sb md mv s) rfl
  | movd c dd an mv => exact Only.step_of (execMovd_only c dd an mv s) rfl
  | movdl c dd an mv => exact Only.step_of (execMovdl_only c dd an mv s) rfl
  | movdi c dd an mv => exact Only.step_of (execMovdi_only c dd an mv s) rfl
  | add c dd da db mv => exact Only.step_of (execAdd_only c dd da db mv s) rfl
  | sub c dd da db mv => exact Only.step_of (execSub_only c dd da db mv s) rfl
  | scAnd c dd da db mv => exact Only.step_of (execScAnd_only c dd da db mv s) rfl
  | scOr c dd da db mv => exact Only.step_of (execScOr_only c dd da db mv s) rfl
  | xor c dd da db mv => exact Only.step_of (execXor_only c dd da db mv s) rfl
  | shl c dd da sb md mv => exact Only.step_of (execShl_only c dd da sb md mv s) rfl
  | shr c dd da sb md mv => exact Only.step_of (execShr_only c dd da sb md mv s) rfl
  | sar c dd da sb md mv => exact Only.step_of (execSar_only c dd da sb md mv s) rfl
  | cmp c da db mv => exact Only.step_of (execCmp_only c da db mv s) rfl
  | mov c dd da mv => exact Only.step_of (execMov_only c dd da mv s) rfl
  | adds2 c dd da db mv => exact Only.step_of (execAdds2_only c dd da db mv s) rfl
  | subs2 c dd da db mv => exact Only.step_of (execSubs2_only c dd da db mv s) rfl
  | neg2 c dd da mv => exact Only.step_of (execNeg2_only c dd da mv s) rfl
  | conj c dd da mv => exact Only.step_of (execConj_only c dd da mv s) rfl
  | swap c dd da mv => exact Only.step_of (execSwap_only c dd da mv s) rfl
  | muli c dd da db mv => exact Only.step_of (execMuli_only c dd da db mv s) rfl
  | maxi c dd da abs mv => exact Only.step_of (execMaxi_only c dd da abs mv s) rfl
  | mini c dd da abs mv => exact Only.step_of (execMini_only c dd da abs mv s) rfl
  | abs2 c dd da mv => exact Only.step_of (execAbs2_only c dd da mv s) rfl
  | nop c ctl mv => exact Only.step_of (execNop_only c ctl mv s) rfl
  | ld c y m => exact Only.step_of (execLd_only c y m s) rfl
  | ldh c y m => exact Only.step_of (execLdh_only c y m s) rfl
  | st c m => exact Only.step_of (execSt_only c m s) rfl
  | sta c m => exact Only.step_of (execSta_only c m s) rfl
  | stl c m => exact Only.step_of (execStl_only c m s) rfl
  | br c cond ofs => exact Only.step_of (execBr_only c cond ofs s) rfl
  | brd c cond dd => exact Only.step_of (execBrd_only c cond dd s) rfl
  | call c ofs => exact Only.step_of (execCall_only c ofs s) rfl
  | ret c => exact Only.step_of (execRet_only c s) rfl
  | reti c => exact Only.step_of (execReti_only c s) rfl
  | rets c => exact Only.step_of (execRets_only c s) rfl
  | rep c yld reg count lenM1 => exact Only.step_of (execRep_only c yld reg count lenM1 s) rfl
  | ldi c dd part imm => exact Only.step_of (execLdi_only c dd part imm s) rfl
  | movar c fromSpecial dd code => exact Only.step_of (execMovar_only c fromSpecial dd code s) rfl
  | wait c => exact Only.step_of (execWait_only c s) rfl
  | halt c => exact Only.step_of (execHalt_only c s) rfl
  | trap c num => exact Only.step_of (execTrap_only c num s) rfl
  | sync c => exact Only.step_of (execSync_only c s) rfl
  | icinv c => exact Only.step_of (execIcinv_only c s) rfl
  | busAbort c => exact Only.step_of (execBusAbort_only c s) rfl
  | coreFabricRetry c => exact Only.step_of (execCoreFabricRetry_only c s) rfl
  | fastInterruptEntry c => exact Only.step_of (execFastInterruptEntry_only c s) rfl
  | heldInterruptEntry c => exact Only.step_of (execHeldInterruptEntry_only c s) rfl
  | holdOverrun c => exact Only.step_of (execHoldOverrun_only c s) rfl
  | waitWake c => exact Only.step_of (execWaitWake_only c s) rfl
  | breakpointMatch c => exact Only.step_of (execBreakpointMatch_only c s) rfl
  | scIrqRaise c w => exact Only.step_of (execScIrqRaise_only c w s) rfl
  | scCtlHalt c key => exact Only.step_of (execScCtlHalt_only c key s) rfl
  | scCtlRun c key => exact Only.step_of (execScCtlRun_only c key s) rfl
  | scCtlStep c key => exact Only.step_of (execScCtlStep_only c key s) rfl
  | scCtlRestart c key => exact Only.step_of (execScCtlRestart_only c key s) rfl
  | scDbgDataAccess c w => exact Only.step_of (execScDbgDataAccess_only c w s) rfl
  | blockDelivery endTime inputBits ecc => exact Only.step_of (execBlockDelivery_only endTime inputBits ecc s) rfl
  | blockDeliveryRetry => exact Only.step_of (execBlockDeliveryRetry_only s) rfl
  | inputStuck idx => exact Only.step_of (execInputStuck_only idx s) rfl
  | mqSelWrite w => exact Only.step_of (execMqSelWrite_only w s) rfl
  | quickViewUpdate => exact Only.step_of (execQuickViewUpdate_only s) rfl
  | harmonicsStart w => exact Only.step_of (execHarmonicsStart_only w s) rfl
  | harmonicsDone => exact Only.step_of (execHarmonicsDone_only s) rfl
  | pulseEdge k bHigh t => exact Only.step_of (execPulseEdge_only k bHigh t s) rfl
  | pulseFreqGate k => exact Only.step_of (execPulseFreqGate_only k s) rfl
  | pulseSecondCredit => exact Only.step_of (execPulseSecondCredit_only s) rfl
  | ledgerSecondCredit => exact Only.step_of (execLedgerSecondCredit_only s) rfl
  | heatSecond => exact Only.step_of (execHeatSecond_only s) rfl
  | mbusPollRound m => exact Only.step_of (execMbusPollRound_only m s) rfl
  | mbusReply m frame => exact Only.step_of (execMbusReply_only m frame s) rfl
  | mbusReplyTimeout m => exact Only.step_of (execMbusReplyTimeout_only m s) rfl
  | secondarySearch m w => exact Only.step_of (execSecondarySearch_only m w s) rfl
  | secondarySearchDone m found => exact Only.step_of (execSecondarySearchDone_only m found s) rfl
  | spiScan replies => exact Only.step_of (execSpiScan_only replies s) rfl
  | ledgerNvmCommit => exact Only.step_of (execLedgerNvmCommit_only s) rfl
  | demandIntervalEnd => exact Only.step_of (execDemandIntervalEnd_only s) rfl
  | dailySnapshot => exact Only.step_of (execDailySnapshot_only s) rfl
  | interimSnapshot w => exact Only.step_of (execInterimSnapshot_only w s) rfl
  | snapshotWriteComplete => exact Only.step_of (execSnapshotWriteComplete_only s) rfl
  | ldgApply w => exact Only.step_of (execLdgApply_only w s) rfl
  | ldgApplyTakeEffect => exact Only.step_of (execLdgApplyTakeEffect_only s) rfl
  | carServoInstant c inc bothEdges ssi ageNs => exact Only.step_of (execCarServoInstant_only c inc bothEdges ssi ageNs s) rfl
  | dzEdge c rising sinceServoNs => exact Only.step_of (execDzEdge_only c rising sinceServoNs s) rfl
  | learnRunComplete c => exact Only.step_of (execLearnRunComplete_only c s) rfl
  | callRegistration source seq call => exact Only.step_of (execCallRegistration_only source seq call s) rfl
  | dispatchCycle cutOff => exact Only.step_of (execDispatchCycle_only cutOff s) rfl
  | assignmentReceived c id landing park => exact Only.step_of (execAssignmentReceived_only c id landing park s) rfl
  | tripEnergyRead c => exact Only.step_of (execTripEnergyRead_only c s) rfl
  | tripTimeout c => exact Only.step_of (execTripTimeout_only c s) rfl
  | driveStatusPdo c pdo => exact Only.step_of (execDriveStatusPdo_only c pdo s) rfl
  | islandDispatchFallback g => exact Only.step_of (execIslandDispatchFallback_only g s) rfl
  | carReport payload => exact Only.step_of (execCarReport_only payload s) rfl
  | dispatchCall payload => exact Only.step_of (execDispatchCall_only payload s) rfl
  | assign payload => exact Only.step_of (execAssign_only payload s) rfl
  | callClear payload => exact Only.step_of (execCallClear_only payload s) rfl
  | demandCounts payload => exact Only.step_of (execDemandCounts_only payload s) rfl
  | carCall c landing side req => exact Only.step_of (execCarCall_only c landing side req s) rfl
  | hallCall c landing side dir req => exact Only.step_of (execHallCall_only c landing side dir req s) rfl
  | outOfService c req => exact Only.step_of (execOutOfService_only c req s) rfl
  | inService c req => exact Only.step_of (execInService_only c req s) rfl
  | learnRun c req => exact Only.step_of (execLearnRun_only c req s) rfl
  | correctionRun c req => exact Only.step_of (execCorrectionRun_only c req s) rfl
  | testRun c landing req => exact Only.step_of (execTestRun_only c landing req s) rfl
  | inspMove c dir req => exact Only.step_of (execInspMove_only c dir req s) rfl
  | liftApply w => exact Only.step_of (execLiftApply_only w s) rfl
  | floorReload w => exact Only.step_of (execFloorReload_only w s) rfl
  | energyReset w => exact Only.step_of (execEnergyReset_only w s) rfl
  | liftDeferredAction => exact Only.step_of (execLiftDeferredAction_only s) rfl
  | permitFall c p => exact Only.step_of (execPermitFall_only c p s) rfl
  | permitRise c p => exact Only.step_of (execPermitRise_only c p s) rfl
  | moveAbs a flags vcap target req => exact Only.step_of (execMoveAbs_only a flags vcap target req s) rfl
  | moveRel a flags vcap target req => exact Only.step_of (execMoveRel_only a flags vcap target req s) rfl
  | stop a req => exact Only.step_of (execStop_only a req s) rfl
  | resume a req => exact Only.step_of (execResume_only a req s) rfl
  | home a vcap arg req => exact Only.step_of (execHome_only a vcap arg req s) rfl
  | gearOn a flags arg req => exact Only.step_of (execGearOn_only a flags arg req s) rfl
  | gearOff a flags vcap target req => exact Only.step_of (execGearOff_only a flags vcap target req s) rfl
  | enable a req => exact Only.step_of (execEnable_only a req s) rfl
  | disable a req => exact Only.step_of (execDisable_only a req s) rfl
  | faultClear a req => exact Only.step_of (execFaultClear_only a req s) rfl
  | setPos a target req => exact Only.step_of (execSetPos_only a target req s) rfl
  | escClear c req => exact Only.step_of (execEscClear_only c req s) rfl
  | axisServoInstant a => exact Only.step_of (execAxisServoInstant_only a s) rfl
  | homingTimeout a => exact Only.step_of (execHomingTimeout_only a s) rfl
  | limitInputActive a hi level sinceServoNs => exact Only.step_of (execLimitInputActive_only a hi level sinceServoNs s) rfl
  | escalatorEvaluation c counts left right ms => exact Only.step_of (execEscalatorEvaluation_only c counts left right ms s) rfl
  | motApply w => exact Only.step_of (execMotApply_only w s) rfl
  | motApplyDeferred => exact Only.step_of (execMotApplyDeferred_only s) rfl
  | tableInvalidate w => exact Only.step_of (execTableInvalidate_only w s) rfl
  | tableAddressUpdate a j => exact Only.step_of (execTableAddressUpdate_only a j s) rfl
  | comparatorEdge a phaseB above delayNs atNs => exact Only.step_of (execComparatorEdge_only a phaseB above delayNs atNs s) rfl
  | chopDeadTimeEnd a phaseB atNs => exact Only.step_of (execChopDeadTimeEnd_only a phaseB atNs s) rfl
  | chopBlankEnd a phaseB above => exact Only.step_of (execChopBlankEnd_only a phaseB above s) rfl
  | chopFastDecayEnd a phaseB => exact Only.step_of (execChopFastDecayEnd_only a phaseB s) rfl
  | senseOffsetMeasure a ofsA ofsB => exact Only.step_of (execSenseOffsetMeasure_only a ofsA ofsB s) rfl
  | offsetCal w => exact Only.step_of (execOffsetCal_only w s) rfl
  | standstillReduction a => exact Only.step_of (execStandstillReduction_only a s) rfl
  | bemfSample a phaseB code atNs => exact Only.step_of (execBemfSample_only a phaseB code atNs s) rfl
  | estimate a => exact Only.step_of (execEstimate_only a s) rfl
  | nudgeResume a => exact Only.step_of (execNudgeResume_only a s) rfl
  | bridgeFault a code present => exact Only.step_of (execBridgeFault_only a code present s) rfl
  | ddApply w => exact Only.step_of (execDdApply_only w s) rfl
  | ddApplyDeferred => exact Only.step_of (execDdApplyDeferred_only s) rfl
  | tripPathTrip kin => exact Only.step_of (execTripPathTrip_only kin s) rfl
  | kinFilterChange n v => exact Only.step_of (execKinFilterChange_only n v s) rfl
  | discrepancyLatch k => exact Only.step_of (execDiscrepancyLatch_only k s) rfl
  | kerbScan rb => exact Only.step_of (execKerbScan_only rb s) rfl
  | kerbNop => exact Only.step_of (execKerbNop_only s) rfl
  | kerbLd n space idx => exact Only.step_of (execKerbLd_only n space idx s) rfl
  | kerbAnd n space idx => exact Only.step_of (execKerbAnd_only n space idx s) rfl
  | kerbOr n space idx => exact Only.step_of (execKerbOr_only n space idx s) rfl
  | kerbXor n space idx => exact Only.step_of (execKerbXor_only n space idx s) rfl
  | kerbPush n space idx => exact Only.step_of (execKerbPush_only n space idx s) rfl
  | andp => exact Only.step_of (execAndp_only s) rfl
  | orp => exact Only.step_of (execOrp_only s) rfl
  | kerbSt n space idx => exact Only.step_of (execKerbSt_only n space idx s) rfl
  | kerbSet space idx => exact Only.step_of (execKerbSet_only space idx s) rfl
  | kerbRst space idx => exact Only.step_of (execKerbRst_only space idx s) rfl
  | tim idx => exact Only.step_of (execTim_only idx s) rfl
  | edgr idx => exact Only.step_of (execEdgr_only idx s) rfl
  | edgf idx => exact Only.step_of (execEdgf_only idx s) rfl
  | ctu idx => exact Only.step_of (execCtu_only idx s) rfl
  | ctd idx => exact Only.step_of (execCtd_only idx s) rfl
  | cres idx => exact Only.step_of (execCres_only idx s) rfl
  | jmpc t => exact Only.step_of (execJmpc_only t s) rfl
  | jmp t => exact Only.step_of (execJmp_only t s) rfl
  | cue car cue => exact Only.step_of (execCue_only car cue s) rfl
  | frst idx => exact Only.step_of (execFrst_only idx s) rfl
  | kerbEnd => exact Only.step_of (execKerbEnd_only s) rfl
  | readbackFault n level => exact Only.step_of (execReadbackFault_only n level s) rfl
  | outputTestPulse n sawOff => exact Only.step_of (execOutputTestPulse_only n sawOff s) rfl
  | programExchange => exact Only.step_of (execProgramExchange_only s) rfl
  | tripPathsExchange => exact Only.step_of (execTripPathsExchange_only s) rfl
  | kerbFault c => exact Only.step_of (execKerbFault_only c s) rfl
  | compareFailure cycle unit => exact Only.step_of (execCompareFailure_only cycle unit s) rfl
  | audioBlock first alignNs paging feeds missed => exact Only.step_of (execAudioBlock_only first alignNs paging feeds missed s) rfl
  | kerbCueEntry => exact Only.step_of (execKerbCueEntry_only s) rfl
  | liftCue => exact Only.step_of (execLiftCue_only s) rfl
  | start kind prio id note vel zones hold excl t req => exact Only.step_of (execStart_only kind prio id note vel zones hold excl t req s) rfl
  | release handle req => exact Only.step_of (execRelease_only handle req s) rfl
  | kill handle req => exact Only.step_of (execKill_only handle req s) rfl
  | bsCue prio cue car t req => exact Only.step_of (execBsCue_only prio cue car t req s) rfl
  | setP handle p0 p1 req => exact Only.step_of (execSetP_only handle p0 p1 req s) rfl
  | audioCue node seq cue car prio t => exact Only.step_of (execAudioCue_only node seq cue car prio t s) rfl
  | noteOn ch note vel => exact Only.step_of (execNoteOn_only ch note vel s) rfl
  | noteOff ch note => exact Only.step_of (execNoteOff_only ch note s) rfl
  | controlChange ch cc v => exact Only.step_of (execControlChange_only ch cc v s) rfl
  | programChange ch program => exact Only.step_of (execProgramChange_only ch program s) rfl
  | channelPressure ch v => exact Only.step_of (execChannelPressure_only ch v s) rfl
  | pitchBend ch v => exact Only.step_of (execPitchBend_only ch v s) rfl
  | activeSensing => exact Only.step_of (execActiveSensing_only s) rfl
  | midiSensingTimeout => exact Only.step_of (execMidiSensingTimeout_only s) rfl
  | p7FifoTimeout => exact Only.step_of (execP7FifoTimeout_only s) rfl
  | bsApply w => exact Only.step_of (execBsApply_only w s) rfl
  | wtInvalidate w => exact Only.step_of (execWtInvalidate_only w s) rfl
  | stopAll w => exact Only.step_of (execStopAll_only w s) rfl
  | phraseReload w dir => exact Only.step_of (execPhraseReload_only w dir s) rfl
  | phraseReloadDeferred dir => exact Only.step_of (execPhraseReloadDeferred_only dir s) rfl
  | fcInputEntry slot => exact Only.step_of (execFcInputEntry_only slot s) rfl
  | chunkDue => exact Only.step_of (execChunkDue_only s) rfl
  | batchWriteBack => exact Only.step_of (execBatchWriteBack_only s) rfl
  | create stream slot source => exact Only.step_of (execCreate_only stream slot source s) rfl
  | delete stream => exact Only.step_of (execDelete_only stream s) rfl
  | streamReset stream => exact Only.step_of (execStreamReset_only stream s) rfl
  | headReset stream => exact Only.step_of (execHeadReset_only stream s) rfl
  | freeze stream => exact Only.step_of (execFreeze_only stream s) rfl
  | thaw stream => exact Only.step_of (execThaw_only stream s) rfl
  | streamCtlDeferred => exact Only.step_of (execStreamCtlDeferred_only s) rfl
  | headUpdate => exact Only.step_of (execHeadUpdate_only s) rfl
  | fcApply w => exact Only.step_of (execFcApply_only w s) rfl
  | modelLoad w => exact Only.step_of (execModelLoad_only w s) rfl
  | modelLoadComplete file => exact Only.step_of (execModelLoadComplete_only file s) rfl
  | checkpoint w => exact Only.step_of (execCheckpoint_only w s) rfl
  | checkpointInterval => exact Only.step_of (execCheckpointInterval_only s) rfl
  | checkpointWriteComplete => exact Only.step_of (execCheckpointWriteComplete_only s) rfl
  | loadPoint n => exact Only.step_of (execLoadPoint_only n s) rfl
  | pwmCodeWrite n w => exact Only.step_of (execPwmCodeWrite_only n w s) rfl
  | timebaseTick g => exact Only.step_of (execTimebaseTick_only g s) rfl
  | pwmLoadNEdge g lowNs => exact Only.step_of (execPwmLoadNEdge_only g lowNs s) rfl
  | strobe groups => exact Only.step_of (execStrobe_only groups s) rfl
  | pwmApply => exact Only.step_of (execPwmApply_only s) rfl
  | pwmFaultClear channels => exact Only.step_of (execPwmFaultClear_only channels s) rfl
  | genSync channels => exact Only.step_of (execGenSync_only channels s) rfl
  | markerEmit => exact Only.step_of (execMarkerEmit_only s) rfl
  | markerReceive r m residence16 => exact Only.step_of (execMarkerReceive_only r m residence16 s) rfl
  | kerbFrameInsert => exact Only.step_of (execKerbFrameInsert_only s) rfl
  | kerbFrameReceive f pcrcOk => exact Only.step_of (execKerbFrameReceive_only f pcrcOk s) rfl
  | frameAccept r f firstPass pcrcOk fcsOk => exact Only.step_of (execFrameAccept_only r f firstPass pcrcOk fcsOk s) rfl
  | hopDelayMeasure r roundTripPs turnaroundPs => exact Only.step_of (execHopDelayMeasure_only r roundTripPs turnaroundPs s) rfl
  | controlJoin m => exact Only.step_of (execControlJoin_only m s) rfl
  | membershipEffective members prios => exact Only.step_of (execMembershipEffective_only members prios s) rfl
  | groupDispatcherChange => exact Only.step_of (execGroupDispatcherChange_only s) rfl
  | turn => exact Only.step_of (execTurn_only s) rfl
  | frameReturn c ackStatus ackCnt => exact Only.step_of (execFrameReturn_only c ackStatus ackCnt s) rfl
  | breakDetect portQ => exact Only.step_of (execBreakDetect_only portQ s) rfl
  | breakReceive r => exact Only.step_of (execBreakReceive_only r s) rfl
  | unwrap => exact Only.step_of (execUnwrap_only s) rfl
  | blvApply => exact Only.step_of (execBlvApply_only s) rfl
  | blvLeave => exact Only.step_of (execBlvLeave_only s) rfl
  | blvJoin => exact Only.step_of (execBlvJoin_only s) rfl
  | blvConfirm target => exact Only.step_of (execBlvConfirm_only target s) rfl
  | wardenConfirmReceive src tag => exact Only.step_of (execWardenConfirmReceive_only src tag s) rfl
  | wardenReplyReceive src status reason => exact Only.step_of (execWardenReplyReceive_only src status reason s) rfl
  | meterRollupSend => exact Only.step_of (execMeterRollupSend_only s) rfl
  | meterRollupReceive src payload => exact Only.step_of (execMeterRollupReceive_only src payload s) rfl
  | fabricRead init addr ecc => exact Only.step_of (execFabricRead_only init addr ecc s) rfl
  | fabricWrite init addr strobe data => exact Only.step_of (execFabricWrite_only init addr strobe data s) rfl
  | bypass => exact Only.step_of (execBypass_only s) rfl
  | idcode => exact Only.step_of (execIdcode_only s) rfl
  | samplePreload balls shiftIn => exact Only.step_of (execSamplePreload_only balls shiftIn s) rfl
  | extest keys => exact Only.step_of (execExtest_only keys s) rfl
  | clamp keys => exact Only.step_of (execClamp_only keys s) rfl
  | highz keys => exact Only.step_of (execHighz_only keys s) rfl
  | supplyMonitorAlarm r aonLost => exact Only.step_of (execSupplyMonitorAlarm_only r aonLost s) rfl
  | railCheckTimeout => exact Only.step_of (execRailCheckTimeout_only s) rfl
  | railRetry => exact Only.step_of (execRailRetry_only s) rfl
  | mdioPoll portQ status sync => exact Only.step_of (execMdioPoll_only portQ status sync s) rfl
  | timePps => exact Only.step_of (execTimePps_only s) rfl
  | supplyAlarmClear r => exact Only.step_of (execSupplyAlarmClear_only r s) rfl
  | stuckInputEnd idx => exact Only.step_of (execStuckInputEnd_only idx s) rfl
  | timeValidLoss => exact Only.step_of (execTimeValidLoss_only s) rfl
  | tapReset => exact Only.step_of (execTapReset_only s) rfl

end Sys2Proof.Machine
end

