-- ==== Sys2Proof/Laws/State.lean ====
section
/-! SUPPORT. What each field of the state is after each of the machine's record updates: one lemma per update and field, so
that no proof unfolds an update. -/
set_option linter.all false
set_option Elab.async false
namespace Sys2Proof.Machine
open Sys2Proof

/-! ### modIsl -/

@[simp] theorem modIsl_pending (i : Nat) (f : Island → Island) (s : State) : (modIsl s i f).pending = s.pending := rfl
@[simp] theorem modIsl_time (i : Nat) (f : Island → Island) (s : State) : (modIsl s i f).time = s.time := rfl
@[simp] theorem modIsl_mode (i : Nat) (f : Island → Island) (s : State) : (modIsl s i f).mode = s.mode := rfl
@[simp] theorem modIsl_clock (i : Nat) (f : Island → Island) (s : State) : (modIsl s i f).clock = s.clock := rfl
@[simp] theorem modIsl_isl (i : Nat) (f : Island → Island) (s : State) : (modIsl s i f).isl = vmod s.isl i f := rfl
@[simp] theorem modIsl_host (i : Nat) (f : Island → Island) (s : State) : (modIsl s i f).host = s.host := rfl
@[simp] theorem modIsl_log (i : Nat) (f : Island → Island) (s : State) : (modIsl s i f).log = s.log := rfl
@[simp] theorem modIsl_consent (i : Nat) (f : Island → Island) (s : State) : (modIsl s i f).consent = s.consent := rfl
@[simp] theorem modIsl_arc (i : Nat) (f : Island → Island) (s : State) : (modIsl s i f).arc = s.arc := rfl
@[simp] theorem modIsl_cores (i : Nat) (f : Island → Island) (s : State) : (modIsl s i f).cores = s.cores := rfl
@[simp] theorem modIsl_meter (i : Nat) (f : Island → Island) (s : State) : (modIsl s i f).meter = s.meter := rfl
@[simp] theorem modIsl_ldg (i : Nat) (f : Island → Island) (s : State) : (modIsl s i f).ldg = s.ldg := rfl
@[simp] theorem modIsl_lift (i : Nat) (f : Island → Island) (s : State) : (modIsl s i f).lift = s.lift := rfl
@[simp] theorem modIsl_motion (i : Nat) (f : Island → Island) (s : State) : (modIsl s i f).motion = s.motion := rfl
@[simp] theorem modIsl_door (i : Nat) (f : Island → Island) (s : State) : (modIsl s i f).door = s.door := rfl
@[simp] theorem modIsl_kerb (i : Nat) (f : Island → Island) (s : State) : (modIsl s i f).kerb = s.kerb := rfl
@[simp] theorem modIsl_bs (i : Nat) (f : Island → Island) (s : State) : (modIsl s i f).bs = s.bs := rfl
@[simp] theorem modIsl_fc (i : Nat) (f : Island → Island) (s : State) : (modIsl s i f).fc = s.fc := rfl
@[simp] theorem modIsl_pwm (i : Nat) (f : Island → Island) (s : State) : (modIsl s i f).pwm = s.pwm := rfl
@[simp] theorem modIsl_blv (i : Nat) (f : Island → Island) (s : State) : (modIsl s i f).blv = s.blv := rfl
@[simp] theorem modIsl_link (i : Nat) (f : Island → Island) (s : State) : (modIsl s i f).link = s.link := rfl
@[simp] theorem modIsl_pkg (i : Nat) (f : Island → Island) (s : State) : (modIsl s i f).pkg = s.pkg := rfl
@[simp] theorem modIsl_mem (i : Nat) (f : Island → Island) (s : State) : (modIsl s i f).mem = s.mem := rfl
@[simp] theorem modIsl_ecc (i : Nat) (f : Island → Island) (s : State) : (modIsl s i f).ecc = s.ecc := rfl
@[simp] theorem modIsl_reply (i : Nat) (f : Island → Island) (s : State) : (modIsl s i f).reply = s.reply := rfl

/-! ### setAttn -/

@[simp] theorem setAttn_pending (b : Nat) (s : State) : (setAttn b s).pending = s.pending := rfl
@[simp] theorem setAttn_time (b : Nat) (s : State) : (setAttn b s).time = s.time := rfl
@[simp] theorem setAttn_mode (b : Nat) (s : State) : (setAttn b s).mode = s.mode := rfl
@[simp] theorem setAttn_clock (b : Nat) (s : State) : (setAttn b s).clock = s.clock := rfl
@[simp] theorem setAttn_isl (b : Nat) (s : State) : (setAttn b s).isl = s.isl := rfl
@[simp] theorem setAttn_host (b : Nat) (s : State) : (setAttn b s).host = { s.host with attnCause := setBitN s.host.attnCause b true } := rfl
@[simp] theorem setAttn_log (b : Nat) (s : State) : (setAttn b s).log = s.log := rfl
@[simp] theorem setAttn_consent (b : Nat) (s : State) : (setAttn b s).consent = s.consent := rfl
@[simp] theorem setAttn_arc (b : Nat) (s : State) : (setAttn b s).arc = s.arc := rfl
@[simp] theorem setAttn_cores (b : Nat) (s : State) : (setAttn b s).cores = s.cores := rfl
@[simp] theorem setAttn_meter (b : Nat) (s : State) : (setAttn b s).meter = s.meter := rfl
@[simp] theorem setAttn_ldg (b : Nat) (s : State) : (setAttn b s).ldg = s.ldg := rfl
@[simp] theorem setAttn_lift (b : Nat) (s : State) : (setAttn b s).lift = s.lift := rfl
@[simp] theorem setAttn_motion (b : Nat) (s : State) : (setAttn b s).motion = s.motion := rfl
@[simp] theorem setAttn_door (b : Nat) (s : State) : (setAttn b s).door = s.door := rfl
@[simp] theorem setAttn_kerb (b : Nat) (s : State) : (setAttn b s).kerb = s.kerb := rfl
@[simp] theorem setAttn_bs (b : Nat) (s : State) : (setAttn b s).bs = s.bs := rfl
@[simp] theorem setAttn_fc (b : Nat) (s : State) : (setAttn b s).fc = s.fc := rfl
@[simp] theorem setAttn_pwm (b : Nat) (s : State) : (setAttn b s).pwm = s.pwm := rfl
@[simp] theorem setAttn_blv (b : Nat) (s : State) : (setAttn b s).blv = s.blv := rfl
@[simp] theorem setAttn_link (b : Nat) (s : State) : (setAttn b s).link = s.link := rfl
@[simp] theorem setAttn_pkg (b : Nat) (s : State) : (setAttn b s).pkg = s.pkg := rfl
@[simp] theorem setAttn_mem (b : Nat) (s : State) : (setAttn b s).mem = s.mem := rfl
@[simp] theorem setAttn_ecc (b : Nat) (s : State) : (setAttn b s).ecc = s.ecc := rfl
@[simp] theorem setAttn_reply (b : Nat) (s : State) : (setAttn b s).reply = s.reply := rfl

/-! ### raiseIrq -/

@[simp] theorem raiseIrq_pending (c ch : Nat) (s : State) : (raiseIrq c ch s).pending = s.pending := rfl
@[simp] theorem raiseIrq_time (c ch : Nat) (s : State) : (raiseIrq c ch s).time = s.time := rfl
@[simp] theorem raiseIrq_mode (c ch : Nat) (s : State) : (raiseIrq c ch s).mode = s.mode := rfl
@[simp] theorem raiseIrq_clock (c ch : Nat) (s : State) : (raiseIrq c ch s).clock = s.clock := rfl
@[simp] theorem raiseIrq_isl (c ch : Nat) (s : State) : (raiseIrq c ch s).isl = s.isl := rfl
@[simp] theorem raiseIrq_host (c ch : Nat) (s : State) : (raiseIrq c ch s).host = s.host := rfl
@[simp] theorem raiseIrq_log (c ch : Nat) (s : State) : (raiseIrq c ch s).log = s.log := rfl
@[simp] theorem raiseIrq_consent (c ch : Nat) (s : State) : (raiseIrq c ch s).consent = s.consent := rfl
@[simp] theorem raiseIrq_arc (c ch : Nat) (s : State) : (raiseIrq c ch s).arc = s.arc := rfl
@[simp] theorem raiseIrq_cores (c ch : Nat) (s : State) : (raiseIrq c ch s).cores = vmod s.cores c (fun k => { k with ipend := k.ipend ||| BitVec.ofNat 64 (2 ^ (ch % 64)) }) := rfl
@[simp] theorem raiseIrq_meter (c ch : Nat) (s : State) : (raiseIrq c ch s).meter = s.meter := rfl
@[simp] theorem raiseIrq_ldg (c ch : Nat) (s : State) : (raiseIrq c ch s).ldg = s.ldg := rfl
@[simp] theorem raiseIrq_lift (c ch : Nat) (s : State) : (raiseIrq c ch s).lift = s.lift := rfl
@[simp] theorem raiseIrq_motion (c ch : Nat) (s : State) : (raiseIrq c ch s).motion = s.motion := rfl
@[simp] theorem raiseIrq_door (c ch : Nat) (s : State) : (raiseIrq c ch s).door = s.door := rfl
@[simp] theorem raiseIrq_kerb (c ch : Nat) (s : State) : (raiseIrq c ch s).kerb = s.kerb := rfl
@[simp] theorem raiseIrq_bs (c ch : Nat) (s : State) : (raiseIrq c ch s).bs = s.bs := rfl
@[simp] theorem raiseIrq_fc (c ch : Nat) (s : State) : (raiseIrq c ch s).fc = s.fc := rfl
@[simp] theorem raiseIrq_pwm (c ch : Nat) (s : State) : (raiseIrq c ch s).pwm = s.pwm := rfl
@[simp] theorem raiseIrq_blv (c ch : Nat) (s : State) : (raiseIrq c ch s).blv = s.blv := rfl
@[simp] theorem raiseIrq_link (c ch : Nat) (s : State) : (raiseIrq c ch s).link = s.link := rfl
@[simp] theorem raiseIrq_pkg (c ch : Nat) (s : State) : (raiseIrq c ch s).pkg = s.pkg := rfl
@[simp] theorem raiseIrq_mem (c ch : Nat) (s : State) : (raiseIrq c ch s).mem = s.mem := rfl
@[simp] theorem raiseIrq_ecc (c ch : Nat) (s : State) : (raiseIrq c ch s).ecc = s.ecc := rfl
@[simp] theorem raiseIrq_reply (c ch : Nat) (s : State) : (raiseIrq c ch s).reply = s.reply := rfl

/-! ### replyWith -/

@[simp] theorem replyWith_pending (st : Status) (d : Word) (s : State) : (replyWith st d s).pending = s.pending := rfl
@[simp] theorem replyWith_time (st : Status) (d : Word) (s : State) : (replyWith st d s).time = s.time := rfl
@[simp] theorem replyWith_mode (st : Status) (d : Word) (s : State) : (replyWith st d s).mode = s.mode := rfl
@[simp] theorem replyWith_clock (st : Status) (d : Word) (s : State) : (replyWith st d s).clock = s.clock := rfl
@[simp] theorem replyWith_isl (st : Status) (d : Word) (s : State) : (replyWith st d s).isl = s.isl := rfl
@[simp] theorem replyWith_host (st : Status) (d : Word) (s : State) : (replyWith st d s).host = s.host := rfl
@[simp] theorem replyWith_log (st : Status) (d : Word) (s : State) : (replyWith st d s).log = s.log := rfl
@[simp] theorem replyWith_consent (st : Status) (d : Word) (s : State) : (replyWith st d s).consent = s.consent := rfl
@[simp] theorem replyWith_arc (st : Status) (d : Word) (s : State) : (replyWith st d s).arc = s.arc := rfl
@[simp] theorem replyWith_cores (st : Status) (d : Word) (s : State) : (replyWith st d s).cores = s.cores := rfl
@[simp] theorem replyWith_meter (st : Status) (d : Word) (s : State) : (replyWith st d s).meter = s.meter := rfl
@[simp] theorem replyWith_ldg (st : Status) (d : Word) (s : State) : (replyWith st d s).ldg = s.ldg := rfl
@[simp] theorem replyWith_lift (st : Status) (d : Word) (s : State) : (replyWith st d s).lift = s.lift := rfl
@[simp] theorem replyWith_motion (st : Status) (d : Word) (s : State) : (replyWith st d s).motion = s.motion := rfl
@[simp] theorem replyWith_door (st : Status) (d : Word) (s : State) : (replyWith st d s).door = s.door := rfl
@[simp] theorem replyWith_kerb (st : Status) (d : Word) (s : State) : (replyWith st d s).kerb = s.kerb := rfl
@[simp] theorem replyWith_bs (st : Status) (d : Word) (s : State) : (replyWith st d s).bs = s.bs := rfl
@[simp] theorem replyWith_fc (st : Status) (d : Word) (s : State) : (replyWith st d s).fc = s.fc := rfl
@[simp] theorem replyWith_pwm (st : Status) (d : Word) (s : State) : (replyWith st d s).pwm = s.pwm := rfl
@[simp] theorem replyWith_blv (st : Status) (d : Word) (s : State) : (replyWith st d s).blv = s.blv := rfl
@[simp] theorem replyWith_link (st : Status) (d : Word) (s : State) : (replyWith st d s).link = s.link := rfl
@[simp] theorem replyWith_pkg (st : Status) (d : Word) (s : State) : (replyWith st d s).pkg = s.pkg := rfl
@[simp] theorem replyWith_mem (st : Status) (d : Word) (s : State) : (replyWith st d s).mem = s.mem := rfl
@[simp] theorem replyWith_ecc (st : Status) (d : Word) (s : State) : (replyWith st d s).ecc = s.ecc := rfl
@[simp] theorem replyWith_reply (st : Status) (d : Word) (s : State) : (replyWith st d s).reply = ⟨st, d⟩ := rfl

/-! ### qPut -/

@[simp] theorem qPut_pending (q : Nat) (x : Queue) (s : State) : (qPut q x s).pending = s.pending := rfl
@[simp] theorem qPut_time (q : Nat) (x : Queue) (s : State) : (qPut q x s).time = s.time := rfl
@[simp] theorem qPut_mode (q : Nat) (x : Queue) (s : State) : (qPut q x s).mode = s.mode := rfl
@[simp] theorem qPut_clock (q : Nat) (x : Queue) (s : State) : (qPut q x s).clock = s.clock := rfl
@[simp] theorem qPut_isl (q : Nat) (x : Queue) (s : State) : (qPut q x s).isl = s.isl := rfl
@[simp] theorem qPut_host (q : Nat) (x : Queue) (s : State) : (qPut q x s).host = s.host := rfl
@[simp] theorem qPut_log (q : Nat) (x : Queue) (s : State) : (qPut q x s).log = s.log := rfl
@[simp] theorem qPut_consent (q : Nat) (x : Queue) (s : State) : (qPut q x s).consent = s.consent := rfl
@[simp] theorem qPut_arc (q : Nat) (x : Queue) (s : State) : (qPut q x s).arc = { s.arc with queues := tput q x s.arc.queues } := rfl
@[simp] theorem qPut_cores (q : Nat) (x : Queue) (s : State) : (qPut q x s).cores = s.cores := rfl
@[simp] theorem qPut_meter (q : Nat) (x : Queue) (s : State) : (qPut q x s).meter = s.meter := rfl
@[simp] theorem qPut_ldg (q : Nat) (x : Queue) (s : State) : (qPut q x s).ldg = s.ldg := rfl
@[simp] theorem qPut_lift (q : Nat) (x : Queue) (s : State) : (qPut q x s).lift = s.lift := rfl
@[simp] theorem qPut_motion (q : Nat) (x : Queue) (s : State) : (qPut q x s).motion = s.motion := rfl
@[simp] theorem qPut_door (q : Nat) (x : Queue) (s : State) : (qPut q x s).door = s.door := rfl
@[simp] theorem qPut_kerb (q : Nat) (x : Queue) (s : State) : (qPut q x s).kerb = s.kerb := rfl
@[simp] theorem qPut_bs (q : Nat) (x : Queue) (s : State) : (qPut q x s).bs = s.bs := rfl
@[simp] theorem qPut_fc (q : Nat) (x : Queue) (s : State) : (qPut q x s).fc = s.fc := rfl
@[simp] theorem qPut_pwm (q : Nat) (x : Queue) (s : State) : (qPut q x s).pwm = s.pwm := rfl
@[simp] theorem qPut_blv (q : Nat) (x : Queue) (s : State) : (qPut q x s).blv = s.blv := rfl
@[simp] theorem qPut_link (q : Nat) (x : Queue) (s : State) : (qPut q x s).link = s.link := rfl
@[simp] theorem qPut_pkg (q : Nat) (x : Queue) (s : State) : (qPut q x s).pkg = s.pkg := rfl
@[simp] theorem qPut_mem (q : Nat) (x : Queue) (s : State) : (qPut q x s).mem = s.mem := rfl
@[simp] theorem qPut_ecc (q : Nat) (x : Queue) (s : State) : (qPut q x s).ecc = s.ecc := rfl
@[simp] theorem qPut_reply (q : Nat) (x : Queue) (s : State) : (qPut q x s).reply = s.reply := rfl

/-! ### portReply -/

@[simp] theorem portReply_pending (r : PortReply) (s : State) : (portReply r s).pending = s.pending := rfl
@[simp] theorem portReply_time (r : PortReply) (s : State) : (portReply r s).time = s.time := rfl
@[simp] theorem portReply_mode (r : PortReply) (s : State) : (portReply r s).mode = s.mode := rfl
@[simp] theorem portReply_clock (r : PortReply) (s : State) : (portReply r s).clock = s.clock := rfl
@[simp] theorem portReply_isl (r : PortReply) (s : State) : (portReply r s).isl = s.isl := rfl
@[simp] theorem portReply_host (r : PortReply) (s : State) : (portReply r s).host = s.host := rfl
@[simp] theorem portReply_log (r : PortReply) (s : State) : (portReply r s).log = s.log := rfl
@[simp] theorem portReply_consent (r : PortReply) (s : State) : (portReply r s).consent = s.consent := rfl
@[simp] theorem portReply_arc (r : PortReply) (s : State) : (portReply r s).arc = { s.arc with reply := r } := rfl
@[simp] theorem portReply_cores (r : PortReply) (s : State) : (portReply r s).cores = s.cores := rfl
@[simp] theorem portReply_meter (r : PortReply) (s : State) : (portReply r s).meter = s.meter := rfl
@[simp] theorem portReply_ldg (r : PortReply) (s : State) : (portReply r s).ldg = s.ldg := rfl
@[simp] theorem portReply_lift (r : PortReply) (s : State) : (portReply r s).lift = s.lift := rfl
@[simp] theorem portReply_motion (r : PortReply) (s : State) : (portReply r s).motion = s.motion := rfl
@[simp] theorem portReply_door (r : PortReply) (s : State) : (portReply r s).door = s.door := rfl
@[simp] theorem portReply_kerb (r : PortReply) (s : State) : (portReply r s).kerb = s.kerb := rfl
@[simp] theorem portReply_bs (r : PortReply) (s : State) : (portReply r s).bs = s.bs := rfl
@[simp] theorem portReply_fc (r : PortReply) (s : State) : (portReply r s).fc = s.fc := rfl
@[simp] theorem portReply_pwm (r : PortReply) (s : State) : (portReply r s).pwm = s.pwm := rfl
@[simp] theorem portReply_blv (r : PortReply) (s : State) : (portReply r s).blv = s.blv := rfl
@[simp] theorem portReply_link (r : PortReply) (s : State) : (portReply r s).link = s.link := rfl
@[simp] theorem portReply_pkg (r : PortReply) (s : State) : (portReply r s).pkg = s.pkg := rfl
@[simp] theorem portReply_mem (r : PortReply) (s : State) : (portReply r s).mem = s.mem := rfl
@[simp] theorem portReply_ecc (r : PortReply) (s : State) : (portReply r s).ecc = s.ecc := rfl
@[simp] theorem portReply_reply (r : PortReply) (s : State) : (portReply r s).reply = s.reply := rfl

/-! ### modPll -/

@[simp] theorem modPll_pending (p : Nat) (f : Pll → Pll) (s : State) : (modPll p f s).pending = s.pending := rfl
@[simp] theorem modPll_time (p : Nat) (f : Pll → Pll) (s : State) : (modPll p f s).time = s.time := rfl
@[simp] theorem modPll_mode (p : Nat) (f : Pll → Pll) (s : State) : (modPll p f s).mode = s.mode := rfl
@[simp] theorem modPll_clock (p : Nat) (f : Pll → Pll) (s : State) : (modPll p f s).clock = { s.clock with pll := vmod s.clock.pll p f } := rfl
@[simp] theorem modPll_isl (p : Nat) (f : Pll → Pll) (s : State) : (modPll p f s).isl = s.isl := rfl
@[simp] theorem modPll_host (p : Nat) (f : Pll → Pll) (s : State) : (modPll p f s).host = s.host := rfl
@[simp] theorem modPll_log (p : Nat) (f : Pll → Pll) (s : State) : (modPll p f s).log = s.log := rfl
@[simp] theorem modPll_consent (p : Nat) (f : Pll → Pll) (s : State) : (modPll p f s).consent = s.consent := rfl
@[simp] theorem modPll_arc (p : Nat) (f : Pll → Pll) (s : State) : (modPll p f s).arc = s.arc := rfl
@[simp] theorem modPll_cores (p : Nat) (f : Pll → Pll) (s : State) : (modPll p f s).cores = s.cores := rfl
@[simp] theorem modPll_meter (p : Nat) (f : Pll → Pll) (s : State) : (modPll p f s).meter = s.meter := rfl
@[simp] theorem modPll_ldg (p : Nat) (f : Pll → Pll) (s : State) : (modPll p f s).ldg = s.ldg := rfl
@[simp] theorem modPll_lift (p : Nat) (f : Pll → Pll) (s : State) : (modPll p f s).lift = s.lift := rfl
@[simp] theorem modPll_motion (p : Nat) (f : Pll → Pll) (s : State) : (modPll p f s).motion = s.motion := rfl
@[simp] theorem modPll_door (p : Nat) (f : Pll → Pll) (s : State) : (modPll p f s).door = s.door := rfl
@[simp] theorem modPll_kerb (p : Nat) (f : Pll → Pll) (s : State) : (modPll p f s).kerb = s.kerb := rfl
@[simp] theorem modPll_bs (p : Nat) (f : Pll → Pll) (s : State) : (modPll p f s).bs = s.bs := rfl
@[simp] theorem modPll_fc (p : Nat) (f : Pll → Pll) (s : State) : (modPll p f s).fc = s.fc := rfl
@[simp] theorem modPll_pwm (p : Nat) (f : Pll → Pll) (s : State) : (modPll p f s).pwm = s.pwm := rfl
@[simp] theorem modPll_blv (p : Nat) (f : Pll → Pll) (s : State) : (modPll p f s).blv = s.blv := rfl
@[simp] theorem modPll_link (p : Nat) (f : Pll → Pll) (s : State) : (modPll p f s).link = s.link := rfl
@[simp] theorem modPll_pkg (p : Nat) (f : Pll → Pll) (s : State) : (modPll p f s).pkg = s.pkg := rfl
@[simp] theorem modPll_mem (p : Nat) (f : Pll → Pll) (s : State) : (modPll p f s).mem = s.mem := rfl
@[simp] theorem modPll_ecc (p : Nat) (f : Pll → Pll) (s : State) : (modPll p f s).ecc = s.ecc := rfl
@[simp] theorem modPll_reply (p : Nat) (f : Pll → Pll) (s : State) : (modPll p f s).reply = s.reply := rfl

/-! ### modCore -/

@[simp] theorem modCore_pending (n : Nat) (f : CoreState → CoreState) (s : State) : (modCore n f s).pending = s.pending := rfl
@[simp] theorem modCore_time (n : Nat) (f : CoreState → CoreState) (s : State) : (modCore n f s).time = s.time := rfl
@[simp] theorem modCore_mode (n : Nat) (f : CoreState → CoreState) (s : State) : (modCore n f s).mode = s.mode := rfl
@[simp] theorem modCore_clock (n : Nat) (f : CoreState → CoreState) (s : State) : (modCore n f s).clock = s.clock := rfl
@[simp] theorem modCore_isl (n : Nat) (f : CoreState → CoreState) (s : State) : (modCore n f s).isl = s.isl := rfl
@[simp] theorem modCore_host (n : Nat) (f : CoreState → CoreState) (s : State) : (modCore n f s).host = s.host := rfl
@[simp] theorem modCore_log (n : Nat) (f : CoreState → CoreState) (s : State) : (modCore n f s).log = s.log := rfl
@[simp] theorem modCore_consent (n : Nat) (f : CoreState → CoreState) (s : State) : (modCore n f s).consent = s.consent := rfl
@[simp] theorem modCore_arc (n : Nat) (f : CoreState → CoreState) (s : State) : (modCore n f s).arc = s.arc := rfl
@[simp] theorem modCore_cores (n : Nat) (f : CoreState → CoreState) (s : State) : (modCore n f s).cores = vmod s.cores n f := rfl
@[simp] theorem modCore_meter (n : Nat) (f : CoreState → CoreState) (s : State) : (modCore n f s).meter = s.meter := rfl
@[simp] theorem modCore_ldg (n : Nat) (f : CoreState → CoreState) (s : State) : (modCore n f s).ldg = s.ldg := rfl
@[simp] theorem modCore_lift (n : Nat) (f : CoreState → CoreState) (s : State) : (modCore n f s).lift = s.lift := rfl
@[simp] theorem modCore_motion (n : Nat) (f : CoreState → CoreState) (s : State) : (modCore n f s).motion = s.motion := rfl
@[simp] theorem modCore_door (n : Nat) (f : CoreState → CoreState) (s : State) : (modCore n f s).door = s.door := rfl
@[simp] theorem modCore_kerb (n : Nat) (f : CoreState → CoreState) (s : State) : (modCore n f s).kerb = s.kerb := rfl
@[simp] theorem modCore_bs (n : Nat) (f : CoreState → CoreState) (s : State) : (modCore n f s).bs = s.bs := rfl
@[simp] theorem modCore_fc (n : Nat) (f : CoreState → CoreState) (s : State) : (modCore n f s).fc = s.fc := rfl
@[simp] theorem modCore_pwm (n : Nat) (f : CoreState → CoreState) (s : State) : (modCore n f s).pwm = s.pwm := rfl
@[simp] theorem modCore_blv (n : Nat) (f : CoreState → CoreState) (s : State) : (modCore n f s).blv = s.blv := rfl
@[simp] theorem modCore_link (n : Nat) (f : CoreState → CoreState) (s : State) : (modCore n f s).link = s.link := rfl
@[simp] theorem modCore_pkg (n : Nat) (f : CoreState → CoreState) (s : State) : (modCore n f s).pkg = s.pkg := rfl
@[simp] theorem modCore_mem (n : Nat) (f : CoreState → CoreState) (s : State) : (modCore n f s).mem = s.mem := rfl
@[simp] theorem modCore_ecc (n : Nat) (f : CoreState → CoreState) (s : State) : (modCore n f s).ecc = s.ecc := rfl
@[simp] theorem modCore_reply (n : Nat) (f : CoreState → CoreState) (s : State) : (modCore n f s).reply = s.reply := rfl

/-! ### modHost -/

@[simp] theorem modHost_pending (f : HostState → HostState) (s : State) : (modHost f s).pending = s.pending := rfl
@[simp] theorem modHost_time (f : HostState → HostState) (s : State) : (modHost f s).time = s.time := rfl
@[simp] theorem modHost_mode (f : HostState → HostState) (s : State) : (modHost f s).mode = s.mode := rfl
@[simp] theorem modHost_clock (f : HostState → HostState) (s : State) : (modHost f s).clock = s.clock := rfl
@[simp] theorem modHost_isl (f : HostState → HostState) (s : State) : (modHost f s).isl = s.isl := rfl
@[simp] theorem modHost_host (f : HostState → HostState) (s : State) : (modHost f s).host = f s.host := rfl
@[simp] theorem modHost_log (f : HostState → HostState) (s : State) : (modHost f s).log = s.log := rfl
@[simp] theorem modHost_consent (f : HostState → HostState) (s : State) : (modHost f s).consent = s.consent := rfl
@[simp] theorem modHost_arc (f : HostState → HostState) (s : State) : (modHost f s).arc = s.arc := rfl
@[simp] theorem modHost_cores (f : HostState → HostState) (s : State) : (modHost f s).cores = s.cores := rfl
@[simp] theorem modHost_meter (f : HostState → HostState) (s : State) : (modHost f s).meter = s.meter := rfl
@[simp] theorem modHost_ldg (f : HostState → HostState) (s : State) : (modHost f s).ldg = s.ldg := rfl
@[simp] theorem modHost_lift (f : HostState → HostState) (s : State) : (modHost f s).lift = s.lift := rfl
@[simp] theorem modHost_motion (f : HostState → HostState) (s : State) : (modHost f s).motion = s.motion := rfl
@[simp] theorem modHost_door (f : HostState → HostState) (s : State) : (modHost f s).door = s.door := rfl
@[simp] theorem modHost_kerb (f : HostState → HostState) (s : State) : (modHost f s).kerb = s.kerb := rfl
@[simp] theorem modHost_bs (f : HostState → HostState) (s : State) : (modHost f s).bs = s.bs := rfl
@[simp] theorem modHost_fc (f : HostState → HostState) (s : State) : (modHost f s).fc = s.fc := rfl
@[simp] theorem modHost_pwm (f : HostState → HostState) (s : State) : (modHost f s).pwm = s.pwm := rfl
@[simp] theorem modHost_blv (f : HostState → HostState) (s : State) : (modHost f s).blv = s.blv := rfl
@[simp] theorem modHost_link (f : HostState → HostState) (s : State) : (modHost f s).link = s.link := rfl
@[simp] theorem modHost_pkg (f : HostState → HostState) (s : State) : (modHost f s).pkg = s.pkg := rfl
@[simp] theorem modHost_mem (f : HostState → HostState) (s : State) : (modHost f s).mem = s.mem := rfl
@[simp] theorem modHost_ecc (f : HostState → HostState) (s : State) : (modHost f s).ecc = s.ecc := rfl
@[simp] theorem modHost_reply (f : HostState → HostState) (s : State) : (modHost f s).reply = s.reply := rfl

/-! ### hostStatus -/

@[simp] theorem hostStatus_pending (st : Status) (s : State) : (hostStatus st s).pending = s.pending := rfl
@[simp] theorem hostStatus_time (st : Status) (s : State) : (hostStatus st s).time = s.time := rfl
@[simp] theorem hostStatus_mode (st : Status) (s : State) : (hostStatus st s).mode = s.mode := rfl
@[simp] theorem hostStatus_clock (st : Status) (s : State) : (hostStatus st s).clock = s.clock := rfl
@[simp] theorem hostStatus_isl (st : Status) (s : State) : (hostStatus st s).isl = s.isl := rfl
@[simp] theorem hostStatus_host (st : Status) (s : State) : (hostStatus st s).host = { s.host with status := st } := rfl
@[simp] theorem hostStatus_log (st : Status) (s : State) : (hostStatus st s).log = s.log := rfl
@[simp] theorem hostStatus_consent (st : Status) (s : State) : (hostStatus st s).consent = s.consent := rfl
@[simp] theorem hostStatus_arc (st : Status) (s : State) : (hostStatus st s).arc = s.arc := rfl
@[simp] theorem hostStatus_cores (st : Status) (s : State) : (hostStatus st s).cores = s.cores := rfl
@[simp] theorem hostStatus_meter (st : Status) (s : State) : (hostStatus st s).meter = s.meter := rfl
@[simp] theorem hostStatus_ldg (st : Status) (s : State) : (hostStatus st s).ldg = s.ldg := rfl
@[simp] theorem hostStatus_lift (st : Status) (s : State) : (hostStatus st s).lift = s.lift := rfl
@[simp] theorem hostStatus_motion (st : Status) (s : State) : (hostStatus st s).motion = s.motion := rfl
@[simp] theorem hostStatus_door (st : Status) (s : State) : (hostStatus st s).door = s.door := rfl
@[simp] theorem hostStatus_kerb (st : Status) (s : State) : (hostStatus st s).kerb = s.kerb := rfl
@[simp] theorem hostStatus_bs (st : Status) (s : State) : (hostStatus st s).bs = s.bs := rfl
@[simp] theorem hostStatus_fc (st : Status) (s : State) : (hostStatus st s).fc = s.fc := rfl
@[simp] theorem hostStatus_pwm (st : Status) (s : State) : (hostStatus st s).pwm = s.pwm := rfl
@[simp] theorem hostStatus_blv (st : Status) (s : State) : (hostStatus st s).blv = s.blv := rfl
@[simp] theorem hostStatus_link (st : Status) (s : State) : (hostStatus st s).link = s.link := rfl
@[simp] theorem hostStatus_pkg (st : Status) (s : State) : (hostStatus st s).pkg = s.pkg := rfl
@[simp] theorem hostStatus_mem (st : Status) (s : State) : (hostStatus st s).mem = s.mem := rfl
@[simp] theorem hostStatus_ecc (st : Status) (s : State) : (hostStatus st s).ecc = s.ecc := rfl
@[simp] theorem hostStatus_reply (st : Status) (s : State) : (hostStatus st s).reply = s.reply := rfl

/-! ### noteReq -/

@[simp] theorem noteReq_pending (src : ReqSource) (r : Status) (s : State) : (noteReq src r s).pending = s.pending := rfl
@[simp] theorem noteReq_time (src : ReqSource) (r : Status) (s : State) : (noteReq src r s).time = s.time := rfl
@[simp] theorem noteReq_mode (src : ReqSource) (r : Status) (s : State) : (noteReq src r s).mode = { s.mode with reqSource := src, reqResult := r } := rfl
@[simp] theorem noteReq_clock (src : ReqSource) (r : Status) (s : State) : (noteReq src r s).clock = s.clock := rfl
@[simp] theorem noteReq_isl (src : ReqSource) (r : Status) (s : State) : (noteReq src r s).isl = s.isl := rfl
@[simp] theorem noteReq_host (src : ReqSource) (r : Status) (s : State) : (noteReq src r s).host = s.host := rfl
@[simp] theorem noteReq_log (src : ReqSource) (r : Status) (s : State) : (noteReq src r s).log = s.log := rfl
@[simp] theorem noteReq_consent (src : ReqSource) (r : Status) (s : State) : (noteReq src r s).consent = s.consent := rfl
@[simp] theorem noteReq_arc (src : ReqSource) (r : Status) (s : State) : (noteReq src r s).arc = s.arc := rfl
@[simp] theorem noteReq_cores (src : ReqSource) (r : Status) (s : State) : (noteReq src r s).cores = s.cores := rfl
@[simp] theorem noteReq_meter (src : ReqSource) (r : Status) (s : State) : (noteReq src r s).meter = s.meter := rfl
@[simp] theorem noteReq_ldg (src : ReqSource) (r : Status) (s : State) : (noteReq src r s).ldg = s.ldg := rfl
@[simp] theorem noteReq_lift (src : ReqSource) (r : Status) (s : State) : (noteReq src r s).lift = s.lift := rfl
@[simp] theorem noteReq_motion (src : ReqSource) (r : Status) (s : State) : (noteReq src r s).motion = s.motion := rfl
@[simp] theorem noteReq_door (src : ReqSource) (r : Status) (s : State) : (noteReq src r s).door = s.door := rfl
@[simp] theorem noteReq_kerb (src : ReqSource) (r : Status) (s : State) : (noteReq src r s).kerb = s.kerb := rfl
@[simp] theorem noteReq_bs (src : ReqSource) (r : Status) (s : State) : (noteReq src r s).bs = s.bs := rfl
@[simp] theorem noteReq_fc (src : ReqSource) (r : Status) (s : State) : (noteReq src r s).fc = s.fc := rfl
@[simp] theorem noteReq_pwm (src : ReqSource) (r : Status) (s : State) : (noteReq src r s).pwm = s.pwm := rfl
@[simp] theorem noteReq_blv (src : ReqSource) (r : Status) (s : State) : (noteReq src r s).blv = s.blv := rfl
@[simp] theorem noteReq_link (src : ReqSource) (r : Status) (s : State) : (noteReq src r s).link = s.link := rfl
@[simp] theorem noteReq_pkg (src : ReqSource) (r : Status) (s : State) : (noteReq src r s).pkg = s.pkg := rfl
@[simp] theorem noteReq_mem (src : ReqSource) (r : Status) (s : State) : (noteReq src r s).mem = s.mem := rfl
@[simp] theorem noteReq_ecc (src : ReqSource) (r : Status) (s : State) : (noteReq src r s).ecc = s.ecc := rfl
@[simp] theorem noteReq_reply (src : ReqSource) (r : Status) (s : State) : (noteReq src r s).reply = s.reply := rfl

/-! ### rtcWrite -/

@[simp] theorem rtcWrite_pending (n : Nat) (s : State) : (rtcWrite n s).pending = s.pending := rfl
@[simp] theorem rtcWrite_time (n : Nat) (s : State) : (rtcWrite n s).time = { s.time with rtcSec := n % 2 ^ 32, rtcNs := 0, rtcValid := true } := rfl
@[simp] theorem rtcWrite_mode (n : Nat) (s : State) : (rtcWrite n s).mode = s.mode := rfl
@[simp] theorem rtcWrite_clock (n : Nat) (s : State) : (rtcWrite n s).clock = s.clock := rfl
@[simp] theorem rtcWrite_isl (n : Nat) (s : State) : (rtcWrite n s).isl = s.isl := rfl
@[simp] theorem rtcWrite_host (n : Nat) (s : State) : (rtcWrite n s).host = s.host := rfl
@[simp] theorem rtcWrite_log (n : Nat) (s : State) : (rtcWrite n s).log = s.log := rfl
@[simp] theorem rtcWrite_consent (n : Nat) (s : State) : (rtcWrite n s).consent = s.consent := rfl
@[simp] theorem rtcWrite_arc (n : Nat) (s : State) : (rtcWrite n s).arc = s.arc := rfl
@[simp] theorem rtcWrite_cores (n : Nat) (s : State) : (rtcWrite n s).cores = s.cores := rfl
@[simp] theorem rtcWrite_meter (n : Nat) (s : State) : (rtcWrite n s).meter = s.meter := rfl
@[simp] theorem rtcWrite_ldg (n : Nat) (s : State) : (rtcWrite n s).ldg = s.ldg := rfl
@[simp] theorem rtcWrite_lift (n : Nat) (s : State) : (rtcWrite n s).lift = s.lift := rfl
@[simp] theorem rtcWrite_motion (n : Nat) (s : State) : (rtcWrite n s).motion = s.motion := rfl
@[simp] theorem rtcWrite_door (n : Nat) (s : State) : (rtcWrite n s).door = s.door := rfl
@[simp] theorem rtcWrite_kerb (n : Nat) (s : State) : (rtcWrite n s).kerb = s.kerb := rfl
@[simp] theorem rtcWrite_bs (n : Nat) (s : State) : (rtcWrite n s).bs = s.bs := rfl
@[simp] theorem rtcWrite_fc (n : Nat) (s : State) : (rtcWrite n s).fc = s.fc := rfl
@[simp] theorem rtcWrite_pwm (n : Nat) (s : State) : (rtcWrite n s).pwm = s.pwm := rfl
@[simp] theorem rtcWrite_blv (n : Nat) (s : State) : (rtcWrite n s).blv = s.blv := rfl
@[simp] theorem rtcWrite_link (n : Nat) (s : State) : (rtcWrite n s).link = s.link := rfl
@[simp] theorem rtcWrite_pkg (n : Nat) (s : State) : (rtcWrite n s).pkg = s.pkg := rfl
@[simp] theorem rtcWrite_mem (n : Nat) (s : State) : (rtcWrite n s).mem = s.mem := rfl
@[simp] theorem rtcWrite_ecc (n : Nat) (s : State) : (rtcWrite n s).ecc = s.ecc := rfl
@[simp] theorem rtcWrite_reply (n : Nat) (s : State) : (rtcWrite n s).reply = s.reply := rfl

/-! ### idleTick -/

@[simp] theorem idleTick_pending (s : State) : (idleTick s).pending = s.pending := rfl
@[simp] theorem idleTick_time (s : State) : (idleTick s).time = passTime s.time := rfl
@[simp] theorem idleTick_mode (s : State) : (idleTick s).mode = s.mode := rfl
@[simp] theorem idleTick_clock (s : State) : (idleTick s).clock = s.clock := rfl
@[simp] theorem idleTick_isl (s : State) : (idleTick s).isl = s.isl := rfl
@[simp] theorem idleTick_host (s : State) : (idleTick s).host = s.host := rfl
@[simp] theorem idleTick_log (s : State) : (idleTick s).log = s.log := rfl
@[simp] theorem idleTick_consent (s : State) : (idleTick s).consent = s.consent := rfl
@[simp] theorem idleTick_arc (s : State) : (idleTick s).arc = s.arc := rfl
@[simp] theorem idleTick_cores (s : State) : (idleTick s).cores = s.cores := rfl
@[simp] theorem idleTick_meter (s : State) : (idleTick s).meter = s.meter := rfl
@[simp] theorem idleTick_ldg (s : State) : (idleTick s).ldg = s.ldg := rfl
@[simp] theorem idleTick_lift (s : State) : (idleTick s).lift = s.lift := rfl
@[simp] theorem idleTick_motion (s : State) : (idleTick s).motion = s.motion := rfl
@[simp] theorem idleTick_door (s : State) : (idleTick s).door = s.door := rfl
@[simp] theorem idleTick_kerb (s : State) : (idleTick s).kerb = s.kerb := rfl
@[simp] theorem idleTick_bs (s : State) : (idleTick s).bs = s.bs := rfl
@[simp] theorem idleTick_fc (s : State) : (idleTick s).fc = s.fc := rfl
@[simp] theorem idleTick_pwm (s : State) : (idleTick s).pwm = s.pwm := rfl
@[simp] theorem idleTick_blv (s : State) : (idleTick s).blv = s.blv := rfl
@[simp] theorem idleTick_link (s : State) : (idleTick s).link = s.link := rfl
@[simp] theorem idleTick_pkg (s : State) : (idleTick s).pkg = s.pkg := rfl
@[simp] theorem idleTick_mem (s : State) : (idleTick s).mem = s.mem := rfl
@[simp] theorem idleTick_ecc (s : State) : (idleTick s).ecc = s.ecc := rfl
@[simp] theorem idleTick_reply (s : State) : (idleTick s).reply = s.reply := rfl

/-! ### modMCore -/

@[simp] theorem modMCore_pending (c : Nat) (f : MeterCore → MeterCore) (s : State) : (modMCore c f s).pending = s.pending := rfl
@[simp] theorem modMCore_time (c : Nat) (f : MeterCore → MeterCore) (s : State) : (modMCore c f s).time = s.time := rfl
@[simp] theorem modMCore_mode (c : Nat) (f : MeterCore → MeterCore) (s : State) : (modMCore c f s).mode = s.mode := rfl
@[simp] theorem modMCore_clock (c : Nat) (f : MeterCore → MeterCore) (s : State) : (modMCore c f s).clock = s.clock := rfl
@[simp] theorem modMCore_isl (c : Nat) (f : MeterCore → MeterCore) (s : State) : (modMCore c f s).isl = s.isl := rfl
@[simp] theorem modMCore_host (c : Nat) (f : MeterCore → MeterCore) (s : State) : (modMCore c f s).host = s.host := rfl
@[simp] theorem modMCore_log (c : Nat) (f : MeterCore → MeterCore) (s : State) : (modMCore c f s).log = s.log := rfl
@[simp] theorem modMCore_consent (c : Nat) (f : MeterCore → MeterCore) (s : State) : (modMCore c f s).consent = s.consent := rfl
@[simp] theorem modMCore_arc (c : Nat) (f : MeterCore → MeterCore) (s : State) : (modMCore c f s).arc = s.arc := rfl
@[simp] theorem modMCore_cores (c : Nat) (f : MeterCore → MeterCore) (s : State) : (modMCore c f s).cores = s.cores := rfl
@[simp] theorem modMCore_meter (c : Nat) (f : MeterCore → MeterCore) (s : State) : (modMCore c f s).meter = { s.meter with cores := vmod s.meter.cores c f } := rfl
@[simp] theorem modMCore_ldg (c : Nat) (f : MeterCore → MeterCore) (s : State) : (modMCore c f s).ldg = s.ldg := rfl
@[simp] theorem modMCore_lift (c : Nat) (f : MeterCore → MeterCore) (s : State) : (modMCore c f s).lift = s.lift := rfl
@[simp] theorem modMCore_motion (c : Nat) (f : MeterCore → MeterCore) (s : State) : (modMCore c f s).motion = s.motion := rfl
@[simp] theorem modMCore_door (c : Nat) (f : MeterCore → MeterCore) (s : State) : (modMCore c f s).door = s.door := rfl
@[simp] theorem modMCore_kerb (c : Nat) (f : MeterCore → MeterCore) (s : State) : (modMCore c f s).kerb = s.kerb := rfl
@[simp] theorem modMCore_bs (c : Nat) (f : MeterCore → MeterCore) (s : State) : (modMCore c f s).bs = s.bs := rfl
@[simp] theorem modMCore_fc (c : Nat) (f : MeterCore → MeterCore) (s : State) : (modMCore c f s).fc = s.fc := rfl
@[simp] theorem modMCore_pwm (c : Nat) (f : MeterCore → MeterCore) (s : State) : (modMCore c f s).pwm = s.pwm := rfl
@[simp] theorem modMCore_blv (c : Nat) (f : MeterCore → MeterCore) (s : State) : (modMCore c f s).blv = s.blv := rfl
@[simp] theorem modMCore_link (c : Nat) (f : MeterCore → MeterCore) (s : State) : (modMCore c f s).link = s.link := rfl
@[simp] theorem modMCore_pkg (c : Nat) (f : MeterCore → MeterCore) (s : State) : (modMCore c f s).pkg = s.pkg := rfl
@[simp] theorem modMCore_mem (c : Nat) (f : MeterCore → MeterCore) (s : State) : (modMCore c f s).mem = s.mem := rfl
@[simp] theorem modMCore_ecc (c : Nat) (f : MeterCore → MeterCore) (s : State) : (modMCore c f s).ecc = s.ecc := rfl
@[simp] theorem modMCore_reply (c : Nat) (f : MeterCore → MeterCore) (s : State) : (modMCore c f s).reply = s.reply := rfl

/-! ### modPoint -/

@[simp] theorem modPoint_pending (p : Nat) (f : PointSt → PointSt) (s : State) : (modPoint p f s).pending = s.pending := rfl
@[simp] theorem modPoint_time (p : Nat) (f : PointSt → PointSt) (s : State) : (modPoint p f s).time = s.time := rfl
@[simp] theorem modPoint_mode (p : Nat) (f : PointSt → PointSt) (s : State) : (modPoint p f s).mode = s.mode := rfl
@[simp] theorem modPoint_clock (p : Nat) (f : PointSt → PointSt) (s : State) : (modPoint p f s).clock = s.clock := rfl
@[simp] theorem modPoint_isl (p : Nat) (f : PointSt → PointSt) (s : State) : (modPoint p f s).isl = s.isl := rfl
@[simp] theorem modPoint_host (p : Nat) (f : PointSt → PointSt) (s : State) : (modPoint p f s).host = s.host := rfl
@[simp] theorem modPoint_log (p : Nat) (f : PointSt → PointSt) (s : State) : (modPoint p f s).log = s.log := rfl
@[simp] theorem modPoint_consent (p : Nat) (f : PointSt → PointSt) (s : State) : (modPoint p f s).consent = s.consent := rfl
@[simp] theorem modPoint_arc (p : Nat) (f : PointSt → PointSt) (s : State) : (modPoint p f s).arc = s.arc := rfl
@[simp] theorem modPoint_cores (p : Nat) (f : PointSt → PointSt) (s : State) : (modPoint p f s).cores = s.cores := rfl
@[simp] theorem modPoint_meter (p : Nat) (f : PointSt → PointSt) (s : State) : (modPoint p f s).meter = { s.meter with points := vmod s.meter.points p f } := rfl
@[simp] theorem modPoint_ldg (p : Nat) (f : PointSt → PointSt) (s : State) : (modPoint p f s).ldg = s.ldg := rfl
@[simp] theorem modPoint_lift (p : Nat) (f : PointSt → PointSt) (s : State) : (modPoint p f s).lift = s.lift := rfl
@[simp] theorem modPoint_motion (p : Nat) (f : PointSt → PointSt) (s : State) : (modPoint p f s).motion = s.motion := rfl
@[simp] theorem modPoint_door (p : Nat) (f : PointSt → PointSt) (s : State) : (modPoint p f s).door = s.door := rfl
@[simp] theorem modPoint_kerb (p : Nat) (f : PointSt → PointSt) (s : State) : (modPoint p f s).kerb = s.kerb := rfl
@[simp] theorem modPoint_bs (p : Nat) (f : PointSt → PointSt) (s : State) : (modPoint p f s).bs = s.bs := rfl
@[simp] theorem modPoint_fc (p : Nat) (f : PointSt → PointSt) (s : State) : (modPoint p f s).fc = s.fc := rfl
@[simp] theorem modPoint_pwm (p : Nat) (f : PointSt → PointSt) (s : State) : (modPoint p f s).pwm = s.pwm := rfl
@[simp] theorem modPoint_blv (p : Nat) (f : PointSt → PointSt) (s : State) : (modPoint p f s).blv = s.blv := rfl
@[simp] theorem modPoint_link (p : Nat) (f : PointSt → PointSt) (s : State) : (modPoint p f s).link = s.link := rfl
@[simp] theorem modPoint_pkg (p : Nat) (f : PointSt → PointSt) (s : State) : (modPoint p f s).pkg = s.pkg := rfl
@[simp] theorem modPoint_mem (p : Nat) (f : PointSt → PointSt) (s : State) : (modPoint p f s).mem = s.mem := rfl
@[simp] theorem modPoint_ecc (p : Nat) (f : PointSt → PointSt) (s : State) : (modPoint p f s).ecc = s.ecc := rfl
@[simp] theorem modPoint_reply (p : Nat) (f : PointSt → PointSt) (s : State) : (modPoint p f s).reply = s.reply := rfl

/-! ### modLdg -/

@[simp] theorem modLdg_pending (f : LedgerState → LedgerState) (s : State) : (modLdg f s).pending = s.pending := rfl
@[simp] theorem modLdg_time (f : LedgerState → LedgerState) (s : State) : (modLdg f s).time = s.time := rfl
@[simp] theorem modLdg_mode (f : LedgerState → LedgerState) (s : State) : (modLdg f s).mode = s.mode := rfl
@[simp] theorem modLdg_clock (f : LedgerState → LedgerState) (s : State) : (modLdg f s).clock = s.clock := rfl
@[simp] theorem modLdg_isl (f : LedgerState → LedgerState) (s : State) : (modLdg f s).isl = s.isl := rfl
@[simp] theorem modLdg_host (f : LedgerState → LedgerState) (s : State) : (modLdg f s).host = s.host := rfl
@[simp] theorem modLdg_log (f : LedgerState → LedgerState) (s : State) : (modLdg f s).log = s.log := rfl
@[simp] theorem modLdg_consent (f : LedgerState → LedgerState) (s : State) : (modLdg f s).consent = s.consent := rfl
@[simp] theorem modLdg_arc (f : LedgerState → LedgerState) (s : State) : (modLdg f s).arc = s.arc := rfl
@[simp] theorem modLdg_cores (f : LedgerState → LedgerState) (s : State) : (modLdg f s).cores = s.cores := rfl
@[simp] theorem modLdg_meter (f : LedgerState → LedgerState) (s : State) : (modLdg f s).meter = s.meter := rfl
@[simp] theorem modLdg_ldg (f : LedgerState → LedgerState) (s : State) : (modLdg f s).ldg = f s.ldg := rfl
@[simp] theorem modLdg_lift (f : LedgerState → LedgerState) (s : State) : (modLdg f s).lift = s.lift := rfl
@[simp] theorem modLdg_motion (f : LedgerState → LedgerState) (s : State) : (modLdg f s).motion = s.motion := rfl
@[simp] theorem modLdg_door (f : LedgerState → LedgerState) (s : State) : (modLdg f s).door = s.door := rfl
@[simp] theorem modLdg_kerb (f : LedgerState → LedgerState) (s : State) : (modLdg f s).kerb = s.kerb := rfl
@[simp] theorem modLdg_bs (f : LedgerState → LedgerState) (s : State) : (modLdg f s).bs = s.bs := rfl
@[simp] theorem modLdg_fc (f : LedgerState → LedgerState) (s : State) : (modLdg f s).fc = s.fc := rfl
@[simp] theorem modLdg_pwm (f : LedgerState → LedgerState) (s : State) : (modLdg f s).pwm = s.pwm := rfl
@[simp] theorem modLdg_blv (f : LedgerState → LedgerState) (s : State) : (modLdg f s).blv = s.blv := rfl
@[simp] theorem modLdg_link (f : LedgerState → LedgerState) (s : State) : (modLdg f s).link = s.link := rfl
@[simp] theorem modLdg_pkg (f : LedgerState → LedgerState) (s : State) : (modLdg f s).pkg = s.pkg := rfl
@[simp] theorem modLdg_mem (f : LedgerState → LedgerState) (s : State) : (modLdg f s).mem = s.mem := rfl
@[simp] theorem modLdg_ecc (f : LedgerState → LedgerState) (s : State) : (modLdg f s).ecc = s.ecc := rfl
@[simp] theorem modLdg_reply (f : LedgerState → LedgerState) (s : State) : (modLdg f s).reply = s.reply := rfl

/-! ### modLift -/

@[simp] theorem modLift_pending (f : LiftState → LiftState) (s : State) : (modLift f s).pending = s.pending := rfl
@[simp] theorem modLift_time (f : LiftState → LiftState) (s : State) : (modLift f s).time = s.time := rfl
@[simp] theorem modLift_mode (f : LiftState → LiftState) (s : State) : (modLift f s).mode = s.mode := rfl
@[simp] theorem modLift_clock (f : LiftState → LiftState) (s : State) : (modLift f s).clock = s.clock := rfl
@[simp] theorem modLift_isl (f : LiftState → LiftState) (s : State) : (modLift f s).isl = s.isl := rfl
@[simp] theorem modLift_host (f : LiftState → LiftState) (s : State) : (modLift f s).host = s.host := rfl
@[simp] theorem modLift_log (f : LiftState → LiftState) (s : State) : (modLift f s).log = s.log := rfl
@[simp] theorem modLift_consent (f : LiftState → LiftState) (s : State) : (modLift f s).consent = s.consent := rfl
@[simp] theorem modLift_arc (f : LiftState → LiftState) (s : State) : (modLift f s).arc = s.arc := rfl
@[simp] theorem modLift_cores (f : LiftState → LiftState) (s : State) : (modLift f s).cores = s.cores := rfl
@[simp] theorem modLift_meter (f : LiftState → LiftState) (s : State) : (modLift f s).meter = s.meter := rfl
@[simp] theorem modLift_ldg (f : LiftState → LiftState) (s : State) : (modLift f s).ldg = s.ldg := rfl
@[simp] theorem modLift_lift (f : LiftState → LiftState) (s : State) : (modLift f s).lift = f s.lift := rfl
@[simp] theorem modLift_motion (f : LiftState → LiftState) (s : State) : (modLift f s).motion = s.motion := rfl
@[simp] theorem modLift_door (f : LiftState → LiftState) (s : State) : (modLift f s).door = s.door := rfl
@[simp] theorem modLift_kerb (f : LiftState → LiftState) (s : State) : (modLift f s).kerb = s.kerb := rfl
@[simp] theorem modLift_bs (f : LiftState → LiftState) (s : State) : (modLift f s).bs = s.bs := rfl
@[simp] theorem modLift_fc (f : LiftState → LiftState) (s : State) : (modLift f s).fc = s.fc := rfl
@[simp] theorem modLift_pwm (f : LiftState → LiftState) (s : State) : (modLift f s).pwm = s.pwm := rfl
@[simp] theorem modLift_blv (f : LiftState → LiftState) (s : State) : (modLift f s).blv = s.blv := rfl
@[simp] theorem modLift_link (f : LiftState → LiftState) (s : State) : (modLift f s).link = s.link := rfl
@[simp] theorem modLift_pkg (f : LiftState → LiftState) (s : State) : (modLift f s).pkg = s.pkg := rfl
@[simp] theorem modLift_mem (f : LiftState → LiftState) (s : State) : (modLift f s).mem = s.mem := rfl
@[simp] theorem modLift_ecc (f : LiftState → LiftState) (s : State) : (modLift f s).ecc = s.ecc := rfl
@[simp] theorem modLift_reply (f : LiftState → LiftState) (s : State) : (modLift f s).reply = s.reply := rfl

/-! ### modMot -/

@[simp] theorem modMot_pending (f : MotionState → MotionState) (s : State) : (modMot f s).pending = s.pending := rfl
@[simp] theorem modMot_time (f : MotionState → MotionState) (s : State) : (modMot f s).time = s.time := rfl
@[simp] theorem modMot_mode (f : MotionState → MotionState) (s : State) : (modMot f s).mode = s.mode := rfl
@[simp] theorem modMot_clock (f : MotionState → MotionState) (s : State) : (modMot f s).clock = s.clock := rfl
@[simp] theorem modMot_isl (f : MotionState → MotionState) (s : State) : (modMot f s).isl = s.isl := rfl
@[simp] theorem modMot_host (f : MotionState → MotionState) (s : State) : (modMot f s).host = s.host := rfl
@[simp] theorem modMot_log (f : MotionState → MotionState) (s : State) : (modMot f s).log = s.log := rfl
@[simp] theorem modMot_consent (f : MotionState → MotionState) (s : State) : (modMot f s).consent = s.consent := rfl
@[simp] theorem modMot_arc (f : MotionState → MotionState) (s : State) : (modMot f s).arc = s.arc := rfl
@[simp] theorem modMot_cores (f : MotionState → MotionState) (s : State) : (modMot f s).cores = s.cores := rfl
@[simp] theorem modMot_meter (f : MotionState → MotionState) (s : State) : (modMot f s).meter = s.meter := rfl
@[simp] theorem modMot_ldg (f : MotionState → MotionState) (s : State) : (modMot f s).ldg = s.ldg := rfl
@[simp] theorem modMot_lift (f : MotionState → MotionState) (s : State) : (modMot f s).lift = s.lift := rfl
@[simp] theorem modMot_motion (f : MotionState → MotionState) (s : State) : (modMot f s).motion = f s.motion := rfl
@[simp] theorem modMot_door (f : MotionState → MotionState) (s : State) : (modMot f s).door = s.door := rfl
@[simp] theorem modMot_kerb (f : MotionState → MotionState) (s : State) : (modMot f s).kerb = s.kerb := rfl
@[simp] theorem modMot_bs (f : MotionState → MotionState) (s : State) : (modMot f s).bs = s.bs := rfl
@[simp] theorem modMot_fc (f : MotionState → MotionState) (s : State) : (modMot f s).fc = s.fc := rfl
@[simp] theorem modMot_pwm (f : MotionState → MotionState) (s : State) : (modMot f s).pwm = s.pwm := rfl
@[simp] theorem modMot_blv (f : MotionState → MotionState) (s : State) : (modMot f s).blv = s.blv := rfl
@[simp] theorem modMot_link (f : MotionState → MotionState) (s : State) : (modMot f s).link = s.link := rfl
@[simp] theorem modMot_pkg (f : MotionState → MotionState) (s : State) : (modMot f s).pkg = s.pkg := rfl
@[simp] theorem modMot_mem (f : MotionState → MotionState) (s : State) : (modMot f s).mem = s.mem := rfl
@[simp] theorem modMot_ecc (f : MotionState → MotionState) (s : State) : (modMot f s).ecc = s.ecc := rfl
@[simp] theorem modMot_reply (f : MotionState → MotionState) (s : State) : (modMot f s).reply = s.reply := rfl

/-! ### modDd -/

@[simp] theorem modDd_pending (f : DoorState → DoorState) (s : State) : (modDd f s).pending = s.pending := rfl
@[simp] theorem modDd_time (f : DoorState → DoorState) (s : State) : (modDd f s).time = s.time := rfl
@[simp] theorem modDd_mode (f : DoorState → DoorState) (s : State) : (modDd f s).mode = s.mode := rfl
@[simp] theorem modDd_clock (f : DoorState → DoorState) (s : State) : (modDd f s).clock = s.clock := rfl
@[simp] theorem modDd_isl (f : DoorState → DoorState) (s : State) : (modDd f s).isl = s.isl := rfl
@[simp] theorem modDd_host (f : DoorState → DoorState) (s : State) : (modDd f s).host = s.host := rfl
@[simp] theorem modDd_log (f : DoorState → DoorState) (s : State) : (modDd f s).log = s.log := rfl
@[simp] theorem modDd_consent (f : DoorState → DoorState) (s : State) : (modDd f s).consent = s.consent := rfl
@[simp] theorem modDd_arc (f : DoorState → DoorState) (s : State) : (modDd f s).arc = s.arc := rfl
@[simp] theorem modDd_cores (f : DoorState → DoorState) (s : State) : (modDd f s).cores = s.cores := rfl
@[simp] theorem modDd_meter (f : DoorState → DoorState) (s : State) : (modDd f s).meter = s.meter := rfl
@[simp] theorem modDd_ldg (f : DoorState → DoorState) (s : State) : (modDd f s).ldg = s.ldg := rfl
@[simp] theorem modDd_lift (f : DoorState → DoorState) (s : State) : (modDd f s).lift = s.lift := rfl
@[simp] theorem modDd_motion (f : DoorState → DoorState) (s : State) : (modDd f s).motion = s.motion := rfl
@[simp] theorem modDd_door (f : DoorState → DoorState) (s : State) : (modDd f s).door = f s.door := rfl
@[simp] theorem modDd_kerb (f : DoorState → DoorState) (s : State) : (modDd f s).kerb = s.kerb := rfl
@[simp] theorem modDd_bs (f : DoorState → DoorState) (s : State) : (modDd f s).bs = s.bs := rfl
@[simp] theorem modDd_fc (f : DoorState → DoorState) (s : State) : (modDd f s).fc = s.fc := rfl
@[simp] theorem modDd_pwm (f : DoorState → DoorState) (s : State) : (modDd f s).pwm = s.pwm := rfl
@[simp] theorem modDd_blv (f : DoorState → DoorState) (s : State) : (modDd f s).blv = s.blv := rfl
@[simp] theorem modDd_link (f : DoorState → DoorState) (s : State) : (modDd f s).link = s.link := rfl
@[simp] theorem modDd_pkg (f : DoorState → DoorState) (s : State) : (modDd f s).pkg = s.pkg := rfl
@[simp] theorem modDd_mem (f : DoorState → DoorState) (s : State) : (modDd f s).mem = s.mem := rfl
@[simp] theorem modDd_ecc (f : DoorState → DoorState) (s : State) : (modDd f s).ecc = s.ecc := rfl
@[simp] theorem modDd_reply (f : DoorState → DoorState) (s : State) : (modDd f s).reply = s.reply := rfl

/-! ### modKerb -/

@[simp] theorem modKerb_pending (f : KerbState → KerbState) (s : State) : (modKerb f s).pending = s.pending := rfl
@[simp] theorem modKerb_time (f : KerbState → KerbState) (s : State) : (modKerb f s).time = s.time := rfl
@[simp] theorem modKerb_mode (f : KerbState → KerbState) (s : State) : (modKerb f s).mode = s.mode := rfl
@[simp] theorem modKerb_clock (f : KerbState → KerbState) (s : State) : (modKerb f s).clock = s.clock := rfl
@[simp] theorem modKerb_isl (f : KerbState → KerbState) (s : State) : (modKerb f s).isl = s.isl := rfl
@[simp] theorem modKerb_host (f : KerbState → KerbState) (s : State) : (modKerb f s).host = s.host := rfl
@[simp] theorem modKerb_log (f : KerbState → KerbState) (s : State) : (modKerb f s).log = s.log := rfl
@[simp] theorem modKerb_consent (f : KerbState → KerbState) (s : State) : (modKerb f s).consent = s.consent := rfl
@[simp] theorem modKerb_arc (f : KerbState → KerbState) (s : State) : (modKerb f s).arc = s.arc := rfl
@[simp] theorem modKerb_cores (f : KerbState → KerbState) (s : State) : (modKerb f s).cores = s.cores := rfl
@[simp] theorem modKerb_meter (f : KerbState → KerbState) (s : State) : (modKerb f s).meter = s.meter := rfl
@[simp] theorem modKerb_ldg (f : KerbState → KerbState) (s : State) : (modKerb f s).ldg = s.ldg := rfl
@[simp] theorem modKerb_lift (f : KerbState → KerbState) (s : State) : (modKerb f s).lift = s.lift := rfl
@[simp] theorem modKerb_motion (f : KerbState → KerbState) (s : State) : (modKerb f s).motion = s.motion := rfl
@[simp] theorem modKerb_door (f : KerbState → KerbState) (s : State) : (modKerb f s).door = s.door := rfl
@[simp] theorem modKerb_kerb (f : KerbState → KerbState) (s : State) : (modKerb f s).kerb = f s.kerb := rfl
@[simp] theorem modKerb_bs (f : KerbState → KerbState) (s : State) : (modKerb f s).bs = s.bs := rfl
@[simp] theorem modKerb_fc (f : KerbState → KerbState) (s : State) : (modKerb f s).fc = s.fc := rfl
@[simp] theorem modKerb_pwm (f : KerbState → KerbState) (s : State) : (modKerb f s).pwm = s.pwm := rfl
@[simp] theorem modKerb_blv (f : KerbState → KerbState) (s : State) : (modKerb f s).blv = s.blv := rfl
@[simp] theorem modKerb_link (f : KerbState → KerbState) (s : State) : (modKerb f s).link = s.link := rfl
@[simp] theorem modKerb_pkg (f : KerbState → KerbState) (s : State) : (modKerb f s).pkg = s.pkg := rfl
@[simp] theorem modKerb_mem (f : KerbState → KerbState) (s : State) : (modKerb f s).mem = s.mem := rfl
@[simp] theorem modKerb_ecc (f : KerbState → KerbState) (s : State) : (modKerb f s).ecc = s.ecc := rfl
@[simp] theorem modKerb_reply (f : KerbState → KerbState) (s : State) : (modKerb f s).reply = s.reply := rfl

/-! ### modBs -/

@[simp] theorem modBs_pending (f : BsState → BsState) (s : State) : (modBs f s).pending = s.pending := rfl
@[simp] theorem modBs_time (f : BsState → BsState) (s : State) : (modBs f s).time = s.time := rfl
@[simp] theorem modBs_mode (f : BsState → BsState) (s : State) : (modBs f s).mode = s.mode := rfl
@[simp] theorem modBs_clock (f : BsState → BsState) (s : State) : (modBs f s).clock = s.clock := rfl
@[simp] theorem modBs_isl (f : BsState → BsState) (s : State) : (modBs f s).isl = s.isl := rfl
@[simp] theorem modBs_host (f : BsState → BsState) (s : State) : (modBs f s).host = s.host := rfl
@[simp] theorem modBs_log (f : BsState → BsState) (s : State) : (modBs f s).log = s.log := rfl
@[simp] theorem modBs_consent (f : BsState → BsState) (s : State) : (modBs f s).consent = s.consent := rfl
@[simp] theorem modBs_arc (f : BsState → BsState) (s : State) : (modBs f s).arc = s.arc := rfl
@[simp] theorem modBs_cores (f : BsState → BsState) (s : State) : (modBs f s).cores = s.cores := rfl
@[simp] theorem modBs_meter (f : BsState → BsState) (s : State) : (modBs f s).meter = s.meter := rfl
@[simp] theorem modBs_ldg (f : BsState → BsState) (s : State) : (modBs f s).ldg = s.ldg := rfl
@[simp] theorem modBs_lift (f : BsState → BsState) (s : State) : (modBs f s).lift = s.lift := rfl
@[simp] theorem modBs_motion (f : BsState → BsState) (s : State) : (modBs f s).motion = s.motion := rfl
@[simp] theorem modBs_door (f : BsState → BsState) (s : State) : (modBs f s).door = s.door := rfl
@[simp] theorem modBs_kerb (f : BsState → BsState) (s : State) : (modBs f s).kerb = s.kerb := rfl
@[simp] theorem modBs_bs (f : BsState → BsState) (s : State) : (modBs f s).bs = f s.bs := rfl
@[simp] theorem modBs_fc (f : BsState → BsState) (s : State) : (modBs f s).fc = s.fc := rfl
@[simp] theorem modBs_pwm (f : BsState → BsState) (s : State) : (modBs f s).pwm = s.pwm := rfl
@[simp] theorem modBs_blv (f : BsState → BsState) (s : State) : (modBs f s).blv = s.blv := rfl
@[simp] theorem modBs_link (f : BsState → BsState) (s : State) : (modBs f s).link = s.link := rfl
@[simp] theorem modBs_pkg (f : BsState → BsState) (s : State) : (modBs f s).pkg = s.pkg := rfl
@[simp] theorem modBs_mem (f : BsState → BsState) (s : State) : (modBs f s).mem = s.mem := rfl
@[simp] theorem modBs_ecc (f : BsState → BsState) (s : State) : (modBs f s).ecc = s.ecc := rfl
@[simp] theorem modBs_reply (f : BsState → BsState) (s : State) : (modBs f s).reply = s.reply := rfl

/-! ### modFc -/

@[simp] theorem modFc_pending (f : FcState → FcState) (s : State) : (modFc f s).pending = s.pending := rfl
@[simp] theorem modFc_time (f : FcState → FcState) (s : State) : (modFc f s).time = s.time := rfl
@[simp] theorem modFc_mode (f : FcState → FcState) (s : State) : (modFc f s).mode = s.mode := rfl
@[simp] theorem modFc_clock (f : FcState → FcState) (s : State) : (modFc f s).clock = s.clock := rfl
@[simp] theorem modFc_isl (f : FcState → FcState) (s : State) : (modFc f s).isl = s.isl := rfl
@[simp] theorem modFc_host (f : FcState → FcState) (s : State) : (modFc f s).host = s.host := rfl
@[simp] theorem modFc_log (f : FcState → FcState) (s : State) : (modFc f s).log = s.log := rfl
@[simp] theorem modFc_consent (f : FcState → FcState) (s : State) : (modFc f s).consent = s.consent := rfl
@[simp] theorem modFc_arc (f : FcState → FcState) (s : State) : (modFc f s).arc = s.arc := rfl
@[simp] theorem modFc_cores (f : FcState → FcState) (s : State) : (modFc f s).cores = s.cores := rfl
@[simp] theorem modFc_meter (f : FcState → FcState) (s : State) : (modFc f s).meter = s.meter := rfl
@[simp] theorem modFc_ldg (f : FcState → FcState) (s : State) : (modFc f s).ldg = s.ldg := rfl
@[simp] theorem modFc_lift (f : FcState → FcState) (s : State) : (modFc f s).lift = s.lift := rfl
@[simp] theorem modFc_motion (f : FcState → FcState) (s : State) : (modFc f s).motion = s.motion := rfl
@[simp] theorem modFc_door (f : FcState → FcState) (s : State) : (modFc f s).door = s.door := rfl
@[simp] theorem modFc_kerb (f : FcState → FcState) (s : State) : (modFc f s).kerb = s.kerb := rfl
@[simp] theorem modFc_bs (f : FcState → FcState) (s : State) : (modFc f s).bs = s.bs := rfl
@[simp] theorem modFc_fc (f : FcState → FcState) (s : State) : (modFc f s).fc = f s.fc := rfl
@[simp] theorem modFc_pwm (f : FcState → FcState) (s : State) : (modFc f s).pwm = s.pwm := rfl
@[simp] theorem modFc_blv (f : FcState → FcState) (s : State) : (modFc f s).blv = s.blv := rfl
@[simp] theorem modFc_link (f : FcState → FcState) (s : State) : (modFc f s).link = s.link := rfl
@[simp] theorem modFc_pkg (f : FcState → FcState) (s : State) : (modFc f s).pkg = s.pkg := rfl
@[simp] theorem modFc_mem (f : FcState → FcState) (s : State) : (modFc f s).mem = s.mem := rfl
@[simp] theorem modFc_ecc (f : FcState → FcState) (s : State) : (modFc f s).ecc = s.ecc := rfl
@[simp] theorem modFc_reply (f : FcState → FcState) (s : State) : (modFc f s).reply = s.reply := rfl

/-! ### modChan -/

@[simp] theorem modChan_pending (n : Nat) (f : PwmChan → PwmChan) (s : State) : (modChan n f s).pending = s.pending := rfl
@[simp] theorem modChan_time (n : Nat) (f : PwmChan → PwmChan) (s : State) : (modChan n f s).time = s.time := rfl
@[simp] theorem modChan_mode (n : Nat) (f : PwmChan → PwmChan) (s : State) : (modChan n f s).mode = s.mode := rfl
@[simp] theorem modChan_clock (n : Nat) (f : PwmChan → PwmChan) (s : State) : (modChan n f s).clock = s.clock := rfl
@[simp] theorem modChan_isl (n : Nat) (f : PwmChan → PwmChan) (s : State) : (modChan n f s).isl = s.isl := rfl
@[simp] theorem modChan_host (n : Nat) (f : PwmChan → PwmChan) (s : State) : (modChan n f s).host = s.host := rfl
@[simp] theorem modChan_log (n : Nat) (f : PwmChan → PwmChan) (s : State) : (modChan n f s).log = s.log := rfl
@[simp] theorem modChan_consent (n : Nat) (f : PwmChan → PwmChan) (s : State) : (modChan n f s).consent = s.consent := rfl
@[simp] theorem modChan_arc (n : Nat) (f : PwmChan → PwmChan) (s : State) : (modChan n f s).arc = s.arc := rfl
@[simp] theorem modChan_cores (n : Nat) (f : PwmChan → PwmChan) (s : State) : (modChan n f s).cores = s.cores := rfl
@[simp] theorem modChan_meter (n : Nat) (f : PwmChan → PwmChan) (s : State) : (modChan n f s).meter = s.meter := rfl
@[simp] theorem modChan_ldg (n : Nat) (f : PwmChan → PwmChan) (s : State) : (modChan n f s).ldg = s.ldg := rfl
@[simp] theorem modChan_lift (n : Nat) (f : PwmChan → PwmChan) (s : State) : (modChan n f s).lift = s.lift := rfl
@[simp] theorem modChan_motion (n : Nat) (f : PwmChan → PwmChan) (s : State) : (modChan n f s).motion = s.motion := rfl
@[simp] theorem modChan_door (n : Nat) (f : PwmChan → PwmChan) (s : State) : (modChan n f s).door = s.door := rfl
@[simp] theorem modChan_kerb (n : Nat) (f : PwmChan → PwmChan) (s : State) : (modChan n f s).kerb = s.kerb := rfl
@[simp] theorem modChan_bs (n : Nat) (f : PwmChan → PwmChan) (s : State) : (modChan n f s).bs = s.bs := rfl
@[simp] theorem modChan_fc (n : Nat) (f : PwmChan → PwmChan) (s : State) : (modChan n f s).fc = s.fc := rfl
@[simp] theorem modChan_pwm (n : Nat) (f : PwmChan → PwmChan) (s : State) : (modChan n f s).pwm = { s.pwm with chans := vmod s.pwm.chans n f } := rfl
@[simp] theorem modChan_blv (n : Nat) (f : PwmChan → PwmChan) (s : State) : (modChan n f s).blv = s.blv := rfl
@[simp] theorem modChan_link (n : Nat) (f : PwmChan → PwmChan) (s : State) : (modChan n f s).link = s.link := rfl
@[simp] theorem modChan_pkg (n : Nat) (f : PwmChan → PwmChan) (s : State) : (modChan n f s).pkg = s.pkg := rfl
@[simp] theorem modChan_mem (n : Nat) (f : PwmChan → PwmChan) (s : State) : (modChan n f s).mem = s.mem := rfl
@[simp] theorem modChan_ecc (n : Nat) (f : PwmChan → PwmChan) (s : State) : (modChan n f s).ecc = s.ecc := rfl
@[simp] theorem modChan_reply (n : Nat) (f : PwmChan → PwmChan) (s : State) : (modChan n f s).reply = s.reply := rfl

/-! ### Reading one entry of a table back -/

theorem isl_modIsl (s : State) (i j : Nat) (f : Island → Island) :
    isl (modIsl s i f) j = if i = j ∧ i < 16 then f (isl s j) else isl s j := vget_vmod s.isl i j f Island.init

theorem pll_modPll (s : State) (p q : Nat) (f : Pll → Pll) :
    pll (modPll p f s) q = if p = q ∧ p < 5 then f (pll s q) else pll s q := vget_vmod s.clock.pll p q f (Pll.init 0)

theorem core_modCore (s : State) (n m : Nat) (f : CoreState → CoreState) :
    core (modCore n f s) m = if n = m ∧ n < 8 then f (core s m) else core s m := vget_vmod s.cores n m f CoreState.init

theorem axis_modAxis (s : State) (a b : Nat) (f : Axis → Axis) :
    axis (modAxis a f s) b = if a = b ∧ a < 24 then f (axis s b) else axis s b := vget_vmod s.motion.axes a b f Axis.init

theorem door_modDoor (s : State) (a b : Nat) (f : DoorAxis → DoorAxis) :
    door (modDoor a f s) b = if a = b ∧ a < 16 then f (door s b) else door s b := vget_vmod s.door.doors a b f DoorAxis.init

theorem car_modCar (s : State) (a b : Nat) (f : Car → Car) :
    car (modCar a f s) b = if a = b ∧ a < 8 then f (car s b) else car s b := vget_vmod s.lift.cars a b f Car.init

theorem voice_modVoice (s : State) (a b : Nat) (f : Voice → Voice) :
    voice (modVoice a f s) b = if a = b ∧ a < 256 then f (voice s b) else voice s b := vget_vmod s.bs.voices a b f Voice.init

theorem tget_tput {α : Type} (i j : Nat) (x : α) : ∀ t : List (Nat × α), tget (tput i x t) j = if i = j then some x else tget t j
  | [] => by
    by_cases h : i = j <;> simp [tput, tget, h]
  | (k, y) :: t => by
    unfold tput
    split
    · by_cases h : i = j <;> simp [tget, h]
    · split
      · rename_i h
        subst h
        by_cases h : i = j <;> simp [tget, h]
      · simp only [tget, tget_tput i j x t]
        by_cases hk : k = j
        · subst hk
          rename_i h1 h2
          simp [h2]
        · simp [hk]

/-- A queue reads back as stored, and every other queue as before. -/
theorem qGet_qPut (s : State) (q r : Nat) (x : Queue) : qGet (qPut q x s) r = if q = r then some x else qGet s r :=
  tget_tput q r x s.arc.queues

theorem setBitN_testBit (m i : Nat) : (setBitN m i true).testBit i = true := by
  unfold setBitN
  split
  · assumption
  · rename_i h
    simp only [if_true]
    rw [Nat.add_comm]
    simpa [Nat.testBit_two_pow_add_eq] using h

end Sys2Proof.Machine
end

