-- ==== Sys2Proof/Laws/Frame.lean ====
section
/-! SUPPORT. One entry of a table through the frame of an operation: an island, the host port or a core but for what a doorbell
or an interrupt request may touch in it. -/
set_option linter.all false
set_option Elab.async false
namespace Sys2Proof.Machine
open Sys2Proof

theorem vget_map {α β : Type} {n : Nat} (q : α → β) (v : Vector α n) (i : Nat) (d : α) :
    vget (v.map q) i (q d) = q (vget v i d) := by
  unfold vget
  split
  · simp
  · rfl

theorem islQuiet_of_only {k : Nat} {s t : State} (h : Only k s t) (hk : k.testBit 24 = false) (i : Nat) :
    (isl t i).quiet = (isl s i).quiet := by
  have := congrArg (fun v => vget v i Island.init.quiet) (h.islR hk)
  simp only [vget_map] at this
  exact this

theorem coreQuiet_of_only {k : Nat} {s t : State} (h : Only k s t) (hk : k.testBit 26 = false) (n : Nat) :
    (core t n).quiet = (core s n).quiet := by
  have := congrArg (fun v => vget v n CoreState.init.quiet) (h.coresR hk)
  simp only [vget_map] at this
  exact this

/-- Two islands that agree but for latched doorbells agree in every other field. -/
theorem Island.of_quiet {x y : Island} (h : x.quiet = y.quiet) :
    x.st = y.st ∧ x.fence = y.fence ∧ x.epoch = y.epoch ∧ x.restarts = y.restarts ∧ x.restartTimes = y.restartTimes ∧
      x.resetPending = y.resetPending ∧ x.heldPending = y.heldPending ∧ x.recoverPending = y.recoverPending ∧
      x.latched = y.latched ∧ x.faulted = y.faulted ∧ x.supplyAlarm = y.supplyAlarm ∧ x.clockHeld = y.clockHeld ∧
      x.refLost = y.refLost ∧ x.wdog = y.wdog := by
  cases x
  cases y
  simp only [Island.quiet, Island.mk.injEq] at h
  simp [h]

/-- Two host ports that agree but for ATTN_CAUSE have the same status. -/
theorem HostState.status_of_quiet {x y : HostState} (h : x.quiet = y.quiet) : x.status = y.status := by
  have := congrArg HostState.status h
  exact this

theorem Part.Same.trans {p : Part} {s x t : State} (h1 : p.Same s x) (h2 : p.Same x t) : p.Same s t := by
  cases p <;> exact Eq.trans h2 h1

/-- Frames compose. -/
theorem EverythingBut.trans {ps : List Part} {s x t : State} (h1 : EverythingBut ps s x) (h2 : EverythingBut ps x t) :
    EverythingBut ps s t :=
  ⟨h2.1.trans h1.1, fun p hp => (h1.2 p hp).trans (h2.2 p hp)⟩

/-- A frame stays true when more parts are excepted. -/
theorem EverythingBut.mono {ps qs : List Part} {s t : State} (h : EverythingBut ps s t) (hs : ∀ p ∈ ps, p ∈ qs) :
    EverythingBut qs s t :=
  ⟨h.1, fun p hp => h.2 p (fun hm => hp (hs p hm))⟩

/-! ### The event log -/

theorem logBytes_length (r : LogRec) (q t : Nat) (b : Bool) (p : BitVec 256) : (logBytes r q t b p).length = 128 := by
  unfold logBytes
  simp only [List.length_append, leBytes_length]

/-- A record touches no byte but its own 128. -/
theorem append_bytes (r : LogRec) (s : State) (h : s.mem.wf = true) : SameOutside (logAddr (s.log.seq + 1)) 128 s (appendLog r s) := by
  intro x hx
  exact Memory.read_writeBytes_outside x _ _ h (by rw [logBytes_length]; exact hx)

theorem append_seq (r : LogRec) (s : State) : (appendLog r s).log.seq = s.log.seq + 1 := rfl

end Sys2Proof.Machine
end

