-- ==== Sys2Proof/Laws/CoreRun.lean ====
section
/-! SUPPORT. How a Signal Core runs a bundle from a quiet state: what the slots of a bundle leave of the core, of memory and of the
other cores (chapter 7). -/
set_option linter.all false
set_option Elab.async false
namespace Sys2Proof.Machine
open Sys2Proof

theorem stepCore_none (n : Nat) (s : State) (h : (core s n).stepReq = false) : stepCore n s = s := by
  unfold stepCore; simp [h]
theorem settle_none (s : State) (h : ∀ m, m < 8 → (core s m).stepReq = false) : settleSteps s = s := by
  have hin : ∀ l : List Nat, (∀ m ∈ l, m < 8) → l.foldl (fun s n => stepCore n s) s = s := by
    intro l hl
    induction l with
    | nil => rfl
    | cons a l ih =>
      rw [List.foldl_cons, stepCore_none a s (h a (hl a (by simp)))]
      exact ih (fun m hm => hl m (by simp [hm]))
  have ho : ∀ l : List Nat, l.foldl (fun s _ => (List.range 8).foldl (fun s n => stepCore n s) s) s = s := by
    intro l
    induction l with
    | nil => rfl
    | cons a l ih =>
      rw [List.foldl_cons, hin _ (by intro m hm; exact List.mem_range.mp hm)]
      exact ih
  exact ho _

/-- results of a bundle of slots -/
def streamRes : Result → Bool
  | .d i _ => decide (i < 16) | .flags _ => true | .sticky _ => true | .sreg c _ => decide (c < 8) || decide (c = 0x21) | .acc _ _ => false

theorem bankWrite_p (c : Nat) (v : Word) (b : Bank) (h : c < 8) : bankWrite c v b = if c = 6 ∨ c = 7 then { b with p := vput b.p (c - 6) (v.setWidth 41) } else b := by
  have : c = 0 ∨ c = 1 ∨ c = 2 ∨ c = 3 ∨ c = 4 ∨ c = 5 ∨ c = 6 ∨ c = 7 := by omega
  rcases this with h | h | h | h | h | h | h | h <;> subst h <;> simp [bankWrite]
theorem sreg_p (c : Nat) (v : Word) (k : CoreState) (h : c < 8) : sregWrite c v k = if c < 6 then { k with p := vput k.p c (v.setWidth 41) } else k.modCur (fun b => { b with p := vput b.p (c - 6) (v.setWidth 41) }) := by
  have : c = 0 ∨ c = 1 ∨ c = 2 ∨ c = 3 ∨ c = 4 ∨ c = 5 ∨ c = 6 ∨ c = 7 := by omega
  rcases this with h | h | h | h | h | h | h | h <;> subst h <;> simp [sregWrite, bankedCode, sharedWrite] <;> (congr 1 <;> funext b <;> simp [bankWrite])
theorem sreg_idx (v : Word) (k : CoreState) : sregWrite 0x21 v k = k.modCur (fun b => { b with idx := v.setWidth 32 }) := by
  simp [sregWrite, bankedCode]
  congr 1 <;> funext b <;> simp [bankWrite]

theorem modCur_cur (f : Bank → Bank) (k : CoreState) : (k.modCur f).cur = f k.cur := by
  unfold CoreState.modCur CoreState.cur
  cases k.bank <;> rfl
theorem modCur_other (f : Bank → Bank) (k : CoreState) : (k.modCur f).other = k.other := by
  unfold CoreState.modCur CoreState.other
  cases k.bank <;> rfl
theorem modCur_eq (f : Bank → Bank) (k : CoreState) : k.modCur f = { k with main := (k.modCur f).main, shadow := (k.modCur f).shadow } := by
  unfold CoreState.modCur
  cases k.bank <;> rfl

/-- k' differs from k only in the stream's registers -/
def StreamEq (k t : CoreState) : Prop :=
  t = { k with d := t.d, p := t.p, main := t.main, shadow := t.shadow } ∧ t.other = k.other ∧ t.cur = { k.cur with d := t.cur.d, p := t.cur.p, idx := t.cur.idx, st := t.cur.st }
theorem StreamEq.refl (k : CoreState) : StreamEq k k := ⟨rfl, rfl, rfl⟩
theorem StreamEq.trans {k x t : CoreState} (h1 : StreamEq k x) (h2 : StreamEq x t) : StreamEq k t := by
  obtain ⟨a1, a2, a3⟩ := h1
  obtain ⟨b1, b2, b3⟩ := h2
  refine ⟨?_, b2.trans a2, ?_⟩
  · rw [b1]; rw [a1]
  · rw [b3]; rw [a3]
theorem stream_modCur (f : Bank → Bank) (k : CoreState) (h : f k.cur = { k.cur with d := (f k.cur).d, p := (f k.cur).p, idx := (f k.cur).idx, st := (f k.cur).st }) : StreamEq k (k.modCur f) := by
  refine ⟨?_, modCur_other f k, ?_⟩
  · unfold CoreState.modCur
    cases k.bank <;> rfl
  · rw [modCur_cur]; exact h
theorem stream_apply (r : Result) (k : CoreState) (h : streamRes r = true) : StreamEq k (applyResult r k) := by
  cases r with
  | d i v =>
    unfold applyResult wrD
    dsimp only
    split
    · exact ⟨rfl, rfl, rfl⟩
    · exact stream_modCur _ _ rfl
  | acc i v => simp [streamRes] at h
  | sreg c v =>
    simp only [streamRes, Bool.or_eq_true, decide_eq_true_eq] at h
    unfold applyResult
    dsimp only
    rcases h with h | h
    · rw [sreg_p c v k h]
      split
      · exact ⟨rfl, rfl, rfl⟩
      · exact stream_modCur _ _ rfl
    · subst h
      rw [sreg_idx]
      exact stream_modCur _ _ rfl
  | flags v => unfold applyResult; exact stream_modCur _ _ rfl
  | sticky m => unfold applyResult; exact stream_modCur _ _ rfl
theorem stream_all (l : List Pend) (k : CoreState) (h : ∀ p ∈ l, streamRes p.res = true) : StreamEq k (applyAll l k) := by
  induction l generalizing k with
  | nil => exact StreamEq.refl k
  | cons p l ih =>
    unfold applyAll
    rw [List.foldl_cons]
    exact (stream_apply p.res k (h p (by simp))).trans (ih _ (fun q hq => h q (by simp [hq])))

/-! observers through one result -/
theorem vget_vput {α : Type} {n : Nat} (v : Vector α n) (i j : Nat) (x d : α) (h : i < n) : vget (vput v i x) j d = if i = j then x else vget v j d := by
  unfold vput
  rw [vget_vmod]
  by_cases e : i = j
  · rw [if_pos ⟨e, h⟩, if_pos e]
  · rw [if_neg (fun c => e c.1), if_neg e]
theorem rdD_wrD (i j : Nat) (v : Word) (k : CoreState) (hi : i < 16) (hj : j < 16) : rdD (wrD i v k) j = if i = j then v else rdD k j := by
  unfold rdD wrD
  by_cases h : i < 12
  · rw [if_pos h]
    by_cases h2 : j < 12
    · rw [if_pos h2, if_pos h2]; exact vget_vput _ _ _ _ _ h
    · rw [if_neg h2, if_neg h2]
      have : ¬ i = j := by omega
      rw [if_neg this]; rfl
  · rw [if_neg h, modCur_cur]
    by_cases h2 : j < 12
    · rw [if_pos h2, if_pos h2]
      have : ¬ i = j := by omega
      rw [if_neg this]
      have : (k.modCur (fun b => { b with d := vput b.d (i - 12) v })).d = k.d := by unfold CoreState.modCur; split <;> rfl
      rw [this]
    · rw [if_neg h2, if_neg h2, vget_vput _ _ _ _ _ (by omega)]
      by_cases e : i = j
      · rw [if_pos (by omega), if_pos e]
      · rw [if_neg (by omega), if_neg e]
theorem modCur_d (f : Bank → Bank) (k : CoreState) : (k.modCur f).d = k.d ∧ (k.modCur f).aw = k.aw ∧ (k.modCur f).a = k.a ∧ (k.modCur f).p = k.p ∧ (k.modCur f).pend = k.pend ∧ (k.modCur f).bank = k.bank := by unfold CoreState.modCur; split <;> exact ⟨rfl, rfl, rfl, rfl, rfl, rfl⟩
theorem rdD_modCur (f : Bank → Bank) (k : CoreState) (j : Nat) (h : (f k.cur).d = k.cur.d) : rdD (k.modCur f) j = rdD k j := by
  unfold rdD; rw [modCur_cur, (modCur_d f k).1, h]
theorem rdP_modCur (f : Bank → Bank) (k : CoreState) (j : Nat) (h : (f k.cur).p = k.cur.p) : rdP (k.modCur f) j = rdP k j := by
  unfold rdP; rw [modCur_cur, (modCur_d f k).2.2.2.1, h]
theorem rdAccW_modCur (f : Bank → Bank) (k : CoreState) (j : Nat) (h : (f k.cur).a3w = k.cur.a3w) : rdAccW (k.modCur f) j = rdAccW k j := by
  unfold rdAccW; rw [modCur_cur, (modCur_d f k).2.1, h]

/-- observers of a core -/
structure Obs where
  d : Nat → Word
  st : Word
  idx : BitVec 32
def obs (k : CoreState) : Obs := ⟨fun i => if i < 16 then rdD k i else 0, k.cur.st, k.cur.idx⟩
def resObs (r : Result) (o : Obs) : Obs :=
  match r with
  | .d i v => { o with d := fun j => if j < 16 then (if i = j then v else o.d j) else 0 }
  | .flags v => { o with st := (o.st &&& 0xFFFFFFFFFFFFFFF0) ||| BitVec.ofNat 64 (v % 16) }
  | .sticky m => { o with st := o.st ||| BitVec.ofNat 64 m }
  | .sreg c v => if c = 0x21 then { o with idx := v.setWidth 32 } else o
  | .acc _ _ => o
theorem obs_apply (r : Result) (k : CoreState) (h : streamRes r = true) : obs (applyResult r k) = resObs r (obs k) := by
  cases r with
  | d i v =>
    have hi : i < 16 := by simpa [streamRes] using h
    have e1 : (applyResult (.d i v) k).cur.st = k.cur.st ∧ (applyResult (.d i v) k).cur.idx = k.cur.idx := by
      show (wrD i v k).cur.st = _ ∧ (wrD i v k).cur.idx = _
      unfold wrD
      split
      · exact ⟨rfl, rfl⟩
      · rw [modCur_cur]; exact ⟨rfl, rfl⟩
    unfold obs resObs
    rw [e1.1, e1.2]
    congr 1
    funext j
    show (if j < 16 then rdD (wrD i v k) j else 0) = _
    by_cases hj : j < 16
    · rw [if_pos hj, if_pos hj, rdD_wrD _ _ _ _ hi hj]
      show _ = if i = j then v else (if j < 16 then rdD k j else 0)
      rw [if_pos hj]
    · rw [if_neg hj, if_neg hj]
  | acc i v => simp [streamRes] at h
  | sreg c v =>
    simp only [streamRes, Bool.or_eq_true, decide_eq_true_eq] at h
    rcases h with h | h
    · have : c ≠ 0x21 := by omega
      unfold resObs
      dsimp only
      rw [if_neg this]
      show obs (sregWrite c v k) = obs k
      rw [sreg_p c v k h]
      split
      · rfl
      · unfold obs
        rw [modCur_cur]
        congr 1
        funext j
        rw [rdD_modCur]
        rfl
    · subst h
      show obs (sregWrite 0x21 v k) = _
      rw [sreg_idx]
      unfold obs resObs
      dsimp only
      rw [modCur_cur, if_pos rfl]
      congr 1
      funext j
      rw [rdD_modCur]
      rfl
  | flags v =>
    unfold applyResult obs resObs
    dsimp only
    rw [modCur_cur]
    congr 1
    funext j
    rw [rdD_modCur]
    rfl
  | sticky m =>
    unfold applyResult obs resObs
    dsimp only
    rw [modCur_cur]
    congr 1
    funext j
    rw [rdD_modCur]
    rfl
theorem obs_all (l : List Pend) (k : CoreState) (h : ∀ p ∈ l, streamRes p.res = true) : obs (applyAll l k) = l.foldl (fun o p => resObs p.res o) (obs k) := by
  induction l generalizing k with
  | nil => rfl
  | cons p l ih =>
    unfold applyAll
    rw [List.foldl_cons, List.foldl_cons]
    have := ih (applyResult p.res k) (fun q hq => h q (by simp [hq]))
    unfold applyAll at this
    rw [this, obs_apply _ _ (h p (by simp))]
theorem p_apply (r : Result) (k : CoreState) (h : streamRes r = true) (i : Nat) (hi : i < 8) (hn : ∀ v, r ≠ .sreg i v) : rdP (applyResult r k) i = rdP k i := by
  cases r with
  | d j v =>
    show rdP (wrD j v k) i = _
    unfold wrD
    split
    · rfl
    · exact rdP_modCur _ _ _ rfl
  | acc j v => simp [streamRes] at h
  | sreg c v =>
    simp only [streamRes, Bool.or_eq_true, decide_eq_true_eq] at h
    show rdP (sregWrite c v k) i = _
    have hc : c ≠ i := fun e => hn v (by rw [e])
    rcases h with h | h
    · rw [sreg_p c v k h]
      split
      · rename_i h6
        unfold rdP
        split
        · rw [vget_vput _ _ _ _ _ h6, if_neg hc]
        · rfl
      · rename_i h6
        unfold rdP
        rw [modCur_cur, (modCur_d _ _).2.2.2.1]
        split
        · rfl
        · rw [vget_vput _ _ _ _ _ (by omega), if_neg (by omega)]
    · subst h
      rw [sreg_idx]; exact rdP_modCur _ _ _ rfl
  | flags v => exact rdP_modCur _ _ _ rfl
  | sticky m => exact rdP_modCur _ _ _ rfl
theorem p_all (l : List Pend) (k : CoreState) (h : ∀ p ∈ l, streamRes p.res = true) (i : Nat) (hi : i < 8) (hn : ∀ p ∈ l, ∀ v, p.res ≠ .sreg i v) : rdP (applyAll l k) i = rdP k i := by
  induction l generalizing k with
  | nil => rfl
  | cons p l ih =>
    unfold applyAll
    rw [List.foldl_cons]
    have := ih (applyResult p.res k) (fun q hq => h q (by simp [hq])) (fun q hq => hn q (by simp [hq]))
    unfold applyAll at this
    rw [this, p_apply _ _ (h p (by simp)) i hi (hn p (by simp))]

def setC (n : Nat) (k : CoreState) (s : State) : State := modCore n (fun _ => k) s
theorem core_setC (n : Nat) (k : CoreState) (s : State) (h : n < 8) : core (setC n k s) n = k := by
  unfold setC; rw [core_modCore, if_pos ⟨rfl, h⟩]
theorem core_setC_ne (n m : Nat) (k : CoreState) (s : State) (h : m ≠ n) : core (setC n k s) m = core s m := by
  unfold setC; rw [core_modCore, if_neg (fun c => h c.1.symm)]
theorem vmod_const {α : Type} {m : Nat} (v : Vector α m) (i : Nat) (f : α → α) (d : α) (h : i < m) : vmod v i f = vmod v i (fun _ => f (vget v i d)) := by
  unfold vmod vget
  rw [dif_pos h, dif_pos h, dif_pos h]
theorem vmod_twice {α : Type} {m : Nat} (v : Vector α m) (i : Nat) (f : α → α) (a : α) : vmod (vmod v i f) i (fun _ => a) = vmod v i (fun _ => a) := by
  unfold vmod
  split
  · simp
  · rfl
theorem mc (n : Nat) (f : CoreState → CoreState) (s : State) (h : n < 8) : modCore n f s = setC n (f (core s n)) s := by
  unfold setC modCore core
  rw [vmod_const s.cores n f CoreState.init h]
theorem setC_setC (n : Nat) (a b : CoreState) (s : State) : setC n a (setC n b s) = setC n a s := by
  unfold setC modCore
  dsimp only
  rw [vmod_twice]
theorem mc_setC (n : Nat) (f : CoreState → CoreState) (a : CoreState) (s : State) (h : n < 8) : modCore n f (setC n a s) = setC n (f a) s := by
  rw [mc n f _ h, core_setC _ _ _ h, setC_setC]
theorem foldl_fix {α β : Type} (f : β → α → β) (b : β) (l : List α) (h : ∀ a, f b a = b) : l.foldl f b = b := by
  induction l with
  | nil => rfl
  | cons a l ih => rw [List.foldl_cons, h a]; exact ih
theorem drain_none (n : Nat) (s : State) (h : (core s n).posted = []) : drainPosted n s = s := by
  unfold drainPosted
  rw [foldl_fix _ (true, s) _ (by intro a; simp only [h]; rfl)]
theorem take_none (k : CoreState) (h : k.ie = 0) (c : Nat) : takeable k c = false := by
  unfold takeable; rw [h]; simp
theorem best_none (k : CoreState) (h : k.ie = 0) (b : Bool) : bestChan k b = none := by
  unfold bestChan
  rw [foldl_fix _ none _ (by intro a; simp only [take_none k h]; rfl)]
theorem irq_none (n : Nat) (s : State) (h : (core s n).ie = 0) : takeIrq n s = none := by
  unfold takeIrq
  simp only [best_none _ h, ite_self]
theorem loads_local (n : Nat) (l : List Access) (p : Loads) (vs : List Word) (hv : p.vals = some vs) (hb : p.bad = false)
    (h : ∀ x ∈ l, isPlaza x.addr = false ∧ localAddr n x.addr.toNat / 8 * 8 ∉ p.st.ecc) :
    l.foldl (loadOne n) p = { p with vals := some (vs ++ l.map (fun x => pickBytes x (p.st.mem.readW (localAddr n x.addr.toNat / 8 * 8)))) } := by
  induction l generalizing p vs with
  | nil => rw [List.foldl_nil]; cases p; simp_all
  | cons x l ih =>
    rw [List.foldl_cons]
    have hx := h x (by simp)
    have e : loadOne n p x = { p with vals := some (vs ++ [pickBytes x (p.st.mem.readW (localAddr n x.addr.toNat / 8 * 8))]) } := by
      unfold loadOne
      rw [hv]
      dsimp only
      rw [if_pos (by rw [hx.1]; rfl)]
      have : p.st.ecc.contains (localAddr n x.addr.toNat / 8 * 8) = false := by simpa using hx.2
      rw [this, hb]
      cases p
      simp_all
    rw [e]
    refine (ih _ _ rfl (by exact hb) (fun y hy => by exact h y (by simp [hy]))).trans ?_
    simp
theorem note_none (w : Word) (k : CoreState) (h : k.lc = none) : noteFetch w k = k := by
  unfold noteFetch cacheHit; rw [h]
theorem filled_none (o : List RepLevel) (k : CoreState) (h : k.lc = none) : cacheFilled o k = k := by
  unfold cacheFilled; rw [h]
theorem hold_none (d : Nat) (k : CoreState) : holdCount none d k = { k with holdCnt := 0, holdDone := false } := rfl

/-- A bundle that raises no exception issues where nothing else is to be taken first. -/
theorem issue_free {s : State} {n : Nat} {b : Bundle} (h1 : coreIssues s n = true) (h2 : bkptHit (core s n) = false) (h5 : (core s n).ie = 0) (hx : bundleExc (core s n) b = none) :
    issueBundle n b s = modCore n (fun x => { x with holdCnt := 0, holdDone := false }) (runBundle n b [] s) := by
  have hst : (core s n).stall = none := by
    unfold coreIssues at h1
    simp only [Bool.and_eq_true, Option.isNone_iff_eq_none] at h1
    exact h1.2
  have e0 : resumeAborted n s = s := by unfold resumeAborted; rw [hst]
  unfold issueBundle
  rw [e0]
  dsimp only
  rw [h1, if_neg (by decide), if_neg (by rw [h2]; decide), hx]
  dsimp only
  rw [irq_none n s h5]
  dsimp only
  rw [best_none _ h5]
  rfl
theorem issue_ok {s : State} {n : Nat} {br : Branch} {pend : List Pend} (h : CoreReadyAt s n br pend) {b : Bundle} (hx : bundleExc (core s n) b = none) :
    issueBundle n b s = modCore n (fun x => { x with holdCnt := 0, holdDone := false }) (runBundle n b [] s) :=
  issue_free h.1 h.2.1 h.2.2.2.2.1 hx
theorem filter_fold_none (l : List Access) (h : ∀ x ∈ l, accessExc x = none) : l.foldl (fun e x => minExc e (accessExc x)) none = none := by
  induction l with
  | nil => rfl
  | cons x l ih =>
    rw [List.foldl_cons, h x (by simp)]
    exact ih (fun y hy => h y (by simp [hy]))
theorem slots_exc {s : State} {n op dst sa sb md : Nat} {mv : Moves} {f : Fx} (h : CoreReady s n) (hl : LocalMoves s n op mv) (hf : computeFx (core s n) op dst sa sb md = some f) :
    bundleExc (core s n) (.slots op dst sa sb md mv) = none := by
  obtain ⟨h1, h2, h3, h4, h5, h6, h7, h8, h9, h10, h11⟩ := h
  unfold bundleExc
  simp only [hf, hl.1, h3, filter_fold_none _ (fun x hx => (hl.2 x hx).2.1)]
  rfl
/-- memory after the bundle's stores -/
def memAfter (n op : Nat) (mv : Moves) (vals : List Word) (k : CoreState) (s : State) : State :=
  let s1 := match (if mv.store then slotY k mv else none) with
    | some x => coreStore n x (storeValue k mv.y).1 s
    | none => s
  match ftapMove k op mv with
    | some x => coreStore n x (vals.getD 0 0) s1
    | none => s1
theorem store_local (n : Nat) (x : Access) (w : Word) (s : State) (h : isPlaza x.addr = false) : ∃ m e, coreStore n x w s = { s with mem := m, ecc := e } := by
  unfold coreStore
  rw [if_neg (by rw [h]; decide)]
  exact ⟨_, _, rfl⟩
theorem memAfter_eq (n op : Nat) (mv : Moves) (vals : List Word) (k : CoreState) (s : State) (h : ∀ x ∈ accessesOf k op mv, isPlaza x.addr = false) :
    ∃ m e, memAfter n op mv vals k s = { s with mem := m, ecc := e } ∧ (bundleStores k op mv = false → m = s.mem ∧ e = s.ecc) := by
  have hy : ∀ x, slotY k mv = some x → isPlaza x.addr = false := fun x hx => h x (by unfold accessesOf; rw [hx]; simp)
  have hz : ∀ x, ftapMove k op mv = some x → isPlaza x.addr = false := fun x hx => h x (by unfold accessesOf; rw [hx]; simp)
  have hs : ∃ m e, (match (if mv.store then slotY k mv else none) with
    | some x => coreStore n x (storeValue k mv.y).1 s
    | none => s) = { s with mem := m, ecc := e } ∧ ((mv.store && (slotY k mv).isSome) = false → m = s.mem ∧ e = s.ecc) := by
    cases hst : mv.store
    · exact ⟨_, _, rfl, fun _ => ⟨rfl, rfl⟩⟩
    · cases hy' : slotY k mv with
      | none => exact ⟨_, _, rfl, fun _ => ⟨rfl, rfl⟩⟩
      | some x =>
        obtain ⟨m, e, he⟩ := store_local n x (storeValue k mv.y).1 s (hy x hy')
        exact ⟨m, e, he, fun c => by simp at c⟩
  obtain ⟨m, e, he, hn⟩ := hs
  unfold memAfter bundleStores
  rw [he]
  cases hz' : ftapMove k op mv with
  | none =>
    refine ⟨m, e, rfl, fun c => hn ?_⟩
    revert c; cases (mv.store && (slotY k mv).isSome) <;> simp
  | some x =>
    obtain ⟨m', e', he'⟩ := store_local n x (vals.getD 0 0) { s with mem := m, ecc := e } (hz x hz')
    refine ⟨m', e', ?_, fun c => by simp at c⟩
    dsimp only
    rw [he']

/-- loads of the X slot and the Y slot as pending results -/
def loadPend (k : CoreState) (mv : Moves) (vals : List Word) : List Pend :=
  (if (loadX k mv).toList.length = 1 then [⟨2, .d mv.x.reg.val (vals.getD 0 0)⟩] else []) ++
  (if !mv.store && (slotY k mv).isSome then [⟨2, .d mv.y.reg.val (vals.getD (loadX k mv).toList.length 0)⟩] else [])
def satPend (k : CoreState) (mv : Moves) : List Pend :=
  if mv.store && (slotY k mv).isSome && (storeValue k mv.y).2 ≠ 0 then [⟨0, .sticky (storeValue k mv.y).2⟩] else []
def ptrPend (k : CoreState) (mv : Moves) : List Pend := (ptrWrites k mv).map (fun p => ⟨0, .sreg p.1 (p.2.setWidth 64)⟩)
def stallsOf (k : CoreState) (op : Nat) (mv : Moves) : Nat := bankStalls (accessesOf k op mv) (cacheHit k).isSome
/-- the core after finishSlots -/
def midCore (k : CoreState) (op : Nat) (mv : Moves) (vals : List Word) (f : Fx) : CoreState :=
  let k1 := { k with pend := k.pend ++ loadPend k mv vals ++ fxPend f ++ satPend k mv ++ ptrPend k mv, stallBank := (k.stallBank + stallsOf k op mv) % 2 ^ 32 }
  addCycles (stallsOf k op mv) (match f.acc with | some a => wrAccW a.1 a.2 k1 | none => k1)
theorem finish_eq {n op dst sa sb md : Nat} {mv : Moves} {vals : List Word} {s : State} {f : Fx} (hn : n < 8) (hf : computeFx (core s n) op dst sa sb md = some f)
    (hm : ∃ m e, memAfter n op mv vals (core s n) s = { s with mem := m, ecc := e }) :
    finishSlots n op dst sa sb md mv vals s = setC n (midCore (core s n) op mv vals f) (memAfter n op mv vals (core s n) s) := by
  obtain ⟨m, e, hm⟩ := hm
  have hc : core (memAfter n op mv vals (core s n) s) n = core s n := by rw [hm]; rfl
  have : finishSlots n op dst sa sb md mv vals s = modCore n (fun k => addCycles (stallsOf (core s n) op mv) (match f.acc with | some a => wrAccW a.1 a.2 { k with pend := k.pend ++ (if (loadX (core s n) mv).toList.length = 1 then [⟨2, .d mv.x.reg.val (vals.getD 0 0)⟩] else []) ++ (if !mv.store && (slotY (core s n) mv).isSome then [⟨2, .d mv.y.reg.val (vals.getD (loadX (core s n) mv).toList.length 0)⟩] else []) ++ fxPend f ++ satPend (core s n) mv ++ ptrPend (core s n) mv, stallBank := (k.stallBank + stallsOf (core s n) op mv) % 2 ^ 32 } | none => { k with pend := k.pend ++ (if (loadX (core s n) mv).toList.length = 1 then [⟨2, .d mv.x.reg.val (vals.getD 0 0)⟩] else []) ++ (if !mv.store && (slotY (core s n) mv).isSome then [⟨2, .d mv.y.reg.val (vals.getD (loadX (core s n) mv).toList.length 0)⟩] else []) ++ fxPend f ++ satPend (core s n) mv ++ ptrPend (core s n) mv, stallBank := (k.stallBank + stallsOf (core s n) op mv) % 2 ^ 32 })) (memAfter n op mv vals (core s n) s) := by
    unfold finishSlots memAfter
    dsimp only
    rw [hf]
    rfl
  rw [this, mc n _ _ hn, hc]
  unfold midCore loadPend
  simp only [List.append_assoc]

theorem after_slots {n : Nat} {k : CoreState} {z : State} (hn : n < 8) (hb : k.br = Branch.none) : afterBundle n (setC n k z) = setC n (goOn k) z := by
  unfold afterBundle
  rw [core_setC _ _ _ hn]
  dsimp only
  rw [if_pos (by rw [hb]; rfl), mc_setC _ _ _ _ hn]
  have : (if k.br.slots ≤ 1 then Branch.none else { k.br with slots := k.br.slots - 1 }) = k.br := by rw [hb]; rfl
  rw [this]

/-- endBundle for slots -/
theorem end_slots {n op dst sa sb md : Nat} {mv : Moves} {k : CoreState} {z : State} (hn : n < 8) (hlc : k.lc = none) (hbr : k.br = Branch.none) (hpo : k.posted = []) (hh : k.halting = false)
    (hp : ∀ p ∈ k.pend, p.left = 0 → streamRes p.res = true) :
    endBundle n (.slots op dst sa sb md mv) (setC n k z) = setC n (goOn (tickPend (addCycles 1 { k with skipBkpt := false, stall := none }))) z := by
  have hst : StreamEq { addCycles 1 { k with skipBkpt := false, stall := none } with pend := (k.pend.filter (fun p => p.left ≠ 0)).map (fun p => { p with left := p.left - 1 }) } (tickPend (addCycles 1 { k with skipBkpt := false, stall := none })) := by
    unfold tickPend
    exact stream_all _ _ (fun p hp' => by
      simp only [List.mem_filter] at hp'
      exact hp p hp'.1 (by simpa using hp'.2))
  have e1 : ∀ w, noteFetch w k = k := fun w => note_none w k hlc
  have hk := hst.1
  generalize hK : tickPend (addCycles 1 { k with skipBkpt := false, stall := none }) = K at *
  have hKb : K.br = Branch.none := by rw [hk]; exact hbr
  have hg : goOn K = { goOn K with lc := none, posted := [], halting := false } := by
    have : goOn K = { K with pc := (goOn K).pc, main := (goOn K).main, shadow := (goOn K).shadow } := by
      unfold goOn CoreState.modCur
      cases K.bank <;> rfl
    rw [this, hk]
    simp only [addCycles, hlc, hpo, hh]
  have hgl : (goOn K).lc = none := by rw [hg]
  have hgp : (goOn K).posted = [] := by rw [hg]
  have hgh : (goOn K).halting = false := by rw [hg]
  unfold endBundle
  dsimp only
  rw [mc_setC _ _ _ _ hn, e1, mc_setC _ _ _ _ hn]
  rw [hK, after_slots hn hKb, mc_setC _ _ _ _ hn, filled_none _ _ hgl, drain_none _ _ (by rw [core_setC _ _ _ hn]; exact hgp), mc_setC _ _ _ _ hn]
  rw [hgh]
  rfl

def fxGood (f : Fx) : Prop := (∀ p, f.d = some p → p.1 < 16) ∧ (∀ a, f.acc = some a → a.1 < 4)
theorem loadPend_left (k : CoreState) (mv : Moves) (vals : List Word) : ∀ p ∈ loadPend k mv vals, p.left = 2 := by
  intro p hp
  unfold loadPend at hp
  simp only [List.mem_append] at hp
  rcases hp with hp | hp <;> split at hp <;> simp at hp <;> rw [hp]
def fxDue (f : Fx) : List Pend :=
  (f.d.toList.map (fun p => ⟨0, .d p.1 p.2⟩)) ++ (f.flags.toList.map (fun v => ⟨0, .flags v⟩)) ++
  (f.idx.toList.map (fun v => ⟨0, .sreg 0x21 (v.setWidth 64)⟩)) ++ (if f.sticky = 0 then [] else [⟨0, .sticky f.sticky⟩])
def fxAccs (f : Fx) (l : Nat) : List Pend := f.acc.toList.map (fun p => ⟨l, .acc p.1 p.2⟩)
theorem fxPend_eq (f : Fx) : fxPend f = fxDue f ++ fxAccs f 1 := rfl
theorem fxDue_left (f : Fx) : ∀ p ∈ fxDue f, p.left = 0 := by
  intro p hp
  unfold fxDue at hp
  simp only [List.mem_append] at hp
  rcases hp with ((hp | hp) | hp) | hp
  · simp at hp; obtain ⟨a, b, _, rfl⟩ := hp; rfl
  · simp at hp; obtain ⟨a, _, rfl⟩ := hp; rfl
  · simp at hp; obtain ⟨a, _, rfl⟩ := hp; rfl
  · split at hp <;> simp at hp; rw [hp]
theorem fxDue_stream (f : Fx) (h : fxGood f) : ∀ p ∈ fxDue f, streamRes p.res = true := by
  intro p hp
  unfold fxDue at hp
  simp only [List.mem_append] at hp
  rcases hp with ((hp | hp) | hp) | hp
  · simp at hp; obtain ⟨a, b, hd, rfl⟩ := hp
    simp [streamRes]; exact h.1 _ hd
  · simp at hp; obtain ⟨a, _, rfl⟩ := hp; rfl
  · simp at hp; obtain ⟨a, _, rfl⟩ := hp; rfl
  · split at hp <;> simp at hp; rw [hp]; rfl
theorem satPend_all (k : CoreState) (mv : Moves) : ∀ p ∈ satPend k mv, p.left = 0 ∧ streamRes p.res = true := by
  intro p hp
  unfold satPend at hp
  split at hp <;> simp at hp; rw [hp]; exact ⟨rfl, rfl⟩
theorem ptrWrites_lt (k : CoreState) (mv : Moves) : ∀ p ∈ ptrWrites k mv, p.1 < 8 := by
  intro p hp
  unfold ptrWrites at hp
  simp only [List.mem_append, List.mem_map] at hp
  rcases hp with ⟨v, _, rfl⟩ | ⟨v, _, rfl⟩
  · exact mv.x.ptr.isLt
  · exact mv.y.ptr.isLt
theorem ptrPend_all (k : CoreState) (mv : Moves) : ∀ p ∈ ptrPend k mv, p.left = 0 ∧ streamRes p.res = true := by
  intro p hp
  unfold ptrPend at hp
  simp only [List.mem_map] at hp
  obtain ⟨a, ha, rfl⟩ := hp
  have := ptrWrites_lt k mv a ha
  exact ⟨rfl, by simp [streamRes, this]⟩
theorem filter_all {α : Type} (p : α → Bool) (l : List α) (h : ∀ x ∈ l, p x = true) : l.filter p = l := List.filter_eq_self.mpr h
theorem filter_no {α : Type} (p : α → Bool) (l : List α) (h : ∀ x ∈ l, p x = false) : l.filter p = [] := List.filter_eq_nil_iff.mpr (by intro x hx; simp [h x hx])
/-- due and rest of the bundle's results -/
theorem due_eq (k : CoreState) (mv : Moves) (vals : List Word) (f : Fx) :
    (loadPend k mv vals ++ fxPend f ++ satPend k mv ++ ptrPend k mv).filter (fun p => p.left == 0) = fxDue f ++ satPend k mv ++ ptrPend k mv := by
  rw [fxPend_eq]
  simp only [List.filter_append]
  rw [filter_no _ (loadPend k mv vals) (fun p hp => by simp [loadPend_left k mv vals p hp]), filter_all _ (fxDue f) (fun p hp => by simp [fxDue_left f p hp]),
    filter_no _ (fxAccs f 1) (fun p hp => by unfold fxAccs at hp; simp at hp; obtain ⟨a, b, _, rfl⟩ := hp; rfl),
    filter_all _ (satPend k mv) (fun p hp => by simp [(satPend_all k mv p hp).1]), filter_all _ (ptrPend k mv) (fun p hp => by simp [(ptrPend_all k mv p hp).1])]
  simp
def decP (p : Pend) : Pend := { p with left := p.left - 1 }
theorem rest_eq (k : CoreState) (mv : Moves) (vals : List Word) (f : Fx) :
    ((loadPend k mv vals ++ fxPend f ++ satPend k mv ++ ptrPend k mv).filter (fun p => p.left ≠ 0)).map (fun p => { p with left := p.left - 1 }) = (loadPend k mv vals).map decP ++ fxAccs f 0 := by
  rw [fxPend_eq]
  simp only [List.filter_append]
  rw [filter_all _ (loadPend k mv vals) (fun p hp => by simp [loadPend_left k mv vals p hp]), filter_no _ (fxDue f) (fun p hp => by simp [fxDue_left f p hp]),
    filter_all _ (fxAccs f 1) (fun p hp => by unfold fxAccs at hp; simp at hp; obtain ⟨a, b, _, rfl⟩ := hp; rfl),
    filter_no _ (satPend k mv) (fun p hp => by simp [(satPend_all k mv p hp).1]), filter_no _ (ptrPend k mv) (fun p hp => by simp [(ptrPend_all k mv p hp).1])]
  have : ([] ++ fxAccs f 1).map (fun p : Pend => { p with left := p.left - 1 }) = fxAccs f 0 := by
    unfold fxAccs
    cases f.acc <;> rfl
  simp only [List.append_nil, List.map_append] at this ⊢
  rw [this]
  rfl

theorem wrAccW_eq (i : Nat) (v : Acc) (k : CoreState) : wrAccW i v k = { k with aw := (wrAccW i v k).aw, main := (wrAccW i v k).main, shadow := (wrAccW i v k).shadow } ∧ obs (wrAccW i v k) = obs k ∧ (wrAccW i v k).other = k.other ∧ (wrAccW i v k).cur = { k.cur with a3w := (wrAccW i v k).cur.a3w } ∧ (∀ j, rdP (wrAccW i v k) j = rdP k j) := by
  unfold wrAccW
  split
  · exact ⟨rfl, rfl, rfl, rfl, fun _ => rfl⟩
  · refine ⟨?_, ?_, modCur_other _ _, ?_, fun j => rdP_modCur _ _ _ rfl⟩
    · unfold CoreState.modCur; cases k.bank <;> rfl
    · unfold obs; rw [modCur_cur]; congr 1; funext j; rw [rdD_modCur]; rfl
    · rw [modCur_cur]
theorem rdAccW_wr (i j : Nat) (v : Acc) (k : CoreState) (hi : i < 4) (hj : j < 4) : rdAccW (wrAccW i v k) j = if j = i then v else rdAccW k j := by
  unfold rdAccW wrAccW
  by_cases h : i < 3
  · rw [if_pos h]
    by_cases h2 : j < 3
    · rw [if_pos h2, if_pos h2, vget_vput _ _ _ _ _ h]
      by_cases e : i = j
      · rw [if_pos e, if_pos e.symm]
      · rw [if_neg e, if_neg (fun c => e c.symm)]
    · rw [if_neg h2, if_neg h2, if_neg (by omega)]; rfl
  · rw [if_neg h, modCur_cur, (modCur_d _ _).2.1]
    by_cases h2 : j < 3
    · rw [if_pos h2, if_pos h2, if_neg (by omega)]
    · rw [if_neg h2, if_neg h2, if_pos (by omega)]

/-- the core after the bundle, before goOn -/
def tickCore (k : CoreState) (op : Nat) (mv : Moves) (vals : List Word) (f : Fx) : CoreState :=
  tickPend (addCycles 1 { midCore k op mv vals f with skipBkpt := false, stall := none })
theorem mid_fields (k : CoreState) (op : Nat) (mv : Moves) (vals : List Word) (f : Fx) :
    midCore k op mv vals f = { k with aw := (midCore k op mv vals f).aw, main := (midCore k op mv vals f).main, shadow := (midCore k op mv vals f).shadow, pend := k.pend ++ loadPend k mv vals ++ fxPend f ++ satPend k mv ++ ptrPend k mv, stallBank := (midCore k op mv vals f).stallBank, cycles := (midCore k op mv vals f).cycles } ∧
    obs (midCore k op mv vals f) = obs k ∧ (midCore k op mv vals f).other = k.other ∧ (midCore k op mv vals f).cur = { k.cur with a3w := (midCore k op mv vals f).cur.a3w } ∧ (∀ j, rdP (midCore k op mv vals f) j = rdP k j) := by
  unfold midCore
  cases hf : f.acc with
  | none => exact ⟨rfl, rfl, rfl, rfl, fun _ => rfl⟩
  | some a =>
    have h := wrAccW_eq a.1 a.2 { k with pend := k.pend ++ loadPend k mv vals ++ fxPend f ++ satPend k mv ++ ptrPend k mv, stallBank := (k.stallBank + stallsOf k op mv) % 2 ^ 32 }
    dsimp only
    obtain ⟨h1, h2, h3, h4, h5⟩ := h
    generalize wrAccW a.1 a.2 _ = w at *
    refine ⟨?_, h2, h3, h4, h5⟩
    unfold addCycles
    rw [h1]

theorem p_last (l : List Pend) (k : CoreState) (i : Nat) (v : BitVec 41) (hi : i < 8) : rdP (applyAll (l ++ [⟨0, .sreg i (v.setWidth 64)⟩]) k) i = v := by
  unfold applyAll
  rw [List.foldl_append, List.foldl_cons, List.foldl_nil]
  generalize l.foldl _ k = x
  show rdP (sregWrite i (v.setWidth 64) x) i = v
  rw [sreg_p _ _ _ hi]
  have e : ((v.setWidth 64).setWidth 41 : BitVec 41) = v := by rw [BitVec.setWidth_setWidth_of_le _ (by decide), BitVec.setWidth_eq]
  unfold rdP
  split
  · show vget (vput _ _ _) i 0 = v
    rw [vget_vput _ _ _ _ _ (by omega), if_pos rfl, e]
  · rw [modCur_cur]
    show vget (vput _ _ _) (i - 6) 0 = v
    rw [vget_vput _ _ _ _ _ (by omega), if_pos rfl, e]
theorem tick_facts (k : CoreState) (op : Nat) (mv : Moves) (vals : List Word) (f : Fx) (hp : k.pend = []) (hg : fxGood f) :
    (tickCore k op mv vals f) = { k with d := (tickCore k op mv vals f).d, p := (tickCore k op mv vals f).p, aw := (tickCore k op mv vals f).aw, main := (tickCore k op mv vals f).main, shadow := (tickCore k op mv vals f).shadow, pend := (loadPend k mv vals).map decP ++ fxAccs f 0, stallBank := (tickCore k op mv vals f).stallBank, cycles := (tickCore k op mv vals f).cycles, skipBkpt := false, stall := none } ∧
    obs (tickCore k op mv vals f) = (fxDue f ++ satPend k mv ++ ptrPend k mv).foldl (fun o p => resObs p.res o) (obs k) ∧
    (tickCore k op mv vals f).other = k.other ∧
    (tickCore k op mv vals f).cur = { k.cur with d := (tickCore k op mv vals f).cur.d, a3w := (tickCore k op mv vals f).cur.a3w, p := (tickCore k op mv vals f).cur.p, idx := (tickCore k op mv vals f).cur.idx, st := (tickCore k op mv vals f).cur.st } ∧
    (∀ i, i < 8 → (∀ v, (i, v) ∉ ptrWrites k mv) → rdP (tickCore k op mv vals f) i = rdP k i) ∧
    (tickCore k op mv vals f).aw = (midCore k op mv vals f).aw ∧ (tickCore k op mv vals f).cur.a3w = (midCore k op mv vals f).cur.a3w ∧
    (∀ i v, ptrWrites k mv = [(i, v)] → rdP (tickCore k op mv vals f) i = v) := by
  obtain ⟨m1, m2, m3, m4, m5⟩ := mid_fields k op mv vals f
  have hpend : (midCore k op mv vals f).pend = loadPend k mv vals ++ fxPend f ++ satPend k mv ++ ptrPend k mv := by rw [m1, hp]; rfl
  unfold tickCore tickPend
  generalize midCore k op mv vals f = m at *
  have hdue : (addCycles 1 { m with skipBkpt := false, stall := none }).pend.filter (fun p => p.left == 0) = fxDue f ++ satPend k mv ++ ptrPend k mv := by
    show m.pend.filter _ = _
    rw [hpend]; exact due_eq k mv vals f
  have hrest : ((addCycles 1 { m with skipBkpt := false, stall := none }).pend.filter (fun p => p.left ≠ 0)).map (fun p => { p with left := p.left - 1 }) = (loadPend k mv vals).map decP ++ fxAccs f 0 := by
    show (m.pend.filter _).map _ = _
    rw [hpend]; exact rest_eq k mv vals f
  dsimp only
  rw [hdue, hrest]
  have hsr : ∀ p ∈ fxDue f ++ satPend k mv ++ ptrPend k mv, streamRes p.res = true := by
    intro p hp
    simp only [List.mem_append] at hp
    rcases hp with (hp | hp) | hp
    · exact fxDue_stream f hg p hp
    · exact (satPend_all k mv p hp).2
    · exact (ptrPend_all k mv p hp).2
  generalize hx : ({ addCycles 1 { m with skipBkpt := false, stall := none } with pend := (loadPend k mv vals).map decP ++ fxAccs f 0 } : CoreState) = x
  have hobs : obs x = obs m := by rw [← hx]; rfl
  have hot : x.other = m.other := by rw [← hx]; rfl
  have hcu : x.cur = m.cur := by rw [← hx]; rfl
  have hrp : ∀ j, rdP x j = rdP m j := by intro j; rw [← hx]; rfl
  have haw : x.aw = m.aw := by rw [← hx]; rfl
  obtain ⟨s1, s2, s3⟩ := stream_all _ x hsr
  have ho := obs_all _ x hsr
  have hpp := p_all _ x hsr
  have hlast : ∀ i v, ptrWrites k mv = [(i, v)] → rdP (applyAll (fxDue f ++ satPend k mv ++ ptrPend k mv) x) i = v := by
    intro i v h
    have h8 : i < 8 := ptrWrites_lt k mv (i, v) (by rw [h]; simp)
    have : ptrPend k mv = [⟨0, .sreg i (v.setWidth 64)⟩] := by unfold ptrPend; rw [h]; rfl
    rw [this]
    exact p_last _ _ _ _ h8
  generalize applyAll (fxDue f ++ satPend k mv ++ ptrPend k mv) x = y at *
  refine ⟨?_, ?_, ?_, ?_, ?_, ?_, ?_, hlast⟩
  · rw [s1, ← hx]
    unfold addCycles
    rw [m1]
  · rw [ho, hobs, m2]
  · rw [s2, hot, m3]
  · rw [s3, hcu, m4]
  · intro i hi hn
    rw [hpp i hi, hrp, m5]
    intro p hp v hc
    simp only [List.mem_append] at hp
    rcases hp with (hp | hp) | hp
    · unfold fxDue at hp
      simp only [List.mem_append] at hp
      rcases hp with ((hp | hp) | hp) | hp
      · simp at hp; obtain ⟨a, b, _, rfl⟩ := hp; simp at hc
      · simp at hp; obtain ⟨a, _, rfl⟩ := hp; simp at hc
      · simp at hp; obtain ⟨a, _, rfl⟩ := hp; simp at hc; omega
      · split at hp <;> simp at hp; rw [hp] at hc; simp at hc
    · unfold satPend at hp
      split at hp <;> simp at hp; rw [hp] at hc; simp at hc
    · unfold ptrPend at hp
      simp only [List.mem_map] at hp
      obtain ⟨a, ha, rfl⟩ := hp
      simp at hc
      exact hn a.2 (by rw [← hc.1]; exact ha)
  · rw [s1]; exact haw
  · rw [s3]; show x.cur.a3w = _; rw [hcu]

theorem goOn_facts (k : CoreState) (hr : k.cur.rep = []) : goOn k = { k with pc := (k.pc + 1) % 2 ^ 14 } := by
  unfold goOn
  rw [hr]
  simp only [advancePc]
  have : ∀ x : CoreState, x.cur.rep = [] → x.modCur (fun b => { b with rep := [] }) = x := by
    intro x hx
    by_cases hb : x.bank = true
    · have h1 : x.shadow.rep = [] := by unfold CoreState.cur at hx; rw [if_pos hb] at hx; exact hx
      have e : (fun b : Bank => { b with rep := [] }) x.shadow = x.shadow := by show ({ x.shadow with rep := [] } : Bank) = x.shadow; rw [← h1]
      unfold CoreState.modCur
      rw [if_pos hb, e]
    · have h1 : x.main.rep = [] := by unfold CoreState.cur at hx; rw [if_neg hb] at hx; exact hx
      have e : (fun b : Bank => { b with rep := [] }) x.main = x.main := by show ({ x.main with rep := [] } : Bank) = x.main; rw [← h1]
      unfold CoreState.modCur
      rw [if_neg hb, e]
  exact this _ hr

theorem plaza_none (k : CoreState) (op dst sa sb md : Nat) (mv : Moves) (h : ∀ x ∈ accessesOf k op mv, isPlaza x.addr = false) : plazaStores k (.slots op dst sa sb md mv) = 0 := by
  unfold plazaStores
  rw [List.countP_eq_zero]
  intro x hx
  have : x ∈ accessesOf k op mv := by
    unfold accessesOf
    simp only [List.mem_append] at hx ⊢
    rcases hx with hx | hx
    · split at hx
      · exact Or.inl (Or.inr hx)
      · simp at hx
    · exact Or.inr hx
  rw [h x this]; decide
theorem run_slots {s : State} {n op dst sa sb md : Nat} {mv : Moves} {f : Fx} (hn : n < 8) (h : CoreReady s n) (hl : LocalMoves s n op mv) (hf : computeFx (core s n) op dst sa sb md = some f) :
    ∃ vals, vals = (loadsOf (core s n) mv).map (fun x => pickBytes x (s.mem.readW (localAddr n x.addr.toNat / 8 * 8))) ∧
    runBundle n (.slots op dst sa sb md mv) [] s = endBundle n (.slots op dst sa sb md mv) (setC n (midCore (core s n) op mv vals f) (memAfter n op mv vals (core s n) s)) := by
  refine ⟨_, rfl, ?_⟩
  obtain ⟨h1, h2, h3, h4, h5, h6, h7, h8, h9, h10, h11⟩ := h
  have hloc : ∀ x ∈ accessesOf (core s n) op mv, isPlaza x.addr = false := fun x hx => (hl.2 x hx).1
  have hp := plaza_none (core s n) op dst sa sb md mv hloc
  obtain ⟨m, e, hm, _⟩ := memAfter_eq n op mv ((loadsOf (core s n) mv).map (fun x => pickBytes x (s.mem.readW (localAddr n x.addr.toNat / 8 * 8)))) (core s n) s hloc
  rw [← finish_eq hn hf ⟨m, e, hm⟩]
  have hd := drain_none n s h4
  unfold runBundle
  simp only [hd, ite_self, hp, h4]
  have hll := loads_local n (loadsOf (core s n) mv) { vals := some [], got := [], seen := [], bad := false, st := s } [] rfl rfl (fun x hx => by
    have : x ∈ accessesOf (core s n) op mv := by
      unfold loadsOf at hx
      unfold accessesOf
      simp only [List.mem_append] at hx ⊢
      rcases hx with hx | hx
      · exact Or.inl (Or.inl hx)
      · split at hx
        · simp at hx
        · exact Or.inl (Or.inr hx)
    exact ⟨(hl.2 x this).1, (hl.2 x this).2.2⟩)
  rw [hll]
  simp [h4]

/-- the bundle as a whole -/
theorem slots_run {s : State} {n op dst sa sb md : Nat} {mv : Moves} {f : Fx} (hn : n < 8) (h : CoreReady s n) (hl : LocalMoves s n op mv) (hf : computeFx (core s n) op dst sa sb md = some f) (hg : fxGood f) :
    ∃ t vals, vals = (loadsOf (core s n) mv).map (fun x => pickBytes x (s.mem.readW (localAddr n x.addr.toNat / 8 * 8))) ∧
      coreBundle n (.slots op dst sa sb md mv) s = t ∧ SlotsIssued s t n op mv ∧
      obs (core t n) = (fxDue f ++ satPend (core s n) mv ++ ptrPend (core s n) mv).foldl (fun o p => resObs p.res o) (obs (core s n)) ∧
      (∀ i, i < 4 → rdAccW (core t n) i = match f.acc with | some a => if i = a.1 then a.2 else rdAccW (core s n) i | none => rdAccW (core s n) i) ∧
      (core t n).pend = (loadPend (core s n) mv vals).map decP ++ fxAccs f 0 ∧
      t.mem = (memAfter n op mv vals (core s n) s).mem ∧ t.ecc = (memAfter n op mv vals (core s n) s).ecc ∧
      (∀ i v, ptrWrites (core s n) mv = [(i, v)] → rdP (core t n) i = v) := by
  obtain ⟨vals, hv, hrun⟩ := run_slots hn h hl hf
  have hi := issue_ok h (slots_exc h hl hf)
  obtain ⟨h1, h2, h3, h4, h5, h6, h7, h8, h9, h10, h11⟩ := h
  have hloc : ∀ x ∈ accessesOf (core s n) op mv, isPlaza x.addr = false := fun x hx => (hl.2 x hx).1
  obtain ⟨m, e, hm, hmn⟩ := memAfter_eq n op mv vals (core s n) s hloc
  obtain ⟨m1, m2, m3, m4, m5⟩ := mid_fields (core s n) op mv vals f
  obtain ⟨t1, t2, t3, t4, t5, t6, t7, t8⟩ := tick_facts (core s n) op mv vals f h6 hg
  have hend := end_slots (n := n) (op := op) (dst := dst) (sa := sa) (sb := sb) (md := md) (mv := mv) (k := midCore (core s n) op mv vals f) (z := memAfter n op mv vals (core s n) s) hn (by rw [m1]; exact h9) (by rw [m1]; exact h7) (by rw [m1]; exact h4) (by rw [m1]; exact h10) (by
    intro p hp h0
    rw [m1, h6] at hp
    simp only [List.nil_append, List.mem_append, fxPend_eq] at hp
    rcases hp with ((hp | hp | hp) | hp) | hp
    · rw [loadPend_left _ _ _ p hp] at h0; cases h0
    · exact fxDue_stream f hg p hp
    · unfold fxAccs at hp; simp at hp; obtain ⟨a, b, _, rfl⟩ := hp; cases h0
    · exact (satPend_all _ _ p hp).2
    · exact (ptrPend_all _ _ p hp).2)
  have htc : tickPend (addCycles 1 { midCore (core s n) op mv vals f with skipBkpt := false, stall := none }) = tickCore (core s n) op mv vals f := rfl
  rw [htc] at hend
  have hrep : (tickCore (core s n) op mv vals f).cur.rep = [] := by rw [t4]; exact h8
  rw [goOn_facts _ hrep] at hend
  have hfin : coreBundle n (.slots op dst sa sb md mv) s = setC n { tickCore (core s n) op mv vals f with pc := ((core s n).pc + 1) % 2 ^ 14, holdCnt := 0, holdDone := false } { s with mem := m, ecc := e } := by
    unfold coreBundle
    rw [hi, hrun, hend, mc_setC _ _ _ _ hn, hm]
    have hpc : (tickCore (core s n) op mv vals f).pc = (core s n).pc := by rw [t1]
    rw [hpc]
    apply settle_none
    intro j hj
    by_cases e : j = n
    · subst e
      rw [core_setC _ _ _ hn]
      show (tickCore _ _ _ _ _).stepReq = false
      rw [t1]; exact h11 j hj
    · rw [core_setC_ne _ _ _ _ e]; exact h11 j hj
  have hcore : ∀ z : State, core (setC n { tickCore (core s n) op mv vals f with pc := ((core s n).pc + 1) % 2 ^ 14, holdCnt := 0, holdDone := false } z) n = { tickCore (core s n) op mv vals f with pc := ((core s n).pc + 1) % 2 ^ 14, holdCnt := 0, holdDone := false } := fun z => core_setC _ _ _ hn
  have hstall : (core s n).stall = none := by
    unfold coreIssues at h1
    simp only [Bool.and_eq_true, Option.isNone_iff_eq_none] at h1
    exact h1.2
  refine ⟨_, vals, hv, hfin, ⟨?_, ?_, ?_, ?_, ?_, ?_⟩, ?_, ?_, ?_, ?_, ?_, ?_⟩
  · exact ⟨rfl, by intro q hq; cases q <;> first | rfl | simp at hq⟩
  · intro j hj; rw [core_setC_ne _ _ _ _ hj]; rfl
  · rw [hcore]
  · rw [hcore]
    refine ⟨?_, t3, t4⟩
    dsimp only
    rw [t1]
    dsimp only
    rw [hstall]
  · intro i hi' hn'; rw [hcore]; exact t5 i hi' hn'
  · intro hb; exact hmn hb
  · rw [hcore]; exact t2
  · intro i hi'
    rw [hcore]
    show rdAccW (tickCore _ _ _ _ _) i = _
    have : rdAccW (tickCore (core s n) op mv vals f) i = rdAccW (midCore (core s n) op mv vals f) i := by
      unfold rdAccW; rw [t6, t7]
    rw [this]
    unfold midCore
    cases hfa : f.acc with
    | none => rfl
    | some a => exact rdAccW_wr _ _ _ _ (hg.2 a hfa) hi'
  · rw [hcore]; show (tickCore _ _ _ _ _).pend = _; rw [t1]
  · rw [hm]; rfl
  · rw [hm]; rfl
  · intro i v h; rw [hcore]; exact t8 i v h

theorem obs_final (f : Fx) (k : CoreState) (mv : Moves) : (fxDue f ++ satPend k mv ++ ptrPend k mv).foldl (fun o p => resObs p.res o) (obs k) =
   ⟨(match f.d with | some p => fun j => if j < 16 then (if p.1 = j then p.2 else (obs k).d j) else 0 | none => (obs k).d), bundleSt k f.flags f.sticky mv, (match f.idx with | some v => v | none => k.cur.idx)⟩ := by
  have hptr : ∀ o, (ptrPend k mv).foldl (fun o p => resObs p.res o) o = o := by
    intro o
    have : ∀ p ∈ ptrPend k mv, ∀ o, resObs p.res o = o := by
      intro p hp o
      unfold ptrPend at hp
      simp only [List.mem_map] at hp
      obtain ⟨a, ha, rfl⟩ := hp
      have := ptrWrites_lt k mv a ha
      have h2 : a.1 ≠ 0x21 := by omega
      simp [resObs, h2]
    generalize ptrPend k mv = l at *
    induction l generalizing o with
    | nil => rfl
    | cons a l ih => rw [List.foldl_cons, this a (by simp)]; exact ih o (fun p hp => this p (by simp [hp]))
  have hsat : ∀ o, (satPend k mv).foldl (fun o p => resObs p.res o) o = { o with st := o.st ||| BitVec.ofNat 64 (if mv.store && (slotY k mv).isSome then (storeValue k mv.y).2 else 0) } := by
    intro o
    unfold satPend
    cases h1 : (mv.store && (slotY k mv).isSome)
    · simp
    · by_cases h2 : (storeValue k mv.y).2 = 0
      · simp [h2]
      · simp [h2, resObs]
  rw [List.foldl_append, List.foldl_append, hptr, hsat]
  unfold fxDue
  rw [List.foldl_append, List.foldl_append, List.foldl_append]
  have hidx : ∀ v : BitVec 32, (v.setWidth 64).setWidth 32 = v := by intro v; ext i; simp
  unfold bundleSt
  cases hd : f.d <;> cases hf : f.flags <;> cases hi : f.idx <;> by_cases hs : f.sticky = 0 <;> simp [resObs, hs, hidx, obs]

theorem give_D {s : State} {n op dst sa sb md : Nat} {mv : Moves} {f : Fx} (hn : n < 8) (h : CoreReady s n) (hl : LocalMoves s n op mv) (hf : computeFx (core s n) op dst sa sb md = some f)
    (dd : Nat) (v : Word) (fl : Option Nat) (m : Nat) (ix : BitVec 32) (ha : f.acc = none) (hfl : f.flags = fl) (hm : f.sticky = m) (hdd : dd < 16)
    (hix : (match f.idx with | some v => v | none => (core s n).cur.idx) = ix) (hd : f.d = some (dd, v) ∨ (f.d = none ∧ v = rdD (core s n) dd)) :
    GivesD s n op mv dd v fl m ix (coreBundle n (.slots op dst sa sb md mv) s) := by
  have hg : fxGood f := by
    refine ⟨fun p hp => ?_, fun a hh => by rw [ha] at hh; cases hh⟩
    rcases hd with hd | hd
    · rw [hd] at hp; cases hp; exact hdd
    · rw [hd.1] at hp; cases hp
  obtain ⟨t, vals, _, ht, hs, ho, haw, _⟩ := slots_run hn h hl hf hg
  rw [ht]
  rw [obs_final] at ho
  have ho1 : ∀ j, (obs (core t n)).d j = _ := fun j => congrArg (fun o => o.d j) ho
  have ho2 : (core t n).cur.st = _ := congrArg Obs.st ho
  have ho3 : (core t n).cur.idx = _ := congrArg Obs.idx ho
  refine ⟨hs, ?_, ?_, ?_, ?_⟩
  · intro i hi
    have h1 := ho1 i
    have h2 : (obs (core t n)).d i = rdD (core t n) i := by show (if i < 16 then _ else _) = _; rw [if_pos hi]
    have h3 : (obs (core s n)).d i = rdD (core s n) i := by show (if i < 16 then _ else _) = _; rw [if_pos hi]
    rw [h2] at h1
    rw [h1]
    rcases hd with hd | hd
    · rw [hd]
      dsimp only
      rw [if_pos hi, h3]
      by_cases e : dd = i
      · rw [if_pos e, if_pos e.symm]
      · rw [if_neg e, if_neg (fun c => e c.symm)]
    · rw [hd.1]
      dsimp only
      rw [h3]
      split
      · rename_i e; rw [hd.2, e]
      · rfl
  · rw [ho2, hfl, hm]
  · rw [ho3]; exact hix
  · intro i hi; rw [haw i hi, ha]

theorem sadd_ov (a b : Word) : ((a.msb == b.msb) && ((a + b).msb != a.msb)) = outside64 (a.toInt + b.toInt) := by
  have h := BitVec.saddOverflow_eq a b
  have h2 : BitVec.saddOverflow a b = outside64 (a.toInt + b.toInt) := by
    unfold BitVec.saddOverflow outside64
    rw [Bool.or_comm]
  rw [← h2, h]; rfl
theorem ssub_ov (a b : Word) : ((a.msb != b.msb) && ((a - b).msb != a.msb)) = outside64 (a.toInt - b.toInt) := by
  have h := BitVec.ssubOverflow_eq a b
  have h2 : BitVec.ssubOverflow a b = outside64 (a.toInt - b.toInt) := by
    unfold BitVec.ssubOverflow outside64
    rw [Bool.or_comm]
  rw [← h2, h]
  cases a.msb <;> cases b.msb <;> cases (a - b).msb <;> rfl
theorem local_op {s : State} {n op : Nat} {mv : Moves} (h : LocalMoves s n 0 mv) (ho : isFtap op = false) : LocalMoves s n op mv := by
  refine ⟨h.1, fun x hx => h.2 x ?_⟩
  unfold accessesOf ftapMove at hx ⊢
  rw [ho] at hx
  exact hx
theorem shift_n (k : CoreState) (sb : Nat) (md : BitVec 8) (b : Word) (hb : b = rdD k sb) : shiftCount k sb md.toNat = (if md.getLsbD 7 then md.toNat % 64 else b.toNat % 64) := by
  subst hb; rfl

theorem satFlag31 (x : Int) : satFlag 32 x = (sat31 x, over31 x) := by
  have e : satFlag 32 x = if x < -(2 ^ 31) then (-(2 ^ 31), true) else if (2 : Int) ^ 31 ≤ x then (2 ^ 31 - 1, true) else (x, false) := rfl
  rw [e]
  unfold over31 sat31 clampInt
  by_cases h1 : x < -(2 ^ 31)
  · rw [if_pos h1, if_pos h1, decide_eq_true h1, Bool.true_or]
  · rw [if_neg h1, if_neg h1, decide_eq_false h1, Bool.false_or]
    by_cases h2 : (2 : Int) ^ 31 ≤ x
    · rw [if_pos h2, if_pos (by omega), decide_eq_true h2]
    · rw [if_neg h2, if_neg (by omega), decide_eq_false h2]
theorem satFlag63 (x : Int) : satFlag 64 x = (clampInt (-(2 ^ 63)) (2 ^ 63 - 1) x, outside64 x) := by
  have e : satFlag 64 x = if x < -(2 ^ 63) then (-(2 ^ 63), true) else if (2 : Int) ^ 63 ≤ x then (2 ^ 63 - 1, true) else (x, false) := rfl
  rw [e]
  unfold outside64 clampInt
  by_cases h1 : x < -(2 ^ 63)
  · rw [if_pos h1, if_pos h1, decide_eq_true h1, Bool.true_or]
  · rw [if_neg h1, if_neg h1, decide_eq_false h1, Bool.false_or]
    by_cases h2 : (2 : Int) ^ 63 ≤ x
    · rw [if_pos h2, if_pos (by omega), decide_eq_true h2]
    · rw [if_neg h2, if_neg (by omega), decide_eq_false h2]
theorem round_eq (rnd : Bool) (x : BitVec 80) : roundPart rnd x = satFlag 32 (round31 rnd x) := by
  unfold roundPart round31
  simp only []
  congr 1
  generalize x.toInt = v
  cases rnd
  · simp; split <;> omega
  · simp
    split <;> split <;> omega
theorem sat31_id (w : Word) : sat31 (reOf w) = reOf w ∧ over31 (reOf w) = false ∧ sat31 (imOf w) = imOf w ∧ over31 (imOf w) = false := by
  have hb : ∀ lo, sbits w (lo + 31) lo < 2 ^ 31 ∧ -(2 ^ 31) ≤ sbits w (lo + 31) lo := by
    intro lo
    unfold sbits
    have : bits w (lo + 31) lo < 2 ^ 32 := by
      unfold bits
      have e : lo + 31 + 1 - lo = 32 := by omega
      rw [e]; exact Nat.mod_lt _ (by decide)
    have e1 : lo + 31 - lo = 31 := by omega
    have e2 : lo + 31 + 1 - lo = 32 := by omega
    simp only [e1, e2]
    split <;> omega
  have h0 := hb 0
  have h1 := hb 32
  unfold reOf imOf sat31 over31 clampInt
  simp only [Nat.zero_add, Nat.reduceAdd] at h0 h1
  refine ⟨?_, ?_, ?_, ?_⟩
  · rw [if_neg (by omega), if_neg (by omega)]
  · simp; omega
  · rw [if_neg (by omega), if_neg (by omega)]
  · simp; omega
theorem pair_eq (i : Nat) (b : Bool) (re im : Int) : fxPair i b re im = fxD i (pairOf32 (sat31 re) (sat31 im), if b && (over31 re || over31 im) then 16 else 0) := by
  unfold fxPair
  rw [satFlag31, satFlag31]
theorem natAbs_sat (a : Int) (h : sat31 a = a) : (if a = -(2 ^ 31) then (2 ^ 31 - 1 : Int) else (a.natAbs : Int)) = sat31 (a.natAbs : Int) := by
  unfold sat31 clampInt at *
  split at h
  · split <;> split <;> omega
  · split at h
    · split <;> split <;> omega
    · split <;> split <;> (try split) <;> omega

theorem give_A {s : State} {n op dst sa sb md : Nat} {mv : Moves} (an : Nat) (v : Acc) (st : Nat) (aov : Bool) (hn : n < 8) (h : CoreReady s n) (hl : LocalMoves s n op mv) (hf : computeFx (core s n) op dst sa sb md = some (fxAcc an (v, st)))
    (han : an < 4) (hst : st = if aov then 32 else 0) :
    GivesAcc s n op mv an v.re v.im aov (coreBundle n (.slots op dst sa sb md mv) s) := by
  have hg : fxGood (fxAcc an (v, st)) := ⟨fun p hp => by simp [fxAcc, Fx.none] at hp, fun a hh => by simp [fxAcc] at hh; rw [← hh]; exact han⟩
  obtain ⟨t, vals, _, ht, hs, ho, haw, hpd, _⟩ := slots_run hn h hl hf hg
  rw [ht]
  rw [obs_final] at ho
  have ho1 : ∀ j, (obs (core t n)).d j = (obs (core s n)).d j := fun j => congrArg (fun o => o.d j) ho
  have ho2 : (core t n).cur.st = _ := congrArg Obs.st ho
  have ho3 : (core t n).cur.idx = _ := congrArg Obs.idx ho
  refine ⟨hs, ?_, ?_, ho3, ?_, ?_⟩
  · intro i hi
    have h1 := ho1 i
    have h2 : (obs (core t n)).d i = rdD (core t n) i := by show (if i < 16 then _ else _) = _; rw [if_pos hi]
    have h3 : (obs (core s n)).d i = rdD (core s n) i := by show (if i < 16 then _ else _) = _; rw [if_pos hi]
    rw [h2, h3] at h1; exact h1
  · rw [ho2]
    show bundleSt _ none st mv = _
    rw [hst]
  · intro i hi; rw [haw i hi]; rfl
  · rw [hpd]
    simp [fxAccs, fxAcc]
theorem acc_of (re im : Int) : accOf re im = (⟨BitVec.ofInt 80 re, BitVec.ofInt 80 im⟩, if outside80 re || outside80 im then 32 else 0) := rfl

/-! ### Control bundles -/

theorem goOn_eq (k : CoreState) : goOn k = { k with pc := (goOn k).pc, main := (goOn k).main, shadow := (goOn k).shadow } := by
  unfold goOn CoreState.modCur
  cases k.bank <;> rfl
theorem filled_nil (k : CoreState) : cacheFilled [] k = k := by
  unfold cacheFilled
  cases k.lc with
  | none => rfl
  | some c => simp
/-- The core right before the effect of a control bundle. -/
def ctlStart (k : CoreState) : CoreState := addCycles 1 { k with skipBkpt := false, stall := none }
/-- The state after a control bundle's own effect and the visibility of results, before WAIT or HALT. -/
def ctlMid (n opc ops : Nat) (s : State) : State :=
  let z := setC n (tickPend (controlOp opc ops (ctlStart (core s n)))) s
  if setsPc opc then z else afterBundle n z
theorem end_ctl {s : State} {n opc ops : Nat} (hn : n < 8) (hlc : ∀ w, noteFetch w (core s n) = core s n ∨ opc = 0x0F) (hlc2 : opc = 0x0F → (tickPend (controlOp opc ops (ctlStart (core s n)))) = (tickPend (controlOp opc ops (ctlStart (noteFetch (fetchWord s n) (core s n))))))
    (hr : (core s n).cur.rep = []) (hd : opc ≠ 0x0D) (hp : (core (ctlMid n opc ops s) n).posted = []) (hh : (core (ctlMid n opc ops s) n).halting = false) :
    endBundle n (.ctl opc ops) s = modCore n (afterCtl opc) (ctlMid n opc ops s) := by
  have e0 : tickPend (controlOp opc ops (addCycles 1 { noteFetch (fetchWord s n) (core s n) with skipBkpt := false, stall := none })) = tickPend (controlOp opc ops (ctlStart (core s n))) := by
    rcases hlc (fetchWord s n) with h | h
    · rw [h]; rfl
    · exact (hlc2 h).symm
  unfold endBundle
  dsimp only
  rw [mc n _ s hn, mc_setC _ _ _ _ hn, mc_setC _ _ _ _ hn, e0, hr]
  have hz : (if setsPc opc = true then setC n (tickPend (controlOp opc ops (ctlStart (core s n)))) s else afterBundle n (setC n (tickPend (controlOp opc ops (ctlStart (core s n)))) s)) = ctlMid n opc ops s := rfl
  rw [hz]
  generalize ctlMid n opc ops s = X at *
  have hA : ∀ k, (afterCtl opc k).posted = k.posted ∧ (afterCtl opc k).halting = k.halting := by
    intro k; unfold afterCtl; split
    · split <;> exact ⟨rfl, rfl⟩
    · split <;> exact ⟨rfl, rfl⟩
  rw [mc n _ X hn, mc_setC _ _ _ _ hn, filled_nil]
  rw [drain_none n _ (by rw [core_setC _ _ _ hn, (hA _).1]; exact hp)]
  have hm : ∀ (z : State), modCore n (fun k => if k.halting && (k.run == .running || k.run == .waiting) then debugHalt k else k) (setC n (afterCtl opc (core X n)) z) = setC n (afterCtl opc (core X n)) z := by
    intro z
    rw [mc_setC _ _ _ _ hn, (hA _).2, hh]
    rfl
  split
  · rename_i heq
    injection heq with h1 h2
    exact absurd h1 hd
  · exact hm X
theorem run_ctl {s : State} {n opc ops : Nat} (hp : (core s n).posted = []) : runBundle n (.ctl opc ops) [] s = endBundle n (.ctl opc ops) s := by
  unfold runBundle
  have hd := drain_none n s hp
  have h0 : plazaStores (core s n) (.ctl opc ops) = 0 := rfl
  simp only [hd, ite_self, hp, h0]
  simp
theorem tick_nil (k : CoreState) (h : k.pend = []) : tickPend k = k := by
  unfold tickPend
  rw [h]
  show ({ k with pend := [] } : CoreState) = k
  rw [← h]
theorem ctl_exc {s : State} {n : Nat} {br : Branch} {pend : List Pend} {opc ops : Nat} (h : CoreReadyAt s n br pend) (hx : ctlIllegal (core s n) opc ops = false) : bundleExc (core s n) (.ctl opc ops) = none := by
  obtain ⟨h1, h2, h3, h4, h5, h6, h7, h8, h9, h10, h11⟩ := h
  unfold bundleExc
  simp only [hx, h3, h8]
  simp [minExc]
theorem ctl_run {s : State} {n : Nat} {br : Branch} {pend : List Pend} {opc ops : Nat} (hn : n < 8) (h : CoreReadyAt s n br pend) (hx : ctlIllegal (core s n) opc ops = false) (hd : opc ≠ 0x0D)
    {X : State} (hX : ctlMid n opc ops s = X) (hp : (core X n).posted = []) (hh : (core X n).halting = false) (hq : ∀ m, m < 8 → (core X m).stepReq = false) :
    coreBundle n (.ctl opc ops) s = setC n { afterCtl opc (core X n) with holdCnt := 0, holdDone := false } X := by
  have hi := issue_ok h (ctl_exc h hx)
  obtain ⟨h1, h2, h3, h4, h5, h6, h7, h8, h9, h10, h11⟩ := h
  unfold coreBundle
  rw [hi, run_ctl h4, end_ctl hn (fun w => Or.inl (note_none w _ h9)) (fun _ => by rw [note_none _ _ h9]) h8 hd (by rw [hX]; exact hp) (by rw [hX]; exact hh), hX, mc n _ X hn, mc_setC _ _ _ _ hn]
  apply settle_none
  intro m hm
  by_cases e : m = n
  · subst e
    rw [core_setC _ _ _ hn]
    have : ∀ k, (afterCtl opc k).stepReq = k.stepReq := by
      intro k; unfold afterCtl; split
      · split <;> rfl
      · split <;> rfl
    show (afterCtl opc _).stepReq = false
    rw [this]; exact hq m hm
  · rw [core_setC_ne _ _ _ _ e]; exact hq m hm
/-- A control bundle that only changes its own core, by the core it leaves. -/
theorem ctl_core {s : State} {n : Nat} {br : Branch} {pend : List Pend} {opc ops : Nat} (hn : n < 8) (h : CoreReadyAt s n br pend) (hx : ctlIllegal (core s n) opc ops = false) (hd : opc ≠ 0x0D)
    {K : CoreState} (hX : ctlMid n opc ops s = setC n K s) (hp : K.posted = []) (hh : K.halting = false) (hq : K.stepReq = false) (f : CoreState → CoreState)
    (hf : { afterCtl opc K with holdCnt := 0, holdDone := false } = f (core s n)) :
    coreBundle n (.ctl opc ops) s = modCore n f s := by
  have h11 := h.2.2.2.2.2.2.2.2.2.2
  rw [ctl_run hn h hx hd hX (by rw [core_setC _ _ _ hn]; exact hp) (by rw [core_setC _ _ _ hn]; exact hh) (by
    intro m hm
    by_cases e : m = n
    · subst e; rw [core_setC _ _ _ hn]; exact hq
    · rw [core_setC_ne _ _ _ _ e]; exact h11 m hm), core_setC _ _ _ hn, setC_setC, hf, mc n f s hn]
/-- The state after a control bundle that does not set PC, when no branch is pending. -/
theorem mid_on {s : State} {n opc ops : Nat} (hn : n < 8) (hs : setsPc opc = false) {K : CoreState} (hK : tickPend (controlOp opc ops (ctlStart (core s n))) = K) (hb : K.br = Branch.none) (hr : K.cur.rep = []) :
    ctlMid n opc ops s = setC n { K with pc := (K.pc + 1) % 2 ^ 14 } s := by
  unfold ctlMid
  rw [hs, hK]
  show afterBundle n (setC n K s) = _
  rw [after_slots hn hb, goOn_facts K hr]
theorem mid_br {s : State} {n opc ops : Nat} (hs : setsPc opc = true) {K : CoreState} (hK : tickPend (controlOp opc ops (ctlStart (core s n))) = K) : ctlMid n opc ops s = setC n K s := by
  unfold ctlMid
  rw [hs, hK]; rfl

/-! ### Loads and stores, and what control bundles leave -/

theorem ptr_one {s t : State} {n op : Nat} {mv : Moves} (i : Nat) (o : Option (BitVec 41)) (hi : i < 8) (h : ptrWrites (core s n) mv = o.toList.map (fun v => (i, v)))
    (hs : SlotsIssued s t n op mv) (hl : ∀ i v, ptrWrites (core s n) mv = [(i, v)] → rdP (core t n) i = v) : rdP (core t n) i = o.getD (rdP (core s n) i) := by
  cases o with
  | none => exact hs.2.2.2.2.1 i hi (by intro v; rw [h]; simp)
  | some v => exact hl i v h
/-- the pointer a slot leaves -/
def slotPtr (k : CoreState) (store : Bool) (m : MoveSlot) : Option (BitVec 41) :=
  (slotStep k store m).map (ptrAdd (rdP k m.ptr.val) (rdB k m.ptr.val) (rdL k m.ptr.val))
theorem ptr_load (k : CoreState) (y : Bool) (kind : Fin 4) (m : MoveSlot) : ptrWrites k (loadMoves y kind m) = (slotPtr k false (moveOf kind m)).toList.map (fun v => (m.ptr.val, v)) := by
  have h0 : ∀ st, slotStep k st noMove = none := fun st => rfl
  cases y
  · unfold ptrWrites loadMoves slotPtr
    simp only [Bool.false_eq_true, if_false, h0, Option.map_none, Option.toList_none, List.map_nil, List.append_nil]
    rfl
  · unfold ptrWrites loadMoves slotPtr
    simp only [if_true, h0, Option.map_none, Option.toList_none, List.map_nil, List.nil_append, Option.getD_none, ite_self]
    rfl
theorem ptr_store (k : CoreState) (kind : Fin 4) (m : MoveSlot) : ptrWrites k (storeMoves kind m) = (slotPtr k true (moveOf kind m)).toList.map (fun v => (m.ptr.val, v)) := by
  have h0 : ∀ st, slotStep k st noMove = none := fun st => rfl
  unfold ptrWrites storeMoves slotPtr
  simp only [h0, Option.map_none, Option.toList_none, List.map_nil, List.nil_append, Option.getD_none, ite_self]
  rfl
theorem ptr_after (k : CoreState) (store : Bool) (kind : Fin 4) (m : MoveSlot) (z : Int) (h7 : m.mode ≠ 7) (hk : kind.val ≠ 0) (hk3 : store = true ∨ kind.val ≠ 3) (hz : (slotSize store (moveOf kind m) : Int) = z) :
    (slotPtr k store (moveOf kind m)).getD (rdP k m.ptr.val) = pointerAfter k z m := by
  have hm : (moveOf kind m).mode = m.mode ∧ (moveOf kind m).ptr = m.ptr ∧ (moveOf kind m).kind = kind ∧ (moveOf kind m).ofs = m.ofs := ⟨rfl, rfl, rfl, rfl⟩
  have ho : slotOfs (moveOf kind m) = slotOfs m := rfl
  unfold slotPtr slotStep pointerAfter
  rw [hm.1, hm.2.1, hm.2.2.1, hz, ho]
  have hc : (kind.val = 0 || (!store && kind.val = 3)) = false := by
    have e1 : decide (kind.val = 0) = false := decide_eq_false hk
    rw [e1]
    rcases hk3 with h | h
    · rw [h]; rfl
    · rw [decide_eq_false h]; simp
  simp only [hc]
  have : m.mode = 0 ∨ m.mode = 1 ∨ m.mode = 2 ∨ m.mode = 3 ∨ m.mode = 4 ∨ m.mode = 5 ∨ m.mode = 6 := by
    have := m.mode.isLt
    have h7' : m.mode.val ≠ 7 := fun e => h7 (Fin.ext e)
    simp only [Fin.ext_iff]
    show m.mode.val = 0 ∨ m.mode.val = 1 ∨ m.mode.val = 2 ∨ m.mode.val = 3 ∨ m.mode.val = 4 ∨ m.mode.val = 5 ∨ m.mode.val = 6
    omega
  rcases this with h | h | h | h | h | h | h <;> rw [h] <;> rfl
theorem access_on (kind : Fin 4) (m : MoveSlot) (store : Bool) (h7 : m.mode ≠ 7) (hk : kind.val ≠ 0) (hk3 : store = true ∨ kind.val ≠ 3) : slotAccess store (moveOf kind m) = true := by
  unfold slotAccess
  have hm : (moveOf kind m).mode = m.mode ∧ (moveOf kind m).kind = kind := ⟨rfl, rfl⟩
  rw [hm.1, hm.2]
  have : m.mode.val ≠ 7 := fun e => h7 (Fin.ext e)
  simp only [ne_eq, decide_not]
  rw [decide_eq_false hk, decide_eq_false this]
  rcases hk3 with h | h
  · rw [h]; rfl
  · rw [decide_eq_false h]; simp
theorem aligned_of (x : Access) (h : accessExc x = none) : x.addr.toNat % x.size = 0 := by
  unfold accessExc at h
  simp only at h
  split at h
  · cases h
  · omega
theorem coreBase_al (n : Nat) : coreBase n % 8 = 0 := by unfold coreBase; omega
theorem pick8 (n : Nat) (x : Access) (m : Memory) (h : x.size = 8) (hx : accessExc x = none) : pickBytes x (m.readW (localAddr n x.addr.toNat / 8 * 8)) = m.readW (localAddr n x.addr.toNat) := by
  have := aligned_of x hx
  rw [h] at this
  unfold pickBytes
  rw [if_pos h]
  have hb := coreBase_al n
  have : localAddr n x.addr.toNat / 8 * 8 = localAddr n x.addr.toNat := by unfold localAddr; omega
  rw [this]
theorem pick4 (n : Nat) (x : Access) (m : Memory) (h : x.size = 4) : pickBytes x (m.readW (localAddr n x.addr.toNat / 8 * 8)) = BitVec.ofNat 64 ((m.readW (localAddr n x.addr.toNat / 8 * 8)).toNat / 2 ^ (8 * (localAddr n x.addr.toNat % 8)) % 2 ^ 32) := by
  unfold pickBytes
  rw [if_neg (by omega)]
  have hb := coreBase_al n
  have : localAddr n x.addr.toNat % 8 = x.addr.toNat % 8 := by unfold localAddr; omega
  rw [this]

theorem load_all {s : State} {n : Nat} {mv : Moves} (y : Bool) (kind : Fin 4) (m : MoveSlot) (z : Nat) (hn : n < 8) (h : CoreReady s n) (hmv : mv = loadMoves y kind m) (hl : LocalMoves s n 0 mv) (h7 : m.mode ≠ 7)
    (hk : kind.val ≠ 0) (hk3 : kind.val ≠ 3) (hz : slotSize false (moveOf kind m) = z) :
    ∃ t, coreBundle n (.slots 0 0 0 0 0 mv) s = t ∧ GivesD s n 0 mv 0 (rdD (core s n) 0) none 0 (core s n).cur.idx t ∧ t.mem = s.mem ∧
      rdP (core t n) m.ptr.val = pointerAfter (core s n) z m ∧
      ∃ x : Access, x.addr = slotAddr (core s n) false (moveOf kind m) ∧ x.size = z ∧ accessExc x = none ∧
        (core t n).pend = [⟨1, .d m.reg.val (pickBytes x (s.mem.readW (localAddr n x.addr.toNat / 8 * 8)))⟩] := by
  have hg := give_D hn h hl (f := Fx.none) (dst := 0) (sa := 0) (sb := 0) (md := 0) rfl 0 _ none 0 _ rfl rfl rfl (by decide) rfl (Or.inr ⟨rfl, rfl⟩)
  obtain ⟨t, vals, hv, ht, hs, ho, haw, hpd, hme, hec, hla⟩ := slots_run hn h hl (f := Fx.none) (dst := 0) (sa := 0) (sb := 0) (md := 0) rfl ⟨(by intro p hp; cases hp), (by intro a hh; cases hh)⟩
  rw [ht] at hg
  have hac := access_on kind m false h7 hk (Or.inr hk3)
  have hacc : accessesOf (core s n) 0 mv = [⟨slotAddr (core s n) false (moveOf kind m), z⟩] ∧ loadsOf (core s n) mv = [⟨slotAddr (core s n) false (moveOf kind m), z⟩] := by
    rw [hmv, ← hz]
    cases y
    · unfold accessesOf loadsOf loadX slotY ftapMove loadMoves
      simp only [Bool.false_eq_true, if_false, hac]
      exact ⟨rfl, rfl⟩
    · unfold accessesOf loadsOf loadX slotY ftapMove loadMoves
      simp only [if_true, hac]
      exact ⟨rfl, rfl⟩
  refine ⟨t, ht, hg, ?_, ?_, ⟨slotAddr (core s n) false (moveOf kind m), z⟩, rfl, rfl, ?_, ?_⟩
  · exact (hs.2.2.2.2.2 (by rw [hmv]; cases y <;> rfl)).1
  · rw [ptr_one m.ptr.val _ m.ptr.isLt (by rw [hmv]; exact ptr_load _ y kind m) hs hla]
    exact ptr_after _ false kind m z h7 hk (Or.inr hk3) (by rw [hz])
  · exact (hl.2 _ (by rw [hacc.1]; simp)).2.1
  · rw [hpd]
    have hvv : vals = [pickBytes ⟨slotAddr (core s n) false (moveOf kind m), z⟩ (s.mem.readW (localAddr n (slotAddr (core s n) false (moveOf kind m)).toNat / 8 * 8))] := by rw [hv, hacc.2]; rfl
    have hlp : loadPend (core s n) mv vals = [⟨2, .d m.reg.val (vals.getD 0 0)⟩] := by
      rw [hmv]
      cases y
      · unfold loadPend loadX slotY loadMoves
        simp only [Bool.false_eq_true, if_false, hac]
        rfl
      · unfold loadPend loadX slotY loadMoves
        simp only [if_true, hac]
        rfl
    rw [hlp, hvv]
    rfl
theorem store_mem (n : Nat) (x : Access) (w : Word) (s : State) (h : isPlaza x.addr = false) (hz : x.size = 8) (hw : s.mem.wf = true) :
    (coreStore n x w s).mem.readW (localAddr n x.addr.toNat) = w ∧ SameOutside (localAddr n x.addr.toNat) 8 s (coreStore n x w s) := by
  have e : (coreStore n x w s).mem = s.mem.writeW (localAddr n x.addr.toNat) w := by
    unfold coreStore
    rw [if_neg (by rw [h]; decide), hz]; rfl
  refine ⟨by rw [e]; exact Memory.readW_writeW _ _ hw, ?_⟩
  intro a ha
  rw [e]
  exact Memory.read_writeN_outside a 8 _ _ hw ha
theorem store_all {s : State} {n : Nat} {mv : Moves} (kind : Fin 4) (m : MoveSlot) (hn : n < 8) (h : CoreReady s n) (hw : s.mem.wf = true) (hmv : mv = storeMoves kind m) (hl : LocalMoves s n 0 mv) (h7 : m.mode ≠ 7)
    (hk : kind.val ≠ 0) :
    ∃ t, coreBundle n (.slots 0 0 0 0 0 mv) s = t ∧ GivesD s n 0 mv 0 (rdD (core s n) 0) none 0 (core s n).cur.idx t ∧
      t.mem.readW (localAddr n (slotAddr (core s n) true (moveOf kind m)).toNat) = (storeValue (core s n) (moveOf kind m)).1 ∧
      SameOutside (localAddr n (slotAddr (core s n) true (moveOf kind m)).toNat) 8 s t ∧
      rdP (core t n) m.ptr.val = pointerAfter (core s n) 8 m ∧ (core t n).pend = [] := by
  have hg := give_D hn h hl (f := Fx.none) (dst := 0) (sa := 0) (sb := 0) (md := 0) rfl 0 _ none 0 _ rfl rfl rfl (by decide) rfl (Or.inr ⟨rfl, rfl⟩)
  obtain ⟨t, vals, hv, ht, hs, ho, haw, hpd, hme, hec, hla⟩ := slots_run hn h hl (f := Fx.none) (dst := 0) (sa := 0) (sb := 0) (md := 0) rfl ⟨(by intro p hp; cases hp), (by intro a hh; cases hh)⟩
  rw [ht] at hg
  have hac := access_on kind m true h7 hk (Or.inl rfl)
  have hsy : slotY (core s n) mv = some ⟨slotAddr (core s n) true (moveOf kind m), 8⟩ := by
    rw [hmv]
    unfold slotY storeMoves
    dsimp only
    rw [hac]; rfl
  have hmem : memAfter n 0 mv vals (core s n) s = coreStore n ⟨slotAddr (core s n) true (moveOf kind m), 8⟩ (storeValue (core s n) (moveOf kind m)).1 s := by
    unfold memAfter
    have h1 : mv.store = true := by rw [hmv]; rfl
    have h2 : mv.y = moveOf kind m := by rw [hmv]; rfl
    have h3 : ftapMove (core s n) 0 mv = none := rfl
    rw [h1, if_pos rfl, hsy, h2, h3]
  rw [hmem] at hme
  have hpl : isPlaza (slotAddr (core s n) true (moveOf kind m)) = false := (hl.2 ⟨slotAddr (core s n) true (moveOf kind m), 8⟩ (by unfold accessesOf; rw [hsy]; exact List.mem_append_left _ (List.mem_append_right _ (List.mem_singleton.mpr rfl)))).1
  have hst := store_mem n ⟨slotAddr (core s n) true (moveOf kind m), 8⟩ (storeValue (core s n) (moveOf kind m)).1 s hpl rfl hw
  refine ⟨t, ht, hg, ?_, ?_, ?_, ?_⟩
  · rw [hme]; exact hst.1
  · intro a ha; rw [hme]; exact hst.2 a ha
  · rw [ptr_one m.ptr.val _ m.ptr.isLt (by rw [hmv]; exact ptr_store _ kind m) hs hla]
    exact ptr_after _ true kind m 8 h7 hk (Or.inl rfl) rfl
  · rw [hpd, hmv]; rfl
theorem start_stall {s : State} {n : Nat} {br : Branch} {pend : List Pend} (h : CoreReadyAt s n br pend) : (core s n).stall = none ∧ (core s n).run = .running := by
  have h1 := h.1
  unfold coreIssues at h1
  simp only [Bool.and_eq_true, Option.isNone_iff_eq_none] at h1
  exact ⟨h1.2, by simpa using h1.1.1⟩
theorem rep_fun (f : List RepLevel → List RepLevel) (hf : f [] = []) (x : CoreState) (h : x.cur.rep = []) : x.modCur (fun b => { b with rep := f b.rep }) = x := by
  by_cases hb : x.bank = true
  · have h1 : x.shadow.rep = [] := by unfold CoreState.cur at h; rw [if_pos hb] at h; exact h
    have e : (fun b : Bank => { b with rep := f b.rep }) x.shadow = x.shadow := by
      show ({ x.shadow with rep := f x.shadow.rep } : Bank) = x.shadow
      rw [h1, hf, ← h1]
    unfold CoreState.modCur
    rw [if_pos hb, e]
  · have h1 : x.main.rep = [] := by unfold CoreState.cur at h; rw [if_neg hb] at h; exact h
    have e : (fun b : Bank => { b with rep := f b.rep }) x.main = x.main := by
      show ({ x.main with rep := f x.main.rep } : Bank) = x.main
      rw [h1, hf, ← h1]
    unfold CoreState.modCur
    rw [if_neg hb, e]
theorem branch_eq (tk : Bool) (tgt : Nat) (kd : BranchKind) (k : CoreState) (h : k.cur.rep = []) :
    branchTo tk tgt kd k = { k with br := ⟨2, tk, tgt % 2 ^ 14, kd, k.pc⟩, pc := (k.pc + 1) % 2 ^ 14 } := by
  unfold branchTo
  cases tk
  · exact goOn_facts _ h
  · dsimp only
    rw [if_neg (by decide)]
    exact rep_fun (fun l => if kd == .jump then l.filter (fun r => r.start ≤ tgt % 2 ^ 14 && tgt % 2 ^ 14 ≤ r.stop) else l) (by cases kd <;> rfl) _ h
theorem tick_later (l : Nat) (r : Result) (k : CoreState) (h : k.pend = [⟨l + 1, r⟩]) : tickPend k = { k with pend := [⟨l, r⟩] } := by
  unfold tickPend; rw [h]; rfl
theorem tick_now (r : Result) (k : CoreState) (h : k.pend = [⟨0, r⟩]) : tickPend k = applyResult r { k with pend := [] } := by
  unfold tickPend; rw [h]; rfl
theorem spent_eq (k : CoreState) (h : k.stall = none) : ({ ctlStart k with holdCnt := 0, holdDone := false } : CoreState) = k.spent 1 := by
  unfold ctlStart CoreState.spent addCycles
  dsimp only
  rw [h]
theorem off_24 (c : Nat) (ofs : BitVec 24) : toSigned 24 (c * 2 ^ 52 + ofs.toNat) = ofs.toInt := by
  unfold toSigned
  have h := ofs.isLt
  have e : (c * 2 ^ 52 + ofs.toNat) % 2 ^ 24 = ofs.toNat := by omega
  rw [e, BitVec.toInt_eq_toNat_cond]
theorem br_target (k : CoreState) (ops : Nat) (ofs : BitVec 24) (h : toSigned 24 ops = ofs.toInt) : pcPlus k ops % 2 ^ 14 = (((k.pc : Int) + ofs.toInt) % 2 ^ 14).toNat := by
  unfold pcPlus
  rw [h]
  omega
theorem cond_list (st : Word) (c : Fin 16) (h : c.val ≤ 9) (z n v sat : Bool) (hz : z = st.getLsbD 0) (hn : n = st.getLsbD 1) (hv : v = st.getLsbD 3) (hs : sat = st.getLsbD 4) :
    condHolds st c.val = [true, z, !z, n, !n, !z && n == v, z || n != v, v, !v, sat].getD c.val false := by
  subst hz hn hv hs
  have : c.val = 0 ∨ c.val = 1 ∨ c.val = 2 ∨ c.val = 3 ∨ c.val = 4 ∨ c.val = 5 ∨ c.val = 6 ∨ c.val = 7 ∨ c.val = 8 ∨ c.val = 9 := by omega
  rcases this with h | h | h | h | h | h | h | h | h | h <;> rw [h] <;> rfl
theorem isNone_pc (k : CoreState) (b : Bank) (p q code : Nat) : (sregRead k b p code).isNone = (sregRead k b q code).isNone := by
  unfold sregRead
  split
  · rfl
  split
  · rfl
  split
  · rfl
  split
  · rfl
  split <;> rfl
theorem wrD_facts (i : Nat) (v : Word) (k : CoreState) : (wrD i v k).br = k.br ∧ (wrD i v k).cur.rep = k.cur.rep ∧ (wrD i v k).pc = k.pc ∧ (wrD i v k).posted = k.posted ∧ (wrD i v k).halting = k.halting ∧ (wrD i v k).stepReq = k.stepReq := by
  unfold wrD
  split
  · exact ⟨rfl, rfl, rfl, rfl, rfl, rfl⟩
  · unfold CoreState.modCur CoreState.cur
    cases k.bank <;> exact ⟨rfl, rfl, rfl, rfl, rfl, rfl⟩
theorem wrD_hold (i : Nat) (v : Word) (k : CoreState) (p : Nat) : ({ wrD i v k with pc := p, holdCnt := 0, holdDone := false } : CoreState) = { wrD i v { k with holdCnt := 0, holdDone := false } with pc := p } := by
  unfold wrD
  split
  · rfl
  · unfold CoreState.modCur
    cases k.bank <;> rfl
theorem wrD_pend (i : Nat) (v : Word) (k : CoreState) (l : List Pend) : ({ wrD i v k with pend := l } : CoreState) = wrD i v { k with pend := l } := by
  unfold wrD
  split
  · rfl
  · unfold CoreState.modCur
    cases k.bank <;> rfl
theorem modCur_congr (f g : Bank → Bank) (k : CoreState) (h : f k.cur = g k.cur) : k.modCur f = k.modCur g := by
  unfold CoreState.modCur CoreState.cur at *
  split
  · rename_i hb; rw [if_pos hb] at h; rw [h]
  · rename_i hb; rw [if_neg hb] at h; rw [h]
theorem mod_rep (k : CoreState) (h : k.cur.rep = []) (l : RepLevel) : k.modCur (fun b => { b with rep := l :: b.rep }) = k.modCur (fun b => { b with rep := [l] }) :=
  modCur_congr _ _ _ (by show ({ k.cur with rep := l :: k.cur.rep } : Bank) = { k.cur with rep := [l] }; rw [h])
/-- A control bundle whose only result is a D register. -/
theorem ctl_d {s : State} {n : Nat} {opc ops : Nat} (hn : n < 8) (h : CoreReady s n) (hx : ctlIllegal (core s n) opc ops = false) (hd : opc ≠ 0x0D) (hb : opc ≠ 0x0B) (hc : opc ≠ 0x0C) (hs : setsPc opc = false) (i : Nat) (v : Word)
    (hco : controlOp opc ops (ctlStart (core s n)) = addPend ⟨0, .d i v⟩ (ctlStart (core s n))) :
    coreBundle n (.ctl opc ops) s = modCore n (fun k => { wrD i v (k.spent 1) with pc := ((core s n).pc + 1) % 2 ^ 14 }) s := by
  have hst := (start_stall h).1
  have hR := h
  obtain ⟨h1, h2, h3, h4, h5, h6, h7, h8, h9, h10, h11⟩ := h
  have e1 : (addPend ⟨0, .d i v⟩ (ctlStart (core s n))).pend = [⟨0, .d i v⟩] := by show (core s n).pend ++ _ = _; rw [h6]; rfl
  have e2 : ({ addPend ⟨0, .d i v⟩ (ctlStart (core s n)) with pend := [] } : CoreState) = ctlStart (core s n) := by
    show ({ ctlStart (core s n) with pend := [] } : CoreState) = ctlStart (core s n)
    have : (ctlStart (core s n)).pend = [] := h6
    rw [← this]
  have hK : tickPend (controlOp opc ops (ctlStart (core s n))) = wrD i v (ctlStart (core s n)) := by
    rw [hco, tick_now _ _ e1, e2]; rfl
  obtain ⟨f1, f2, f3, f4, f5, f6⟩ := wrD_facts i v (ctlStart (core s n))
  refine ctl_core hn hR hx hd (K := { wrD i v (ctlStart (core s n)) with pc := ((wrD i v (ctlStart (core s n))).pc + 1) % 2 ^ 14 }) (mid_on hn hs hK (f1.trans h7) (f2.trans h8)) (f4.trans h4) (f5.trans h10) (f6.trans (h11 n hn)) _ ?_
  have ha : ∀ k, afterCtl opc k = k := by intro k; unfold afterCtl; rw [if_neg hb, if_neg hc]
  rw [ha, f3]
  refine (wrD_hold i v (ctlStart (core s n)) (((core s n).pc + 1) % 2 ^ 14)).trans ?_
  rw [spent_eq _ hst]
/-- A control bundle that changes only what its own effect on the run state says. -/
theorem ctl_idle {s : State} {n : Nat} {opc ops : Nat} (hn : n < 8) (h : CoreReady s n) (hx : ctlIllegal (core s n) opc ops = false) (hd : opc ≠ 0x0D) (hs : setsPc opc = false) (hco : controlOp opc ops (ctlStart (core s n)) = ctlStart (core s n))
    (f : CoreState → CoreState) (hf : ({ afterCtl opc { ctlStart (core s n) with pc := ((core s n).pc + 1) % 2 ^ 14 } with holdCnt := 0, holdDone := false } : CoreState) = f (core s n)) :
    coreBundle n (.ctl opc ops) s = modCore n f s := by
  have hR := h
  obtain ⟨h1, h2, h3, h4, h5, h6, h7, h8, h9, h10, h11⟩ := h
  exact ctl_core hn hR hx hd (K := { ctlStart (core s n) with pc := ((core s n).pc + 1) % 2 ^ 14 }) (mid_on hn hs (K := ctlStart (core s n)) (by rw [hco]; exact tick_nil _ (by exact h6)) h7 h8) h4 h10 (h11 n hn) f hf
/-- ICINV, whatever the loop cache holds. -/
theorem ctl_icinv {s z : State} {n : Nat} (hn : n < 8) (h : CoreReady s n) (lc : Option LoopCache) (hz : z = modCore n (fun k => { k with lc := lc }) s) :
    coreBundle n (.ctl 0x0F 0) z = modCore n (fun k => { k.spent 1 with pc := ((core s n).pc + 1) % 2 ^ 14, lc := none }) z := by
  have hst := (start_stall h).1
  obtain ⟨h1, h2, h3, h4, h5, h6, h7, h8, h9, h10, h11⟩ := h
  have hcz : core z n = { core s n with lc := lc } := by rw [hz, mc _ _ _ hn, core_setC _ _ _ hn]
  have hno : ∀ m, m ≠ n → core z m = core s m := by intro m hm; rw [hz, mc _ _ _ hn, core_setC_ne _ _ _ _ hm]
  have hfetch : ∀ w, ∃ l, noteFetch w (core z n) = { core z n with lc := l } := by
    intro w
    have hh : cacheHit (core z n) = none := by
      unfold cacheHit
      have : (core z n).cur.rep = [] := by rw [hcz]; exact h8
      rw [this]
      cases (core z n).lc <;> rfl
    unfold noteFetch
    rw [hh]
    cases hl : (core z n).lc with
    | none => exact ⟨none, by dsimp only; rw [← hl]⟩
    | some c =>
      dsimp only
      split
      · exact ⟨_, rfl⟩
      · exact ⟨some c, by rw [← hl]⟩
  have hmid : ∀ k : CoreState, k.pend = [] → tickPend (controlOp 0x0F 0 (ctlStart k)) = { ctlStart k with lc := none } := fun k hk => tick_nil _ (by exact hk)
  have hbr : (core z n).br.slots = 0 := by rw [hcz]; show (core s n).br.slots = 0; rw [h7]; rfl
  have hX : ctlMid n 0x0F 0 z = setC n { ctlStart (core z n) with lc := none, pc := ((core s n).pc + 1) % 2 ^ 14 } z := by
    have := mid_on (s := z) (n := n) (opc := 0x0F) (ops := 0) hn rfl (K := { ctlStart (core z n) with lc := none }) (hmid _ (by rw [hcz]; exact h6)) (by rw [hcz]; exact h7) (by rw [hcz]; exact h8)
    rw [this]
    show setC n { ctlStart (core z n) with lc := none, pc := ((core z n).pc + 1) % 2 ^ 14 } z = _
    rw [hcz]
  have hi := issue_free (s := z) (n := n) (b := .ctl 0x0F 0) (by
      unfold coreIssues at h1 ⊢
      rw [hcz, hz]; exact h1) (by rw [hcz]; exact h2) (by rw [hcz]; exact h5) (by
      unfold bundleExc
      have : (core z n).aborts = [] := by rw [hcz]; exact h3
      simp only [this, ctlIllegal, hbr]
      rfl)
  unfold coreBundle
  rw [hi, run_ctl (by rw [hcz]; exact h4), end_ctl hn (fun w => Or.inr rfl) (fun _ => by
      obtain ⟨l, hl⟩ := hfetch (fetchWord z n)
      rw [hmid _ (by rw [hcz]; exact h6), hl, hmid _ (by rw [hcz]; exact h6)]
      rfl) (by rw [hcz]; exact h8) (by decide) (by rw [hX, core_setC _ _ _ hn]; rw [hcz]; exact h4) (by rw [hX, core_setC _ _ _ hn]; rw [hcz]; exact h10)]
  rw [hX, mc_setC _ _ _ _ hn, mc_setC _ _ _ _ hn, settle_none]
  · rw [mc n _ z hn]
    congr 1
    show ({ ctlStart (core z n) with lc := none, pc := _, holdCnt := 0, holdDone := false } : CoreState) = _
    exact congrArg (fun z : CoreState => { z with lc := none, pc := ((core s n).pc + 1) % 2 ^ 14 }) (spent_eq (core z n) (by rw [hcz]; exact hst))
  · intro m hm
    by_cases e : m = n
    · subst e; rw [core_setC _ _ _ hn]
      show (core z m).stepReq = false
      rw [hcz]; exact h11 m hm
    · rw [core_setC_ne _ _ _ _ e, hno m e]; exact h11 m hm
theorem ctl_rep {s : State} {n : Nat} (hn : n < 8) (h : CoreReady s n) (ops cnt len : Nat) (yld reg : Bool) (e1 : ops % 2 ^ 16 + 1 = len) (e2 : ops.testBit 54 = reg) (e3 : ops.testBit 55 = yld)
    (e4 : (if reg then (rdD (core s n) (ops / 2 ^ 30 % 16)).toNat % 2 ^ 24 else ops / 2 ^ 30 % 2 ^ 24) = cnt) :
    coreBundle n (.ctl 8 ops) s = modCore n (fun k =>
        if reg = true ∧ cnt = 0 then { k.spent 1 with pc := (k.pc + 1 + len) % 2 ^ 14 }
        else { k.spent 1 with
          pc := ((core s n).pc + 1) % 2 ^ 14
          lc := if len ≤ 16 then some { start := ((core s n).pc + 1) % 2 ^ 14, len := len, filling := true, body := [] } else none
          captures := if len ≤ 16 then (k.captures + 1) % 2 ^ 32 else k.captures }.modCur
            (fun b => { b with rep := [{ count := cnt, start := ((core s n).pc + 1) % 2 ^ 14, stop := (k.pc + len) % 2 ^ 14, yield := yld }] })) s := by
  have hst := (start_stall h).1
  have hR := h
  obtain ⟨h1, h2, h3, h4, h5, h6, h7, h8, h9, h10, h11⟩ := h
  have hil : ctlIllegal (core s n) 8 ops = false := by
    unfold ctlIllegal
    have : (core s n).br.slots = 0 := by rw [h7]; rfl
    rw [this]; rfl
  have hco : controlOp 8 ops (ctlStart (core s n)) = repeatOp ops (ctlStart (core s n)) := rfl
  have e4' : (if reg = true then (rdD (ctlStart (core s n)) (ops / 2 ^ 30 % 16)).toNat % 2 ^ 24 else ops / 2 ^ 30 % 2 ^ 24) = cnt := e4
  by_cases hc : reg = true ∧ cnt = 0
  · have hro : repeatOp ops (ctlStart (core s n)) = { ctlStart (core s n) with pc := ((core s n).pc + 1 + len) % 2 ^ 14 } := by
      unfold repeatOp
      simp only [e1, e2, e4']
      rw [if_pos (by rw [hc.1, hc.2]; rfl)]
      rfl
    refine ctl_core hn hR hil (by decide) (K := { ctlStart (core s n) with pc := ((core s n).pc + 1 + len) % 2 ^ 14 }) (mid_br rfl (by rw [hco, hro]; exact tick_nil _ (by exact h6))) h4 h10 (h11 n hn) _ ?_
    rw [if_pos hc]
    exact congrArg (fun z : CoreState => { z with pc := ((core s n).pc + 1 + len) % 2 ^ 14 }) (spent_eq _ hst)
  · have hro : repeatOp ops (ctlStart (core s n)) = { ctlStart (core s n) with
          pc := ((core s n).pc + 1) % 2 ^ 14
          lc := if len ≤ 16 then some { start := ((core s n).pc + 1) % 2 ^ 14, len := len, filling := true, body := [] } else none
          captures := if len ≤ 16 then ((core s n).captures + 1) % 2 ^ 32 else (core s n).captures }.modCur
            (fun b => { b with rep := [{ count := cnt, start := ((core s n).pc + 1) % 2 ^ 14, stop := ((core s n).pc + len) % 2 ^ 14, yield := yld }] }) := by
      unfold repeatOp
      simp only [e1, e2, e3, e4']
      rw [if_neg (by intro c; apply hc; simpa using c)]
      have hl : (ctlStart (core s n)).lc = none := h9
      rw [hl]
      by_cases hlen : len ≤ 16
      · rw [if_pos hlen, if_pos hlen]
        simp only [hlen]
        rw [mod_rep _ (by exact h8)]
        rfl
      · rw [if_neg hlen, if_neg hlen]
        simp only [hlen]
        rw [mod_rep _ (by exact h8)]
        show CoreState.modCur _ ({ ctlStart (core s n) with pc := _ } : CoreState) = CoreState.modCur _ _
        have : (none : Option LoopCache) = (ctlStart (core s n)).lc := h9.symm
        rw [this]
        rfl
    have hK : ∀ (k : CoreState) (f : Bank → Bank), (k.modCur f).pend = k.pend ∧ (k.modCur f).posted = k.posted ∧ (k.modCur f).halting = k.halting ∧ (k.modCur f).stepReq = k.stepReq ∧ ({ k.modCur f with holdCnt := 0, holdDone := false } : CoreState) = CoreState.modCur f { k with holdCnt := 0, holdDone := false } := by
      intro k f; unfold CoreState.modCur; cases k.bank <;> exact ⟨rfl, rfl, rfl, rfl, rfl⟩
    generalize hk0 : ({ ctlStart (core s n) with
          pc := ((core s n).pc + 1) % 2 ^ 14
          lc := if len ≤ 16 then some { start := ((core s n).pc + 1) % 2 ^ 14, len := len, filling := true, body := [] } else none
          captures := if len ≤ 16 then ((core s n).captures + 1) % 2 ^ 32 else (core s n).captures } : CoreState) = k0 at hro
    have g := hK k0 (fun b => { b with rep := [{ count := cnt, start := ((core s n).pc + 1) % 2 ^ 14, stop := ((core s n).pc + len) % 2 ^ 14, yield := yld }] })
    generalize hkk : CoreState.modCur _ k0 = KK at hro g
    refine ctl_core hn hR hil (by decide) (K := KK) (mid_br rfl (by rw [hco, hro]; exact tick_nil _ (by rw [g.1, ← hk0]; exact h6))) (by rw [g.2.1, ← hk0]; exact h4) (by rw [g.2.2.1, ← hk0]; exact h10) (by rw [g.2.2.2.1, ← hk0]; exact h11 n hn) _ ?_
    rw [if_neg hc]
    refine g.2.2.2.2.trans ?_
    rw [← hk0]
    congr 1
    exact congrArg (fun z : CoreState => { z with
          pc := ((core s n).pc + 1) % 2 ^ 14
          lc := if len ≤ 16 then some { start := ((core s n).pc + 1) % 2 ^ 14, len := len, filling := true, body := [] } else none
          captures := if len ≤ 16 then ((core s n).captures + 1) % 2 ^ 32 else (core s n).captures }) (spent_eq _ hst)
theorem nop_ok (k : CoreState) : ctlIllegal k 0 0 = false := by unfold ctlIllegal; simp [branchOp]
theorem mid_nop {s : State} {n : Nat} {K : CoreState} (hn : n < 8) (hK : tickPend (ctlStart (core s n)) = K) : ctlMid n 0 0 s = afterBundle n (setC n K s) := by
  unfold ctlMid
  have : tickPend (controlOp 0 0 (ctlStart (core s n))) = K := hK
  rw [this]; rfl
/-- A NOP that leaves its core as given, by what comes after the bundle. -/
theorem nop_core {s : State} {n : Nat} {br : Branch} {pend : List Pend} (hn : n < 8) (h : CoreReadyAt s n br pend) {K K' : CoreState} (hK : tickPend (ctlStart (core s n)) = K) (hA : afterBundle n (setC n K s) = setC n K' s)
    (hp : K'.posted = []) (hh : K'.halting = false) (hq : K'.stepReq = false) (f : CoreState → CoreState) (hf : ({ K' with holdCnt := 0, holdDone := false } : CoreState) = f (core s n)) :
    coreBundle n (.ctl 0 0) s = modCore n f s :=
  ctl_core hn h (nop_ok _) (by decide) ((mid_nop hn hK).trans hA) hp hh hq f hf
theorem after_untaken {n : Nat} {k : CoreState} {z : State} (hn : n < 8) (hb : k.br.slots = 0 ∨ k.br.taken = false) (hr : k.cur.rep = []) : afterBundle n (setC n k z) = setC n { k with pc := (k.pc + 1) % 2 ^ 14, br := if k.br.slots ≤ 1 then Branch.none else { k.br with slots := k.br.slots - 1 } } z := by
  unfold afterBundle
  rw [core_setC _ _ _ hn]
  dsimp only
  rw [if_pos (by rcases hb with h | h <;> rw [h] <;> simp), mc_setC _ _ _ _ hn, goOn_facts _ (by exact hr)]
theorem after_first {n : Nat} {k : CoreState} {z : State} (hn : n < 8) (hb : k.br.slots = 2) (ht : k.br.taken = true) : afterBundle n (setC n k z) = setC n { k with pc := (k.pc + 1) % 2 ^ 14, br := { k.br with slots := 1 } } z := by
  unfold afterBundle
  rw [core_setC _ _ _ hn]
  dsimp only
  rw [if_neg (by rw [hb, ht]; simp), if_pos (by rw [hb]; decide), mc_setC _ _ _ _ hn, hb]
theorem after_last {n : Nat} {k : CoreState} {z : State} (hn : n < 8) (hb : k.br.slots = 1) (ht : k.br.taken = true) : afterBundle n (setC n k z) =
    match k.br.kind with
    | .jump => setC n { k with br := Branch.none, pc := k.br.target } z
    | .reti => finishReti n k.br.pc (setC n { k with br := Branch.none } z)
    | .rets => setC n (finishRets { k with br := Branch.none }) z := by
  unfold afterBundle
  rw [core_setC _ _ _ hn]
  dsimp only
  rw [if_neg (by rw [hb, ht]; simp), if_neg (by rw [hb]; decide), mc_setC _ _ _ _ hn]
  cases k.br.kind <;> dsimp only <;> (try rw [mc_setC _ _ _ _ hn])
theorem chain_acc (l : List Pend) (k : CoreState) : ∃ aw m sh, l.foldl (fun (k : CoreState) (p : Pend) => match p.res with | .acc i v => wrAccW i v k | _ => k) k = { k with aw := aw, main := { k.main with a3w := m }, shadow := { k.shadow with a3w := sh } } := by
  induction l generalizing k with
  | nil => exact ⟨k.aw, k.main.a3w, k.shadow.a3w, rfl⟩
  | cons p l ih =>
    rw [List.foldl_cons]
    have h1 : ∃ aw m sh, (match p.res with | .acc i v => wrAccW i v k | _ => k) = { k with aw := aw, main := { k.main with a3w := m }, shadow := { k.shadow with a3w := sh } } := by
      cases p.res with
      | acc i v =>
        dsimp only
        unfold wrAccW CoreState.modCur
        split
        · exact ⟨_, k.main.a3w, k.shadow.a3w, rfl⟩
        · cases k.bank
          · exact ⟨k.aw, _, k.shadow.a3w, rfl⟩
          · exact ⟨k.aw, k.main.a3w, _, rfl⟩
      | d i v => exact ⟨k.aw, k.main.a3w, k.shadow.a3w, rfl⟩
      | sreg i v => exact ⟨k.aw, k.main.a3w, k.shadow.a3w, rfl⟩
      | flags v => exact ⟨k.aw, k.main.a3w, k.shadow.a3w, rfl⟩
      | sticky v => exact ⟨k.aw, k.main.a3w, k.shadow.a3w, rfl⟩
    obtain ⟨a, m, sh, h1⟩ := h1
    rw [h1]
    obtain ⟨a', m', sh', h2⟩ := ih { k with aw := a, main := { k.main with a3w := m }, shadow := { k.shadow with a3w := sh } }
    exact ⟨a', m', sh', h2⟩
theorem rets_eq (k : CoreState) (hp : k.pend = []) (hb : k.bank = true) : ∃ aw m sh, finishRets k = { k with
    bank := false, pc := k.spc, br := k.heldBr, pend := k.heldPend, heldPend := [], heldBr := Branch.none, cycles := (k.cycles + 1) % 2 ^ 64
    aw := aw, main := { k.main with a3w := m }, shadow := { k.shadow with a3w := sh } } := by
  have e : accSettle (tickPend (tickPend (tickPend k))) = { k with aw := k.a, shadow := { k.shadow with a3w := k.shadow.a3 } } := by
    rw [tick_nil k hp, tick_nil k hp, tick_nil k hp]
    unfold accSettle CoreState.modCur
    rw [if_pos hb]
  obtain ⟨aw, m, sh, h⟩ := chain_acc k.heldPend { k with aw := k.a, shadow := { k.shadow with a3w := k.shadow.a3 }, bank := false, pc := k.spc, br := k.heldBr, pend := k.heldPend, heldPend := [], heldBr := Branch.none }
  refine ⟨aw, m, sh, ?_⟩
  unfold finishRets
  dsimp only
  rw [e]
  dsimp only
  refine (congrArg (addCycles 1) h).trans ?_
  unfold addCycles
  rfl

/-! ### Entries through the stack -/

theorem setC_self (n : Nat) (s : State) : setC n (core s n) s = s := by
  unfold setC modCore core vmod vget
  split
  · rename_i h
    have : s.cores.set n s.cores[n] h = s.cores := by
      apply Vector.ext
      intro i hi
      rw [Vector.getElem_set]
      split
      · rename_i e; subst e; rfl
      · rfl
    rw [this]
  · rfl
theorem accSettle_facts (k : CoreState) : (accSettle k).sp = k.sp ∧ (accSettle k).spLo = k.spLo ∧ (accSettle k).spHi = k.spHi ∧ (accSettle k).bank = k.bank ∧ (accSettle k).iprio = k.iprio ∧ (accSettle k).vbase = k.vbase ∧ (accSettle k).cycles = k.cycles ∧
    (accSettle k).br = k.br ∧ (accSettle k).pend = k.pend ∧ (accSettle k).d = k.d ∧ (accSettle k).p = k.p ∧ (accSettle k).a = k.a ∧ (accSettle k).cur = { k.cur with a3w := k.cur.a3 } ∧ (accSettle k).other = k.other ∧ (accSettle k).halting = k.halting ∧ (accSettle k).stepReq = k.stepReq ∧ (accSettle k).ipend = k.ipend := by
  unfold accSettle CoreState.modCur CoreState.cur CoreState.other
  dsimp only
  cases k.bank <;> exact ⟨rfl, rfl, rfl, rfl, rfl, rfl, rfl, rfl, rfl, rfl, rfl, rfl, rfl, rfl, rfl, rfl, rfl⟩
theorem settle_nil (k : CoreState) (h : k.pend = []) : settleOthers (settleSp k) = accSettle k ∧ settleSp k = k := by
  have h1 : settleSp k = k := by
    unfold settleSp
    rw [h]
    show ({ k with pend := [] } : CoreState) = k
    rw [← h]
  refine ⟨?_, h1⟩
  rw [h1]
  unfold settleOthers
  rw [h]
  show accSettle ({ k with pend := [] } : CoreState) = accSettle k
  rw [← h]
/-- The frame's words where nothing is pending (Table 8.3). -/
def plainFrame (k : CoreState) (rpc vec : Nat) (faddr : Word) : List Word :=
  [BitVec.ofNat 64 (rpc % 2 ^ 14 + b2n k.bank * 2 ^ 14 + k.cur.lr.toNat * 2 ^ 16 + k.iprio * 2 ^ 48 + vec * 2 ^ 56), k.cur.stWord, 0, 0, 0, 0,
    BitVec.ofNat 64 (k.cur.idx.toNat * 2 ^ 32), 0, 0, 0, 0, faddr]
theorem pack5 (a1 a2 a3 a4 a5 x1 x2 x3 x4 x5 : Nat) : packWord [(a1, x1), (a2, x2), (a3, x3), (a4, x4), (a5, x5)] = BitVec.ofNat 64 (0 + x1 * 2 ^ a1 + x2 * 2 ^ a2 + x3 * 2 ^ a3 + x4 * 2 ^ a4 + x5 * 2 ^ a5) := rfl
theorem pack8 (a1 a2 a3 a4 a5 a6 a7 a8 x1 x2 x3 x4 x5 x6 x7 x8 : Nat) : packWord [(a1, x1), (a2, x2), (a3, x3), (a4, x4), (a5, x5), (a6, x6), (a7, x7), (a8, x8)] = BitVec.ofNat 64 (0 + x1 * 2 ^ a1 + x2 * 2 ^ a2 + x3 * 2 ^ a3 + x4 * 2 ^ a4 + x5 * 2 ^ a5 + x6 * 2 ^ a6 + x7 * 2 ^ a7 + x8 * 2 ^ a8) := rfl
theorem frame_plain (k : CoreState) (rpc vec : Nat) (faddr : Word) (hp : k.pend = []) (hb : k.br = Branch.none) (hr : k.cur.rep = []) : frameWords k rpc vec faddr = plainFrame k rpc vec faddr := by
  unfold frameWords plainFrame
  rw [hp, hb]
  dsimp only
  rw [hr]
  have h0 : ∀ a b c d e : Nat, packWord [(0, a), (14, b), (16, c), (32, if (0 : Nat) = 0 then 0 else e), (46, 0), (48, d), (52, min 4 0), (56, vec)] = BitVec.ofNat 64 (a + b * 2 ^ 14 + c * 2 ^ 16 + d * 2 ^ 48 + vec * 2 ^ 56) := by
    intro a b c d e
    rw [pack8, if_pos rfl]
    have : 0 + a * 2 ^ 0 + b * 2 ^ 14 + c * 2 ^ 16 + 0 * 2 ^ 32 + 0 * 2 ^ 46 + d * 2 ^ 48 + min 4 0 * 2 ^ 52 + vec * 2 ^ 56 = a + b * 2 ^ 14 + c * 2 ^ 16 + d * 2 ^ 48 + vec * 2 ^ 56 := by omega
    rw [this]
  have h6 : ∀ i : Nat, packWord [(0, 0), (8, 0), (16, 0), (24, 0), (32, i)] = BitVec.ofNat 64 (i * 2 ^ 32) := by
    intro i
    rw [pack5]
    have : 0 + 0 * 2 ^ 0 + 0 * 2 ^ 8 + 0 * 2 ^ 16 + 0 * 2 ^ 24 + i * 2 ^ 32 = i * 2 ^ 32 := by omega
    rw [this]
  refine congr (congrArg List.cons ?_) (congr (congrArg List.cons rfl) (congr (congrArg List.cons rfl) (congr (congrArg List.cons rfl) (congr (congrArg List.cons rfl) (congr (congrArg List.cons rfl) (congr (congrArg List.cons ?_) rfl))))))
  · exact h0 _ _ _ _ _
  · exact h6 _
/-- The core after a push. -/
def entryCore (k : CoreState) (vec : Nat) : CoreState :=
  addCycles 8 (({ accSettle k with
      sp := k.sp - 96, pend := [], br := Branch.none, pc := (k.vbase + 4 * vec) % 2 ^ 14, skipBkpt := false
      freeIdx := (accSettle k).freeIdx + 1 } : CoreState).modCur (fun b => { b with rep := [] }))
theorem stack_ok {z : State} {n : Nat} {k : CoreState} (hn : n < 8) (vec rpc : Nat) (faddr : Word) (hk : core z n = k) (hp : k.pend = []) (hb : k.br = Branch.none) (hr : k.cur.rep = []) (ho : PushOk k) :
    stackEntry n vec rpc faddr z = (true, setC n (entryCore k vec) (writeFrame n (k.sp - 96) (plainFrame k rpc vec faddr) z)) := by
  obtain ⟨f1, f2, f3, f4, f5, f6, f7, f8, f9, f10, f11, f12, f13, f14, f15, f16, f17⟩ := accSettle_facts k
  obtain ⟨h1, h2, h3, h4, h5⟩ := ho
  have hpf : pushFault (accSettle k) = none := by
    unfold pushFault
    rw [f1, f2, f3, if_neg (by omega), if_neg (by omega), if_neg (by omega), if_neg (by simp; omega)]
  have hfw : frameWords (accSettle k) rpc vec faddr = plainFrame k rpc vec faddr := by
    rw [frame_plain _ _ _ _ (f9.trans hp) (f8.trans hb) (by rw [f13]; exact hr)]
    unfold plainFrame
    rw [f4, f5, f13]
    rfl
  unfold stackEntry
  rw [hk]
  simp only [(settle_nil k hp).1, hpf, hfw, f1, f6]
  unfold entryCore setC
  simp only [f6]
theorem fold_words (b : Nat) (ws : List Word) : ∀ (n : Nat) (m : Memory), m.wf = true →
    ((List.range n).foldl (fun (m : Memory) i => m.writeW (b + 8 * i) (ws.getD i 0)) m).wf = true ∧
    (∀ i, i < n → ((List.range n).foldl (fun (m : Memory) i => m.writeW (b + 8 * i) (ws.getD i 0)) m).readW (b + 8 * i) = ws.getD i 0) ∧
    (∀ x, x < b ∨ b + 8 * n ≤ x → ((List.range n).foldl (fun (m : Memory) i => m.writeW (b + 8 * i) (ws.getD i 0)) m).read x = m.read x)
  | 0, m, h => ⟨h, by intro i hi; omega, by intro x _; rfl⟩
  | n + 1, m, h => by
    obtain ⟨h1, h2, h3⟩ := fold_words b ws n m h
    rw [List.range_succ, List.foldl_append, List.foldl_cons, List.foldl_nil]
    generalize (List.range n).foldl (fun (m : Memory) i => m.writeW (b + 8 * i) (ws.getD i 0)) m = q at *
    refine ⟨Memory.writeW_wf _ _ h1, ?_, ?_⟩
    · intro i hi
      by_cases e : i = n
      · rw [e]; exact Memory.readW_writeW _ _ h1
      · rw [Memory.readW_writeW_ne _ _ _ h1 (by omega)]
        exact h2 i (by omega)
    · intro x hx
      rw [← h3 x (by omega)]
      exact Memory.read_writeN_outside x 8 _ _ h1 (by omega)
theorem writeFrame_mem (n sp : Nat) (ws : List Word) (z : State) (hw : z.mem.wf = true) :
    (∀ i, i < 12 → (writeFrame n sp ws z).mem.readW (localAddr n sp + 8 * i) = ws.getD i 0) ∧ (∀ x, x < localAddr n sp ∨ localAddr n sp + 96 ≤ x → (writeFrame n sp ws z).mem.read x = z.mem.read x) := by
  obtain ⟨_, h2, h3⟩ := fold_words (localAddr n sp) ws 12 z.mem hw
  have e : (writeFrame n sp ws z).mem = (List.range 12).foldl (fun (m : Memory) i => m.writeW (localAddr n sp + 8 * i) (ws.getD i 0)) z.mem := by
    unfold writeFrame
    have : ∀ i, localAddr n (sp + 8 * i) = localAddr n sp + 8 * i := fun i => by unfold localAddr; omega
    simp only [this]
  rw [e]
  exact ⟨h2, h3⟩
/-- An entry through the stack from a core with nothing pending. -/
theorem frame_entry {s : State} {n vec rpc cyc : Nat} {faddr : Word} {K k : CoreState} (hn : n < 8) (hw : s.mem.wf = true) (hk : core s n = k) (kk : CoreState) (hsp : kk.sp = k.sp) (hfr : plainFrame kk rpc vec faddr = plainFrame k rpc vec faddr)
    (h1 : K.sp = k.sp - 96) (h2 : K.pc = (k.vbase + 4 * vec) % 2 ^ 14) (h3 : K.bank = k.bank) (h4 : K.cycles = (k.cycles + cyc) % 2 ^ 64) (h5 : K.cur = { k.cur with a3w := K.cur.a3w, rep := K.cur.rep }) (h6 : K.d = k.d) (h7 : K.p = k.p) (h8 : K.a = k.a) (h9 : K.other = k.other) :
    FrameEntry s (setC n K (writeFrame n (kk.sp - 96) (plainFrame kk rpc vec faddr) s)) n vec rpc cyc faddr := by
  obtain ⟨g1, g2⟩ := writeFrame_mem n (k.sp - 96) (plainFrame k rpc vec faddr) s hw
  rw [hsp, hfr]
  have hcore : ∀ z, core (setC n K z) n = K := fun z => core_setC _ _ _ hn
  unfold FrameEntry
  dsimp only
  rw [hcore, hk]
  have gg : ∀ i, i < 12 → (setC n K (writeFrame n (k.sp - 96) (plainFrame k rpc vec faddr) s)).mem.readW (localAddr n (k.sp - 96) + 8 * i) = (plainFrame k rpc vec faddr).getD i 0 := g1
  refine ⟨⟨rfl, by intro q hq; cases q <;> first | rfl | simp at hq⟩, ?_, ?_, gg 0 (by decide), gg 1 (by decide), ?_, gg 6 (by decide), ?_, gg 11 (by decide), h1, h2, h3, h4, by rw [h5], by rw [h5], ?_, ?_, ?_, h9⟩
  · intro m hm; rw [core_setC_ne _ _ _ _ hm]; rfl
  · intro x hx; exact g2 x hx
  · intro i hi
    have := gg (2 + i) (by omega)
    have e : localAddr n (k.sp - 96) + 16 + 8 * i = localAddr n (k.sp - 96) + 8 * (2 + i) := by omega
    rw [e, this]
    have : i = 0 ∨ i = 1 ∨ i = 2 ∨ i = 3 := by omega
    rcases this with h | h | h | h <;> subst h <;> rfl
  · intro i hi
    have := gg (7 + i) (by omega)
    have e : localAddr n (k.sp - 96) + 56 + 8 * i = localAddr n (k.sp - 96) + 8 * (7 + i) := by omega
    rw [e, this]
    have : i = 0 ∨ i = 1 ∨ i = 2 ∨ i = 3 := by omega
    rcases this with h | h | h | h <;> subst h <;> rfl
  · intro i _; unfold rdD; rw [h5, h6]
  · intro i _; unfold rdP; rw [h5, h7]
  · intro i _; unfold rdAcc; rw [h5, h8]
theorem entry_facts (k : CoreState) (vec : Nat) : (entryCore k vec).sp = k.sp - 96 ∧ (entryCore k vec).pc = (k.vbase + 4 * vec) % 2 ^ 14 ∧ (entryCore k vec).bank = k.bank ∧ (entryCore k vec).cycles = (k.cycles + 8) % 2 ^ 64 ∧
    (entryCore k vec).cur = { k.cur with a3w := k.cur.a3, rep := [] } ∧ (entryCore k vec).d = k.d ∧ (entryCore k vec).p = k.p ∧ (entryCore k vec).a = k.a ∧ (entryCore k vec).other = k.other ∧ (entryCore k vec).halting = k.halting ∧ (entryCore k vec).stepReq = k.stepReq ∧ (entryCore k vec).ipend = k.ipend := by
  obtain ⟨f1, f2, f3, f4, f5, f6, f7, f8, f9, f10, f11, f12, f13, f14, f15, f16, f17⟩ := accSettle_facts k
  unfold entryCore
  generalize hx : ({ accSettle k with sp := k.sp - 96, pend := [], br := Branch.none, pc := (k.vbase + 4 * vec) % 2 ^ 14, skipBkpt := false, freeIdx := (accSettle k).freeIdx + 1 } : CoreState) = x
  have hxc : x.cur = (accSettle k).cur := by rw [← hx]; rfl
  have hxo : x.other = (accSettle k).other := by rw [← hx]; rfl
  generalize hf : (fun b : Bank => { b with rep := [] }) = f
  have h1 : (addCycles 8 (x.modCur f)).cur = f x.cur := modCur_cur f x
  have h2 : (addCycles 8 (x.modCur f)).other = x.other := modCur_other f x
  have he := modCur_eq f x
  rw [h1, h2, hxc, hxo, f13, f14]
  unfold addCycles
  rw [he, ← hx, ← hf]
  exact ⟨rfl, rfl, f4, congrArg (fun c => (c + 8) % 2 ^ 64) f7, rfl, f10, f11, f12, rfl, f15, f16, f17⟩
/-- An exception that is not BUS_ABORT, from a ready core. -/
theorem exc_entry {s : State} {n : Nat} {b : Bundle} {e : Exc} (hn : n < 8) (h : CoreReady s n) (hw : s.mem.wf = true) (hx : bundleExc (core s n) b = some e) (h4 : e.vec ≠ 4) (ho : PushOk (core s n)) :
    FrameEntry s (coreBundle n b s) n e.vec (core s n).pc 8 e.faddr := by
  have hst := (start_stall h).1
  obtain ⟨h1, h2, h3, h4', h5, h6, h7, h8, h9, h10, h11⟩ := h
  have hd : modCore n (dropAbort e.vec) s = s := by
    rw [mc _ _ _ hn]
    have : dropAbort e.vec (core s n) = core s n := by unfold dropAbort; rw [if_neg h4]
    rw [this, setC_self]
  have hi : issueBundle n b s = setC n (entryCore (core s n) e.vec) (writeFrame n ((core s n).sp - 96) (plainFrame (core s n) (core s n).pc e.vec e.faddr) s) := by
    unfold issueBundle
    have e0 : resumeAborted n s = s := by unfold resumeAborted; rw [hst]
    rw [e0]
    dsimp only
    rw [h1, if_neg (by decide), if_neg (by rw [h2]; decide), hx]
    dsimp only
    unfold enterException
    rw [hd, stack_ok hn e.vec _ e.faddr rfl h6 h7 h8 ho]
  obtain ⟨f1, f2, f3, f4, f5, f6, f7, f8, f9, f10, f11, f12⟩ := entry_facts (core s n) e.vec
  unfold coreBundle
  rw [hi, settle_none]
  · exact frame_entry hn hw rfl (core s n) rfl rfl f1 f2 f3 f4 (by rw [f5]) f6 f7 f8 f9
  · intro m hm
    by_cases e' : m = n
    · subst e'; rw [core_setC _ _ _ hn, f11]; exact h11 m hm
    · rw [core_setC_ne _ _ _ _ e']; exact h11 m hm
/-- TRAP, from a ready core. -/
theorem trap_entry {s : State} {n ops : Nat} (hn : n < 8) (h : CoreReady s n) (hw : s.mem.wf = true) (ho : PushOk (core s n)) :
    FrameEntry s (coreBundle n (.ctl 0x0D ops) s) n 6 (((core s n).pc + 1) % 2 ^ 14) 9 (BitVec.ofNat 64 (ops % 256)) := by
  have hst := (start_stall h).1
  have hR := h
  obtain ⟨h1, h2, h3, h4, h5, h6, h7, h8, h9, h10, h11⟩ := h
  have hsl : (core s n).br.slots = 0 := by rw [h7]; rfl
  generalize hk1 : ({ ctlStart (core s n) with pc := ((core s n).pc + 1) % 2 ^ 14 } : CoreState) = k1
  have hmid : ctlMid n 0x0D ops s = setC n k1 s := by
    rw [← hk1]
    exact mid_on hn rfl (K := ctlStart (core s n)) (tick_nil _ (by exact h6)) h7 h8
  have ho1 : PushOk k1 := by rw [← hk1]; exact ho
  have hend : endBundle n (.ctl 0x0D ops) s = setC n (entryCore k1 6) (writeFrame n (k1.sp - 96) (plainFrame k1 k1.pc 6 (BitVec.ofNat 64 (ops % 256))) (setC n k1 s)) := by
    unfold endBundle
    dsimp only
    rw [mc n _ s hn, note_none _ _ h9, mc_setC _ _ _ _ hn, mc_setC _ _ _ _ hn, h8]
    have hz : (if setsPc 0x0D = true then setC n (tickPend (controlOp 0x0D ops (addCycles 1 { core s n with skipBkpt := false, stall := none }))) s else afterBundle n (setC n (tickPend (controlOp 0x0D ops (addCycles 1 { core s n with skipBkpt := false, stall := none }))) s)) = setC n k1 s := hmid
    rw [hz, mc_setC _ _ _ _ hn, mc_setC _ _ _ _ hn, filled_nil]
    have ha : afterCtl 0x0D k1 = k1 := rfl
    rw [ha, drain_none n _ (by rw [core_setC _ _ _ hn, ← hk1]; exact h4), core_setC _ _ _ hn]
    have hse : (enterException n 6 k1.pc (BitVec.ofNat 64 (ops % 256)) (setC n k1 s)) = setC n (entryCore k1 6) (writeFrame n (k1.sp - 96) (plainFrame k1 k1.pc 6 (BitVec.ofNat 64 (ops % 256))) (setC n k1 s)) := by
      unfold enterException
      rw [stack_ok hn 6 _ _ (core_setC _ _ _ hn) (by rw [← hk1]; exact h6) (by rw [← hk1]; exact h7) (by rw [← hk1]; exact h8) ho1]
    show modCore n (fun k => if k.halting && (k.run == .running || k.run == .waiting) then debugHalt k else k) (enterException n 6 k1.pc (BitVec.ofNat 64 (ops % 256)) (setC n k1 s)) = _
    rw [hse, mc_setC _ _ _ _ hn]
    have : (entryCore k1 6).halting = false := by rw [(entry_facts k1 6).2.2.2.2.2.2.2.2.2.1, ← hk1]; exact h10
    rw [this]
    rfl
  obtain ⟨f1, f2, f3, f4, f5, f6, f7, f8, f9, f10, f11, f12⟩ := entry_facts k1 6
  have hc : coreBundle n (.ctl 0x0D ops) s = setC n { entryCore k1 6 with holdCnt := 0, holdDone := false } (writeFrame n (k1.sp - 96) (plainFrame k1 (((core s n).pc + 1) % 2 ^ 14) 6 (BitVec.ofNat 64 (ops % 256))) s) := by
    unfold coreBundle
    rw [issue_ok hR (ctl_exc hR (by unfold ctlIllegal; rw [hsl]; rfl)), run_ctl h4, hend, mc_setC _ _ _ _ hn]
    have hwf : ∀ K, setC n K (writeFrame n (k1.sp - 96) (plainFrame k1 k1.pc 6 (BitVec.ofNat 64 (ops % 256))) (setC n k1 s)) = setC n K (writeFrame n (k1.sp - 96) (plainFrame k1 (((core s n).pc + 1) % 2 ^ 14) 6 (BitVec.ofNat 64 (ops % 256))) s) := by
      intro K
      have e1 : ∀ ws z, writeFrame n (k1.sp - 96) ws (setC n k1 z) = setC n k1 (writeFrame n (k1.sp - 96) ws z) := fun _ _ => rfl
      have e2 : k1.pc = ((core s n).pc + 1) % 2 ^ 14 := by rw [← hk1]
      rw [e1, setC_setC, e2]
    rw [hwf, settle_none]
    intro m hm
    by_cases e' : m = n
    · subst e'; rw [core_setC _ _ _ hn]
      show (entryCore k1 6).stepReq = false
      rw [f11, ← hk1]; exact h11 m hm
    · rw [core_setC_ne _ _ _ _ e']; exact h11 m hm
  rw [hc]
  have hcy : (k1.cycles + 8) % 2 ^ 64 = ((core s n).cycles + 9) % 2 ^ 64 := by
    rw [← hk1]
    show (((core s n).cycles + 1) % 2 ^ 64 + 8) % 2 ^ 64 = _
    omega
  exact frame_entry (cyc := 9) hn hw rfl k1 (by rw [← hk1]; rfl) (by rw [← hk1]; rfl) (f1.trans (by rw [← hk1]; rfl)) (f2.trans (by rw [← hk1]; rfl)) (f3.trans (by rw [← hk1]; rfl)) (f4.trans hcy) (by
    show (entryCore k1 6).cur = { (core s n).cur with a3w := (entryCore k1 6).cur.a3w, rep := (entryCore k1 6).cur.rep }
    rw [f5, ← hk1]; rfl) (f6.trans (by rw [← hk1]; rfl)) (f7.trans (by rw [← hk1]; rfl)) (f8.trans (by rw [← hk1]; rfl)) (f9.trans (by rw [← hk1]; rfl))

/-! ### The channel a boundary takes -/

theorem best_fold (k : CoreState) (fast : Bool) : ∀ n : Nat, ∀ r, (List.range n).foldl (fun (b : Option Nat) c =>
    if takeable k c && chanFast k c == fast then
      match b with
      | none => some c
      | some o => if chanPrio k o < chanPrio k c then some c else b
    else b) none = r →
    (r = none → ∀ d, d < n → ¬(takeable k d = true ∧ chanFast k d = fast)) ∧
    (∀ o, r = some o → o < n ∧ takeable k o = true ∧ chanFast k o = fast ∧ ∀ d, d < n → takeable k d = true → chanFast k d = fast → chanPrio k d < chanPrio k o ∨ (chanPrio k d = chanPrio k o ∧ o ≤ d))
  | 0, r, h => by
    subst h
    exact ⟨fun _ d hd => by omega, (by intro o h; cases h)⟩
  | n + 1, r, h => by
    rw [List.range_succ, List.foldl_append, List.foldl_cons, List.foldl_nil] at h
    generalize hr : (List.range n).foldl (fun (b : Option Nat) c =>
      if takeable k c && chanFast k c == fast then
        match b with
        | none => some c
        | some o => if chanPrio k o < chanPrio k c then some c else b
      else b) none = r0 at h
    obtain ⟨h1, h2⟩ := best_fold k fast n r0 hr
    by_cases hc : takeable k n = true ∧ chanFast k n = fast
    · have e : (takeable k n && chanFast k n == fast) = true := by rw [hc.1, hc.2]; simp
      rw [e, if_pos rfl] at h
      cases r0 with
      | none =>
        dsimp only at h
        subst h
        refine ⟨(by intro h; cases h), ?_⟩
        intro o ho
        cases ho
        refine ⟨by omega, hc.1, hc.2, ?_⟩
        intro d hd h3 h4
        by_cases e2 : d = n
        · subst e2; exact Or.inr ⟨rfl, Nat.le_refl _⟩
        · exact absurd ⟨h3, h4⟩ (h1 rfl d (by omega))
      | some o =>
        obtain ⟨g1, g2, g3, g4⟩ := h2 o rfl
        dsimp only at h
        subst h
        refine ⟨?_, ?_⟩
        · intro h; split at h <;> cases h
        · intro o' ho'
          by_cases hp : chanPrio k o < chanPrio k n
          · rw [if_pos hp] at ho'
            cases ho'
            refine ⟨by omega, hc.1, hc.2, ?_⟩
            intro d hd h3 h4
            by_cases e2 : d = n
            · subst e2; exact Or.inr ⟨rfl, Nat.le_refl _⟩
            · rcases g4 d (by omega) h3 h4 with h | h
              · exact Or.inl (by omega)
              · exact Or.inl (by omega)
          · rw [if_neg hp] at ho'
            cases ho'
            refine ⟨by omega, g2, g3, ?_⟩
            intro d hd h3 h4
            by_cases e2 : d = n
            · subst e2
              by_cases h5 : chanPrio k d < chanPrio k o
              · exact Or.inl h5
              · exact Or.inr ⟨by omega, by omega⟩
            · exact g4 d (by omega) h3 h4
    · have e : (takeable k n && chanFast k n == fast) = false := by
        by_cases h3 : takeable k n = true
        · have : chanFast k n ≠ fast := fun c => hc ⟨h3, c⟩
          rw [h3]; simpa using this
        · have : takeable k n = false := by simpa using h3
          rw [this]; rfl
      rw [e] at h
      simp only [Bool.false_eq_true, if_false] at h
      subst h
      refine ⟨?_, ?_⟩
      · intro h d hd
        by_cases e2 : d = n
        · subst e2; exact hc
        · exact h1 h d (by omega)
      · intro o ho
        obtain ⟨g1, g2, g3, g4⟩ := h2 o ho
        refine ⟨by omega, g2, g3, ?_⟩
        intro d hd h3 h4
        by_cases e2 : d = n
        · subst e2; exact absurd ⟨h3, h4⟩ hc
        · exact g4 d (by omega) h3 h4
theorem best_chosen {k : CoreState} {fast : Bool} {c : Nat} (h : Chosen k fast c) : bestChan k fast = some c := by
  obtain ⟨h1, h2, h3, h4⟩ := h
  cases hb : bestChan k fast with
  | none =>
    have := (best_fold k fast 64 none hb).1 rfl c h1
    exact absurd ⟨h2, h3⟩ this
  | some o =>
    obtain ⟨g1, g2, g3, g4⟩ := (best_fold k fast 64 (some o) hb).2 o rfl
    have a := g4 c h1 h2 h3
    have b := h4 o g1 g2 g3
    congr 1
    omega
theorem best_absent {k : CoreState} {fast : Bool} (h : ∀ d, d < 64 → ¬(takeable k d = true ∧ chanFast k d = fast)) : bestChan k fast = none := by
  cases hb : bestChan k fast with
  | none => rfl
  | some o =>
    obtain ⟨g1, g2, g3, g4⟩ := (best_fold k fast 64 (some o) hb).2 o rfl
    exact absurd ⟨g2, g3⟩ (h o g1)

end Sys2Proof.Machine
end

