-- ==== Sys2Proof/Laws/Factory.lean ====
section
/-! SUPPORT. The NVM content a device leaves Zenham with is in the canonical form of memory. -/
set_option linter.all false
set_option Elab.async false
namespace Sys2Proof.Machine
open Sys2Proof

/-- Cells of a byte string below canonical cells are canonical. -/
theorem cellsOf_append_wf : ∀ (l : List Byte) (a lo : Nat) (rest : Memory), lo ≤ a → Memory.wfFrom (a + l.length) rest = true →
    Memory.wfFrom lo (cellsOf a l ++ rest) = true
  | [], a, lo, rest, h, hr => Memory.wfFrom_weaken h (by simpa [cellsOf] using hr)
  | b :: t, a, lo, rest, h, hr => by
    have hr' : Memory.wfFrom (a + 1 + t.length) rest = true := by
      rw [show a + 1 + t.length = a + (b :: t).length by simp; omega]; exact hr
    unfold cellsOf
    split
    · exact cellsOf_append_wf t (a + 1) lo rest (by omega) hr'
    · rename_i hb
      have ih := cellsOf_append_wf t (a + 1) (a + 1) rest (Nat.le_refl _) hr'
      simp [Memory.wfFrom, h, hb, ih]

theorem cellsOf_wf (l : List Byte) (a lo : Nat) (h : lo ≤ a) : Memory.wfFrom lo (cellsOf a l) = true := by
  have := cellsOf_append_wf l a lo [] h rfl
  rwa [List.append_nil] at this

theorem factoryRoles_length : factoryRoles.length = 320 := by
  simp only [factoryRoles, List.length_append, leBytes_length, List.length_replicate]

theorem factoryMem_wf : factoryMem.wf = true := by
  have w4 := cellsOf_wf factorySeal 0x60004000 0x60001410 (by decide)
  have w3 := cellsOf_append_wf factoryConsent 0x60001400 0x60001340 _ (by decide) w4
  have w2 := cellsOf_append_wf factoryRoles 0x60001200 0x60001160 _ (by decide) (by rw [factoryRoles_length]; exact w3)
  have w1 := cellsOf_append_wf factoryLimits 0x60001100 0x60001006 _ (by decide) (Memory.wfFrom_weaken (by decide) w2)
  have w0 := cellsOf_append_wf factorySafe 0x60001000 0 _ (by decide) (Memory.wfFrom_weaken (by decide) w1)
  unfold factoryMem Memory.wf
  simpa only [List.append_assoc] using w0

end Sys2Proof.Machine
end

