-- ==== Sys2Proof/Laws/Modes.lean ====
section
/-! SUPPORT. What entering a mode leaves in STATUS_MODE and STATUS_BRINGUP, whichever mode it is. -/
set_option linter.all false
set_option Elab.async false
namespace Sys2Proof.Machine
open Sys2Proof

/-- Entering a mode writes STATUS_MODE; nothing the entry does to the rest of the device changes it again. -/
theorem enterMode_mode (m : Mode) (cause : Nat) (s : State) :
    (enterMode m cause s).mode =
      { (cancelLater m s).mode with
        mode := m, prev := (cancelLater m s).mode.mode, entryCause := cause, entryTime := entryTime s
        recallPending := m == .inspection && kerbRecall s } := by
  unfold enterMode
  rw [(engineMode_only _ _).mode rfl, (consentMode_only _ _).mode rfl, (steerIslands_only _).mode rfl,
    (retargetCore_only _).mode rfl, (modePlls_only _).mode rfl]
  rfl

theorem appendLog_mode (r : LogRec) (s : State) : (appendLog r s).mode = s.mode := (appendLog_only r s).mode rfl

theorem enterSafestop_mode (cause : Nat) (s : State) :
    (enterSafestop cause s).mode = { (enterMode .safestop cause s).mode with faultCause := cause } := by
  have h : enterSafestop cause s = appendLog (LogRec.plain 0x0201 cause 0)
      { enterMode .safestop cause s with mode := { (enterMode .safestop cause s).mode with faultCause := cause } } := rfl
  exact (congrArg State.mode h).trans (appendLog_mode _ _)

theorem startBringup_eq (warm : Bool) (cause : Nat) (s : State) (m : ModeState)
    (h : m = { (cancelLater .bringup s).mode with
        mode := .bringup, prev := (cancelLater .bringup s).mode.mode, entryCause := cause, entryTime := entryTime s, warm := warm
        step := if warm then 2 else 1, failStep := 0, failCode := 0, islandFail := 0, elapsedFrozen := none
        bringupStart := s.time.uptime, nvmCorrected := false, updateFromSafestop := false, recallPending := false }) :
    startBringup warm cause s = engineMode .bringup (consentMode .bringup { cancelLater .bringup s with mode := m }) := by
  subst h
  rfl

theorem startBringup_mode (warm : Bool) (cause : Nat) (s : State) :
    (startBringup warm cause s).mode =
      { (cancelLater .bringup s).mode with
        mode := .bringup, prev := (cancelLater .bringup s).mode.mode, entryCause := cause, entryTime := entryTime s, warm := warm
        step := if warm then 2 else 1, failStep := 0, failCode := 0, islandFail := 0, elapsedFrozen := none
        bringupStart := s.time.uptime, nvmCorrected := false, updateFromSafestop := false, recallPending := false } := by
  generalize hm : ({ (cancelLater .bringup s).mode with
        mode := .bringup, prev := (cancelLater .bringup s).mode.mode, entryCause := cause, entryTime := entryTime s, warm := warm
        step := if warm then 2 else 1, failStep := 0, failCode := 0, islandFail := 0, elapsedFrozen := none
        bringupStart := s.time.uptime, nvmCorrected := false, updateFromSafestop := false, recallPending := false } : ModeState) = m
  rw [startBringup_eq warm cause s m hm.symm, (engineMode_only _ _).mode rfl, (consentMode_only _ _).mode rfl]

theorem cancelLater_fields (m : Mode) (s : State) :
    (cancelLater m s).mode.mode = s.mode.mode ∧ (cancelLater m s).mode.warm = s.mode.warm ∧
      (s.mode.pendingReq = none → (cancelLater m s).mode = s.mode) := by
  unfold cancelLater
  refine ⟨?_, ?_, ?_⟩
  · split
    · rfl
    · split <;> rfl
  · split
    · rfl
    · split <;> rfl
  · intro h
    simp [h]

theorem enterDormant_mode (cause : Nat) (s : State) :
    (enterDormant cause s).mode =
      { (cancelLater .dormant s).mode with
        mode := .dormant, prev := s.mode.mode, entryCause := cause, entryTime := entryTime s, gapOpen := true } := by
  have e : ∀ x : State, x.mode = s.mode → (cancelLater .dormant x).mode = (cancelLater .dormant s).mode := by
    intro x hx
    unfold cancelLater
    rw [hx]
    split
    · exact hx
    · split
      · rfl
      · exact hx
  have h0 : (appendLog (LogRec.plain 0x0202 0 0) (dormantSnapshot (consentMode .dormant s))).mode = s.mode := by
    rw [appendLog_mode, (dormantSnapshot_only _).mode rfl, (consentMode_only _ _).mode rfl]
  generalize hx : appendLog (LogRec.plain 0x0202 0 0) (dormantSnapshot (consentMode .dormant s)) = x at h0
  have h : ∃ y, enterDormant cause s = setAttn attnMode (engineMode .dormant y) ∧
      y.mode = { (cancelLater .dormant x).mode with
        mode := .dormant, prev := (cancelLater .dormant x).mode.mode, entryCause := cause, entryTime := entryTime s,
        gapOpen := true } := by
    subst hx
    exact ⟨_, rfl, rfl⟩
  obtain ⟨y, hy, hm⟩ := h
  rw [hy, (setAttn_only _ _).mode rfl, (engineMode_only _ _).mode rfl, hm, e x h0, (cancelLater_fields .dormant s).1]

/-- Where a transition leads: its target, but RECALL from INSPECTION while the Kerb RECALL signal stands (R38). -/
def arrives (s : State) (t : Mode) : Mode :=
  match s.mode.mode, t with
  | .inspection, .service => if kerbRecall s then .recall else .service
  | _, t => t

/-- What STATUS_MODE holds after a transition from `s` into mode `a`. -/
def Entered (a : Mode) (cause : Nat) (s : State) (m : ModeState) : Prop :=
  m.mode = a ∧ m.prev = s.mode.mode ∧ m.entryCause = cause ∧ m.entryTime = entryTime s ∧ m.pendingReq = none ∧
    m.reqResult = s.mode.reqResult ∧ m.reqSource = s.mode.reqSource

theorem enterMode_entered (a : Mode) (cause : Nat) (s : State) (h : s.mode.pendingReq = none) :
    Entered a cause s (enterMode a cause s).mode := by
  rw [enterMode_mode, (cancelLater_fields a s).2.2 h]
  exact ⟨rfl, rfl, rfl, rfl, h, rfl, rfl⟩

theorem Entered.faultCause {a : Mode} {cause : Nat} {s : State} {m : ModeState} (h : Entered a cause s m) (c : Nat) :
    Entered a cause s { m with faultCause := c } := h

theorem Entered.updateFromSafestop {a : Mode} {cause : Nat} {s : State} {m : ModeState} (h : Entered a cause s m) (b : Bool) :
    Entered a cause s { m with updateFromSafestop := b } := h

theorem enterSafestop_entered (cause : Nat) (s : State) (h : s.mode.pendingReq = none) :
    Entered .safestop cause s (enterSafestop cause s).mode := by
  rw [enterSafestop_mode]
  exact (enterMode_entered .safestop cause s h).faultCause cause

theorem startBringup_entered (w : Bool) (cause : Nat) (s : State) (h : s.mode.pendingReq = none) :
    Entered .bringup cause s (startBringup w cause s).mode := by
  rw [startBringup_mode, (cancelLater_fields .bringup s).2.2 h]
  exact ⟨rfl, rfl, rfl, rfl, h, rfl, rfl⟩

theorem enterDormant_entered (cause : Nat) (s : State) (h : s.mode.pendingReq = none) :
    Entered .dormant cause s (enterDormant cause s).mode := by
  rw [enterDormant_mode, (cancelLater_fields .dormant s).2.2 h]
  exact ⟨rfl, rfl, rfl, rfl, h, rfl, rfl⟩

/-- What a transition does, by its kind. -/
theorem takeTransition_eq (t : Mode) (cause : Nat) (s : State) :
    takeTransition t cause s =
      if t = .dormant then enterDormant cause s
      else if t = .bringup then startBringup true cause s
      else if t = .safestop then enterSafestop cause s
      else if s.mode.mode = .safestop ∧ t = .update then
        { enterMode .update cause s with mode := { (enterMode .update cause s).mode with updateFromSafestop := true } }
      else enterMode (arrives s t) cause s := by
  unfold takeTransition arrives
  cases hm : s.mode.mode <;> cases t <;> simp only [reduceCtorEq, if_true, if_false, and_self, and_true, true_and, and_false,
    false_and] <;> split <;> rfl

theorem takeTransition_entered (t : Mode) (cause : Nat) (s : State) (h : s.mode.pendingReq = none) :
    Entered (arrives s t) cause s (takeTransition t cause s).mode := by
  have hn : ∀ x, x ≠ .service → arrives s x = x := by
    intro x hx
    unfold arrives
    split
    · exact absurd rfl hx
    · rfl
  rw [takeTransition_eq]
  split
  · rename_i ht
    rw [ht, hn _ (by decide)]
    exact enterDormant_entered cause s h
  split
  · rename_i ht
    rw [ht, hn _ (by decide)]
    exact startBringup_entered true cause s h
  split
  · rename_i ht
    rw [ht, hn _ (by decide)]
    exact enterSafestop_entered cause s h
  split
  · rename_i ht
    rw [ht.2, hn _ (by decide)]
    exact (enterMode_entered .update cause s h).updateFromSafestop true
  · exact enterMode_entered (arrives s t) cause s h

end Sys2Proof.Machine
end

