-- ==== Sys2Proof/Laws/HostWrite.lean ====
section
/-! SUPPORT. What a host write meets: the bar of the present mode, or its own effect and status. -/
set_option linter.all false
set_option Elab.async false
namespace Sys2Proof.Machine
open Sys2Proof

theorem hostWrite_bar {o : Nat} {f : State → Status × State} {s : State} {b : Status} (h : hostBar s o = some b)
    (hb : b ≠ .waking) : hostWrite o f s = hostStatus b s := by
  unfold hostWrite
  rw [h]
  cases b <;> first | rfl | exact absurd rfl hb

theorem hostWrite_waking {o : Nat} {f : State → Status × State} {s : State} (h : hostBar s o = some .waking) :
    hostWrite o f s = wakeDormant (hostStatus .waking s) := by
  unfold hostWrite
  rw [h]

theorem hostWrite_open {o : Nat} {f : State → Status × State} {s : State} (h : hostBar s o = none) :
    hostWrite o f s = hostStatus (f s).1 (f s).2 := by
  unfold hostWrite
  rw [h]

theorem hostBar_dormant {s : State} {o : Nat} (h : s.mode.mode = .dormant) : hostBar s o = some .waking := by
  simp [hostBar, h]

theorem hostBar_bringup {s : State} {o : Nat} (h : s.mode.mode = .bringup) (h1 : 0x080 ≤ o) (h2 : o < 0x800) :
    hostBar s o = some .busy := by
  simp [hostBar, h, h1, h2]

theorem hostBar_open {s : State} {o : Nat} (h1 : s.mode.mode ≠ .dormant) (h2 : s.mode.mode ≠ .bringup)
    (h3 : s.mode.mode ≠ .safestop ∨ recoveryReg o = true) : hostBar s o = none := by
  unfold hostBar
  cases h : s.mode.mode <;> simp_all

/-- A wake of DORMANT starts a cold bring-up (M1). -/
theorem wakeDormant_mode {s : State} (h : s.mode.mode = .dormant) :
    (wakeDormant s).mode.mode = .bringup ∧ (wakeDormant s).mode.step = 1 ∧ (wakeDormant s).mode.warm = false ∧
      (wakeDormant s).mode.entryCause = 0x22 ∧ (wakeDormant s).mode.prev = .dormant := by
  have hx : ∀ x : State, x.mode.mode = .dormant →
      (startBringup false 0x22 x).mode.mode = .bringup ∧ (startBringup false 0x22 x).mode.step = 1 ∧
        (startBringup false 0x22 x).mode.warm = false ∧ (startBringup false 0x22 x).mode.entryCause = 0x22 ∧
        (startBringup false 0x22 x).mode.prev = .dormant := by
    intro x hx
    rw [startBringup_mode, (cancelLater_fields .bringup x).1, hx]
    exact ⟨rfl, rfl, rfl, rfl, rfl⟩
  have hf : ((List.range 13).foldl (fun s k => engineReset (k + 3) s) s).mode = s.mode :=
    (Only.foldl (j := 134217725) (s := s) _ (fun x a h => (engineReset_only (a + 3) x).app (by decide) h) _ (Only.refl _ s)).mode rfl
  have e : wakeDormant s = startBringup false 0x22 ((List.range 13).foldl (fun s k => engineReset (k + 3) s) s) := by
    have hd : (s.mode.mode == Mode.dormant) = true := by rw [h]; rfl
    unfold wakeDormant
    simp only [hd, if_true]
  rw [e]
  exact hx _ (by rw [hf]; exact h)

theorem wakeDormant_awake {s : State} (h : s.mode.mode ≠ .dormant) : wakeDormant s = s := by
  unfold wakeDormant
  rw [if_neg]
  intro hc
  exact h (by simpa using hc)

end Sys2Proof.Machine
end

