-- ==== Sys2Proof/Laws/OnlyTick.lean ====
section
/-! SUPPORT. What each operation of Machine/Tick.lean can touch. -/
set_option linter.all false
set_option Elab.async false
namespace Sys2Proof.Machine
open Sys2Proof

theorem idleTick_only (s : State) : Only 1 s (idleTick s) := by
  unfold idleTick
  try dsimp only
  repeat' (first
    | (simp only [↓Only.mk_guard]; with_reducible refine Only.of_mk rfl ?_)
    | with_reducible exact Only.refl _ _
    | with_reducible assumption
    | decide
    | split
    | dsimp only)

end Sys2Proof.Machine
end

