-- ==== Sys2Proof/Tests/Slice0.lean ====
section
/-! SUPPORT. Tests of single commands against numbers worked out from the spec's tables, well-formedness checks, and for
each statement the states and operands that meet the hypotheses of its clauses. Every test is one command on a small state. -/
set_option linter.all false
set_option Elab.async false
set_option maxRecDepth 8000
namespace Sys2Proof.Tests
open Sys2Proof hiding core
open Sys2Proof.Machine

/-! ### Small states -/

/-- The device in a mode, every island On and memory empty. -/
def on (m : Mode) : State :=
  { State.reset with
    mode := { ModeState.init with mode := m }
    isl := Vector.replicate 16 { Island.init with st := .on }
    mem := [] }

/-- The state a command leaves. -/
def after (c : Instr) (s : State) : State :=
  match exec c s with
  | .next t => t
  | _ => s

/-- A voice that plays. -/
def playing : Voice := { Voice.init with st := .active, count := 3 }

/-- The device in SERVICE with a voice that plays in slot 0. -/
def sounding : State := { on .service with bs := { BsState.init with voices := BsState.init.voices.set 0 playing } }

/-- The device in a mode with a request pending. -/
def asked (m t : Mode) (src : ReqSource) : State :=
  { on m with mode := { (on m).mode with pendingReq := some ⟨t, src⟩ } }

/-- The device in a mode with the schedule on and the RTC valid. -/
def scheduled (m : Mode) : State :=
  { on m with mode := { (on m).mode with cfg := 8 }, time := { TimeState.init with rtcValid := true } }

/-! ### Well-formedness: a term each check refuses, beside one it takes -/

theorem test_wf_mode_keys :
    (Instr.modeRequest .hp 256 3).wf = false ∧ (Instr.modeRequest .hp 0xA5 8).wf = false ∧ (Instr.modeRequest .hp 0xA5 7).wf = true ∧
    (Instr.modeReqCancel .mp 256).wf = false ∧ (Instr.modeReqCancel .mp 255).wf = true := by decide

theorem test_wf_bringup :
    (Instr.bringupStepComplete ⟨some 256, 0, false, [], [], [], []⟩).wf = false ∧
    (Instr.bringupStepComplete ⟨none, 65536, false, [], [], [], []⟩).wf = false ∧
    (Instr.bringupStepComplete ⟨none, 0, false, [(2 ^ 40, 0)], [], [], []⟩).wf = false ∧
    (Instr.bringupStepComplete ⟨none, 0, false, [(4, 0)], [], [], []⟩).wf = false ∧
    (Instr.bringupStepComplete ⟨none, 0, false, [], [], [(16, none)], []⟩).wf = false ∧
    (Instr.bringupStepComplete ⟨none, 0, false, [], [], [], [(16, 0, 0)]⟩).wf = false ∧
    (Instr.bringupStepComplete ⟨none, 0, false, [], [], [], [(0, 4096, 0)]⟩).wf = false ∧
    (Instr.bringupStepComplete ⟨some 255, 65535, true, [(8, 0)], [], [(15, none)], [(15, 4095, 0)]⟩).wf = true := by decide

theorem test_wf_frames :
    (Instr.readBurst .hp 0 0 0 []).wf = false ∧ (Instr.readBurst .hp 0 0 2 [2]).wf = false ∧ (Instr.readBurst .hp 0 0 2 [1]).wf = true ∧
    (Instr.readRepeat .mp 0 0 0 []).wf = false ∧ (Instr.readRepeat .mp 0 0 1 [1]).wf = false ∧ (Instr.readRepeat .mp 0 0 1 [0]).wf = true ∧
    (Instr.writeBurst .hp true 0 []).wf = false ∧ (Instr.writeBurst .hp true 0 [(0, 0)]).wf = true ∧
    (Instr.writeRepeat .hp true 0 []).wf = false ∧ (Instr.writeRepeat .hp true 0 [(0, 0)]).wf = true := by decide

theorem test_wf_meters :
    (Instr.blockDelivery 0 (List.replicate 161 []) false).wf = false ∧ (Instr.blockDelivery 0 (List.replicate 160 []) false).wf = true ∧
    (Instr.mbusReply 0 (List.replicate 262 0)).wf = false ∧ (Instr.mbusReply 1 (List.replicate 261 0)).wf = true ∧
    (Instr.spiScan (List.replicate 33 [])).wf = false ∧ (Instr.spiScan (List.replicate 32 [])).wf = true := by decide

theorem test_wf_lift_messages :
    (Instr.callRegistration 0 (some 65536) (.car 0 0 1)).wf = false ∧ (Instr.callRegistration 0 (some 65535) (.car 0 0 1)).wf = true ∧
    (Instr.carReport (List.replicate 1025 0)).wf = false ∧ (Instr.dispatchCall (List.replicate 1025 0)).wf = false ∧
    (Instr.assign (List.replicate 1025 0)).wf = false ∧ (Instr.callClear (List.replicate 1025 0)).wf = false ∧
    (Instr.demandCounts (List.replicate 1025 0)).wf = false ∧ (Instr.meterRollupReceive 0 (List.replicate 1025 0)).wf = false ∧
    (Instr.assign (List.replicate 1024 0)).wf = true := by decide +kernel

/-- A frame whose fields all fit. -/
def fits : BlvFrame := { typ := 1, flags := 15, src := 255, dst := 255, port := 63, seq := 65535, payload := List.replicate 8 0, ackCnt := 255, ackStatus := .ok, nackNode := 255, hops := 511 }
/-- A member whose fields all fit. -/
def fitting : Member := { addr := 255, dieId := 2 ^ 64 - 1, groups := 65535, roleTag := 2 ^ 32 - 1, timeValid := true, lineage := 2 ^ 24 - 1, prio := 255 }

theorem test_wf_boulevard_frames :
    fits.wf = true ∧ { fits with typ := 16 }.wf = false ∧ { fits with flags := 16 }.wf = false ∧ { fits with src := 256 }.wf = false ∧
    { fits with dst := 256 }.wf = false ∧ { fits with port := 64 }.wf = false ∧ { fits with seq := 65536 }.wf = false ∧
    { fits with payload := List.replicate 1025 0 }.wf = false ∧ { fits with ackCnt := 256 }.wf = false ∧
    { fits with nackNode := 256 }.wf = false ∧ { fits with hops := 512 }.wf = false ∧
    (Instr.frameAccept .a { fits with typ := 16 } true true true).wf = false ∧ (Instr.frameAccept .a fits true true true).wf = true ∧
    (Instr.kerbFrameReceive { fits with src := 256 } true).wf = false ∧ (Instr.kerbFrameReceive { fits with typ := 2 } true).wf = false ∧
    (Instr.kerbFrameReceive { fits with payload := [] } true).wf = false ∧ (Instr.kerbFrameReceive fits true).wf = true := by decide +kernel

theorem test_wf_markers :
    (Instr.markerReceive .a ⟨2 ^ 64 - 1, 2 ^ 64 - 1, -(2 ^ 31), 2 ^ 24 - 1, 255, 255, 511⟩ 0).wf = true ∧
    (Instr.markerReceive .a ⟨2 ^ 64, 0, 0, 0, 0, 0, 0⟩ 0).wf = false ∧ (Instr.markerReceive .a ⟨0, 2 ^ 64, 0, 0, 0, 0, 0⟩ 0).wf = false ∧
    (Instr.markerReceive .a ⟨0, 0, 2 ^ 31, 0, 0, 0, 0⟩ 0).wf = false ∧ (Instr.markerReceive .a ⟨0, 0, -(2 ^ 31) - 1, 0, 0, 0, 0⟩ 0).wf = false ∧
    (Instr.markerReceive .a ⟨0, 0, 0, 2 ^ 24, 0, 0, 0⟩ 0).wf = false ∧ (Instr.markerReceive .a ⟨0, 0, 0, 0, 256, 0, 0⟩ 0).wf = false ∧
    (Instr.markerReceive .a ⟨0, 0, 0, 0, 0, 256, 0⟩ 0).wf = false ∧ (Instr.markerReceive .a ⟨0, 0, 0, 0, 0, 0, 512⟩ 0).wf = false := by decide

theorem test_wf_members :
    (Instr.controlJoin fitting).wf = true ∧ (Instr.controlJoin { fitting with addr := 256 }).wf = false ∧
    (Instr.controlJoin { fitting with dieId := 2 ^ 64 }).wf = false ∧ (Instr.controlJoin { fitting with groups := 65536 }).wf = false ∧
    (Instr.controlJoin { fitting with roleTag := 2 ^ 32 }).wf = false ∧ (Instr.controlJoin { fitting with lineage := 2 ^ 24 }).wf = false ∧
    (Instr.controlJoin { fitting with prio := 256 }).wf = false ∧
    (Instr.membershipEffective (List.replicate 257 fitting) []).wf = false ∧
    (Instr.membershipEffective [{ fitting with addr := 256 }] []).wf = false ∧ (Instr.membershipEffective [fitting] []).wf = true := by decide +kernel

theorem test_wf_scan : (Instr.samplePreload [true] []).wf = false ∧ (Instr.samplePreload [true] [false]).wf = true := by decide

/-! ### Steps -/

/-- The front command runs with the queue's rest, which waits on. -/
theorem test_step_front :
    (match step { on .night with pending := [.modeRequest .hp 0xA5 3, .spiScan []] } with
      | .next t => decide (t.mode.mode = .service) && t.pending.length == 1
      | _ => false) = true := by decide +kernel

/-- On an empty queue 1 µs passes. -/
theorem test_step_idle :
    (match step (on .service) with
      | .next t => decide (t.time.uptime = (on .service).time.uptime + 1000) && t.pending.isEmpty
      | _ => false) = true := by decide +kernel

/-- No row of the table gives bits. -/
theorem test_no_words (s : State) : decodeTableWord 64 0 = none ∧ s.withFetchWord 64 0 = s := ⟨rfl, rfl⟩

/-- ID_PART of HK7256-C (Table 4.5). -/
theorem test_id : idPart State.reset = 0x0E5A725600004301 := by decide +kernel

/-- A state with memory listed in canonical form, and a command of a Signal Core's. -/
theorem witness_whole : State.Inv { on .service with mem := [(0x40000000, 1), (0x40000002, 255)] } ∧ Firmware (.coreFabricRetry 0) := by
  refine ⟨?_, ?_⟩
  · unfold State.Inv; decide +kernel
  · simp [Firmware]

/-! ### Modes (chapter 2) -/

theorem witness_mode_requests :
    (on .dormant).mode.mode = .dormant ∧ (on .bringup).mode.mode = .bringup ∧
    requestCell (on .night) (Mode.ofCode 1) = .refused ∧ Mode.ofCode 3 = (on .service).mode.mode ∧
    (requestCell sounding (Mode.ofCode 2) = .deferred ∧ deferredReady sounding (Mode.ofCode 2) = false) ∧
    requestCell (on .night) (Mode.ofCode 3) = .go ∧
    (requestCell (on .service) (Mode.ofCode 2) = .deferred ∧ deferredReady (on .service) (Mode.ofCode 2) = true) := by decide +kernel

theorem witness_matrix : (after (.modeRequest .hp 0xA5 3) (on .night)).mode.mode = .service := by decide +kernel

theorem witness_deferred_requests :
    ((asked .service .night .hp).mode.pendingReq ≠ none ∧ (on .service).mode.pendingReq = none) ∧
    deferredReady (asked .service .night .hp) .night = true ∧
    deferredReady { sounding with mode := (asked .service .night .hp).mode } .night = false ∧
    (scheduleOn (scheduled .service) = true ∧ nightReady (scheduled .service) = true) ∧
    (scheduleOn { sounding with mode := (scheduled .service).mode, time := (scheduled .service).time } = true ∧ nightReady sounding = false) ∧
    (scheduleOn { asked .service .night .rtc with
        mode := { (asked .service .night .rtc).mode with cfg := 8 }, time := (scheduled .service).time } = true) ∧
    scheduleOn (scheduled .night) = true := by decide +kernel

theorem witness_recall_in_update :
    commitBusy (on .update) = false ∧
    commitBusy { on .update with consent := { ConsentState.init with
      scopes := ConsentState.init.scopes.set 0 { (ConsentState.init.scopes[0]) with phase := .committing } } } = true := by decide +kernel

/-- What a bring-up step meets where all passes. -/
def passes : BringIn := { fail := none, detail := 0, corrected := false, config := [], phrases := [], models := [], streams := [] }

/-- The device in bring-up step `n`. -/
def step_ (n : Nat) : State := { on .bringup with mode := { (on .bringup).mode with step := n } }

theorem witness_bringup :
    (stepEffect passes (step_ 1)).1 = none ∧ (stepEffect passes (step_ 6)).1 = none ∧ (stepEffect passes (step_ 9)).1 = none ∧
    (step_ 1).pkg.railHold = false ∧ (on .service).time.centreValid = false ∧
    { TimeState.init with centreValid := true }.centreValid = true := by decide +kernel

/-! ### Clocks and islands (chapter 3) -/

/-- A PLL that runs, with a relock in progress. -/
def changing (l : Bool) (stair : Nat) : Pll := { Pll.init 800000000 with running := true, changing := true, locked := l, stair := stair }
/-- The device in SERVICE with one PLL as given. -/
def pllAt (p : Fin 5) (x : Pll) : State := { on .service with clock := { ClockState.init with pll := ClockState.init.pll.set p.val x } }

theorem witness_clock_targets :
    ((pll (pllAt 1 { Pll.init 800000000 with running := true }) pllCORE).running = true ∧
      (pllAt 1 (Pll.init 800000000)).clock.targetMhz ≠ max 200 (min 1200 (800 / 25 * 25)) ∧
      (pllAt 1 { Pll.init 800000000 with running := true }).mode.mode ≠ .night) ∧
    ((pll (pllAt 2 { Pll.init 24576000 with running := true }) pllAUDIO).running = true ∧ (on .service).clock.family ≠ 1) := by decide +kernel

theorem witness_relock :
    ((pll (pllAt 1 (changing false 15)) 1).changing = true ∧ (pll (pllAt 1 (changing false 15)) 1).locked = false) ∧
    (pll (pllAt 1 (changing true 15)) 1).stair = 15 ∧ (pll (pllAt 1 (changing true 3)) 1).stair = 3 ∧
    (pll (pllAt 4 (changing true 1)) 4).stair = 1 ∧ (pll (on .service) 0).changing = false ∧
    (pll (pllAt 0 { Pll.init 1 with running := true, locked := true }) 0).lastTrip = none ∧
    (pll (pllAt 4 { Pll.init 1 with running := true, lastTrip := some 0 }) 4).lastTrip = some 0 ∧
    (on .service).time.uptime ≤ 0 + 1000000000 := by decide +kernel

/-- The device in SERVICE with one island as given. -/
def islAt (i : Fin 16) (x : Island) : State := { on .service with isl := (on .service).isl.set i.val x }

theorem witness_island_control :
    islCtlBars (on .service) 3 false = true ∧ islCtlBars (on .service) 0x8000 false = false ∧
    (isl (on .service) 15).fence = none ∧
    (islCtlBars (islAt 15 { Island.init with st := .held, fence := some .reset }) 0x8000 true = false) ∧
    (isl (islAt 15 { Island.init with st := .held, fence := some .reset }) 15).resetPending = false ∧
    ((isl (islAt 12 { Island.init with st := .fencing, fence := some .update }) 12).st = .fencing) ∧
    (isl (islAt 12 { Island.init with st := .fencing, fence := some .powerDown }) 12).fence = some .powerDown ∧
    (islWanted (islAt 12 { Island.init with st := .fenced, fence := some .reset }) 12 = .on) := by decide +kernel

theorem witness_island_faults :
    ((isl (on .service) 15).st = .on ∧ (isl (on .service) 15).faulted = false ∧ (isl (on .service) 15).fence = none ∧
      wdogCounts (on .service) 15 = true ∧ wdogCounts (on .service) 1 = false) ∧
    (5 ≤ (5 : Nat) ∧ (islAt 5 { Island.init with st := .on, restartTimes := [0, 0, 0] }).clock.restartMax ≤
      (recentRestarts (islAt 5 { Island.init with st := .on, restartTimes := [0, 0, 0] }) { Island.init with st := .on, restartTimes := [0, 0, 0] }).length) ∧
    ¬((on .service).clock.restartMax ≤ (recentRestarts (on .service) (isl (on .service) 5)).length) ∧
    { ClockState.init with refclkLost := true }.refclkLost = true ∧ Rail.vddaPll ∉ (on .service).pkg.alarms ∧
    { ClockState.init with refclk := true }.refclk = true := by decide +kernel
/-! ### The host and maintenance ports (chapter 4) -/

/-- The device in SERVICE with the frame CRC on over both ports. -/
def crcOn : State := { on .service with host := { HostState.init with crcEn := Vector.replicate 2 true } }

theorem witness_frames :
    crcOnOf .hp (on .service) = false ∧ crcOnOf .mp crcOn = true ∧ (0 : Nat) ≠ crc8 [0x0B, 0, 0] ∧
    addrBad 0x1000 = true ∧ addrBad 0x7F9 = true ∧ addrBad 0x7F8 = false ∧ listedOpcode 0 = false ∧
    (on .service).pkg.revA1 = false ∧ (on .service).host.codeI = false ∧
    (0 : Nat) ≠ crc8 (headBytes 0x02 0x088 ++ dataBytes 1) := by decide

/-- The device in SERVICE with window 3 as given. -/
def winAt (x : Win) : State := { on .service with host := { HostState.init with win := HostState.init.win.set 3 x } }

theorem witness_windows :
    ((win (winAt Win.init) 3).pf = .ok ∧ (win (winAt Win.init) 3).autoInc = false ∧ (win (winAt Win.init) 3).wr = none) ∧
    placeScoped (placeOf 0x40000000) = false ∧ placeScoped (placeOf 0x40520000) = true ∧
    (win (winAt { Win.init with pf := .busy, addr := sramBase }) 3).addr = sramBase ∧
    (fabRead .window 0x60000000 { winAt Win.init with isl := Vector.replicate 16 Island.init }).1.status = .retry ∧
    (fabRead .window sramBase { winAt Win.init with ecc := [sramBase] }).1.status = .abort ∧
    (win (winAt { Win.init with wr := some (sramBase, 5) }) 3).wr = some (sramBase, 5) ∧
    (fabWrite .window sramBase 255 5 (winAt { Win.init with wr := some (sramBase, 5) })).1 = .ok ∧
    (∀ m, m < 8 → (Machine.core (fabWrite .window sramBase 255 5 (winAt Win.init)).2 m).stepReq = false) := by decide +kernel

/-! ### The consent controller (chapter 5) -/

/-- The four digest words written over HP, in a mode. -/
def digested (m : Mode) : State := { on m with consent := { ConsentState.init with digestBy := Vector.replicate 4 (some .hp) } }
/-- The device in SERVICE with one scope as given. -/
def scopeAt (k : Fin 8) (x : ScopeState) : State :=
  { on .service with consent := { ConsentState.init with scopes := ConsentState.init.scopes.set k.val x } }
/-- A scope in a phase, proposed over HP, with the digest of the empty payload. -/
def proposed (p : Phase) (digest : Nat) : ScopeState := { ScopeState.blank with phase := p, proposer := .hp, digest := digest, mask := 7, deadline := 1 }
/-- A valid CONSENT_CONFIG payload (R128): window 120 s, every scope confirmed over any channel. -/
def configBytes : List Byte := leBytes 4 0x5A434346 ++ leBytes 2 120 ++ leBytes 2 0 ++ List.replicate 8 7 ++ leBytes 16 0

theorem witness_proposals :
    bits (0xC500000001000000 : Word) 63 56 = 0xC5 ∧ bits (0 : Word) 63 56 ≠ 0xC5 ∧
    (vget (on .service).consent.digestBy 0 none ≠ some Channel.hp) ∧
    (∀ n, n < 4 → vget (digested .service).consent.digestBy n none = some Channel.hp) ∧
    (scopeAllowed (bits (0xC504000001000000 : Word) 50 48) .service = false ∧
      (∀ n, n < 4 → vget (digested .service).consent.digestBy n none = some Channel.hp)) ∧
    (scopeAllowed (bits (0xC500000001000000 : Word) 50 48) .service = true ∧ 0 < bits (0xC500000001000000 : Word) 47 24 ∧
      64 * bits (0xC500000001000000 : Word) 16 0 + bits (0xC500000001000000 : Word) 47 24 ≤ 8388608 ∧
      (∀ j, j < 8 → (scopeOf (digested .service) j).phase = .idle)) ∧
    (scopeOf (on .service) 0).isOpen = false ∧ (scopeOf (scopeAt 7 (proposed .hashing 0)) 7).isOpen = true ∧
    (scopeOf (scopeAt 7 (proposed .pending 0)) 7).proposer = .hp := by decide +kernel

theorem witness_hashing :
    payloadBad { scopeAt 0 { proposed .hashing 0 with length := 8 } with ecc := [stagingBase] } { proposed .hashing 0 with length := 8 } = true ∧
    (payloadBad (scopeAt 0 (proposed .hashing 0)) (proposed .hashing 0) = false ∧
      shaN (payloadOf (scopeAt 0 (proposed .hashing 0)) (proposed .hashing 0)) ≠ 0) ∧
    payloadFail (scopeAt 0 (proposed .hashing (shaN []))) 0 (payloadOf (scopeAt 0 (proposed .hashing (shaN []))) (proposed .hashing (shaN []))) =
      some rsPAYLOAD := by decide +kernel

theorem witness_payload_passes : payloadFail (scopeAt 6 (proposed .hashing (shaN configBytes))) 6 configBytes = none ∧
    payloadOf { on .service with mem := Memory.writeBytes [] stagingBase configBytes } { proposed .hashing 0 with length := 32 } = configBytes ∧
    (scopeOf (scopeAt 5 (proposed .committing (shaN []))) 5).phase = .committing ∧ (on .service).mode.recallAfterCommit = false := by decide +kernel

theorem witness_confirmation :
    (∀ j, j < 8 → ((scopeOf (scopeAt 7 (proposed .pending 5)) j).phase = .pending ∧
      tagOf (scopeOf (scopeAt 7 (proposed .pending 5)) j).digest = tagOf 5 ↔ j = 7)) ∧
    (scopeOf (scopeAt 7 (proposed .pending 5)) 7).mask.testBit (channelCode .mp) = true ∧
    (scopeAt 7 (proposed .pending 5)).time.uptime < (scopeOf (scopeAt 7 (proposed .pending 5)) 7).deadline ∧
    (∀ j, j < 8 → (scopeOf (scopeAt 7 (proposed .pending 5)) j).phase = .idle ∨ tagOf (scopeOf (scopeAt 7 (proposed .pending 5)) j).digest ≠ 0) ∧
    (scopeOf (scopeAt 7 (proposed .pending 5)) 7).isOpen = true ∧ (scopeAt 7 (proposed .pending 5)).consent.mismatch < 3 ∧
    holdsRole (on .service) false 9 = false := by decide +kernel

/-- The roles payload in NVM that names node 9 as WARDEN and as CONCENTRATOR. -/
def roles : Memory :=
  Memory.writeBytes [] rolesAddr (leBytes 4 0x424C5231 ++ leBytes 4 0 ++ [9, 1, 9, 1] ++ leBytes 4 0 ++ leBytes 8 1 ++ leBytes 8 1)
/-- Node 9 of a ring. -/
def node9 : Member := { addr := 9, dieId := 1, groups := 1, roleTag := 0x0087BDE5, timeValid := true, lineage := 1, prio := 1 }
/-- The device in SERVICE on a ring of itself, node `a`, and node 9. -/
def ringOf (a : Nat) : State :=
  { on .service with
    blv := { BlvState.init with self := some a, members := [{ node9 with addr := a, dieId := if a = 9 then 1 else 2 }, node9], ring := .normal, centre := a }
    mem := roles, time := { TimeState.init with centreValid := true, lineage := 1 } }

theorem witness_warden : holdsRole (ringOf 1) false 9 = true ∧ (ringOf 1).blv.self ≠ some 9 := by decide +kernel
/-! ### Arcade (chapter 6) -/

/-- A queue in service in lane 8, from AON to the host, with the counters given. -/
def queue (resv tail read head : Nat) : Queue :=
  { Queue.blank with cfg := { Queue.blank.cfg with lane := 8, cons := ownHost, ringBase := 0x1000000, dbCons := true, dbCount := 1 }
                     valid := true, resv := resv, tail := tail, read := read, head := head }
/-- The device in SERVICE with queue 3 as given. -/
def queueAt (x : Queue) : State := { on .service with arc := { ArcadeState.init with queues := [(3, x)], qSel := 3 } }

theorem witness_producer :
    qGet (queueAt (queue 0 0 0 0)) 3 = some (queue 0 0 0 0) ∧
    (laneDown (queueAt (queue 0 0 0 0)) (queue 0 0 0 0) = false ∧ (queue 0 0 0 0).loading = false ∧ (queue 0 0 0 0).valid = true) ∧
    prodFrozen (queueAt (queue 0 0 0 0)) (queue 0 0 0 0) = false ∧ (queue 7 0 0 0).free ≠ 0 ∧ (queue 8 0 0 0).free = 0 ∧
    (1 ≤ sub32 (queue 8 7 0 0).resv (queue 8 7 0 0).tail ∧ sub32 (queue 8 8 0 0).resv (queue 8 8 0 0).tail < 1) ∧
    (queue 0 0 0 0).entryBytes = 8 ∧ { (queue 0 0 0 0) with cfg := { (queue 0 0 0 0).cfg with entryW := 3 } }.entryBytes ≠ 8 ∧
    (sub32 (queue 0 0xFFFFFFFF 0xFFFFFFFF 0).resv 0xFFFFFFFF = 1 ∧ (queue 0 0xFFFFFFFF 0xFFFFFFFF 0).avail = 0) ∧
    islFrozen (queueAt (queue 0 0 0 0)) (islSC 7) = false := by decide +kernel

theorem witness_consumer :
    (consFrozen (queueAt (queue 1 1 0 0)) (queue 1 1 0 0) = false ∧ (queue 1 1 0 0).avail ≠ 0 ∧ (queue 1 1 0 0).redeliverEnd = none) ∧
    (later32 1 (queue 1 1 0 0).read = true ∧ (queue 1 1 1 0).avail = 0) ∧
    (1 ≤ sub32 (queue 1 1 1 0).read (queue 1 1 1 0).head ∧ sub32 (queue 1 1 0 0).read (queue 1 1 0 0).head < 1) := by decide

theorem witness_host_queue :
    ((queueAt (queue 1 1 0 0)).arc.peek = none ∧ qGet (queueAt (queue 1 1 0 0)) (queueAt (queue 1 1 0 0)).arc.qSel = some (queue 1 1 0 0)) ∧
    (queueAt (queue 1 1 0 0)).arc.copy = none ∧
    (0 < sub32 (add32 (queue 1 1 0 0).read 1) (queue 1 1 0 0).head) ∧
    ({ (queue 0 0 0 0) with cfg := { (queue 0 0 0 0).cfg with prod := ownHost } }.cfg.prod = ownHost) := by decide

/-- A valid descriptor (Table 6.2) of queue 0x3F80: AON to the host, lane 8, eight entries of 8 bytes at the start of SRAM. -/
def descState : State :=
  { on .service with
    arc := { ArcadeState.init with qSel := 0x3F80 }
    mem := Memory.writeBytes [] (descAddr 0x3F80) (leBytes 8 (packWord [(63, 1), (56, 8), (46, 31), (39, 3), (0, 0x1000000)]).toNat) }

theorem witness_load_actions :
    loadTarget .host descState = 0x3F80 ∧ copyOn descState 0x3F80 = false ∧ qGet descState 0x3F80 = none ∧ descBad descState 0x3F80 = false ∧
    descOk 0x3F80 (readDesc descState 0x3F80) = true ∧ (readDesc descState 0x3F80).valid = true ∧ (0x3F80 : Nat) ≠ noticeQid ∧
    (queue 0 0 0 0).ordered = true ∧ (queue 0 0 0 0).occupancy = 0 ∧ (queue 0 0 0 0).cfg.cons = ownHost ∧
    qGet (queueAt (queue 0 0 0 0)) noticeQid = none := by decide +kernel

theorem witness_load_complete :
    (after (.config .host) descState).arc.action = some (0x3F80, .config, true, some .ok) ∧
    (after .loadActionComplete (after (.config .host) descState)).arc.action = none := by decide +kernel
/-! ### The Signal Cores (chapters 7 and 8) -/

/-- A core that executes, its stack pointer at the top of a legal stack. -/
def running : CoreState := { CoreState.init with run := .running, sp := 4096, spHi := 4096, imask := -1 }
/-- The device in SERVICE with core 7 as given. -/
def coreAt (k : CoreState) : State := { on .service with cores := (on .service).cores.set 7 k }
/-- A slot of kind LD through P0, unmodified, into D1. -/
def slot0 : MoveSlot := { kind := 1, reg := 1, ptr := 0, mode := 0, ofs := 0 }
/-- No moves. -/
def still : Moves := { store := false, x := noMove, y := noMove }

theorem witness_core_ready : CoreReady (coreAt running) 7 := by
  unfold CoreReady CoreReadyAt
  decide +kernel

/-- A core in the second delay slot of a branch, with one result to come. -/
def inSlot (kind : BranchKind) : CoreState :=
  { running with sp := 4000, bank := kind == .rets, br := ⟨1, true, 5, kind, 0⟩, pend := [⟨0, .d 15 1⟩] }

theorem witness_core_ready_with :
    CoreReadyAt (coreAt (inSlot .jump)) 7 ⟨1, true, 5, .jump, 0⟩ [⟨0, .d 15 1⟩] ∧
    CoreReadyAt (coreAt { inSlot .reti with pend := [] }) 7 ⟨1, true, 5, .reti, 0⟩ [] ∧
    CoreReadyAt (coreAt { inSlot .rets with pend := [] }) 7 ⟨1, true, 5, .rets, 0⟩ [] ∧
    CoreReadyAt (coreAt { running with pend := [⟨1, .sreg 0x28 1⟩] }) 7 Branch.none [⟨1, .sreg 0x28 1⟩] := by
  unfold CoreReadyAt
  decide +kernel

theorem witness_local_moves : LocalMoves (coreAt running) 7 0 still ∧ LocalMoves (coreAt running) 7 0 (loadMoves false 1 slot0) ∧
    LocalMoves (coreAt running) 7 0 (loadMoves true 2 slot0) ∧ LocalMoves (coreAt running) 7 0 (storeMoves 3 slot0) ∧
    LocalMoves (coreAt running) 7 5 (loadMoves false 1 slot0) ∧ LocalMoves (coreAt running) 7 9 (loadMoves false 1 slot0) := by
  unfold LocalMoves
  decide +kernel

theorem witness_control :
    ({ running with bank := true }.bank = true) ∧ sregRead running running.cur 0 0x28 = some 4096 ∧ sregWritable 0x28 = true ∧ sregWritable 0x3F = false := by
  decide +kernel

theorem witness_returns :
    (running.sp % 16 = 0 ∧ running.spLo ≤ running.sp - 96 ∧ 4000 + 96 ≤ running.spHi ∧ running.sp + 96 ≤ 0x40000) ∧
    PushOk running ∧ PushOk { running with sp := 96, spHi := 96 } := by
  unfold PushOk
  decide

theorem witness_push_fails :
    (4088 % 16 ≠ (0 : Nat)) ∧ ((80 : Nat) % 16 = 0 ∧ 80 < running.spLo + 96) ∧ (running.spHi < 4112) ∧
    (0x40010 % 16 = (0 : Nat) ∧ 0x40010 ≤ { running with spHi := 0x50000 }.spHi ∧ (0x40000 : Nat) < 0x40010) ∧ (9 : Nat) < (10 : Fin 16).val := by decide

theorem witness_misaligned_and_unmapped :
    (slotAddr { running with p := running.p.set 0 4 } false (moveOf 1 slot0)).toNat % 8 ≠ 0 ∧
    (0xA0000 ≤ (slotAddr { running with p := running.p.set 0 0xA0000 } false (moveOf 1 slot0)).toNat ∧
      (slotAddr { running with p := running.p.set 0 0xA0000 } false (moveOf 1 slot0)).toNat < 2 ^ 40) := by decide +kernel

/-- A core with the FAST channel 63 pending. -/
def fastCore : CoreState := { running with ipend := 2 ^ 63, ie := 2, irqClass := 2 ^ 63 }
/-- A core with the HELD channel 0 pending. -/
def heldCore : CoreState := { running with ipend := 1, ie := 1 }

theorem witness_boundary_events :
    (takeable fastCore 63 = true ∧ chanFast fastCore 63 = true ∧ ∀ d, d < 63 → takeable fastCore d = false) ∧
    (takeable heldCore 0 = true ∧ chanFast heldCore 0 = false ∧ ∀ d, d < 64 → takeable heldCore d = true → d = 0) ∧
    bits heldCore.holdLimit 23 0 ≠ 0 ∧ PushOk heldCore := by
  unfold PushOk
  decide +kernel

theorem witness_boundary_events' :
    (islRuns (coreAt { running with run := .waiting, ipend := 1 }) (islSC 7) = true ∧
      { running with run := .waiting, ipend := 1 }.ipend &&& running.imask ≠ 0) ∧
    (bit (vget (running.bkpt.set 1 0x8000000000000000) 1 0) 63 = true ∧ bits (vget (running.bkpt.set 1 0x8000000000000000) 1 0) 13 0 = running.pc) ∧
    lockedAt (coreAt running) sramBase = false ∧ (∀ m, m < 8 → (Machine.core (coreAt running) m).stepReq = false) := by decide +kernel

/-- The device in SERVICE with core 7 halted by debug and a NOP bundle next. -/
def debugged : State :=
  { coreAt { running with run := .debugHalted } with mem := Memory.writeBytes [] (localAddr 7 0x80000) (leBytes 8 0x8000000000000000) }

theorem witness_core_block :
    (isl debugged (islSC 7)).st = .on ∧ islRuns debugged (islSC 7) = true ∧ debugged.mem.readW (localAddr 7 0x80000) = 0x8000000000000000 ∧
    bits (0xA900000000000000 : Word) 63 56 = 0xA9 ∧ bits ({ running with dbgSel := 0x4B }.dbgSel) 7 0 = 0x40 + 11 ∧
    (Machine.core (on .service) 0).run = .reset := by decide +kernel

theorem witness_step_ready : CoreReady (modCore 7 (fun k => { k with run := .running, skipBkpt := true }) debugged) 7 := by
  unfold CoreReady CoreReadyAt
  decide +kernel
/-! ### Metering (chapters 9 and 10) -/

/-- A sealed record that puts point 0 in use, as an active point. -/
def pointOn : Memory := [(sealBase + 2752, 1)]
/-- The device in SERVICE with metering running and point 0 in use. -/
def metering : State := { on .service with meter := { MeterState.init with running := true }, mem := pointOn }

theorem witness_blocks :
    (isl (on .service) islNIGHT).st = .on ∧ (isl (on .dormant) 2).st = .on ∧ (isl State.reset islNIGHT).st ≠ .on ∧
    pointsUsed metering.mem ≠ [] ∧ metering.meter.refLoss = none ∧ allOnZero metering = false ∧
    (on .service).meter.stuck.testBit 159 = false ∧
    (2 ^ 159 : Nat).testBit 159 = true ∧ MeterState.init.eventEn.testBit 2 = true := by decide +kernel

theorem witness_delivery :
    coreTakes metering 1 = true ∧
    (∀ c, c < 2 → coreTakes { metering with isl := State.reset.isl.set 2 { Island.init with st := .on } } c = false) := by decide +kernel

theorem witness_quick_view :
    (nightDown State.reset = true ∧ nightDown (on .service) = false) ∧ metering.meter.harm = none ∧ (ptCfg metering.mem 0).used = true ∧
    (vset metering (servingCore metering 0) (ptCfg metering.mem 0).vset).finv = false ∧
    (vset metering (servingCore metering 0) (ptCfg metering.mem 0).vset).vloss = false ∧ (ptCfg [] 127).used = false := by decide +kernel

theorem witness_harmonics_end : harmK metering 0 < (List.replicate 200 (1 : Rat)).length ∧ ¬(harmK metering 0 < ([] : List Rat).length) := by decide +kernel

/-- The device in SERVICE with the ledger tables given. -/
def tables (m : Memory) : State := { on .service with ldg := { LedgerState.init with tabs := m } }

theorem witness_pulses :
    (pulseMode (tables [(0x1004, 1)]) 0 = 1 ∧ pulseIsB (tables [(0x1004, 1)]) 0 = false) ∧
    (pulseMode (tables [(0x13E4, 2)]) 62 = 2 ∧ pulseIsB (tables [(0x13E4, 2)]) 62 = false ∧ pulseIsB (tables [(0x13E4, 2)]) 63 = true) ∧
    pulseMode (tables [(0x13F4, 3)]) 63 = 3 ∧ pulseMode (tables []) 0 = 0 := by decide +kernel

theorem witness_pulse_gate :
    (2 - 1) * 10 ^ 12 = 1000 * ((1000000000 : Nat) - 0) := by decide

theorem witness_heat :
    lt (tables []) (0x1600 + 3) 1 < 128 ∧ 128 ≤ lt (tables [(0x17F3, 128)]) (0x1600 + 16 * 31 + 3) 1 ∧
    tempOf (tables []) 0 = none ∧ islRuns (on .service) islIO = true ∧ islRuns State.reset islIO = false := by decide +kernel

/-- Master 1 with M-Bus slave 0 at primary address 5, in use, a water meter, credited to ledger 1. -/
def mbus (x : MbusMaster) (y : MbusSlave) : State :=
  { on .service with ldg := { LedgerState.init with
      tabs := [(0x2008, 5), (0x2009, 0x81)], masters := LedgerState.init.masters.set 1 x, slaves := [(0, y)] } }
/-- A reply of the slave (R235, R236): variable data, one record 04 13 E8 03 00 00, a volume of 1000 L. -/
def mbusBody : List Byte := [0x08, 5, 0x72, 0, 0, 0, 0, 0, 0, 0, 0, 0, 0, 0, 0, 0x04, 0x13, 0xE8, 0x03, 0, 0]
def mbusFrame : List Byte := [0x68, 21, 21, 0x68] ++ mbusBody ++ [sum8 mbusBody, 0x16]

theorem test_mbus_volume : (parseRecords 256 (mbusBody.drop 15) MbusVals.init) = ({ MbusVals.init with vol := some 1000000 }, false) := by decide +kernel

theorem witness_mbus :
    (slavesOf (mbus { MbusMaster.init with en := true } { MbusSlave.init with nke := true }) 1 = [0] ∧
      primaryOf (mbus { MbusMaster.init with en := true } { MbusSlave.init with nke := true }) 0 ≠ 253 ∧
      islRuns (mbus { MbusMaster.init with en := true } { MbusSlave.init with nke := true }) islIO = true) ∧
    (6 ≤ (List.replicate 6 (0 : Byte)).length ∧ (match frameKind (mbus MbusMaster.init MbusSlave.init) 0 (List.replicate 6 0) with | .reject => true | _ => false) = true) ∧
    (6 ≤ mbusFrame.length ∧ (match frameKind (mbus MbusMaster.init MbusSlave.init) 0 mbusFrame with | .data r => r == mbusBody.drop 15 | _ => false) = true) ∧
    lt (mbus MbusMaster.init MbusSlave.init) (0x2000 + 9) 1 % 4 = 1 ∧
    { MbusMaster.init with tries := 2 }.tries ≤ MbusMaster.init.retries ∧ MbusMaster.init.retries < { MbusMaster.init with tries := 3 }.tries := by decide +kernel

theorem test_mbus_reading :
    let t := after (.mbusReply 1 mbusFrame) (mbus { MbusMaster.init with cur := some 0, stage := .req, tries := 1 } { MbusSlave.init with nke := true })
    (slaveOf t 0).vol = 1000000 ∧ (slaveOf t 0).st = 1 ∧ (master t 1).okCnt = 1 ∧ (slaveOf t 0).fcb = false := by decide +kernel

/-- A ledger in use: number 1. -/
def ledgerOn : Memory := [(0x8000 + 32 + 17, 1)]

theorem witness_ledgers :
    ldgList (tables ledgerOn) = [1] ∧ ldgList (tables []) = [] ∧ Memory.wf (tables ledgerOn).mem = true ∧
    (ldgChecks (ldgTables (on .service)) (localOk (localCfg 0))).find? (fun p => !p.2) ≠ none ∧
    (ldgChecks (ldgTables (on .service)) (localOk (localCfg 0x00000F0100000000))).find? (fun p => !p.2) = none ∧
    bits (0x4C00000000000000 : Word) 63 56 = 0x4C := by decide +kernel

theorem witness_snapshots :
    localSec (on .service) / 86400 = 0 ∧ (on .service).ldg.loc.daily ≤ localSec (on .service) / 60 % 1440 ∧
    (civil (localSec (on .service) / 86400)).2.2 ≠ (on .service).ldg.loc.billDay ∧ (civil 0).2.2 = 1 := by decide +kernel

theorem witness_demand :
    let s : State := { tables ledgerOn with ldg := { (tables ledgerOn).ldg with demBase := [(1, 0)], loc := { LedgerState.init.loc with demand := 15 } } }
    ldgList s = [1] ∧ tget s.ldg.demBase 1 = some 0 ∧ s.ldg.loc.demand ≠ 0 ∧
      (sumImp s 1 + 2 ^ 64 - 0 % 2 ^ 64) % 2 ^ 64 * 60 / (15 * 1000000) < 2 ^ 32 := by decide +kernel
/-! ### The lift (chapter 11) -/

/-- Lift tables in force: car 0 in slot 0 of group 0, four landings, hall and destination calls. -/
def liftTabs : Memory := [(0x1002, 1), (0x1400, 3), (0x1401, 4)]
/-- A floor table of four landings at 0, 3, 6 and 9 m, all in service on the front side. -/
def floors : Memory :=
  [(4, 4), (90, 0x21), (96, 0x30), (97, 0x75), (122, 0x21), (128, 0x60), (129, 0xEA), (154, 0x21), (160, 0x90), (161, 0x5F), (162, 1), (186, 0x21)]
/-- The device in a mode with Kerb running and every permit given. -/
def kerbed (m : Mode) : State := { on m with kerb := { KerbState.init with run := .run, permits := 2 ^ 32 - 1 } }
/-- Such a device with car 0 as given. -/
def carOn (m : Mode) (x : Car) : State :=
  { kerbed m with lift := { LiftState.init with tabs := liftTabs, cars := LiftState.init.cars.set 0 { x with floor := floors } } }

theorem witness_car_calls :
    carUsed (carOn .service { Car.init with st := .parked }) 0 = true ∧ carUsed (on .service) 7 = false ∧
    islRuns (carOn .service { Car.init with st := .parked }) islMOTION = true ∧
    (flSides floors 3 &&& 1 ≠ 0) ∧ flSides floors 4 &&& 3 = 0 ∧ permit (carOn .service Car.init) 0 0 = true ∧ permit (on .service) 0 3 = false ∧
    carGroup (carOn .service Car.init) 0 = 0 ∧ faultGone (carOn .service { Car.init with st := .fault, fault := 8 }) 0 = true ∧
    flLandings (car (carOn .inspection Car.init) 0).floor = 4 := by decide +kernel

theorem witness_hall_calls :
    (CallTaken 0 false 3 1 (carOn .night Car.init) ∧ CallTaken 0 true 0 1 (carOn .service Car.init)) ∧
    ¬CallTaken 0 false 4 1 (carOn .service Car.init) ∧ (grp (carOn .service Car.init) 0).calls.length < 1024 ∧
    carAt (carOn .service { Car.init with st := .parked }) 0 0 true = none := by
  unfold CallTaken
  decide +kernel

/-- A hall call at landing 1, up, not assigned. -/
def call1 : GroupCall :=
  { id := 0x01000001, isDest := false, origin := 1, destDir := 1, side := 1, pass := 0, regMs := 0, regAt := 0, slot := none, was := none }
/-- A parked car's report from a slot, its load unknown. -/
def report (slot : Nat) : CarReport :=
  { slot := slot, st := 1, dir := 0, next := 0xFF, committable := 0, load := 0xFF, flags := 0, pos := 0, vel := 0, dStop := 0, ttg := 0, eUp := 0
    eDn := 0, refusedId := 0, carMap := 0, upMap := 0, dnMap := 0 }
/-- The device in SERVICE in island dispatch, with that call and the reports of slots 0 and 1. -/
def dispatching : State :=
  { carOn .service { Car.init with st := .parked } with lift := { (carOn .service { Car.init with st := .parked }).lift with
      groups := LiftState.init.groups.set 0 { Group.init with calls := [call1], reports := [report 0, report 1], island := true } } }

theorem witness_dispatch :
    (grpUsed dispatching 0 = true ∧ (∀ h, h < 16 → grpUsed dispatching h = true → h = 0) ∧ groupCars dispatching 0 = [0]) ∧
    (assigns dispatching 0 = true ∧ (grp dispatching 0).calls = [call1] ∧ windDown dispatching = false ∧ followed dispatching 0 = none) ∧
    candidate [] (carView dispatching 0 [] (report 0)) call1 = true ∧ candidate [] (carView dispatching 0 [] (report 1)) call1 = true := by decide +kernel

theorem witness_dispatch_messages :
    (le ([1, 0, 1, 40, 0, 0, 0, 0] : List Byte) 0 1 = 1 ∧ le ([1, 0, 1, 40, 0, 0, 0, 0] : List Byte) 1 1 = 0 ∧ le ([1, 0, 1, 40, 0, 0, 0, 0] : List Byte) 2 1 = 1) ∧
    dispatches { carOn .service Car.init with
      time := { TimeState.init with centreValid := true }
      blv := { BlvState.init with self := some 1, dispatcher := Vector.replicate 16 (some 1) } } 15 = true ∧
    (3 : Nat) < grpN (carOn .service Car.init) 0 1 1 := by decide +kernel

theorem witness_car_motion :
    (carN (carOn .service Car.init) 0 3 1 % 4 ≠ 2 ∧ (carOn .service Car.init).lift.cmdQ = 0) ∧
    (500 ≤ absR ({ Car.init with st := .running, vel := 500 } : Car).vel ∧ (1 : Nat) ≤ flLandings floors) ∧
    (∀ i, i < 4 → i ≠ 0 → gap (toSigned 64 (floors.readN (64 + 32 * 0 + 8) 8)) 0 < gap (toSigned 64 (floors.readN (64 + 32 * i) 8)) 0) ∧
    roundR ((0 : Rat) + 500 * mkRat 0 1000000000) = 0 := by decide +kernel

/-- Edge captures of a learn run over one landing whose zone is 1000 u long. -/
def captures : List (Bool × Bool × Int) := [(true, true, -500), (true, false, 500), (false, true, 500), (false, false, -500)]

theorem witness_learn :
    (edgesOf captures true true).length = 1 ∧ (edgesOf captures true false).length = 1 ∧
    ((edgesOf captures false true).reverse).length = 1 ∧ ((edgesOf captures false false).reverse).length = 1 ∧
    (-500 + 500 + 500 + -500 : Int) = 0 ∧ (500 ≤ gap (-500) 500 ∧ gap (-500) 500 ≤ 5000) ∧ (edgesOf [] true true).length ≠ 1 := by decide +kernel

theorem witness_energy :
    readEnergy (carOn .service Car.init) 0 ≠ none ∧
    readEnergy { on .service with lift := { LiftState.init with tabs := [(0x1054, 0xFF)] } } 0 = none ∧
    (1 : Rat) ≤ mkRat ((20000 : Int) - 0).natAbs 10000 ∧
    (readEnergy { carOn .service Car.init with mem := Memory.writeBytes [] (ptAddr 0 + 12) [0x10] } 0).map (·.good) = some true := by decide +kernel

theorem witness_lift_tables :
    bits (0x4A00000000000101 : Word) 63 56 = 0x4A ∧ bits (0x4A00000000000101 : Word) 2 0 = 1 ∧ bits (0x4A00000000000102 : Word) 15 8 = 2 ^ 0 ∧
    (liftBad (liftRecords (on .service)) = none ∧ liftApplyWaits (on .service) (liftRecords (on .service)) = false) ∧
    (liftBad [(0x1002, 1)] ≠ none ∧ liftApplyWaits (carOn .service { Car.init with st := .parked }) [(0x1002, 1), (0x1003, 1)] = true) ∧
    Memory.readN [(liftBase + 0x2004, 4), (liftBase + 0x2005, 1)] (liftBase + 0x2005) 1 ≠ 0 := by decide +kernel
/-! ### The motion engine (chapter 12) -/

/-- Axis records in force: axis 0 a door axis, axis 16 a car's, with a position range of −1000 to 1000 u. -/
def axTabs : Memory := [(0x1000, 1), (0x1800, 1)]
/-- Such a device in SERVICE with axis `a` as given. -/
def axisOn (a : Fin 24) (x : Axis) : State :=
  { kerbed .service with motion := { MotionState.init with tabs := axTabs, axes := MotionState.init.axes.set a.val x } }
/-- An axis at rest in IDLE with a known position. -/
def idle : Axis := { Axis.init with st := .idle, posValid := true }

theorem witness_moves :
    (islRuns (axisOn 0 idle) islMOTION = true ∧ axisMode (axisOn 0 idle) = true ∧ towardActive (axisOn 0 idle) 0 ((5 : Rat) - 0) = false ∧
      ¬(axI (axisOn 0 idle) 0 88 8 < axI (axisOn 0 idle) 0 96 8)) ∧
    (doorTables (axisOn 0 idle) 0).any (fun t => tableEcc (axisOn 0 idle) t.1 t.2) = false ∧
    gateOpen (axisOn 0 { idle with st := .stopped }) 0 ((5 : Rat) - 0) = true ∧ axUsed (axisOn 16 Axis.init) 16 = true ∧
    axUsed (axisOn 16 Axis.init) 23 = false ∧ faultPresent (axisOn 0 { idle with st := .faulted, fault := 4, limLo := true, limHi := true }) 0 = true ∧
    faultPresent (axisOn 0 { idle with st := .faulted, fault := 1 }) 0 = false ∧ (24 : Nat) ≤ (27 : Fin 28).val := by decide +kernel

theorem witness_gear :
    masterPos (axisOn 0 idle) 0 = none ∧
    (masterPos { axisOn 0 idle with motion := { (axisOn 0 idle).motion with tabs := [(0x1000, 1), (0x1027, 0x81), (0x1044, 9), (0x1080, 1)]
                                                                            axes := MotionState.init.axes.set 1 idle } } 0 = some 0) ∧
    axI { axisOn 0 idle with motion := { (axisOn 0 idle).motion with tabs := [(0x1000, 1), (0x1027, 0x81), (0x1044, 9), (0x1080, 1)] } } 0 68 8 = 9 := by decide +kernel

/-- A law: ramps of 1, speeds 1, 1 and 2, cap 10. -/
def law : Law := { vStart := 1, vStop := 1, vBrk := 2, accLo := 1, accHi := 1, decHi := 1, decLo := 1, cap := 10 }

theorem witness_law :
    ((0 : Rat) < mkRat 1 4000 ∧ 0 ≤ law.vStart ∧ 0 ≤ law.vStop ∧ law.vStop ≤ law.vBrk ∧ 0 < law.decHi ∧ 0 < law.decLo) ∧
    (law.vBrk < 5 ∧ law.vBrk < 5 - law.decHi * mkRat 1 4000 ∧ 1 * ((1 : Rat) - 0) ≤ law.stopDist 5 ∧
      (1 : Rat) ≠ 0 + 5 * mkRat 1 4000 - 1 * law.decHi * mkRat 1 4000 * mkRat 1 4000 / 2) ∧
    (law.vStop ≤ 1 ∧ 1 < law.vBrk ∧ 1 < law.cap ∧ 1 + law.accLo * mkRat 1 4000 < 2 ∧ law.stopDist 2 + (2 * 2 - 1 * 1) / (2 * law.accLo) ≤ 1 * ((100 : Rat) - 0)) ∧
    (law.cap = 10 ∧ law.stopDist 10 + 10 * mkRat 1 4000 < 1 * ((100 : Rat) - 0)) := by decide +kernel

theorem witness_servo :
    (axUsed (axisOn 16 idle) 16 = true ∧ (axis (axisOn 16 idle) 16).cmds = [] ∧ (axisOn 16 idle).motion.cmdQ = 0) ∧
    (planRun (lawAt (axisOn 16 { idle with st := .moving }) 16 0 0) 0 60 (mkRat (servoUs (axisOn 16 idle) 16) 1000000) ⟨0, 0, true⟩).2.2 = true ∧
    (planRun (lawAt (axisOn 16 { idle with st := .moving }) 16 0 5) 5 60 (mkRat (servoUs (axisOn 16 idle) 16) 1000000) ⟨0, 0, true⟩).2.2 = false ∧
    permit (axisOn 16 idle) (axCar (axisOn 16 idle) 16) 0 = true ∧ permit (on .service) 0 3 = false ∧
    liftOwned (carOn .service Car.init) 16 = true ∧ Memory.wf (axisOn 16 idle).mem = true := by decide +kernel

theorem witness_limits :
    (true = (true != (axN (axisOn 0 idle) 0 36 1).testBit 7) ∧ towardLo (axisOn 0 { idle with st := .moving, v := -1 }) 0 (-1) = true) ∧
    (axN { axisOn 0 idle with motion := { MotionState.init with tabs := [(0x1000, 1), (0x1024, 2)] } } 0 36 1 % 4 = 2) ∧
    axN (axisOn 0 idle) 0 36 1 % 4 ≠ 2 := by decide +kernel

/-- The device in SERVICE with escalator 3 in use. -/
def escOn (x : EscChan) : State :=
  { on .service with motion := { MotionState.init with tabs := [(0xC0C0, 1)], esc := MotionState.init.esc.set 3 x } }

theorem witness_escalators :
    (escUsed (escOn EscChan.init) 3 = true ∧ escMode (escOn EscChan.init) = true ∧ escMode (on .night) = false) ∧
    escConditions (escOn { EscChan.init with trips := 1 }) 3 &&& 2 = 0 ∧
    (absR (mkRat ((0 : Int) * 0) 65536) * 10 * 100 ≤ ((10 * escN (escOn EscChan.init) 3 2 2 * escN (escOn EscChan.init) 3 12 1 : Nat) : Rat)) ∧
    motBad (motRecords (on .service)) = none ∧ motApplyWaits (on .service) (motRecords (on .service)) = false ∧
    motBad [(0x1000, 1)] ≠ none ∧ motApplyWaits (axisOn 0 { idle with st := .moving }) [] = true ∧ bits (0x4D00000000000001 : Word) 63 56 = 0x4D := by decide +kernel

/-! ### The door drive (chapter 13) -/

/-- The device in SERVICE with door axis 0 in use and as given. -/
def doorOn (x : DoorAxis) : State :=
  { kerbed .service with
    motion := { MotionState.init with tabs := axTabs, axes := MotionState.init.axes.set 0 idle }
    door := { DoorState.init with tabs := [(0x1000, 1), (0x1002, 4), (0x1007, 5), (0x100A, 10), (0x100C, 10)], doors := DoorState.init.doors.set 0 x } }
/-- A phase in a state of the chopper. -/
def ph (c : Chop) : DPhase := { DPhase.init with chop := c }

theorem witness_chopper :
    ddUsed (doorOn DoorAxis.init) 0 = true ∧ ddUsed (doorOn DoorAxis.init) 15 = false ∧
    ((phase (doorOn { DoorAxis.init with a := ph .deadOn }) 0 false).chop = .deadOn ∧ (phase (doorOn { DoorAxis.init with b := ph .blank }) 0 true).chop = .blank) ∧
    400 ≤ (400 : Nat) - (ph .on).onAt ∧ 1000000 ≤ (100000 - (ph .slow).onAt) * ddN (doorOn DoorAxis.init) 0 12 1 ∧
    (100000 - 1 - (ph .slow).onAt) * ddN (doorOn DoorAxis.init) 0 12 1 < 1000000 ∧ (15 : Nat) ≤ { ph .blank with overCnt := 15 }.overCnt := by decide +kernel

theorem witness_pulses_and_offsets :
    tCmd (doorOn DoorAxis.init) 0 (ph .slow) = none ∧
    (tCmd (doorOn DoorAxis.init) 0 { ph .slow with sr := 1, iset := 100 } ≠ none ∧ tMin (doorOn DoorAxis.init) 0 = 450) ∧
    (0 < 1 - (1 : Rat) * (1 / 1000 + 1 / 1000) ∧ 1 - (1000 : Rat) * (1 / 1000 + 1 / 1000) ≤ 0) ∧
    ({ DoorAxis.init with changedAt := 0 }.changedAt : Int) = 0 ∧ ((ph .on).iset * (5 : Rat) = 0 ∧ (ph .on).neg ≠ decide ((-5 : Rat) < 0)) := by decide +kernel

theorem witness_estimates :
    ((501 : Int).natAbs > 500 ∧ (-500 : Int).natAbs ≤ 500) ∧ bridgeMode (doorOn DoorAxis.init) = true ∧
    (4 ≤ { DoorAxis.init with n := 4 }.n ∧ DoorAxis.init.vOk = true ∧ ((ddN (doorOn DoorAxis.init) 0 28 4 : Nat) : Rat) ≤ absR 0) ∧
    ((phase (doorOn { DoorAxis.init with b := { ph .slow with bemf := some (5, 1) } }) 0 (!false)).bemf = some (5, 1) ∧ (20005 : Nat) - 5 ≤ 20000 ∧ (20000 : Nat) < 20006 - 5) ∧
    sqrtR ((3 * 3 + 4 * 4 : Int) : Rat) = 5 ∧ isClosing (doorOn DoorAxis.init) 0 (-1) = true ∧ isClosing (doorOn DoorAxis.init) 0 1 = false ∧
    obsAllowed (doorOn DoorAxis.init) 0 = false ∧ bits (0x4400000000000102 : Word) 63 56 = 0x44 ∧ bits (0x4400000000000102 : Word) 1 0 = 2 ∧
    (List.range 16).findSome? (ddRecBad (on .service).motion.tabs (ddRecords (on .service))) = none ∧
    ddApplyWaits (on .service) (ddRecords (on .service)) = false ∧ ddApplyWaits (doorOn { DoorAxis.init with energised := true }) [] = false ∧
    ddApplyWaits { doorOn { DoorAxis.init with energised := true } with motion := { MotionState.init with axes := MotionState.init.axes.set 0 { idle with st := .moving } } } [] =
      true := by decide +kernel
/-! ### Kerb (chapter 14) -/

/-- A program with one on-delay timer of preset 20 ms at index 0 (Table 14.4): N_DECL 1, TYPE 2, INDEX 0, PRESET 20. -/
def timerProg : Memory := [(6, 1), (1100, 2), (1104, 20)]
/-- Kerb in RUN in SERVICE, as given. -/
def kerbIn (f : KerbState → KerbState) : State := { on .service with kerb := f { KerbState.init with run := .run } }

theorem witness_kerb_instructions :
    kWritable 3 255 = true ∧ kWritable 7 31 = true ∧ kWritable 0 0 = false ∧ kWritable 3 256 = false ∧
    kDecl timerProg [2, 3, 4] 0 = some 0 ∧ kDecl timerProg [2, 3, 4] 255 = none ∧ declN timerProg 0 12 1 = 2 ∧ declN timerProg 0 16 4 = 20 ∧
    (kerbIn (fun k => { k with stack := [true] })).kerb.stack = [true] := by decide +kernel

/-- Table 14.6: a timer of preset 20 ms is done after the second scan with its enable on. -/
theorem test_on_delay :
    (timStep 2 20 true ⟨0, false, false⟩).done = false ∧ (timStep 2 20 true (timStep 2 20 true ⟨0, false, false⟩)).done = true := by decide

theorem test_kerb_logic :
    (after (.kerbPush true 0 0) (kerbIn (fun k => { k with acc := true }))).kerb.stack = [true] ∧
    (after .andp (kerbIn (fun k => { k with acc := true, stack := [false] }))).kerb.acc = false := by decide +kernel

theorem witness_force_reset :
    pairOff [(65, 1)] (fun _ => false) 0 = true ∧ rbOff KerbState.init 0 false = true ∧ (320 : Nat) ≤ (383 : Fin 4096).val := by decide +kernel

/-- Trip path 0 on input 191, and path 1 on all of no terms. -/
def trips : Memory := [(16, 191), (18, 255), (19, 1), (20, 255), (21, 1), (22, 255), (23, 1), (24, 255), (25, 1), (26, 255), (27, 1), (28, 255), (29, 1), (30, 255), (31, 1), (32, 1)]

theorem witness_trips :
    tripCond trips (kerbIn (fun k => { k with kin := 1#192 <<< 191, trips := trips })) 0 = true ∧
    tripCond trips (kerbIn (fun k => { k with trips := trips })) 0 = false ∧ tripN trips 0 16 1 = 1 ∧
    (kerbRun (kerbIn id) = true ∧ kerbRun { kerbIn id with mode := (on .safestop).mode } = false) ∧
    (pairOf [(65, 1)] 0 ≠ 0 ∧ pairOf [(65, 2)] 0 = 2) := by decide +kernel

theorem witness_readback :
    let s := kerbIn (fun k => { k with oCom := 2 ^ 31, prog := [(832 + 124, 3)] })
    (kerbOutputs s).testBit 31 = true ∧ (kp s.kerb.prog (832 + 124) 1).testBit 0 = true ∧ false = (kp s.kerb.prog (832 + 124) 1).testBit 2 ∧
    (kp s.kerb.prog (832 + 124) 1).testBit 1 = true := by decide +kernel

theorem witness_scan :
    kerbFaultOut (kerbIn (fun k => { k with cCom := 4 })) = true ∧ kerbRecall (kerbIn (fun k => { k with cCom := 1 })) = true ∧
    kerbFaultOut (kerbIn id) = false ∧ kerbRecall (kerbIn id) = false := by decide +kernel

theorem witness_exchange :
    matchOf timerProg timerProg 0 = some 0 ∧ matchOf [] timerProg 0 = none ∧
    { ConsentState.init with kerbProgramNew := true }.kerbProgramNew = true ∧ (kerbIn id).kerb.run = .run := by decide +kernel
/-! ### Bandstand (chapter 15) -/

/-- Tables in force: zone 0 in use, cue 5 of patch 0, patch 0 in use. -/
def bsTabs : Memory := [(0x1000, 1), (0x10050, 1), (0x10051, 3), (0x20000, 1)]
/-- A request for patch 0 at a priority. -/
def request (prio : Nat) : StartReq :=
  { phrase := false, id := 0, note := 60, vel := 100, prio := prio, zones := 1, start := none, hold := 0, excl := false, cue := 0xFFFF, car := 0xFF
    repeats := 0, gap := 0, src := .cmd 1 }
/-- The device in SERVICE with these tables, the core clock at 800 MHz, and voice 255 as given. -/
def band (v : Voice) : State :=
  { on .service with
    bs := { BsState.init with tabs := bsTabs, voices := BsState.init.voices.set 255 v }
    clock := { ClockState.init with pll := ClockState.init.pll.set 1 { Pll.init 800000000 with running := true, locked := true, stair := 0 } } }
/-- A voice that plays a request. -/
def voiceOf (st : VoiceSt) (r : StartReq) : Voice := { Voice.init with st := st, req := some r, count := 7 }

theorem witness_starts :
    (lowestPrio (band Voice.init).mode.mode ≤ (request 0).prio ∧ (bsN (band Voice.init) (0x20000 + 256 * 0) 1).testBit 0 = true) ∧
    ¬(lowestPrio (on .recall).mode.mode ≤ (request 5).prio) ∧ bsN (band Voice.init) (0x10000 + 16 * 5) 1 = 1 ∧
    (bsN (band Voice.init) (0x10000 + 16 * 5 + 7) 1).testBit 1 = false ∧ bsN (band Voice.init) (0x10000 + 16 * 4095) 1 = 0 ∧
    ((voice (band (voiceOf .active (request 3))) 255).st ≠ .free ∧ (voice (band (voiceOf .active (request 3))) 255).count = (0x7FF : Nat) / 256) := by decide +kernel

theorem witness_exclusive :
    isRepeat (band (voiceOf .active { request 3 with excl := true, cue := 5 })) { request 3 with excl := true, cue := 5 } = true ∧
    isRepeat (band (voiceOf .active { request 3 with excl := true, cue := 5 })) { request 3 with excl := true, cue := 6 } = false ∧
    (255, { request 3 with excl := true, cue := 5 }) ∈ announcing (band (voiceOf .active { request 3 with excl := true, cue := 5 })) ∧
    announcing (band Voice.init) = [] := by decide +kernel

theorem witness_free_voice : freeChoice (band Voice.init) (request 3) = some 0 := by decide +kernel

/-- The same device with every core fenced but SC_2, whose voices all play at priority 1. -/
def crowded (st : VoiceSt) : State :=
  { band Voice.init with
    isl := State.reset.isl.set 5 { Island.init with st := .on }
    bs := { BsState.init with tabs := bsTabs, voices := Vector.ofFn (fun (i : Fin 256) => if i.val < 64 then voiceOf st (request 1) else Voice.init) } }

theorem witness_steal :
    (freeChoice (crowded .active) (request 3) = none ∧ stealChoice (crowded .active) (request 3) ≠ none) ∧
    (freeChoice { band Voice.init with isl := State.reset.isl } (request 7) = none ∧
      stealChoice { band Voice.init with isl := State.reset.isl } (request 7) = none) := by decide +kernel

/-- The device in SERVICE with a Bandstand queue 3 that holds an entry of Kerb's. -/
def kerbCues : State := { queueAt (queue 1 1 0 0) with bs := { BsState.init with kerbQ := 3 } }

theorem witness_cues :
    islRuns (band Voice.init) islAUDIO = true ∧ islRuns State.reset islAUDIO = false ∧
    (qDequeue 3 kerbCues).1.status = .ok ∧ (qDequeue 3 { kerbCues with arc := { kerbCues.arc with queues := [(3, queue 0 0 0 0)] } }).1.status = .empty ∧
    ((7 : Fin 256).val = 7 ∧ bsN (band Voice.init) (0x10000 + 16 * 5 + 1) 1 ≤ 6) ∧
    (MidiChan.init.cc64 < 64 ∧ 64 ≤ { MidiChan.init with cc64 := 64 }.cc64) := by decide +kernel

theorem witness_blocks_of_samples :
    (sampleAt (band Voice.init) 0 = 0 ∧ sampleAt (band Voice.init) 1000000 = 48) ∧
    ((0 : Nat) < 1 ∧ (1 - 0) * 10 ≤ bsFs (band Voice.init)) ∧ bsFs (band Voice.init) < (4801 - 0) * 10 ∧
    (bsN (band Voice.init) 0x1000 1).testBit 0 = true ∧ (bsN (band Voice.init) 0x10F0 1).testBit 0 = false ∧
    pagingRoutes (band Voice.init) 0 = [] ∧ loud [8388607] = true ∧ bits (0x4200000000000001 : Word) 63 56 = 0x42 := by decide +kernel

theorem witness_band_tables :
    zoneBad [(0x1000, 8)] 0 ≠ none ∧ zoneBad [] 15 = none ∧ midiBad [] 15 = none ∧ routeBad [] 7 = none ∧ cueBad [] 4095 = none ∧ patchBad [] 255 = none ∧
    wtBad [] 255 = none ∧ kerbQBad (band Voice.init) = false ∧ kerbQBad kerbCues = true := by decide +kernel
/-! ### Forecast (chapter 16) -/

/-- A model file of KIND 0x80: one input, one output, an INPUT layer and the HEAD; its body of 192 bytes. -/
def modelBody : List Byte :=
  leBytes 16 (0x0000000000010000F001) ++ leBytes 16 (0x000000010001_0000_F007) ++ leBytes 160 0
def modelFile : List Byte :=
  leBytes 4 0x46434D31 ++ leBytes 2 1 ++ [0x80, 0, 2, 0, 1, 1, 1, 0] ++ leBytes 2 0 ++ leBytes 8 0 ++ leBytes 4 192 ++ leBytes 4 1 ++
    leBytes 32 (shaN modelBody) ++ leBytes 4 64 ++ leBytes 4 64 ++ leBytes 4 128 ++ leBytes 4 128 ++ leBytes 16 0 ++ modelBody

theorem witness_model_file : modelBad modelFile false false = none ∧ modelBad [] false false = some 1 ∧
    modelBad (modelFile.set 96 5) false false = some 2 := by decide +kernel

/-- The device in SERVICE with that model loaded in slot 0, which is in use and adapts, and stream 4095 in it. -/
def forecasting (x : FcStream) : State :=
  { on .service with
    fc := { FcState.init with
      slots := FcState.init.slots.set 0 { FcSlot.init with recd := leBytes 64 (3 + 3 * 2 ^ 16), loaded := true }
      streams := [(4095, x)] }
    arc := { ArcadeState.init with queues := [(3, queue 1 1 0 0)] }
    mem := Memory.writeBytes (Memory.writeBytes [] (nvmBase + 0x1110) (leBytes 16 (packWord [(0, 1), (16, 16), (32, 100), (48, 100)]).toNat)) (fcModel 0) modelFile }
/-- One input of a stream. -/
def input (seq : Nat) : FcStep := { tag := seq, reset := false, seq := seq, time := 0, feat := [1, 0, 0, 0, 0, 0, 0, 0] }

theorem witness_streams :
    slotRuns (forecasting (FcStream.fresh 0 5 0)) 0 = true ∧ slotRuns (forecasting (FcStream.fresh 0 5 0)) 15 = false ∧
    fcFile (forecasting (FcStream.fresh 0 5 0)) 0 = modelFile ∧
    (qDequeue (slN (forecasting (FcStream.fresh 0 5 0)) 0 2 2) (forecasting (FcStream.fresh 0 5 0))).1.status = .ok ∧
    inChunk (forecasting (FcStream.fresh 0 5 0)) 4095 = false ∧
    inChunk { forecasting (FcStream.fresh 0 5 0) with fc := { FcState.init with running := [⟨0, none, [(4095, [], [])]⟩] } } 4095 = true := by decide +kernel

theorem witness_create :
    fcStream (forecasting (FcStream.fresh 0 5 0)) 0 = none ∧ (fcSlot (forecasting (FcStream.fresh 0 5 0)) 0).loaded = true ∧
    sourceOk (mdKind modelFile) 5 = true ∧ sourceOk 3 16 = false ∧
    poolPlace (forecasting (FcStream.fresh 0 5 0)) (ceilDiv (poolBytes modelFile) 64) = some 1 := by decide +kernel

theorem witness_head_updates :
    (limitN (forecasting (FcStream.fresh 0 5 0)) 0x80 0 1).testBit 0 = true ∧ (slN (forecasting (FcStream.fresh 0 5 0)) 0 0 1).testBit 1 = true ∧
    vget ({ FcStream.fresh 0 5 0 with ring := (FcStream.fresh 0 5 0).ring.set 3 (some 9) }).ring 3 none = some 9 := by decide +kernel

theorem witness_chunks :
    chunkDue (forecasting { FcStream.fresh 0 5 0 with pending := [input 1] }) 0 = true ∧
    (eccIn (forecasting (FcStream.fresh 0 5 0)) (fcModel 0) 131072 = false ∧
      eccIn { forecasting (FcStream.fresh 0 5 0) with ecc := [fcModel 0] } (fcModel 0) 131072 = true) ∧
    ((curveFine [] (1024 * 63 - 32768 + 1023)) = 0) ∧ bits (0x4600000000000101 : Word) 63 56 = 0x46 ∧ bits (0x4600000000000101 : Word) 1 0 = 1 := by decide +kernel

theorem witness_slots :
    slotBad (forecasting (FcStream.fresh 0 5 0)) [(0x1000, 1)] 0 ≠ none ∧ (∀ k, k < 16 → slotBad (forecasting (FcStream.fresh 0 5 0)) [] k = none) ∧
    (match ({ FcState.init with ckptA := some (5, []) }).ckptA with | some y => y.1 | none => 0) = 5 ∧ bit (2 ^ 63 : Word) 63 = true := by decide +kernel

/-! ### PWM outputs (chapter 17) -/

/-- A running channel from a register, with code 0x8001 held. -/
def chan0 : PwmChan :=
  { PwmChan.init with recd := { PwmRec.unused with inUse := true, slew := 256 }, held := 0x8001, applied := 0x8000, target := 0x8001, wasSafe := false, fresh := false }
/-- The device in a mode with PWM channel 31 as given. -/
def pwmOn (m : Mode) (x : PwmChan) : State := { on m with pwm := { PwmState.init with chans := PwmState.init.chans.set 31 x } }

theorem witness_load_points :
    pwmHeldLow (on .dormant) = true ∧ pwmHeldLow (pwmOn .service chan0) = false ∧ pwmSafe (pwmOn .safestop chan0) chan0 = true ∧
    (pwmSafe (pwmOn .update chan0) chan0 = false ∧ pwmSafe (pwmOn .service chan0) chan0 = false) ∧
    (pwmEnters (pwmOn .service chan0) = true ∧ pwmEnters (pwmOn .update chan0) = false) ∧
    ((0x8001 : Nat) / 4096 = chan0.held / 4096 ∧ (0x9000 : Nat) / 4096 ≠ chan0.held / 4096) := by decide +kernel

/-- Table 17.1: a code of 0x8001 gives a high time of 256 counts of 512 and leaves 1 in the dither accumulator. -/
theorem test_pwm_load_point :
    let y := chan (after (.loadPoint 31) (pwmOn .service chan0)) 31
    y.applied = 0x8001 ∧ y.high = 256 ∧ y.dither = 1 := by decide +kernel

theorem witness_pwm_commands :
    (pwmTbBad (vget PwmState.init.tbReg 3 0) = true ∨ pwmTbBad (vget PwmState.init.tbReg 3 0) = false) ∧ pwmTbBad 999 = true ∧ pwmTbBad 1000 = false ∧
    pwmTbBad 48000001 = true ∧ pwmTbBad (packWord [(60, 9)]) = true ∧ pwmRecFail (on .service) (List.replicate 32 0) = none ∧
    pwmRecFail (on .service) (4 :: List.replicate 31 0) ≠ none ∧ pwmCausePresent (on .service) { chan0 with fault := some 3 } = true ∧
    pwmCausePresent (on .service) { chan0 with fault := some 1 } = false ∧
    (qDequeue 3 (queueAt (queue 1 1 0 0))).1.status = .ok ∧ (qDequeue 3 (queueAt (queue 0 0 0 0))).1.status = .empty := by decide +kernel

/-! ### Boulevard (chapter 18) -/

theorem witness_boulevard :
    (linkUp (ringOf 1) = true ∧ linkUp State.reset = false) ∧ (isCentre (ringOf 1) = true ∧ isCentre (on .service) = false) ∧
    (addressed (ringOf 1) { typ := 6, flags := 0, src := 9, dst := 1, port := 63, seq := 1, payload := [], ackCnt := 0, ackStatus := .ok, nackNode := 0, hops := 0 } = true) ∧
    roleOf (ringOf 1) true = some (9, 1) ∧ holdsRole (ringOf 9) true 9 = true ∧ holdsRole (ringOf 1) true 1 = false ∧ portOk (ringOf 1) 63 = true ∧
    txOk (ringOf 1) 0 = true ∧ (tget (ringOf 1).link.rxSeq 78 = none) ∧ (0x8000 : Nat) ≤ (0x8005 + 65536 - 5) % 65536 := by decide +kernel

theorem witness_turn :
    myTurn { ringOf 1 with link := { BlvLink.init with cycle := ringRank (ringOf 1) } } = true ∧ myTurn (on .service) = false ∧
    inFlight (ringOf 1) .bulk = none := by decide +kernel

/-- Table 18.4: a marker of the present lineage 500 ns ahead steps nothing but centre time. -/
theorem test_marker_lineage :
    let t := after (.markerReceive .a ⟨5, 500000, 0, 2, 1, 0, 0⟩ 0) { ringOf 1 with blv := { (ringOf 1).blv with centre := 9 } }
    t.time.centreValid = false ∧ t.time.lineage = 2 ∧ t.link.cycle = 5 := by decide +kernel

/-! ### The fabric, supplies and balls (chapters 19 and 20) -/

theorem witness_fabric :
    issues (.island 15) (on .service) = true ∧ issues (.island 15) State.reset = false ∧ placeServed (on .service) (placeOf 0x417FFFF8) = true ∧
    placeOf 0x417FFFFF = .sram 0x17FFFFF ∧ placeOf 0x41800000 = .unmapped ∧ placeOwner (placeOf 0x60020000) = some 2 ∧
    lockedAt (on .service) stagingBase = false ∧ lockedAt (scopeAt 0 { proposed .hashing 0 with length := 8 }) stagingBase = true ∧
    placeMem (placeOf 0x40000000) = true ∧ blockReg 13 0xFFFF8 (on .service) = none ∧ tableOfs 6 0x1000 = true ∧ tableOfs 0 0xFFFF8 = false := by decide +kernel

theorem witness_supplies :
    railIsland .vioMtr = some 2 ∧ railIsland .vddaPll = none ∧ (railIsland .vioMot = some 12 ∧ railIsland .vddaMot = some 12) ∧
    (tapActive (on .service) = false ∧ tapActive { on .bringup with pkg := { PkgState.init with tap := .extest, scanDrives := true } } = true) ∧
    ({ PkgState.init with railHold := true }.railHold = true) ∧ ({ PkgState.init with blvRstN := true }.blvRstN = true) := by decide +kernel
end Sys2Proof.Tests
end

section
/-! PROOFS. The accumulator operations of a Signal Core's compute slot (R165, Table 7.6): what each writes, as exact parts, and what
the bundle that carries it leaves. -/
namespace Sys2Proof.Machine
open Sys2Proof

/-! ### Products added to an accumulator -/

theorem accPlus_one (x : Acc) (p : Int × Int) : accPlus x 1 p = accOf (x.re.toInt + p.1) (x.im.toInt + p.2) := by
  simp only [accPlus, Int.one_mul]

theorem accPlus_neg_one (x : Acc) (p : Int × Int) : accPlus x (-1) p = accOf (x.re.toInt - p.1) (x.im.toInt - p.2) := by
  simp only [accPlus, Int.neg_mul, Int.one_mul, Int.sub_eq_add_neg]

theorem accPlus_zero_one (p : Int × Int) : accPlus Acc.zero 1 p = accOf p.1 p.2 := by
  simp only [accPlus_one, Acc.zero, BitVec.ofNat_eq_ofNat, BitVec.toInt_zero, Int.zero_add]

theorem accOf_zero : accOf 0 0 = (Acc.zero, 0) := rfl

/-! ### What each operation writes, by its row of Table 7.6 -/

section
variable (k : CoreState) (an am : Fin 4) (da db md : Nat)

theorem computeFx_cmac : computeFx k 0x01 an da db md = some (fxAcc an (accOf
    ((rdAccW k an).re.toInt + 2 * (reOf (rdD k da) * reOf (rdD k db) - imOf (rdD k da) * imOf (rdD k db)))
    ((rdAccW k an).im.toInt + 2 * (reOf (rdD k da) * imOf (rdD k db) + imOf (rdD k da) * reOf (rdD k db))))) := by
  simp only [computeFx, accPlus_one, cProd, Nat.mod_eq_of_lt an.isLt]

theorem computeFx_cmsu : computeFx k 0x02 an da db md = some (fxAcc an (accOf
    ((rdAccW k an).re.toInt - 2 * (reOf (rdD k da) * reOf (rdD k db) - imOf (rdD k da) * imOf (rdD k db)))
    ((rdAccW k an).im.toInt - 2 * (reOf (rdD k da) * imOf (rdD k db) + imOf (rdD k da) * reOf (rdD k db))))) := by
  simp only [computeFx, accPlus_neg_one, cProd, Nat.mod_eq_of_lt an.isLt]

theorem computeFx_cmacj : computeFx k 0x03 an da db md = some (fxAcc an (accOf
    ((rdAccW k an).re.toInt + 2 * (reOf (rdD k da) * reOf (rdD k db) + imOf (rdD k da) * imOf (rdD k db)))
    ((rdAccW k an).im.toInt + 2 * (imOf (rdD k da) * reOf (rdD k db) - reOf (rdD k da) * imOf (rdD k db))))) := by
  simp only [computeFx, accPlus_one, cProdJ, Nat.mod_eq_of_lt an.isLt]

theorem computeFx_cmul : computeFx k 0x04 an da db md = some (fxAcc an (accOf
    (2 * (reOf (rdD k da) * reOf (rdD k db) - imOf (rdD k da) * imOf (rdD k db)))
    (2 * (reOf (rdD k da) * imOf (rdD k db) + imOf (rdD k da) * reOf (rdD k db))))) := by
  simp only [computeFx, accPlus_zero_one, cProd, Nat.mod_eq_of_lt an.isLt]

/-- FTAP computes as CMAC (R171). -/
theorem computeFx_ftap : computeFx k 0x05 an da db md = computeFx k 0x01 an da db md := rfl

theorem computeFx_rmac2 : computeFx k 0x06 an da db md = some (fxAcc an (accOf
    ((rdAccW k an).re.toInt + 2 * (reOf (rdD k da) * reOf (rdD k db)))
    ((rdAccW k an).im.toInt + 2 * (imOf (rdD k da) * imOf (rdD k db))))) := by
  simp only [computeFx, accPlus_one, rProd, Nat.mod_eq_of_lt an.isLt]

theorem computeFx_rmsu2 : computeFx k 0x07 an da db md = some (fxAcc an (accOf
    ((rdAccW k an).re.toInt - 2 * (reOf (rdD k da) * reOf (rdD k db)))
    ((rdAccW k an).im.toInt - 2 * (imOf (rdD k da) * imOf (rdD k db))))) := by
  simp only [computeFx, accPlus_neg_one, rProd, Nat.mod_eq_of_lt an.isLt]

theorem computeFx_rmul2 : computeFx k 0x08 an da db md = some (fxAcc an (accOf
    (2 * (reOf (rdD k da) * reOf (rdD k db))) (2 * (imOf (rdD k da) * imOf (rdD k db))))) := by
  simp only [computeFx, accPlus_zero_one, rProd, Nat.mod_eq_of_lt an.isLt]

/-- FTAPR computes as RMAC2 (R171). -/
theorem computeFx_ftapr : computeFx k 0x09 an da db md = computeFx k 0x06 an da db md := rfl

theorem computeFx_clra : computeFx k 0x0A an da db md = some (fxAcc an (accOf 0 0)) := by
  simp only [computeFx, accOf_zero, Nat.mod_eq_of_lt an.isLt]

theorem computeFx_mova : computeFx k 0x0B an da db md =
    some (fxAcc an (accOf (reOf (rdD k da) * 2 ^ 32) (imOf (rdD k da) * 2 ^ 32))) := by
  simp only [computeFx, Nat.mod_eq_of_lt an.isLt]

theorem computeFx_adda : computeFx k 0x0C an am db md = some (fxAcc an (accOf
    ((rdAccW k an).re.toInt + (rdAccW k am).re.toInt) ((rdAccW k an).im.toInt + (rdAccW k am).im.toInt))) := by
  simp only [computeFx, Nat.mod_eq_of_lt an.isLt, Nat.mod_eq_of_lt am.isLt]

theorem computeFx_suba : computeFx k 0x0D an am db md = some (fxAcc an (accOf
    ((rdAccW k an).re.toInt - (rdAccW k am).re.toInt) ((rdAccW k an).im.toInt - (rdAccW k am).im.toInt))) := by
  simp only [computeFx, Nat.mod_eq_of_lt an.isLt, Nat.mod_eq_of_lt am.isLt]

theorem computeFx_shra : computeFx k 0x0E an da db md = some (fxAcc an
    (⟨(rdAccW k an).re.sshiftRight (shiftCount k db md), (rdAccW k an).im.sshiftRight (shiftCount k db md)⟩, 0)) := by
  simp only [computeFx, Nat.mod_eq_of_lt an.isLt]

theorem computeFx_shla : computeFx k 0x0F an da db md = some (fxAcc an
    (⟨(rdAccW k an).re <<< shiftCount k db md, (rdAccW k an).im <<< shiftCount k db md⟩, 0)) := by
  simp only [computeFx, Nat.mod_eq_of_lt an.isLt]

end

/-! ### The bundle -/

/-- A compute slot that writes an accumulator from exact parts leaves each part wrapped to 80 bits, and AOV set where one lies
outside them. -/
theorem givesAcc_of_accOf {s : State} {c : Fin 8} {op sa sb md : Nat} {mv : Moves} {an : Fin 4} {re im : Int}
    (h : CoreReady s c.val) (hl : LocalMoves s c.val op mv)
    (hf : computeFx (core s c.val) op an sa sb md = some (fxAcc an (accOf re im))) :
    GivesAcc s c.val op mv an.val (BitVec.ofInt 80 re) (BitVec.ofInt 80 im) (outside80 re || outside80 im)
      (coreBundle c.val (.slots op an sa sb md mv) s) :=
  give_A an.val ⟨BitVec.ofInt 80 re, BitVec.ofInt 80 im⟩ _ _ c.isLt h hl (hf.trans (by rw [acc_of])) an.isLt rfl

/-- A shift of an accumulator leaves the shifted parts, and AOV as it was. -/
theorem givesAcc_of_shift {s : State} {c : Fin 8} {op sa sb md : Nat} {mv : Moves} {an : Fin 4} {v : Acc}
    (h : CoreReady s c.val) (hl : LocalMoves s c.val op mv)
    (hf : computeFx (core s c.val) op an sa sb md = some (fxAcc an (v, 0))) :
    GivesAcc s c.val op mv an.val v.re v.im false (coreBundle c.val (.slots op an sa sb md mv) s) :=
  give_A an.val v 0 false c.isLt h hl hf an.isLt rfl

/-! ### The obligation -/

/-- Settles O22: each operation's row of Table 7.6 gives the exact parts, which the bundle wraps into the accumulator. Only FTAP and
FTAPR add an access to the bundle's moves. -/
theorem accumulatorOperations : Obligations.AccumulatorOperations := by
  unfold Obligations.AccumulatorOperations
  rintro s c mv _ hready hmoves rfl an am da db sb md _ _ _ _ _ _ rfl rfl rfl rfl rfl rfl
  have hlocal : ∀ op, isFtap op = false → LocalMoves s c.val op mv := fun _ => local_op hmoves
  have hcount := shift_n (core s c.val) sb.val md _ rfl
  refine ⟨?cmac, ?cmsu, ?cmacj, ?cmul, ?ftap, ?rmac2, ?rmsu2, ?rmul2, ?ftapr, ?clra, ?mova, ?adda, ?suba, ?shra, ?shla⟩
  case cmac => exact ⟨_, rfl, givesAcc_of_accOf hready (hlocal _ rfl) (computeFx_cmac ..)⟩
  case cmsu => exact ⟨_, rfl, givesAcc_of_accOf hready (hlocal _ rfl) (computeFx_cmsu ..)⟩
  case cmacj => exact ⟨_, rfl, givesAcc_of_accOf hready (hlocal _ rfl) (computeFx_cmacj ..)⟩
  case cmul => exact ⟨_, rfl, givesAcc_of_accOf hready (hlocal _ rfl) (computeFx_cmul ..)⟩
  case ftap =>
    exact fun hftap => ⟨_, rfl, givesAcc_of_accOf hready hftap ((computeFx_ftap ..).trans (computeFx_cmac ..))⟩
  case rmac2 => exact ⟨_, rfl, givesAcc_of_accOf hready (hlocal _ rfl) (computeFx_rmac2 ..)⟩
  case rmsu2 => exact ⟨_, rfl, givesAcc_of_accOf hready (hlocal _ rfl) (computeFx_rmsu2 ..)⟩
  case rmul2 => exact ⟨_, rfl, givesAcc_of_accOf hready (hlocal _ rfl) (computeFx_rmul2 ..)⟩
  case ftapr =>
    exact fun hftap => ⟨_, rfl, givesAcc_of_accOf hready hftap ((computeFx_ftapr ..).trans (computeFx_rmac2 ..))⟩
  case clra => exact ⟨_, rfl, givesAcc_of_accOf hready (hlocal _ rfl) (computeFx_clra ..)⟩
  case mova => exact ⟨_, rfl, givesAcc_of_accOf hready (hlocal _ rfl) (computeFx_mova ..)⟩
  case adda => exact ⟨_, rfl, givesAcc_of_accOf hready (hlocal _ rfl) (computeFx_adda ..)⟩
  case suba => exact ⟨_, rfl, givesAcc_of_accOf hready (hlocal _ rfl) (computeFx_suba ..)⟩
  case shra =>
    rw [← hcount]
    exact ⟨_, rfl, givesAcc_of_shift hready (hlocal _ rfl) (computeFx_shra ..)⟩
  case shla =>
    rw [← hcount]
    exact ⟨_, rfl, givesAcc_of_shift hready (hlocal _ rfl) (computeFx_shla ..)⟩

end Sys2Proof.Machine
end

section
/-! PROOFS. The events of a Signal Core's boundary (R175, R187 to R189, R194, R195, R197, R201): which event each guard lets happen,
and what the event leaves of the core, of its stack and of Plaza SRAM. -/
namespace Sys2Proof.Machine
open Sys2Proof

/-! ### What a boundary asks of a core -/

theorem coreIssues_iff {s : State} {n : Nat} : coreIssues s n = true ↔
    (core s n).run = .running ∧ islRuns s (islSC n) = true ∧ (core s n).stall = none := by
  simp only [coreIssues, Bool.and_eq_true, beq_iff_eq, Option.isNone_iff_eq_none, and_assoc]

theorem fastAllowed_iff {k : CoreState} : fastAllowed k = true ↔ k.bank = false ∧ k.br.slots = 0 := by
  simp only [fastAllowed, Bool.and_eq_true, Bool.not_eq_true', beq_iff_eq]

/-- R194: besides the bank and the delay slots, only the innermost repeat level can keep a HELD channel out. -/
theorem heldAllowed_iff {k : CoreState} : heldAllowed k = true ↔
    k.br.slots = 0 ∧ k.bank = false ∧ ∀ r l, k.cur.rep = r :: l → r.yield = true ∧ r.start = k.pc := by
  unfold heldAllowed
  cases k.cur.rep with
  | nil => simp
  | cons r l => simp [and_assoc]

theorem bkptHit_of_match {k : CoreState} {i : Nat} (hi : i < 2) (hskip : k.skipBkpt = false)
    (hon : bit (vget k.bkpt i 0) 63 = true) (hpc : bits (vget k.bkpt i 0) 13 0 = k.pc) : bkptHit k = true := by
  have hget : vget k.bkpt i 0 = k.bkpt[i] := dif_pos hi
  rw [hget] at hon hpc
  simp only [bkptHit, hskip, Bool.not_false, Bool.true_and, List.any_eq_true, Vector.mem_toList_iff]
  exact ⟨k.bkpt[i], Vector.getElem_mem hi, by simp only [hon, hpc, beq_self_eq_true, Bool.and_self]⟩

/-- Two changes that agree on what a core holds leave the same state. -/
theorem modCore_congr {n : Nat} {f g : CoreState → CoreState} {s : State} (hn : n < 8) (h : f (core s n) = g (core s n)) :
    modCore n f s = modCore n g s := by
  rw [mc n f s hn, mc n g s hn, h]

/-! ### Entries -/

theorem fastAtBoundary_of_chosen {s : State} {n ch : Nat} (hissue : coreIssues s n = true) (hab : (core s n).aborts = [])
    (hfast : fastAllowed (core s n) = true) (hch : Chosen (core s n) true ch) : fastAtBoundary n s = enterFast n ch s := by
  simp only [fastAtBoundary, hissue, hab, hfast, best_chosen hch, List.isEmpty_nil, Bool.not_true, Bool.or_self,
    Bool.false_eq_true, if_false]

theorem heldAtBoundary_of_chosen {s : State} {n ch : Nat} (hissue : coreIssues s n = true) (hab : (core s n).aborts = [])
    (hheld : heldAllowed (core s n) = true) (hnofast : bestChan (core s n) true = none) (hch : Chosen (core s n) false ch) :
    heldAtBoundary n s = enterHeld n ch s := by
  simp only [heldAtBoundary, hissue, hab, hheld, hnofast, best_chosen hch, List.isEmpty_nil, Option.isSome_none, Bool.and_false,
    Bool.not_true, Bool.or_self, Bool.false_eq_true, if_false]

theorem fastAtBoundary_of_barred {s : State} {n : Nat} (h : fastAllowed (core s n) = false) : fastAtBoundary n s = s := by
  simp only [fastAtBoundary, h, Bool.not_false, Bool.or_true, if_true]

theorem heldAtBoundary_of_barred {s : State} {n : Nat} (h : heldAllowed (core s n) = false) : heldAtBoundary n s = s := by
  simp only [heldAtBoundary, h, Bool.not_false, Bool.or_true, Bool.true_or, if_true]

/-- R184, R188: from the main bank every main writer settles, and what is in flight is held for RETS. -/
theorem shadowEntry_of_main {k : CoreState} (hbank : k.bank = false) (spc fcause vec cyc : Nat) :
    shadowEntry spc fcause vec cyc k = { k with
      aw := k.a, main := { k.main with a3w := k.main.a3 }, shadow := { k.shadow with rep := [], a3w := k.shadow.a3 }
      heldPend := k.pend, heldBr := k.br, pend := [], br := Branch.none, bank := true, spc := spc, fcause := fcause
      shadowVec := vec, pc := (k.vbase + 4 * vec) % 2 ^ 14, skipBkpt := false, cycles := (k.cycles + cyc) % 2 ^ 64 } := by
  simp only [shadowEntry, accSettle, CoreState.modCur, addCycles, hbank, Bool.false_eq_true, if_false]

/-- The core after a HELD entry whose push succeeds (R189). -/
def heldCoreAfter (k : CoreState) (ch : Nat) : CoreState :=
  { entryCore k (16 + ch) with
    iprio := chanPrio k ch, ipend := (entryCore k (16 + ch)).ipend &&& ~~~(BitVec.ofNat 64 (2 ^ ch)), holdCnt := 0, holdDone := false }

theorem enterHeld_of_pushOk {s : State} {n ch : Nat} (hn : n < 8) (hp : (core s n).pend = []) (hb : (core s n).br = Branch.none)
    (hr : (core s n).cur.rep = []) (hpush : PushOk (core s n)) :
    enterHeld n ch s = setC n (heldCoreAfter (core s n) ch)
      (writeFrame n ((core s n).sp - 96) (plainFrame (core s n) (core s n).pc (16 + ch) 0) s) := by
  unfold enterHeld
  rw [stack_ok hn (16 + ch) (core s n).pc 0 rfl hp hb hr hpush]
  simp only [if_true, mc_setC _ _ _ _ hn, heldCoreAfter]

theorem enterHeld_frameEntry {s : State} {n ch : Nat} (hn : n < 8) (hw : s.mem.wf = true) (hp : (core s n).pend = [])
    (hb : (core s n).br = Branch.none) (hr : (core s n).cur.rep = []) (hpush : PushOk (core s n)) :
    FrameEntry s (enterHeld n ch s) n (16 + ch) (core s n).pc 8 0 := by
  obtain ⟨hsp, hpc, hbank, hcycles, hcur, hd, hptr, ha, hother, -, -, -⟩ := entry_facts (core s n) (16 + ch)
  have hcur' : (entryCore (core s n) (16 + ch)).cur = { (core s n).cur with
      a3w := (entryCore (core s n) (16 + ch)).cur.a3w, rep := (entryCore (core s n) (16 + ch)).cur.rep } := by rw [hcur]
  rw [enterHeld_of_pushOk hn hp hb hr hpush]
  exact frame_entry hn hw rfl (core s n) rfl rfl hsp hpc hbank hcycles hcur' hd hptr ha hother

theorem core_enterHeld {s : State} {n ch : Nat} (hn : n < 8) (hp : (core s n).pend = []) (hb : (core s n).br = Branch.none)
    (hr : (core s n).cur.rep = []) (hpush : PushOk (core s n)) :
    (core (enterHeld n ch s) n).iprio = chanPrio (core s n) ch ∧
      (core (enterHeld n ch s) n).ipend = (core s n).ipend &&& ~~~(BitVec.ofNat 64 (2 ^ ch)) := by
  obtain ⟨-, -, -, -, -, -, -, -, -, -, -, hipend⟩ := entry_facts (core s n) (16 + ch)
  rw [enterHeld_of_pushOk hn hp hb hr hpush, core_setC n _ _ hn]
  exact ⟨rfl, by simp only [heldCoreAfter, hipend]⟩

/-! ### Hold-off, WAIT, breakpoints and aborts -/

theorem satInc_16 (x : Nat) : satInc 16 x = min 65535 (x + 1) := by
  unfold satInc
  split <;> omega

theorem holdLimitReached_of_barred {k : CoreState} {ch : Nat} (hch : Chosen k false ch) (hheld : heldAllowed k = false)
    (hlim : bits k.holdLimit 23 0 ≠ 0) (hdone : k.holdDone = false) :
    holdLimitReached k = holdReport ch { k with
      holdCnt := max k.holdCnt (bits k.holdLimit 23 0), maxWait := max k.maxWait (bits k.holdLimit 23 0) } := by
  simp only [holdLimitReached, best_chosen hch, hheld, hlim, hdone, Bool.false_eq_true, decide_false, Bool.or_self, if_false]

/-- R197: with IE clear, WAIT ends without an entry. -/
theorem waitWake_of_masked {s : State} {n : Nat} (hn : n < 8) (hrun : (core s n).run = .waiting)
    (hisl : islRuns s (islSC n) = true) (hpend : (core s n).ipend &&& (core s n).imask ≠ 0) (hie : (core s n).ie = 0) :
    waitWake n s = modCore n (fun k => { k with run := .running }) s := by
  have hnone : takeIrq n (modCore n (fun k => { k with run := .running }) s) = none := by
    apply irq_none
    rw [core_modCore, if_pos ⟨rfl, hn⟩]
    exact hie
  unfold waitWake
  simp only [hnone, Option.getD_none]
  exact if_neg (by simpa [hrun, hisl] using hpend)

theorem debugHalt_of_running {k : CoreState} (hrun : k.run = .running) (hstall : k.stall = none) :
    debugHalt k = { k with run := .debugHalted, dbgWait := false, halting := false } := by
  unfold debugHalt
  rw [hstall, hrun]
  rfl

theorem bkptAtBoundary_of_hit {s : State} {n : Nat} (hissue : coreIssues s n = true) (hhit : bkptHit (core s n) = true) :
    bkptAtBoundary n s = modCore n debugHalt s := by
  simp only [bkptAtBoundary, hissue, hhit, Bool.and_self, if_true]

theorem portAbort_of_posted {k : CoreState} {a z : Nat} {w : Word} {l : List (Nat × Nat × Word)} (h : k.posted = (a, z, w) :: l) :
    portAbort k = { k with posted := l, aborts := k.aborts ++ [a] } := by
  unfold portAbort
  rw [h]

/-! ### A posted store to Plaza SRAM -/

theorem placeOf_sram {a : Nat} (hlo : sramBase ≤ a) (hhi : a < sramBase + sramSize) : placeOf a = .sram (a - sramBase) := by
  simp only [placeOf, hlo, hhi, decide_true, Bool.and_self, if_true]

/-- Tables 19.4 and 19.5: below the model memory no SRAM region is Scoped. -/
theorem writeClass_sram_open (i : Initiator) {o : Nat} (ho : o < 0x520000) : writeClass (.sram o) i = .serve := by
  have hnone : scopedWriters (.sram o) = none := by
    unfold scopedWriters
    simp only [show ¬ 0x520000 ≤ o by omega, show ¬ 0x1000000 ≤ o by omega, show ¬ 0x1600000 ≤ o by omega, decide_false,
      Bool.false_and, Bool.or_self, Bool.false_eq_true, if_false]
  simp only [writeClass, hnone]

/-- A whole word written to an open and unlocked word of SRAM replaces it and its check bits, whoever writes (R475, R485). -/
theorem fabWrite_sram_open (i : Initiator) {a : Nat} (w : Word) {s : State} (hal : a % 8 = 0) (hlo : sramBase ≤ a)
    (hhi : a < sramBase + 0x520000) (hfree : lockedAt s a = false) : fabWrite i a 255 w s = memWrite a 255 w s := by
  have hsize : a < sramBase + sramSize := Nat.lt_trans hhi (Nat.add_lt_add_left (by decide) sramBase)
  have hword : a / 8 * 8 = a := by omega
  simp only [fabWrite, hword, placeOf_sram hlo hsize, placeServed, placeOwner, writeClass_sram_open i (show a - sramBase < 0x520000 by omega),
    servedWrite, hfree, Bool.not_true, Bool.false_eq_true, if_false]

theorem memWrite_word (a : Nat) (w : Word) (s : State) : memWrite a 255 w s =
    (.ok, { s with mem := s.mem.writeW a w, ecc := s.ecc.filter (fun x => x ≠ a) }) := rfl

/-- R175: a lone posted store that its region answers OK leaves the port empty. -/
theorem drainPosted_of_single {n a : Nat} {w : Word} {s z : State} (hn : n < 8) (hpost : (core s n).posted = [(a, 8, w)])
    (hans : fabWrite (coreIni n) a 255 w s = (.ok, z)) : drainPosted n s = modCore n (fun k => { k with posted := [] }) z := by
  have hempty : (core (modCore n (fun k => { k with posted := [] }) z) n).posted = [] := by
    rw [core_modCore, if_pos ⟨rfl, hn⟩]
  simp only [drainPosted, show List.range 4 = [0, 1, 2, 3] from rfl, List.foldl_cons, List.foldl_nil, hpost, hans, hempty,
    Bool.not_true, Bool.false_eq_true, if_true, if_false]

/-- The state after the lone posted store of core `n` has been written to its word. -/
def storeDone (n a : Nat) (w : Word) (s : State) : State := modCore n (fun k => { k with posted := [] }) (memWrite a 255 w s).2

theorem core_storeDone {n : Nat} (hn : n < 8) (a : Nat) (w : Word) (s : State) (m : Nat) :
    core (storeDone n a w s) m = if m = n then { core s n with posted := [] } else core s m := by
  unfold storeDone
  rw [core_modCore]
  by_cases hm : m = n
  · rw [hm, if_pos ⟨rfl, hn⟩, if_pos rfl]
    rfl
  · rw [if_neg (fun h => hm h.1.symm), if_neg hm]
    rfl

theorem resumeStall_of_single {n a : Nat} {w : Word} {s : State} (hn : n < 8) (hstall : (core s n).stall = none)
    (hpost : (core s n).posted = [(a, 8, w)]) (hal : a % 8 = 0) (hlo : sramBase ≤ a) (hhi : a < sramBase + 0x520000)
    (hfree : lockedAt s a = false) : resumeStall n s = storeDone n a w s := by
  have hans : fabWrite (coreIni n) a 255 w s = (.ok, (memWrite a 255 w s).2) :=
    (fabWrite_sram_open (coreIni n) w hal hlo hhi hfree).trans (memWrite_word a w s)
  unfold resumeStall
  rw [hstall]
  exact drainPosted_of_single hn hpost hans

theorem settleSteps_storeDone {n : Nat} (hn : n < 8) (a : Nat) (w : Word) {s : State}
    (hstep : ∀ m, m < 8 → (core s m).stepReq = false) : settleSteps (storeDone n a w s) = storeDone n a w s := by
  apply settle_none
  intro m hm
  rw [core_storeDone hn]
  split
  · exact hstep n hn
  · exact hstep m hm

theorem storeDone_everythingBut (n a : Nat) (w : Word) (s : State) :
    EverythingBut [.cores, .coresRest, .mem, .ecc] s (storeDone n a w s) :=
  ((memWrite_only a 255 w s).everythingBut _).trans ((modCore_only n _ _).everythingBut _)

theorem storeDone_readW (n a : Nat) (w : Word) {s : State} (hw : s.mem.wf = true) : (storeDone n a w s).mem.readW a = w :=
  Memory.readW_writeW a w hw

theorem storeDone_sameOutside (n a : Nat) (w : Word) {s : State} (hw : s.mem.wf = true) :
    SameOutside a 8 s (storeDone n a w s) :=
  fun x hx => Memory.read_writeN_outside x 8 a w.toNat hw hx

/-! ### The obligation -/

/-- Settles O27: each event's guard holds by its premises, and the event then leaves what its lemma above says. -/
theorem boundaryEvents : Obligations.BoundaryEvents := by
  unfold Obligations.BoundaryEvents
  rintro s c _ rfl
  refine ⟨?fast, ?held, ?barred, ?overrun, ?wake, ?breakpoint, ?abort, ?store⟩
  case fast =>
    intro ch hissue hab hbank hslots hch
    have htaken := fastAtBoundary_of_chosen hissue hab (fastAllowed_iff.mpr ⟨hbank, hslots⟩) hch
    exact congrArg Host.Outcome.next (htaken.trans (modCore_congr c.isLt (shadowEntry_of_main (by exact hbank) ..)))
  case held =>
    intro ch hissue hab hbank hbr hrep hpend hw hpush hslow hch
    have hheld : heldAllowed (core s c.val) = true :=
      heldAllowed_iff.mpr ⟨by rw [hbr]; rfl, hbank, fun r l h => absurd (hrep.symm.trans h) (List.cons_ne_nil r l).symm⟩
    have hnofast : bestChan (core s c.val) true = none :=
      best_absent fun d hd ⟨htake, hfast⟩ => Bool.noConfusion ((hslow d hd htake).symm.trans hfast)
    exact ⟨_, congrArg Host.Outcome.next (heldAtBoundary_of_chosen hissue hab hheld hnofast hch),
      enterHeld_frameEntry c.isLt hw hpend hbr hrep hpush, core_enterHeld c.isLt hpend hbr hrep hpush⟩
  case barred =>
    intro hbar
    have hfast : fastAllowed (core s c.val) = false := by
      rw [Bool.eq_false_iff, Ne, fastAllowed_iff]
      rintro ⟨hbank, hslots⟩
      exact hbar.elim (fun h => Bool.noConfusion (hbank.symm.trans h)) (· hslots)
    have hheld : heldAllowed (core s c.val) = false := by
      rw [Bool.eq_false_iff, Ne, heldAllowed_iff]
      rintro ⟨hslots, hbank, -⟩
      exact hbar.elim (fun h => Bool.noConfusion (hbank.symm.trans h)) (· hslots)
    exact ⟨congrArg Host.Outcome.next (heldAtBoundary_of_barred hheld),
      congrArg Host.Outcome.next (fastAtBoundary_of_barred hfast)⟩
  case overrun =>
    rintro ch _ hch rfl hlim hdone hbar
    have hheld : heldAllowed (core s c.val) = false := by
      rw [Bool.eq_false_iff, Ne, heldAllowed_iff]
      rintro ⟨hslots, hbank, hrep⟩
      rcases hbar with hs | hb | ⟨r, l, hr, hy | hs⟩
      · exact hs hslots
      · exact Bool.noConfusion (hbank.symm.trans hb)
      · exact Bool.noConfusion (hy.symm.trans (hrep r l hr).1)
      · exact hs (hrep r l hr).2
    refine congrArg Host.Outcome.next (modCore_congr c.isLt ?_)
    rw [holdLimitReached_of_barred hch hheld hlim hdone, holdReport, satInc_16]
  case wake =>
    intro hrun hisl hpend hie
    exact congrArg Host.Outcome.next (waitWake_of_masked c.isLt hrun hisl hpend hie)
  case breakpoint =>
    intro i hi hissue hskip hon hpc
    obtain ⟨hrun, -, hstall⟩ := coreIssues_iff.mp hissue
    have hhalt := bkptAtBoundary_of_hit hissue (bkptHit_of_match hi hskip hon hpc)
    exact congrArg Host.Outcome.next (hhalt.trans (modCore_congr c.isLt (debugHalt_of_running hrun hstall)))
  case abort =>
    intro a z w l hpost
    refine congrArg Host.Outcome.next (modCore_congr c.isLt ?_)
    rw [portAbort_of_posted hpost, hpost]
    rfl
  case store =>
    intro a w hstall hpost hal hlo hhi hfree hw hstep
    have hdone : settleSteps (resumeStall c.val s) = storeDone c.val a w s := by
      rw [resumeStall_of_single c.isLt hstall hpost hal hlo hhi hfree, settleSteps_storeDone c.isLt a w hstep]
    refine ⟨_, congrArg Host.Outcome.next hdone, storeDone_everythingBut .., storeDone_readW _ a w hw,
      storeDone_sameOutside _ a w hw, ?_, fun m hm => ?_⟩
    · rw [core_storeDone c.isLt, if_pos rfl]
    · rw [core_storeDone c.isLt, if_neg hm]

end Sys2Proof.Machine
end

section
/-! PROOFS. The load point of a PWM channel (R425, R426, R428, R432 to R438): the pulse it emits, the record and the targets that
enter, the generators, the slew, and which of these a channel held low, safe, frozen or running takes. -/
namespace Sys2Proof.Machine
open Sys2Proof

/-! ### Dither and carry (R425, R426) -/

/-- R425: what the high times of `n` periods lack of `n` times the code stands in the dither accumulator. -/
theorem ditherSum_balance {a : Nat} {f : Nat → Nat} (hf : ∀ k, f (k + 1) = (f k + a % 128) % 128) (n : Nat) :
    128 * ((List.range n).map (fun k => a / 128 + (f k + a % 128) / 128)).sum + f n = f 0 + n * a := by
  induction n with
  | zero => simp
  | succ n ih =>
    rw [List.range_succ, List.map_append, List.sum_append_nat, List.map_singleton, List.sum_singleton, Nat.succ_mul n a]
    have hstep := hf n
    omega

theorem dither_lt {a : Nat} {f : Nat → Nat} (h0 : f 0 < 128) (hf : ∀ k, f (k + 1) = (f k + a % 128) % 128) : ∀ n, f n < 128
  | 0 => h0
  | n + 1 => hf n ▸ Nat.mod_lt _ (by decide)

/-- R425: 128 periods give the code exactly, the accumulator being the same multiple of 128 short before and after. -/
theorem ditherSum_128 {a : Nat} {f : Nat → Nat} (h0 : f 0 < 128) (hf : ∀ k, f (k + 1) = (f k + a % 128) % 128) :
    ((List.range 128).map (fun k => a / 128 + (f k + a % 128) / 128)).sum = a := by
  have hbal := ditherSum_balance hf 128
  have hlast := dither_lt h0 hf 128
  omega

namespace PwmChan

/-- R426: the code is below 65,536, so h′ lies in −1 to 513, and each of the three branches leaves a carry of at most one count. -/
theorem Emits.bounds {sum : Nat} {carry : Int} {y : PwmChan} (hy : y.Emits sum carry) (hlo : -1 ≤ carry) (hhi : carry ≤ 1)
    (hcode : y.applied < 65536) (hsum : sum < 128) :
    -1 ≤ y.carry ∧ y.carry ≤ 1 ∧ y.high ≠ 1 ∧ y.high ≠ 511 ∧ y.high ≤ 512 := by
  obtain ⟨h, hh, -, hhigh, hcarry⟩ := hy
  have hrange : -1 ≤ h ∧ h ≤ 513 := by omega
  split at hhigh
  · omega
  · split at hhigh <;> omega

/-- The clamp of R426 and its two exceptions, as three intervals of h′. -/
theorem clampInt_pulse (h : Int) :
    (if clampInt 0 512 h = 1 then 0 else if clampInt 0 512 h = 511 then 512 else clampInt 0 512 h) =
      if h ≤ 1 then 0 else if 511 ≤ h then 512 else h := by
  have hclamp : clampInt 0 512 h = if h < 0 then 0 else if 512 < h then 512 else h := rfl
  omega

theorem emit_emits (c : PwmChan) : c.emit.Emits c.dither c.carry := by
  have hpulse := clampInt_pulse (((c.applied / 128 + (c.dither + c.applied % 128) / 128 : Nat) : Int) + c.carry)
  refine ⟨_, rfl, rfl, ?_, ?_⟩
  · simp only [emit, hpulse]
    split
    · rfl
    · split <;> rfl
  · simp only [emit, hpulse]
    omega

/-! ### Slew (R434) -/

theorem slewTo_eq (c : PwmChan) : c.slewTo = { c with applied := c.slewTo.applied } := by
  unfold slewTo
  dsimp only
  split
  · rfl
  · split <;> rfl

theorem slewTo_of_zero {c : PwmChan} (h : c.recd.slew = 0) : c.slewTo.applied = c.held := by
  simp [slewTo, h]

theorem slewTo_up {c : PwmChan} (h : c.recd.slew ≠ 0) (hle : c.applied ≤ c.held) :
    c.slewTo.applied = min c.held (c.applied + c.recd.slew) := by
  simp only [slewTo, if_neg h]
  split
  · rfl
  · dsimp only
    omega

theorem slewTo_down {c : PwmChan} (h : c.recd.slew ≠ 0) (hlt : c.held < c.applied) :
    c.slewTo.applied = max c.held (c.applied - c.recd.slew) := by
  simp only [slewTo, if_neg h, if_neg (Nat.lt_asymm hlt)]

/-! ### Generators (R432) -/

theorem genStep_triangle_top {c : PwmChan} (hg : c.recd.gen = 1) (hr : c.rising = true) (h : c.recd.hi ≤ c.gen + c.recd.step) :
    c.genStep = { c with gen := c.recd.hi, rising := false } := by
  simp [genStep, hg, hr, h]

theorem genStep_triangle_up {c : PwmChan} (hg : c.recd.gen = 1) (hr : c.rising = true) (h : c.gen + c.recd.step < c.recd.hi) :
    c.genStep = { c with gen := c.gen + c.recd.step } := by
  simp [genStep, hg, hr, Nat.not_le.mpr h]

theorem genStep_triangle_bottom {c : PwmChan} (hg : c.recd.gen = 1) (hr : c.rising = false)
    (h : c.gen ≤ c.recd.lo + c.recd.step) : c.genStep = { c with gen := c.recd.lo, rising := true } := by
  simp [genStep, hg, hr, h]

theorem genStep_triangle_down {c : PwmChan} (hg : c.recd.gen = 1) (hr : c.rising = false)
    (h : c.recd.lo + c.recd.step < c.gen) : c.genStep = { c with gen := c.gen - c.recd.step } := by
  simp [genStep, hg, hr, Nat.not_le.mpr h]

theorem genStep_sawtooth {c : PwmChan} (hg : c.recd.gen = 2) :
    c.genStep.gen = if c.recd.hi < c.gen + c.recd.step then c.recd.lo else c.gen + c.recd.step := by
  simp only [genStep, hg]
  split <;> rfl

theorem genStep_noise_wait {c : PwmChan} (hg : c.recd.gen = 3) (h : c.ndivCnt + 1 < c.recd.ndiv) :
    c.genStep = { c with ndivCnt := c.ndivCnt + 1 } := by
  simp [genStep, hg, h]

theorem genStep_noise_advance {c : PwmChan} (hg : c.recd.gen = 3) (h : c.recd.ndiv ≤ c.ndivCnt + 1) :
    c.genStep = { c with ndivCnt := 0, lfsr := lfsrStep c.lfsr,
                         gen := c.recd.lo + (lfsrStep c.lfsr / 65536) * (c.recd.hi - c.recd.lo + 1) / 65536 } := by
  simp [genStep, hg, Nat.not_lt.mpr h]

/-- A generator changes only its own value, direction, LFSR and count. -/
theorem genStep_eq (c : PwmChan) :
    c.genStep = { c with gen := c.genStep.gen, rising := c.genStep.rising, lfsr := c.genStep.lfsr,
                         ndivCnt := c.genStep.ndivCnt } := by
  unfold genStep
  split
  · split
    · split <;> rfl
    · split <;> rfl
  · split <;> rfl
  · split <;> rfl

/-! ### The targets that enter (R428, R433) -/

/-- The latest target that arrived at least 1 µs before `now` (R428). -/
def due (now : Nat) (c : PwmChan) : Option (Nat × Nat) :=
  (c.arrivals.filter (fun a => decide (a.1 + 1000 ≤ now))).getLast?

/-- The targets still on their way at `now`. -/
def later (now : Nat) (c : PwmChan) : List (Nat × Nat) :=
  c.arrivals.filter (fun a => !decide (a.1 + 1000 ≤ now))

/-- The stages of a running load point before the slew: source and deglitcher. -/
def deglitch (now : Nat) (c : PwmChan) : PwmChan :=
  if c.recd.source = 3 then { c.genStep with target := c.genStep.gen, held := c.genStep.gen, fresh := false }
  else (c.arrive now).holdStep

theorem runPoint_stages (now : Nat) (c : PwmChan) : c.runPoint now = (c.deglitch now).slewTo.emit := rfl

theorem arrive_of_none {now : Nat} {c : PwmChan} (h : c.due now = none) : c.arrive now = { c with arrivals := c.later now } := by
  unfold due at h
  simp only [arrive, h, later]

theorem arrive_of_due {now u v : Nat} {c : PwmChan} (h : c.due now = some (u, v)) :
    c.arrive now = ({ c with arrivals := c.later now } : PwmChan).enter v := by
  unfold due at h
  simp only [arrive, h, later]

theorem holdStep_of_none {c : PwmChan} (h : c.hold = none) : c.holdStep = c := by
  simp [holdStep, h]

theorem holdStep_of_last {c : PwmChan} {h : PwmHold} (hc : c.hold = some h) (hl : h.left ≤ 1) :
    c.holdStep = { c with held := h.code, hold := none } := by
  simp [holdStep, hc, hl]

theorem holdStep_of_more {c : PwmChan} {h : PwmHold} (hc : c.hold = some h) (hl : 1 < h.left) :
    c.holdStep = { c with hold := some { h with left := h.left - 1 } } := by
  simp [holdStep, hc, Nat.not_le.mpr hl]

theorem enter_of_fresh {c : PwmChan} {t : Nat} (h : c.fresh = true) :
    c.enter t = { c with target := t, held := t, hold := none, fresh := false } := by
  simp [enter, h]

theorem enter_of_within {c : PwmChan} {t : Nat} (hf : c.fresh = false)
    (h : t / 4096 = c.held / 4096 ∨ c.recd.holdPeriods = 0) :
    c.enter t = { c with target := t, held := t, hold := none,
                         cancelCnt := if c.hold.isSome then satInc 16 c.cancelCnt else c.cancelCnt } := by
  simp only [enter, hf, crosses]
  rcases h with h | h <;> simp [h]

theorem enter_of_crossing {c : PwmChan} {t : Nat} (hf : c.fresh = false) (hx : t / 4096 ≠ c.held / 4096)
    (hp : c.recd.holdPeriods ≠ 0) :
    c.enter t = { c with target := t, majorCnt := satInc 16 c.majorCnt,
                         hold := some ⟨t, (c.hold.map PwmHold.left).getD (c.recd.holdPeriods + 1)⟩ } := by
  simp only [enter, hf, crosses]
  cases c.hold <;> simp [hx, Nat.pos_of_ne_zero hp]

/-! ### What the deglitcher leaves, case by case -/

section
variable {now u v : Nat} {c : PwmChan}

theorem deglitch_generator (hs : c.recd.source = 3) :
    c.deglitch now = { c.genStep with target := c.genStep.gen, held := c.genStep.gen, fresh := false } := if_pos hs

theorem deglitch_target (hs : c.recd.source ≠ 3) : c.deglitch now = (c.arrive now).holdStep := if_neg hs

/-- No target enters: only a hold goes on. -/
theorem deglitch_of_none (hs : c.recd.source ≠ 3) (hd : c.due now = none) :
    c.deglitch now = ({ c with arrivals := c.later now } : PwmChan).holdStep := by
  rw [deglitch_target hs, arrive_of_none hd]

theorem deglitch_of_fresh (hs : c.recd.source ≠ 3) (hd : c.due now = some (u, v)) (hf : c.fresh = true) :
    c.deglitch now = { c with arrivals := c.later now, target := v, held := v, hold := none, fresh := false } := by
  rw [deglitch_target hs, arrive_of_due hd, enter_of_fresh (by exact hf), holdStep_of_none rfl]

theorem deglitch_of_within (hs : c.recd.source ≠ 3) (hd : c.due now = some (u, v)) (hf : c.fresh = false)
    (h : v / 4096 = c.held / 4096 ∨ c.recd.holdPeriods = 0) :
    c.deglitch now = { c with arrivals := c.later now, target := v, held := v, hold := none,
                              cancelCnt := if c.hold.isSome then satInc 16 c.cancelCnt else c.cancelCnt } := by
  rw [deglitch_target hs, arrive_of_due hd, enter_of_within (by exact hf) (by exact h), holdStep_of_none rfl]

theorem deglitch_of_crossing (hs : c.recd.source ≠ 3) (hd : c.due now = some (u, v)) (hf : c.fresh = false)
    (hx : v / 4096 ≠ c.held / 4096) (hp : c.recd.holdPeriods ≠ 0) :
    c.deglitch now = ({ c with arrivals := c.later now, target := v, majorCnt := satInc 16 c.majorCnt
                               hold := some ⟨v, (c.hold.map PwmHold.left).getD (c.recd.holdPeriods + 1)⟩ } : PwmChan).holdStep := by
  rw [deglitch_target hs, arrive_of_due hd, enter_of_crossing (by exact hf) (by exact hx) (by exact hp)]

/-- The first crossing target starts a hold of HOLD_PERIODS further load points (R433). -/
theorem deglitch_of_crossing_first (hs : c.recd.source ≠ 3) (hd : c.due now = some (u, v)) (hf : c.fresh = false)
    (hx : v / 4096 ≠ c.held / 4096) (hp : c.recd.holdPeriods ≠ 0) (hh : c.hold = none) :
    c.deglitch now = { c with arrivals := c.later now, target := v, majorCnt := satInc 16 c.majorCnt,
                              hold := some ⟨v, c.recd.holdPeriods⟩ } := by
  rw [deglitch_of_crossing hs hd hf hx hp, hh]
  exact holdStep_of_more (h := ⟨v, c.recd.holdPeriods + 1⟩) rfl (Nat.succ_lt_succ (Nat.pos_of_ne_zero hp))

/-- A later crossing target at the hold's end enters at once (R433). -/
theorem deglitch_of_crossing_last {h : PwmHold} (hs : c.recd.source ≠ 3) (hd : c.due now = some (u, v)) (hf : c.fresh = false)
    (hx : v / 4096 ≠ c.held / 4096) (hp : c.recd.holdPeriods ≠ 0) (hh : c.hold = some h) (hl : h.left ≤ 1) :
    c.deglitch now = { c with arrivals := c.later now, target := v, majorCnt := satInc 16 c.majorCnt, held := v,
                              hold := none } := by
  rw [deglitch_of_crossing hs hd hf hx hp, hh]
  exact holdStep_of_last (h := ⟨v, h.left⟩) rfl hl

/-- A later crossing target replaces the pending code, and the hold keeps its end (R433). -/
theorem deglitch_of_crossing_more {h : PwmHold} (hs : c.recd.source ≠ 3) (hd : c.due now = some (u, v)) (hf : c.fresh = false)
    (hx : v / 4096 ≠ c.held / 4096) (hp : c.recd.holdPeriods ≠ 0) (hh : c.hold = some h) (hl : 1 < h.left) :
    c.deglitch now = { c with arrivals := c.later now, target := v, majorCnt := satInc 16 c.majorCnt,
                              hold := some ⟨v, h.left - 1⟩ } := by
  rw [deglitch_of_crossing hs hd hf hx hp, hh]
  exact holdStep_of_more (h := ⟨v, h.left⟩) rfl hl

end

/-! ### What the stages of a load point leave as it was -/

theorem enter_eq (c : PwmChan) (t : Nat) :
    c.enter t = { c with target := t, held := (c.enter t).held, hold := (c.enter t).hold, fresh := (c.enter t).fresh,
                         majorCnt := (c.enter t).majorCnt, cancelCnt := (c.enter t).cancelCnt } := by
  unfold enter
  dsimp only
  split
  · rfl
  · split <;> rfl

theorem holdStep_eq (c : PwmChan) : c.holdStep = { c with held := c.holdStep.held, hold := c.holdStep.hold } := by
  unfold holdStep
  split
  · rfl
  · split <;> rfl

/-- The record, the fault, the staged code, A, Σ and C are as they were. -/
structure OutputKept (x y : PwmChan) : Prop where
  recd : y.recd = x.recd
  newRec : y.newRec = x.newRec
  fault : y.fault = x.fault
  code : y.code = x.code
  applied : y.applied = x.applied
  dither : y.dither = x.dither
  carry : y.carry = x.carry

theorem OutputKept.trans {x y z : PwmChan} (h : OutputKept x y) (h' : OutputKept y z) : OutputKept x z :=
  ⟨h'.recd.trans h.recd, h'.newRec.trans h.newRec, h'.fault.trans h.fault, h'.code.trans h.code, h'.applied.trans h.applied,
    h'.dither.trans h.dither, h'.carry.trans h.carry⟩

theorem genStep_kept (c : PwmChan) : OutputKept c c.genStep := by
  rw [genStep_eq]
  exact ⟨rfl, rfl, rfl, rfl, rfl, rfl, rfl⟩

theorem enter_kept (c : PwmChan) (t : Nat) : OutputKept c (c.enter t) := by
  rw [enter_eq]
  exact ⟨rfl, rfl, rfl, rfl, rfl, rfl, rfl⟩

theorem holdStep_kept (c : PwmChan) : OutputKept c c.holdStep := by
  rw [holdStep_eq]
  exact ⟨rfl, rfl, rfl, rfl, rfl, rfl, rfl⟩

theorem arrive_kept (now : Nat) (c : PwmChan) : OutputKept c (c.arrive now) := by
  have hlater : OutputKept c { c with arrivals := c.later now } := ⟨rfl, rfl, rfl, rfl, rfl, rfl, rfl⟩
  cases hd : c.due now with
  | none =>
    rw [arrive_of_none hd]
    exact hlater
  | some a =>
    rw [arrive_of_due hd]
    exact hlater.trans (enter_kept ..)

theorem deglitch_kept (now : Nat) (c : PwmChan) : OutputKept c (c.deglitch now) := by
  by_cases hs : c.recd.source = 3
  · rw [deglitch_generator hs]
    obtain ⟨h1, h2, h3, h4, h5, h6, h7⟩ := genStep_kept c
    exact ⟨h1, h2, h3, h4, h5, h6, h7⟩
  · rw [deglitch_target hs]
    exact (arrive_kept now c).trans (holdStep_kept _)

theorem arrive_arrivals (now : Nat) (c : PwmChan) : (c.arrive now).arrivals = c.later now := by
  cases hd : c.due now with
  | none => rw [arrive_of_none hd]
  | some a =>
    rw [arrive_of_due hd]
    exact congrArg arrivals (enter_eq ..)

theorem deglitch_arrivals {now : Nat} {c : PwmChan} (hs : c.recd.source ≠ 3) : (c.deglitch now).arrivals = c.later now := by
  rw [deglitch_target hs]
  exact (congrArg arrivals (holdStep_eq _)).trans (arrive_arrivals now c)

theorem deglitch_target_of_none {now : Nat} {c : PwmChan} (hs : c.recd.source ≠ 3) (hd : c.due now = none) :
    (c.deglitch now).target = c.target := by
  rw [deglitch_of_none hs hd, holdStep_eq]

theorem deglitch_target_of_due {now u v : Nat} {c : PwmChan} (hs : c.recd.source ≠ 3) (hd : c.due now = some (u, v)) :
    (c.deglitch now).target = v := by
  rw [deglitch_target hs, arrive_of_due hd]
  exact (congrArg target (holdStep_eq _)).trans (congrArg target (enter_eq ..))

theorem deglitch_majorCnt_of_crossing {now u v : Nat} {c : PwmChan} (hs : c.recd.source ≠ 3) (hd : c.due now = some (u, v))
    (hf : c.fresh = false) (hx : v / 4096 ≠ c.held / 4096) (hp : c.recd.holdPeriods ≠ 0) :
    (c.deglitch now).majorCnt = satInc 16 c.majorCnt := by
  rw [deglitch_of_crossing hs hd hf hx hp, holdStep_eq]

/-! ### A running load point -/

/-- After the deglitcher, a running load point changes only A, Σ, C and the high time. -/
theorem runPoint_eq (now : Nat) (c : PwmChan) :
    c.runPoint now = { c.deglitch now with applied := (c.runPoint now).applied, dither := (c.runPoint now).dither,
                                           carry := (c.runPoint now).carry, high := (c.runPoint now).high } := by
  rw [runPoint_stages, slewTo_eq]
  rfl

section
variable (now : Nat) (c : PwmChan)

@[simp] theorem runPoint_arrivals : (c.runPoint now).arrivals = (c.deglitch now).arrivals := by rw [runPoint_eq]
@[simp] theorem runPoint_target : (c.runPoint now).target = (c.deglitch now).target := by rw [runPoint_eq]
@[simp] theorem runPoint_held : (c.runPoint now).held = (c.deglitch now).held := by rw [runPoint_eq]
@[simp] theorem runPoint_hold : (c.runPoint now).hold = (c.deglitch now).hold := by rw [runPoint_eq]
@[simp] theorem runPoint_gen : (c.runPoint now).gen = (c.deglitch now).gen := by rw [runPoint_eq]
@[simp] theorem runPoint_rising : (c.runPoint now).rising = (c.deglitch now).rising := by rw [runPoint_eq]
@[simp] theorem runPoint_lfsr : (c.runPoint now).lfsr = (c.deglitch now).lfsr := by rw [runPoint_eq]
@[simp] theorem runPoint_ndivCnt : (c.runPoint now).ndivCnt = (c.deglitch now).ndivCnt := by rw [runPoint_eq]
@[simp] theorem runPoint_majorCnt : (c.runPoint now).majorCnt = (c.deglitch now).majorCnt := by rw [runPoint_eq]
@[simp] theorem runPoint_cancelCnt : (c.runPoint now).cancelCnt = (c.deglitch now).cancelCnt := by rw [runPoint_eq]

@[simp] theorem runPoint_recd : (c.runPoint now).recd = c.recd :=
  (congrArg recd (runPoint_eq now c)).trans (deglitch_kept now c).recd
@[simp] theorem runPoint_newRec : (c.runPoint now).newRec = c.newRec :=
  (congrArg newRec (runPoint_eq now c)).trans (deglitch_kept now c).newRec
@[simp] theorem runPoint_fault : (c.runPoint now).fault = c.fault :=
  (congrArg fault (runPoint_eq now c)).trans (deglitch_kept now c).fault
@[simp] theorem runPoint_code : (c.runPoint now).code = c.code :=
  (congrArg code (runPoint_eq now c)).trans (deglitch_kept now c).code

theorem runPoint_emits : (c.runPoint now).Emits c.dither c.carry := by
  have hdither : (c.deglitch now).slewTo.dither = c.dither := (congrArg dither (slewTo_eq _)).trans (deglitch_kept now c).dither
  have hcarry : (c.deglitch now).slewTo.carry = c.carry := (congrArg carry (slewTo_eq _)).trans (deglitch_kept now c).carry
  rw [← hdither, ← hcarry]
  exact emit_emits _

end

section
variable {now : Nat} {c : PwmChan}

theorem runPoint_applied_of_zero (h : c.recd.slew = 0) : (c.runPoint now).applied = (c.runPoint now).held := by
  rw [← (deglitch_kept now c).recd] at h
  exact (slewTo_of_zero h).trans (runPoint_held now c).symm

theorem runPoint_applied_up (h : c.recd.slew ≠ 0) (hle : c.applied ≤ (c.runPoint now).held) :
    (c.runPoint now).applied = min (c.runPoint now).held (c.applied + c.recd.slew) := by
  obtain ⟨hrecd, -, -, -, happlied, -, -⟩ := deglitch_kept now c
  have hslew := slewTo_up (c := c.deglitch now) (by rwa [hrecd]) (by rwa [happlied, ← runPoint_held])
  rwa [hrecd, happlied, ← runPoint_held] at hslew

theorem runPoint_applied_down (h : c.recd.slew ≠ 0) (hlt : (c.runPoint now).held < c.applied) :
    (c.runPoint now).applied = max (c.runPoint now).held (c.applied - c.recd.slew) := by
  obtain ⟨hrecd, -, -, -, happlied, -, -⟩ := deglitch_kept now c
  have hslew := slewTo_down (c := c.deglitch now) (by rwa [hrecd]) (by rwa [happlied, ← runPoint_held])
  rwa [hrecd, happlied, ← runPoint_held] at hslew

end

/-! ### The record of the last APPLY (R438) -/

section
variable {safe : Nat} {c : PwmChan} {r : PwmRec}

theorem takeRec_of_none (h : c.newRec = none) : c.takeRec safe = c := by
  simp [takeRec, h]

theorem takeRec_of_same (h : c.newRec = some r) (hr : r = c.recd) :
    c.takeRec safe = { c with newRec := none, fault := if c.fault = some 3 then none else c.fault } := by
  simp [takeRec, h, hr]

theorem takeRec_of_changed (h : c.newRec = some r) (hr : r ≠ c.recd) :
    c.takeRec safe = ({ c with recd := r, newRec := none, arrivals := [],
                               fault := if c.fault = some 3 then none else c.fault } : PwmChan).restart safe := by
  simp [takeRec, h, hr]

theorem takeRec_of_some (h : c.newRec = some r) :
    (c.takeRec safe).recd = r ∧ (c.takeRec safe).fault = if c.fault = some 3 then none else c.fault := by
  by_cases hr : r = c.recd
  · rw [takeRec_of_same h hr]
    exact ⟨hr.symm, rfl⟩
  · rw [takeRec_of_changed h hr]
    exact ⟨rfl, rfl⟩

theorem takeRec_newRec_code (safe : Nat) (c : PwmChan) : (c.takeRec safe).newRec = none ∧ (c.takeRec safe).code = c.code := by
  cases h : c.newRec with
  | none =>
    rw [takeRec_of_none h]
    exact ⟨h, rfl⟩
  | some r =>
    by_cases hr : r = c.recd
    · rw [takeRec_of_same h hr]
      exact ⟨rfl, rfl⟩
    · rw [takeRec_of_changed h hr]
      exact ⟨rfl, rfl⟩

end

/-- The channel as the load point finds it: in UPDATE no record enters. -/
def atLoad (s : State) (safe : Nat) (c : PwmChan) : PwmChan :=
  if s.mode.mode = .update then c else c.takeRec safe

theorem atLoad_update {s : State} (h : s.mode.mode = .update) (safe : Nat) (c : PwmChan) : c.atLoad s safe = c := if_pos h

theorem atLoad_running {s : State} (h : s.mode.mode ≠ .update) (safe : Nat) (c : PwmChan) :
    c.atLoad s safe = c.takeRec safe := if_neg h

theorem atLoad_code (s : State) (safe : Nat) (c : PwmChan) : (c.atLoad s safe).code = c.code := by
  unfold atLoad
  split
  · rfl
  · exact (takeRec_newRec_code safe c).2

/-! ### A safe load point (R435) -/

section
variable (now safe : Nat) (c : PwmChan)

/-- The safe code enters whole, with Σ and C cleared unless they were cleared before. -/
theorem safePoint_eq :
    c.safePoint now safe =
      ({ c.absorb now with held := safe, applied := safe, hold := none, safeIn := true
                           dither := if c.safeIn then c.dither else 0
                           carry := if c.safeIn then c.carry else 0 } : PwmChan).emit := by
  obtain ⟨_, _, _, _, _, _, _, _, _, _, _, _, _, _, _, _, _, safeIn, _⟩ := c
  cases safeIn <;> rfl

theorem safePoint_emits :
    (c.safePoint now safe).Emits (if c.safeIn then c.dither else 0) (if c.safeIn then c.carry else 0) := by
  rw [safePoint_eq]
  exact emit_emits _

end

end PwmChan

/-! ### The load point of one channel -/

theorem chan_modChan (s : State) (a b : Nat) (f : PwmChan → PwmChan) :
    chan (modChan a f s) b = if a = b ∧ a < 32 then f (chan s b) else chan s b := vget_vmod s.pwm.chans a b f PwmChan.init

theorem chan_pwmLoadPoint_other {n m : Nat} (h : m ≠ n) (s : State) : chan (pwmLoadPoint n s) m = chan s m :=
  (chan_modChan ..).trans (if_neg fun e => h e.1.symm)

section
variable {n : Nat} {s : State} {x1 x2 : PwmChan}

theorem chan_pwmLoadPoint_heldLow (hn : n < 32) (h : pwmHeldLow s = true) :
    chan (pwmLoadPoint n s) n = { chan s n with applied := 0, held := 0, hold := none, dither := 0, carry := 0, high := 0,
                                                safeIn := false, wasSafe := true } := by
  simp [pwmLoadPoint, chan_modChan, hn, h]

theorem chan_pwmLoadPoint_safe (hn : n < 32) (hl : pwmHeldLow s = false)
    (hx : x1 = (chan s n).atLoad s (vget s.pwm.safe n 0)) (h : pwmSafe s x1 = true ∨ x1.recd.inUse = false) :
    ∃ b, chan (pwmLoadPoint n s) n = { x1.safePoint s.time.uptime (vget s.pwm.safe n 0) with wasSafe := b } := by
  subst hx
  simp only [PwmChan.atLoad] at h ⊢
  simp only [pwmLoadPoint, chan_modChan, hn, hl, and_self, if_true, beq_iff_eq, Bool.false_eq_true, if_false]
  by_cases hs : pwmSafe s (if s.mode.mode = .update then chan s n else (chan s n).takeRec (vget s.pwm.safe n 0)) = true
  · exact ⟨true, if_pos hs⟩
  · exact ⟨false, (if_neg hs).trans (if_pos (by simpa [hs] using h))⟩

theorem chan_pwmLoadPoint_frozen (hn : n < 32) (hl : pwmHeldLow s = false) (hm : s.mode.mode = .update)
    (hs : pwmSafe s (chan s n) = false) (hu : (chan s n).recd.inUse = true) :
    chan (pwmLoadPoint n s) n = { (chan s n).emit with hold := none, wasSafe := (chan s n).wasSafe } := by
  simp [pwmLoadPoint, chan_modChan, hn, hl, hm, hs, hu]

/-- A running channel that was safe starts anew (R437) before its load point. -/
theorem chan_pwmLoadPoint_running (hn : n < 32) (hl : pwmHeldLow s = false) (hm : s.mode.mode ≠ .update)
    (hx : x1 = (chan s n).atLoad s (vget s.pwm.safe n 0)) (hs : pwmSafe s x1 = false) (hu : x1.recd.inUse = true)
    (hx2 : x2 = if x1.wasSafe then x1.restart (vget s.pwm.safe n 0) else x1) :
    chan (pwmLoadPoint n s) n = { x2.runPoint s.time.uptime with wasSafe := false, safeIn := false } := by
  rw [PwmChan.atLoad_running hm] at hx
  subst hx hx2
  simp [pwmLoadPoint, chan_modChan, hn, hl, hm, hs, hu]

/-- Whatever else a load point does, the record, the fault and the staged code are those it finds. -/
theorem chan_pwmLoadPoint_kept (hn : n < 32) (hl : pwmHeldLow s = false)
    (hx : x1 = (chan s n).atLoad s (vget s.pwm.safe n 0)) :
    (chan (pwmLoadPoint n s) n).recd = x1.recd ∧ (chan (pwmLoadPoint n s) n).newRec = x1.newRec ∧
      (chan (pwmLoadPoint n s) n).fault = x1.fault ∧ (chan (pwmLoadPoint n s) n).code = (chan s n).code := by
  rw [← PwmChan.atLoad_code s (vget s.pwm.safe n 0) (chan s n), ← hx]
  by_cases hsafe : pwmSafe s x1 = true ∨ x1.recd.inUse = false
  · obtain ⟨b, hy⟩ := chan_pwmLoadPoint_safe hn hl hx hsafe
    rw [hy, PwmChan.safePoint_eq]
    exact ⟨rfl, rfl, rfl, rfl⟩
  · simp only [not_or, Bool.not_eq_true, Bool.not_eq_false] at hsafe
    obtain ⟨hs, hu⟩ := hsafe
    by_cases hm : s.mode.mode = .update
    · rw [PwmChan.atLoad_update hm] at hx
      subst hx
      rw [chan_pwmLoadPoint_frozen hn hl hm hs hu]
      exact ⟨rfl, rfl, rfl, rfl⟩
    · rw [chan_pwmLoadPoint_running hn hl hm hx hs hu rfl]
      cases x1.wasSafe <;> simp [PwmChan.restart, PwmChan.genRestart]

end

/-! ### The obligation -/

/-- Settles O49: the load point's four cases (held low, safe or not IN_USE, frozen in UPDATE, running) each leave what its equation
above says; the running one is the deglitcher or the generator, then the slew and the pulse. -/
theorem loadPointsOfAChannel : Obligations.LoadPointsOfAChannel := by
  unfold Obligations.LoadPointsOfAChannel
  refine ⟨fun _ _ h0 hf => ditherSum_128 h0 hf, fun _ _ _ hy hlo hhi hcode hsum => hy.bounds hlo hhi hcode hsum, ?_⟩
  rintro n s x safe now rfl rfl rfl
  refine ⟨pwmLoadPoint n.val s, _, rfl, rfl, rfl, fun m hm => chan_pwmLoadPoint_other hm s, ?heldLow, ?awake⟩
  case heldLow =>
    intro h
    rw [chan_pwmLoadPoint_heldLow n.isLt h]
    exact ⟨rfl, rfl, rfl, rfl, rfl, rfl, rfl, rfl, rfl, rfl⟩
  case awake =>
  intro hl x1 hx
  obtain ⟨hrecd, hnewRec, hfault, hcode⟩ := chan_pwmLoadPoint_kept n.isLt hl hx
  refine ⟨hrecd, hnewRec, hfault, hcode, ?record, ?safe, ?frozen, ?running⟩
  case record =>
    intro hm
    rw [if_neg hm] at hx
    subst hx
    refine ⟨hnewRec.trans (PwmChan.takeRec_newRec_code ..).1, PwmChan.takeRec_of_none, fun r hr => ?_⟩
    obtain ⟨hr', hf'⟩ := PwmChan.takeRec_of_some (safe := vget s.pwm.safe n.val 0) hr
    refine ⟨hrecd.trans hr', fun h => hfault.trans (hf'.trans (if_pos h)), fun h => hfault.trans (hf'.trans (if_neg h)),
      fun h => ?_, fun h => ?_⟩
    · rw [PwmChan.takeRec_of_same hr h]
      exact ⟨rfl, rfl, rfl⟩
    · rw [PwmChan.takeRec_of_changed hr h]
      exact ⟨rfl, rfl, rfl, rfl, rfl⟩
  case safe =>
    intro h
    obtain ⟨b, hy⟩ := chan_pwmLoadPoint_safe n.isLt hl hx h
    have hemits := PwmChan.safePoint_emits s.time.uptime (vget s.pwm.safe n.val 0) x1
    rw [hy]
    refine ⟨?_, ?_, ?_, hemits⟩ <;> rw [PwmChan.safePoint_eq] <;> rfl
  case frozen =>
    intro hs hu hm
    rw [if_pos hm] at hx
    subst hx
    rw [chan_pwmLoadPoint_frozen n.isLt hl hm hs hu]
    exact ⟨rfl, rfl, rfl, rfl, rfl, rfl, PwmChan.emit_emits (chan s n.val)⟩
  case running =>
  intro hs hu hm x2 hx2
  rw [chan_pwmLoadPoint_running n.isLt hl hm hx hs hu hx2]
  refine ⟨?restart, PwmChan.runPoint_emits _ x2, PwmChan.runPoint_applied_of_zero, PwmChan.runPoint_applied_up,
    PwmChan.runPoint_applied_down, ?targets, ?generator⟩
  case restart =>
    intro hw
    rw [if_pos hw] at hx2
    subst hx2
    exact ⟨rfl, rfl, rfl, rfl, rfl, rfl, rfl, rfl⟩
  case targets =>
    intro hsrc
    refine ⟨(PwmChan.runPoint_arrivals ..).trans (PwmChan.deglitch_arrivals hsrc), ?_⟩
    rintro l rfl
    refine ⟨?none, ?due⟩
    case none =>
      intro hd
      refine ⟨(PwmChan.runPoint_target ..).trans (PwmChan.deglitch_target_of_none hsrc hd), fun hh => ?_,
        fun h hh => ⟨fun hleft => ?_, fun hleft => ?_⟩⟩
      · simp [PwmChan.deglitch_of_none hsrc hd, PwmChan.holdStep_of_none, hh]
      · simp [PwmChan.deglitch_of_none hsrc hd, PwmChan.holdStep_of_last (h := h), hh, hleft]
      · simp [PwmChan.deglitch_of_none hsrc hd, PwmChan.holdStep_of_more (h := h), hh, hleft]
    case due =>
      intro u v hd
      refine ⟨(PwmChan.runPoint_target ..).trans (PwmChan.deglitch_target_of_due hsrc hd), fun hf => ?fresh, fun hf hin => ?within,
        fun hf hx hp => ?crossing⟩
      case fresh => simp [PwmChan.deglitch_of_fresh hsrc hd hf]
      case within =>
        simp only [PwmChan.runPoint_held, PwmChan.runPoint_hold, PwmChan.runPoint_cancelCnt,
          PwmChan.deglitch_of_within hsrc hd hf hin, true_and]
        exact ⟨fun hh => if_neg (by simp [hh]), fun hh => if_pos (Option.isSome_iff_ne_none.mpr hh)⟩
      case crossing =>
        refine ⟨?_, fun hh => ?_, fun h hh => ⟨fun hleft => ?_, fun hleft => ?_⟩⟩
        · simp [PwmChan.deglitch_majorCnt_of_crossing hsrc hd hf hx hp]
        · simp [PwmChan.deglitch_of_crossing_first hsrc hd hf hx hp hh]
        · simp [PwmChan.deglitch_of_crossing_last hsrc hd hf hx hp hh hleft]
        · simp [PwmChan.deglitch_of_crossing_more hsrc hd hf hx hp hh hleft]
  case generator =>
    intro hsrc
    refine ⟨?held, ?target, ?arrivals, ?rising, ?falling, ?sawtooth, ?noise⟩
    case held => simp [PwmChan.deglitch_generator hsrc]
    case target => simp [PwmChan.deglitch_generator hsrc]
    case arrivals =>
      rw [PwmChan.runPoint_arrivals, PwmChan.deglitch_generator hsrc, PwmChan.genStep_eq]
    case rising =>
      refine fun hg hr => ⟨fun h => ?_, fun h => ?_⟩
      · simp [PwmChan.deglitch_generator hsrc, PwmChan.genStep_triangle_top hg hr h]
      · simp [PwmChan.deglitch_generator hsrc, PwmChan.genStep_triangle_up hg hr h, hr]
    case falling =>
      refine fun hg hr => ⟨fun h => ?_, fun h => ?_⟩
      · simp [PwmChan.deglitch_generator hsrc, PwmChan.genStep_triangle_bottom hg hr h]
      · simp [PwmChan.deglitch_generator hsrc, PwmChan.genStep_triangle_down hg hr h, hr]
    case sawtooth =>
      intro hg
      simp [PwmChan.deglitch_generator hsrc, PwmChan.genStep_sawtooth hg]
    case noise =>
      refine fun hg => ⟨fun h => ?_, fun h => ?_⟩
      · simp [PwmChan.deglitch_generator hsrc, PwmChan.genStep_noise_wait hg h]
      · simp [PwmChan.deglitch_generator hsrc, PwmChan.genStep_noise_advance hg h, lfsrStep]

end Sys2Proof.Machine
end

section
/-! PROOFS. The fabric (R474 to R482, R485, R486): the map of Plaza space, what a read answers in each region, and what each write
class does with a write. -/
namespace Sys2Proof.Machine
open Sys2Proof

/-! ### The map (Table 19.3) -/

theorem placeOf_ranges (a : Nat) : placeOf a = (if 0x40000000 ≤ a ∧ a ≤ 0x417FFFFF then .sram (a - 0x40000000)
    else if 0x60000000 ≤ a ∧ a ≤ 0x603FFFFF then (if nvmMapped (a - 0x60000000) then .nvm (a - 0x60000000) else .unmapped)
    else if 0x80000000 ≤ a ∧ a ≤ 0x80DFFFFF then .block ((a - 0x80000000) / 0x100000) ((a - 0x80000000) % 0x100000)
    else if 0x81000000 ≤ a ∧ a ≤ 0x817FFFFF then .core ((a - 0x81000000) / 0x100000) ((a - 0x81000000) % 0x100000)
    else .unmapped) := by
  have hsram : sramBase + sramSize = 0x417FFFFF + 1 := rfl
  have hnvm : nvmBase + nvmSize = 0x603FFFFF + 1 := rfl
  have hblock : blockBase 0 = 0x80000000 := rfl
  have hblocks : blockBase 14 = 0x80DFFFFF + 1 := rfl
  have hcore : coreBase 0 = 0x81000000 := rfl
  have hcores : coreBase 8 = 0x817FFFFF + 1 := rfl
  unfold placeOf
  rw [hsram, hnvm, hblock, hblocks, hcore, hcores]
  simp only [Bool.and_eq_true, decide_eq_true_eq, Nat.lt_succ_iff]
  unfold sramBase nvmBase
  rfl

/-- What a place in an engine or core block says of its address: where it lies in the block, and that the core exists. -/
def Place.Locates (a : Nat) : Place → Prop
  | .block b o => blockBase b + o = a
  | .core n o => n < 8 ∧ coreBase n + o = a
  | _ => True

theorem placeOf_locates (a : Nat) : (placeOf a).Locates a := by
  rw [placeOf_ranges]
  split
  · exact True.intro
  · split
    · cases nvmMapped (a - 0x60000000) <;> exact True.intro
    · split
      · show blockBase _ + _ = a
        unfold blockBase
        omega
      · split
        · show _ < 8 ∧ coreBase _ + _ = a
          unfold coreBase
          omega
        · exact True.intro

theorem core_lt_of_placeOf {a n o : Nat} (h : .core n o = placeOf a) : n < 8 := by
  have hplace := placeOf_locates a
  rw [← h] at hplace
  exact hplace.1

theorem blockBase_add_of_placeOf {a b o : Nat} (h : .block b o = placeOf a) : blockBase b + o = a := by
  have hplace := placeOf_locates a
  rw [← h] at hplace
  exact hplace

theorem placeServed_of_noOwner (s : State) {p : Place} (h : placeOwner p = none) : placeServed s p = true := by
  simp only [placeServed, h]

/-- R64, R486: an owner neither On, Gated nor in Duty serves nothing. -/
theorem placeServed_of_down {s : State} {p : Place} {n : Nat} (hown : placeOwner p = some n) (hon : (isl s n).st ≠ .on)
    (hgated : (isl s n).st ≠ .gated) (hduty : (isl s n).st ≠ .duty) : placeServed s p = false := by
  simp only [placeServed, hown, beq_eq_false_iff_ne.mpr hon, beq_eq_false_iff_ne.mpr hgated, beq_eq_false_iff_ne.mpr hduty, Bool.or_self]

/-! ### The commands -/

section
variable {s t : State} {i : Initiator} {addr : BitVec 40}

theorem exec_fabricRead {e : EccEvent} {x : State} {st : Status} {d : Word} (hissue : issues i s = true)
    (hnote : eccNote e addr.toNat s = x) (hread : fabRead i addr.toNat x = (⟨st, d⟩, t)) :
    exec (.fabricRead i addr e) s = .next (replyWith st d t) := by
  refine congrArg Host.Outcome.next ?_
  simp only [fabReadCmd, hissue, if_true, hnote, hread]

theorem eccNote_clean (a : Nat) (s : State) : eccNote .clean a s = s := ite_self ..

theorem exec_fabricRead_clean {st : Status} {d : Word} (hissue : issues i s = true) (hread : fabRead i addr.toNat s = (⟨st, d⟩, t)) :
    exec (.fabricRead i addr .clean) s = .next (replyWith st d t) :=
  exec_fabricRead hissue (eccNote_clean _ s) hread

theorem exec_fabricWrite {b : BitVec 8} {w : Word} {st : Status} (hissue : issues i s = true)
    (hwrite : fabWrite i addr.toNat b.toNat w s = (st, t)) : exec (.fabricWrite i addr b w) s = .next (settleSteps (replyWith st 0 t)) := by
  refine congrArg Host.Outcome.next ?_
  simp only [fabWriteCmd, hissue, if_true, hwrite]

theorem stepReq_of_cores (hstep : ∀ n, n < 8 → (core s n).stepReq = false) (hcores : t.cores = s.cores) :
    ∀ n, n < 8 → (core t n).stepReq = false := by
  intro n hn
  rw [core, hcores]
  exact hstep n hn

/-- Where no core has a STEP to make after the write, the reply is all that follows it. -/
theorem exec_fabricWrite_quiet {b : BitVec 8} {w : Word} {st : Status} (hissue : issues i s = true)
    (hwrite : fabWrite i addr.toNat b.toNat w s = (st, t)) (hstep : ∀ n, n < 8 → (core t n).stepReq = false) :
    exec (.fabricWrite i addr b w) s = .next (replyWith st 0 t) :=
  (exec_fabricWrite hissue hwrite).trans (congrArg Host.Outcome.next (settle_none _ hstep))

theorem exec_fabricRead_barred (e : EccEvent) (hissue : issues i s = false) : exec (.fabricRead i addr e) s = .next s :=
  congrArg Host.Outcome.next (if_neg (Bool.eq_false_iff.mp hissue))

theorem exec_fabricWrite_barred (b : BitVec 8) (w : Word) (hissue : issues i s = false) :
    exec (.fabricWrite i addr b w) s = .next s :=
  congrArg Host.Outcome.next (if_neg (Bool.eq_false_iff.mp hissue))

end

/-! ### What the ECC of a word shows (R485) -/

theorem mem_insNat {x i : Nat} {l : List Nat} : x ∈ insNat i l ↔ x = i ∨ x ∈ l := by
  induction l with
  | nil => simp only [insNat, List.mem_singleton, List.not_mem_nil, or_false]
  | cons k t ih =>
    unfold insNat
    split
    · exact List.mem_cons
    · split
      · next h => simp only [h, List.mem_cons, or_self_left]
      · simp only [List.mem_cons, ih, or_left_comm]

section
variable {s : State} {addr a : Nat} {p : Place} (ha : a = addr / 8 * 8) (hp : p = placeOf a)
include ha hp

theorem eccNote_uncorrectable (hmem : placeMem p = true) :
    eccNote .uncorrectable addr s = { s with ecc := insNat a s.ecc } := by
  subst ha hp
  simp only [eccNote, hmem, Bool.not_true, Bool.false_eq_true, if_false]

/-- A correctable error is counted in a core memory only. -/
theorem eccNote_correctable_core {n o : Nat} (hcore : p = .core n o) (hmem : placeMem p = true) (hgood : a ∉ s.ecc) :
    eccNote .correctable addr s = modCore n (fun k => { k with eccCorr := satInc 16 k.eccCorr }) s := by
  subst ha
  rw [hcore] at hp hmem
  have hcontains : s.ecc.contains (addr / 8 * 8) = false := by simpa only [List.contains_eq_mem, decide_eq_false_iff_not]
  simp only [eccNote, ← hp, hmem, hcontains, Bool.not_true, Bool.false_eq_true, if_false]

theorem eccNote_correctable_elsewhere (hcore : ∀ n o, p ≠ .core n o) : eccNote .correctable addr s = s := by
  subst ha hp
  simp only [eccNote]
  cases hplace : placeOf (addr / 8 * 8) with
  | core n o => exact absurd hplace (hcore n o)
  | _ => exact ite_self _

theorem eccNote_correctable_bad (hbad : a ∈ s.ecc) : eccNote .correctable addr s = s := by
  subst ha hp
  have hcontains : s.ecc.contains (addr / 8 * 8) = true := List.contains_iff_mem.mpr hbad
  simp only [eccNote, hcontains, if_true]
  cases placeOf (addr / 8 * 8) <;> exact ite_self _

end

/-! ### Reads by region -/

/-- A word of memory that reads as what is stored: outside the trust area (R477) and Table 19.4's reserved range. -/
def ReadableWord (p : Place) : Prop :=
  placeMem p = true ∧ (∀ o, p = .nvm o → 0x1000 ≤ o) ∧ ∀ o, p = .sram o → o < 0x395000 ∨ 0x3A0000 ≤ o

section
variable {s : State} {i : Initiator} {addr a : Nat} {p : Place} (ha : a = addr / 8 * 8) (hp : p = placeOf a)
include ha hp

theorem fabRead_down (hdown : placeServed s p = false) : fabRead i addr s = (⟨.retry, 0⟩, s) := by
  subst ha hp
  simp only [fabRead, hdown, Bool.not_false, if_true]

theorem fabRead_unmapped (hplace : p = .unmapped) : fabRead i addr s = (⟨.ok, 0⟩, s) := by
  subst ha
  simp only [fabRead, ← hp, hplace, placeServed_of_noOwner s (p := .unmapped) rfl, placeMem, Bool.not_true, Bool.false_eq_true, if_false]

/-- R477: the trust area reads 0. -/
theorem fabRead_trust {o : Nat} (hserved : placeServed s p = true) (hplace : p = .nvm o) (ho : o < 0x1000) :
    fabRead i addr s = (⟨.ok, 0⟩, s) := by
  subst ha
  rw [hplace] at hp hserved
  simp only [fabRead, ← hp, hserved, placeMem, Bool.not_true, Bool.false_eq_true, if_false, if_true, ho]

/-- R485: a word of memory answers its value, or ABORT where it holds an uncorrectable error. -/
theorem fabRead_memory (hserved : placeServed s p = true) (hword : ReadableWord p) :
    fabRead i addr s = if a ∈ s.ecc then (⟨.abort, 0⟩, s) else (⟨.ok, s.mem.readW a⟩, s) := by
  subst ha
  obtain ⟨hmem, htrust, hgap⟩ := hword
  simp only [fabRead, ← hp, hserved, hmem, Bool.not_true, Bool.false_eq_true, if_false, if_true, List.contains_iff_mem]
  cases p with
  | sram o =>
    have hout : ¬ ((0x395000 ≤ o && o < 0x3A0000) = true) := by
      have := hgap o rfl
      simp only [Bool.and_eq_true, decide_eq_true_eq]
      omega
    exact if_neg hout
  | nvm o => exact if_neg (Nat.not_lt.mpr (htrust o rfl))
  | core n o => rfl
  | block b o => exact Bool.noConfusion hmem
  | unmapped => exact Bool.noConfusion hmem

theorem fabRead_memory_good (hserved : placeServed s p = true) (hword : ReadableWord p) (hgood : a ∉ s.ecc) :
    fabRead i addr s = (⟨.ok, s.mem.readW a⟩, s) := (fabRead_memory ha hp hserved hword).trans (if_neg hgood)

theorem fabRead_memory_bad (hserved : placeServed s p = true) (hword : ReadableWord p) (hbad : a ∈ s.ecc) :
    fabRead i addr s = (⟨.abort, 0⟩, s) := (fabRead_memory ha hp hserved hword).trans (if_pos hbad)

theorem fabRead_block {b o : Nat} (hserved : placeServed s p = true) (hplace : p = .block b o) :
    fabRead i addr s = blockRead i b o s := by
  subst ha
  rw [hplace] at hp hserved
  simp only [fabRead, ← hp, hserved, placeMem, Bool.not_true, Bool.false_eq_true, if_false]

end

section
variable {s : State} {i : Initiator} {b o : Nat}

theorem blockRead_register {w : Word} (hb : b ∉ [2, 3]) (h : blockReg b o s = some w) :
    blockRead i b o s = (⟨.ok, w⟩, blockReadEffect b o s) := by
  obtain ⟨hb2, hb3⟩ : b ≠ 2 ∧ b ≠ 3 := by simpa only [List.mem_cons, List.not_mem_nil, or_false, not_or] using hb
  simp only [blockRead, if_neg hb2, if_neg hb3, h]

/-- R478: an offset that is no register reads its table's word, or 0. -/
theorem blockRead_noRegister (hb : b ∉ [2, 3]) (h : blockReg b o s = none) :
    blockRead i b o s = (⟨.ok, if tableOfs b o then s.mem.readW (blockBase b + o) else 0⟩, s) := by
  obtain ⟨hb2, hb3⟩ : b ≠ 2 ∧ b ≠ 3 := by simpa only [List.mem_cons, List.not_mem_nil, or_false, not_or] using hb
  simp only [blockRead, if_neg hb2, if_neg hb3, h]

/-- The blocks none of whose registers a fabric read clears (R480, R482). -/
theorem blockReadEffect_eq_self (s : State) (o : Nat) (hb : b ∈ [0, 1, 4, 5, 7, 8, 9]) : blockReadEffect b o s = s := by
  simp only [List.mem_cons, List.not_mem_nil, or_false] at hb
  rcases hb with rfl | rfl | rfl | rfl | rfl | rfl | rfl <;> rfl

/-- R481: each island reads its own ARC_SEL. -/
theorem blockRead_arcSel (s : State) (k : Fin 16) :
    blockRead (.island k) 2 8 s = (⟨.ok, BitVec.ofNat 64 (vget s.arc.arcSel k.val 0)⟩, s) := rfl

end

/-! ### Write classes (R475, R479) -/

/-- The places whose Scoped region does not serve an initiator (Tables 19.4 to 19.6). -/
def ScopedAgainst (i : Initiator) (p : Place) : Prop :=
  (∃ o, p = .sram o ∧ 0x520000 ≤ o ∧ o < 0x800000 ∧ i ≠ .imageLoader) ∨ (∃ o, p = .nvm o ∧ o < 0x20000 ∧ i ≠ .consentController) ∨
  (∃ o, p = .nvm o ∧ 0x300000 ≤ o ∧ i ≠ .logWriter) ∨ (∃ o, p = .block 1 o ∧ Machine.Initiator.isCore i = false) ∨
  (∃ n o, p = .core n o ∧ n < 2 ∧ o < 0xA0000 ∧ i ≠ .imageLoader ∧ i ≠ .decimation) ∨
  (∃ o, p = .sram o ∧ ((0x1000000 ≤ o ∧ o < 0x1200000) ∨ (0x1600000 ≤ o ∧ o < 0x1800000)) ∧ i ≠ .island 11)

/-- The words of memory in Open and Device regions, outside a locked range of the staging area. -/
def OpenWord (s : State) (a : Nat) (p : Place) : Prop :=
  (∃ o, p = .sram o ∧ (o < 0x520000 ∨ (0x800000 ≤ o ∧ o < 0x1000000) ∨ (0x1200000 ≤ o ∧ o < 0x1600000)) ∧ lockedAt s a = false) ∨
  (∃ o, p = .nvm o ∧ 0x20000 ≤ o ∧ o < 0x300000) ∨ (∃ n o, p = .core n o ∧ 2 ≤ n ∧ o < 0xA0000)

theorem writeClass_scoped {p : Place} {i : Initiator} {f : Initiator → Bool} (hw : scopedWriters p = some f) (hf : f i = false) :
    writeClass p i = .scoped := by
  unfold writeClass
  split
  · exact absurd hw (Option.some_ne_none f).symm
  · exact absurd hw (Option.some_ne_none f).symm
  · simp only [hw, hf, Bool.false_eq_true, if_false]

theorem writeClass_served {p : Place} {i : Initiator} {f : Initiator → Bool} (hw : scopedWriters p = some f) (hf : f i = true) :
    writeClass p i = .serve := by
  unfold writeClass
  split
  · exact absurd hw (Option.some_ne_none f).symm
  · exact absurd hw (Option.some_ne_none f).symm
  · simp only [hw, hf, if_true]

theorem scopedWriters_sram_images {o : Nat} (hlo : 0x520000 ≤ o) (hhi : o < 0x800000) :
    scopedWriters (.sram o) = some (fun i => i == .imageLoader) := by
  simp only [scopedWriters, hlo, hhi, decide_true, Bool.and_self, if_true]

theorem scopedWriters_sram_forecast {o : Nat} (ho : (0x1000000 ≤ o ∧ o < 0x1200000) ∨ (0x1600000 ≤ o ∧ o < 0x1800000)) :
    scopedWriters (.sram o) = some (fun i => i == .island 11) := by
  have himages : ¬ o < 0x800000 := by omega
  simp only [scopedWriters, himages, decide_false, Bool.and_false, Bool.false_eq_true, if_false, Bool.or_eq_true, Bool.and_eq_true,
    decide_eq_true_eq, ho, if_true]

theorem scopedWriters_sram_open {o : Nat} (ho : o < 0x520000 ∨ (0x800000 ≤ o ∧ o < 0x1000000) ∨ (0x1200000 ≤ o ∧ o < 0x1600000)) :
    scopedWriters (.sram o) = none := by
  have himages : ¬ (0x520000 ≤ o ∧ o < 0x800000) := by omega
  have hforecast : ¬ ((0x1000000 ≤ o ∧ o < 0x1200000) ∨ (0x1600000 ≤ o ∧ o < 0x1800000)) := by omega
  simp only [scopedWriters, Bool.or_eq_true, Bool.and_eq_true, decide_eq_true_eq, if_neg himages, if_neg hforecast]

theorem scopedWriters_nvm_consent {o : Nat} (ho : o < 0x20000) :
    scopedWriters (.nvm o) = some (fun i => i == .consentController) := if_pos ho

theorem scopedWriters_nvm_log {o : Nat} (ho : 0x300000 ≤ o) : scopedWriters (.nvm o) = some (fun i => i == .logWriter) :=
  (if_neg (by omega)).trans (if_pos ho)

theorem scopedWriters_nvm_open {o : Nat} (hlo : 0x20000 ≤ o) (hhi : o < 0x300000) : scopedWriters (.nvm o) = none :=
  (if_neg (by omega)).trans (if_neg (by omega))

theorem scopedWriters_core_metering {n o : Nat} (hn : n < 2) (ho : o < 0xA0000) :
    scopedWriters (.core n o) = some (fun i => i == .imageLoader || i == .decimation) := by
  simp only [scopedWriters, coreMemOfs, hn, ho, decide_true, Bool.and_self, if_true]

theorem scopedWriters_core_open {n : Nat} (o : Nat) (hn : 2 ≤ n) : scopedWriters (.core n o) = none := by
  simp only [scopedWriters, Nat.not_lt.mpr hn, decide_false, Bool.false_and, Bool.false_eq_true, if_false]

theorem writeClass_of_scopedAgainst {i : Initiator} {p : Place} (h : ScopedAgainst i p) : writeClass p i = .scoped := by
  rcases h with ⟨o, rfl, hlo, hhi, hi⟩ | ⟨o, rfl, ho, hi⟩ | ⟨o, rfl, ho, hi⟩ | ⟨o, rfl, hi⟩ | ⟨n, o, rfl, hn, ho, hload, hdec⟩ |
    ⟨o, rfl, ho, hi⟩
  · exact writeClass_scoped (scopedWriters_sram_images hlo hhi) (beq_eq_false_iff_ne.mpr hi)
  · exact writeClass_scoped (scopedWriters_nvm_consent ho) (beq_eq_false_iff_ne.mpr hi)
  · exact writeClass_scoped (scopedWriters_nvm_log ho) (beq_eq_false_iff_ne.mpr hi)
  · exact writeClass_scoped (f := Initiator.isCore) rfl hi
  · exact writeClass_scoped (scopedWriters_core_metering hn ho)
      (Bool.or_eq_false_iff.mpr ⟨beq_eq_false_iff_ne.mpr hload, beq_eq_false_iff_ne.mpr hdec⟩)
  · exact writeClass_scoped (scopedWriters_sram_forecast ho) (beq_eq_false_iff_ne.mpr hi)

section
variable {s : State} {i : Initiator} {addr a strobe : Nat} {p : Place} {w : Word} (ha : a = addr / 8 * 8) (hp : p = placeOf a)
include ha hp

theorem fabWrite_down (hdown : placeServed s p = false) : fabWrite i addr strobe w s = (.retry, s) := by
  subst ha hp
  simp only [fabWrite, hdown, Bool.not_false, if_true]

theorem fabWrite_readOnly (hserved : placeServed s p = true) (hclass : writeClass p i = .readOnly) :
    fabWrite i addr strobe w s = (.ok, s) := by
  subst ha hp
  simp only [fabWrite, hserved, hclass, Bool.not_true, Bool.false_eq_true, if_false]

theorem fabWrite_scoped_window (hserved : placeServed s p = true) (hclass : writeClass p .window = .scoped) :
    fabWrite .window addr strobe w s = (.refused, s) := by
  subst ha hp
  simp only [fabWrite, hserved, hclass, Bool.not_true, Bool.false_eq_true, if_false, beq_self_eq_true, if_true]

theorem fabWrite_scoped (hserved : placeServed s p = true) (hclass : writeClass p i = .scoped) (hi : i ≠ .window) :
    fabWrite i addr strobe w s = (.ok, countDrop p s) := by
  subst ha hp
  simp only [fabWrite, hserved, hclass, Bool.not_true, Bool.false_eq_true, if_false, beq_eq_false_iff_ne.mpr hi]

theorem fabWrite_serve (hserved : placeServed s p = true) (hclass : writeClass p i = .serve) :
    fabWrite i addr strobe w s = servedWrite i p a strobe w s := by
  subst ha hp
  simp only [fabWrite, hserved, hclass, Bool.not_true, Bool.false_eq_true, if_false]

/-- A write to an Open or Device word of memory, as the word takes it (R475, R485). -/
theorem fabWrite_openWord (hserved : placeServed s p = true) (hopen : OpenWord s a p) :
    fabWrite i addr strobe w s = memWrite a strobe w s := by
  rcases hopen with ⟨o, rfl, ho, hfree⟩ | ⟨o, rfl, hlo, hhi⟩ | ⟨n, o, rfl, hn, ho⟩
  · have hclass : writeClass (.sram o) i = .serve := by simp only [writeClass, scopedWriters_sram_open ho]
    rw [fabWrite_serve ha hp hserved hclass]
    exact if_neg (Bool.eq_false_iff.mp hfree)
  · have hclass : writeClass (.nvm o) i = .serve := by simp only [writeClass, scopedWriters_nvm_open hlo hhi]
    exact fabWrite_serve ha hp hserved hclass
  · have hclass : writeClass (.core n o) i = .serve := by simp only [writeClass, scopedWriters_core_open o hn]
    rw [fabWrite_serve ha hp hserved hclass]
    exact if_pos (decide_eq_true ho)

/-- R115: a write to a locked word of the staging area sets LOCK_HIT and is dropped. -/
theorem fabWrite_locked {o : Nat} (hplace : p = .sram o) (hlo : 0x800000 ≤ o) (hhi : o < 0x1000000) (hlock : lockedAt s a = true) :
    fabWrite i addr strobe w s = (.ok, { s with consent := { s.consent with lockHit := true } }) := by
  subst hplace
  have hclass : writeClass (.sram o) i = .serve := by
    simp only [writeClass, scopedWriters_sram_open (.inr (.inl ⟨hlo, hhi⟩))]
  rw [fabWrite_serve ha hp (placeServed_of_noOwner s rfl) hclass]
  exact if_pos hlock

/-- A whole-word write to a register of a block without tables. -/
theorem fabWrite_register {b o : Nat} (hserved : placeServed s p = true) (hplace : p = .block b o)
    (hclass : writeClass (.block b o) i = .serve) (htable : tableOfs b o = false) :
    fabWrite i addr 255 w s = blockRegWrite i b o w s := by
  subst hplace
  rw [fabWrite_serve ha hp hserved hclass]
  simp only [servedWrite, htable, Bool.false_eq_true, if_false, Nat.reduceMod, if_true]

end

/-! ### Dropped writes that are counted (R160, R416) -/

theorem countDrop_core (n o : Nat) (s : State) :
    countDrop (.core n o) s = modCore n (fun k => { k with writeDrop := satInc 16 k.writeDrop }) s := rfl

theorem countDrop_forecast (s : State) {o : Nat} (ho : 0x1000000 ≤ o) :
    countDrop (.sram o) s = { s with fc := { s.fc with writeDrop := satInc 8 s.fc.writeDrop } } := if_pos ho

theorem countDrop_sram_below (s : State) {o : Nat} (ho : o < 0x1000000) : countDrop (.sram o) s = s := if_neg (Nat.not_le.mpr ho)

theorem countDrop_mem (p : Place) (s : State) : (countDrop p s).mem = s.mem := (countDrop_only p s).mem (by decide)

theorem countDrop_ecc (p : Place) (s : State) : (countDrop p s).ecc = s.ecc := (countDrop_only p s).ecc (by decide)

theorem stepReq_countDrop (p : Place) (s : State) (m : Nat) : (core (countDrop p s) m).stepReq = (core s m).stepReq := by
  cases p with
  | core n o =>
    rw [countDrop_core, core_modCore]
    split <;> rfl
  | sram o =>
    rcases Nat.lt_or_ge o 0x1000000 with ho | ho
    · rw [countDrop_sram_below s ho]
    · rw [countDrop_forecast s ho]
      rfl
  | _ => rfl

/-! ### Bytes of a word written in part -/

/-- Bytes packed each in its own lane. -/
def packLanes (f : Nat → Nat) (n : Nat) : Nat := (List.range n).foldl (fun v j => v + f j * 2 ^ (8 * j)) 0

theorem packLanes_succ (f : Nat → Nat) (n : Nat) : packLanes f (n + 1) = packLanes f n + f n * 2 ^ (8 * n) := by
  simp only [packLanes, List.range_succ, List.foldl_append, List.foldl_cons, List.foldl_nil]

theorem packLanes_lt {f : Nat → Nat} (hf : ∀ j, f j < 256) (n : Nat) : packLanes f n < 2 ^ (8 * n) := by
  induction n with
  | zero => exact Nat.one_pos
  | succ n ih =>
    have htop : f n * 2 ^ (8 * n) ≤ 255 * 2 ^ (8 * n) := Nat.mul_le_mul_right _ (Nat.le_pred_of_lt (hf n))
    rw [packLanes_succ, Nat.mul_succ, Nat.pow_add]
    omega

/-- Each lane reads back the byte packed in it. -/
theorem packLanes_lane {f : Nat → Nat} (hf : ∀ j, f j < 256) {k n : Nat} (hk : k < n) : packLanes f n / 2 ^ (8 * k) % 256 = f k := by
  induction n with
  | zero => exact absurd hk (Nat.not_lt_zero k)
  | succ n ih =>
    rw [packLanes_succ]
    rcases Nat.lt_succ_iff_lt_or_eq.mp hk with hlt | rfl
    · have hsplit : f n * 2 ^ (8 * n) = 2 ^ (8 * k) * (256 * (f n * 2 ^ (8 * (n - k - 1)))) := by
        rw [show 8 * n = 8 * k + (8 + 8 * (n - k - 1)) by omega, Nat.pow_add, Nat.pow_add,
          Nat.mul_left_comm (f n), Nat.mul_left_comm (f n)]
      rw [hsplit, Nat.add_mul_div_left _ _ (Nat.two_pow_pos _), Nat.add_mul_mod_self_left, ih hlt]
    · rw [Nat.add_mul_div_right _ _ (Nat.two_pow_pos _), Nat.div_eq_of_lt (packLanes_lt hf k), Nat.zero_add, Nat.mod_eq_of_lt (hf k)]

theorem bits_byte (w : Word) (k : Nat) : bits w (8 * k + 7) (8 * k) = w.toNat / 2 ^ (8 * k) % 256 := by
  simp only [bits, show 8 * k + 7 + 1 - 8 * k = 8 by omega, Nat.reducePow]

theorem bits_byte_lt (w : Word) (k : Nat) : bits w (8 * k + 7) (8 * k) < 256 := by
  rw [bits_byte]
  exact Nat.mod_lt _ (by decide)

/-- The byte that a strobe leaves in each lane. -/
def mergedByte (strobe : Nat) (old new : Word) (j : Nat) : Nat :=
  if strobe.testBit j then bits new (8 * j + 7) (8 * j) else bits old (8 * j + 7) (8 * j)

theorem mergedByte_lt (strobe : Nat) (old new : Word) (j : Nat) : mergedByte strobe old new j < 256 := by
  unfold mergedByte
  split
  · exact bits_byte_lt new j
  · exact bits_byte_lt old j

theorem mergeWord_eq (strobe : Nat) (old new : Word) :
    mergeWord strobe old new = BitVec.ofNat 64 (packLanes (mergedByte strobe old new) 8) := rfl

theorem bits_mergeWord (strobe : Nat) (old new : Word) {k : Nat} (hk : k < 8) :
    bits (mergeWord strobe old new) (8 * k + 7) (8 * k) = mergedByte strobe old new k := by
  have hbyte := mergedByte_lt strobe old new
  rw [bits_byte, mergeWord_eq, BitVec.toNat_ofNat, Nat.mod_eq_of_lt (packLanes_lt hbyte 8), packLanes_lane hbyte hk]

/-! ### A word of memory written (R485) -/

theorem strobe_ne_all {b : BitVec 8} (hb : b ≠ 0xFF) : b.toNat % 256 ≠ 255 := by
  rw [Nat.mod_eq_of_lt b.isLt]
  exact fun h => hb (BitVec.eq_of_toNat_eq h)

theorem memWrite_part_bad {a : Nat} {b : BitVec 8} {s : State} (w : Word) (hb : b ≠ 0xFF) (hbad : a ∈ s.ecc) :
    memWrite a b.toNat w s = (.abort, s) :=
  (if_neg (strobe_ne_all hb)).trans (if_pos (List.contains_iff_mem.mpr hbad))

theorem memWrite_part {a : Nat} {b : BitVec 8} {s : State} (w : Word) (hb : b ≠ 0xFF) (hgood : a ∉ s.ecc) :
    memWrite a b.toNat w s = (.ok, { s with mem := s.mem.writeW a (mergeWord b.toNat (s.mem.readW a) w) }) :=
  (if_neg (strobe_ne_all hb)).trans (if_neg (fun h => hgood (List.contains_iff_mem.mp h)))

/-! ### What a reply leaves -/

theorem core_modCore_self {n : Nat} (hn : n < 8) (f : CoreState → CoreState) (s : State) : core (modCore n f s) n = f (core s n) :=
  (core_modCore ..).trans (if_pos ⟨rfl, hn⟩)

theorem core_modCore_of_ne {n m : Nat} (hm : m ≠ n) (f : CoreState → CoreState) (s : State) : core (modCore n f s) m = core s m :=
  (core_modCore ..).trans (if_neg fun h => hm h.1.symm)

theorem replyWith_modCore_everythingBut (st : Status) (d : Word) (n : Nat) (f : CoreState → CoreState) (s : State) :
    EverythingBut [.cores, .coresRest, .reply] s (replyWith st d (modCore n f s)) :=
  ((modCore_only n f s).everythingBut _).trans ((replyWith_only st d _).everythingBut _)

/-- A part that stands as it did need not be excepted. -/
theorem EverythingBut.of_same {q : Part} {ps : List Part} {s t : State} (h : EverythingBut (q :: ps) s t) (hq : q.Same s t) :
    EverythingBut ps s t := by
  refine ⟨h.1, fun p hp => ?_⟩
  by_cases hpq : p = q
  · rw [hpq]
    exact hq
  · exact h.2 p (by simp only [List.mem_cons, hpq, hp, or_self, not_false_eq_true])

theorem replyWith_memWrite_everythingBut {a strobe : Nat} {w : Word} {x : Status} {s t : State} (h : memWrite a strobe w s = (x, t))
    (st : Status) (d : Word) : EverythingBut [.ecc, .mem, .reply] s (replyWith st d t) := by
  have hwrite := memWrite_only a strobe w s
  rw [h] at hwrite
  exact (hwrite.everythingBut _).trans ((replyWith_only st d t).everythingBut _)

theorem replyWith_memWrite_everythingBut_mem {a strobe : Nat} {w : Word} {x : Status} {s : State} {m : Memory}
    (h : memWrite a strobe w s = (x, { s with mem := m })) (st : Status) (d : Word) :
    EverythingBut [.mem, .reply] s (replyWith st d { s with mem := m }) :=
  (replyWith_memWrite_everythingBut h st d).of_same rfl

/-! ### Reads of memory and of registers, as commands -/

section
variable {s : State} {i : Initiator} {addr : BitVec 40} {a : Nat} {p : Place} (hissue : issues i s = true)
  (ha : a = addr.toNat / 8 * 8) (hp : p = placeOf a) (hserved : placeServed s p = true)
include hissue ha hp hserved

theorem exec_fabricRead_correctable_core {n o : Nat} (hword : ReadableWord p) (hplace : p = .core n o) (hgood : a ∉ s.ecc) :
    exec (.fabricRead i addr .correctable) s =
      .next (replyWith .ok (s.mem.readW a) (modCore n (fun k => { k with eccCorr := satInc 16 k.eccCorr }) s)) :=
  exec_fabricRead hissue (eccNote_correctable_core ha hp hplace hword.1 hgood)
    (fabRead_memory_good (s := modCore n _ s) ha hp hserved hword hgood)

theorem exec_fabricRead_correctable_elsewhere (hword : ReadableWord p) (hplace : ∀ n o, p ≠ .core n o) (hgood : a ∉ s.ecc) :
    exec (.fabricRead i addr .correctable) s = .next (replyWith .ok (s.mem.readW a) s) :=
  exec_fabricRead hissue (eccNote_correctable_elsewhere ha hp hplace) (fabRead_memory_good ha hp hserved hword hgood)

theorem exec_fabricRead_correctable_bad (hword : ReadableWord p) (hbad : a ∈ s.ecc) :
    exec (.fabricRead i addr .correctable) s = .next (replyWith .abort 0 s) :=
  exec_fabricRead hissue (eccNote_correctable_bad ha hp hbad) (fabRead_memory_bad ha hp hserved hword hbad)

/-- The read that meets an uncorrectable error records it in the word it reads, and so ends with ABORT. -/
theorem exec_fabricRead_uncorrectable (hword : ReadableWord p) :
    exec (.fabricRead i addr .uncorrectable) s = .next (replyWith .abort 0 { s with ecc := insNat a s.ecc }) :=
  exec_fabricRead hissue (eccNote_uncorrectable ha hp hword.1)
    (fabRead_memory_bad (s := { s with ecc := insNat a s.ecc }) ha hp hserved hword (mem_insNat.mpr (.inl rfl)))

theorem exec_fabricRead_register {b o : Nat} {w : Word} (hplace : p = .block b o) (hb : b ∉ [2, 3]) (hreg : blockReg b o s = some w) :
    exec (.fabricRead i addr .clean) s = .next (replyWith .ok w (blockReadEffect b o s)) :=
  exec_fabricRead_clean hissue ((fabRead_block ha hp hserved hplace).trans (blockRead_register hb hreg))

theorem exec_fabricRead_noRegister {b o : Nat} (hplace : p = .block b o) (hb : b ∉ [2, 3]) (hreg : blockReg b o s = none) :
    exec (.fabricRead i addr .clean) s = .next (replyWith .ok (if tableOfs b o then s.mem.readW a else 0) s) := by
  rw [← blockBase_add_of_placeOf (hplace.symm.trans hp)]
  exact exec_fabricRead_clean hissue ((fabRead_block ha hp hserved hplace).trans (blockRead_noRegister hb hreg))

end

/-! ### Writes to an open word of memory -/

section
variable {s : State} {i : Initiator} {addr : BitVec 40} {a : Nat} {p : Place} {b : BitVec 8} (w : Word) (hissue : issues i s = true)
  (hstep : ∀ n, n < 8 → (core s n).stepReq = false) (ha : a = addr.toNat / 8 * 8) (hp : p = placeOf a)
  (hserved : placeServed s p = true) (hopen : OpenWord s a p)
include hissue hstep ha hp hserved hopen

theorem exec_fabricWrite_whole : exec (.fabricWrite i addr 0xFF w) s =
    .next (replyWith .ok 0 { s with mem := s.mem.writeW a w, ecc := s.ecc.filter (fun x => x ≠ a) }) := by
  have hwrite : fabWrite i addr.toNat (0xFF#8).toNat w s = _ := (fabWrite_openWord ha hp hserved hopen).trans (memWrite_word a w s)
  exact exec_fabricWrite_quiet hissue hwrite (stepReq_of_cores hstep rfl)

theorem exec_fabricWrite_part (hb : b ≠ 0xFF) (hgood : a ∉ s.ecc) : exec (.fabricWrite i addr b w) s =
    .next (replyWith .ok 0 { s with mem := s.mem.writeW a (mergeWord b.toNat (s.mem.readW a) w) }) :=
  exec_fabricWrite_quiet hissue ((fabWrite_openWord ha hp hserved hopen).trans (memWrite_part w hb hgood)) (stepReq_of_cores hstep rfl)

theorem exec_fabricWrite_part_bad (hb : b ≠ 0xFF) (hbad : a ∈ s.ecc) :
    exec (.fabricWrite i addr b w) s = .next (replyWith .abort 0 s) :=
  exec_fabricWrite_quiet hissue ((fabWrite_openWord ha hp hserved hopen).trans (memWrite_part_bad w hb hbad)) hstep

end

/-! ### The obligation -/

/-- Settles O54: a read or a write is located by the map, and its region's lemma above says what it answers and changes. -/
theorem fabricReadsAndWrites : Obligations.FabricReadsAndWrites := by
  unfold Obligations.FabricReadsAndWrites
  refine ⟨placeOf_ranges, ?_, fun s i addr hissue =>
    ⟨fun e => exec_fabricRead_barred e hissue, fun b w => exec_fabricWrite_barred b w hissue⟩⟩
  intro s i addr a p ha hp hissue
  refine ⟨?reads, ?writes⟩
  case reads =>
    intro ok hok
    obtain rfl : ok = fun d => replyWith .ok d s := funext hok
    refine ⟨?down, ?unmapped, fun hserved => ⟨?trust, ?memory, ?block, ?consent, ?kerb, ?arcSel⟩⟩
    case down =>
      rintro ⟨n, hown, hon, hgated, hduty⟩
      have hdown := placeServed_of_down hown hon hgated hduty
      exact ⟨exec_fabricRead_clean hissue (fabRead_down ha hp hdown), fun b w => exec_fabricWrite hissue (fabWrite_down ha hp hdown)⟩
    case unmapped => exact fun hplace => exec_fabricRead_clean hissue (fabRead_unmapped ha hp hplace)
    case trust => exact fun o hplace ho => exec_fabricRead_clean hissue (fabRead_trust ha hp hserved hplace ho)
    case memory =>
      intro hmem htrust hgap
      have hword : ReadableWord p := ⟨hmem, htrust, hgap⟩
      refine ⟨fun hgood => ⟨exec_fabricRead_clean hissue (fabRead_memory_good ha hp hserved hword hgood), ?correctable,
          ⟨_, exec_fabricRead_uncorrectable hissue ha hp hserved hword, rfl, fun x => mem_insNat⟩⟩,
        fun hbad => ⟨exec_fabricRead_clean hissue (fabRead_memory_bad ha hp hserved hword hbad),
          exec_fabricRead_correctable_bad hissue ha hp hserved hword hbad⟩⟩
      case correctable =>
        by_cases hcore : ∃ n o, p = .core n o
        · obtain ⟨n, o, hplace⟩ := hcore
          refine ⟨_, exec_fabricRead_correctable_core hissue ha hp hserved hword hplace hgood, rfl, rfl, rfl, ?_,
            fun hnot => absurd hplace (hnot n o)⟩
          intro m q hplace' hm
          obtain ⟨rfl, rfl⟩ := Place.core.inj (hplace.symm.trans hplace')
          exact ⟨core_modCore_self hm _ s, fun l hl => core_modCore_of_ne hl _ s, replyWith_modCore_everythingBut ..⟩
        · have hnot : ∀ n o, p ≠ .core n o := fun n o h => hcore ⟨n, o, h⟩
          exact ⟨_, exec_fabricRead_correctable_elsewhere hissue ha hp hserved hword hnot hgood, rfl, rfl, rfl,
            fun n o h => absurd h (hnot n o), fun _ => rfl⟩
    case block =>
      intro b o hplace hb
      refine ⟨fun hreg htable => ?zero, fun hreg htable => ?table, fun w hreg => ?register⟩
      case zero => simpa only [htable, Bool.false_eq_true, if_false] using exec_fabricRead_noRegister hissue ha hp hserved hplace hb hreg
      case table => simpa only [htable, if_true] using exec_fabricRead_noRegister hissue ha hp hserved hplace hb hreg
      case register =>
        refine ⟨_, exec_fabricRead_register hissue ha hp hserved hplace hb hreg, rfl, fun hkeep => ?_⟩
        rw [blockReadEffect_eq_self s o hkeep]
    case consent => exact fun o hplace ho => exec_fabricRead_register hissue ha hp hserved hplace (by decide) (if_pos ho)
    case kerb => exact fun o hplace ho => exec_fabricRead_register hissue ha hp hserved hplace (by decide) (if_pos ho)
    case arcSel =>
      rintro k rfl hplace
      exact exec_fabricRead_clean hissue ((fabRead_block ha hp hserved hplace).trans (blockRead_arcSel s k))
  case writes =>
    intro hstep hserved b w
    refine ⟨?ignored, ?dropped, ?opened, ?locked, ?consent, ?arcSel, ?reload⟩
    case ignored =>
      intro hplace
      refine exec_fabricWrite_quiet hissue ?_ hstep
      rcases hplace with rfl | ⟨o, rfl⟩ | ⟨o, rfl⟩
      · exact fabWrite_serve ha hp hserved rfl
      · exact fabWrite_readOnly ha hp hserved rfl
      · exact fabWrite_readOnly ha hp hserved rfl
    case dropped =>
      intro hshut
      have hclass := writeClass_of_scopedAgainst hshut
      refine ⟨?window, fun hi => ?counted⟩
      case window =>
        rintro rfl
        exact exec_fabricWrite_quiet hissue (fabWrite_scoped_window ha hp hserved hclass) hstep
      case counted =>
        refine ⟨_, exec_fabricWrite_quiet hissue (fabWrite_scoped ha hp hserved hclass hi)
          (fun n hn => (stepReq_countDrop p s n).trans (hstep n hn)), rfl, countDrop_mem p s, countDrop_ecc p s, ?_, ?_, ?_⟩
        · rintro n o rfl
          exact ⟨replyWith_modCore_everythingBut .., fun m hm => core_modCore_of_ne hm _ s,
            core_modCore_self (core_lt_of_placeOf hp) _ s⟩
        · rintro o rfl ho
          rw [countDrop_forecast s ho]
          rfl
        · rintro (⟨o, rfl, ho⟩ | ⟨o, rfl⟩ | ⟨o, rfl⟩)
          · rw [countDrop_sram_below s ho]
            rfl
          · rfl
          · rfl
    case opened =>
      intro hopen
      refine ⟨?whole, exec_fabricWrite_part_bad w hissue hstep ha hp hserved hopen, fun hb hgood hw => ?part⟩
      case whole =>
        rintro rfl hw
        refine ⟨_, exec_fabricWrite_whole w hissue hstep ha hp hserved hopen, rfl, Memory.readW_writeW a w hw,
          fun x hx => Memory.read_writeN_outside x 8 a w.toNat hw hx, fun x => ?_,
          (replyWith_memWrite_everythingBut (memWrite_word a w s) ..).mono (by decide)⟩
        exact List.mem_filter.trans (and_congr_right' decide_eq_true_iff)
      case part =>
        refine ⟨_, exec_fabricWrite_part w hissue hstep ha hp hserved hopen hb hgood, rfl, fun k hk => ?_,
          fun x hx => Memory.read_writeN_outside x 8 a _ hw hx,
          replyWith_memWrite_everythingBut_mem (memWrite_part w hb hgood) ..⟩
        exact (congrArg (fun v => bits v (8 * k + 7) (8 * k)) (Memory.readW_writeW a _ hw)).trans (bits_mergeWord _ _ w hk)
    case locked =>
      intro o hplace hlo hhi hlock
      exact exec_fabricWrite_quiet hissue (fabWrite_locked ha hp hplace hlo hhi hlock) (stepReq_of_cores hstep rfl)
    case consent =>
      rintro o hplace ho hcore rfl st t hwrite hquiet
      refine exec_fabricWrite_quiet hissue ?_ hquiet
      have hreg : blockRegWrite i 1 o w s = consentWrite .fw o w s := if_pos ho
      rw [← hwrite, ← hreg]
      exact fabWrite_register ha hp hserved hplace (writeClass_served (f := Initiator.isCore) rfl hcore) rfl
    case arcSel =>
      rintro k rfl hplace rfl
      exact exec_fabricWrite_quiet (b := 0xFF) hissue (fabWrite_register ha hp hserved hplace rfl rfl) (stepReq_of_cores hstep rfl)
    case reload =>
      rintro k rfl hplace rfl t rfl hquiet
      exact exec_fabricWrite_quiet hissue (fabWrite_register ha hp hserved hplace rfl rfl) hquiet

end Sys2Proof.Machine
end

section
/-! PROOFS. Supplies, balls and the test access port (R496, R497, R503, R504): what each rail's alarm does and what its clearing
undoes, the failed rail check, and what a TAP instruction loads, drives or leaves by a reset. -/
namespace Sys2Proof.Machine
open Sys2Proof

/-! ### An island changed, and the islands beside it -/

theorem isl_modIsl_self {i : Nat} (hi : i < 16) (f : Island → Island) (s : State) : isl (modIsl s i f) i = f (isl s i) :=
  (isl_modIsl ..).trans (if_pos ⟨rfl, hi⟩)

theorem isl_modIsl_of_ne {i j : Nat} (hj : j ≠ i) (f : Island → Island) (s : State) : isl (modIsl s i f) j = isl s j :=
  (isl_modIsl ..).trans (if_neg fun h => hj h.1.symm)

theorem modIsl_everythingBut (i : Nat) (f : Island → Island) (s : State) : EverythingBut [.isl, .islRest] s (modIsl s i f) :=
  (modIsl_only s i f).everythingBut _

/-- Every island but `i` stands in `t` as it does in `s`, but for doorbells its fence latched. -/
def OtherIslands (i : Nat) (s t : State) : Prop := ∀ j, j ≠ i → (isl t j).quiet = (isl s j).quiet

theorem OtherIslands.trans {i : Nat} {s x t : State} (h : OtherIslands i s x) (h' : OtherIslands i x t) : OtherIslands i s t :=
  fun j hj => (h' j hj).trans (h j hj)

theorem modIsl_otherIslands (i : Nat) (f : Island → Island) (s : State) : OtherIslands i s (modIsl s i f) :=
  fun _ hj => congrArg Island.quiet (isl_modIsl_of_ne hj f s)

theorem engineFenced_quiet (i j : Nat) (s : State) : (isl (engineFenced i s) j).quiet = (isl s j).quiet :=
  islQuiet_of_only (engineFenced_only i s) (by decide) j

theorem isl_latchIsl {i : Nat} (hi : i < 16) (s : State) : isl (latchIsl i s) i = { isl s i with latched := true } := by
  unfold latchIsl
  split
  · rename_i h
    rw [← h]
  · exact isl_modIsl_self hi _ s

theorem latchIsl_otherIslands (i : Nat) (s : State) : OtherIslands i s (latchIsl i s) := by
  unfold latchIsl
  split
  · exact fun _ _ => rfl
  · exact modIsl_otherIslands i (fun x => { x with latched := true }) s

theorem gapRecord_isl (i : Nat) (s : State) : (gapRecord i s).isl = s.isl := (gapRecord_only i s).isl (by decide)

/-! ### A fence with cause RESET (R64, R76) -/

theorem fenceIsl_otherIslands (i : Nat) (c : FenceCause) (s : State) : OtherIslands i s (fenceIsl i c s) := by
  have fenced : ∀ f, OtherIslands i s (engineFenced i (modIsl s i f)) := fun f =>
    (modIsl_otherIslands i f s).trans fun j _ => engineFenced_quiet i j _
  unfold fenceIsl
  split
  · exact fun _ _ => rfl
  · dsimp only
    split
    · split
      · exact fenced _
      · exact modIsl_otherIslands i _ s
    · split
      · exact fenced _
      · exact modIsl_otherIslands i _ s
    · exact modIsl_otherIslands i _ s

/-- A RESET fence keeps an island's fault bits; where no fence was in force it is in force now, and the release will reset. -/
def ResetFenced (x y : Island) : Prop :=
  y.latched = x.latched ∧ y.supplyAlarm = x.supplyAlarm ∧ y.faulted = x.faulted ∧
    (x.fence = none → y.fence = some .reset ∧ y.resetPending = true)

theorem ResetFenced.of_quiet {x y z : Island} (h : ResetFenced x y) (hz : z.quiet = y.quiet) : ResetFenced x z := by
  obtain ⟨-, hfence, -, -, -, hreset, -, -, hlatched, hfaulted, halarm, -, -, -⟩ := Island.of_quiet hz
  unfold ResetFenced
  rwa [hfence, hreset, hlatched, hfaulted, halarm]

theorem fenceIsl_resetFenced {i : Nat} (hpos : i ≠ 0) (hi : i < 16) (s : State) :
    ResetFenced (isl s i) (isl (fenceIsl i .reset s) i) := by
  have changed : ∀ f, ResetFenced (isl s i) (f (isl s i)) → ResetFenced (isl s i) (isl (modIsl s i f) i) := by
    intro f hf
    rwa [isl_modIsl_self hi]
  have fenced : ∀ f, ResetFenced (isl s i) (f (isl s i)) → ResetFenced (isl s i) (isl (engineFenced i (modIsl s i f)) i) :=
    fun f hf => (changed f hf).of_quiet (engineFenced_quiet i i _)
  have standing : ∀ {c : FenceCause} {y : Island}, (isl s i).fence = some c → y.latched = (isl s i).latched →
      y.supplyAlarm = (isl s i).supplyAlarm → y.faulted = (isl s i).faulted → ResetFenced (isl s i) y :=
    fun hf hl ha hd => ⟨hl, ha, hd, fun h => absurd (h.symm.trans hf) nofun⟩
  unfold fenceIsl
  rw [if_neg hpos]
  dsimp only
  split
  · refine fenced _ ?_
    exact ⟨rfl, rfl, rfl, fun _ => ⟨rfl, Bool.or_true _⟩⟩
  · rename_i hf
    split
    · refine fenced _ ?_
      exact standing hf rfl rfl rfl
    · refine changed _ ?_
      exact standing hf rfl rfl rfl
  · rename_i hf
    refine changed _ ?_
    exact standing hf rfl rfl rfl

/-! ### An island fault (R79) -/

/-- The island that a fault finds running: latched, marked and fenced, before its restart is counted. -/
def faultFenced (i : Nat) (s : State) : State := fenceIsl i .reset (modIsl (latchIsl i s) i (fun x => { x with faulted := true }))

/-- What an island fault can do: it only latches an island that is Held or faulted already, it marks an Off island for its next
power-up, and it fences any other island and counts the restart or holds the island. -/
theorem islandFault_cases (i : Nat) (s : State) :
    ((isl s i).st = .off ∧ islandFault i s = modIsl (latchIsl i s) i (fun x => { x with resetPending := true, recoverPending := true })) ∨
    ((isl s i).st ≠ .off ∧ ((isl s i).st = .held ∨ (isl s i).faulted = true) ∧ islandFault i s = latchIsl i s) ∨
    ((isl s i).st ≠ .off ∧ (isl s i).faulted = false ∧ ∃ f : Island → Island, (islandFault i s).isl = (modIsl (faultFenced i s) i f).isl ∧
      ∀ x, f x = { x with st := (f x).st, restarts := (f x).restarts, restartTimes := (f x).restartTimes }) := by
  by_cases hoff : (isl s i).st = .off
  · exact .inl ⟨hoff, by simp only [islandFault, hoff, beq_self_eq_true, if_true]⟩
  have hoff' : ((isl s i).st == .off) = false := beq_eq_false_iff_ne.mpr hoff
  by_cases hheld : (isl s i).st = .held
  · exact .inr (.inl ⟨hoff, .inl hheld, by simp only [islandFault, hheld, beq_self_eq_true, if_true]; rfl⟩)
  have hheld' : ((isl s i).st == .held) = false := beq_eq_false_iff_ne.mpr hheld
  cases hfault : (isl s i).faulted with
  | true => exact .inr (.inl ⟨hoff, .inr rfl, by simp only [islandFault, hoff', hheld', hfault, Bool.false_eq_true, if_true, if_false]⟩)
  | false =>
    refine .inr (.inr ⟨hoff, rfl, ?_⟩)
    simp only [islandFault, hoff', hheld', hfault, Bool.false_eq_true, if_false]
    split
    · exact ⟨fun x => { x with st := .held, restartTimes := recentRestarts s (isl s i) }, rfl, fun _ => rfl⟩
    · exact ⟨fun x => { x with restarts := min 15 (x.restarts + 1), restartTimes := recentRestarts s (isl s i) ++ [s.time.uptime] },
        gapRecord_isl i _, fun _ => rfl⟩

theorem isl_of_isl_eq {s t : State} (h : t.isl = s.isl) (j : Nat) : isl t j = isl s j :=
  congrArg (fun v => vget v j Island.init) h

theorem islandFault_otherIslands (i : Nat) (s : State) : OtherIslands i s (islandFault i s) := by
  have hlatch := latchIsl_otherIslands i s
  rcases islandFault_cases i s with ⟨-, h⟩ | ⟨-, -, h⟩ | ⟨-, -, f, h, -⟩
  · rw [h]
    exact hlatch.trans (modIsl_otherIslands i _ _)
  · rw [h]
    exact hlatch
  · intro j hj
    rw [isl_of_isl_eq h j]
    exact ((hlatch.trans (modIsl_otherIslands i _ _)).trans
      ((fenceIsl_otherIslands i .reset _).trans (modIsl_otherIslands i f _))) j hj

/-- What an island fault leaves of the island it strikes: latched, its supply alarm as it was; Off with no restart counted where it
was Off, and faulted behind a RESET fence where it ran unfenced. -/
def Struck (x y : Island) : Prop :=
  y.latched = true ∧ y.supplyAlarm = x.supplyAlarm ∧ (x.st = .off → y.st = .off ∧ y.restarts = x.restarts) ∧
    (x.st = .on → x.faulted = false → x.fence = none → y.faulted = true ∧ y.fence = some .reset ∧ y.resetPending = true)

/-- Doorbells latched before or after the fault make no difference to it. -/
theorem Struck.of_quiet {x x' y y' : Island} (h : Struck x y) (hx : x'.quiet = x.quiet) (hy : y'.quiet = y.quiet) : Struck x' y' := by
  obtain ⟨hst, hfence, -, hrestarts, -, -, -, -, -, hfaulted, halarm, -, -, -⟩ := Island.of_quiet hx
  obtain ⟨hst', hfence', -, hrestarts', -, hreset', -, -, hlatched', hfaulted', halarm', -, -, -⟩ := Island.of_quiet hy
  unfold Struck
  rwa [hst, hfence, hrestarts, hfaulted, halarm, hst', hfence', hrestarts', hreset', hlatched', hfaulted', halarm']

theorem faultFenced_resetFenced {i : Nat} (hpos : i ≠ 0) (hi : i < 16) (s : State) :
    ResetFenced { isl s i with latched := true, faulted := true } (isl (faultFenced i s) i) := by
  have h := fenceIsl_resetFenced hpos hi (modIsl (latchIsl i s) i (fun x => { x with faulted := true }))
  rwa [isl_modIsl_self hi, isl_latchIsl hi] at h

theorem islandFault_struck {i : Nat} (hpos : i ≠ 0) (hi : i < 16) (s : State) : Struck (isl s i) (isl (islandFault i s) i) := by
  rcases islandFault_cases i s with ⟨hoff, h⟩ | ⟨hoff, hquiet, h⟩ | ⟨hoff, -, f, h, hf⟩
  · rw [h, isl_modIsl_self hi, isl_latchIsl hi]
    exact ⟨rfl, rfl, fun _ => ⟨hoff, rfl⟩, fun hon => absurd (hoff.symm.trans hon) nofun⟩
  · rw [h, isl_latchIsl hi]
    refine ⟨rfl, rfl, fun h => absurd h hoff, fun hon hfault => ?_⟩
    rcases hquiet with hheld | hfaulted
    · exact absurd (hheld.symm.trans hon) nofun
    · exact absurd (hfaulted.symm.trans hfault) nofun
  · obtain ⟨hlatched, halarm, hfaulted, hfence⟩ := faultFenced_resetFenced hpos hi s
    rw [isl_of_isl_eq h i, isl_modIsl_self hi, hf]
    exact ⟨hlatched, halarm, fun h => absurd h hoff, fun _ _ hnone => ⟨hfaulted, hfence hnone⟩⟩

/-! ### The islands VDD_SRAM supplies: every island from NIGHT on (R503) -/

/-- A fault of each of the first `n` islands after KERB, in their order. -/
def faultIslands (n : Nat) (s : State) : State := (List.range n).foldl (fun s k => islandFault (k + 2) s) s

theorem faultIslands_succ (n : Nat) (s : State) : faultIslands (n + 1) s = islandFault (n + 2) (faultIslands n s) := by
  simp only [faultIslands, List.range_succ, List.foldl_append, List.foldl_cons, List.foldl_nil]

theorem faultIslands_quiet {j : Nat} (s : State) : ∀ {n : Nat}, j < 2 ∨ n + 2 ≤ j → (isl (faultIslands n s) j).quiet = (isl s j).quiet
  | 0, _ => rfl
  | n + 1, hj => by
    rw [faultIslands_succ]
    exact (islandFault_otherIslands (n + 2) _ j (by omega)).trans (faultIslands_quiet s (by omega))

theorem faultIslands_struck {j : Nat} (s : State) (h2 : 2 ≤ j) :
    ∀ {n : Nat}, n ≤ 14 → j < n + 2 → Struck (isl s j) (isl (faultIslands n s) j)
  | 0, _, hj => absurd hj (by omega)
  | n + 1, hn, hj => by
    rw [faultIslands_succ]
    rcases Nat.lt_or_ge j (n + 2) with hlt | hge
    · exact (faultIslands_struck s h2 (by omega) hlt).of_quiet rfl (islandFault_otherIslands (n + 2) _ j (by omega))
    · obtain rfl : j = n + 2 := by omega
      exact (islandFault_struck (by omega) (by omega) _).of_quiet (faultIslands_quiet s (.inr hge)).symm rfl

/-! ### NVM through a device reset (R15, R57) -/

/-- A filter that keeps every cell of an address keeps what is read there. -/
theorem Memory.read_filter {p : Host.Cell → Bool} {a : Nat} (hp : ∀ b, p (a, b) = true) (m : Memory) :
    Memory.read (m.filter p) a = m.read a := by
  induction m with
  | nil => rfl
  | cons c m ih =>
    obtain ⟨k, b⟩ := c
    by_cases hk : k = a
    · subst hk
      rw [List.filter_cons_of_pos (hp b), Memory.read, if_pos rfl, Memory.read, if_pos rfl]
    · by_cases hkeep : p (k, b) = true
      · rw [List.filter_cons_of_pos hkeep, Memory.read, if_neg hk, ih, Memory.read, if_neg hk]
      · rw [List.filter_cons_of_neg hkeep, ih, Memory.read, if_neg hk]

theorem deviceReset_read_nvm (cause : Nat) (s : State) {a : Nat} (hlo : nvmBase ≤ a) (hhi : a < nvmBase + nvmSize) :
    (deviceReset cause s).mem.read a = s.mem.read a :=
  Memory.read_filter (fun _ => by simp only [hlo, hhi, decide_true, Bool.and_self, Bool.or_true]) s.mem

theorem powerOn_read_nvm (s : State) {a : Nat} (hlo : nvmBase ≤ a) (hhi : a < nvmBase + nvmSize) :
    (powerOn s).mem.read a = s.mem.read a :=
  (Memory.read_filter (fun _ => decide_eq_true hlo) _).trans (deviceReset_read_nvm 0x01 s hlo hhi)

/-! ### Alarms noted and cleared (R503) -/

theorem mem_noteAlarm {r q : Rail} {s : State} : q ∈ (noteAlarm r s).pkg.alarms ↔ q = r ∨ q ∈ s.pkg.alarms := by
  simp only [noteAlarm]
  split
  · rename_i h
    have hr : r ∈ s.pkg.alarms := List.contains_iff_mem.mp h
    exact ⟨.inr, fun hq => hq.elim (fun e => e ▸ hr) id⟩
  · rw [List.mem_append, List.mem_singleton, or_comm]

/-- The state with the alarm of a rail taken off the list. -/
def dropAlarm (r : Rail) (s : State) : State := { s with pkg := { s.pkg with alarms := s.pkg.alarms.filter (· != r) } }

theorem mem_dropAlarm {r q : Rail} {s : State} : q ∈ (dropAlarm r s).pkg.alarms ↔ q ∈ s.pkg.alarms ∧ q ≠ r :=
  List.mem_filter.trans (and_congr_right' bne_iff_ne)

theorem dropAlarm_everythingBut (r : Rail) (s : State) : EverythingBut [.isl, .islRest, .pkg] s (dropAlarm r s) :=
  ⟨rfl, fun p hp => by
    cases p
    case pkg => exact absurd hp (by decide)
    all_goals rfl⟩

theorem dropAlarm_modIsl_everythingBut (r : Rail) (i : Nat) (f : Island → Island) (s : State) :
    EverythingBut [.isl, .islRest, .pkg] s (modIsl (dropAlarm r s) i f) :=
  (dropAlarm_everythingBut r s).trans ((modIsl_everythingBut i f _).mono (by decide))

theorem railIsland_bounds {r : Rail} {i : Nat} (h : railIsland r = some i) : 2 ≤ i ∧ i < 16 := by
  have hall : (railIsland r).all (fun i => decide (2 ≤ i) && decide (i < 16)) = true := by cases r <;> rfl
  simpa only [h, Option.all_some, Bool.and_eq_true, decide_eq_true_eq] using hall

section
variable {r : Rail} {i : Nat} {s : State}

theorem supplyAlarm_island (lost : Bool) (h : railIsland r = some i) :
    supplyAlarm r lost s = islandFault i (modIsl (noteAlarm r s) i (fun x => { x with supplyAlarm := true })) := by
  simp only [supplyAlarm, h]

theorem supplyAlarm_reset (lost : Bool) (h : r = .vddAon ∨ r = .vioAon ∨ r = .vddCore) :
    supplyAlarm r lost s = if lost then powerOn (dropAlarm r s) else deviceReset 0x05 (dropAlarm r s) := by
  rcases h with rfl | rfl | rfl <;> rfl

theorem supplyAlarm_vddaPll (lost : Bool) : supplyAlarm .vddaPll lost s = refclkLoss (noteAlarm .vddaPll s) := rfl

theorem supplyAlarm_vddKerb (lost : Bool) : supplyAlarm .vddKerb lost s = takeKerbFault 1 (noteAlarm .vddKerb s) := rfl

theorem supplyAlarm_vddSram (lost : Bool) : supplyAlarm .vddSram lost s = faultIslands 14 (noteAlarm .vddSram s) := rfl

/-- The last alarm of an island's rails clears the island's mark. -/
theorem supplyClear_last (h : railIsland r = some i) (hlast : ∀ q, q ∈ s.pkg.alarms → q ≠ r → railIsland q ≠ some i) :
    supplyClear r s = modIsl (dropAlarm r s) i (fun x => { x with supplyAlarm := false }) := by
  have hnone : ¬ (dropAlarm r s).pkg.alarms.any (fun x => railIsland x == some i) = true := by
    rw [List.any_eq_true]
    rintro ⟨q, hq, hqi⟩
    obtain ⟨hmem, hne⟩ := mem_dropAlarm.mp hq
    exact hlast q hmem hne (eq_of_beq hqi)
  unfold supplyClear
  simp only [h]
  exact if_neg hnone

theorem supplyClear_shared {q : Rail} (h : railIsland r = some i) (hq : railIsland q = some i) (hne : q ≠ r) (hmem : q ∈ s.pkg.alarms) :
    supplyClear r s = dropAlarm r s := by
  have hsome : (dropAlarm r s).pkg.alarms.any (fun x => railIsland x == some i) = true :=
    List.any_eq_true.mpr ⟨q, mem_dropAlarm.mpr ⟨hmem, hne⟩, beq_iff_eq.mpr hq⟩
  unfold supplyClear
  simp only [h]
  exact if_pos hsome

theorem supplyClear_noIsland (h : railIsland r = none) (hkerb : r ≠ .vddKerb) : supplyClear r s = dropAlarm r s := by
  unfold supplyClear
  simp only [h]
  exact if_neg (mt eq_of_beq hkerb)

theorem supplyClear_vddKerb :
    supplyClear .vddKerb s = modIsl (dropAlarm .vddKerb s) islKERB (fun x => { x with faulted := false }) := rfl

end

/-! ### The loss of REFCLK that a VDDA_PLL alarm acts as (R80, R503) -/

theorem refclkLoss_refclkLost (s : State) : (refclkLoss s).clock.refclkLost = true := by
  unfold refclkLoss
  dsimp only
  rw [(setAttn_only ..).clock (by decide), (markRefLost_only ..).clock (by decide), (meterRefLoss_only ..).clock (by decide)]
  rfl

/-- The relock waits until the alarm has cleared. -/
theorem refclkRelock_waits {s : State} (h : .vddaPll ∈ s.pkg.alarms) : refclkRelock s = s :=
  if_pos (by rw [List.contains_iff_mem.mpr h, Bool.or_true])

/-! ### The rail check (R504) -/

theorem railTimeout_checking {s : State} (hm : s.mode.mode = .bringup) (hstep : s.mode.step = 1) :
    railTimeout s = { s with pkg := { s.pkg with pwrEn := 0, resetOutN := false, railHold := true } } :=
  if_pos (by rw [hm, hstep]; rfl)

theorem railTimeout_elsewhere {s : State} (h : s.mode.mode ≠ .bringup ∨ s.mode.step ≠ 1) : railTimeout s = s :=
  if_neg (by rw [Bool.and_eq_true, beq_iff_eq, beq_iff_eq]; exact Classical.not_and_iff_not_or_not.mpr h)

theorem stepComplete_held {s : State} (x : BringIn) (h : s.pkg.railHold = true) : stepComplete x s = s :=
  if_pos (by simp only [h, Bool.or_true, Bool.true_or])

theorem railRetry_held {s : State} (h : s.pkg.railHold = true) (hm : s.mode.mode = .bringup) :
    railRetry s = { s with pkg := { s.pkg with railHold := false } } :=
  if_pos (by rw [h, hm]; rfl)

theorem railRetry_elsewhere {s : State} (h : s.pkg.railHold = false ∨ s.mode.mode ≠ .bringup) : railRetry s = s :=
  if_neg (by rw [Bool.and_eq_true, beq_iff_eq, ← Bool.not_eq_false]; exact Classical.not_and_iff_not_or_not.mpr (h.imp_left not_not_intro))

/-! ### The test access port (R497) -/

/-- What leaving EXTEST, CLAMP or HIGHZ leaves: the start of a cold bring-up, with the event log kept. -/
def LeftTheScan (s t : State) : Prop :=
  t.mode.mode = .bringup ∧ t.mode.step = 1 ∧ t.mode.warm = false ∧ t.log = s.log ∧ t.mode.entryCause = Config.tapResetCause.toNat

section
variable {s : State}

theorem tapLeave_inactive (h : tapActive s = false) : tapLeave s = s := if_neg (Bool.eq_false_iff.mp h)

theorem tapLeave_active (h : tapActive s = true) : tapLeave s = deviceReset Config.tapResetCause.toNat s := if_pos h

theorem tapLoad_leftTheScan (h : tapActive s = true) (i : TapInstr) (tdo : Nat) : LeftTheScan s (tapLoad i tdo (tapLeave s)) := by
  rw [tapLeave_active h]
  exact ⟨rfl, rfl, rfl, rfl, rfl⟩

/-- An instruction that drives or floats balls stays in force when it is loaded again. -/
theorem tapScan_again (keys : Bool) (h : tapActive s = true) : tapScan s.pkg.tap keys s = s :=
  if_pos (by rw [h, beq_self_eq_true, Bool.and_true])

theorem tapScan_other {i : TapInstr} (keys : Bool) (h : s.pkg.tap ≠ i ∨ tapActive s = false) :
    tapScan i keys s = if tapAllowed (tapLeave s) keys then tapLoad i 0 (tapLeave s) else tapLoad .bypass 0 (tapLeave s) :=
  if_neg (by rw [Bool.and_eq_true, beq_iff_eq, ← Bool.not_eq_false]; exact Classical.not_and_iff_not_or_not.mpr (h.imp_right not_not_intro))

theorem tapScan_leftTheScan {i : TapInstr} (keys : Bool) (h : tapActive s = true) (hi : s.pkg.tap ≠ i) :
    LeftTheScan s (tapScan i keys s) := by
  rw [tapScan_other keys (.inl hi)]
  split
  · exact tapLoad_leftTheScan h i 0
  · exact tapLoad_leftTheScan h .bypass 0

theorem tapAllowed_iff {keys : Bool} :
    tapAllowed s keys = true ↔ keys = true ∧ (s.mode.mode = .bringup ∨ s.mode.mode = .safestop) := by
  simp only [tapAllowed, Bool.and_eq_true, Bool.or_eq_true, beq_iff_eq]

theorem tapScan_allowed {i : TapInstr} {keys : Bool} (h : tapActive s = false) (hk : keys = true)
    (hm : s.mode.mode = .bringup ∨ s.mode.mode = .safestop) : tapScan i keys s = tapLoad i 0 s := by
  rw [tapScan_other keys (.inr h), tapLeave_inactive h, if_pos (tapAllowed_iff.mpr ⟨hk, hm⟩)]

theorem tapScan_barred {i : TapInstr} {keys : Bool} (h : tapActive s = false)
    (hbar : keys = false ∨ (s.mode.mode ≠ .bringup ∧ s.mode.mode ≠ .safestop)) : tapScan i keys s = tapLoad .bypass 0 (tapLeave s) := by
  have hno : ¬ tapAllowed s keys = true := by
    rw [tapAllowed_iff, Classical.not_and_iff_not_or_not, not_or, Bool.not_eq_true]
    exact hbar
  rw [tapScan_other keys (.inr h), tapLeave_inactive h, if_neg hno]

/-- EXTEST, CLAMP and HIGHZ are one operation at three instructions. -/
theorem exec_tapScan {keys : Bool} {c : Instr} {i : TapInstr}
    (hc : (c, i) ∈ [(Instr.extest keys, TapInstr.extest), (.clamp keys, .clamp), (.highz keys, .highz)]) :
    exec c s = .next (tapScan i keys s) := by
  simp only [List.mem_cons, Prod.mk.injEq, List.not_mem_nil, or_false] at hc
  rcases hc with ⟨rfl, rfl⟩ | ⟨rfl, rfl⟩ | ⟨rfl, rfl⟩ <;> rfl

/-- Every instruction of the TAP is one that leaves what was in force and loads itself, or one of EXTEST, CLAMP and HIGHZ. -/
theorem tapInstruction_cases {c : Instr} {b v : List Bool} {k : Bool}
    (hc : c ∈ [Instr.bypass, .idcode, .tapReset, .samplePreload b v, .extest k, .clamp k, .highz k]) :
    ((∀ i, (i, c) ∉ [(TapInstr.extest, Instr.extest k), (.clamp, .clamp k), (.highz, .highz k)]) ∧
      (tapActive s = true → ∃ t, exec c s = .next t ∧ LeftTheScan s t)) ∨
    ∃ i, exec c s = .next (tapScan i k s) ∧
      ∀ j, (j, c) ∈ [(TapInstr.extest, Instr.extest k), (.clamp, .clamp k), (.highz, .highz k)] ↔ j = i := by
  simp only [List.mem_cons, List.not_mem_nil, or_false] at hc
  rcases hc with rfl | rfl | rfl | rfl | rfl | rfl | rfl
  · exact .inl ⟨by simp, fun h => ⟨_, rfl, tapLoad_leftTheScan h _ _⟩⟩
  · exact .inl ⟨by simp, fun h => ⟨_, rfl, tapLoad_leftTheScan h _ _⟩⟩
  · exact .inl ⟨by simp, fun h => ⟨_, rfl, tapLoad_leftTheScan h _ _⟩⟩
  · exact .inl ⟨by simp, fun h => ⟨_, rfl, tapLoad_leftTheScan h .samplePreload (maskOf b)⟩⟩
  · exact .inr ⟨.extest, rfl, by simp⟩
  · exact .inr ⟨.clamp, rfl, by simp⟩
  · exact .inr ⟨.highz, rfl, by simp⟩

end

/-! ### The obligation -/

/-- Settles O55: each alarm, clearing, rail event and TAP instruction is what its lemma above says. -/
theorem suppliesBallsAndBoundaryScan : Obligations.SuppliesBallsAndBoundaryScan := by
  unfold Obligations.SuppliesBallsAndBoundaryScan
  intro s
  refine ⟨?alarm, ?clearLast, ?clearOther, ?clearKerb, ?railTimeout, ?railElsewhere, ?railRetry, ?retryElsewhere, ?mdio, rfl,
    ?tapInactive, ?tapActive⟩
  case alarm =>
    intro r lost
    refine ⟨noteAlarm r s, rfl, mem_noteAlarm.mpr (.inl rfl), fun q => mem_noteAlarm, ?island, ?pll, ?kerb, ?reset, ?sram⟩
    case island =>
      intro i hri
      have hrail : ∀ p ∈ [(Rail.vioMtr, (2 : Fin 16)), (.vioMot, 12), (.vddaMot, 12), (.vioIo, 15), (.vioXspi, 15), (.vioAud, 13),
          (.vddSds, 14), (.vddhSds, 14)], railIsland p.1 = some p.2.val := by decide
      have h : railIsland r = some i.val := hrail _ hri
      obtain ⟨h2, hi⟩ := railIsland_bounds h
      have hother : anyIslandFault i.val = islandFault i.val := by
        funext x
        exact (if_neg (by rw [islAON]; omega)).trans (if_neg (by rw [islKERB]; omega))
      obtain ⟨hlatched, halarm, -, -⟩ := islandFault_struck (by omega) hi (modIsl (noteAlarm r s) i.val (fun x => { x with supplyAlarm := true }))
      rw [isl_modIsl_self hi] at halarm
      exact ⟨_, _, congrArg Host.Outcome.next (supplyAlarm_island lost h), congrArg Host.Outcome.next (congrFun hother _),
        isl_modIsl_self hi _ _, fun j hj => isl_modIsl_of_ne hj _ _, modIsl_everythingBut .., hlatched, halarm⟩
    case pll =>
      rintro rfl
      have hpkg : (refclkLoss (noteAlarm .vddaPll s)).pkg = (noteAlarm .vddaPll s).pkg := (refclkLoss_only _).pkg (by decide)
      have hstands : Rail.vddaPll ∈ (refclkLoss (noteAlarm .vddaPll s)).pkg.alarms := hpkg ▸ mem_noteAlarm.mpr (.inl rfl)
      exact ⟨_, congrArg Host.Outcome.next (supplyAlarm_vddaPll lost), rfl, refclkLoss_refclkLost _,
        congrArg Host.Outcome.next (refclkRelock_waits hstands)⟩
    case kerb =>
      rintro rfl
      refine ⟨congrArg Host.Outcome.next (supplyAlarm_vddKerb lost), _, congrArg Host.Outcome.next (supplyAlarm_vddKerb lost), fun h => ?_⟩
      exact if_pos (by rw [Bool.or_eq_true, beq_iff_eq, beq_iff_eq]; exact h)
    case reset =>
      intro h
      refine ⟨_, congrArg Host.Outcome.next (supplyAlarm_reset lost h), ?_⟩
      cases lost with
      | true => exact ⟨rfl, rfl, rfl, rfl, rfl, rfl, fun a => powerOn_read_nvm _⟩
      | false => exact ⟨rfl, rfl, rfl, rfl, rfl, rfl, fun a => deviceReset_read_nvm _ _⟩
    case sram =>
      rintro rfl
      refine ⟨_, congrArg Host.Outcome.next (supplyAlarm_vddSram lost), faultIslands_quiet _ (by decide), faultIslands_quiet _ (by decide), ?_⟩
      intro i h2 hi
      obtain ⟨hlatched, -, hoff, hon⟩ := faultIslands_struck (noteAlarm .vddSram s) h2 (Nat.le_refl 14) hi
      exact ⟨hlatched, hoff, hon⟩
  case clearLast =>
    intro r i h hlast
    exact ⟨_, congrArg Host.Outcome.next (supplyClear_last h hlast), isl_modIsl_self (railIsland_bounds h).2 _ _,
      fun j hj => isl_modIsl_of_ne hj _ _, fun q => mem_dropAlarm, dropAlarm_modIsl_everythingBut ..⟩
  case clearOther =>
    intro r h
    have hdrop : supplyClear r s = dropAlarm r s := by
      rcases h with ⟨hnone, hkerb⟩ | ⟨q, i, hr, hq, hne, hmem⟩
      · exact supplyClear_noIsland hnone hkerb
      · exact supplyClear_shared hr hq hne hmem
    exact ⟨_, congrArg Host.Outcome.next hdrop, rfl, fun q => mem_dropAlarm⟩
  case clearKerb =>
    exact ⟨_, congrArg Host.Outcome.next supplyClear_vddKerb, fun h => (mem_dropAlarm.mp h).2 rfl, isl_modIsl_self (by decide) _ _,
      fun j hj => isl_modIsl_of_ne hj _ _, dropAlarm_modIsl_everythingBut ..⟩
  case railTimeout =>
    intro hm hstep
    refine ⟨congrArg Host.Outcome.next (railTimeout_checking hm hstep), ?_, fun x h => congrArg Host.Outcome.next (stepComplete_held x h)⟩
    simp only [portSilent, hm, beq_self_eq_true, Bool.or_true, Bool.and_self]
  case railElsewhere => exact fun h => congrArg Host.Outcome.next (railTimeout_elsewhere h)
  case railRetry => exact fun h hm => congrArg Host.Outcome.next (railRetry_held h hm)
  case retryElsewhere => exact fun h => congrArg Host.Outcome.next (railRetry_elsewhere h)
  case mdio =>
    intro v y
    have hreset : ∀ q, s.pkg.blvRstN = false → mdioPoll q v y s = s := fun q h => if_pos (by rw [h]; rfl)
    refine ⟨fun h => ?_, fun h q => congrArg Host.Outcome.next (hreset q h)⟩
    have hlive : ¬ (!s.pkg.blvRstN) = true := by rw [h]; decide
    exact ⟨congrArg Host.Outcome.next (if_neg hlive), congrArg Host.Outcome.next (if_neg hlive)⟩
  case tapInactive =>
    intro h
    have hleave := tapLeave_inactive h
    refine ⟨congrArg (fun x => Host.Outcome.next (tapLoad .bypass 0 x)) hleave, ?_, fun balls vals => ?_, fun keys c i hc => ?_⟩
    · rintro c (rfl | rfl) <;> exact congrArg (fun x => Host.Outcome.next (tapLoad .idcode (idcode s) x)) hleave
    · exact congrArg (fun x => Host.Outcome.next { tapLoad .samplePreload (maskOf balls) x with
        pkg := { (tapLoad .samplePreload (maskOf balls) x).pkg with preload := vals } }) hleave
    · rw [exec_tapScan hc]
      exact ⟨fun hk hm => congrArg Host.Outcome.next (tapScan_allowed h hk hm), fun hbar => congrArg Host.Outcome.next (tapScan_barred h hbar)⟩
  case tapActive =>
    intro h b v k c hc
    rcases tapInstruction_cases (s := s) hc with ⟨hnot, hleft⟩ | ⟨i, hexec, hiff⟩
    · exact ⟨fun _ => hleft h, fun hin => absurd hin (hnot _)⟩
    · refine ⟨fun hne => ⟨_, hexec, tapScan_leftTheScan k h (mt (hiff _).mpr hne)⟩, fun hin => ?_⟩
      rw [hexec, ← (hiff _).mp hin, tapScan_again k h]

end Sys2Proof.Machine
end
